-- ==== Sys2Proof/Word.lean ====
section
/-! DEFINITION. The word types: bytes, 32-bit register words (R369) and the sparse store in which the state keeps
everything that has an index. -/
namespace Sys2Proof

/-- A byte. -/
abbrev Byte := BitVec 8

/-- A register or window word (R369). -/
abbrev Word := BitVec 32

/-- A sparse map from an index to a value, kept in one canonical form: indexes strictly rising, and no entry equal to
what an unlisted index reads as. -/
abbrev Store (α : Type) := List (Nat × α)

end Sys2Proof
end

