-- ==== Sys2Proof/Syntax.lean ====
section
/-! DEFINITION. The commands of the block: one constructor per row of the table of operations and events. An operand
is what reaches the device from outside with that operation or event (a message, a packet, a written word, a measured
value); a mailbox command carries its whole message. -/
namespace Sys2Proof

/-- A mailbox request as its service receives it: header fields of Table MBX-2, TARGET split by Table HIER-5, and the
payload. `client` tells clients of one mailbox apart (R325): the origin fabric ID on MB5, a key of the source address
and port on MB4, 0 elsewhere. -/
structure Msg where
  mb : Fin 8
  flags : Byte
  alive : Byte
  seq : BitVec 16
  fid : BitVec 12
  cls : BitVec 4
  index : BitVec 16
  client : Nat
  payload : List Byte
  deriving DecidableEq, Repr

/-- TRAIN_RSP payload, Table PSL-6. -/
structure TrainRsp where
  tag : Byte
  protoRev : Byte
  present : Byte
  caps : Byte
  ta : BitVec 16
  f : BitVec 16
  geom : BitVec 32
  driverId : BitVec 32
  deriving DecidableEq, Repr

/-- Header of a fabric packet, Table FAB-1, without TYPE and LENGTH, which the command and its payload give. -/
structure FabHdr where
  dest : BitVec 12
  src : BitVec 12
  vc : BitVec 2
  hops : BitVec 6
  flags : Byte
  seq : BitVec 16
  frame : BitVec 16
  xinfo : BitVec 32
  deriving DecidableEq, Repr

/-- Prefix of a DISCOVERY packet after SUB: DEPTH, and PATH with hop 0 first. -/
structure DiscPath where
  depth : Byte
  path : BitVec 128
  deriving DecidableEq, Repr

/-- Fields of a HELLO, Table FAB-3. -/
structure Hello where
  uid : BitVec 64
  rootUid : BitVec 64
  dist : Byte
  eligible : Bool
  assigned : Bool
  fid : BitVec 12
  port : Fin 4
  deriving DecidableEq, Repr

/-- A HELLO packet: its header and its fields. -/
structure HelloPkt where
  hdr : FabHdr
  body : Hello
  deriving DecidableEq, Repr

/-- What a DISCOVERY packet that is forwarded begins with: its header, DEPTH and PATH. -/
structure DiscHdr where
  hdr : FabHdr
  way : DiscPath
  deriving DecidableEq, Repr

/-- What arrives from one packet start to the next: the bytes, and whether an EOP ended them. -/
structure RxFrame where
  frame : List Byte
  eop : Bool
  deriving DecidableEq, Repr

/-- The same of a segment link, with the code errors met. -/
structure BadFrame extends RxFrame where
  codeErrs : Nat
  deriving DecidableEq, Repr

/-- Payload of a CAPS packet, Table SDS-4. -/
structure CapsPkt where
  proto : Byte
  protoRev : Byte
  lane : Byte
  nlanes : Byte
  rate : Byte
  power : Byte
  ftsReq : Byte
  flags : Byte
  uid : BitVec 64
  deriving DecidableEq, Repr

/-- What the housekeeping ADC measures in a slot (R387 to R389): a remote diode (forward voltage at 10 µA in mV, ΔV1 and
ΔV2 in nV), the code of a thermistor, or a value in the unit of Table HK-1. -/
inductive HkRaw where
  | diode (v10 dv1 dv2 : Nat)
  | code (c : Fin 4096)
  | value (v : Int)
  deriving DecidableEq, Repr

/-- The commands: mailbox commands, then the events that reach the block or come due in it, in the table's order. -/
inductive Instr where
  /-- SYS_INFO: Command that returns grade, fabric ID, UID, firmware version, interface revision and DRAM size (R346). -/
  | sysInfo (m : Msg)
  /-- SYS_STATUS: Command that returns HLT.FAULTS, RAS.STATUS, the power state and POL.FB_STATUS (R346). -/
  | sysStatus (m : Msg)
  /-- SYS_RESET: Command that requests a warm or cold reset 1 ms after its response stands, or a fabric reset when it names another FID (R426). -/
  | sysReset (m : Msg)
  /-- SYS_PROTECT: Command that rewrites protection rules and mailbox privilege levels, applying them to every message dequeued after it completes (R334). -/
  | sysProtect (m : Msg)
  /-- SYS_MBX_CFG: Command that sets a mailbox's enable, lowest event severity and event mask (R335). -/
  | sysMbxCfg (m : Msg)
  /-- SYS_ALIVE_RESET: Command that resets the alive state of every client of a mailbox (R326). -/
  | sysAliveReset (m : Msg)
  /-- PWR_GET: Command that returns the power state, the last wake source and the pad-hold flag (R346). -/
  | pwrGet (m : Msg)
  /-- PWR_ENTER: Command that moves the device to IDLE, FROST, GLACIER or back to RUN by stopping or restarting blocks in fixed order (R347). -/
  | pwrEnter (m : Msg)
  /-- PWR_OFF: Command that puts the device in OFF 1 ms after its response stands (R411). -/
  | pwrOff (m : Msg)
  /-- PWR_PAD_RELEASE: Command that releases the output pad hold so every held ball takes its internal value within 1 us (R424). -/
  | pwrPadRelease (m : Msg)
  /-- RAS_GET: Command that returns raster status, frame, phase, period and effective blanking start (R346). -/
  | rasGet (m : Msg)
  /-- RAS_TIMING: Command that checks and stages a new period, source and blanking start and commits them, timed fabric-wide without lateness (R46). -/
  | rasTiming (m : Msg)
  /-- RAS_EPOCH: Command that stages and commits an epoch that sets REF and REF_FRAME, with realignment by slewing (R22). -/
  | rasEpoch (m : Msg)
  /-- RAS_ENABLE: Command that enables or disables the raster, placing the first phase 0 at least one period after the enabling tick (R43). -/
  | rasEnable (m : Msg)
  /-- RAS_SYNC_CFG: Command that writes the RAS slew, SYNC_IN and SYNC_OUT registers (R346). -/
  | rasSyncCfg (m : Msg)
  /-- LAYER_GET: Command that returns a layer's live and shadow words, status and counters (R346). -/
  | layerGet (m : Msg)
  /-- LAYER_SET: Command that checks and writes a layer's shadow set and optionally sets its COMMIT, returning APPLY_FRAME (R126). -/
  | layerSet (m : Msg)
  /-- CANVAS_SET: Command that writes the global canvas, WMIX and LUT bank shadows and optionally sets the global commit (R126). -/
  | canvasSet (m : Msg)
  /-- LUT_LOAD: Command that writes entries of an idle pre-blend or post-blend LUT bank (R125). -/
  | lutLoad (m : Msg)
  /-- SURF_CREATE: Command that allocates a surface whole from the pool or refuses with NOSPACE (R102). -/
  | surfCreate (m : Msg)
  /-- SURF_DESTROY: Command that frees a surface unless a layer set or stream input names it (R104). -/
  | surfDestroy (m : Msg)
  /-- SURF_WRITE: Command that writes data into a buffer of a software-sourced surface, making a FREE buffer WRITING (R109). -/
  | surfWrite (m : Msg)
  /-- SURF_PUBLISH: Command that makes a buffer of a software surface READY and NEWEST (R109). -/
  | surfPublish (m : Msg)
  /-- SURF_POOL: Command that moves or resizes the surface pool while no surface exists (R100). -/
  | surfPool (m : Msg)
  /-- BEAM_GET: Command that returns the renderer status, last list and counters (R346). -/
  | beamGet (m : Msg)
  /-- LIST_PUT: Command that submits an object list image for acceptance checks through the mailbox transport (R145). -/
  | listPut (m : Msg)
  /-- BEAM_CFG: Command that writes BEAM RW and RWS registers and glyph coefficients and optionally sets BEAM.COMMIT (R160). -/
  | beamCfg (m : Msg)
  /-- PAT_LOAD: Staged command that loads a canvas-sized base-beam pattern into the pattern store (R159). -/
  | patLoad (m : Msg)
  /-- GLYPH_LOAD: Staged command that loads a glyph set of coverage texels (R162). -/
  | glyphLoad (m : Msg)
  /-- GRID_LOAD: Staged command that loads an idle bank of the angle-to-canvas grid (R156). -/
  | gridLoad (m : Msg)
  /-- CORR_READ: Command that returns map or correction records of a segment from the live, staging or MRAM copy (R346). -/
  | corrRead (m : Msg)
  /-- CORR_STAGE: Command that writes records into the staging lamp map or correction table (R343). -/
  | corrStage (m : Msg)
  /-- CORR_APPLY: Command that applies a segment range of map or correction records from staging or MRAM at a phase 0 under RELOADING and HOLD (R184). -/
  | corrApply (m : Msg)
  /-- CORR_SAVE: Command that writes live records of a segment range to the MRAM defaults through a scratch area (R186). -/
  | corrSave (m : Msg)
  /-- CORR_CFG: Command that writes CORR registers and optionally sets CORR.COMMIT (R175). -/
  | corrCfg (m : Msg)
  /-- CURVE_LOAD: Command that writes entries of an idle response-curve bank (R171). -/
  | curveLoad (m : Msg)
  /-- SEG_CFG: Command that writes a segment's configuration, correction, edge and IREF registers (R65). -/
  | segCfg (m : Msg)
  /-- HEALTH_GET: Command that returns a segment's class counts and loss, fault and suspension bits, or the device totals (R346). -/
  | healthGet (m : Msg)
  /-- MAP_READ: Command that returns bytes of the failure map (R199). -/
  | mapRead (m : Msg)
  /-- HEALTH_CLEAR: Command that sets the class of a lamp range to OK with run count 0 (R194). -/
  | healthClear (m : Msg)
  /-- VF_CAPTURE: Command that captures forward-voltage references for a segment range over the next 64 lit frames (R197). -/
  | vfCapture (m : Msg)
  /-- HEALTH_SAVE: Command that copies the VF reference table or the failure map to MRAM (R197). -/
  | healthSave (m : Msg)
  /-- HEALTH_CFG: Command that writes the HLT configuration registers (R346). -/
  | healthCfg (m : Msg)
  /-- SUP_GET: Command that returns the supply status, setpoint, headroom, capacity, peaks and derating (R346). -/
  | supGet (m : Msg)
  /-- SUP_CFG: Command that writes SUP registers, refusing a VLED_MIN above VLED_MAX (R217). -/
  | supCfg (m : Msg)
  /-- SUP_RESTART: Command that clears LATCHED_OFF and restarts the stage by soft start (R224). -/
  | supRestart (m : Msg)
  /-- SUP_LIMIT: Command that sets SUP.HOST_LIMIT, applying immediately to the next capacity computation (R225). -/
  | supLimit (m : Msg)
  /-- POL_GET: Command that returns a polder's live set, signature and last result (R346). -/
  | polGet (m : Msg)
  /-- POL_SET: Command that writes a polder's shadow registers and optionally sets POL.COMMIT (R233). -/
  | polSet (m : Msg)
  /-- FB_RAISE: Command that raises the fallback reaction with a named slot, cause 6 (R244). -/
  | fbRaise (m : Msg)
  /-- FB_CLEAR: Command that clears the fallback at a phase 0 unless a blocking supply or segment condition stands (R248). -/
  | fbClear (m : Msg)
  /-- SNOW_GET: Command that returns a snowpack slot entry, SNOW.STATUS and SNOW.FREE (R346). -/
  | snowGet (m : Msg)
  /-- SLOT_BEGIN: Command that places a new image extent in the run area and makes the slot WRITING (R239). -/
  | slotBegin (m : Msg)
  /-- SLOT_DATA: Command that writes run words of the image being written into a slot (R240). -/
  | slotData (m : Msg)
  /-- SLOT_END: Command that checks the written image and applies it at a phase 0, then mirrors it to MRAM (R242). -/
  | slotEnd (m : Msg)
  /-- SLOT_ABORT: Command that returns a slot being written to its old image (R242). -/
  | slotAbort (m : Msg)
  /-- SLOT_DELETE: Command that empties a snowpack slot at a phase 0 unless it is named or is the valid DEFAULT (R240). -/
  | slotDelete (m : Msg)
  /-- SET_DEFAULT: Command that names a VALID slot as the DEFAULT slot at a phase 0 (R240). -/
  | setDefault (m : Msg)
  /-- GAIN_PUT: Command that replaces the snowpack gain table at a phase 0 and mirrors it (R242). -/
  | gainPut (m : Msg)
  /-- LEVELS_PUT: Command that replaces the LEVELS table at a phase 0 and mirrors it (R242). -/
  | levelsPut (m : Msg)
  /-- LINK_GET: Command that returns state, reason, partner and counters of a link, lane, stream or network port (R346). -/
  | linkGet (m : Msg)
  /-- LINK_ENABLE: Command that enables or disables a segment link, stream input or network port, with stream admission under R89. -/
  | linkEnable (m : Msg)
  /-- LINK_RETRAIN: Command that retrains a segment link or starts a new bring-up series on a lane or stream (R74). -/
  | linkRetrain (m : Msg)
  /-- STREAM_CFG: Command that writes a stream input's registers (R111). -/
  | streamCfg (m : Msg)
  /-- QUAD_CFG: Command that sets a quad's use, reference clock and rate while all its lanes are OFF (R297). -/
  | quadCfg (m : Msg)
  /-- LANE_TEST: Command that writes a lane's control and transmit-equalisation words, including TEST, loops and PRBS (R310). -/
  | laneTest (m : Msg)
  /-- NET_CFG: Command that writes MAC or CAN registers and message buffers (R346). -/
  | netCfg (m : Msg)
  /-- SEG_BLANK: Command that sends a segment BLANK_CMD DARK_NEXT, DARK_NOW or DEFAULT_NOW (R61). -/
  | segBlank (m : Msg)
  /-- SEG_DEFAULT_LOAD: Staged command whose END sends a default pattern to a segment driver in DEFAULT_LOAD chunks (R62). -/
  | segDefaultLoad (m : Msg)
  /-- FAB_GET: Command that returns fabric or fabric-port status, neighbour and counters (R346). -/
  | fabGet (m : Msg)
  /-- FAB_CFG: Command that sets fabric enable, root eligibility and preferred ID (R256). -/
  | fabCfg (m : Msg)
  /-- FAB_PORT: Command that enables a fabric port and sets its lane count and first lane (R251). -/
  | fabPort (m : Msg)
  /-- FAB_GROUP: Command on the root that defines a multicast group and commits new routes (R261). -/
  | fabGroup (m : Msg)
  /-- FAB_FWD: Command that sets a forward entry of surface, lines and group for pixel strips (R269). -/
  | fabFwd (m : Msg)
  /-- FAB_SUB: Command that sets a pixel-strip subscription into a local fabric surface (R271). -/
  | fabSub (m : Msg)
  /-- FAB_REDISCOVER: Command that restarts fabric discovery (R264). -/
  | fabRediscover (m : Msg)
  /-- FAB_TOPO: Command on the root that returns topology records of fabric devices (R346). -/
  | fabTopo (m : Msg)
  /-- TIME_GET: Command that returns device time, servo state and the UTC offset (R346). -/
  | timeGet (m : Msg)
  /-- TIME_SET: Command that loads or steps device time at a tick (R288). -/
  | timeSet (m : Msg)
  /-- TIME_UTC: Command that sets the UTC offset kept by firmware (R278). -/
  | timeUtc (m : Msg)
  /-- SERVO_CFG: Command that writes the PTP control and servo registers (R286). -/
  | servoCfg (m : Msg)
  /-- PTP_PORT: Command that configures PTP on a fabric port or MAC and its timestamp adjustments (R281). -/
  | ptpPort (m : Msg)
  /-- TT_ARM: Command that arms or cancels a time-triggered output (R290). -/
  | ttArm (m : Msg)
  /-- TC_POP: Command that returns and removes entries of a capture FIFO (R291). -/
  | tcPop (m : Msg)
  /-- SENSOR_GET: Command that returns a housekeeping channel's value, band and BROKEN flag (R346). -/
  | sensorGet (m : Msg)
  /-- SENSOR_CFG: Command that writes a housekeeping channel's registers (R346). -/
  | sensorCfg (m : Msg)
  /-- CAL_RUN: Command that triggers a calibration unit and re-arms its USER field (R404). -/
  | calRun (m : Msg)
  /-- CAL_SAVE: Command that saves the CAL fields to MRAM (R408). -/
  | calSave (m : Msg)
  /-- CRC_GET: Command that returns a check-value channel's configuration, result and INVALID flag (R346). -/
  | crcGet (m : Msg)
  /-- CRC_CFG: Command that disables, rewrites and re-enables a check-value channel not named by a layer or the scan (R354). -/
  | crcCfg (m : Msg)
  /-- CRC_SCAN: Command that starts a memory scan on a channel and completes with its result (R355). -/
  | crcScan (m : Msg)
  /-- LOG_READ: Command that returns event-log records (R346). -/
  | logRead (m : Msg)
  /-- LOG_CLEAR: Command that clears the event log while EVSEQ continues (R346). -/
  | logClear (m : Msg)
  /-- FW_INFO: Command that returns firmware state, version and each bank's generation and record state (R346). -/
  | fwInfo (m : Msg)
  /-- FW_BEGIN: Command that starts a firmware update by invalidating the inactive bank's commit record (R336). -/
  | fwBegin (m : Msg)
  /-- FW_DATA: Command that writes image data into the inactive firmware bank (R336). -/
  | fwData (m : Msg)
  /-- FW_VERIFY: Command that checks the signature of the written image (R336). -/
  | fwVerify (m : Msg)
  /-- FW_COMMIT: Command that writes a TRIAL commit record and hands over to the new firmware at a phase 0 (R337). -/
  | fwCommit (m : Msg)
  /-- FW_ABORT: Command that abandons the firmware update in progress (R336). -/
  | fwAbort (m : Msg)
  /-- REG_READ: Command that reads register or window words after checking the whole range (R348). -/
  | regRead (m : Msg)
  /-- REG_WRITE: Command that writes register or window words, refusing firmware-owned fields without OVERRIDE (R349). -/
  | regWrite (m : Msg)
  /-- REG_RMW: Command that read-modify-writes one register word under mask (R349). -/
  | regRmw (m : Msg)
  /-- LA_ENTER: Command that sets BEAM.CTRL.LOOKAHEAD under the cutoff so speculative render passes begin (R350). -/
  | laEnter (m : Msg)
  /-- LA_EXIT: Command that clears lookahead mode under the cutoff (R350). -/
  | laExit (m : Msg)
  /-- LA_TOL: Command that sets the lookahead squash tolerance (R350). -/
  | laTol (m : Msg)
  /-- LA_STATUS: Command that returns lookahead state and squash and reuse counts (R350). -/
  | laStatus (m : Msg)
  /-- STAGED_LOAD_TIMEOUT: A staged load with no message for 10 s is abandoned and its object stays invalid (R343). -/
  | stagedLoadTimeout (code : BitVec 16) (obj : BitVec 16)
  /-- MBN_IN_SLUICE: Write of an inbound write count, sampled at a tick, that queues the messages it covers or discards an incomplete one (R320). -/
  | mbnInSluice (n : Fin 8) (w : Word)
  /-- MBN_OUT_SLUICE: Write of an outbound read count that frees ring space (R320). -/
  | mbnOutSluice (n : Fin 8) (w : Word)
  /-- MESSAGE_DEQUEUE: Dequeue of one inbound message in tick and class order, with the acceptance checks of R324 and dispatch to its service. -/
  | messageDequeue
  /-- RESPONSE_RELEASE: A held response is placed once its outbound ring has room, and dequeuing of that mailbox resumes (R330). -/
  | responseRelease (n : Fin 8)
  /-- TIMED_COMMAND_DUE: A pending timed command reaches its target and executes, executes late or is refused TOO_LATE (R42). -/
  | timedCommandDue (n : Fin 16)
  /-- FORWARDED_RESPONSE: A response from another device arrives at the origin and is placed in the client's outbound ring (R331). -/
  | forwardedResponse (fid : BitVec 12) (bytes : List Byte)
  /-- FORWARD_RECORD_EXPIRY: The 1 s record of a forwarded request expires so later responses are discarded (R331). -/
  | forwardRecordExpiry (n : Nat)
  /-- MBX_CAN_ASSY_TIMEOUT: A CAN FD mailbox message not assembled within MBX.CAN_ASSY is discarded (R321). -/
  | mbxCanAssyTimeout (m : Fin 2)
  /-- PHASE_0: Frame start: LATCH launch, application of shadows that met the cutoff, and start of composition of the frame after next (R27). -/
  | phase0
  /-- BLANKING_START: The commit cutoff: shadows are captured and checked, BLANK and blanking packets are sent, and late trim and feed-forward are computed (R26). -/
  | blankingStart
  /-- RENDER_CUTOFF: The current list is fixed and the render pass or the lookahead comparison starts (R150). -/
  | renderCutoff
  /-- RENDER_PASS_DONE: The render pass completes its object table as renderer output for the frame after next (R151). -/
  | renderPassDone
  /-- SYNC_IN_EDGE: An accepted SYNC_IN edge is measured and moves the next phase 0 by slewing (R32). -/
  | syncInEdge (rising : Bool) (at10 : Nat)
  /-- SYNC_LOST: SYNC_LOSS_LIMIT consecutive frames without an in-window edge set SYNC_LOST (R33). -/
  | syncLost
  /-- TE_EDGE: An accepted TE_IN edge sets the latch instant of TE-mode links (R79). -/
  | teEdge (rising : Bool) (at10 : Nat)
  /-- TE_WINDOW_CLOSE: No TE edge by the close of the window: LATCH at the fallback time and CNT_TE_MISS (R80). -/
  | teWindowClose
  /-- TIME_ACTION_DUE: An armed time action writes its data to its address, on time or late, or fails (R40). -/
  | timeActionDue (n : Fin 16)
  /-- TACT_ARM: Write of ARM that arms a time-action entry (R40). -/
  | tactArm (n : Fin 16)
  /-- TACT_CANCEL: Write of CANCEL that returns an armed time-action entry to IDLE (R40). -/
  | tactCancel (n : Fin 16)
  /-- RAS_TIMING_COMMIT: Write of COMMIT that commits staged period, source, blanking start and epoch (R44). -/
  | rasTimingCommit
  /-- RAS_CTRL_ENABLE: Write of RAS.CTRL.ENABLE that starts or stops the raster (R43). -/
  | rasCtrlEnable (v : Bool)
  /-- LAYER_COMMIT: Write of CMP.LAYERn_COMMIT that marks a layer's shadow set for capture (R126). -/
  | layerCommit (n : Fin 8)
  /-- GLOBAL_COMMIT: Write of CMP.GLOBAL_COMMIT that marks the global shadows for capture (R126). -/
  | globalCommit
  /-- BEAM_COMMIT: Write of BEAM.COMMIT that marks the BEAM shadows for capture (R160). -/
  | beamCommit
  /-- CORR_COMMIT: Write of CORR.COMMIT that marks the CORR shadows for capture (R175). -/
  | corrCommit
  /-- POL_COMMIT: Write of POL.COMMIT that marks the polder shadows for capture (R233). -/
  | polCommit
  /-- BEAM_CTRL_EN: Write of BEAM.CTRL.EN that starts the renderer in NO_LIST or turns it OFF (R148). -/
  | beamCtrlEn (v : Bool)
  /-- FETCH_UNDERRUN: Layer data not arrived within FETCH_WAIT: the rest of the segment row takes BG (R134). -/
  | fetchUnderrun (layer : Fin 8) (seg : Fin 256) (row : Fin 4096) (col : Fin 4096)
  /-- SEGMENT_COMPOSED: Composition of a segment completes and its polder footprints are updated (R229). -/
  | segmentComposed (seg : Fin 256)
  /-- POLDER_CHECK: A polder's signature is compared with its expected value when its last footprint segment is composed (R230). -/
  | polderCheck (n : Fin 64)
  /-- POLDER_MISMATCH: The mismatch run reaches LIMIT: count, event and optional fallback (R232). -/
  | polderMismatch (n : Fin 64) (expected : Word)
  /-- FB_CTRL_RAISE: Write of POL.FB_CTRL.RAISE that raises the fallback with its slot (R244). -/
  | fbCtrlRaise (slot : Fin 4)
  /-- FB_CTRL_CLEAR: Write of POL.FB_CTRL.CLEAR that clears the fallback when allowed (R248). -/
  | fbCtrlClear
  /-- LAYER_MISS_POLICY: MISS_RUN reaches MISS_LIMIT and the layer takes HOLD, HIDE or FALLBACK (R132). -/
  | layerMissPolicy (n : Fin 8)
  /-- BUFFER_RETIRED: A layer finishes its last read of a buffer and RETIRED is sent (R136). -/
  | bufferRetired (n : Fin 8)
  /-- LINKN_CTRL_EN: Write of a segment link's EN that starts training or sends DEFAULT_NOW and turns the link OFF (R81). -/
  | linknCtrlEn (n : Fin 32) (v : Bool)
  /-- LINKN_CTRL_RETRAIN: Write of RETRAIN that retrains an ACTIVE link with HOLD or restarts attempts on a DOWN link (R74). -/
  | linknCtrlRetrain (n : Fin 32)
  /-- TE_MASK_WRITE: Write of SLK.TE_MASK refused for links whose d + F leaves LEAD short (R79). -/
  | teMaskWrite (w : Word)
  /-- HEARTBEAT: Periodic HEARTBEAT sent on every link not OFF or DOWN (R52). -/
  | heartbeat (n : Fin 32)
  /-- HEARTBEAT_ECHO: An upstream heartbeat echo is received and checked against its CNT (R52). -/
  | heartbeatEcho (n : Fin 32) (c : Byte)
  /-- HEARTBEAT_ECHO_TIMEOUT: An echo missing within 10 us; four in a row clear ECHO_OK and may retrain (R52). -/
  | heartbeatEchoTimeout (n : Fin 32)
  /-- UPSTREAM_LOCK: Upstream character lock and 64 valid IDLE end ALIGN (R72). -/
  | upstreamLock (n : Fin 32)
  /-- UPSTREAM_LOCK_LOSS: Upstream lock lost for more than 4 us retrains an ACTIVE link or fails an attempt (R74). -/
  | upstreamLockLoss (n : Fin 32)
  /-- TRAIN_REQ: TRAIN_REQ sent every 100 us in IDENT (R72). -/
  | trainReq (n : Fin 32)
  /-- TRAIN_RSP: A TRAIN_RSP is received, its revision accepted or refused and segments marked present, absent or MISMATCH (R64). -/
  | trainRsp (n : Fin 32) (r : TrainRsp)
  /-- PROBE_ECHO: A PROBE echo is timed; 16 agreeing echoes set the one-way delay and UI_SHIFT (R76). -/
  | probeEcho (n : Fin 32) (rtt : BitVec 16)
  /-- CALBURST_ECHO: The echoed calibration run completes and a receiver tap is chosen or CAL fails (R54). -/
  | calburstEcho (n : Fin 32) (tap : BitVec 7) (eye : Byte) (clean : Bool)
  /-- TRAINING_STATE_TIMEOUT: A training state times out and the attempt fails with its reason, entering DOWN after 8 failures (R73). -/
  | trainingStateTimeout (n : Fin 32)
  /-- RETRY_WAIT_EXPIRY: The 10 ms wait after a failed attempt ends and a new attempt starts in ALIGN (R73). -/
  | retryWaitExpiry (n : Fin 32)
  /-- DOWN_ATTEMPT: Once per second a DOWN link starts one training attempt (R73). -/
  | downAttempt (n : Fin 32)
  /-- ACK: An ACK is received for an acknowledged downstream packet (R67). -/
  | ack (n : Fin 32) (tag : Byte) (ty : Fin 16) (sub : Fin 8)
  /-- NAK: A NAK is received and the packet resent or counted as SEG_NAK, with NAK storms reported (R68). -/
  | nak (n : Fin 32) (tag : Byte) (ty : Fin 16) (sub : Fin 8) (reason : Byte) (inTime : Bool)
  /-- ACK_TIMEOUT: No answer within 20 us: resend up to 3 times, then count and optionally retrain (R68). -/
  | ackTimeout (n : Fin 32) (tag : Byte) (ty : Fin 16) (sub : Fin 8)
  /-- SEG_STATUS: An upstream SEG_STATUS report of lamp classes is received for a lit frame (R66). -/
  | segStatus (g : Fin 256) (fn : Byte) (classes : List Byte)
  /-- VF_ROW: An upstream VF_ROW report gives forward voltages for drift verdicts (R196). -/
  | vfRow (g : Fin 256) (fn : Byte) (row : Byte) (base : Byte) (samples : List Byte)
  /-- HEADROOM: An upstream HEADROOM report gives the lowest sink headroom of a lit frame (R66). -/
  | headroom (g : Fin 256) (fn : Byte) (mv : BitVec 16)
  /-- SEG_TEMP: An upstream SEG_TEMP report gives segment temperatures (R174). -/
  | segTemp (n : Fin 32) (fn : Byte) (temps : List (BitVec 16))
  /-- UPSTREAM_BAD_PACKET: An upstream packet with bad CRC, LENGTH, EOP or TYPE is discarded and counted, retraining past the CRC limit (R68). -/
  | upstreamBadPacket (n : Fin 32) (x : BadFrame)
  /-- HOLD_EXPIRED: A segment still in HOLD after HOLD_LIMIT frames is sent DEFAULT_NOW and marked DEFAULT (R84). -/
  | holdExpired (g : Fin 256)
  /-- VSTART: A VSTART opens a stream frame into a FREE or reclaimed buffer (R105). -/
  | vstart (n : Fin 4) (sfn : BitVec 16) (width : BitVec 16) (height : BitVec 16) (format : Byte) (ts : BitVec 32) (period : BitVec 32)
  /-- LINE: A LINE packet writes one source line of the open frame (R94). -/
  | line (n : Fin 4) (sfn : BitVec 16) (line : BitVec 16) (format : Byte) (width : BitVec 16) (pixels : List Byte) (stored : Bool)
  /-- VEND: A VEND closes a frame, publishing it READY and NEWEST when complete (R106). -/
  | vend (n : Fin 4) (sfn : BitVec 16) (lines : BitVec 16) (tsEnd : BitVec 32)
  /-- META: A META packet is kept by ID or discarded (R96). -/
  | metaPacket (n : Fin 4) (id : BitVec 16) (data : List Byte)
  /-- FRAME_TIMEOUT: FRAME_TIMEOUT expires before VEND and the open frame is discarded (R97). -/
  | frameTimeout (n : Fin 4)
  /-- STREAM_LOSS_TIMEOUT: No VSTART for LOSS_TIMEOUT sets NO_SIGNAL (R99). -/
  | streamLossTimeout (n : Fin 4)
  /-- STREAM_EN: Write of SDS.STRn_CTRL.EN admitting or refusing a stream and starting its lanes (R89). -/
  | streamEn (n : Fin 4) (v : Bool)
  /-- FAB_PORT_EN: Write of FAB.Pp_CTRL.EN that starts or stops a fabric port's lanes (R298). -/
  | fabPortEn (p : Fin 4) (v : Bool)
  /-- QUAD_CFG_WRITE: Write of SDS.Qq_CFG applied only while all lanes of the quad are OFF (R297). -/
  | quadCfgWrite (q : Fin 6) (w : Word)
  /-- LANE_TEST_WRITE: Write of SDS.LANEl_CTRL.TEST that puts a lane of a disabled group in TEST (R310). -/
  | laneTestWrite (l : Fin 24) (w : Word)
  /-- LANE_RESTART: Write of SDS.LANEl_RESTART that starts a new bring-up series (R304). -/
  | laneRestart (l : Fin 24)
  /-- DETECT_TEST: Common-mode charge test every 1 ms in DETECT (R300). -/
  | detectTest (l : Fin 24) (term : Bool) (signal : Bool)
  /-- TRAINING_SETS_RECEIVED: Received TS1 and TS2 sets advance equaliser adaptation and complete TRAIN (R300). -/
  | trainingSetsReceived (l : Fin 24) (adapted : Bool) (sets : Nat) (ts2Run : Nat) (ts2Sent : Nat)
  /-- LANE_LOCK: CDR bit lock and comma alignment complete LOCK (R300). -/
  | laneLock (l : Fin 24) (bitLock : Bool) (commas : Nat)
  /-- CAPS: A CAPS packet is received and checked; the lane group becomes ACTIVE when its last lane passes (R302). -/
  | caps (l : Fin 24) (c : CapsPkt)
  /-- LANE_STAGE_TIMEOUT: A bring-up stage times out and the group's attempt fails with its reason (R300). -/
  | laneStageTimeout (l : Fin 24)
  /-- LANE_BACKOFF_EXPIRY: The retry backoff ends and the next attempt starts, or the ninth failure enters DOWN (R303). -/
  | laneBackoffExpiry (g : Fin 8)
  /-- LANE_PROBE: Once per second a DOWN group runs one DETECT probe (R304). -/
  | laneProbe (g : Fin 8)
  /-- LANE_SIGNAL_DETECT: A signal seen by a DOWN lane's detector starts a new series (R304). -/
  | laneSignalDetect (l : Fin 24)
  /-- LANE_SIGNAL_LOSS: Loss of signal or alignment over 1 us ends an attempt or takes the group out of ACTIVE (R305). -/
  | laneSignalLoss (l : Fin 24) (align : Bool)
  /-- LANE_CODE_ERRORS: More than 16 code or disparity errors in 1 ms take the group out of ACTIVE (R305). -/
  | laneCodeErrors (l : Fin 24) (n : Nat)
  /-- REFCLK_FAIL: A reference clock fails its monitor and every lane of the quad stops with reason REFCLK (R301). -/
  | refclkFail (k : Fin 2)
  /-- REFCLK_PRESENT: The reference clock present for 1 ms allows attempts again (R301). -/
  | refclkPresent (k : Fin 2) (fast : Bool)
  /-- EIOS: An EIOS is received and the partner's direction or both directions enter idle (R308). -/
  | eios (l : Fin 24)
  /-- FTS: FTS from the partner ends sleep or electrical idle, with alignment checked (R306). -/
  | fts (l : Fin 24) (aligned : Bool)
  /-- EIOS_ANSWER_TIMEOUT: A partner that does not answer EIOS within 10 us is left awake and counted (R309). -/
  | eiosAnswerTimeout (l : Fin 24)
  /-- MAC_FRAME_RX: An Ethernet frame is filtered and its IPv4, ARP, ICMP or UDP content delivered (R313). -/
  | macFrameRx (m : Fin 2) (macPs : Nat) (frame : List Byte) (fcsOk : Bool)
  /-- MAC_LINK_CHANGE: PCS synchronisation or auto-negotiation changes the link state of a MAC (R312). -/
  | macLinkChange (m : Fin 2) (sync : Bool) (speed : Fin 4) (anDone : Bool) (remoteFault : Bool) (signal : Bool)
  /-- CAN_FRAME_RX: A CAN FD frame is received into its message buffer or discarded at a full buffer (R315). -/
  | canFrameRx (m : Fin 2) (id : BitVec 29) (ext : Bool) (flags : Fin 8) (data : List Byte)
  /-- BEAM_CAN_ASSY_TIMEOUT: A CAN FD list assembly not complete within CAN_ASSY is discarded (R145). -/
  | beamCanAssyTimeout (m : Fin 2)
  /-- BUS_OFF_RECOVERY: After 128 occurrences of 11 recessive bits a bus-off controller recovers automatically (R315). -/
  | busOffRecovery (m : Fin 2)
  /-- CAN_RESTART: Write of CANm.RESTART that takes a controller out of bus-off (R315). -/
  | canRestart (m : Fin 2)
  /-- LIST_TIMEOUT: No list accepted for LIST_TIMEOUT while TRACKING: the renderer enters TIMEOUT (R148). -/
  | listTimeout
  /-- LAMP_CLASS: A lamp's run reaches PERSIST and its class changes, updating the failure map and counts (R192). -/
  | lampClass (lamp : Fin 1048576)
  /-- REPORT_LOSS: RPT_LIMIT lit frames without SEG_STATUS make a segment faulty with its reaction (R202). -/
  | reportLoss (g : Fin 256)
  /-- VF_CAPTURE_DONE: A reference capture ends after 64 lit frames and the command completes (R197). -/
  | vfCaptureDone
  /-- CORR_COPY_DONE: The copy engine finishes a segment's records and its reference CRC (R184). -/
  | corrCopyDone
  /-- CRC_SCAN_END: A channel's scan ends with RESULT and DONE, serving buffer checks, table scans and CRC_SCAN (R356). -/
  | crcScanEnd (c : Fin 8) (ecc : Option (BitVec 32))
  /-- CRC_CHC_EN: Write of a channel's EN that checks its settings or cuts a scan short INVALID (R354). -/
  | crcChcEn (c : Fin 8) (w : Word)
  /-- CRC_CHC_START: Write of CRC.CHc_CMD.START that checks the range and begins a scan (R355). -/
  | crcChcStart (c : Fin 8)
  /-- VLED_OVERVOLTAGE: VLED above OV_TH for 2 us stops the stage and raises the fallback, latching off on a second trip (R224). -/
  | vledOvervoltage
  /-- VLED_UNDERVOLTAGE: VLED below V_set minus UV_MARGIN for 2 us limits capacity with cause CURRENT (R224). -/
  | vledUndervoltage
  /-- PHASE_IMBALANCE: A phase current off the mean for 1 ms disables that phase (R224). -/
  | phaseImbalance (p : Fin 6)
  /-- CURRENT_SENSE_OPEN: An implausible phase current at duty above 10 % for 1 ms disables that phase (R224). -/
  | currentSenseOpen (p : Fin 6)
  /-- OV_RESTART: 10 ms after an overvoltage the stage restarts by soft start (R224). -/
  | ovRestart
  /-- SOFTSTART_DONE: The rail reaches V_set and SOFTSTART clears (R217). -/
  | softstartDone
  /-- SUP_CTRL_EN: Write of SUP.CTRL.EN that starts the stage by soft start or stops it (R217). -/
  | supCtrlEn (v : Bool)
  /-- SUP_PHASE_EN: Write of SUP.PHASE_EN that enables phases and re-enables a phase disabled by a fault (R224). -/
  | supPhaseEn (w : Word)
  /-- SUP_RESTART_REG: Write of SUP.RESTART that clears LATCHED_OFF and soft-starts the stage (R224). -/
  | supRestartReg
  /-- SNOW_ECC_ERROR: A snowpack ECC error is corrected or its part restored from the MRAM mirror (R243). -/
  | snowEccError (addr : Fin 32768) (double : Bool)
  /-- SNOW_RESTORE: Restoration of a snowpack part from MRAM completes or empties the part (R243). -/
  | snowRestore (part : Fin 6) (bad0 : Bool) (bad1 : Bool)
  /-- MIRROR_DONE: The MRAM copy of a snowpack change is complete, MIRRORING clears and the SNOW command completes (R242). -/
  | mirrorDone
  /-- MRAM_RECORD_COMMIT: An MRAM record's commit word is written, completing a save (R401). -/
  | mramRecordCommit (rec : Fin 4)
  /-- ALIVE_OUT_TOGGLE: Every 500 us ALIVE_OUT changes level while its conditions hold (R249). -/
  | aliveOutToggle
  /-- FAB_CTRL_EN: Write of FAB.CTRL.EN that joins or leaves the fabric and restarts discovery (R264). -/
  | fabCtrlEn (v : Bool)
  /-- PIXEL_STRIP: A pixel-strip packet is forwarded and written into a subscribed window or discarded as late or early (R272). -/
  | pixelStrip (p : Fin 4) (h : FabHdr) (data : List Byte)
  /-- CONTROL: A CONTROL packet is forwarded or its mailbox message placed in MB5 (R268). -/
  | control (p : Fin 4) (h : FabHdr) (data : List Byte)
  /-- TIME: A fabric TIME packet carries a PTP message to the receiving port (R281). -/
  | time (p : Fin 4) (h : FabHdr) (macPs : Nat) (data : List Byte)
  /-- HELLO: A HELLO is received and the root claim updated (R256). -/
  | hello (p : Fin 4) (f : HelloPkt)
  /-- HELLO_SEND: HELLO sent every 1 ms on every ACTIVE port (R256). -/
  | helloSend
  /-- CLAIM_LAPSE: A root claim not refreshed for 5 ms lapses (R256). -/
  | claimLapse (p : Fin 4)
  /-- ROOT_ELECTED: A self-claiming device with no claim change for 20 ms becomes root and assigns FIDs (R257). -/
  | rootElected
  /-- NO_ROOT: 100 ms after the first ACTIVE port without root the device enters NO_ROOT (R257). -/
  | noRoot
  /-- ASSIGN: An ASSIGN gives a device its FID, answered by ASSIGN_ACK (R258). -/
  | assign (p : Fin 4) (h : FabHdr) (d : DiscPath) (uid : BitVec 64) (fid : BitVec 12) (parent : Fin 4)
  /-- ASSIGN_ACK: The root receives an ASSIGN_ACK with neighbour records (R258). -/
  | assignAck (p : Fin 4) (h : FabHdr) (d : DiscPath) (uid : BitVec 64) (fid : BitVec 12) (neigh : List (BitVec 64 × Fin 4))
  /-- ASSIGN_TIMEOUT: No ASSIGN_ACK within 5 ms: resend, or leave out the device after 3 attempts (R258). -/
  | assignTimeout
  /-- ROUTE: A ROUTE image is staged into the idle route bank (R260). -/
  | route (p : Fin 4) (h : FabHdr) (d : DiscPath) (id : BitVec 32) (image : List Byte)
  /-- ROUTE_COMMIT: A ROUTE_COMMIT schedules the bank switch at T or is answered with STATUS 1 (R261). -/
  | routeCommit (p : Fin 4) (h : FabHdr) (id : BitVec 32) (t : BitVec 64)
  /-- ROUTE_BANK_SWITCH: At T a device with the staged image switches route banks and PTP port states (R261). -/
  | routeBankSwitch
  /-- ROUTE_ACK: The root receives a ROUTE_ACK and resends a bad image (R261). -/
  | routeAck (p : Fin 4) (h : FabHdr) (d : DiscPath) (id : BitVec 32) (status : Byte)
  /-- LINK_EVENT: The root receives a LINK_EVENT and recomputes and commits routes (R261). -/
  | linkEvent (p : Fin 4) (h : DiscHdr) (uid : BitVec 64) (port : Fin 4) (up : Bool) (nb : BitVec 64)
  /-- FLOW: A FLOW packet updates the available credits of a port (R265). -/
  | flow (p : Fin 4) (init : Bool) (c0 : BitVec 16) (c1 : BitVec 16) (c2 : BitVec 16) (c3 : BitVec 16)
  /-- FLOW_SEND: FLOW sent at least every 10 us or after 32 credits are freed (R265). -/
  | flowSend (p : Fin 4)
  /-- FAB_PACKET_DELAY: A packet waiting at an output beyond DELAY_TH is counted (R267). -/
  | fabPacketDelay (p : Fin 4) (v : Fin 4)
  /-- SUB_LOSS_TIMEOUT: No packet of a subscription for LOSS_TIMEOUT sets NO_SIGNAL (R274). -/
  | subLossTimeout (n : Fin 16)
  /-- PTP_EVENT_MESSAGE: A PTP event message is received and timestamped at its start delimiter (R284). -/
  | ptpEventMessage (q : Fin 6) (macPs : Nat) (msg : List Byte)
  /-- PTP_MESSAGE_SEND: A PTP message is sent at its interval, with one-step timestamp insertion (R285). -/
  | ptpMessageSend (q : Fin 6) (macPs : Nat) (stamped : Bool) (msg : List Byte)
  /-- SERVO_OFFSET: Write of PTP.SERVO_OFFSET_NS that hands the servo an offset, stepping or adjusting the rate (R286). -/
  | servoOffset (w : Word)
  /-- SERVO_HOLDOVER: No offset for HOLD_TIMEOUT intervals puts the servo in HOLDOVER (R287). -/
  | servoHoldover
  /-- SET_CTRL_LOAD: Write of PTP.SET_CTRL.LOAD that loads device time at a tick (R288). -/
  | setCtrlLoad
  /-- SET_CTRL_STEP: Write of PTP.SET_CTRL.STEP that steps device time by STEP_VAL (R288). -/
  | setCtrlStep
  /-- TIME_NS_READ: Read of PTP.TIME_NS that latches the other time fields of the same instant (R279). -/
  | timeNsRead
  /-- TTN_ARM: Write of PTP.TTn_CTRL.ARM that arms a time-triggered output or marks it FAILED (R290). -/
  | ttnArm (n : Fin 4)
  /-- TTN_CANCEL: Write of PTP.TTn_CTRL.CANCEL that ends the output after the pulse in progress (R290). -/
  | ttnCancel (n : Fin 4)
  /-- TT_OCCURRENCE: A time-triggered output reaches an occurrence and drives its active level (R289). -/
  | ttOccurrence (n : Fin 4)
  /-- TT_PULSE_END: WIDTH after an occurrence the output returns to idle (R289). -/
  | ttPulseEnd (n : Fin 4)
  /-- CAPTURE_EDGE: An edge on a capture input is timestamped into its FIFO or counted as overflow (R291). -/
  | captureEdge (n : Fin 4) (falling : Bool) (total : Nat)
  /-- TCN_POP: Write of PTP.TCn_POP that removes the oldest capture entry (R291). -/
  | tcnPop (n : Fin 4)
  /-- HK_SLOT_END: An ADC slot ends and its channel's result is sampled (R387). -/
  | hkSlotEnd (ch : Fin 48) (raw : HkRaw)
  /-- HK_ROUND_END: Channel 47 completes and bands, broken flags and calibration triggers are evaluated (R387). -/
  | hkRoundEnd
  /-- CALIBRATION_RUN_END: A calibration run ends and its result is accepted or rejected (R406). -/
  | calibrationRunEnd (u : Fin 97) (vals : List Nat) (eye : Byte) (margin : BitVec 10) (pass : Bool)
  /-- CAL_FIELD_WRITE: Software write of a CAL field that marks it USER (R381). -/
  | calFieldWrite (a : BitVec 22) (w : Word)
  /-- PREWARN_TRIP: The prewarn comparator trips at 140 C and starts the orderly stop (R398). -/
  | prewarnTrip
  /-- PREWARN_RELEASE: The prewarn comparator releases below 130 C, letting a held reset proceed (R399). -/
  | prewarnRelease
  /-- SHUTDOWN: The shutdown comparator trips at 150 C and every unit but AON switches off (R400). -/
  | shutdown
  /-- STOP_STEP_DONE: A block reports it has stopped and the next step of power entry begins (R413). -/
  | stopStepDone
  /-- STOP_STEP_TIMEOUT: A block not stopped within 10 ms refuses and the PMU restarts stopped blocks (R413). -/
  | stopStepTimeout
  /-- WAKE: A selected wake source fires and THAW starts (R423). -/
  | wake (hcs : Bool)
  /-- AON_TIMER_WAKE: The AON timer reaches TIMER and wakes the device (R423). -/
  | aonTimerWake
  /-- TEMP_WAKE: The die crosses AON.TEMP_WAKE and wakes the device (R423). -/
  | tempWake
  /-- THAW_STEP_END: The fixed delay of a THAW step ends and the next step begins, ending THAW in RUN (R421). -/
  | thawStepEnd
  /-- VIN_UNDERVOLTAGE: VIN below 4.5 V sends every live segment DEFAULT_NOW (R428). -/
  | vinUndervoltage (mv : BitVec 16)
  /-- VIN_OVERVOLTAGE: VIN above 28 V raises an event (R428). -/
  | vinOvervoltage (high : Bool) (mv : BitVec 16)
  /-- POR: VIN crossing the POR thresholds resets or releases the device into a cold start (R426). -/
  | por (rise : Bool) (straps : Fin 8)
  /-- RESET_N: RESET_N low for more than 10 us holds a cold reset until it rises (R426). -/
  | resetN (low : Bool)
  /-- WATCHDOG: The firmware service timer expires and causes a warm reset (R426). -/
  | watchdog
  /-- LOCKSTEP: A management-core compare error causes a warm reset (R426). -/
  | lockstep
  /-- CLOCK_FAIL: The core PLL fails its monitor and causes a warm reset (R426). -/
  | clockFail
  /-- AON_LOSS: VIN below 3.0 V makes the AON domain lose its state (R412). -/
  | aonLoss
  /-- VIO_LOSS: A bank supply below 1.5 V for 10 us sets its balls high impedance (R440). -/
  | vioLoss (b : Fin 2)
  /-- VIO_RETURN: A bank supply above 1.6 V lets its outputs drive again within 10 us (R440). -/
  | vioReturn (b : Fin 2) (high : Bool)
  /-- XTAL_OK: The 32.768 kHz oscillator starts and the AON count leaves the RC oscillator (R443). -/
  | xtalOk
  /-- BOOT_ROM_VERIFY: The boot ROM verifies and boots the CONFIRMED bank with the highest GEN (R338). -/
  | bootRomVerify (goodA : Bool) (goodB : Bool)
  /-- LIGHT_START: At stage 4 firmware enables the raster at 240 Hz and raises the DEFAULT-slot fallback (R430). -/
  | lightStart
  /-- DRAM_READY: At stage 7 DRAM is in service and lamp tables are applied from MRAM (R431). -/
  | dramReady (good : Bool)
  /-- FW_RESUME: The new firmware resumes the mailboxes and completes FW_COMMIT (R337). -/
  | fwResume
  /-- FW_CONFIRM: The new firmware writes CONFIRMED into its commit record (R337). -/
  | fwConfirm
  /-- FW_UPDATE_TIMEOUT: An update with no FW command for 60 s is abandoned (R336). -/
  | fwUpdateTimeout
  /-- DRAM_ECC_ERROR: An uncorrectable DRAM read error puts a table segment in SNOWGAIN or UNMAPPED or underruns a row (R203). -/
  | dramEccError (addr : Nat) (lamp : Option (Fin 8 × Fin 256 × Fin 4096 × Fin 4096))
  /-- SRAM_ECC_ERROR: An uncorrectable internal SRAM error raises the fallback (R203). -/
  | sramEccError (addr : BitVec 32)
  /-- HOST_READ32: Host-port frame that reads one word with fill, READY or ERROR token (R371). -/
  | hostRead32 (addr : Option (BitVec 24)) (ecc : Bool)
  /-- HOST_READ_BURST: Host-port frame that reads consecutive words until HCS_N rises (R371). -/
  | hostReadBurst (addr : Option (BitVec 24)) (n : Nat) (ecc : Option Nat)
  /-- HOST_WRITE32: Host-port frame that posts one word into the write buffer (R374). -/
  | hostWrite32 (addr : Option (BitVec 24)) (data : List Byte)
  /-- HOST_WRITE_BURST: Host-port frame that posts up to 256 words into the write buffer (R374). -/
  | hostWriteBurst (addr : Option (BitVec 24)) (data : List Byte)
  /-- HOST_STATUS: Host-port frame that returns the status byte repeatedly (R368). -/
  | hostStatus (n : Nat)
  /-- BAD_OPCODE: Host-port frame with an unknown opcode, ignored after the opcode phase (R367). -/
  | badOpcode (op : Byte)
  /-- HOST_WRITE_APPLY: A posted word reaches its block and takes effect at its tick, or fails with its code (R374). -/
  | hostWriteApply
  /-- HOST_READ_TIMEOUT: A read word not ready within 128 us ends with TIMEOUT (R372). -/
  | hostReadTimeout
  /-- HOST_WRITE_TIMEOUT: A posted word unable to start within 128 us discards the rest of its frame (R374). -/
  | hostWriteTimeout
  /-- TABLE_BASE_WRITE: Write of a table-area base register discarded when it would leave the area or overlap (R101). -/
  | tableBaseWrite (which : Fin 6) (w : Word)
  /-- BANK_WINDOW_WRITE: Write into a LUT, grid or curve bank window, discarded when the bank is in use (R125). -/
  | bankWindowWrite (a : BitVec 22) (w : Word)
  /-- REGISTER_WRITE: Write of any other register under its access code, with reserved values replaced and firmware-owned checks (R378). -/
  | registerWrite (a : BitVec 22) (w : Word)
  /-- BAD_STREAM_PACKET: A stream packet with a bad CRC, wrong LENGTH, missing EOP or reserved TYPE is discarded and counted in CNT_CRC or CNT_SEQ_ERR (R98). -/
  | badStreamPacket (n : Fin 4) (x : RxFrame)
  /-- FABRIC_BAD_PACKET: A fabric packet with a reserved TYPE, wrong VC, LENGTH above 4,096, bad CRC or no EOP is discarded and counted in FAB.Pp_CNT_CRC (R255). -/
  | fabricBadPacket (p : Fin 4) (frame : List Byte) (eop : Bool)
  /-- LANE_DESKEW_ERROR: The lanes of a stream or fabric port show more than 32 characters of skew at SOP, so DESKEW_ERR is set, packets are discarded and the open frame abandoned or the port brought up again (R91). -/
  | laneDeskewError (fabric : Bool) (n : Fin 4)
  /-- CAN_ERROR_FRAME: A CAN bus error moves the error counters and can take a controller to error-passive or bus-off, counted in CNT_ERR and CNT_BUSOFF (R315). -/
  | canErrorFrame (m : Fin 2) (tec : BitVec 9) (rec : BitVec 9)
  /-- VLED_UNDERVOLTAGE_END: While the raster is disabled, one frame period without an undervoltage trip ends the undervoltage condition and its capacity term (R224). -/
  | vledUndervoltageEnd
  /-- VIN_UNDERVOLTAGE_END: VIN returns above 4.5 V without falling to the POR threshold, ending the undervoltage condition and its HLT.FAULTS.SUPPLY bit (R428). -/
  | vinUndervoltageEnd
  /-- FW_VERIFY_DONE: The signature check of the written image ends and FW_VERIFY completes with OK or RANGE (R336). -/
  | fwVerifyDone (good : Bool)
  /-- STARTUP_READY: Start-up reaches stage 8 READY, and commands whose service needs DRAM, and FB_CLEAR, are served from then on (R429). -/
  | startupReady
  /-- SYNC_OUT_PULSE: SYNC_OUT goes high at phase RAS.SYNC_OUT.PHASE of every frame while EN is 1 (R35). -/
  | syncOutPulse
  /-- SYNC_OUT_PULSE_END: WIDTH microseconds after it rose, SYNC_OUT goes low (R35). -/
  | syncOutPulseEnd
  /-- STREAM_SEND_FINISH: A transmitting stream finishes sending its frame with VEND, and its transmitter sleeps until the next phase 0 (R307). -/
  | streamSendFinish (n : Fin 4)
  /-- PRBS_LOCK: The PRBS checker gains lock after 64 error-free bits, counts bit errors, or loses lock after 64 bits and clears PRBS_LOCK (R311). -/
  | prbsLock (l : Fin 24) (count : Nat) (bits : Nat)
  deriving DecidableEq, Repr

end Sys2Proof
end

