-- ==== Sys2Proof/Decode.lean ====
section
/-! DEFINITION. The decoder the host asks for. No row of the table of operations and events gives bits: a mailbox command is decoded from
its message by Machine/Dequeue.lean, and an event has no word. -/
namespace Sys2Proof

/-- The command that a word spells by the table's bits: none, since no row gives bits. -/
def decodeTableWord (_nbits _w : Nat) : Option Instr := none

end Sys2Proof
end

