-- ==== Sys2Proof/Machine/CmdTable.lean ====
section
/-! DEFINITION. The commands served (R340, R346): the rows of Tables CMD-4 to CMD-9 and CMD-12 with minimum privilege,
accepted object classes and marks. -/
namespace Sys2Proof.Machine

/-- A row of the command tables: code, minimum level, object classes, marks R T B A S (Table CMD-1), and whether the
command changes what lamps show (R42; the list is DEDUCED, log entry 16). -/
structure Svc where
  code : Nat
  pl : Nat
  objs : List Nat
  rd : Bool
  tim : Bool
  bcast : Bool
  all : Bool
  acc : Bool
  light : Bool
  deriving DecidableEq, Repr

def svcRows0 : List Svc := [
  /- SYS_INFO -/ ⟨0x0100, 3, [0], true, false, true, false, false, false⟩,
  /- SYS_STATUS -/ ⟨0x0101, 3, [0], true, false, true, false, false, false⟩,
  /- SYS_RESET -/ ⟨0x0102, 0, [0], false, true, true, false, false, false⟩,
  /- SYS_PROTECT -/ ⟨0x0103, 0, [0], false, false, false, false, false, false⟩,
  /- SYS_MBX_CFG -/ ⟨0x0104, 0, [14], false, false, false, true, false, false⟩,
  /- SYS_ALIVE_RESET -/ ⟨0x0105, 0, [14], false, false, false, true, false, false⟩,
  /- PWR_GET -/ ⟨0x0200, 3, [0], true, false, false, false, false, false⟩,
  /- PWR_ENTER -/ ⟨0x0201, 1, [0], false, false, false, false, true, false⟩,
  /- PWR_OFF -/ ⟨0x0202, 0, [0], false, false, false, false, false, false⟩,
  /- PWR_PAD_RELEASE -/ ⟨0x0203, 1, [0], false, false, false, false, false, false⟩,
  /- RAS_GET -/ ⟨0x0300, 3, [0], true, false, true, false, false, false⟩,
  /- RAS_TIMING -/ ⟨0x0301, 1, [0], false, true, true, false, false, true⟩,
  /- RAS_EPOCH -/ ⟨0x0302, 1, [0], false, true, true, false, false, true⟩,
  /- RAS_ENABLE -/ ⟨0x0303, 1, [0], false, false, true, false, false, false⟩,
  /- RAS_SYNC_CFG -/ ⟨0x0304, 1, [0], false, false, false, false, false, false⟩]

def svcRows1 : List Svc := [
  /- LAYER_GET -/ ⟨0x0400, 3, [1], true, false, false, true, false, false⟩,
  /- LAYER_SET -/ ⟨0x0401, 2, [1], false, true, true, false, false, true⟩,
  /- CANVAS_SET -/ ⟨0x0402, 1, [0], false, true, false, false, false, true⟩,
  /- LUT_LOAD -/ ⟨0x0403, 1, [0], false, false, false, false, false, false⟩,
  /- SURF_CREATE -/ ⟨0x0410, 1, [8], false, false, false, true, false, false⟩,
  /- SURF_DESTROY -/ ⟨0x0411, 1, [8], false, false, false, false, false, false⟩,
  /- SURF_WRITE -/ ⟨0x0412, 2, [8], false, false, false, false, false, false⟩,
  /- SURF_PUBLISH -/ ⟨0x0413, 2, [8], false, true, false, false, false, true⟩,
  /- SURF_POOL -/ ⟨0x0414, 0, [0], false, false, false, false, false, false⟩,
  /- BEAM_GET -/ ⟨0x0500, 3, [0], true, false, false, false, false, false⟩,
  /- LIST_PUT -/ ⟨0x0501, 2, [0], false, false, false, false, false, false⟩,
  /- BEAM_CFG -/ ⟨0x0502, 1, [0], false, true, false, false, false, true⟩,
  /- PAT_LOAD -/ ⟨0x0503, 1, [0], false, false, false, false, false, false⟩,
  /- GLYPH_LOAD -/ ⟨0x0504, 1, [0], false, false, false, false, false, false⟩,
  /- GRID_LOAD -/ ⟨0x0505, 1, [0], false, false, false, false, false, false⟩]

def svcRows2 : List Svc := [
  /- CORR_READ -/ ⟨0x0600, 3, [2], true, false, false, false, false, false⟩,
  /- CORR_STAGE -/ ⟨0x0601, 1, [0], false, false, false, false, false, false⟩,
  /- CORR_APPLY -/ ⟨0x0602, 1, [2], false, true, false, false, true, true⟩,
  /- CORR_SAVE -/ ⟨0x0603, 1, [2], false, false, false, false, true, false⟩,
  /- CORR_CFG -/ ⟨0x0604, 1, [0], false, true, false, false, false, true⟩,
  /- CURVE_LOAD -/ ⟨0x0605, 1, [0], false, false, false, false, false, false⟩,
  /- SEG_CFG -/ ⟨0x0606, 1, [2], false, true, false, true, false, true⟩,
  /- HEALTH_GET -/ ⟨0x0700, 3, [2], true, false, false, true, false, false⟩,
  /- MAP_READ -/ ⟨0x0701, 3, [0], true, false, false, false, false, false⟩,
  /- HEALTH_CLEAR -/ ⟨0x0702, 1, [2], false, false, false, true, false, false⟩,
  /- VF_CAPTURE -/ ⟨0x0703, 1, [2], false, false, false, false, true, false⟩,
  /- HEALTH_SAVE -/ ⟨0x0704, 1, [0], false, false, false, false, true, false⟩,
  /- HEALTH_CFG -/ ⟨0x0705, 1, [0], false, false, false, false, false, false⟩,
  /- SUP_GET -/ ⟨0x0800, 3, [9], true, false, false, false, false, false⟩,
  /- SUP_CFG -/ ⟨0x0801, 1, [9], false, true, false, false, false, true⟩]

def svcRows3 : List Svc := [
  /- SUP_RESTART -/ ⟨0x0802, 1, [9], false, false, false, false, false, false⟩,
  /- SUP_LIMIT -/ ⟨0x0803, 2, [9], false, true, true, false, false, true⟩,
  /- POL_GET -/ ⟨0x0900, 3, [6], true, false, false, true, false, false⟩,
  /- POL_SET -/ ⟨0x0901, 1, [6], false, true, false, false, false, false⟩,
  /- FB_RAISE -/ ⟨0x0902, 1, [0], false, true, true, false, false, true⟩,
  /- FB_CLEAR -/ ⟨0x0903, 1, [0], false, true, true, false, false, true⟩,
  /- SNOW_GET -/ ⟨0x0A00, 1, [10], true, false, false, true, false, false⟩,
  /- SLOT_BEGIN -/ ⟨0x0A01, 0, [10], false, false, false, false, false, false⟩,
  /- SLOT_DATA -/ ⟨0x0A02, 0, [10], false, false, false, false, false, false⟩,
  /- SLOT_END -/ ⟨0x0A03, 0, [10], false, false, false, false, true, false⟩,
  /- SLOT_ABORT -/ ⟨0x0A04, 0, [10], false, false, false, false, false, false⟩,
  /- SLOT_DELETE -/ ⟨0x0A05, 0, [10], false, false, false, false, true, false⟩,
  /- SET_DEFAULT -/ ⟨0x0A06, 0, [10], false, false, false, false, true, false⟩,
  /- GAIN_PUT -/ ⟨0x0A07, 0, [0], false, false, false, false, true, false⟩,
  /- LEVELS_PUT -/ ⟨0x0A08, 0, [0], false, false, false, false, true, false⟩]

def svcRows4 : List Svc := [
  /- LINK_GET -/ ⟨0x0B00, 3, [3, 4, 7, 12], true, false, false, true, false, false⟩,
  /- LINK_ENABLE -/ ⟨0x0B01, 1, [3, 7, 12], false, false, false, false, false, false⟩,
  /- LINK_RETRAIN -/ ⟨0x0B02, 1, [3, 4, 7], false, false, false, true, false, false⟩,
  /- STREAM_CFG -/ ⟨0x0B03, 1, [7], false, false, false, false, false, false⟩,
  /- QUAD_CFG -/ ⟨0x0B04, 0, [4], false, false, false, false, false, false⟩,
  /- LANE_TEST -/ ⟨0x0B05, 1, [4], false, false, false, false, false, false⟩,
  /- NET_CFG -/ ⟨0x0B06, 1, [12], false, false, false, false, false, false⟩,
  /- SEG_BLANK -/ ⟨0x0B07, 1, [2], false, false, false, true, false, false⟩,
  /- SEG_DEFAULT_LOAD -/ ⟨0x0B08, 1, [2], false, false, false, false, true, false⟩,
  /- FAB_GET -/ ⟨0x0C00, 3, [0, 5], true, false, false, true, false, false⟩,
  /- FAB_CFG -/ ⟨0x0C01, 1, [0], false, false, false, false, false, false⟩,
  /- FAB_PORT -/ ⟨0x0C02, 1, [5], false, false, false, false, false, false⟩,
  /- FAB_GROUP -/ ⟨0x0C03, 1, [0], false, false, false, false, true, false⟩,
  /- FAB_FWD -/ ⟨0x0C04, 1, [0], false, false, false, false, false, false⟩,
  /- FAB_SUB -/ ⟨0x0C05, 1, [0], false, false, false, false, false, false⟩]

def svcRows5 : List Svc := [
  /- FAB_REDISCOVER -/ ⟨0x0C06, 0, [0], false, false, true, false, false, false⟩,
  /- FAB_TOPO -/ ⟨0x0C07, 3, [0], true, false, false, false, false, false⟩,
  /- TIME_GET -/ ⟨0x0D00, 3, [0], true, false, true, false, false, false⟩,
  /- TIME_SET -/ ⟨0x0D01, 0, [0], false, true, false, false, false, false⟩,
  /- TIME_UTC -/ ⟨0x0D02, 1, [0], false, false, true, false, false, false⟩,
  /- SERVO_CFG -/ ⟨0x0D03, 1, [0], false, false, false, false, false, false⟩,
  /- PTP_PORT -/ ⟨0x0D04, 1, [5, 12], false, false, false, false, false, false⟩,
  /- TT_ARM -/ ⟨0x0D05, 2, [0], false, false, false, false, false, false⟩,
  /- TC_POP -/ ⟨0x0D06, 2, [0], false, false, false, false, false, false⟩,
  /- SENSOR_GET -/ ⟨0x0E00, 3, [13], true, false, false, true, false, false⟩,
  /- SENSOR_CFG -/ ⟨0x0E01, 1, [13], false, false, false, false, false, false⟩,
  /- CAL_RUN -/ ⟨0x0E02, 1, [0], false, false, false, false, true, false⟩,
  /- CAL_SAVE -/ ⟨0x0E03, 1, [0], false, false, false, false, true, false⟩,
  /- CRC_GET -/ ⟨0x0F00, 3, [11], true, false, false, true, false, false⟩,
  /- CRC_CFG -/ ⟨0x0F01, 1, [11], false, false, false, false, false, false⟩]

def svcRows6 : List Svc := [
  /- CRC_SCAN -/ ⟨0x0F02, 1, [11], false, false, false, false, true, false⟩,
  /- LOG_READ -/ ⟨0x1000, 3, [0], true, false, false, false, false, false⟩,
  /- LOG_CLEAR -/ ⟨0x1001, 0, [0], false, false, false, false, false, false⟩,
  /- FW_INFO -/ ⟨0x1100, 3, [0], true, false, false, false, false, false⟩,
  /- FW_BEGIN -/ ⟨0x1101, 0, [0], false, false, false, false, false, false⟩,
  /- FW_DATA -/ ⟨0x1102, 0, [0], false, false, false, false, false, false⟩,
  /- FW_VERIFY -/ ⟨0x1103, 0, [0], false, false, false, false, true, false⟩,
  /- FW_COMMIT -/ ⟨0x1104, 0, [0], false, false, false, false, true, false⟩,
  /- FW_ABORT -/ ⟨0x1105, 0, [0], false, false, false, false, false, false⟩,
  /- REG_READ -/ ⟨0x1200, 1, [0], true, false, false, false, false, false⟩,
  /- REG_WRITE -/ ⟨0x1201, 0, [0], false, true, false, false, false, false⟩,
  /- REG_RMW -/ ⟨0x1202, 0, [0], false, true, false, false, false, false⟩,
  /- LA_ENTER -/ ⟨0x0540, 1, [0], false, false, false, false, false, false⟩,
  /- LA_EXIT -/ ⟨0x0541, 1, [0], false, false, false, false, false, false⟩,
  /- LA_TOL -/ ⟨0x0542, 1, [0], false, false, false, false, false, false⟩]

def svcRows7 : List Svc := [
  /- LA_STATUS -/ ⟨0x0543, 3, [0], true, false, false, false, false, false⟩]

/-- Every row of the command tables. -/
def svcRows : List Svc := svcRows0 ++ svcRows1 ++ svcRows2 ++ svcRows3 ++ svcRows4 ++ svcRows5 ++ svcRows6 ++ svcRows7

/-- The row of a command code (R340). -/
def svcRow (code : Nat) : Option Svc := svcRows.find? (·.code == code)

end Sys2Proof.Machine
end

