-- ==== Sys2Proof/Machine/Crc.lean ====
section
/-! DEFINITION. Byte lists and the cyclic checks of the spec: CRC-32 and CRC-32C (R93, R143), CRC-16/CCITT (R56) and
the general check value of R352. -/
namespace Sys2Proof.Machine

/-- Little-endian value of a byte list (R6). -/
def leNat : List Byte → Nat
  | [] => 0
  | b :: r => b.toNat + 256 * leNat r

/-- `n` bytes of a value, low byte first (R6). -/
def leBytes : Nat → Nat → List Byte
  | 0, _ => []
  | n + 1, v => BitVec.ofNat 8 v :: leBytes n (v / 256)

/-- The `n` bytes of `l` from position `i`, as a little-endian value; absent bytes read 0. -/
def leAt (l : List Byte) (i n : Nat) : Nat := leNat ((l.drop i).take n)

/-- The low `n` bits of `v` in reverse order. -/
def revBits : Nat → Nat → Nat
  | 0, _ => 0
  | n + 1, v => (v % 2) * 2 ^ n + revBits n (v / 2)

/-- Parameters of R352. -/
structure CrcParam where
  width : Nat
  poly : Nat
  init : Nat
  refin : Bool
  refout : Bool
  xorout : Nat
  deriving DecidableEq, Repr

/-- One data bit into a CRC register of `w` bits, most significant bit first. -/
def crcBit (p : CrcParam) (r : Nat) (b : Bool) : Nat :=
  let top := r.testBit (p.width - 1)
  let sh := (r * 2) % 2 ^ p.width
  if top != b then Nat.xor sh p.poly else sh

/-- `n` bits of `v` from bit `n − 1` down, into the register. -/
def crcBits (p : CrcParam) : Nat → Nat → Nat → Nat
  | 0, _, r => r
  | n + 1, v, r => crcBits p n v (crcBit p r (v.testBit n))

/-- One byte into the register: REFIN takes it least significant bit first (R352). -/
def crcByte (p : CrcParam) (r : Nat) (b : Byte) : Nat :=
  crcBits p 8 (if p.refin then revBits 8 b.toNat else b.toNat) r

/-- The register after the bytes of `l`. -/
def crcRun (p : CrcParam) (r : Nat) (l : List Byte) : Nat := l.foldl (crcByte p) r

/-- The final value: REFOUT reflects the register before XOROUT (R352). -/
def crcFinal (p : CrcParam) (r : Nat) : Nat :=
  Nat.xor (if p.refout then revBits p.width r else r) p.xorout % 2 ^ p.width

/-- The check value of a byte list (R352). -/
def crcValue (p : CrcParam) (l : List Byte) : Nat := crcFinal p (crcRun p (p.init % 2 ^ p.width) l)

/-- Preset 1, the stream check of R93. -/
def crc32P : CrcParam := ⟨32, 0x04C11DB7, 0xFFFFFFFF, true, true, 0xFFFFFFFF⟩
/-- Preset 2, the check of R143. -/
def crc32cP : CrcParam := ⟨32, 0x1EDC6F41, 0xFFFFFFFF, true, true, 0xFFFFFFFF⟩
/-- Preset 3, the check of R56. -/
def crc16P : CrcParam := ⟨16, 0x1021, 0xFFFF, false, false, 0⟩
/-- Preset 4, Table CRC-1. -/
def crc8P : CrcParam := ⟨8, 0x1D, 0xFF, false, false, 0xFF⟩

/-- CRC-32 of a byte list (R93). -/
def crc32 (l : List Byte) : Nat := crcValue crc32P l

/-- CRC-32C of a byte list (R143). -/
def crc32c (l : List Byte) : Nat := crcValue crc32cP l

end Sys2Proof.Machine
end

