-- ==== Sys2Proof/Machine/Regs.lean ====
section
/-! DEFINITION. The register addresses: base of the block (Table HOST-8) plus the offset of the register table of
its chapter; an array register is a function of its index. And the shape of a row of the register table. -/
namespace Sys2Proof.Machine

/-- Access codes of Table SCO-2. -/
inductive Access where
  | rw | rws | ro | rol | cnt | cal | wo
  deriving DecidableEq, Repr

/-- What R455 does to a reserved value of a field: `range lo len min max` takes the nearest end, `enum lo len max reset`
takes the reset value above `max`, `signed lo len n p` keeps a two's-complement field within −n to p, `wslots lo len`
is SUP.PLAN.WSLOTS, bounded by its own G field. -/
inductive FieldRule where
  | range (lo len min max : Nat)
  | enum (lo len max reset : Nat)
  | signed (lo len neg pos : Nat)
  | wslots (lo len : Nat)
  deriving DecidableEq, Repr

/-- One row of the register table. -/
structure RegRow where
  /-- address of element 0 -/
  base : Nat
  /-- stride and count of each array index -/
  dims : List (Nat × Nat)
  access : Access
  reset : Nat
  /-- bits a software write stores; a write-one bit is none of them -/
  wmask : Nat
  /-- bits marked firmware-owned -/
  fmask : Nat
  /-- write-one trigger bits -/
  womask : Nat
  rules : List FieldRule
  deriving DecidableEq, Repr

namespace Reg

abbrev TOP_DEVICE_ID : Nat := 0x000000
abbrev TOP_STEPPING : Nat := 0x000004
abbrev TOP_HOST_CFG : Nat := 0x000010
abbrev TOP_HINT_EN : Nat := 0x000014
abbrev TOP_HINT_CAUSE : Nat := 0x000018
abbrev TOP_HOST_ERR_ADDR : Nat := 0x000020
abbrev TOP_HOST_ERR_INFO : Nat := 0x000024
abbrev TOP_CNT_HOST_ERR : Nat := 0x000030
abbrev TOP_CNT_HOST_TIMEOUT : Nat := 0x000034
abbrev PMU_STATE : Nat := 0x010000
abbrev PMU_STRAPS : Nat := 0x010004
abbrev PMU_RESET_CAUSE : Nat := 0x010008
abbrev PMU_WAKE_SRC : Nat := 0x01000C
abbrev PMU_WAKE_TIME : Nat := 0x010010
abbrev PMU_REFUSE : Nat := 0x010014
abbrev PMU_THAW_LAST : Nat := 0x010018
abbrev PMU_CNT_ENTER : Nat := 0x010020
abbrev PMU_CNT_REFUSE : Nat := 0x010024
abbrev PMU_CNT_THAW : Nat := 0x010028
abbrev PMU_CNT_WARM : Nat := 0x01002C
abbrev PMU_CNT_COLD : Nat := 0x010030
abbrev AON_WAKE_CFG : Nat := 0x020000
abbrev AON_TIMER_LO : Nat := 0x020004
abbrev AON_TIMER_HI : Nat := 0x020008
abbrev AON_TEMP_WAKE : Nat := 0x02000C
abbrev AON_STATUS : Nat := 0x020010
abbrev AON_COUNT_LO : Nat := 0x020014
abbrev AON_COUNT_HI : Nat := 0x020018
abbrev HK_CTRL : Nat := 0x030000
abbrev HK_STATUS : Nat := 0x030004
abbrev HK_HYST : Nat := 0x030008
abbrev HK_ARRAY_TH : Nat := 0x03000C
abbrev HK_CAL_CFG : Nat := 0x030010
abbrev HK_CAL_LAST : Nat := 0x030014
abbrev HK_REFRESH : Nat := 0x030018
abbrev HK_SLK_TX (n : Nat) : Nat := 0x030020 + 0x4 * n
abbrev HK_CNT_ROUND : Nat := 0x030040
abbrev HK_CNT_BAND_CHG : Nat := 0x030044
abbrev HK_CNT_BROKEN : Nat := 0x030048
abbrev HK_CNT_CAL_RUN : Nat := 0x03004C
abbrev HK_CNT_CAL_REJECT : Nat := 0x030050
abbrev HK_CAL_USER (n : Nat) : Nat := 0x030060 + 0x4 * n
abbrev HK_CAL_DRAM (n : Nat) : Nat := 0x030080 + 0x4 * n
abbrev HK_DRAM_EYE (n : Nat) : Nat := 0x0300A0 + 0x4 * n
abbrev HK_CAL_HKCMP : Nat := 0x0300C0
abbrev HK_CH_CFG (n : Nat) : Nat := 0x030100 + 0x10 * n
abbrev HK_CH_TH (n : Nat) : Nat := 0x030104 + 0x10 * n
abbrev HK_CH_VALUE (n : Nat) : Nat := 0x030108 + 0x10 * n
abbrev HK_CH_TH_FIXED (n : Nat) : Nat := 0x0301C4 + 0x10 * n
abbrev SUP_CTRL : Nat := 0x040000
abbrev SUP_STATUS : Nat := 0x040004
abbrev SUP_FSW : Nat := 0x040008
abbrev SUP_PHASE_EN : Nat := 0x04000C
abbrev SUP_VLED_MIN : Nat := 0x040010
abbrev SUP_VLED_MAX : Nat := 0x040014
abbrev SUP_VLED_INIT : Nat := 0x040018
abbrev SUP_BERM : Nat := 0x04001C
abbrev SUP_TRACK : Nat := 0x040020
abbrev SUP_FF_GAIN : Nat := 0x040024
abbrev SUP_SLEW : Nat := 0x040028
abbrev SUP_LAMP_I : Nat := 0x04002C
abbrev SUP_IREF : Nat := 0x040030
abbrev SUP_PLAN : Nat := 0x040034
abbrev SUP_ILIM : Nat := 0x040038
abbrev SUP_HOST_LIMIT : Nat := 0x04003C
abbrev SUP_THERM : Nat := 0x040040
abbrev SUP_PHASE_ILIM : Nat := 0x040044
abbrev SUP_ISNS_GAIN : Nat := 0x040048
abbrev SUP_OV_TH : Nat := 0x04004C
abbrev SUP_UV_MARGIN : Nat := 0x040050
abbrev SUP_IMBAL : Nat := 0x040054
abbrev SUP_REACT : Nat := 0x040058
abbrev SUP_RESTART : Nat := 0x04005C
abbrev SUP_VSET : Nat := 0x040060
abbrev SUP_VLED_MEAS : Nat := 0x040064
abbrev SUP_HMIN : Nat := 0x040068
abbrev SUP_CAPACITY : Nat := 0x04006C
abbrev SUP_PEAK : Nat := 0x040070
abbrev SUP_DERATE_STATUS : Nat := 0x040074
abbrev SUP_DERATE_LIT : Nat := 0x040078
abbrev SUP_PH_I (n : Nat) : Nat := 0x040080 + 0x4 * n
abbrev SUP_CNT_DERATE : Nat := 0x0400A0
abbrev SUP_CNT_LATE_TRIM : Nat := 0x0400A4
abbrev SUP_CNT_LATE_OVER : Nat := 0x0400A8
abbrev SUP_CNT_HEADROOM_LIM : Nat := 0x0400AC
abbrev SUP_CNT_PLAN : Nat := 0x0400B0
abbrev SUP_CNT_OV : Nat := 0x0400B4
abbrev SUP_CNT_UV : Nat := 0x0400B8
abbrev SUP_CNT_PHASE_OFF : Nat := 0x0400BC
abbrev SUP_CNT_CLASS0_OVER : Nat := 0x0400C0
abbrev RAS_CTRL : Nat := 0x050000
abbrev RAS_SOURCE : Nat := 0x050004
abbrev RAS_PERIOD : Nat := 0x050010
abbrev RAS_PERIOD_FRAC : Nat := 0x050014
abbrev RAS_TIMING_COMMIT : Nat := 0x050018
abbrev RAS_EPOCH_NS : Nat := 0x050020
abbrev RAS_EPOCH_S_LO : Nat := 0x050024
abbrev RAS_EPOCH_S_HI : Nat := 0x050028
abbrev RAS_REF_NS : Nat := 0x050030
abbrev RAS_REF_S_LO : Nat := 0x050034
abbrev RAS_REF_S_HI : Nat := 0x050038
abbrev RAS_REF_FRAME : Nat := 0x05003C
abbrev RAS_BLANK_START : Nat := 0x050040
abbrev RAS_BLANK_EFF : Nat := 0x050044
abbrev RAS_FRAME : Nat := 0x050050
abbrev RAS_PHASE : Nat := 0x050054
abbrev RAS_STATUS : Nat := 0x050058
abbrev RAS_LAST_P0 : Nat := 0x05005C
abbrev RAS_SLEW_MAX : Nat := 0x050060
abbrev RAS_SYNC_OFFSET : Nat := 0x050064
abbrev RAS_SYNC_WIN : Nat := 0x050068
abbrev RAS_SYNC_LOSS_LIMIT : Nat := 0x05006C
abbrev RAS_SYNC_OUT : Nat := 0x050070
abbrev RAS_CNT_SYNC_MISS : Nat := 0x050080
abbrev RAS_CNT_SYNC_OUTWIN : Nat := 0x050084
abbrev RAS_CNT_TACT_LATE : Nat := 0x050088
abbrev RAS_CNT_SLEW : Nat := 0x05008C
abbrev RAS_CNT_PERIOD_CHG : Nat := 0x050090
abbrev RAS_TACT_TIME_LO (n : Nat) : Nat := 0x050100 + 0x20 * n
abbrev RAS_TACT_TIME_HI (n : Nat) : Nat := 0x050104 + 0x20 * n
abbrev RAS_TACT_ADDR (n : Nat) : Nat := 0x050108 + 0x20 * n
abbrev RAS_TACT_DATA (n : Nat) : Nat := 0x05010C + 0x20 * n
abbrev RAS_TACT_CTRL (n : Nat) : Nat := 0x050110 + 0x20 * n
abbrev CMP_CANVAS : Nat := 0x060000
abbrev CMP_WMIX : Nat := 0x060004
abbrev CMP_LUT_BANK : Nat := 0x060008
abbrev CMP_GLOBAL_COMMIT : Nat := 0x06000C
abbrev CMP_FETCH_WAIT : Nat := 0x060010
abbrev CMP_STATUS : Nat := 0x060014
abbrev CMP_LAYER_FRAMES : Nat := 0x060018
abbrev CMP_CANVAS_LIVE : Nat := 0x060040
abbrev CMP_WMIX_LIVE : Nat := 0x060044
abbrev CMP_LUT_BANK_LIVE : Nat := 0x060048
abbrev CMP_CNT_ROWS_CUT : Nat := 0x060080
abbrev CMP_CNT_LUT_LIVE_WR : Nat := 0x060084
abbrev CMP_CNT_GLOBAL_COMMIT : Nat := 0x060088
abbrev CMP_LAYER_CTRL (n : Nat) : Nat := 0x060400 + 0x100 * n
abbrev CMP_LAYER_SRC (n : Nat) : Nat := 0x060404 + 0x100 * n
abbrev CMP_LAYER_ALPHA (n : Nat) : Nat := 0x060408 + 0x100 * n
abbrev CMP_LAYER_LEVEL (n : Nat) : Nat := 0x06040C + 0x100 * n
abbrev CMP_LAYER_BG (n : Nat) : Nat := 0x060410 + 0x100 * n
abbrev CMP_LAYER_MAT_A (n : Nat) : Nat := 0x060414 + 0x100 * n
abbrev CMP_LAYER_MAT_B (n : Nat) : Nat := 0x060418 + 0x100 * n
abbrev CMP_LAYER_MAT_C (n : Nat) : Nat := 0x06041C + 0x100 * n
abbrev CMP_LAYER_MAT_D (n : Nat) : Nat := 0x060420 + 0x100 * n
abbrev CMP_LAYER_MAT_E (n : Nat) : Nat := 0x060424 + 0x100 * n
abbrev CMP_LAYER_MAT_F (n : Nat) : Nat := 0x060428 + 0x100 * n
abbrev CMP_LAYER_MISS (n : Nat) : Nat := 0x06042C + 0x100 * n
abbrev CMP_LAYER_CHK (n : Nat) : Nat := 0x060430 + 0x100 * n
abbrev CMP_LAYER_COMMIT (n : Nat) : Nat := 0x06043C + 0x100 * n
abbrev CMP_LAYER_STATUS (n : Nat) : Nat := 0x060480 + 0x100 * n
abbrev CMP_LAYER_RETIRED_BUF (n : Nat) : Nat := 0x060484 + 0x100 * n
abbrev CMP_LAYER_RETIRED_FRAME (n : Nat) : Nat := 0x060488 + 0x100 * n
abbrev CMP_LAYER_READING (n : Nat) : Nat := 0x06048C + 0x100 * n
abbrev CMP_LAYER_CNT_LATE_FRAMES (n : Nat) : Nat := 0x0604A0 + 0x100 * n
abbrev CMP_LAYER_CNT_UNDERRUN (n : Nat) : Nat := 0x0604A4 + 0x100 * n
abbrev CMP_LAYER_CNT_POLICY (n : Nat) : Nat := 0x0604A8 + 0x100 * n
abbrev CMP_LAYER_CNT_COMMIT (n : Nat) : Nat := 0x0604AC + 0x100 * n
abbrev CMP_LAYER_CNT_COMMIT_REJ (n : Nat) : Nat := 0x0604B0 + 0x100 * n
abbrev CMP_LAYER_CNT_BUF_MOD (n : Nat) : Nat := 0x0604B4 + 0x100 * n
abbrev CMP_LAYER_CNT_CHK_SKIP (n : Nat) : Nat := 0x0604B8 + 0x100 * n
abbrev CMP_LAYER_CNT_DISCARD (n : Nat) : Nat := 0x0604BC + 0x100 * n
abbrev BEAM_CTRL : Nat := 0x070000
abbrev BEAM_STATUS : Nat := 0x070004
abbrev BEAM_COMMIT : Nat := 0x070008
abbrev BEAM_CUTOFF : Nat := 0x07000C
abbrev BEAM_LIST_TIMEOUT : Nat := 0x070010
abbrev BEAM_AGE_LIMIT : Nat := 0x070014
abbrev BEAM_MAX_HORIZON : Nat := 0x070018
abbrev BEAM_VMAX : Nat := 0x07001C
abbrev BEAM_PARALLAX : Nat := 0x070020
abbrev BEAM_DEF_DIST : Nat := 0x070024
abbrev BEAM_GRID_AZ : Nat := 0x070028
abbrev BEAM_GRID_EL : Nat := 0x07002C
abbrev BEAM_GRID_BANK : Nat := 0x070030
abbrev BEAM_PATTERN : Nat := 0x070034
abbrev BEAM_TIMEOUT_PAT : Nat := 0x070038
abbrev BEAM_RECOVER : Nat := 0x07003C
abbrev BEAM_LOOKAHEAD : Nat := 0x070040
abbrev BEAM_PAT_VALID : Nat := 0x070044
abbrev BEAM_GLYPH_VALID : Nat := 0x070048
abbrev BEAM_LAST_LIST : Nat := 0x07004C
abbrev BEAM_LAST_LIST_TS : Nat := 0x070050
abbrev BEAM_CAN_ID : Nat := 0x070054
abbrev BEAM_UDP_PORT : Nat := 0x070058
abbrev BEAM_CAN_ASSY : Nat := 0x07005C
abbrev BEAM_HB_SEG (n : Nat) : Nat := 0x070060 + 0x4 * n
abbrev BEAM_CNT_LISTS : Nat := 0x070080
abbrev BEAM_CNT_HEADER : Nat := 0x070084
abbrev BEAM_CNT_CRC : Nat := 0x070088
abbrev BEAM_CNT_ALIVE : Nat := 0x07008C
abbrev BEAM_CNT_DUP : Nat := 0x070090
abbrev BEAM_CNT_ALIVE_GAP : Nat := 0x070094
abbrev BEAM_CNT_OBJ_DROP : Nat := 0x070098
abbrev BEAM_CNT_ASSY : Nat := 0x07009C
abbrev BEAM_CNT_TIMEOUT : Nat := 0x0700A0
abbrev BEAM_CNT_RENDER_LATE : Nat := 0x0700A4
abbrev BEAM_CNT_HORIZON : Nat := 0x0700A8
abbrev BEAM_CNT_SQUASH : Nat := 0x0700AC
abbrev BEAM_CNT_REUSE : Nat := 0x0700B0
abbrev BEAM_CNT_GRID_LIVE_WR : Nat := 0x0700B4
abbrev BEAM_CLASS_CFG (n : Nat) : Nat := 0x070100 + 0x10 * n
abbrev BEAM_CLASS_MARGIN (n : Nat) : Nat := 0x070104 + 0x10 * n
abbrev BEAM_CLASS_CFG_LIVE (n : Nat) : Nat := 0x070180 + 0x10 * n
abbrev BEAM_CLASS_MARGIN_LIVE (n : Nat) : Nat := 0x070184 + 0x10 * n
abbrev BEAM_GLYPH_SIZE (n : Nat) : Nat := 0x070400 + 0x40 * n
abbrev BEAM_GLYPH_H (n : Nat) (m : Nat) : Nat := 0x070404 + 0x40 * n + 0x4 * m
abbrev CORR_CTRL : Nat := 0x080000
abbrev CORR_STATUS : Nat := 0x080004
abbrev CORR_COMMIT : Nat := 0x080008
abbrev CORR_MAP_BASE : Nat := 0x08000C
abbrev CORR_CORR_BASE : Nat := 0x080010
abbrev CORR_STAGE_MAP_BASE : Nat := 0x080014
abbrev CORR_STAGE_CORR_BASE : Nat := 0x080018
abbrev CORR_CURVE_BANK : Nat := 0x080020
abbrev CORR_CLAMP : Nat := 0x080024
abbrev CORR_RELOAD_STATE : Nat := 0x080030
abbrev CORR_CNT_FILL_CAP : Nat := 0x080040
abbrev CORR_CNT_SCAN_ERR : Nat := 0x080044
abbrev CORR_CNT_RELOAD : Nat := 0x080048
abbrev CORR_CNT_MRAM_CRC : Nat := 0x08004C
abbrev CORR_CNT_CURVE_LIVE_WR : Nat := 0x080050
abbrev CORR_CNT_THERM_FB : Nat := 0x080054
abbrev CORR_FILL_ACTIVE : Nat := 0x080058
abbrev CORR_TG (n : Nat) (m : Nat) : Nat := 0x080100 + 0x20 * n + 0x4 * m
abbrev HLT_CTRL : Nat := 0x090000
abbrev HLT_STATUS : Nat := 0x090004
abbrev HLT_VF_WINDOW : Nat := 0x090008
abbrev HLT_VF_TC : Nat := 0x09000C
abbrev HLT_MAP_BASE : Nat := 0x090010
abbrev HLT_VF_REF_BASE : Nat := 0x090014
abbrev HLT_EVT_LIMIT : Nat := 0x090018
abbrev HLT_SEG_FAIL_LIMIT : Nat := 0x09001C
abbrev HLT_RPT_LIMIT : Nat := 0x090020
abbrev HLT_REACT : Nat := 0x090024
abbrev HLT_FAULTS : Nat := 0x090028
abbrev HLT_TOTAL_OPEN : Nat := 0x090030
abbrev HLT_TOTAL_SHORT : Nat := 0x090034
abbrev HLT_TOTAL_WEAK : Nat := 0x090038
abbrev HLT_CAPTURE_STATE : Nat := 0x09003C
abbrev HLT_CNT_CLASS_CHG : Nat := 0x090040
abbrev HLT_CNT_EVT_BULK : Nat := 0x090044
abbrev HLT_CNT_NO_RPT : Nat := 0x090048
abbrev HLT_CNT_VF_NA : Nat := 0x09004C
abbrev HLT_CNT_SEG_FAULT : Nat := 0x090050
abbrev HLT_VF_SUSP (n : Nat) : Nat := 0x090080 + 0x4 * n
abbrev HLT_RPT_LOSS (n : Nat) : Nat := 0x0900A0 + 0x4 * n
abbrev HLT_SEGFAULT (n : Nat) : Nat := 0x0900C0 + 0x4 * n
abbrev HLT_SEG_COUNT (n : Nat) : Nat := 0x090400 + 0x4 * n
abbrev POL_COMMIT : Nat := 0x0A0000
abbrev POL_STATUS : Nat := 0x0A0004
abbrev POL_FB_STATUS : Nat := 0x0A0008
abbrev POL_FB_CTRL : Nat := 0x0A000C
abbrev POL_ALIVE_CFG : Nat := 0x0A0010
abbrev POL_FB_FRAME : Nat := 0x0A0014
abbrev POL_MISMATCH_LO : Nat := 0x0A0020
abbrev POL_MISMATCH_HI : Nat := 0x0A0024
abbrev POL_SKIP_LO : Nat := 0x0A0028
abbrev POL_SKIP_HI : Nat := 0x0A002C
abbrev POL_HOLD_LO : Nat := 0x0A0030
abbrev POL_HOLD_HI : Nat := 0x0A0034
abbrev POL_CNT_SKIP : Nat := 0x0A0080
abbrev POL_CNT_FALLBACK : Nat := 0x0A0084
abbrev POL_CNT_FB_DARK : Nat := 0x0A0088
abbrev POL_CNT_FB_EXTRA : Nat := 0x0A008C
abbrev POL_CNT_CLEAR_REJ : Nat := 0x0A0090
abbrev POL_P_CFG (n : Nat) : Nat := 0x0A0400 + 0x20 * n
abbrev POL_P_RECT_X (n : Nat) : Nat := 0x0A0404 + 0x20 * n
abbrev POL_P_RECT_Y (n : Nat) : Nat := 0x0A0408 + 0x20 * n
abbrev POL_P_EXPECT (n : Nat) : Nat := 0x0A040C + 0x20 * n
abbrev POL_P_SIG (n : Nat) : Nat := 0x0A0410 + 0x20 * n
abbrev POL_P_CNT_MISMATCH (n : Nat) : Nat := 0x0A0414 + 0x20 * n
abbrev SNOW_STATUS : Nat := 0x0B0000
abbrev SNOW_FREE : Nat := 0x0B0004
abbrev SNOW_SEQ : Nat := 0x0B0008
abbrev SNOW_SLOT_EXTENT (n : Nat) : Nat := 0x0B0010 + 0x10 * n
abbrev SNOW_SLOT_SIZE (n : Nat) : Nat := 0x0B0014 + 0x10 * n
abbrev SNOW_SLOT_CRC (n : Nat) : Nat := 0x0B0018 + 0x10 * n
abbrev SNOW_CNT_ECC_1 : Nat := 0x0B0080
abbrev SNOW_CNT_ECC_2 : Nat := 0x0B0084
abbrev SNOW_CNT_WRITE : Nat := 0x0B0088
abbrev SNOW_CNT_MIRROR_FAIL : Nat := 0x0B008C
abbrev SNOW_CNT_RESTORE : Nat := 0x0B0090
abbrev SEG_SEG_CFG (n : Nat) : Nat := 0x100000 + 0x100 * n
abbrev SEG_SEG_CORR (n : Nat) : Nat := 0x100010 + 0x100 * n
abbrev SEG_SEG_EDGE_NE (n : Nat) : Nat := 0x100014 + 0x100 * n
abbrev SEG_SEG_EDGE_SW (n : Nat) : Nat := 0x100018 + 0x100 * n
abbrev SEG_SEG_IREF (n : Nat) : Nat := 0x10001C + 0x100 * n
abbrev SEG_SEG_PLAN (n : Nat) : Nat := 0x100020 + 0x100 * n
abbrev SLK_CFG : Nat := 0x120000
abbrev SLK_HB_PERIOD : Nat := 0x120004
abbrev SLK_TE_CFG : Nat := 0x120008
abbrev SLK_TE_WIN : Nat := 0x12000C
abbrev SLK_TE_MASK : Nat := 0x120010
abbrev SLK_HOLD_LIMIT : Nat := 0x120014
abbrev SLK_RETRAIN_CRC : Nat := 0x120018
abbrev SLK_NAK_LIMIT : Nat := 0x12001C
abbrev SLK_TE_OFFSET : Nat := 0x120020
abbrev SLK_CNT_TE_MISS : Nat := 0x120024
abbrev SLK_LINK_ACTIVE : Nat := 0x120028
abbrev SLK_LINK_DOWN : Nat := 0x12002C
abbrev SLK_LINK_CTRL (n : Nat) : Nat := 0x120400 + 0x80 * n
abbrev SLK_LINK_STATE (n : Nat) : Nat := 0x120404 + 0x80 * n
abbrev SLK_LINK_SEGSTATE (n : Nat) : Nat := 0x120408 + 0x80 * n
abbrev SLK_LINK_DELAY (n : Nat) : Nat := 0x12040C + 0x80 * n
abbrev SLK_LINK_PARTNER (n : Nat) : Nat := 0x120410 + 0x80 * n
abbrev SLK_LINK_LAUNCH (n : Nat) : Nat := 0x120414 + 0x80 * n
abbrev SLK_LINK_RXCAL (n : Nat) : Nat := 0x120418 + 0x80 * n
abbrev SLK_LINK_CAPS (n : Nat) : Nat := 0x12041C + 0x80 * n
abbrev SLK_LINK_GEOM (n : Nat) : Nat := 0x120420 + 0x80 * n
abbrev SLK_LINK_DRIVER_ID (n : Nat) : Nat := 0x120424 + 0x80 * n
abbrev SLK_LINK_TX_CFG (n : Nat) : Nat := 0x120428 + 0x80 * n
abbrev SLK_LINK_HB (n : Nat) : Nat := 0x12042C + 0x80 * n
abbrev SLK_LINK_HOLD_LEFT (n : Nat) : Nat := 0x120430 + 0x80 * n
abbrev SLK_LINK_CNT_CRC_RX (n : Nat) : Nat := 0x120434 + 0x80 * n
abbrev SLK_LINK_CNT_CODE_ERR (n : Nat) : Nat := 0x120438 + 0x80 * n
abbrev SLK_LINK_CNT_NAK_RX (n : Nat) : Nat := 0x12043C + 0x80 * n
abbrev SLK_LINK_CNT_RESEND (n : Nat) : Nat := 0x120440 + 0x80 * n
abbrev SLK_LINK_CNT_ACK_TO (n : Nat) : Nat := 0x120444 + 0x80 * n
abbrev SLK_LINK_CNT_HB_MISS (n : Nat) : Nat := 0x120448 + 0x80 * n
abbrev SLK_LINK_CNT_RETRAIN (n : Nat) : Nat := 0x12044C + 0x80 * n
abbrev SLK_LINK_CNT_TYPE_ERR (n : Nat) : Nat := 0x120450 + 0x80 * n
abbrev SLK_LINK_CNT_LATE_RPT (n : Nat) : Nat := 0x120454 + 0x80 * n
abbrev SLK_LINK_CNT_ROWS_CUT (n : Nat) : Nat := 0x120458 + 0x80 * n
abbrev SLK_LINK_CNT_HOLD_EXP (n : Nat) : Nat := 0x12045C + 0x80 * n
abbrev SDS_REFCLK_STATUS : Nat := 0x140000
abbrev SDS_CNT_CFG_REJ : Nat := 0x140004
abbrev SDS_Q_CFG (n : Nat) : Nat := 0x140100 + 0x20 * n
abbrev SDS_Q_STATUS (n : Nat) : Nat := 0x140104 + 0x20 * n
abbrev SDS_LANE_CTRL (n : Nat) : Nat := 0x140400 + 0x100 * n
abbrev SDS_LANE_STATE (n : Nat) : Nat := 0x140404 + 0x100 * n
abbrev SDS_LANE_PWR (n : Nat) : Nat := 0x140408 + 0x100 * n
abbrev SDS_LANE_RESTART (n : Nat) : Nat := 0x14040C + 0x100 * n
abbrev SDS_LANE_PARTNER (n : Nat) : Nat := 0x140410 + 0x100 * n
abbrev SDS_LANE_PARTNER_X (n : Nat) : Nat := 0x140414 + 0x100 * n
abbrev SDS_LANE_PARTNER_UID_LO (n : Nat) : Nat := 0x140418 + 0x100 * n
abbrev SDS_LANE_PARTNER_UID_HI (n : Nat) : Nat := 0x14041C + 0x100 * n
abbrev SDS_LANE_RXCAL (n : Nat) : Nat := 0x140420 + 0x100 * n
abbrev SDS_LANE_TXEQ (n : Nat) : Nat := 0x140424 + 0x100 * n
abbrev SDS_LANE_CNT_ATTEMPT (n : Nat) : Nat := 0x140440 + 0x100 * n
abbrev SDS_LANE_CNT_DOWN (n : Nat) : Nat := 0x140444 + 0x100 * n
abbrev SDS_LANE_CNT_LOS (n : Nat) : Nat := 0x140448 + 0x100 * n
abbrev SDS_LANE_CNT_CODE_ERR (n : Nat) : Nat := 0x14044C + 0x100 * n
abbrev SDS_LANE_CNT_FTS_FAIL (n : Nat) : Nat := 0x140450 + 0x100 * n
abbrev SDS_LANE_CNT_SLEEP (n : Nat) : Nat := 0x140454 + 0x100 * n
abbrev SDS_LANE_CNT_PRBS_ERR (n : Nat) : Nat := 0x140458 + 0x100 * n
abbrev SDS_STR_CTRL (n : Nat) : Nat := 0x148000 + 0x100 * n
abbrev SDS_STR_STATUS (n : Nat) : Nat := 0x148004 + 0x100 * n
abbrev SDS_STR_SURF (n : Nat) : Nat := 0x148008 + 0x100 * n
abbrev SDS_STR_FRAME_TIMEOUT (n : Nat) : Nat := 0x14800C + 0x100 * n
abbrev SDS_STR_LOSS_TIMEOUT (n : Nat) : Nat := 0x148010 + 0x100 * n
abbrev SDS_STR_LAST_SFN (n : Nat) : Nat := 0x148014 + 0x100 * n
abbrev SDS_STR_LAST_TS (n : Nat) : Nat := 0x148018 + 0x100 * n
abbrev SDS_STR_LAST_PERIOD (n : Nat) : Nat := 0x14801C + 0x100 * n
abbrev SDS_STR_RESV (n : Nat) : Nat := 0x148020 + 0x100 * n
abbrev SDS_STR_CNT_FRAMES (n : Nat) : Nat := 0x148040 + 0x100 * n
abbrev SDS_STR_CNT_CRC (n : Nat) : Nat := 0x148044 + 0x100 * n
abbrev SDS_STR_CNT_FMT_ERR (n : Nat) : Nat := 0x148048 + 0x100 * n
abbrev SDS_STR_CNT_SEQ_ERR (n : Nat) : Nat := 0x14804C + 0x100 * n
abbrev SDS_STR_CNT_INCOMPLETE (n : Nat) : Nat := 0x148050 + 0x100 * n
abbrev SDS_STR_CNT_TIMEOUT (n : Nat) : Nat := 0x148054 + 0x100 * n
abbrev SDS_STR_CNT_ABORT (n : Nat) : Nat := 0x148058 + 0x100 * n
abbrev SDS_STR_CNT_DROPPED (n : Nat) : Nat := 0x14805C + 0x100 * n
abbrev SDS_STR_CNT_OVERFLOW (n : Nat) : Nat := 0x148060 + 0x100 * n
abbrev SDS_STR_CNT_META (n : Nat) : Nat := 0x148064 + 0x100 * n
abbrev SDS_STR_RESV_TOTAL : Nat := 0x148400
abbrev FAB_CTRL : Nat := 0x160000
abbrev FAB_STATUS : Nat := 0x160004
abbrev FAB_UID_LO : Nat := 0x160008
abbrev FAB_UID_HI : Nat := 0x16000C
abbrev FAB_ROOT_UID_LO : Nat := 0x160010
abbrev FAB_ROOT_UID_HI : Nat := 0x160014
abbrev FAB_RT_BANK : Nat := 0x160018
abbrev FAB_STRIP_ROWS : Nat := 0x16001C
abbrev FAB_DELAY_TH : Nat := 0x160020
abbrev FAB_COMMIT_LEAD : Nat := 0x160024
abbrev FAB_CNT_DISCOVERY : Nat := 0x160030
abbrev FAB_CNT_ROUTE_COMMIT : Nat := 0x160034
abbrev FAB_CNT_HOP_LIMIT : Nat := 0x160038
abbrev FAB_CNT_NOSUB : Nat := 0x16003C
abbrev FAB_CNT_SEQ_GAP : Nat := 0x160040
abbrev FAB_CNT_SEND_CUT : Nat := 0x160044
abbrev FAB_P_CTRL (n : Nat) : Nat := 0x160400 + 0x100 * n
abbrev FAB_P_STATUS (n : Nat) : Nat := 0x160404 + 0x100 * n
abbrev FAB_P_NEIGH_LO (n : Nat) : Nat := 0x160408 + 0x100 * n
abbrev FAB_P_NEIGH_HI (n : Nat) : Nat := 0x16040C + 0x100 * n
abbrev FAB_P_CREDIT01 (n : Nat) : Nat := 0x160410 + 0x100 * n
abbrev FAB_P_CREDIT23 (n : Nat) : Nat := 0x160414 + 0x100 * n
abbrev FAB_P_CNT_CRC (n : Nat) : Nat := 0x160418 + 0x100 * n
abbrev FAB_P_CNT_DOWN (n : Nat) : Nat := 0x16041C + 0x100 * n
abbrev FAB_P_VC_CNT_TX (n : Nat) (m : Nat) : Nat := 0x160420 + 0x100 * n + 0x10 * m
abbrev FAB_P_VC_CNT_RX (n : Nat) (m : Nat) : Nat := 0x160424 + 0x100 * n + 0x10 * m
abbrev FAB_P_VC_CNT_DROP (n : Nat) (m : Nat) : Nat := 0x160428 + 0x100 * n + 0x10 * m
abbrev FAB_P_VC_CNT_DELAY (n : Nat) (m : Nat) : Nat := 0x16042C + 0x100 * n + 0x10 * m
abbrev FAB_FWD_CFG (n : Nat) : Nat := 0x160800 + 0x10 * n
abbrev FAB_FWD_LINES (n : Nat) : Nat := 0x160804 + 0x10 * n
abbrev FAB_SUB_CFG (n : Nat) : Nat := 0x160C00 + 0x40 * n
abbrev FAB_SUB_WIN (n : Nat) : Nat := 0x160C04 + 0x40 * n
abbrev FAB_SUB_LOSS_TIMEOUT (n : Nat) : Nat := 0x160C08 + 0x40 * n
abbrev FAB_SUB_STATUS (n : Nat) : Nat := 0x160C0C + 0x40 * n
abbrev FAB_SUB_CNT_LATE_STRIP (n : Nat) : Nat := 0x160C10 + 0x40 * n
abbrev FAB_SUB_CNT_LATE_PKT (n : Nat) : Nat := 0x160C14 + 0x40 * n
abbrev FAB_SUB_CNT_EARLY (n : Nat) : Nat := 0x160C18 + 0x40 * n
abbrev FAB_SUB_CNT_FMT (n : Nat) : Nat := 0x160C1C + 0x40 * n
abbrev FAB_SUB_CNT_FRAMES (n : Nat) : Nat := 0x160C20 + 0x40 * n
abbrev MAC_CTRL (n : Nat) : Nat := 0x180000 + 0x10000 * n
abbrev MAC_STATUS (n : Nat) : Nat := 0x180004 + 0x10000 * n
abbrev MAC_ADDR_LO (n : Nat) : Nat := 0x180008 + 0x10000 * n
abbrev MAC_ADDR_HI (n : Nat) : Nat := 0x18000C + 0x10000 * n
abbrev MAC_IP (n : Nat) : Nat := 0x180010 + 0x10000 * n
abbrev MAC_IP_MASK (n : Nat) : Nat := 0x180014 + 0x10000 * n
abbrev MAC_GATEWAY (n : Nat) : Nat := 0x180018 + 0x10000 * n
abbrev MAC_MBX_PORT (n : Nat) : Nat := 0x18001C + 0x10000 * n
abbrev MAC_CNT_RX_OK (n : Nat) : Nat := 0x180080 + 0x10000 * n
abbrev MAC_CNT_RX_FCS (n : Nat) : Nat := 0x180084 + 0x10000 * n
abbrev MAC_CNT_RX_SIZE (n : Nat) : Nat := 0x180088 + 0x10000 * n
abbrev MAC_CNT_RX_FILTER (n : Nat) : Nat := 0x18008C + 0x10000 * n
abbrev MAC_CNT_TX_OK (n : Nat) : Nat := 0x180090 + 0x10000 * n
abbrev MAC_CNT_IP_DROP (n : Nat) : Nat := 0x180094 + 0x10000 * n
abbrev MAC_CNT_UDP_NOPORT (n : Nat) : Nat := 0x180098 + 0x10000 * n
abbrev MAC_CNT_LINK_CHG (n : Nat) : Nat := 0x18009C + 0x10000 * n
abbrev PTP_CTRL : Nat := 0x1A0000
abbrev PTP_STATUS : Nat := 0x1A0004
abbrev PTP_TIME_NS : Nat := 0x1A0010
abbrev PTP_TIME_S_LO : Nat := 0x1A0014
abbrev PTP_TIME_S_HI : Nat := 0x1A0018
abbrev PTP_TIME_FRAC : Nat := 0x1A001C
abbrev PTP_TOTAL_LO : Nat := 0x1A0020
abbrev PTP_TOTAL_HI : Nat := 0x1A0024
abbrev PTP_SET_NS : Nat := 0x1A0030
abbrev PTP_SET_S_LO : Nat := 0x1A0034
abbrev PTP_SET_S_HI : Nat := 0x1A0038
abbrev PTP_SET_CTRL : Nat := 0x1A003C
abbrev PTP_STEP_VAL : Nat := 0x1A0040
abbrev PTP_SERVO_CFG : Nat := 0x1A0050
abbrev PTP_SERVO_OFFSET_NS : Nat := 0x1A0054
abbrev PTP_SERVO_OFFSET_FRAC : Nat := 0x1A0058
abbrev PTP_STEP_TH : Nat := 0x1A005C
abbrev PTP_LOCK_TH : Nat := 0x1A0060
abbrev PTP_HOLD_TIMEOUT : Nat := 0x1A0064
abbrev PTP_RATE : Nat := 0x1A0068
abbrev PTP_INTEG : Nat := 0x1A006C
abbrev PTP_LAST_OFFSET : Nat := 0x1A0070
abbrev PTP_AON_TRIM : Nat := 0x1A0074
abbrev PTP_CNT_STEP : Nat := 0x1A0080
abbrev PTP_CNT_CLAMP : Nat := 0x1A0084
abbrev PTP_CNT_HOLDOVER : Nat := 0x1A0088
abbrev PTP_CNT_OFFSET : Nat := 0x1A008C
abbrev PTP_PORT_CFG (n : Nat) : Nat := 0x1A0100 + 0x40 * n
abbrev PTP_PORT_STATUS (n : Nat) : Nat := 0x1A0104 + 0x40 * n
abbrev PTP_PORT_EG_ADJ (n : Nat) : Nat := 0x1A0108 + 0x40 * n
abbrev PTP_PORT_IG_ADJ (n : Nat) : Nat := 0x1A010C + 0x40 * n
abbrev PTP_PORT_DELAY (n : Nat) : Nat := 0x1A0110 + 0x40 * n
abbrev PTP_PORT_NRR (n : Nat) : Nat := 0x1A0114 + 0x40 * n
abbrev PTP_PORT_CNT_TX (n : Nat) : Nat := 0x1A0120 + 0x40 * n
abbrev PTP_PORT_CNT_RX (n : Nat) : Nat := 0x1A0124 + 0x40 * n
abbrev PTP_PORT_CNT_TS_MISS (n : Nat) : Nat := 0x1A0128 + 0x40 * n
abbrev PTP_PORT_CNT_BAD (n : Nat) : Nat := 0x1A012C + 0x40 * n
abbrev PTP_TT_CTRL (n : Nat) : Nat := 0x1A0400 + 0x40 * n
abbrev PTP_TT_CFG (n : Nat) : Nat := 0x1A0404 + 0x40 * n
abbrev PTP_TT_START_LO (n : Nat) : Nat := 0x1A0408 + 0x40 * n
abbrev PTP_TT_START_HI (n : Nat) : Nat := 0x1A040C + 0x40 * n
abbrev PTP_TT_PERIOD (n : Nat) : Nat := 0x1A0410 + 0x40 * n
abbrev PTP_TT_PERIOD_FRAC (n : Nat) : Nat := 0x1A0414 + 0x40 * n
abbrev PTP_TT_WIDTH (n : Nat) : Nat := 0x1A0418 + 0x40 * n
abbrev PTP_TT_SKIP (n : Nat) : Nat := 0x1A041C + 0x40 * n
abbrev PTP_TT_NEXT (n : Nat) : Nat := 0x1A0420 + 0x40 * n
abbrev PTP_TC_CFG (n : Nat) : Nat := 0x1A0600 + 0x20 * n
abbrev PTP_TC_TS_LO (n : Nat) : Nat := 0x1A0604 + 0x20 * n
abbrev PTP_TC_TS_HI (n : Nat) : Nat := 0x1A0608 + 0x20 * n
abbrev PTP_TC_STATUS (n : Nat) : Nat := 0x1A060C + 0x20 * n
abbrev PTP_TC_POP (n : Nat) : Nat := 0x1A0610 + 0x20 * n
abbrev PTP_TC_CNT_OVF (n : Nat) : Nat := 0x1A0614 + 0x20 * n
abbrev CAN_CTRL (n : Nat) : Nat := 0x1B0000 + 0x10000 * n
abbrev CAN_STATUS (n : Nat) : Nat := 0x1B0004 + 0x10000 * n
abbrev CAN_NBT (n : Nat) : Nat := 0x1B0008 + 0x10000 * n
abbrev CAN_DBT (n : Nat) : Nat := 0x1B000C + 0x10000 * n
abbrev CAN_TDC (n : Nat) : Nat := 0x1B0010 + 0x10000 * n
abbrev CAN_RESTART (n : Nat) : Nat := 0x1B0014 + 0x10000 * n
abbrev CAN_MBX_ID_RX (n : Nat) : Nat := 0x1B0018 + 0x10000 * n
abbrev CAN_MBX_ID_TX (n : Nat) : Nat := 0x1B001C + 0x10000 * n
abbrev CAN_CNT_RX (n : Nat) : Nat := 0x1B0080 + 0x10000 * n
abbrev CAN_CNT_TX (n : Nat) : Nat := 0x1B0084 + 0x10000 * n
abbrev CAN_CNT_ERR (n : Nat) : Nat := 0x1B0088 + 0x10000 * n
abbrev CAN_CNT_BUSOFF (n : Nat) : Nat := 0x1B008C + 0x10000 * n
abbrev CAN_CNT_OVR (n : Nat) : Nat := 0x1B0090 + 0x10000 * n
abbrev CAN_MB_CFG (n : Nat) (m : Nat) : Nat := 0x1B0100 + 0x10000 * n + 0x10 * m
abbrev CAN_MB_MASK (n : Nat) (m : Nat) : Nat := 0x1B0104 + 0x10000 * n + 0x10 * m
abbrev CAN_MB_STATUS (n : Nat) (m : Nat) : Nat := 0x1B0108 + 0x10000 * n + 0x10 * m
abbrev CRC_ACTIVE : Nat := 0x1D0000
abbrev CRC_CNT_CFG_REJ : Nat := 0x1D0004
abbrev CRC_CH_CTRL (n : Nat) : Nat := 0x1D0100 + 0x80 * n
abbrev CRC_CH_POLY (n : Nat) : Nat := 0x1D0104 + 0x80 * n
abbrev CRC_CH_INIT (n : Nat) : Nat := 0x1D0108 + 0x80 * n
abbrev CRC_CH_XOROUT (n : Nat) : Nat := 0x1D010C + 0x80 * n
abbrev CRC_CH_PARAM (n : Nat) : Nat := 0x1D0110 + 0x80 * n
abbrev CRC_CH_START_LO (n : Nat) : Nat := 0x1D0114 + 0x80 * n
abbrev CRC_CH_START_HI (n : Nat) : Nat := 0x1D0118 + 0x80 * n
abbrev CRC_CH_LENGTH (n : Nat) : Nat := 0x1D011C + 0x80 * n
abbrev CRC_CH_BLOCK (n : Nat) : Nat := 0x1D0120 + 0x80 * n
abbrev CRC_CH_STRIDE (n : Nat) : Nat := 0x1D0124 + 0x80 * n
abbrev CRC_CH_ATTACH (n : Nat) : Nat := 0x1D0128 + 0x80 * n
abbrev CRC_CH_AUX (n : Nat) : Nat := 0x1D012C + 0x80 * n
abbrev CRC_CH_CMD (n : Nat) : Nat := 0x1D0130 + 0x80 * n
abbrev CRC_CH_RESULT (n : Nat) : Nat := 0x1D0134 + 0x80 * n
abbrev CRC_CH_STATUS (n : Nat) : Nat := 0x1D0138 + 0x80 * n
abbrev CRC_CH_ALIVE (n : Nat) : Nat := 0x1D013C + 0x80 * n
abbrev CRC_CH_CNT_OK (n : Nat) : Nat := 0x1D0140 + 0x80 * n
abbrev CRC_CH_CNT_CRC_ERR (n : Nat) : Nat := 0x1D0144 + 0x80 * n
abbrev CRC_CH_CNT_REPEAT (n : Nat) : Nat := 0x1D0148 + 0x80 * n
abbrev CRC_CH_CNT_GAP (n : Nat) : Nat := 0x1D014C + 0x80 * n
abbrev CRC_CH_CNT_ALIVE_ERR (n : Nat) : Nat := 0x1D0150 + 0x80 * n
abbrev CRC_CH_CNT_RESYNC (n : Nat) : Nat := 0x1D0154 + 0x80 * n
abbrev CRC_CH_CNT_INVALID (n : Nat) : Nat := 0x1D0158 + 0x80 * n
abbrev CRC_CH_CNT_START_BUSY (n : Nat) : Nat := 0x1D015C + 0x80 * n
abbrev MBX_STATUS : Nat := 0x1E0000
abbrev MBX_CAN_ASSY : Nat := 0x1E0004
abbrev MBX_TIMED_PENDING : Nat := 0x1E0008
abbrev MBX_MB_CFG (n : Nat) : Nat := 0x1E0100 + 0x40 * n
abbrev MBX_MB_EVT_MASK (n : Nat) : Nat := 0x1E0104 + 0x40 * n
abbrev MBX_MB_IN_SLUICE (n : Nat) : Nat := 0x1E0108 + 0x40 * n
abbrev MBX_MB_IN_RD (n : Nat) : Nat := 0x1E010C + 0x40 * n
abbrev MBX_MB_OUT_WR (n : Nat) : Nat := 0x1E0110 + 0x40 * n
abbrev MBX_MB_OUT_SLUICE (n : Nat) : Nat := 0x1E0114 + 0x40 * n
abbrev MBX_MB_STATUS (n : Nat) : Nat := 0x1E0118 + 0x40 * n
abbrev MBX_MB_CNT_RX (n : Nat) : Nat := 0x1E0120 + 0x40 * n
abbrev MBX_MB_CNT_BAD_LENGTH (n : Nat) : Nat := 0x1E0124 + 0x40 * n
abbrev MBX_MB_CNT_BAD_CRC (n : Nat) : Nat := 0x1E0128 + 0x40 * n
abbrev MBX_MB_CNT_BAD_ALIVE (n : Nat) : Nat := 0x1E012C + 0x40 * n
abbrev MBX_MB_CNT_ALIVE_GAP (n : Nat) : Nat := 0x1E0130 + 0x40 * n
abbrev MBX_MB_CNT_DENIED (n : Nat) : Nat := 0x1E0134 + 0x40 * n
abbrev MBX_MB_CNT_EVT_DROP (n : Nat) : Nat := 0x1E0138 + 0x40 * n
abbrev MBX_RULE_MATCH (n : Nat) : Nat := 0x1E0400 + 0x10 * n
abbrev MBX_RULE_INDEX (n : Nat) : Nat := 0x1E0404 + 0x10 * n
abbrev DRAM_SURF_POOL_BASE : Nat := 0x1F0000
abbrev DRAM_SURF_POOL_SIZE : Nat := 0x1F0004
abbrev DRAM_POOL_FREE : Nat := 0x1F0008
abbrev DRAM_POOL_LARGEST : Nat := 0x1F000C
abbrev DRAM_SURF_VALID_LO : Nat := 0x1F0010
abbrev DRAM_SURF_VALID_HI : Nat := 0x1F0014
abbrev DRAM_CNT_MAP_REJ : Nat := 0x1F0018
abbrev DRAM_SURF_CFG (n : Nat) : Nat := 0x1F0100 + 0x10 * n
abbrev DRAM_SURF_BASE (n : Nat) : Nat := 0x1F0104 + 0x10 * n
abbrev DRAM_SURF_STATE (n : Nat) : Nat := 0x1F0108 + 0x10 * n
abbrev GPIO_PIN_CFG (n : Nat) : Nat := 0x200000 + 0x4 * n
abbrev GPIO_IN : Nat := 0x200040
abbrev GPIO_BANK : Nat := 0x200044
abbrev GPIO_DRV_A : Nat := 0x200048
abbrev GPIO_DRV_B : Nat := 0x20004C
abbrev GPIO_CNT_BANK_LOSS : Nat := 0x200050
abbrev FW_STATE : Nat := 0x210000
abbrev FW_VERSION : Nat := 0x210004
abbrev FW_GEN : Nat := 0x210008
abbrev FW_IF_REV : Nat := 0x21000C

end Reg

end Sys2Proof.Machine
end

