-- ==== Sys2Proof/Machine/RegTable.lean ====
section
/-! DEFINITION. The register table: one row per register (or array of registers) of the register tables of the
chapters (R384, R386 and the tables each chapter names as the definition of its registers), with base address,
array strides and counts, access code (R378), reset value, the bits software may write, the bits marked
firmware-owned, the write-one trigger bits, and the ranges and enumerations R455 speaks of. -/
namespace Sys2Proof.Machine

/-- Registers of block TOP (Table HOST-8: base 0x00_0000). -/
def regRowsTOP_0 : List RegRow := [
  /- TOP.DEVICE_ID -/ ⟨0x000000, [], .ro, 0x0, 0x0, 0x0, 0x0, []⟩,
  /- TOP.STEPPING -/ ⟨0x000004, [], .ro, 0x0, 0x0, 0x0, 0x0, []⟩,
  /- TOP.HOST_CFG -/ ⟨0x000010, [], .rw, 0x0, 0x1, 0x0, 0x0, []⟩,
  /- TOP.HINT_EN -/ ⟨0x000014, [], .rw, 0x30000, 0x30FFF, 0x0, 0x0, []⟩,
  /- TOP.HINT_CAUSE -/ ⟨0x000018, [], .rol, 0x0, 0x0, 0x0, 0x0, []⟩,
  /- TOP.HOST_ERR_ADDR -/ ⟨0x000020, [], .rol, 0x0, 0x0, 0x0, 0x0, []⟩,
  /- TOP.HOST_ERR_INFO -/ ⟨0x000024, [], .rol, 0x0, 0x0, 0x0, 0x0, []⟩,
  /- TOP.CNT_HOST_ERR -/ ⟨0x000030, [], .cnt, 0x0, 0x0, 0x0, 0x0, []⟩,
  /- TOP.CNT_HOST_TIMEOUT -/ ⟨0x000034, [], .cnt, 0x0, 0x0, 0x0, 0x0, []⟩]

def regRowsTOP : List RegRow := regRowsTOP_0

/-- Registers of block PMU (Table HOST-8: base 0x01_0000). -/
def regRowsPMU_0 : List RegRow := [
  /- PMU.STATE -/ ⟨0x010000, [], .rol, 0x0, 0x0, 0x0, 0x0, []⟩,
  /- PMU.STRAPS -/ ⟨0x010004, [], .ro, 0x0, 0x0, 0x0, 0x0, []⟩,
  /- PMU.RESET_CAUSE -/ ⟨0x010008, [], .rol, 0x1, 0x0, 0x0, 0x0, []⟩,
  /- PMU.WAKE_SRC -/ ⟨0x01000C, [], .rol, 0x0, 0x0, 0x0, 0x0, []⟩,
  /- PMU.WAKE_TIME -/ ⟨0x010010, [], .rol, 0x0, 0x0, 0x0, 0x0, []⟩,
  /- PMU.REFUSE -/ ⟨0x010014, [], .rol, 0x0, 0x0, 0x0, 0x0, []⟩,
  /- PMU.THAW_LAST -/ ⟨0x010018, [], .rol, 0x0, 0x0, 0x0, 0x0, []⟩,
  /- PMU.CNT_ENTER -/ ⟨0x010020, [], .cnt, 0x0, 0x0, 0x0, 0x0, []⟩,
  /- PMU.CNT_REFUSE -/ ⟨0x010024, [], .cnt, 0x0, 0x0, 0x0, 0x0, []⟩,
  /- PMU.CNT_THAW -/ ⟨0x010028, [], .cnt, 0x0, 0x0, 0x0, 0x0, []⟩,
  /- PMU.CNT_WARM -/ ⟨0x01002C, [], .cnt, 0x0, 0x0, 0x0, 0x0, []⟩,
  /- PMU.CNT_COLD -/ ⟨0x010030, [], .cnt, 0x0, 0x0, 0x0, 0x0, []⟩]

def regRowsPMU : List RegRow := regRowsPMU_0

/-- Registers of block AON (Table HOST-8: base 0x02_0000). -/
def regRowsAON_0 : List RegRow := [
  /- AON.WAKE_CFG -/ ⟨0x020000, [], .rw, 0x0, 0x1F, 0x1F, 0x0, []⟩,
  /- AON.TIMER_LO -/ ⟨0x020004, [], .rw, 0x0, 0xFFFFFFFF, 0xFFFFFFFF, 0x0, []⟩,
  /- AON.TIMER_HI -/ ⟨0x020008, [], .rw, 0x0, 0xFFFFFFFF, 0xFFFFFFFF, 0x0, []⟩,
  /- AON.TEMP_WAKE -/ ⟨0x02000C, [], .rw, 0x0, 0x1FF, 0x0, 0x0, []⟩,
  /- AON.STATUS -/ ⟨0x020010, [], .rol, 0x0, 0x0, 0x0, 0x0, []⟩,
  /- AON.COUNT_LO -/ ⟨0x020014, [], .rol, 0x0, 0x0, 0x0, 0x0, []⟩,
  /- AON.COUNT_HI -/ ⟨0x020018, [], .rol, 0x0, 0x0, 0x0, 0x0, []⟩]

def regRowsAON : List RegRow := regRowsAON_0

/-- Registers of block HK (Table HOST-8: base 0x03_0000). ROUND has 6 bits and so cannot hold the 64 that ends its range: its upper end is
63 here (DESIGN CHOICE, log entry 140). -/
def regRowsHK_0 : List RegRow := [
  /- HK.CTRL -/ ⟨0x030000, [], .rw, 0x21, 0x7F, 0x7F, 0x0, [.range 1 6 8 63]⟩,
  /- HK.STATUS -/ ⟨0x030004, [], .rol, 0x0, 0x0, 0x0, 0x0, []⟩,
  /- HK.HYST -/ ⟨0x030008, [], .rw, 0x303, 0xF0F, 0x0, 0x0, [.range 0 4 1 15, .range 8 4 1 15]⟩,
  /- HK.ARRAY_TH -/ ⟨0x03000C, [], .rw, 0x736455F6, 0xFFFFFFFF, 0x0, 0x0, []⟩,
  /- HK.CAL_CFG -/ ⟨0x030010, [], .rw, 0x10C2808, 0x13F7F1F, 0x1000000, 0x0, [.range 0 5 2 30, .range 8 7 10 90, .range 16 6 1 63]⟩,
  /- HK.CAL_LAST -/ ⟨0x030014, [], .rol, 0x0, 0x0, 0x0, 0x0, []⟩,
  /- HK.REFRESH -/ ⟨0x030018, [], .rol, 0x11, 0x0, 0x0, 0x0, []⟩,
  /- HK.SLK_TXb -/ ⟨0x030020, [(4, 5)], .rw, 0x13, 0x77, 0x0, 0x0, []⟩,
  /- HK.CNT_ROUND -/ ⟨0x030040, [], .cnt, 0x0, 0x0, 0x0, 0x0, []⟩,
  /- HK.CNT_BAND_CHG -/ ⟨0x030044, [], .cnt, 0x0, 0x0, 0x0, 0x0, []⟩,
  /- HK.CNT_BROKEN -/ ⟨0x030048, [], .cnt, 0x0, 0x0, 0x0, 0x0, []⟩,
  /- HK.CNT_CAL_RUN -/ ⟨0x03004C, [], .cnt, 0x0, 0x0, 0x0, 0x0, []⟩]

/-- More of block HK. Table HK-6 reserves HK.CHn_TH of channels 18 to 47 'for others': no register is there, and an access is UNMAPPED
(DESIGN CHOICE, log entry 141). -/
def regRowsHK_1 : List RegRow := [
  /- HK.CNT_CAL_REJECT -/ ⟨0x030050, [], .cnt, 0x0, 0x0, 0x0, 0x0, []⟩,
  /- HK.CAL_USERw -/ ⟨0x030060, [(4, 4)], .rol, 0x0, 0x0, 0x0, 0x0, []⟩,
  /- HK.CAL_DRAMb -/ ⟨0x030080, [(4, 8)], .cal, 0x8080, 0xFFFF, 0x0, 0x0, []⟩,
  /- HK.DRAMb_EYE -/ ⟨0x0300A0, [(4, 8)], .rol, 0x0, 0x0, 0x0, 0x0, []⟩,
  /- HK.CAL_HKCMP -/ ⟨0x0300C0, [], .cal, 0x80, 0xFF, 0x0, 0x0, []⟩,
  /- HK.CHn_CFG, channels 0 to 11 -/ ⟨0x030100, [(16, 12)], .rw, 0xD6B1000, 0xFFFFFF03, 0x0, 0x0, [.enum 0 2 2 0, .range 16 16 2000 6000]⟩,
  /- HK.CHn_CFG, channels 12 to 47: ROLE is read-only -/ ⟨0x0301C0, [(16, 36)], .rw, 0xD6B1000, 0xFFFFFF00, 0x0, 0x0, [.range 16 16 2000 6000]⟩,
  /- HK.CHn_TH -/ ⟨0x030104, [(16, 12)], .rw, 0x736455F6, 0xFFFFFFFF, 0x0, 0x0, []⟩,
  /- HK.CHn_VALUE -/ ⟨0x030108, [(16, 48)], .rol, 0x70000, 0x0, 0x0, 0x0, []⟩,
  /- HK.CHn_TH_FIXED -/ ⟨0x0301C4, [(16, 6)], .ro, 0x7D6E5AF6, 0x0, 0x0, 0x0, []⟩]

def regRowsHK : List RegRow := regRowsHK_0 ++ regRowsHK_1

/-- Registers of block SUP (Table HOST-8: base 0x04_0000). -/
def regRowsSUP_0 : List RegRow := [
  /- SUP.CTRL -/ ⟨0x040000, [], .rw, 0xE, 0xF, 0xF, 0x0, []⟩,
  /- SUP.STATUS -/ ⟨0x040004, [], .rol, 0x0, 0x0, 0x0, 0x0, []⟩,
  /- SUP.FSW -/ ⟨0x040008, [], .rw, 0x64, 0xFF, 0x0, 0x0, [.range 0 8 40 200]⟩,
  /- SUP.PHASE_EN -/ ⟨0x04000C, [], .rw, 0x3F, 0x3F, 0x3F, 0x0, []⟩,
  /- SUP.VLED_MIN -/ ⟨0x040010, [], .rw, 0xC8, 0x7FF, 0x0, 0x0, [.range 0 11 200 1200]⟩,
  /- SUP.VLED_MAX -/ ⟨0x040014, [], .rw, 0x1F4, 0x7FF, 0x0, 0x0, [.range 0 11 200 1200]⟩,
  /- SUP.VLED_INIT -/ ⟨0x040018, [], .rw, 0x15E, 0x7FF, 0x0, 0x0, []⟩,
  /- SUP.BERM -/ ⟨0x04001C, [], .rws, 0x12C, 0x3FF, 0x0, 0x0, [.range 0 10 100 1000]⟩,
  /- SUP.TRACK -/ ⟨0x040020, [], .rw, 0x21408, 0xFFFF1F, 0x0, 0x0, [.range 0 5 1 31, .range 8 8 1 255, .range 16 8 1 255]⟩,
  /- SUP.FF_GAIN -/ ⟨0x040024, [], .rw, 0xF, 0x3FF, 0x0, 0x0, [.range 0 10 0 1000]⟩,
  /- SUP.SLEW -/ ⟨0x040028, [], .rw, 0x14, 0xFF, 0x0, 0x0, [.range 0 8 1 100]⟩,
  /- SUP.LAMP_I -/ ⟨0x04002C, [], .rw, 0x190, 0xFFFF, 0x0, 0x0, []⟩]

def regRowsSUP_1 : List RegRow := [
  /- SUP.IREF -/ ⟨0x040030, [], .rws, 0x3FF, 0x3FF, 0x3FF, 0x0, []⟩,
  /- SUP.PLAN -/ ⟨0x040034, [], .rws, 0x14026, 0xFFFFF, 0xFFFFF, 0x0, [.enum 1 3 6 3, .wslots 4 7, .enum 11 2 2 0, .range 13 7 0 100]⟩,
  /- SUP.ILIM -/ ⟨0x040038, [], .rw, 0x78, 0x7F, 0x0, 0x0, [.range 0 7 1 120]⟩,
  /- SUP.HOST_LIMIT -/ ⟨0x04003C, [], .rw, 0x0, 0x7F, 0x0, 0x0, [.range 0 7 0 120]⟩,
  /- SUP.THERM -/ ⟨0x040040, [], .rw, 0x324B, 0x7F7F, 0x0, 0x0, [.range 0 7 0 100, .range 8 7 0 100]⟩,
  /- SUP.PHASE_ILIM -/ ⟨0x040044, [], .rw, 0x14, 0x1F, 0x0, 0x0, [.range 0 5 5 20]⟩,
  /- SUP.ISNS_GAIN -/ ⟨0x040048, [], .rw, 0x3E8, 0xFFFF, 0x0, 0x0, []⟩,
  /- SUP.OV_TH -/ ⟨0x04004C, [], .rw, 0x258, 0x7FF, 0x0, 0x0, []⟩,
  /- SUP.UV_MARGIN -/ ⟨0x040050, [], .rw, 0x32, 0xFF, 0x0, 0x0, []⟩,
  /- SUP.IMBAL -/ ⟨0x040054, [], .rw, 0x1E, 0x7F, 0x0, 0x0, [.range 0 7 10 100]⟩,
  /- SUP.REACT -/ ⟨0x040058, [], .rw, 0x0, 0x3, 0x3, 0x0, []⟩,
  /- SUP.RESTART -/ ⟨0x04005C, [], .wo, 0x0, 0x0, 0x0, 0x1, []⟩]

def regRowsSUP_2 : List RegRow := [
  /- SUP.VSET -/ ⟨0x040060, [], .rol, 0x0, 0x0, 0x0, 0x0, []⟩,
  /- SUP.VLED_MEAS -/ ⟨0x040064, [], .rol, 0x0, 0x0, 0x0, 0x0, []⟩,
  /- SUP.HMIN -/ ⟨0x040068, [], .rol, 0xFFFF, 0x0, 0x0, 0x0, []⟩,
  /- SUP.CAPACITY -/ ⟨0x04006C, [], .rol, 0x4B0, 0x0, 0x0, 0x0, []⟩,
  /- SUP.PEAK -/ ⟨0x040070, [], .rol, 0x0, 0x0, 0x0, 0x0, []⟩,
  /- SUP.DERATE_STATUS -/ ⟨0x040074, [], .rol, 0x4020100, 0x0, 0x0, 0x0, []⟩,
  /- SUP.DERATE_LIT -/ ⟨0x040078, [], .rol, 0x4020100, 0x0, 0x0, 0x0, []⟩,
  /- SUP.PHn_I -/ ⟨0x040080, [(4, 6)], .rol, 0x0, 0x0, 0x0, 0x0, []⟩,
  /- SUP.CNT_DERATE -/ ⟨0x0400A0, [], .cnt, 0x0, 0x0, 0x0, 0x0, []⟩,
  /- SUP.CNT_LATE_TRIM -/ ⟨0x0400A4, [], .cnt, 0x0, 0x0, 0x0, 0x0, []⟩,
  /- SUP.CNT_LATE_OVER -/ ⟨0x0400A8, [], .cnt, 0x0, 0x0, 0x0, 0x0, []⟩,
  /- SUP.CNT_HEADROOM_LIM -/ ⟨0x0400AC, [], .cnt, 0x0, 0x0, 0x0, 0x0, []⟩]

def regRowsSUP_3 : List RegRow := [
  /- SUP.CNT_PLAN -/ ⟨0x0400B0, [], .cnt, 0x0, 0x0, 0x0, 0x0, []⟩,
  /- SUP.CNT_OV -/ ⟨0x0400B4, [], .cnt, 0x0, 0x0, 0x0, 0x0, []⟩,
  /- SUP.CNT_UV -/ ⟨0x0400B8, [], .cnt, 0x0, 0x0, 0x0, 0x0, []⟩,
  /- SUP.CNT_PHASE_OFF -/ ⟨0x0400BC, [], .cnt, 0x0, 0x0, 0x0, 0x0, []⟩,
  /- SUP.CNT_CLASS0_OVER -/ ⟨0x0400C0, [], .cnt, 0x0, 0x0, 0x0, 0x0, []⟩]

def regRowsSUP : List RegRow := regRowsSUP_0 ++ regRowsSUP_1 ++ regRowsSUP_2 ++ regRowsSUP_3

/-- Registers of block RAS (Table HOST-8: base 0x05_0000). -/
def regRowsRAS_0 : List RegRow := [
  /- RAS.CTRL -/ ⟨0x050000, [], .rw, 0x0, 0x1, 0x1, 0x0, []⟩,
  /- RAS.SOURCE -/ ⟨0x050004, [], .rws, 0x0, 0x7, 0x7, 0x0, []⟩,
  /- RAS.PERIOD -/ ⟨0x050010, [], .rws, 0xFE502A, 0xFFFFFFFF, 0xFFFFFFFF, 0x0, []⟩,
  /- RAS.PERIOD_FRAC -/ ⟨0x050014, [], .rws, 0xAAAB, 0xFFFF, 0xFFFF, 0x0, []⟩,
  /- RAS.TIMING_COMMIT -/ ⟨0x050018, [], .wo, 0x0, 0x0, 0x0, 0x1, []⟩,
  /- RAS.EPOCH_NS -/ ⟨0x050020, [], .rws, 0x0, 0x3FFFFFFF, 0x0, 0x0, []⟩,
  /- RAS.EPOCH_S_LO -/ ⟨0x050024, [], .rws, 0x0, 0xFFFFFFFF, 0x0, 0x0, []⟩,
  /- RAS.EPOCH_S_HI -/ ⟨0x050028, [], .rws, 0x0, 0xFFFF, 0x0, 0x0, []⟩,
  /- RAS.REF_NS -/ ⟨0x050030, [], .rol, 0x0, 0x0, 0x0, 0x0, []⟩,
  /- RAS.REF_S_LO -/ ⟨0x050034, [], .rol, 0x0, 0x0, 0x0, 0x0, []⟩,
  /- RAS.REF_S_HI -/ ⟨0x050038, [], .rol, 0x0, 0x0, 0x0, 0x0, []⟩,
  /- RAS.REF_FRAME -/ ⟨0x05003C, [], .rol, 0x0, 0x0, 0x0, 0x0, []⟩]

def regRowsRAS_1 : List RegRow := [
  /- RAS.BLANK_START -/ ⟨0x050040, [], .rws, 0xF40000, 0xFFFFFF, 0x0, 0x0, []⟩,
  /- RAS.BLANK_EFF -/ ⟨0x050044, [], .rol, 0xF40000, 0x0, 0x0, 0x0, []⟩,
  /- RAS.FRAME -/ ⟨0x050050, [], .rol, 0x0, 0x0, 0x0, 0x0, []⟩,
  /- RAS.PHASE -/ ⟨0x050054, [], .rol, 0x0, 0x0, 0x0, 0x0, []⟩,
  /- RAS.STATUS -/ ⟨0x050058, [], .rol, 0x0, 0x0, 0x0, 0x0, []⟩,
  /- RAS.LAST_P0 -/ ⟨0x05005C, [], .rol, 0x0, 0x0, 0x0, 0x0, []⟩,
  /- RAS.SLEW_MAX -/ ⟨0x050060, [], .rw, 0xC8, 0x3FF, 0x0, 0x0, [.range 0 10 10 1000]⟩,
  /- RAS.SYNC_OFFSET -/ ⟨0x050064, [], .rw, 0x0, 0xFFFFFFFF, 0x0, 0x0, []⟩,
  /- RAS.SYNC_WIN -/ ⟨0x050068, [], .rw, 0xC8, 0x3FF, 0x0, 0x0, [.range 0 10 10 1000]⟩,
  /- RAS.SYNC_LOSS_LIMIT -/ ⟨0x05006C, [], .rw, 0x8, 0xF, 0x0, 0x0, [.range 0 4 1 15]⟩,
  /- RAS.SYNC_OUT -/ ⟨0x050070, [], .rw, 0x0, 0xFFFFFFFF, 0x0, 0x0, []⟩,
  /- RAS.CNT_SYNC_MISS -/ ⟨0x050080, [], .cnt, 0x0, 0x0, 0x0, 0x0, []⟩]

def regRowsRAS_2 : List RegRow := [
  /- RAS.CNT_SYNC_OUTWIN -/ ⟨0x050084, [], .cnt, 0x0, 0x0, 0x0, 0x0, []⟩,
  /- RAS.CNT_TACT_LATE -/ ⟨0x050088, [], .cnt, 0x0, 0x0, 0x0, 0x0, []⟩,
  /- RAS.CNT_SLEW -/ ⟨0x05008C, [], .cnt, 0x0, 0x0, 0x0, 0x0, []⟩,
  /- RAS.CNT_PERIOD_CHG -/ ⟨0x050090, [], .cnt, 0x0, 0x0, 0x0, 0x0, []⟩,
  /- RAS.TACTn_TIME_LO -/ ⟨0x050100, [(32, 16)], .rw, 0x0, 0xFFFFFFFF, 0xFFFFFFFF, 0x0, []⟩,
  /- RAS.TACTn_TIME_HI -/ ⟨0x050104, [(32, 16)], .rw, 0x0, 0xFFFFFFFF, 0xFFFFFFFF, 0x0, []⟩,
  /- RAS.TACTn_ADDR -/ ⟨0x050108, [(32, 16)], .rw, 0x0, 0xFFFFFC, 0xFFFFFC, 0x0, []⟩,
  /- RAS.TACTn_DATA -/ ⟨0x05010C, [(32, 16)], .rw, 0x0, 0xFFFFFFFF, 0xFFFFFFFF, 0x0, []⟩,
  /- RAS.TACTn_CTRL -/ ⟨0x050110, [(32, 16)], .wo, 0x0, 0x0, 0x0, 0x3, []⟩]

def regRowsRAS : List RegRow := regRowsRAS_0 ++ regRowsRAS_1 ++ regRowsRAS_2

/-- Registers of block CMP (Table HOST-8: base 0x06_0000). -/
def regRowsCMP_0 : List RegRow := [
  /- CMP.CANVAS -/ ⟨0x060000, [], .rws, 0x1FFF1FFF, 0x1FFF1FFF, 0x1FFF1FFF, 0x0, []⟩,
  /- CMP.WMIX -/ ⟨0x060004, [], .rws, 0x13B736, 0xFFFFFF, 0x0, 0x0, []⟩,
  /- CMP.LUT_BANK -/ ⟨0x060008, [], .rws, 0x0, 0xF0F, 0xF0F, 0x0, []⟩,
  /- CMP.GLOBAL_COMMIT -/ ⟨0x06000C, [], .wo, 0x0, 0x0, 0x0, 0x1, []⟩,
  /- CMP.FETCH_WAIT -/ ⟨0x060010, [], .rw, 0x7D0, 0x3FFF, 0x0, 0x0, [.range 0 14 250 16000]⟩,
  /- CMP.STATUS -/ ⟨0x060014, [], .rol, 0x0, 0x0, 0x0, 0x0, []⟩,
  /- CMP.LAYER_FRAMES -/ ⟨0x060018, [], .rol, 0x0, 0x0, 0x0, 0x0, []⟩,
  /- CMP.CANVAS_LIVE -/ ⟨0x060040, [], .rol, 0x1FFF1FFF, 0x0, 0x0, 0x0, []⟩,
  /- CMP.WMIX_LIVE -/ ⟨0x060044, [], .rol, 0x13B736, 0x0, 0x0, 0x0, []⟩,
  /- CMP.LUT_BANK_LIVE -/ ⟨0x060048, [], .rol, 0x0, 0x0, 0x0, 0x0, []⟩,
  /- CMP.CNT_ROWS_CUT -/ ⟨0x060080, [], .cnt, 0x0, 0x0, 0x0, 0x0, []⟩,
  /- CMP.CNT_LUT_LIVE_WR -/ ⟨0x060084, [], .cnt, 0x0, 0x0, 0x0, 0x0, []⟩]

def regRowsCMP_1 : List RegRow := [
  /- CMP.CNT_GLOBAL_COMMIT -/ ⟨0x060088, [], .cnt, 0x0, 0x0, 0x0, 0x0, []⟩,
  /- CMP.LAYERn_CTRL -/ ⟨0x060400, [(256, 8)], .rws, 0x600, 0xFFF, 0xFFF, 0x0, []⟩,
  /- CMP.LAYERn_SRC -/ ⟨0x060404, [(256, 8)], .rws, 0x0, 0xFF, 0xFF, 0x0, []⟩,
  /- CMP.LAYERn_ALPHA -/ ⟨0x060408, [(256, 8)], .rws, 0xFF, 0xFF, 0x0, 0x0, []⟩,
  /- CMP.LAYERn_LEVEL -/ ⟨0x06040C, [(256, 8)], .rws, 0x0, 0xFFFF, 0x0, 0x0, []⟩,
  /- CMP.LAYERn_BG -/ ⟨0x060410, [(256, 8)], .rws, 0x0, 0xFFFF, 0x0, 0x0, []⟩,
  /- CMP.LAYERn_MAT_A -/ ⟨0x060414, [(256, 8)], .rws, 0x10000, 0xFFFFFFFF, 0x0, 0x0, []⟩,
  /- CMP.LAYERn_MAT_B -/ ⟨0x060418, [(256, 8)], .rws, 0x0, 0xFFFFFFFF, 0x0, 0x0, []⟩,
  /- CMP.LAYERn_MAT_C -/ ⟨0x06041C, [(256, 8)], .rws, 0x0, 0xFFFFFFFF, 0x0, 0x0, []⟩,
  /- CMP.LAYERn_MAT_D -/ ⟨0x060420, [(256, 8)], .rws, 0x0, 0xFFFFFFFF, 0x0, 0x0, []⟩,
  /- CMP.LAYERn_MAT_E -/ ⟨0x060424, [(256, 8)], .rws, 0x10000, 0xFFFFFFFF, 0x0, 0x0, []⟩,
  /- CMP.LAYERn_MAT_F -/ ⟨0x060428, [(256, 8)], .rws, 0x0, 0xFFFFFFFF, 0x0, 0x0, []⟩]

def regRowsCMP_2 : List RegRow := [
  /- CMP.LAYERn_MISS -/ ⟨0x06042C, [(256, 8)], .rws, 0x108, 0xFFFF, 0x0, 0x0, []⟩,
  /- CMP.LAYERn_CHK -/ ⟨0x060430, [(256, 8)], .rws, 0x0, 0xF, 0x0, 0x0, []⟩,
  /- CMP.LAYERn_COMMIT -/ ⟨0x06043C, [(256, 8)], .wo, 0x0, 0x0, 0x1, 0x1, []⟩,
  /- CMP.LAYERn_STATUS -/ ⟨0x060480, [(256, 8)], .rol, 0x0, 0x0, 0x0, 0x0, []⟩,
  /- CMP.LAYERn_RETIRED_BUF -/ ⟨0x060484, [(256, 8)], .rol, 0x0, 0x0, 0x0, 0x0, []⟩,
  /- CMP.LAYERn_RETIRED_FRAME -/ ⟨0x060488, [(256, 8)], .rol, 0x0, 0x0, 0x0, 0x0, []⟩,
  /- CMP.LAYERn_READING -/ ⟨0x06048C, [(256, 8)], .rol, 0x0, 0x0, 0x0, 0x0, []⟩,
  /- CMP.LAYERn_CNT_LATE_FRAMES -/ ⟨0x0604A0, [(256, 8)], .cnt, 0x0, 0x0, 0x0, 0x0, []⟩,
  /- CMP.LAYERn_CNT_UNDERRUN -/ ⟨0x0604A4, [(256, 8)], .cnt, 0x0, 0x0, 0x0, 0x0, []⟩,
  /- CMP.LAYERn_CNT_POLICY -/ ⟨0x0604A8, [(256, 8)], .cnt, 0x0, 0x0, 0x0, 0x0, []⟩,
  /- CMP.LAYERn_CNT_COMMIT -/ ⟨0x0604AC, [(256, 8)], .cnt, 0x0, 0x0, 0x0, 0x0, []⟩,
  /- CMP.LAYERn_CNT_COMMIT_REJ -/ ⟨0x0604B0, [(256, 8)], .cnt, 0x0, 0x0, 0x0, 0x0, []⟩]

def regRowsCMP_3 : List RegRow := [
  /- CMP.LAYERn_CNT_BUF_MOD -/ ⟨0x0604B4, [(256, 8)], .cnt, 0x0, 0x0, 0x0, 0x0, []⟩,
  /- CMP.LAYERn_CNT_CHK_SKIP -/ ⟨0x0604B8, [(256, 8)], .cnt, 0x0, 0x0, 0x0, 0x0, []⟩,
  /- CMP.LAYERn_CNT_DISCARD -/ ⟨0x0604BC, [(256, 8)], .cnt, 0x0, 0x0, 0x0, 0x0, []⟩]

def regRowsCMP : List RegRow := regRowsCMP_0 ++ regRowsCMP_1 ++ regRowsCMP_2 ++ regRowsCMP_3

/-- Registers of block BEAM (Table HOST-8: base 0x07_0000). -/
def regRowsBEAM_0 : List RegRow := [
  /- BEAM.CTRL -/ ⟨0x070000, [], .rw, 0x0, 0x7F, 0x7F, 0x0, []⟩,
  /- BEAM.STATUS -/ ⟨0x070004, [], .rol, 0x0, 0x0, 0x0, 0x0, []⟩,
  /- BEAM.COMMIT -/ ⟨0x070008, [], .wo, 0x0, 0x0, 0x0, 0x1, []⟩,
  /- BEAM.CUTOFF -/ ⟨0x07000C, [], .rw, 0x800000, 0xFFFFFF, 0x0, 0x0, []⟩,
  /- BEAM.LIST_TIMEOUT -/ ⟨0x070010, [], .rw, 0x64, 0x3FF, 0x0, 0x0, [.range 0 10 10 1000]⟩,
  /- BEAM.AGE_LIMIT -/ ⟨0x070014, [], .rw, 0x64, 0xFF, 0x0, 0x0, [.range 0 8 1 255]⟩,
  /- BEAM.MAX_HORIZON -/ ⟨0x070018, [], .rw, 0xFA, 0x3FF, 0x0, 0x0, [.range 0 10 10 1000]⟩,
  /- BEAM.VMAX -/ ⟨0x07001C, [], .rw, 0x4E20, 0xFFFF, 0x0, 0x0, [.range 0 16 1 32767]⟩,
  /- BEAM.PARALLAX -/ ⟨0x070020, [], .rws, 0x0, 0xFFFFFFFF, 0x0, 0x0, []⟩,
  /- BEAM.DEF_DIST -/ ⟨0x070024, [], .rws, 0x1F4, 0xFFFF, 0x0, 0x0, []⟩,
  /- BEAM.GRID_AZ -/ ⟨0x070028, [], .rws, 0x500B000, 0x7FFFFFF, 0x0, 0x0, []⟩,
  /- BEAM.GRID_EL -/ ⟨0x07002C, [], .rws, 0x1401400, 0x7FFFFFF, 0x0, 0x0, []⟩]

def regRowsBEAM_1 : List RegRow := [
  /- BEAM.GRID_BANK -/ ⟨0x070030, [], .rws, 0x0, 0x1, 0x1, 0x0, []⟩,
  /- BEAM.PATTERN -/ ⟨0x070034, [], .rws, 0x0, 0xFF0F, 0x0, 0x0, []⟩,
  /- BEAM.TIMEOUT_PAT -/ ⟨0x070038, [], .rws, 0x0, 0xF, 0x0, 0x0, []⟩,
  /- BEAM.RECOVER -/ ⟨0x07003C, [], .rw, 0x2, 0xF, 0x0, 0x0, [.range 0 4 1 15]⟩,
  /- BEAM.LOOKAHEAD -/ ⟨0x070040, [], .rw, 0x4, 0xFF, 0x0, 0x0, [.range 0 8 1 255]⟩,
  /- BEAM.PAT_VALID -/ ⟨0x070044, [], .rol, 0x0, 0x0, 0x0, 0x0, []⟩,
  /- BEAM.GLYPH_VALID -/ ⟨0x070048, [], .rol, 0x0, 0x0, 0x0, 0x0, []⟩,
  /- BEAM.LAST_LIST -/ ⟨0x07004C, [], .rol, 0x0, 0x0, 0x0, 0x0, []⟩,
  /- BEAM.LAST_LIST_TS -/ ⟨0x070050, [], .rol, 0x0, 0x0, 0x0, 0x0, []⟩,
  /- BEAM.CAN_ID -/ ⟨0x070054, [], .rw, 0x340, 0x3FFFFFFF, 0x0, 0x0, []⟩,
  /- BEAM.UDP_PORT -/ ⟨0x070058, [], .rw, 0xB7A0, 0xFFFF, 0x0, 0x0, []⟩,
  /- BEAM.CAN_ASSY -/ ⟨0x07005C, [], .rw, 0x5, 0x1F, 0x0, 0x0, [.range 0 5 1 20]⟩]

def regRowsBEAM_2 : List RegRow := [
  /- BEAM.HB_SEGn -/ ⟨0x070060, [(4, 8)], .rws, 0x0, 0xFFFFFFFF, 0x0, 0x0, []⟩,
  /- BEAM.CNT_LISTS -/ ⟨0x070080, [], .cnt, 0x0, 0x0, 0x0, 0x0, []⟩,
  /- BEAM.CNT_HEADER -/ ⟨0x070084, [], .cnt, 0x0, 0x0, 0x0, 0x0, []⟩,
  /- BEAM.CNT_CRC -/ ⟨0x070088, [], .cnt, 0x0, 0x0, 0x0, 0x0, []⟩,
  /- BEAM.CNT_ALIVE -/ ⟨0x07008C, [], .cnt, 0x0, 0x0, 0x0, 0x0, []⟩,
  /- BEAM.CNT_DUP -/ ⟨0x070090, [], .cnt, 0x0, 0x0, 0x0, 0x0, []⟩,
  /- BEAM.CNT_ALIVE_GAP -/ ⟨0x070094, [], .cnt, 0x0, 0x0, 0x0, 0x0, []⟩,
  /- BEAM.CNT_OBJ_DROP -/ ⟨0x070098, [], .cnt, 0x0, 0x0, 0x0, 0x0, []⟩,
  /- BEAM.CNT_ASSY -/ ⟨0x07009C, [], .cnt, 0x0, 0x0, 0x0, 0x0, []⟩,
  /- BEAM.CNT_TIMEOUT -/ ⟨0x0700A0, [], .cnt, 0x0, 0x0, 0x0, 0x0, []⟩,
  /- BEAM.CNT_RENDER_LATE -/ ⟨0x0700A4, [], .cnt, 0x0, 0x0, 0x0, 0x0, []⟩,
  /- BEAM.CNT_HORIZON -/ ⟨0x0700A8, [], .cnt, 0x0, 0x0, 0x0, 0x0, []⟩]

def regRowsBEAM_3 : List RegRow := [
  /- BEAM.CNT_SQUASH -/ ⟨0x0700AC, [], .cnt, 0x0, 0x0, 0x0, 0x0, []⟩,
  /- BEAM.CNT_REUSE -/ ⟨0x0700B0, [], .cnt, 0x0, 0x0, 0x0, 0x0, []⟩,
  /- BEAM.CNT_GRID_LIVE_WR -/ ⟨0x0700B4, [], .cnt, 0x0, 0x0, 0x0, 0x0, []⟩,
  /- BEAM.CLASSc_CFG -/ ⟨0x070100, [(16, 6)], .rws, 0x80000, 0x3FFFFF, 0x0, 0x0, []⟩,
  /- BEAM.CLASSc_MARGIN -/ ⟨0x070104, [(16, 6)], .rws, 0x320064, 0xFFFFFFFF, 0x0, 0x0, []⟩,
  /- BEAM.CLASSc_CFG_LIVE -/ ⟨0x070180, [(16, 6)], .rol, 0x80000, 0x0, 0x0, 0x0, []⟩,
  /- BEAM.CLASSc_MARGIN_LIVE -/ ⟨0x070184, [(16, 6)], .rol, 0x0, 0x0, 0x0, 0x0, []⟩,
  /- BEAM.GLYPHg_SIZE -/ ⟨0x070400, [(64, 16)], .rol, 0x0, 0x0, 0x0, 0x0, []⟩,
  /- BEAM.GLYPHg_Hm -/ ⟨0x070404, [(64, 16), (4, 9)], .rws, 0x0, 0xFFFFFFFF, 0x0, 0x0, []⟩]

def regRowsBEAM : List RegRow := regRowsBEAM_0 ++ regRowsBEAM_1 ++ regRowsBEAM_2 ++ regRowsBEAM_3

/-- Registers of block CORR (Table HOST-8: base 0x08_0000). -/
def regRowsCORR_0 : List RegRow := [
  /- CORR.CTRL -/ ⟨0x080000, [], .rw, 0xB, 0x7F, 0x7F, 0x0, []⟩,
  /- CORR.STATUS -/ ⟨0x080004, [], .rol, 0x0, 0x0, 0x0, 0x0, []⟩,
  /- CORR.COMMIT -/ ⟨0x080008, [], .wo, 0x0, 0x0, 0x0, 0x1, []⟩,
  /- CORR.MAP_BASE -/ ⟨0x08000C, [], .rw, 0x0, 0x1FF, 0x1FF, 0x0, []⟩,
  /- CORR.CORR_BASE -/ ⟨0x080010, [], .rw, 0x4, 0x1FF, 0x1FF, 0x0, []⟩,
  /- CORR.STAGE_MAP_BASE -/ ⟨0x080014, [], .rw, 0x8, 0x1FF, 0x1FF, 0x0, []⟩,
  /- CORR.STAGE_CORR_BASE -/ ⟨0x080018, [], .rw, 0xC, 0x1FF, 0x1FF, 0x0, []⟩,
  /- CORR.CURVE_BANK -/ ⟨0x080020, [], .rws, 0x0, 0x1, 0x1, 0x0, []⟩,
  /- CORR.CLAMP -/ ⟨0x080024, [], .rws, 0xFFFF, 0xFFFF, 0x0, 0x0, []⟩,
  /- CORR.RELOAD_STATE -/ ⟨0x080030, [], .rol, 0x0, 0x0, 0x0, 0x0, []⟩,
  /- CORR.CNT_FILL_CAP -/ ⟨0x080040, [], .cnt, 0x0, 0x0, 0x0, 0x0, []⟩,
  /- CORR.CNT_SCAN_ERR -/ ⟨0x080044, [], .cnt, 0x0, 0x0, 0x0, 0x0, []⟩]

def regRowsCORR_1 : List RegRow := [
  /- CORR.CNT_RELOAD -/ ⟨0x080048, [], .cnt, 0x0, 0x0, 0x0, 0x0, []⟩,
  /- CORR.CNT_MRAM_CRC -/ ⟨0x08004C, [], .cnt, 0x0, 0x0, 0x0, 0x0, []⟩,
  /- CORR.CNT_CURVE_LIVE_WR -/ ⟨0x080050, [], .cnt, 0x0, 0x0, 0x0, 0x0, []⟩,
  /- CORR.CNT_THERM_FB -/ ⟨0x080054, [], .cnt, 0x0, 0x0, 0x0, 0x0, []⟩,
  /- CORR.FILL_ACTIVE -/ ⟨0x080058, [], .rol, 0x0, 0x0, 0x0, 0x0, []⟩,
  /- CORR.TGc_b -/ ⟨0x080100, [(32, 8), (4, 5)], .rws, 0x800, 0xFFF, 0x0, 0x0, []⟩]

def regRowsCORR : List RegRow := regRowsCORR_0 ++ regRowsCORR_1

/-- Registers of block HLT (Table HOST-8: base 0x09_0000). -/
def regRowsHLT_0 : List RegRow := [
  /- HLT.CTRL -/ ⟨0x090000, [], .rw, 0x33, 0xFF, 0xFF, 0x0, [.range 4 4 1 15]⟩,
  /- HLT.STATUS -/ ⟨0x090004, [], .rol, 0x0, 0x0, 0x0, 0x0, []⟩,
  /- HLT.VF_WINDOW -/ ⟨0x090008, [], .rw, 0x96, 0x3FF, 0x0, 0x0, [.range 0 10 20 1000]⟩,
  /- HLT.VF_TC -/ ⟨0x09000C, [], .rw, 0xFFEC, 0xFFFF, 0x0, 0x0, []⟩,
  /- HLT.MAP_BASE -/ ⟨0x090010, [], .rw, 0x10, 0x1FF, 0x1FF, 0x0, []⟩,
  /- HLT.VF_REF_BASE -/ ⟨0x090014, [], .rw, 0x12, 0x1FF, 0x1FF, 0x0, []⟩,
  /- HLT.EVT_LIMIT -/ ⟨0x090018, [], .rw, 0x20, 0xFF, 0x0, 0x0, [.range 0 8 1 255]⟩,
  /- HLT.SEG_FAIL_LIMIT -/ ⟨0x09001C, [], .rw, 0x400, 0x1FFF, 0x0, 0x0, [.range 0 13 1 4096]⟩,
  /- HLT.RPT_LIMIT -/ ⟨0x090020, [], .rw, 0x4, 0xF, 0x0, 0x0, [.range 0 4 1 15]⟩,
  /- HLT.REACT -/ ⟨0x090024, [], .rw, 0x0, 0xF, 0xF, 0x0, [.enum 0 2 2 0]⟩,
  /- HLT.FAULTS -/ ⟨0x090028, [], .rol, 0x0, 0x0, 0x0, 0x0, []⟩,
  /- HLT.TOTAL_OPEN -/ ⟨0x090030, [], .rol, 0x0, 0x0, 0x0, 0x0, []⟩]

def regRowsHLT_1 : List RegRow := [
  /- HLT.TOTAL_SHORT -/ ⟨0x090034, [], .rol, 0x0, 0x0, 0x0, 0x0, []⟩,
  /- HLT.TOTAL_WEAK -/ ⟨0x090038, [], .rol, 0x0, 0x0, 0x0, 0x0, []⟩,
  /- HLT.CAPTURE_STATE -/ ⟨0x09003C, [], .rol, 0x0, 0x0, 0x0, 0x0, []⟩,
  /- HLT.CNT_CLASS_CHG -/ ⟨0x090040, [], .cnt, 0x0, 0x0, 0x0, 0x0, []⟩,
  /- HLT.CNT_EVT_BULK -/ ⟨0x090044, [], .cnt, 0x0, 0x0, 0x0, 0x0, []⟩,
  /- HLT.CNT_NO_RPT -/ ⟨0x090048, [], .cnt, 0x0, 0x0, 0x0, 0x0, []⟩,
  /- HLT.CNT_VF_NA -/ ⟨0x09004C, [], .cnt, 0x0, 0x0, 0x0, 0x0, []⟩,
  /- HLT.CNT_SEG_FAULT -/ ⟨0x090050, [], .cnt, 0x0, 0x0, 0x0, 0x0, []⟩,
  /- HLT.VF_SUSPn -/ ⟨0x090080, [(4, 8)], .rol, 0x0, 0x0, 0x0, 0x0, []⟩,
  /- HLT.RPT_LOSSn -/ ⟨0x0900A0, [(4, 8)], .rol, 0x0, 0x0, 0x0, 0x0, []⟩,
  /- HLT.SEGFAULTn -/ ⟨0x0900C0, [(4, 8)], .rol, 0x0, 0x0, 0x0, 0x0, []⟩,
  /- HLT.SEGs_COUNT -/ ⟨0x090400, [(4, 256)], .rol, 0x0, 0x0, 0x0, 0x0, []⟩]

def regRowsHLT : List RegRow := regRowsHLT_0 ++ regRowsHLT_1

/-- Registers of block POL (Table HOST-8: base 0x0A_0000). -/
def regRowsPOL_0 : List RegRow := [
  /- POL.COMMIT -/ ⟨0x0A0000, [], .wo, 0x0, 0x0, 0x0, 0x1, []⟩,
  /- POL.STATUS -/ ⟨0x0A0004, [], .rol, 0x0, 0x0, 0x0, 0x0, []⟩,
  /- POL.FB_STATUS -/ ⟨0x0A0008, [], .rol, 0x0, 0x0, 0x0, 0x0, []⟩,
  /- POL.FB_CTRL -/ ⟨0x0A000C, [], .wo, 0x0, 0x0, 0xF, 0xF, []⟩,
  /- POL.ALIVE_CFG -/ ⟨0x0A0010, [], .rw, 0x1, 0x3, 0x0, 0x0, []⟩,
  /- POL.FB_FRAME -/ ⟨0x0A0014, [], .rol, 0x0, 0x0, 0x0, 0x0, []⟩,
  /- POL.MISMATCH_LO -/ ⟨0x0A0020, [], .rol, 0x0, 0x0, 0x0, 0x0, []⟩,
  /- POL.MISMATCH_HI -/ ⟨0x0A0024, [], .rol, 0x0, 0x0, 0x0, 0x0, []⟩,
  /- POL.SKIP_LO -/ ⟨0x0A0028, [], .rol, 0x0, 0x0, 0x0, 0x0, []⟩,
  /- POL.SKIP_HI -/ ⟨0x0A002C, [], .rol, 0x0, 0x0, 0x0, 0x0, []⟩,
  /- POL.HOLD_LO -/ ⟨0x0A0030, [], .rol, 0x0, 0x0, 0x0, 0x0, []⟩,
  /- POL.HOLD_HI -/ ⟨0x0A0034, [], .rol, 0x0, 0x0, 0x0, 0x0, []⟩]

def regRowsPOL_1 : List RegRow := [
  /- POL.CNT_SKIP -/ ⟨0x0A0080, [], .cnt, 0x0, 0x0, 0x0, 0x0, []⟩,
  /- POL.CNT_FALLBACK -/ ⟨0x0A0084, [], .cnt, 0x0, 0x0, 0x0, 0x0, []⟩,
  /- POL.CNT_FB_DARK -/ ⟨0x0A0088, [], .cnt, 0x0, 0x0, 0x0, 0x0, []⟩,
  /- POL.CNT_FB_EXTRA -/ ⟨0x0A008C, [], .cnt, 0x0, 0x0, 0x0, 0x0, []⟩,
  /- POL.CNT_CLEAR_REJ -/ ⟨0x0A0090, [], .cnt, 0x0, 0x0, 0x0, 0x0, []⟩,
  /- POL.Pn_CFG -/ ⟨0x0A0400, [(32, 64)], .rws, 0x2000, 0xF7FF, 0xF7FF, 0x0, []⟩,
  /- POL.Pn_RECT_X -/ ⟨0x0A0404, [(32, 64)], .rws, 0x0, 0x3FFF3FFF, 0x0, 0x0, []⟩,
  /- POL.Pn_RECT_Y -/ ⟨0x0A0408, [(32, 64)], .rws, 0x0, 0x3FFF3FFF, 0x0, 0x0, []⟩,
  /- POL.Pn_EXPECT -/ ⟨0x0A040C, [(32, 64)], .rws, 0x0, 0xFFFFFFFF, 0x0, 0x0, []⟩,
  /- POL.Pn_SIG -/ ⟨0x0A0410, [(32, 64)], .rol, 0x0, 0x0, 0x0, 0x0, []⟩,
  /- POL.Pn_CNT_MISMATCH -/ ⟨0x0A0414, [(32, 64)], .cnt, 0x0, 0x0, 0x0, 0x0, []⟩]

def regRowsPOL : List RegRow := regRowsPOL_0 ++ regRowsPOL_1

/-- Registers of block SNOW (Table HOST-8: base 0x0B_0000). -/
def regRowsSNOW_0 : List RegRow := [
  /- SNOW.STATUS -/ ⟨0x0B0000, [], .rol, 0x0, 0x0, 0x0, 0x0, []⟩,
  /- SNOW.FREE -/ ⟨0x0B0004, [], .rol, 0x1F801F80, 0x0, 0x0, 0x0, []⟩,
  /- SNOW.SEQ -/ ⟨0x0B0008, [], .rol, 0x0, 0x0, 0x0, 0x0, []⟩,
  /- SNOW.SLOTn_EXTENT -/ ⟨0x0B0010, [(16, 4)], .rol, 0x0, 0x0, 0x0, 0x0, []⟩,
  /- SNOW.SLOTn_SIZE -/ ⟨0x0B0014, [(16, 4)], .rol, 0x0, 0x0, 0x0, 0x0, []⟩,
  /- SNOW.SLOTn_CRC -/ ⟨0x0B0018, [(16, 4)], .rol, 0x0, 0x0, 0x0, 0x0, []⟩,
  /- SNOW.CNT_ECC_1 -/ ⟨0x0B0080, [], .cnt, 0x0, 0x0, 0x0, 0x0, []⟩,
  /- SNOW.CNT_ECC_2 -/ ⟨0x0B0084, [], .cnt, 0x0, 0x0, 0x0, 0x0, []⟩,
  /- SNOW.CNT_WRITE -/ ⟨0x0B0088, [], .cnt, 0x0, 0x0, 0x0, 0x0, []⟩,
  /- SNOW.CNT_MIRROR_FAIL -/ ⟨0x0B008C, [], .cnt, 0x0, 0x0, 0x0, 0x0, []⟩,
  /- SNOW.CNT_RESTORE -/ ⟨0x0B0090, [], .cnt, 0x0, 0x0, 0x0, 0x0, []⟩]

def regRowsSNOW : List RegRow := regRowsSNOW_0

/-- Registers of block SEG (Table HOST-8: base 0x10_0000). -/
def regRowsSEG_0 : List RegRow := [
  /- SEG.SEGn_CFG -/ ⟨0x100000, [(256, 256)], .rw, 0xA08, 0x1FF0F, 0xF, 0x0, [.enum 0 3 5 0, .range 8 8 2 200]⟩,
  /- SEG.SEGn_CORR -/ ⟨0x100010, [(256, 256)], .rws, 0x10004C, 0x1FF, 0x0, 0x0, [.enum 0 4 12 12, .enum 4 4 12 4]⟩,
  /- SEG.SEGn_EDGE_NE -/ ⟨0x100014, [(256, 256)], .rws, 0x0, 0xFFF0FFF, 0x0, 0x0, []⟩,
  /- SEG.SEGn_EDGE_SW -/ ⟨0x100018, [(256, 256)], .rws, 0x0, 0xFFF0FFF, 0x0, 0x0, []⟩,
  /- SEG.SEGn_IREF -/ ⟨0x10001C, [(256, 256)], .rws, 0x8080, 0xFF, 0xFF, 0x0, []⟩,
  /- SEG.SEGn_PLAN -/ ⟨0x100020, [(256, 256)], .rol, 0x0, 0x0, 0x0, 0x0, []⟩]

def regRowsSEG : List RegRow := regRowsSEG_0

/-- Registers of block SLK (Table HOST-8: base 0x12_0000). -/
def regRowsSLK_0 : List RegRow := [
  /- SLK.CFG -/ ⟨0x120000, [], .rw, 0x400, 0x3FFF, 0x3FFF, 0x0, [.range 0 14 128 8192]⟩,
  /- SLK.HB_PERIOD -/ ⟨0x120004, [], .rw, 0x32, 0x3F, 0x0, 0x0, [.range 0 6 10 50]⟩,
  /- SLK.TE_CFG -/ ⟨0x120008, [], .rw, 0x7D0, 0x1FFFF, 0x0, 0x0, []⟩,
  /- SLK.TE_WIN -/ ⟨0x12000C, [], .rw, 0xC8, 0x3FF, 0x0, 0x0, [.range 0 10 10 1000]⟩,
  /- SLK.TE_MASK -/ ⟨0x120010, [], .rw, 0x0, 0xFFFFFFFF, 0xFFFFFFFF, 0x0, []⟩,
  /- SLK.HOLD_LIMIT -/ ⟨0x120014, [], .rw, 0x40, 0x7F, 0x0, 0x0, [.range 0 7 1 64]⟩,
  /- SLK.RETRAIN_CRC -/ ⟨0x120018, [], .rw, 0x10, 0xFF, 0x0, 0x0, []⟩,
  /- SLK.NAK_LIMIT -/ ⟨0x12001C, [], .rw, 0x8, 0xFF, 0x0, 0x0, []⟩,
  /- SLK.TE_OFFSET -/ ⟨0x120020, [], .rol, 0x0, 0x0, 0x0, 0x0, []⟩,
  /- SLK.CNT_TE_MISS -/ ⟨0x120024, [], .cnt, 0x0, 0x0, 0x0, 0x0, []⟩,
  /- SLK.LINK_ACTIVE -/ ⟨0x120028, [], .rol, 0x0, 0x0, 0x0, 0x0, []⟩,
  /- SLK.LINK_DOWN -/ ⟨0x12002C, [], .rol, 0x0, 0x0, 0x0, 0x0, []⟩]

def regRowsSLK_1 : List RegRow := [
  /- SLK.LINKn_CTRL -/ ⟨0x120400, [(128, 32)], .rw, 0x8, 0xF, 0x1, 0x10, []⟩,
  /- SLK.LINKn_STATE -/ ⟨0x120404, [(128, 32)], .rol, 0x0, 0x0, 0x0, 0x0, []⟩,
  /- SLK.LINKn_SEGSTATE -/ ⟨0x120408, [(128, 32)], .rol, 0x0, 0x0, 0x0, 0x0, []⟩,
  /- SLK.LINKn_DELAY -/ ⟨0x12040C, [(128, 32)], .cal, 0x0, 0xFFFF, 0x0, 0x0, []⟩,
  /- SLK.LINKn_PARTNER -/ ⟨0x120410, [(128, 32)], .rol, 0x0, 0x0, 0x0, 0x0, []⟩,
  /- SLK.LINKn_LAUNCH -/ ⟨0x120414, [(128, 32)], .cal, 0x0, 0x3F0F, 0x0, 0x0, [.range 0 4 0 9]⟩,
  /- SLK.LINKn_RXCAL -/ ⟨0x120418, [(128, 32)], .cal, 0x40, 0xFF7F, 0x0, 0x0, []⟩,
  /- SLK.LINKn_CAPS -/ ⟨0x12041C, [(128, 32)], .rol, 0x0, 0x0, 0x0, 0x0, []⟩,
  /- SLK.LINKn_GEOM -/ ⟨0x120420, [(128, 32)], .rol, 0x0, 0x0, 0x0, 0x0, []⟩,
  /- SLK.LINKn_DRIVER_ID -/ ⟨0x120424, [(128, 32)], .rol, 0x0, 0x0, 0x0, 0x0, []⟩,
  /- SLK.LINKn_TX_CFG -/ ⟨0x120428, [(128, 32)], .rw, 0x0, 0x77, 0x77, 0x0, []⟩,
  /- SLK.LINKn_HB -/ ⟨0x12042C, [(128, 32)], .rol, 0x0, 0x0, 0x0, 0x0, []⟩]

def regRowsSLK_2 : List RegRow := [
  /- SLK.LINKn_HOLD_LEFT -/ ⟨0x120430, [(128, 32)], .rol, 0x0, 0x0, 0x0, 0x0, []⟩,
  /- SLK.LINKn_CNT_CRC_RX -/ ⟨0x120434, [(128, 32)], .cnt, 0x0, 0x0, 0x0, 0x0, []⟩,
  /- SLK.LINKn_CNT_CODE_ERR -/ ⟨0x120438, [(128, 32)], .cnt, 0x0, 0x0, 0x0, 0x0, []⟩,
  /- SLK.LINKn_CNT_NAK_RX -/ ⟨0x12043C, [(128, 32)], .cnt, 0x0, 0x0, 0x0, 0x0, []⟩,
  /- SLK.LINKn_CNT_RESEND -/ ⟨0x120440, [(128, 32)], .cnt, 0x0, 0x0, 0x0, 0x0, []⟩,
  /- SLK.LINKn_CNT_ACK_TO -/ ⟨0x120444, [(128, 32)], .cnt, 0x0, 0x0, 0x0, 0x0, []⟩,
  /- SLK.LINKn_CNT_HB_MISS -/ ⟨0x120448, [(128, 32)], .cnt, 0x0, 0x0, 0x0, 0x0, []⟩,
  /- SLK.LINKn_CNT_RETRAIN -/ ⟨0x12044C, [(128, 32)], .cnt, 0x0, 0x0, 0x0, 0x0, []⟩,
  /- SLK.LINKn_CNT_TYPE_ERR -/ ⟨0x120450, [(128, 32)], .cnt, 0x0, 0x0, 0x0, 0x0, []⟩,
  /- SLK.LINKn_CNT_LATE_RPT -/ ⟨0x120454, [(128, 32)], .cnt, 0x0, 0x0, 0x0, 0x0, []⟩,
  /- SLK.LINKn_CNT_ROWS_CUT -/ ⟨0x120458, [(128, 32)], .cnt, 0x0, 0x0, 0x0, 0x0, []⟩,
  /- SLK.LINKn_CNT_HOLD_EXP -/ ⟨0x12045C, [(128, 32)], .cnt, 0x0, 0x0, 0x0, 0x0, []⟩]

def regRowsSLK : List RegRow := regRowsSLK_0 ++ regRowsSLK_1 ++ regRowsSLK_2

/-- Registers of block SDS (Table HOST-8: base 0x14_0000). -/
def regRowsSDS_0 : List RegRow := [
  /- SDS.REFCLK_STATUS -/ ⟨0x140000, [], .rol, 0x0, 0x0, 0x0, 0x0, []⟩,
  /- SDS.CNT_CFG_REJ -/ ⟨0x140004, [], .cnt, 0x0, 0x0, 0x0, 0x0, []⟩,
  /- SDS.Qq_CFG -/ ⟨0x140100, [(32, 6)], .rw, 0x0, 0x77, 0x77, 0x0, []⟩,
  /- SDS.Qq_STATUS -/ ⟨0x140104, [(32, 6)], .rol, 0x0, 0x0, 0x0, 0x0, []⟩,
  /- SDS.LANEl_CTRL -/ ⟨0x140400, [(256, 24)], .rw, 0x0, 0x1FF, 0x0, 0x0, []⟩,
  /- SDS.LANEl_STATE -/ ⟨0x140404, [(256, 24)], .rol, 0x0, 0x0, 0x0, 0x0, []⟩,
  /- SDS.LANEl_PWR -/ ⟨0x140408, [(256, 24)], .rw, 0x4003, 0xFF07, 0x4, 0x0, [.range 8 8 16 255]⟩,
  /- SDS.LANEl_RESTART -/ ⟨0x14040C, [(256, 24)], .wo, 0x0, 0x0, 0x0, 0x1, []⟩,
  /- SDS.LANEl_PARTNER -/ ⟨0x140410, [(256, 24)], .rol, 0x0, 0x0, 0x0, 0x0, []⟩,
  /- SDS.LANEl_PARTNER_X -/ ⟨0x140414, [(256, 24)], .rol, 0x0, 0x0, 0x0, 0x0, []⟩,
  /- SDS.LANEl_PARTNER_UID_LO -/ ⟨0x140418, [(256, 24)], .rol, 0x0, 0x0, 0x0, 0x0, []⟩,
  /- SDS.LANEl_PARTNER_UID_HI -/ ⟨0x14041C, [(256, 24)], .rol, 0x0, 0x0, 0x0, 0x0, []⟩]

def regRowsSDS_1 : List RegRow := [
  /- SDS.LANEl_RXCAL -/ ⟨0x140420, [(256, 24)], .cal, 0x2000, 0xFF3F3F, 0x0, 0x0, []⟩,
  /- SDS.LANEl_TXEQ -/ ⟨0x140424, [(256, 24)], .rw, 0x308, 0xFFF, 0x0, 0x0, []⟩,
  /- SDS.LANEl_CNT_ATTEMPT -/ ⟨0x140440, [(256, 24)], .cnt, 0x0, 0x0, 0x0, 0x0, []⟩,
  /- SDS.LANEl_CNT_DOWN -/ ⟨0x140444, [(256, 24)], .cnt, 0x0, 0x0, 0x0, 0x0, []⟩,
  /- SDS.LANEl_CNT_LOS -/ ⟨0x140448, [(256, 24)], .cnt, 0x0, 0x0, 0x0, 0x0, []⟩,
  /- SDS.LANEl_CNT_CODE_ERR -/ ⟨0x14044C, [(256, 24)], .cnt, 0x0, 0x0, 0x0, 0x0, []⟩,
  /- SDS.LANEl_CNT_FTS_FAIL -/ ⟨0x140450, [(256, 24)], .cnt, 0x0, 0x0, 0x0, 0x0, []⟩,
  /- SDS.LANEl_CNT_SLEEP -/ ⟨0x140454, [(256, 24)], .cnt, 0x0, 0x0, 0x0, 0x0, []⟩,
  /- SDS.LANEl_CNT_PRBS_ERR -/ ⟨0x140458, [(256, 24)], .cnt, 0x0, 0x0, 0x0, 0x0, []⟩,
  /- SDS.STRn_CTRL -/ ⟨0x148000, [(256, 4)], .rw, 0x0, 0x1FF, 0x1FF, 0x0, [.range 3 5 0 23]⟩,
  /- SDS.STRn_STATUS -/ ⟨0x148004, [(256, 4)], .rol, 0x0, 0x0, 0x0, 0x0, []⟩,
  /- SDS.STRn_SURF -/ ⟨0x148008, [(256, 4)], .rw, 0x0, 0x3F, 0x3F, 0x0, []⟩]

def regRowsSDS_2 : List RegRow := [
  /- SDS.STRn_FRAME_TIMEOUT -/ ⟨0x14800C, [(256, 4)], .rw, 0x32, 0x3FF, 0x0, 0x0, [.range 0 10 1 1000]⟩,
  /- SDS.STRn_LOSS_TIMEOUT -/ ⟨0x148010, [(256, 4)], .rw, 0xC8, 0x3FF, 0x0, 0x0, [.range 0 10 10 1000]⟩,
  /- SDS.STRn_LAST_SFN -/ ⟨0x148014, [(256, 4)], .rol, 0x0, 0x0, 0x0, 0x0, []⟩,
  /- SDS.STRn_LAST_TS -/ ⟨0x148018, [(256, 4)], .rol, 0x0, 0x0, 0x0, 0x0, []⟩,
  /- SDS.STRn_LAST_PERIOD -/ ⟨0x14801C, [(256, 4)], .rol, 0x0, 0x0, 0x0, 0x0, []⟩,
  /- SDS.STRn_RESV -/ ⟨0x148020, [(256, 4)], .rol, 0x0, 0x0, 0x0, 0x0, []⟩,
  /- SDS.STRn_CNT_FRAMES -/ ⟨0x148040, [(256, 4)], .cnt, 0x0, 0x0, 0x0, 0x0, []⟩,
  /- SDS.STRn_CNT_CRC -/ ⟨0x148044, [(256, 4)], .cnt, 0x0, 0x0, 0x0, 0x0, []⟩,
  /- SDS.STRn_CNT_FMT_ERR -/ ⟨0x148048, [(256, 4)], .cnt, 0x0, 0x0, 0x0, 0x0, []⟩,
  /- SDS.STRn_CNT_SEQ_ERR -/ ⟨0x14804C, [(256, 4)], .cnt, 0x0, 0x0, 0x0, 0x0, []⟩,
  /- SDS.STRn_CNT_INCOMPLETE -/ ⟨0x148050, [(256, 4)], .cnt, 0x0, 0x0, 0x0, 0x0, []⟩,
  /- SDS.STRn_CNT_TIMEOUT -/ ⟨0x148054, [(256, 4)], .cnt, 0x0, 0x0, 0x0, 0x0, []⟩]

def regRowsSDS_3 : List RegRow := [
  /- SDS.STRn_CNT_ABORT -/ ⟨0x148058, [(256, 4)], .cnt, 0x0, 0x0, 0x0, 0x0, []⟩,
  /- SDS.STRn_CNT_DROPPED -/ ⟨0x14805C, [(256, 4)], .cnt, 0x0, 0x0, 0x0, 0x0, []⟩,
  /- SDS.STRn_CNT_OVERFLOW -/ ⟨0x148060, [(256, 4)], .cnt, 0x0, 0x0, 0x0, 0x0, []⟩,
  /- SDS.STRn_CNT_META -/ ⟨0x148064, [(256, 4)], .cnt, 0x0, 0x0, 0x0, 0x0, []⟩,
  /- SDS.STR_RESV_TOTAL -/ ⟨0x148400, [], .rol, 0x0, 0x0, 0x0, 0x0, []⟩]

def regRowsSDS : List RegRow := regRowsSDS_0 ++ regRowsSDS_1 ++ regRowsSDS_2 ++ regRowsSDS_3

/-- Registers of block FAB (Table HOST-8: base 0x16_0000). -/
def regRowsFAB_0 : List RegRow := [
  /- FAB.CTRL -/ ⟨0x160000, [], .rw, 0x0, 0x7FFF, 0x7FFF, 0x0, [.range 2 12 1 4094]⟩,
  /- FAB.STATUS -/ ⟨0x160004, [], .rol, 0x0, 0x0, 0x0, 0x0, []⟩,
  /- FAB.UID_LO -/ ⟨0x160008, [], .ro, 0x0, 0x0, 0x0, 0x0, []⟩,
  /- FAB.UID_HI -/ ⟨0x16000C, [], .ro, 0x0, 0x0, 0x0, 0x0, []⟩,
  /- FAB.ROOT_UID_LO -/ ⟨0x160010, [], .rol, 0x0, 0x0, 0x0, 0x0, []⟩,
  /- FAB.ROOT_UID_HI -/ ⟨0x160014, [], .rol, 0x0, 0x0, 0x0, 0x0, []⟩,
  /- FAB.RT_BANK -/ ⟨0x160018, [], .rol, 0x0, 0x0, 0x0, 0x0, []⟩,
  /- FAB.STRIP_ROWS -/ ⟨0x16001C, [], .rw, 0x10, 0x7F, 0x0, 0x0, [.range 0 7 1 64]⟩,
  /- FAB.DELAY_TH -/ ⟨0x160020, [], .rw, 0x64, 0x3FF, 0x0, 0x0, [.range 0 10 10 1000]⟩,
  /- FAB.COMMIT_LEAD -/ ⟨0x160024, [], .rw, 0xA, 0x7F, 0x0, 0x0, [.range 0 7 2 100]⟩,
  /- FAB.CNT_DISCOVERY -/ ⟨0x160030, [], .cnt, 0x0, 0x0, 0x0, 0x0, []⟩,
  /- FAB.CNT_ROUTE_COMMIT -/ ⟨0x160034, [], .cnt, 0x0, 0x0, 0x0, 0x0, []⟩]

def regRowsFAB_1 : List RegRow := [
  /- FAB.CNT_HOP_LIMIT -/ ⟨0x160038, [], .cnt, 0x0, 0x0, 0x0, 0x0, []⟩,
  /- FAB.CNT_NOSUB -/ ⟨0x16003C, [], .cnt, 0x0, 0x0, 0x0, 0x0, []⟩,
  /- FAB.CNT_SEQ_GAP -/ ⟨0x160040, [], .cnt, 0x0, 0x0, 0x0, 0x0, []⟩,
  /- FAB.CNT_SEND_CUT -/ ⟨0x160044, [], .cnt, 0x0, 0x0, 0x0, 0x0, []⟩,
  /- FAB.Pp_CTRL -/ ⟨0x160400, [(256, 4)], .rw, 0x0, 0xFF, 0xFF, 0x0, []⟩,
  /- FAB.Pp_STATUS -/ ⟨0x160404, [(256, 4)], .rol, 0x0, 0x0, 0x0, 0x0, []⟩,
  /- FAB.Pp_NEIGH_LO -/ ⟨0x160408, [(256, 4)], .rol, 0x0, 0x0, 0x0, 0x0, []⟩,
  /- FAB.Pp_NEIGH_HI -/ ⟨0x16040C, [(256, 4)], .rol, 0x0, 0x0, 0x0, 0x0, []⟩,
  /- FAB.Pp_CREDIT01 -/ ⟨0x160410, [(256, 4)], .rol, 0x0, 0x0, 0x0, 0x0, []⟩,
  /- FAB.Pp_CREDIT23 -/ ⟨0x160414, [(256, 4)], .rol, 0x0, 0x0, 0x0, 0x0, []⟩,
  /- FAB.Pp_CNT_CRC -/ ⟨0x160418, [(256, 4)], .cnt, 0x0, 0x0, 0x0, 0x0, []⟩,
  /- FAB.Pp_CNT_DOWN -/ ⟨0x16041C, [(256, 4)], .cnt, 0x0, 0x0, 0x0, 0x0, []⟩]

def regRowsFAB_2 : List RegRow := [
  /- FAB.Pp_VCv_CNT_TX -/ ⟨0x160420, [(256, 4), (16, 4)], .cnt, 0x0, 0x0, 0x0, 0x0, []⟩,
  /- FAB.Pp_VCv_CNT_RX -/ ⟨0x160424, [(256, 4), (16, 4)], .cnt, 0x0, 0x0, 0x0, 0x0, []⟩,
  /- FAB.Pp_VCv_CNT_DROP -/ ⟨0x160428, [(256, 4), (16, 4)], .cnt, 0x0, 0x0, 0x0, 0x0, []⟩,
  /- FAB.Pp_VCv_CNT_DELAY -/ ⟨0x16042C, [(256, 4), (16, 4)], .cnt, 0x0, 0x0, 0x0, 0x0, []⟩,
  /- FAB.FWDn_CFG -/ ⟨0x160800, [(16, 16)], .rw, 0x0, 0x7FFF, 0x7FFF, 0x0, []⟩,
  /- FAB.FWDn_LINES -/ ⟨0x160804, [(16, 16)], .rw, 0x0, 0x1FFF1FFF, 0x1FFF1FFF, 0x0, []⟩,
  /- FAB.SUBn_CFG -/ ⟨0x160C00, [(64, 16)], .rw, 0x0, 0x1FFFFFF, 0x1FFFFFF, 0x0, []⟩,
  /- FAB.SUBn_WIN -/ ⟨0x160C04, [(64, 16)], .rw, 0x0, 0x1FFF1FFF, 0x1FFF1FFF, 0x0, []⟩,
  /- FAB.SUBn_LOSS_TIMEOUT -/ ⟨0x160C08, [(64, 16)], .rw, 0xC8, 0x3FF, 0x0, 0x0, [.range 0 10 10 1000]⟩,
  /- FAB.SUBn_STATUS -/ ⟨0x160C0C, [(64, 16)], .rol, 0x0, 0x0, 0x0, 0x0, []⟩,
  /- FAB.SUBn_CNT_LATE_STRIP -/ ⟨0x160C10, [(64, 16)], .cnt, 0x0, 0x0, 0x0, 0x0, []⟩,
  /- FAB.SUBn_CNT_LATE_PKT -/ ⟨0x160C14, [(64, 16)], .cnt, 0x0, 0x0, 0x0, 0x0, []⟩]

def regRowsFAB_3 : List RegRow := [
  /- FAB.SUBn_CNT_EARLY -/ ⟨0x160C18, [(64, 16)], .cnt, 0x0, 0x0, 0x0, 0x0, []⟩,
  /- FAB.SUBn_CNT_FMT -/ ⟨0x160C1C, [(64, 16)], .cnt, 0x0, 0x0, 0x0, 0x0, []⟩,
  /- FAB.SUBn_CNT_FRAMES -/ ⟨0x160C20, [(64, 16)], .cnt, 0x0, 0x0, 0x0, 0x0, []⟩]

def regRowsFAB : List RegRow := regRowsFAB_0 ++ regRowsFAB_1 ++ regRowsFAB_2 ++ regRowsFAB_3

/-- Registers of block MAC0 (Table HOST-8: base 0x18_0000). -/
def regRowsMAC0_0 : List RegRow := [
  /- MACm.CTRL -/ ⟨0x180000, [(65536, 2)], .rw, 0x100, 0x1FF, 0x1FF, 0x0, [.enum 1 2 2 0, .range 3 5 0 23]⟩,
  /- MACm.STATUS -/ ⟨0x180004, [(65536, 2)], .rol, 0x0, 0x0, 0x0, 0x0, []⟩,
  /- MACm.ADDR_LO -/ ⟨0x180008, [(65536, 2)], .rw, 0x0, 0xFFFFFFFF, 0x0, 0x0, []⟩,
  /- MACm.ADDR_HI -/ ⟨0x18000C, [(65536, 2)], .rw, 0x0, 0xFFFF, 0x0, 0x0, []⟩,
  /- MACm.IP -/ ⟨0x180010, [(65536, 2)], .rw, 0x0, 0xFFFFFFFF, 0xFFFFFFFF, 0x0, []⟩,
  /- MACm.IP_MASK -/ ⟨0x180014, [(65536, 2)], .rw, 0x0, 0xFFFFFFFF, 0xFFFFFFFF, 0x0, []⟩,
  /- MACm.GATEWAY -/ ⟨0x180018, [(65536, 2)], .rw, 0x0, 0xFFFFFFFF, 0xFFFFFFFF, 0x0, []⟩,
  /- MACm.MBX_PORT -/ ⟨0x18001C, [(65536, 2)], .rw, 0xB7A1, 0xFFFF, 0x0, 0x0, []⟩,
  /- MACm.CNT_RX_OK -/ ⟨0x180080, [(65536, 2)], .cnt, 0x0, 0x0, 0x0, 0x0, []⟩,
  /- MACm.CNT_RX_FCS -/ ⟨0x180084, [(65536, 2)], .cnt, 0x0, 0x0, 0x0, 0x0, []⟩,
  /- MACm.CNT_RX_SIZE -/ ⟨0x180088, [(65536, 2)], .cnt, 0x0, 0x0, 0x0, 0x0, []⟩,
  /- MACm.CNT_RX_FILTER -/ ⟨0x18008C, [(65536, 2)], .cnt, 0x0, 0x0, 0x0, 0x0, []⟩]

def regRowsMAC0_1 : List RegRow := [
  /- MACm.CNT_TX_OK -/ ⟨0x180090, [(65536, 2)], .cnt, 0x0, 0x0, 0x0, 0x0, []⟩,
  /- MACm.CNT_IP_DROP -/ ⟨0x180094, [(65536, 2)], .cnt, 0x0, 0x0, 0x0, 0x0, []⟩,
  /- MACm.CNT_UDP_NOPORT -/ ⟨0x180098, [(65536, 2)], .cnt, 0x0, 0x0, 0x0, 0x0, []⟩,
  /- MACm.CNT_LINK_CHG -/ ⟨0x18009C, [(65536, 2)], .cnt, 0x0, 0x0, 0x0, 0x0, []⟩]

def regRowsMAC0 : List RegRow := regRowsMAC0_0 ++ regRowsMAC0_1

/-- Registers of block PTP (Table HOST-8: base 0x1A_0000). -/
def regRowsPTP_0 : List RegRow := [
  /- PTP.CTRL -/ ⟨0x1A0000, [], .rw, 0x2, 0xFF0F, 0xFF0F, 0x0, [.enum 2 2 2 0]⟩,
  /- PTP.STATUS -/ ⟨0x1A0004, [], .rol, 0x0, 0x0, 0x0, 0x0, []⟩,
  /- PTP.TIME_NS -/ ⟨0x1A0010, [], .rol, 0x0, 0x0, 0x0, 0x0, []⟩,
  /- PTP.TIME_S_LO -/ ⟨0x1A0014, [], .rol, 0x0, 0x0, 0x0, 0x0, []⟩,
  /- PTP.TIME_S_HI -/ ⟨0x1A0018, [], .rol, 0x0, 0x0, 0x0, 0x0, []⟩,
  /- PTP.TIME_FRAC -/ ⟨0x1A001C, [], .rol, 0x0, 0x0, 0x0, 0x0, []⟩,
  /- PTP.TOTAL_LO -/ ⟨0x1A0020, [], .rol, 0x0, 0x0, 0x0, 0x0, []⟩,
  /- PTP.TOTAL_HI -/ ⟨0x1A0024, [], .rol, 0x0, 0x0, 0x0, 0x0, []⟩,
  /- PTP.SET_NS -/ ⟨0x1A0030, [], .rw, 0x0, 0x3FFFFFFF, 0x3FFFFFFF, 0x0, [.range 0 30 0 999999999]⟩,
  /- PTP.SET_S_LO -/ ⟨0x1A0034, [], .rw, 0x0, 0xFFFFFFFF, 0xFFFFFFFF, 0x0, []⟩,
  /- PTP.SET_S_HI -/ ⟨0x1A0038, [], .rw, 0x0, 0xFFFF, 0xFFFF, 0x0, []⟩,
  /- PTP.SET_CTRL -/ ⟨0x1A003C, [], .wo, 0x0, 0x0, 0x3, 0x3, []⟩]

def regRowsPTP_1 : List RegRow := [
  /- PTP.STEP_VAL -/ ⟨0x1A0040, [], .rw, 0x0, 0xFFFFFFFF, 0xFFFFFFFF, 0x0, []⟩,
  /- PTP.SERVO_CFG -/ ⟨0x1A0050, [], .rw, 0xD0702, 0xF1F1F, 0xF1F1F, 0x0, [.signed 16 4 7 4]⟩,
  /- PTP.SERVO_OFFSET_NS -/ ⟨0x1A0054, [], .wo, 0x0, 0x0, 0xFFFFFFFF, 0xFFFFFFFF, []⟩,
  /- PTP.SERVO_OFFSET_FRAC -/ ⟨0x1A0058, [], .rw, 0x0, 0xFFFF, 0xFFFF, 0x0, []⟩,
  /- PTP.STEP_TH -/ ⟨0x1A005C, [], .rw, 0x186A0, 0xFFFFFFFF, 0x0, 0x0, []⟩,
  /- PTP.LOCK_TH -/ ⟨0x1A0060, [], .rw, 0x64, 0xFFFF, 0x0, 0x0, [.range 0 16 1 65535]⟩,
  /- PTP.HOLD_TIMEOUT -/ ⟨0x1A0064, [], .rw, 0x8, 0xFF, 0x0, 0x0, [.range 0 8 1 255]⟩,
  /- PTP.RATE -/ ⟨0x1A0068, [], .rol, 0x0, 0x0, 0x0, 0x0, []⟩,
  /- PTP.INTEG -/ ⟨0x1A006C, [], .rol, 0x0, 0x0, 0x0, 0x0, []⟩,
  /- PTP.LAST_OFFSET -/ ⟨0x1A0070, [], .rol, 0x0, 0x0, 0x0, 0x0, []⟩,
  /- PTP.AON_TRIM -/ ⟨0x1A0074, [], .rw, 0x0, 0xFFFFFFFF, 0x0, 0x0, [.signed 0 32 200000 200000]⟩,
  /- PTP.CNT_STEP -/ ⟨0x1A0080, [], .cnt, 0x0, 0x0, 0x0, 0x0, []⟩]

def regRowsPTP_2 : List RegRow := [
  /- PTP.CNT_CLAMP -/ ⟨0x1A0084, [], .cnt, 0x0, 0x0, 0x0, 0x0, []⟩,
  /- PTP.CNT_HOLDOVER -/ ⟨0x1A0088, [], .cnt, 0x0, 0x0, 0x0, 0x0, []⟩,
  /- PTP.CNT_OFFSET -/ ⟨0x1A008C, [], .cnt, 0x0, 0x0, 0x0, 0x0, []⟩,
  /- PTP.PORTq_CFG -/ ⟨0x1A0100, [(64, 6)], .rw, 0xD05, 0xFFF1F, 0xFFF1F, 0x0, [.signed 8 4 7 4]⟩,
  /- PTP.PORTq_STATUS -/ ⟨0x1A0104, [(64, 6)], .rol, 0x0, 0x0, 0x0, 0x0, []⟩,
  /- PTP.PORTq_EG_ADJ -/ ⟨0x1A0108, [(64, 6)], .rw, 0x0, 0xFFFFFFFF, 0x0, 0x0, []⟩,
  /- PTP.PORTq_IG_ADJ -/ ⟨0x1A010C, [(64, 6)], .rw, 0x0, 0xFFFFFFFF, 0x0, 0x0, []⟩,
  /- PTP.PORTq_DELAY -/ ⟨0x1A0110, [(64, 6)], .rol, 0x0, 0x0, 0x0, 0x0, []⟩,
  /- PTP.PORTq_NRR -/ ⟨0x1A0114, [(64, 6)], .rol, 0x0, 0x0, 0x0, 0x0, []⟩,
  /- PTP.PORTq_CNT_TX -/ ⟨0x1A0120, [(64, 6)], .cnt, 0x0, 0x0, 0x0, 0x0, []⟩,
  /- PTP.PORTq_CNT_RX -/ ⟨0x1A0124, [(64, 6)], .cnt, 0x0, 0x0, 0x0, 0x0, []⟩,
  /- PTP.PORTq_CNT_TS_MISS -/ ⟨0x1A0128, [(64, 6)], .cnt, 0x0, 0x0, 0x0, 0x0, []⟩]

def regRowsPTP_3 : List RegRow := [
  /- PTP.PORTq_CNT_BAD -/ ⟨0x1A012C, [(64, 6)], .cnt, 0x0, 0x0, 0x0, 0x0, []⟩,
  /- PTP.TTn_CTRL -/ ⟨0x1A0400, [(64, 4)], .wo, 0x0, 0x0, 0x0, 0x3, []⟩,
  /- PTP.TTn_CFG -/ ⟨0x1A0404, [(64, 4)], .rw, 0x0, 0x3, 0x0, 0x0, []⟩,
  /- PTP.TTn_START_LO -/ ⟨0x1A0408, [(64, 4)], .rw, 0x0, 0xFFFFFFFF, 0x0, 0x0, []⟩,
  /- PTP.TTn_START_HI -/ ⟨0x1A040C, [(64, 4)], .rw, 0x0, 0xFFFFFFFF, 0x0, 0x0, []⟩,
  /- PTP.TTn_PERIOD -/ ⟨0x1A0410, [(64, 4)], .rw, 0x0, 0xFFFFFFFF, 0x0, 0x0, []⟩,
  /- PTP.TTn_PERIOD_FRAC -/ ⟨0x1A0414, [(64, 4)], .rw, 0x0, 0xFFFF, 0x0, 0x0, []⟩,
  /- PTP.TTn_WIDTH -/ ⟨0x1A0418, [(64, 4)], .rw, 0x0, 0xFFFFFFFF, 0x0, 0x0, []⟩,
  /- PTP.TTn_SKIP -/ ⟨0x1A041C, [(64, 4)], .rol, 0x0, 0x0, 0x0, 0x0, []⟩,
  /- PTP.TTn_NEXT -/ ⟨0x1A0420, [(64, 4)], .rol, 0x0, 0x0, 0x0, 0x0, []⟩,
  /- PTP.TCn_CFG -/ ⟨0x1A0600, [(32, 4)], .rw, 0x0, 0x7, 0x0, 0x0, []⟩,
  /- PTP.TCn_TS_LO -/ ⟨0x1A0604, [(32, 4)], .rol, 0x0, 0x0, 0x0, 0x0, []⟩]

def regRowsPTP_4 : List RegRow := [
  /- PTP.TCn_TS_HI -/ ⟨0x1A0608, [(32, 4)], .rol, 0x0, 0x0, 0x0, 0x0, []⟩,
  /- PTP.TCn_STATUS -/ ⟨0x1A060C, [(32, 4)], .rol, 0x0, 0x0, 0x0, 0x0, []⟩,
  /- PTP.TCn_POP -/ ⟨0x1A0610, [(32, 4)], .wo, 0x0, 0x0, 0x0, 0x1, []⟩,
  /- PTP.TCn_CNT_OVF -/ ⟨0x1A0614, [(32, 4)], .cnt, 0x0, 0x0, 0x0, 0x0, []⟩]

def regRowsPTP : List RegRow := regRowsPTP_0 ++ regRowsPTP_1 ++ regRowsPTP_2 ++ regRowsPTP_3 ++ regRowsPTP_4

/-- Registers of block CAN0 (Table HOST-8: base 0x1B_0000). -/
def regRowsCAN0_0 : List RegRow := [
  /- CANm.CTRL -/ ⟨0x1B0000, [(65536, 2)], .rw, 0x0, 0x1F, 0x1F, 0x0, []⟩,
  /- CANm.STATUS -/ ⟨0x1B0004, [(65536, 2)], .rol, 0x0, 0x0, 0x0, 0x0, []⟩,
  /- CANm.NBT -/ ⟨0x1B0008, [(65536, 2)], .rw, 0xF0F3E01, 0x7F7FFFFF, 0x0, 0x0, [.range 8 8 1 255, .range 16 7 1 127]⟩,
  /- CANm.DBT -/ ⟨0x1B000C, [(65536, 2)], .rw, 0x7071E00, 0xF0F1F1F, 0x0, 0x0, []⟩,
  /- CANm.TDC -/ ⟨0x1B0010, [(65536, 2)], .rw, 0x0, 0x7F01, 0x0, 0x0, []⟩,
  /- CANm.RESTART -/ ⟨0x1B0014, [(65536, 2)], .wo, 0x0, 0x0, 0x0, 0x1, []⟩,
  /- CANm.MBX_ID_RX -/ ⟨0x1B0018, [(65536, 2)], .rw, 0x0, 0x3FFFFFFF, 0x3FFFFFFF, 0x0, []⟩,
  /- CANm.MBX_ID_TX -/ ⟨0x1B001C, [(65536, 2)], .rw, 0x0, 0x3FFFFFFF, 0x3FFFFFFF, 0x0, []⟩,
  /- CANm.CNT_RX -/ ⟨0x1B0080, [(65536, 2)], .cnt, 0x0, 0x0, 0x0, 0x0, []⟩,
  /- CANm.CNT_TX -/ ⟨0x1B0084, [(65536, 2)], .cnt, 0x0, 0x0, 0x0, 0x0, []⟩,
  /- CANm.CNT_ERR -/ ⟨0x1B0088, [(65536, 2)], .cnt, 0x0, 0x0, 0x0, 0x0, []⟩,
  /- CANm.CNT_BUSOFF -/ ⟨0x1B008C, [(65536, 2)], .cnt, 0x0, 0x0, 0x0, 0x0, []⟩]

def regRowsCAN0_1 : List RegRow := [
  /- CANm.CNT_OVR -/ ⟨0x1B0090, [(65536, 2)], .cnt, 0x0, 0x0, 0x0, 0x0, []⟩,
  /- CANm.MBb_CFG -/ ⟨0x1B0100, [(65536, 2), (16, 64)], .rw, 0x0, 0xFFFFFFFF, 0xFFFFFFFF, 0x0, []⟩,
  /- CANm.MBb_MASK -/ ⟨0x1B0104, [(65536, 2), (16, 64)], .rw, 0x1FFFFFFF, 0x1FFFFFFF, 0x0, 0x0, []⟩,
  /- CANm.MBb_STATUS -/ ⟨0x1B0108, [(65536, 2), (16, 64)], .rol, 0x0, 0x0, 0x0, 0x0, []⟩]

def regRowsCAN0 : List RegRow := regRowsCAN0_0 ++ regRowsCAN0_1

/-- Registers of block CRC (Table HOST-8: base 0x1D_0000). -/
def regRowsCRC_0 : List RegRow := [
  /- CRC.ACTIVE -/ ⟨0x1D0000, [], .rol, 0x0, 0x0, 0x0, 0x0, []⟩,
  /- CRC.CNT_CFG_REJ -/ ⟨0x1D0004, [], .cnt, 0x0, 0x0, 0x0, 0x0, []⟩,
  /- CRC.CHc_CTRL -/ ⟨0x1D0100, [(128, 8)], .rw, 0x10, 0x3F, 0x3F, 0x0, []⟩,
  /- CRC.CHc_POLY -/ ⟨0x1D0104, [(128, 8)], .rw, 0x1EDC6F41, 0xFFFFFFFF, 0x0, 0x0, []⟩,
  /- CRC.CHc_INIT -/ ⟨0x1D0108, [(128, 8)], .rw, 0xFFFFFFFF, 0xFFFFFFFF, 0x0, 0x0, []⟩,
  /- CRC.CHc_XOROUT -/ ⟨0x1D010C, [(128, 8)], .rw, 0xFFFFFFFF, 0xFFFFFFFF, 0x0, 0x0, []⟩,
  /- CRC.CHc_PARAM -/ ⟨0x1D0110, [(128, 8)], .rw, 0x3E0, 0x3FFF, 0x0, 0x0, []⟩,
  /- CRC.CHc_START_LO -/ ⟨0x1D0114, [(128, 8)], .rw, 0x0, 0xFFFFFFFF, 0xFFFFFFFF, 0x0, []⟩,
  /- CRC.CHc_START_HI -/ ⟨0x1D0118, [(128, 8)], .rw, 0x0, 0xFF, 0xFF, 0x0, []⟩,
  /- CRC.CHc_LENGTH -/ ⟨0x1D011C, [(128, 8)], .rw, 0x0, 0xFFFFFFFF, 0xFFFFFFFF, 0x0, []⟩,
  /- CRC.CHc_BLOCK -/ ⟨0x1D0120, [(128, 8)], .rw, 0x0, 0xFFFFFFFF, 0x0, 0x0, []⟩,
  /- CRC.CHc_STRIDE -/ ⟨0x1D0124, [(128, 8)], .rw, 0x0, 0xFFFFFFFF, 0x0, 0x0, []⟩]

def regRowsCRC_1 : List RegRow := [
  /- CRC.CHc_ATTACH -/ ⟨0x1D0128, [(128, 8)], .rw, 0x0, 0xFFFF01FF, 0xFFFF01FF, 0x0, []⟩,
  /- CRC.CHc_AUX -/ ⟨0x1D012C, [(128, 8)], .rw, 0x0, 0xFFFFFF, 0x0, 0x0, []⟩,
  /- CRC.CHc_CMD -/ ⟨0x1D0130, [(128, 8)], .wo, 0x0, 0x0, 0x0, 0x1, []⟩,
  /- CRC.CHc_RESULT -/ ⟨0x1D0134, [(128, 8)], .rol, 0x0, 0x0, 0x0, 0x0, []⟩,
  /- CRC.CHc_STATUS -/ ⟨0x1D0138, [(128, 8)], .rol, 0x0, 0x0, 0x0, 0x0, []⟩,
  /- CRC.CHc_ALIVE -/ ⟨0x1D013C, [(128, 8)], .rol, 0x0, 0x0, 0x0, 0x0, []⟩,
  /- CRC.CHc_CNT_OK -/ ⟨0x1D0140, [(128, 8)], .cnt, 0x0, 0x0, 0x0, 0x0, []⟩,
  /- CRC.CHc_CNT_CRC_ERR -/ ⟨0x1D0144, [(128, 8)], .cnt, 0x0, 0x0, 0x0, 0x0, []⟩,
  /- CRC.CHc_CNT_REPEAT -/ ⟨0x1D0148, [(128, 8)], .cnt, 0x0, 0x0, 0x0, 0x0, []⟩,
  /- CRC.CHc_CNT_GAP -/ ⟨0x1D014C, [(128, 8)], .cnt, 0x0, 0x0, 0x0, 0x0, []⟩,
  /- CRC.CHc_CNT_ALIVE_ERR -/ ⟨0x1D0150, [(128, 8)], .cnt, 0x0, 0x0, 0x0, 0x0, []⟩,
  /- CRC.CHc_CNT_RESYNC -/ ⟨0x1D0154, [(128, 8)], .cnt, 0x0, 0x0, 0x0, 0x0, []⟩]

def regRowsCRC_2 : List RegRow := [
  /- CRC.CHc_CNT_INVALID -/ ⟨0x1D0158, [(128, 8)], .cnt, 0x0, 0x0, 0x0, 0x0, []⟩,
  /- CRC.CHc_CNT_START_BUSY -/ ⟨0x1D015C, [(128, 8)], .cnt, 0x0, 0x0, 0x0, 0x0, []⟩]

def regRowsCRC : List RegRow := regRowsCRC_0 ++ regRowsCRC_1 ++ regRowsCRC_2

/-- Registers of block MBX (Table HOST-8: base 0x1E_0000). -/
def regRowsMBX_0 : List RegRow := [
  /- MBX.STATUS -/ ⟨0x1E0000, [], .rol, 0x0, 0x0, 0x0, 0x0, []⟩,
  /- MBX.CAN_ASSY -/ ⟨0x1E0004, [], .rw, 0x32, 0xFF, 0x0, 0x0, [.range 0 8 5 200]⟩,
  /- MBX.TIMED_PENDING -/ ⟨0x1E0008, [], .rol, 0x0, 0x0, 0x0, 0x0, []⟩,
  /- MBX.MBn_CFG, MB0 to MB6 -/ ⟨0x1E0100, [(64, 7)], .rw, 0x4, 0x1F, 0x1F, 0x0, []⟩,
  /- MBX.MB7_CFG: PL is fixed -/ ⟨0x1E02C0, [], .rw, 0x4, 0x1C, 0x1C, 0x0, []⟩,
  /- MBX.MBn_EVT_MASK -/ ⟨0x1E0104, [(64, 8)], .rw, 0x7FFFE, 0x7FFFE, 0x0, 0x0, []⟩,
  /- MBX.MBn_IN_SLUICE -/ ⟨0x1E0108, [(64, 8)], .rw, 0x0, 0x1FFF, 0x0, 0x0, []⟩,
  /- MBX.MBn_IN_RD -/ ⟨0x1E010C, [(64, 8)], .rol, 0x0, 0x0, 0x0, 0x0, []⟩,
  /- MBX.MBn_OUT_WR -/ ⟨0x1E0110, [(64, 8)], .rol, 0x0, 0x0, 0x0, 0x0, []⟩,
  /- MBX.MBn_OUT_SLUICE -/ ⟨0x1E0114, [(64, 8)], .rw, 0x0, 0x1FFF, 0x0, 0x0, []⟩,
  /- MBX.MBn_STATUS -/ ⟨0x1E0118, [(64, 8)], .rol, 0x0, 0x0, 0x0, 0x0, []⟩,
  /- MBX.MBn_CNT_RX -/ ⟨0x1E0120, [(64, 8)], .cnt, 0x0, 0x0, 0x0, 0x0, []⟩,
  /- MBX.MBn_CNT_BAD_LENGTH -/ ⟨0x1E0124, [(64, 8)], .cnt, 0x0, 0x0, 0x0, 0x0, []⟩]

def regRowsMBX_1 : List RegRow := [
  /- MBX.MBn_CNT_BAD_CRC -/ ⟨0x1E0128, [(64, 8)], .cnt, 0x0, 0x0, 0x0, 0x0, []⟩,
  /- MBX.MBn_CNT_BAD_ALIVE -/ ⟨0x1E012C, [(64, 8)], .cnt, 0x0, 0x0, 0x0, 0x0, []⟩,
  /- MBX.MBn_CNT_ALIVE_GAP -/ ⟨0x1E0130, [(64, 8)], .cnt, 0x0, 0x0, 0x0, 0x0, []⟩,
  /- MBX.MBn_CNT_DENIED -/ ⟨0x1E0134, [(64, 8)], .cnt, 0x0, 0x0, 0x0, 0x0, []⟩,
  /- MBX.MBn_CNT_EVT_DROP -/ ⟨0x1E0138, [(64, 8)], .cnt, 0x0, 0x0, 0x0, 0x0, []⟩,
  /- MBX.RULEr_MATCH -/ ⟨0x1E0400, [(16, 16)], .rw, 0x0, 0xDFFFFFFF, 0xDFFFFFFF, 0x0, []⟩,
  /- MBX.RULEr_INDEX -/ ⟨0x1E0404, [(16, 16)], .rw, 0x0, 0xFFFFFFFF, 0xFFFFFFFF, 0x0, []⟩]

def regRowsMBX : List RegRow := regRowsMBX_0 ++ regRowsMBX_1

/-- Registers of block DRAM (Table HOST-8: base 0x1F_0000). -/
def regRowsDRAM_0 : List RegRow := [
  /- DRAM.SURF_POOL_BASE -/ ⟨0x1F0000, [], .rw, 0x200, 0x1FFF, 0x1FFF, 0x0, [.range 0 13 512 8191]⟩,
  /- DRAM.SURF_POOL_SIZE -/ ⟨0x1F0004, [], .rw, 0x40, 0x1FFF, 0x1FFF, 0x0, [.range 0 13 64 8191]⟩,
  /- DRAM.POOL_FREE -/ ⟨0x1F0008, [], .rol, 0x400, 0x0, 0x0, 0x0, []⟩,
  /- DRAM.POOL_LARGEST -/ ⟨0x1F000C, [], .rol, 0x400, 0x0, 0x0, 0x0, []⟩,
  /- DRAM.SURF_VALID_LO -/ ⟨0x1F0010, [], .rol, 0x0, 0x0, 0x0, 0x0, []⟩,
  /- DRAM.SURF_VALID_HI -/ ⟨0x1F0014, [], .rol, 0x0, 0x0, 0x0, 0x0, []⟩,
  /- DRAM.CNT_MAP_REJ -/ ⟨0x1F0018, [], .cnt, 0x0, 0x0, 0x0, 0x0, []⟩,
  /- DRAM.SURFn_CFG -/ ⟨0x1F0100, [(16, 64)], .rw, 0x0, 0xFFFFFFFF, 0xFFFFFFFF, 0x0, [.enum 26 3 6 0]⟩,
  /- DRAM.SURFn_BASE -/ ⟨0x1F0104, [(16, 64)], .rw, 0x0, 0xE003FFFF, 0xE003FFFF, 0x0, [.enum 29 3 5 0]⟩,
  /- DRAM.SURFn_STATE -/ ⟨0x1F0108, [(16, 64)], .rol, 0x0, 0x0, 0x0, 0x0, []⟩]

def regRowsDRAM : List RegRow := regRowsDRAM_0

/-- Registers of block GPIO (Table HOST-8: base 0x20_0000). -/
def regRowsGPIO_0 : List RegRow := [
  /- GPIO.PINn_CFG -/ ⟨0x200000, [(4, 16)], .rw, 0x14, 0xFF, 0x0, 0x0, [.enum 2 2 2 1]⟩,
  /- GPIO.IN -/ ⟨0x200040, [], .rol, 0x0, 0x0, 0x0, 0x0, []⟩,
  /- GPIO.BANK -/ ⟨0x200044, [], .rol, 0x0, 0x0, 0x0, 0x0, []⟩,
  /- GPIO.DRV_A -/ ⟨0x200048, [], .rw, 0xA, 0xF, 0x0, 0x0, []⟩,
  /- GPIO.DRV_B -/ ⟨0x20004C, [], .rw, 0xAA, 0xFF, 0x0, 0x0, []⟩,
  /- GPIO.CNT_BANK_LOSS -/ ⟨0x200050, [], .cnt, 0x0, 0x0, 0x0, 0x0, []⟩]

def regRowsGPIO : List RegRow := regRowsGPIO_0

/-- Registers of block FW (Table HOST-8: base 0x21_0000). -/
def regRowsFW_0 : List RegRow := [
  /- FW.STATE -/ ⟨0x210000, [], .rol, 0x0, 0x0, 0x0, 0x0, []⟩,
  /- FW.VERSION -/ ⟨0x210004, [], .rol, 0x0, 0x0, 0x0, 0x0, []⟩,
  /- FW.GEN -/ ⟨0x210008, [], .rol, 0x0, 0x0, 0x0, 0x0, []⟩,
  /- FW.IF_REV -/ ⟨0x21000C, [], .rol, 0x300, 0x0, 0x0, 0x0, []⟩]

def regRowsFW : List RegRow := regRowsFW_0

/-- The rows of the block a register address lies in (Table HOST-8: a block per 64 KiB, SEG, SLK, SDS and FAB
two each, MAC1 and CAN1 as second copies of MAC0 and CAN0). -/
def regRows (a : Nat) : List RegRow :=
  match a / 0x10000 with
  | 0x00 => regRowsTOP
  | 0x01 => regRowsPMU
  | 0x02 => regRowsAON
  | 0x03 => regRowsHK
  | 0x04 => regRowsSUP
  | 0x05 => regRowsRAS
  | 0x06 => regRowsCMP
  | 0x07 => regRowsBEAM
  | 0x08 => regRowsCORR
  | 0x09 => regRowsHLT
  | 0x0A => regRowsPOL
  | 0x0B => regRowsSNOW
  | 0x10 => regRowsSEG
  | 0x12 => regRowsSLK
  | 0x14 => regRowsSDS
  | 0x16 => regRowsFAB
  | 0x18 => regRowsMAC0
  | 0x1A => regRowsPTP
  | 0x1B => regRowsCAN0
  | 0x1D => regRowsCRC
  | 0x1E => regRowsMBX
  | 0x1F => regRowsDRAM
  | 0x20 => regRowsGPIO
  | 0x21 => regRowsFW
  | 0x19 => regRowsMAC0
  | 0x1C => regRowsCAN0
  | _ => []

end Sys2Proof.Machine
end

