-- ==== Sys2Proof/Config.lean ====
section
/-! DEFINITION. What a device fixes and what the spec leaves open. Every constant here is opaque: nothing can evaluate
it, so a statement about it holds for every value. -/
namespace Sys2Proof.Config

/-- The n-th free value: the value a quantity the spec leaves open takes the n-th time one is needed (log entry 7).
A consumer takes it modulo the width it needs. -/
opaque freeValue : Nat → Nat

/-- The device's unique ID (FAB.UID_LO and FAB.UID_HI, R256). -/
opaque uid : BitVec 64

/-- The grade of the part less one: 0 A4, 1 D4, 2 D8 (R2, TOP.DEVICE_ID). -/
opaque gradeM1 : Fin 3

/-- The silicon stepping (TOP.STEPPING). -/
opaque stepping : BitVec 8

/-- The MAC address of MACm as delivered (MACm.ADDR_LO and MACm.ADDR_HI). -/
opaque macAddr : Nat → BitVec 48

/-- The version word of the firmware image with a GEN (FW.VERSION). -/
opaque fwVersion : Nat → BitVec 32

/-- GEN of the firmware image a device is delivered with (FW.GEN, R338). -/
opaque fwGen : BitVec 32

/-- The grandmaster data set of this device as a PTP clock: priority1, clock quality, priority2 and identity as one number, of which the
smaller is the better clock (Table TIME-2; the spec gives no values). -/
opaque ptpDataset : Nat

/-- Levels that the board drives on the balls GPIO0 to GPIO15, one bit each, at an instant of device time (R452; log entry 96). -/
opaque boardLevels : Nat → Nat

end Sys2Proof.Config
end

