-- ==== Sys2Proof/Machine/State.lean ====
section
/-! DEFINITION. The state of the block as plain data, the reasons a step can stop, and the state at a cold reset.

Registers have one home, `regs` (the live copy of an RWS register has its own store `live`, and the set captured at a
blanking start a third, `cap`); status bits that a register shows live there and nowhere else. Everything else the
chapters give the machine is in the structures below. -/
namespace Sys2Proof.Machine

/-- No meaning faults: the spec gives the block no fault that stops it. The one constructor is raised by nothing and
is there because the interface asks for the type; safe. -/
inductive Fault where
  /-- raised by no meaning; safe -/
  | none
  deriving DecidableEq, Repr

/-- Why a command has no meaning. -/
inductive Refusal where
  /-- a command the model has not given its meaning yet: raised by arms of exec only; safe (nothing is claimed of it) -/
  | notModelled (mnemonic : String)
  deriving DecidableEq, Repr

/-- A packet waiting at a fabric output (R262, R266). -/
structure FabPkt where
  ty : Nat
  vc : Nat
  dest : Nat
  src : Nat
  hops : Nat
  flags : Nat
  seq : Nat
  frame : Nat
  xinfo : Nat
  payload : List Byte
  /-- port whose receive buffer it frees when it is sent (R265) -/
  inPort : Option Nat := none
  /-- forward entry and strip of a packet of this device's own send (R269) -/
  strip : Option (Nat × Nat) := none
  /-- device ns at which it was queued (R267) -/
  since : Nat := 0
  /-- counted as delayed -/
  late : Bool := false
  deriving DecidableEq, Repr

/-- What the device puts on its wires and pins, in order; the model's own record (log entry 10). -/
inductive Output where
  /-- a packet on a segment link: its bytes between SOP and EOP (R55) -/
  | slk (link : Nat) (frame : List Byte)
  /-- an ordered set on a segment link other than LATCH: second character, argument (Table PSL-2) -/
  | slkSet (link code arg : Nat)
  /-- LATCH on a segment link: FN and the launch instant in 2⁻¹⁶ ns (R77) -/
  | latch (link fn : Nat) (launch : Int)
  /-- a packet sent by a transmitting stream: its bytes between SOP and EOP (R92, R110) -/
  | stream (n : Nat) (frame : List Byte)
  /-- a packet on a fabric port: its bytes between SOP and EOP (R253) -/
  | fab (port : Nat) (frame : List Byte)
  /-- a mailbox message taken by its transport (R321) -/
  | mbx (mb client : Nat) (bytes : List Byte)
  /-- a CAN FD frame, with bit-rate switching or not -/
  | can (m id : Nat) (brs : Bool) (data : List Byte)
  /-- an Ethernet payload: MAC, IPv4 address of the next hop (R314), destination (a client key, or 0), source port (0 for a frame that is
  not UDP) -/
  | eth (m hop dest port : Nat) (data : List Byte)
  /-- a PTP message -/
  | ptp (port ty : Nat) (data : List Byte)
  /-- an output timed to an instant changes level: 0 SYNC_OUT, 1 + n TTn; the level of the ball; the instant in 2⁻¹⁶ ns (R36) -/
  | edge (ball : Nat) (level : Bool) (at16 : Int)
  /-- bytes driven on the host port (R371, R368) -/
  | host (bytes : List Byte)
  /-- an ordered set or training set on a serial lane, sent a number of times in a row: the codes of its characters, the first a K28.5
  (Table SDS-2) -/
  | laneSet (lane : Nat) (chars : List Byte) (times : Nat)
  /-- a CAPS packet on a serial lane: its bytes between SOP and EOP (Table SDS-4) -/
  | laneCaps (lane : Nat) (frame : List Byte)
  /-- the common-mode charge test of DETECT on a serial lane (R300) -/
  | laneTest (lane : Nat)
  /-- bits on the pair of a serial lane in TEST, in order (R310, R311) -/
  | laneBits (lane : Nat) (bits : List Bool)
  deriving DecidableEq, Repr

/-- The context a service runs a command in: command code, the message, whether the timed list runs it (R42), whether it changes what
lamps show, and how late it runs. -/
structure Ctx where
  code : Nat
  m : Msg
  /-- the timed list runs it -/
  timed : Bool := false
  /-- it changes what lamps show (R42) -/
  light : Bool := false
  /-- a timed RAS_TIMING dequeued while the raster was disabled: its target is a tick (R453) -/
  byTick : Bool := false
  /-- how late it ran, in µs, when that is answered (R329) -/
  lateUs : Option Nat := none
  deriving DecidableEq, Repr

/-- A command answered ACCEPTED whose completion is to follow (R328): context, the class and index range
its object spans, and numbers of its own. -/
structure Op where
  ctx : Ctx
  cls : Nat
  lo : Nat
  hi : Nat
  /-- numbers that the service itself keeps -/
  d : List Nat := []
  deriving DecidableEq, Repr

/-- A timed command waiting (R329, R345): target time in ns, tolerance in µs. -/
structure Timed where
  t : Nat
  tol : Nat
  ctx : Ctx
  deriving DecidableEq, Repr

/-- A completion that waits for the phase 0 at which its change applies: how many phase 0s are still to come. -/
structure Compl where
  wait : Nat
  ctx : Ctx
  part : List Byte
  deriving DecidableEq, Repr

/-- A response held because its outbound ring lacks room (R330). -/
structure Held where
  mb : Nat
  client : Nat
  cmd : Nat
  flags : Nat
  seq : Nat
  target : Nat
  payload : List Byte
  deriving DecidableEq, Repr

/-- A request forwarded to another device (R331): destination, SEQ used there, mailbox and client of the origin, the
client's SEQ. -/
structure Fwd where
  dest : Nat
  seq : Nat
  mb : Nat
  client : Nat
  origSeq : Nat
  deriving DecidableEq, Repr

/-- An event record (R335). -/
structure EvRec where
  seq : Nat
  wrap : Word
  code : Nat
  cls : Nat
  sev : Nat
  frame : Word
  obj : Word
  detail : List Byte
  deriving DecidableEq, Repr

/-- A CAN FD assembly in progress (R145, R321): frames expected, next frame, ALIVE copy, bytes so far, and the tick of frame 0 in ns. -/
structure Assembly where
  start : Nat
  nfrag : Nat
  next : Nat
  alive : Byte
  bytes : List Byte
  deriving DecidableEq, Repr

/-- A message a transport engine has received: mailbox, client, bytes, and the credits of a fabric port it holds: port, VC, number (R265,
R321). -/
structure Arrived where
  mb : Nat
  client : Nat
  bytes : List Byte
  credit : Option (Nat × Nat × Nat) := none
  deriving DecidableEq, Repr

/-- Mailboxes: what no register shows. -/
structure Mbx where
  /-- last accepted ALIVE of each client, keyed mailbox + 8 × client (R325, R326) -/
  alive : Store (Option Byte) := []
  /-- clients of MB4, least recently heard first (R325) -/
  mb4 : List Nat := []
  /-- source of the last request accepted, per mailbox: the events of MB4 go there (R335), and those of MB5 (log entry 21) -/
  lastClient : Store Nat := []
  /-- outbound ALIVE counter per mailbox (R323) -/
  outAlive : Store Byte := []
  /-- messages in outbound rings that a transport has not taken: mailbox, client, bytes in the ring (R321) -/
  outq : List (Nat × Nat × Nat) := []
  /-- SEQ of EVENT messages per mailbox (R335) -/
  evtSeq : Store Nat := []
  /-- sampled messages, oldest first: tick, mailbox, write count reached, client (R320, R327) -/
  samples : List (Nat × Nat × Nat × Nat) := []
  /-- messages a transport engine has not yet placed in its inbound ring (R321), or not yet answered BAD_LENGTH (R337) -/
  wait : List Arrived := []
  /-- responses held for want of room (R330) -/
  held : List Held := []
  /-- commands accepted and not complete (R328) -/
  ops : List Op := []
  /-- timed commands waiting, in order of arrival (R329) -/
  timed : List Timed := []
  /-- completions waiting for a phase 0 -/
  compl : List Compl := []
  /-- records of forwarded requests (R331) -/
  fwd : List Fwd := []
  /-- ALIVE and SEQ of forwarded requests per destination (R331) -/
  fwdAlive : Store Byte := []
  fwdSeq : Store Nat := []
  /-- count of the device's events (R335) -/
  evseq : Nat := 0
  /-- the event log, oldest first (R335) -/
  log : List EvRec := []
  /-- the log as last committed to MRAM (R401) -/
  logSaved : List EvRec := []
  /-- events raised and not yet sent: those of the tick in progress, and of a pause (R335, R337) -/
  evNew : List EvRec := []
  /-- CAN FD message assemblies of MB2 and MB3 -/
  asm : Store (Option Assembly) := []
  deriving DecidableEq, Repr

/-- A staged load in progress (R343): command code, object, SIZE, the bytes written so far by offset. -/
structure Load where
  code : Nat
  obj : Nat
  size : Nat
  got : Store (Option Byte)
  extra : List Byte
  /-- tick of its last message, ns of device time (R343) -/
  last : Nat := 0
  deriving DecidableEq, Repr

/-- Raster time beyond the RAS registers. -/
structure Ras where
  /-- enabled, and the first phase 0 has not come (R43) -/
  armed : Bool := false
  /-- a phase 0 has come since the raster was enabled -/
  ran : Bool := false
  /-- frame number of the last phase 0 -/
  frame : BitVec 32 := 0
  /-- frame number of the next phase 0 -/
  nextFrame : BitVec 32 := 0
  /-- instant of the last phase 0, in 2⁻¹⁶ ns of device time -/
  p0At : Int := 0
  /-- instant planned for the next phase 0 (R34) -/
  p0Next : Int := 0
  /-- instant of the first phase 0 since the raster was last enabled, as planned at its enabling (R43) -/
  p0First : Int := 0
  /-- blanking of the frame in progress has started -/
  inBlank : Bool := false
  /-- a timing set is captured for the next phase 0 (R44, R46) -/
  commitCap : Bool := false
  /-- EPOCH has been staged and not captured since; the set captured holds an epoch (R44) -/
  epochStaged : Bool := false
  epochCap : Bool := false
  /-- which of PERIOD (bit 0) and PERIOD_FRAC (bit 1) were written since the set was rejected (R46) -/
  rejSeen : Nat := 0
  /-- fraction of REF below 1 ns, in 2⁻¹⁶ ns (R23) -/
  refFrac : Nat := 0
  /-- move of the next phase 0 by the blanking of this frame, and move left for later frames, in 2⁻¹⁶ ns (R34) -/
  move : Int := 0
  slewLeft : Int := 0
  /-- start of the frame in composition as planned when its composition started (R30) -/
  photon : Int := 0
  /-- commits made after their capture: bit 0 global, 1 BEAM, 2 CORR, 3 POL, 4 timing (R127) -/
  recommit : Nat := 0
  /-- an in-window SYNC_IN edge was used in this frame (R32) -/
  edgeUsed : Bool := false
  /-- frames in a row without such an edge (R33) -/
  missRun : Nat := 0
  /-- a target instant of the last SYNC_IN edge taken (R32) -/
  syncTarget : Option Int := none
  /-- a TE edge was accepted for the current phase 0, or its window has closed (R79, R80) -/
  teDone : Bool := false
  /-- no LATCH goes with the current phase 0: it is the first, or composition is halted (R43, R414) -/
  teMute : Bool := false
  /-- a TE edge was accepted before the phase 0 to come -/
  teNext : Bool := false
  /-- LATCH was launched on at least one link at the last phase 0 (R249) -/
  latched : Bool := false
  /-- SYNC_OUT has pulsed in this frame; the instant at which a pulse that is out ends (R35) -/
  syncOutDone : Bool := false
  syncFall : Option Int := none
  /-- the tick, in ns, in which a phase 0 ran before a command of a later class, ahead of its own event (R37) -/
  ahead : Option Nat := none
  /-- armed time actions: time, address, data taken at ARM, and where the time has passed unserved the tick in ns at which it runs
  (R39, R40) -/
  tact : Store (Option (Nat × Nat × Nat × Option Nat)) := []
  deriving DecidableEq, Repr

/-- A downstream packet that waits for its answer (R67, R68). -/
structure OutPkt where
  tag : Byte
  ty : Nat
  sub : Nat
  flags : Nat
  payload : List Byte
  /-- times it was sent again -/
  tries : Nat := 0
  deriving DecidableEq, Repr

/-- A segment link beyond its registers. -/
structure LinkSt where
  /-- RATE in force since the last training began (R49) -/
  rate : Nat := 0
  /-- in the 10 ms wait after a failed attempt (R73) -/
  waiting : Bool := false
  /-- the attempt in progress was started from DOWN (R73) -/
  fromDown : Bool := false
  /-- failed attempts of the series (R73) -/
  fails : Nat := 0
  /-- next heartbeat CNT (R52) -/
  hbNext : Byte := 0
  /-- heartbeat echoes missing or wrong in a row (R52) -/
  hbBad : Nat := 0
  /-- round trips measured in DELAY, ns (R76) -/
  rtts : List Nat := []
  /-- the link holds a receiver tap of an earlier calibration (R73) -/
  heldTap : Bool := false
  /-- CAL failed once and the further run at the old tap is out (R73) -/
  calAgain : Bool := false
  /-- packets waiting for an answer -/
  outst : List OutPkt := []
  /-- next TAG -/
  tag : Byte := 0
  /-- upstream CRC errors and NAKs of this frame (R69, R74) -/
  crcErr : Nat := 0
  naks : Nat := 0
  /-- the DEFAULT_NOW of R81 is out and the link goes OFF on its answer -/
  closing : Bool := false
  /-- the HOLD of R74 is out and the link enters ALIGN on its answer -/
  holding : Bool := false
  /-- UP_SLEEP is out (R86) -/
  sleeping : Bool := false
  /-- the training in progress skips DELAY and CAL (R421) -/
  quick : Bool := false
  /-- phase 0s since the link entered ACTIVE, at most 2 (R75) -/
  age : Nat := 0
  /-- BLANK_CMD packets of modes 0, 3, 4 waiting for blanking: sub (8: all), mode, count (R71) -/
  blankQ : List (Nat × Nat × Nat) := []
  /-- SEG_DATA packets sent once more in this frame: sub, first row (R68) -/
  resent : List (Nat × Nat) := []
  /-- DEFAULT_LOAD chunks waiting for blanking: sub, chunk, COMMIT, codes (R62, R71) -/
  defQ : List (Nat × Nat × Bool × List Byte) := []
  /-- a packet of CONFIG got no ACK: CONFIG ends by its timeout (R72) -/
  cfgFail : Bool := false
  /-- round robin of R70: the sub-position whose turn it is; the instants at which the line is free and at which the last HEARTBEAT went
  out, in thirds of 2⁻¹⁶ ns -/
  rr : Nat := 0
  lineAt : Int := 0
  hbAt : Int := 0
  deriving DecidableEq, Repr

/-- What a segment shows. -/
inductive Show where
  | codes | dark | default
  deriving DecidableEq, Repr

/-- A segment beyond its registers. -/
structure SegSt where
  /-- GEOM and EN in force at the last training of its link (R65) -/
  geom : Nat := 0
  en : Bool := false
  /-- link codes composed for the next LATCH, and whether they were sent complete (R70) -/
  next : List Nat := []
  /-- composed codes of R124 of the last composition but one for a fallback (R228), and whether this frame's is complete (R229) -/
  comp : List Nat := []
  signed : Bool := false
  composed : Bool := false
  sent : Bool := false
  /-- the same codes before derating; rows sent of this frame, and that no later row is sent in it (R70) -/
  nextPre : List Nat := []
  rowsOut : Nat := 0
  stopped : Bool := false
  /-- composition was due this frame (R115) -/
  due : Bool := false
  /-- codes latched and what is shown (R66) -/
  codes : List Nat := []
  shows : Show := .dark
  /-- a BLANK_CMD DARK_NEXT is out for the next LATCH (R61) -/
  darkNext : Bool := false
  /-- a BLANK_CMD of modes 0 to 2 stands until a complete frame is latched (R61) -/
  blanked : Bool := false
  /-- frames left of a hold (R84) -/
  holdLeft : Nat := 0
  /-- causes that keep a DEFAULT segment from composition: hold expired while reloading, faulty, unmapped (R115) -/
  defReload : Bool := false
  defFault : Bool := false
  defUnmapped : Bool := false
  /-- map and correction records applied and not failed (R183), their reference CRCs (R185) -/
  mapOk : Bool := false
  corrOk : Bool := false
  refMap : Option Word := none
  refCorr : Option Word := none
  /-- records whose copy is in progress or complete in a reload: 0 none, 1 copying, 2 complete (R184) -/
  reload : Nat := 0
  /-- composed for the last frame before this one: sums of codes per class before and after derating (R212) -/
  pre : List Nat := []
  post : List Nat := []
  /-- sums per class of the codes last latched (R212) -/
  lastSums : List Nat := []
  /-- start slot of the plan; S, W and trim in force at the driver (R212, R215, R216) -/
  slot : Nat := 0
  sNow : Nat := 0
  wNow : Nat := 0
  trimNow : Nat := 128
  /-- its SEG_CMD was not acknowledged: it keeps the values in force (R216) -/
  stale : Bool := false
  /-- codes of the default pattern last loaded (R212) -/
  defCodes : List Nat := []
  /-- lit frames: of the frame being lit, and of the one before, with whether R66 counts its reports -/
  lit0 : Option Bool := none
  lit1 : Option Bool := none
  /-- the LATCH of the phase 0 in progress begins a lit frame of the segment -/
  litN : Option Bool := none
  /-- SEG_STATUS and HEADROOM accepted for the frame before the one being lit, and for the one being lit -/
  rpt0 : Option (List Byte) := none
  rpt1 : Option (List Byte) := none
  head0 : Option Nat := none
  head1 : Option Nat := none
  /-- VF_ROW accepted for the same two frames: ROW, BASE, samples; and whether those frames were trimmed late (R196, R222) -/
  vf0 : Option (Nat × Nat × List Byte) := none
  vf1 : Option (Nat × Nat × List Byte) := none
  late0 : Bool := false
  late1 : Bool := false
  /-- counted lit frames in a row without SEG_STATUS (R202) -/
  noRpt : Nat := 0
  /-- last SEG_TEMP in 1/16 °C and the frames since it was accepted (R174) -/
  temp : Option Int := none
  tempAge : Nat := 255
  /-- the segment was trimmed late for the frame that latches next (R222) -/
  lateNext : Bool := false
  /-- IREF_GLOBAL last sent and acknowledged -/
  irefNow : Nat := 1023
  /-- the fallback frame is complete for this segment (R246) -/
  fbDone : Bool := false
  /-- on a link in TE mode, the frame that waits for its LATCH after phase 0: codes, sums, whether complete (R79, R80) -/
  teHeld : Option (List Nat × List Nat × Bool) := none
  deriving DecidableEq, Repr

/-- A lamp's class and persistence state (R192) and drift verdict (R196); the failure map shows the classes (R199). -/
structure Lamp where
  /-- class: 0 OK, 1 OPEN, 2 SHORT, 3 WEAK -/
  cls : Nat := 0
  /-- candidate class -/
  cand : Nat := 0
  /-- counted frames in a row that gave it -/
  run : Nat := 0
  /-- drift verdict held (R196) -/
  drift : Bool := false
  deriving DecidableEq, Repr

/-- A canvas layer beyond its registers. -/
structure LayerSt where
  /-- policy in force: 0 none, 1 HOLD, 2 HIDE, 3 FALLBACK (R132) -/
  policy : Nat := 0
  /-- the layer reads a buffer in the composition in progress: surface, buffer (R136) -/
  reading : Option (Nat × Nat) := none
  /-- buffers it has left whose RETIRED has not been sent: surface, buffer, FRAME (R136) -/
  retire : List (Nat × Nat × Nat) := []
  /-- result of the first scan of the buffer it reads (R138) -/
  chk : Option Word := none
  /-- its first scan runs or waits on a channel: channel, surface, buffer (R138) -/
  chkRun : Option (Nat × Nat × Nat) := none
  /-- composed hidden in this frame (late without previous content, or HIDE) -/
  hidden : Bool := false
  /-- rows this frame in which its fetch has underrun: segment, row, column from which BG shows (R134) -/
  under : List (Nat × Nat × Nat) := []
  /-- a clear ended its FALLBACK policy at the last phase 0 (R248) -/
  cleared : Bool := false
  deriving DecidableEq, Repr

/-- A surface beyond its registers. -/
structure SurfSt where
  /-- the buffer that the last phase 0 with a READY buffer made READING (R107) -/
  cur : Option Nat := none
  /-- buffers still READING that wait for the end of their last read (R107, R136) -/
  old : List Nat := []
  /-- per buffer, consecutive phase 0s at which it has been WRITING (R130) -/
  wrRun : List Nat := []
  /-- a frame was published since it was created -/
  ever : Bool := false
  /-- its stream has abandoned or discarded a frame since NEWEST was published (R130) -/
  discarded : Bool := false
  deriving DecidableEq, Repr

/-- A stream input beyond its registers. -/
structure StrSt where
  /-- packets are discarded until the next VSTART (Table STR-5) -/
  skip : Bool := false
  /-- frame in reception: SFN, width, height, format, time stamp, period (R91) -/
  sfn : Nat := 0
  width : Nat := 0
  height : Nat := 0
  fmt : Nat := 0
  ts : Word := 0
  period : Word := 0
  /-- buffer it is written to -/
  buf : Nat := 0
  /-- lines received -/
  lines : List Nat := []
  /-- META packets kept by ID (R96) -/
  metas : Store (List Byte) := []
  /-- a frame is being transmitted (R110) -/
  sending : Bool := false
  deriving DecidableEq, Repr

/-- An object of a list (Table BEAM-2). -/
structure Obj where
  id : Nat
  cls : Nat
  azL : Int
  azR : Int
  elB : Int
  elT : Int
  vaz : Int
  vel : Int
  dist : Nat
  ts : Word
  deriving DecidableEq, Repr

/-- A renderer output: object table, governing state, pattern and fade (R151, R161). -/
structure RTab where
  /-- objects rendered -/
  objs : List Obj := []
  /-- governing state of STATUS -/
  state : Nat := 0
  /-- fade weights: patterns and their weights; the base beam is their weighted mean -/
  old : Nat := 0
  pat : Nat := 0
  i : Nat := 0
  f : Nat := 0
  /-- the live BEAM set of the pass that later passes over the table use: GRID_AZ, GRID_EL, BANK, HB_SEGn, CLASSc_CFG -/
  gAz : Word := 0
  gEl : Word := 0
  gBank : Nat := 0
  hb : List Word := []
  cfg : List Word := []
  /-- a speculative table of lookahead mode (R163) -/
  spec : Bool := false
  deriving DecidableEq, Repr

/-- The beam renderer beyond its registers. -/
structure Beam where
  /-- ALIVE and CRC of the last list accepted (R146) -/
  lastAlive : Option Byte := none
  lastCrc : Word := 0
  /-- current list, and whether one was accepted since the last phase 0 -/
  cur : List Obj := []
  fresh : Bool := false
  /-- the list current at the last render cutoff (R150) -/
  fixed : List Obj := []
  /-- the render cutoff of the frame in progress has passed (R150) -/
  cutDone : Bool := false
  /-- consecutive lists within the timeout (R148) -/
  consec : Nat := 0
  /-- tick of the last accepted list, ns -/
  lastTick : Nat := 0
  /-- table being rendered, table complete for the next composition, table of the composition in progress -/
  prep : Option RTab := none
  /-- tick at which it started, in 2⁻¹⁶ ns (R151) -/
  prepAt : Int := 0
  ready : Option RTab := none
  shown : Option RTab := none
  /-- table whose base beam is the last base-beam output completed, and whether it is this frame's (R159) -/
  base : Option RTab := none
  baseDone : Bool := false
  /-- the output rendered for this composition was completed (R130) -/
  done : Bool := false
  /-- fade: pattern faded from, to, outputs done, outputs in all (R161) -/
  fadeFrom : Nat := 0
  fadeTo : Nat := 0
  fadeI : Nat := 0
  fadeF : Nat := 0
  /-- LOOKAHEAD change waiting for its phase 0: captured or not, new value (R350) -/
  laPend : Option Bool := none
  laCap : Option Bool := none
  /-- lookahead is in force -/
  la : Bool := false
  /-- a squash re-renders in this frame (R165) -/
  squashed : Bool := false
  /-- objects of the shown table whose clamped horizon is counted (R154) -/
  horizonDone : List Nat := []
  /-- CAN FD list assemblies (R145) -/
  asm : Store (Option Assembly) := []
  /-- pattern and glyph sets: first byte in DRAM, width, height -/
  pats : Store (Option (Nat × Nat × Nat)) := []
  glyphs : Store (Option (Nat × Nat × Nat)) := []
  deriving DecidableEq, Repr

/-- A table apply accepted (R184): first, last segment, tables, source, whether captured, and its command. -/
structure Apply where
  lo : Nat
  hi : Nat
  tables : Nat
  source : Nat
  /-- captured at a blanking start -/
  cap : Bool := false
  /-- its command, none for a reload the device begins itself -/
  ctx : Option Ctx := none
  deriving DecidableEq, Repr

/-- Lamp map and correction beyond registers. -/
structure Corr where
  /-- applies accepted and not captured or begun -/
  applies : List Apply := []
  /-- copying: segment ranges whose copies run -/
  copying : List Apply := []
  /-- next segment to scan (R187) -/
  scanNext : Nat := 0
  /-- segments of a save still to write: next, whether it stands in the scratch area, last, the command (R186) -/
  saving : Option (Nat × Bool × Nat × Ctx) := none
  /-- lamps failed for fill at the phase 0 at which the composition in progress started (R176) -/
  failed : List Nat := []
  /-- failed lamps that gave fill in the composition in progress (R179) -/
  fillNow : List Nat := []
  deriving DecidableEq, Repr

/-- A VF capture (R197). -/
structure VfCap where
  /-- first and last segment -/
  lo : Nat
  hi : Nat
  /-- its command -/
  ctx : Ctx
  /-- lit frames captured -/
  n : Nat := 0
  /-- evaluations still to come of frames lit before the command -/
  wait : Nat := 2
  /-- the reference records are taken -/
  tref : Bool := false
  deriving DecidableEq, Repr

/-- Lamp health beyond registers. -/
structure Hlt where
  /-- class, persistence and drift per lamp index -/
  lamps : Store Lamp := []
  /-- a VF capture in progress -/
  cap : Option VfCap := none
  /-- lamps already captured in it -/
  capDone : Store Bool := []
  /-- supply conditions standing: VIN under, VIN over (R428) -/
  vinUnder : Bool := false
  vinOver : Bool := false
  deriving DecidableEq, Repr

/-- The light supply beyond registers. Voltages in mV. -/
structure Sup where
  /-- levelling base in mV (R218) -/
  vbase : Int := 0
  /-- feed-forward in force (R219) -/
  ff : Nat := 0
  /-- phases disabled by a fault; a subset of the six (R224) -/
  off : Nat := 0
  /-- overvoltage trip waiting for its restart, time of the last overvoltage in ns -/
  ovWait : Bool := false
  ovLast : Option Nat := none
  /-- undervoltage tripped since the last phase 0, time of the last trip -/
  uvTrip : Bool := false
  uvLast : Nat := 0
  /-- actual peak of the frame last lit, and of the frame that lights next, in the units of `ampU` -/
  peakLit : Nat := 0
  peakNext : Nat := 0
  /-- plan in force: MODE, G, m -/
  planMode : Nat := 0
  planG : Nat := 8
  planM : Nat := 2
  /-- the last composed frame was derated -/
  derated : Bool := false
  /-- feed-forward whose lower setpoint starts at the next phase 0 (R219) -/
  ffNext : Option Nat := none
  /-- switching frequency of the stage since its last start (R208) -/
  fsw : Nat := 100
  deriving DecidableEq, Repr

/-- A polder beyond its registers. -/
structure PolSt where
  /-- mismatches in a row (R232) -/
  run : Nat := 0
  /-- a reaction was taken and no match has followed (R232) -/
  acted : Bool := false
  /-- previous complete signature, last shadow signature that matched (R231, R241) -/
  prevSig : Option Word := none
  lastShadow : Option Word := none
  /-- footprint, as a bit mask of segments (R229) -/
  foot : Nat := 0
  /-- checked in this frame -/
  checked : Bool := false
  deriving DecidableEq, Repr

/-- Polders and fallback beyond registers. -/
structure Pol where
  /-- per polder -/
  ps : Store PolSt := []
  /-- phase 0s until a pending fallback applies, and the slot the reaction named (R244) -/
  fbWait : Nat := 0
  named : Nat := 0
  /-- a clear waits: not captured, captured (R248) -/
  clearPend : Bool := false
  clearCap : Bool := false
  deriving DecidableEq, Repr

/-- A snowpack operation in progress (R240): command code, slot, entry fields, words received, phase 0s to its
application, its command. -/
structure SnowOp where
  code : Nat
  slot : Nat
  /-- entry fields: offset, run words, width and height less one, flags, background, CRC (Table POL-4) -/
  offset : Nat := 0
  runs : Nat := 0
  wm1 : Nat := 0
  hm1 : Nat := 0
  sflags : Nat := 0
  bg : Nat := 0
  crc : Nat := 0
  /-- words received -/
  words : Store (Option Word) := []
  /-- bytes of a one-message command, or the entry before the write -/
  bytes : List Byte := []
  /-- SLOT_END (or a one-message command) was accepted -/
  ended : Bool := false
  /-- captured for the next phase 0; applied -/
  cap : Bool := false
  applied : Bool := false
  /-- frame of the phase 0 that applied it -/
  frame : Nat := 0
  /-- its command, once ACCEPTED -/
  ctx : Option Ctx := none
  deriving DecidableEq, Repr

/-- The snowpack beyond its window and registers. -/
structure Snow where
  /-- the operation in progress; at most one (R240) -/
  op : Option SnowOp := none
  /-- which of two MRAM copies is the newer, by their sequence numbers, for each part (0 to 3 slots, 4 directory, 5 gain table) -/
  newer : Store Nat := []
  /-- parts being restored -/
  restoring : List Nat := []
  deriving DecidableEq, Repr

/-- What a scan of a check-value channel serves. -/
inductive ScanUser where
  /-- CHc_CMD.START or CRC_SCAN -/
  | client
  /-- first scan of buffer `b` of surface `f`, for layer `n` (R138) -/
  | first (n f b : Nat)
  /-- its second scan, with the result of the first (R138) -/
  | second (n f b : Nat) (w : Word)
  /-- the table scan: twice the segment, and 1 for its correction table (R187) -/
  | table (arg : Nat)
  deriving DecidableEq, Repr

/-- A check-value channel beyond its registers (R352 to R363). -/
structure CrcSt where
  /-- user of the scan in progress -/
  user : ScanUser := .client
  /-- the scan in progress was started in this tick, and scans that follow it: user, first byte, bytes (R138) -/
  fresh : Bool := false
  queue : List (ScanUser × Nat × Nat) := []
  /-- discards in a row for the counter alone (R362) -/
  badRun : Nat := 0
  /-- the counter has been started (R360, R361) -/
  started : Bool := false
  deriving DecidableEq, Repr

/-- A posted write frame (R374). -/
structure HFrame where
  opcode : Nat
  addr : Nat
  words : List Word
  /-- words applied -/
  applied : Nat := 0
  deriving DecidableEq, Repr

/-- The host port. -/
structure HostPort where
  /-- posted frames, oldest first -/
  frames : List HFrame := []
  /-- CODE of the last write frame that has ended (Table HOST-3) -/
  code : Nat := 0
  deriving DecidableEq, Repr

/-- A fabric port beyond its registers. Counts per VC (R265). -/
structure FabPort where
  /-- packets waiting at this output, oldest first -/
  q : List FabPkt := []
  /-- partner's buffer sizes, its counts of freed credits, credits consumed, own credits freed -/
  size : Store Nat := []
  freed : Store Nat := []
  used : Store Nat := []
  mine : Store Nat := []
  /-- credits freed since the last FLOW -/
  since : Nat := 0
  /-- token buckets of VC0 and VC1 in 1/160,000 byte, and the device ns of the last fill (R266) -/
  bucket : Store Nat := []
  bucketAt : Nat := 0
  /-- deficits of VC2 and VC3, and whose turn it is (R266) -/
  deficit : Store Nat := []
  turn : Nat := 2
  /-- claim the neighbour advertises: ROOT_UID, DIST (R256) -/
  adv : Option (Nat × Nat) := none
  /-- FID or PREF_ID of the neighbour's last HELLO -/
  advId : Nat := 0
  deriving DecidableEq, Repr

/-- A device of the root's topology (R258): UID, FID, ports from the root to it, its port toward its parent, and its four
neighbours (UID, neighbour's port; UID 0 for none). -/
structure TopoDev where
  uid : Nat
  fid : Nat
  path : List Nat
  parent : Nat
  neigh : List (Nat × Nat)
  deriving DecidableEq, Repr

/-- An assignment in progress (R258). -/
structure Asg where
  uid : Nat
  fid : Nat
  path : List Nat
  parent : Nat
  tries : Nat
  deriving DecidableEq, Repr

/-- A subscription beyond its registers (R271 to R274). -/
structure SubSt where
  /-- frame and buffer being written -/
  writing : Option (Nat × Nat) := none
  /-- packets received of it: line, X0 -/
  got : List (Nat × Nat) := []
  /-- it has published a frame (R274) -/
  published : Bool := false
  deriving DecidableEq, Repr

/-- The fabric beyond its registers. -/
structure Fab where
  /-- per port -/
  ports : Store FabPort := []
  /-- claim: 0 none, 1 own UID, 2 + p adopted on port p (R256) -/
  claim : Nat := 0
  /-- FID kept as PREF_ID for later discoveries (R258) -/
  pref : Nat := 0
  /-- devices the root has found, in order -/
  topo : List TopoDev := []
  /-- UIDs left out of the assignment -/
  leftOut : List Nat := []
  /-- FID of the root, from the last ASSIGN or ROUTE, and the tree path to it -/
  rootFid : Nat := 0
  rootPath : List Nat := []
  /-- FIDs this device, as root, last gave to UIDs: it hears of PREF_IDs by its neighbours' HELLO only (log entry 132) -/
  known : List (Nat × Nat) := []
  /-- assignment in progress -/
  asg : Option Asg := none
  /-- IMAGE_ID last issued by this root; IMAGE_ID staged in the idle bank; T of the pending switch (R261) -/
  imageId : Nat := 0
  staged : Option Nat := none
  commitAt : Option Nat := none
  /-- multicast groups created at this root: group, sender, members (R261) -/
  grp : List (Nat × Nat × List Nat) := []
  /-- SEQ per VC; last SEQ per origin and VC, as 4 × origin + VC -/
  seqTx : Store Nat := []
  seqRx : Store (Option Nat) := []
  /-- per subscription -/
  subs : Store SubSt := []
  deriving DecidableEq, Repr

/-- A time-triggered output as armed (R289, R290): START and period in 2⁻¹⁶ ns, width in ns, next occurrence. -/
structure TtSt where
  /-- START, in 2⁻¹⁶ ns -/
  start : Nat := 0
  /-- period, in 2⁻¹⁶ ns -/
  period : Nat := 0
  /-- WIDTH, in ns -/
  width : Nat := 0
  /-- periodic, or one shot -/
  periodic : Bool := false
  /-- active low -/
  pol : Bool := false
  /-- number of the next occurrence -/
  n : Nat := 0
  /-- a pulse is out: the instant at which it ends, in 2⁻¹⁶ ns -/
  fall : Option Int := none
  /-- its instant passed before it could be served: the tick in ns at which it runs (R40, R290) -/
  late : Option Nat := none
  deriving DecidableEq, Repr

/-- Network time beyond registers. -/
structure Ptp where
  /-- integ and adj in 2⁻⁶⁴ ns per s (R286) -/
  integ : Int := 0
  adj : Int := 0
  /-- consecutive offsets within LOCK_TH (R287) -/
  run : Nat := 0
  /-- UTC offset in s (R278) -/
  utc : Int := 0
  /-- outputs as armed -/
  tt : Store TtSt := []
  /-- capture FIFOs: TOTAL, falling (R291) -/
  tc : Store (List (Nat × Bool)) := []
  /-- ingress and egress timestamps of the last event message of each type, as 16 × port + type (R284) -/
  rxTs : Store Int := []
  txTs : Store (Option Int) := []
  /-- data set of the grandmaster in the last Announce of each port (Table TIME-2) -/
  announce : Store (Option Nat) := []
  /-- per port the master's originTimestamp and the ingress timestamp of the last Sync; the neighbour's two timestamps and the ingress
  timestamp of the last Pdelay_Resp, and the t3 and t4 of the last exchange completed -/
  syncT : Store (Option (Int × Int)) := []
  respT : Store (Option (Int × Int)) := []
  nrrT : Store (Option (Int × Int)) := []
  /-- ports with an exchange of peer delay completed, as a bit mask (asCapable) -/
  capable : Nat := 0
  deriving DecidableEq, Repr

/-- A serial lane beyond its registers. -/
structure LaneSt where
  /-- a valid CAPS has been received on the lane; CAPS is complete (R300) -/
  seen : Bool := false
  done : Bool := false
  /-- an EIOS of this device waits for its answer (R308) -/
  eiosOut : Bool := false
  /-- this device has sent its FTS burst, and the partner's is still to come (R308, R309) -/
  ftsOut : Bool := false
  /-- device ns of the last CAPS sent, or of the tick in which the lane became ACTIVE (R300, R307) -/
  at_ : Nat := 0
  /-- the PRBS generator: its last bits, newest first (R311) -/
  gen : List Bool := []
  /-- the PRBS checker: its last bits, newest first; error-free bits in a row before lock, or bits of the block of 64 in progress after it;
  errors in that block (R311) -/
  chk : List Bool := []
  run : Nat := 0
  errs : Nat := 0
  deriving DecidableEq, Repr

/-- A lane group, 0 to 3 STR0 to STR3, 4 to 7 FP0 to FP3 (R303, R304). -/
structure GroupSt where
  /-- failed attempts in a row (R304) -/
  fails : Nat := 0
  /-- in the wait between attempts, and the device ns at which the backoff ends (R303) -/
  waiting : Bool := false
  until_ : Nat := 0
  /-- a probe of R304 is in progress -/
  probing : Bool := false
  /-- an attempt waits for the reference clock (R301) -/
  held : Bool := false
  deriving DecidableEq, Repr

/-- Network ports beyond registers. -/
structure Net where
  /-- data in CAN message buffers, as 64 × controller + buffer (R315) -/
  canBuf : Store (List Byte) := []
  deriving DecidableEq, Repr

/-- A banded sensor: 0 to 47 the channels, 48 + s SEG_TEMP of segment s (R390 to R394). -/
structure Sensor where
  /-- band in force -/
  band : Nat := 7
  /-- BROKEN (R390) -/
  broken : Bool := false
  /-- a first value has been given (R394) -/
  given : Bool := false
  /-- conversions in a row past a limit -/
  run : Nat := 0
  /-- their direction -/
  lastDir : Int := 0
  /-- rounds in a row without a broken condition -/
  clean : Nat := 0
  /-- condition of R390 in the last conversion -/
  bad : Bool := false
  /-- band decided and not yet in force (R395) -/
  next : Option Nat := none
  deriving DecidableEq, Repr

/-- Housekeeping and calibration beyond registers. -/
structure Hk where
  /-- per sensor -/
  sens : Store Sensor := []
  /-- units waiting for a calibration run, in order -/
  calQueue : List Nat := []
  /-- unit whose run is out -/
  calRun : Option Nat := none
  /-- temperature of the governing sensor at the last run attempt (R404) -/
  calTemp : Store (Option Int) := []
  /-- CAL_RUN commands waiting, by unit -/
  calCtx : List (Nat × Ctx) := []
  /-- CAL registers outside the units that hold a USER value (R381) -/
  userFields : List Nat := []
  /-- a CAL_SAVE copy stands in MRAM: register address and value (R408) -/
  saved : Option (List (Nat × Word)) := none
  deriving DecidableEq, Repr

/-- A firmware bank's commit record (R336, R338): GEN; 0 none, 1 TRIAL, 2 CONFIRMED. -/
structure FwRec where
  /-- GEN -/
  gen : Nat := 0
  /-- 0 none, 1 TRIAL, 2 CONFIRMED -/
  st : Nat := 0
  deriving DecidableEq, Repr

/-- Firmware update. -/
structure Fw where
  /-- mailbox and client that began the update -/
  owner : Option (Nat × Nat) := none
  /-- SIZE of the image -/
  size : Nat := 0
  /-- records by bank -/
  recs : Store FwRec := []
  /-- phase 0s until the handover -/
  commitWait : Nat := 0
  deriving DecidableEq, Repr

/-- The always-on domain's time count (R293, R294, R443). -/
structure Aon where
  /-- the count, not the core clock, moves device time -/
  on : Bool := false
  /-- part of a crystal cycle that has passed, in 10⁻⁹ cycles -/
  acc : Nat := 0
  /-- PTP.AON_TRIM as copied at the entry -/
  trim : Word := 0
  /-- the domain lost its state; device time starts from 0 at the next start (R412) -/
  lost : Bool := false
  deriving DecidableEq, Repr

/-- Power, reset and start-up. -/
structure Pwr where
  /-- the always-on count -/
  aon : Aon := {}
  /-- state: 0 RUN, 1 IDLE, 2 FROST, 3 GLACIER, 4 OFF -/
  state : Nat := 0
  /-- the orderly stop of R398 has begun; step 5 of Table HK-5 is done -/
  stopped : Bool := false
  stopDone : Bool := false
  /-- what is in progress: 0 nothing, 1 to 3 entry to that state, 4 return from IDLE to RUN, 5 restart after a refusal -/
  target : Nat := 0
  /-- the step of Table PWR-2 in progress (R413) -/
  step : Nat := 0
  /-- step of THAW in progress; 0 none (R421) -/
  thaw : Nat := 0
  /-- device ns at which the THAW or the restart in progress began -/
  since : Nat := 0
  /-- wake latched during an entry (R415): bit of WAKE -/
  wake : Option Nat := none
  /-- links ACTIVE when they were put to sleep or cleared, links whose EN was cleared, and SUP.CTRL.EN then (R414, R419) -/
  linksWere : List Nat := []
  linksEn : List Nat := []
  supWas : Bool := false
  /-- mailboxes do not dequeue (step 1 of Table PWR-2) -/
  quiesced : Bool := false
  /-- composition is halted (step 2) -/
  halted : Bool := false
  /-- the pipeline step waits: 1 for its blanking start, 2 for the phase 0 after it; 3: composition resumes at the next phase 0 -/
  pipe : Nat := 0
  /-- a reset is asserted, or the device is off or shut down -/
  inReset : Bool := false
  /-- the shutdown of R400 is latched -/
  shut : Bool := false
  /-- VIN lies below the POR thresholds (R428) -/
  vinLow : Bool := false
  /-- RESET_N is held low -/
  resetLow : Bool := false
  /-- device ns of the prewarn trip whose stop is under way -/
  stopAt : Nat := 0
  /-- the THERMAL event of a prewarn trip, sent when the stop is done -/
  stopEv : List EvRec := []
  /-- a reset waits for the prewarn comparator to release: KIND, cause (R399) -/
  resetHeld : Option (Nat × Nat) := none
  /-- what follows a response: reset KIND, or 2 for OFF; the cause; and the device ns at which it follows (SYS_RESET, PWR_OFF) -/
  after : Option (Nat × Nat × Nat) := none
  /-- DRAM is in service -/
  dramReady : Bool := false
  deriving DecidableEq, Repr

/-- Levels of output balls: TT0 to TT3 and GPIO0 to GPIO15 as bit masks. -/
structure Levels where
  /-- SYNC_OUT -/
  syncOut : Bool := false
  /-- ALIVE_OUT -/
  aliveOut : Bool := false
  /-- PH_EN: 0 low, 1 high, 2 high impedance -/
  phEn : Nat := 2
  /-- PH_PWM0 to PH_PWM5: 0 low, 1 switching, 2 high impedance -/
  phPwm : List Nat := [2, 2, 2, 2, 2, 2]
  /-- CAN_STB -/
  canStb : Bool := true
  /-- TT0 to TT3 -/
  tt : Nat := 0
  /-- GPIO0 to GPIO15 -/
  gpio : Nat := 0
  /-- HINT_N -/
  hintN : Bool := true
  deriving DecidableEq, Repr

/-- Output balls. -/
structure Pins where
  /-- levels that have no register, as driven inside the device -/
  syncOut : Bool := false
  aliveOut : Bool := false
  canStb : Bool := true
  /-- levels held by R424 -/
  held : Option Levels := none
  /-- levels of the capture balls GPIO12 to GPIO15 at their last edge (R291) -/
  tcIn : Nat := 0
  /-- banks lost: bit 0 VIOA, bit 1 VIOB (R440) -/
  lost : Nat := 0
  deriving DecidableEq, Repr

/-- The state of the block. -/
structure State where
  /-- registers by 24-bit address: shadow words of RWS registers, values of all others (R369) -/
  regs : Store Word := []
  /-- live words of RWS registers, by the address of their shadow (R379) -/
  live : Store Word := []
  /-- words captured at a blanking start, by the address of their shadow (R127) -/
  cap : Store (Option Word) := []
  /-- memory by the 40-bit scan address of Table CRC-2: DRAM, MRAM, snowpack, windows -/
  mem : Store Byte := []
  /-- device time in 2⁻³² ns (R277, R278) -/
  now : Nat := 0
  /-- raster time -/
  ras : Ras := {}
  /-- segment links -/
  links : Store LinkSt := []
  /-- segments -/
  segs : Store SegSt := []
  /-- canvas layers -/
  layers : Store LayerSt := []
  /-- surfaces -/
  surfs : Store SurfSt := []
  /-- stream inputs -/
  strs : Store StrSt := []
  /-- beam renderer -/
  beam : Beam := {}
  /-- lamp map and correction -/
  corr : Corr := {}
  /-- lamp health -/
  hlt : Hlt := {}
  /-- light supply -/
  sup : Sup := {}
  /-- polders and fallback -/
  pol : Pol := {}
  /-- snowpack operations -/
  snow : Snow := {}
  /-- check-value channels -/
  crc : Store CrcSt := []
  /-- mailboxes -/
  mbx : Mbx := {}
  /-- staged loads -/
  loads : List Load := []
  /-- host port -/
  host : HostPort := {}
  /-- fabric -/
  fab : Fab := {}
  /-- network time -/
  ptp : Ptp := {}
  /-- serial lanes -/
  lanes : Store LaneSt := []
  /-- lane groups -/
  groups : Store GroupSt := []
  /-- network ports -/
  net : Net := {}
  /-- housekeeping and calibration -/
  hk : Hk := {}
  /-- firmware update -/
  fw : Fw := {}
  /-- power, reset and start-up -/
  pwr : Pwr := {}
  /-- output balls -/
  pins : Pins := {}
  /-- what has been put on the wires, oldest first -/
  out : List Output := []
  /-- free values used so far (log entry 7) -/
  free : Nat := 0
  /-- commands waiting, first in, first out -/
  pending : List Instr := []
  deriving DecidableEq, Repr

/-- The block right after a cold reset is released (R426, R427): every register at its reset value, straps low, start-up
stage 0, memory with nothing listed, no command waiting. -/
def State.reset : State := {}

end Sys2Proof.Machine
end

