-- ==== Sys2Proof/Machine/Store.lean ====
section
/-! DEFINITION. Reading and writing a sparse store. `d` is what an unlisted index reads as. A write keeps the
canonical form: indexes strictly rising, no entry equal to `d` of its index. -/
namespace Sys2Proof.Machine

variable {α : Type}

/-- What index `k` holds. -/
def sget (d : Nat → α) : Store α → Nat → α
  | [], k => d k
  | (i, v) :: r, k => if i = k then v else if k < i then d k else sget d r k

/-- The store without index `k`. -/
def sdrop : Store α → Nat → Store α
  | [], _ => []
  | (i, v) :: r, k => if i = k then r else if k < i then (i, v) :: r else (i, v) :: sdrop r k

/-- The store with `v` listed at index `k`. -/
def sinsert : Store α → Nat → α → Store α
  | [], k, v => [(k, v)]
  | (i, w) :: r, k, v =>
    if i = k then (k, v) :: r else if k < i then (k, v) :: (i, w) :: r else (i, w) :: sinsert r k v

/-- The store after `v` is written at index `k`: a value equal to the default is not listed. -/
def sput [DecidableEq α] (d : Nat → α) (st : Store α) (k : Nat) (v : α) : Store α :=
  if v = d k then sdrop st k else sinsert st k v

/-- Indexes rise strictly, and all lie above `lo`. -/
def sRising : Nat → Store α → Bool
  | _, [] => true
  | lo, (i, _) :: r => decide (lo ≤ i) && sRising (i + 1) r

/-- No entry equals the default of its index. -/
def sLean [DecidableEq α] (d : Nat → α) (st : Store α) : Bool := st.all fun e => decide (e.2 ≠ d e.1)

/-- The canonical form. -/
def sWf [DecidableEq α] (d : Nat → α) (st : Store α) : Bool := sRising 0 st && sLean d st

end Sys2Proof.Machine
end

