-- ==== Sys2Proof/Machine/Ops.lean ====
section
/-! DEFINITION. The named operations over registers, memory, device time, events and outputs that every meaning is
written with. -/
namespace Sys2Proof.Machine

/-! ### Sorting -/

/-- `x` in a sorted list, before the first element it may stand before. -/
def insertBy {α : Type} (le : α → α → Bool) (x : α) : List α → List α
  | [] => [x]
  | y :: r => if le x y then x :: y :: r else y :: insertBy le x r

/-- A list sorted by `le`; equal elements keep their order. -/
def sortBy {α : Type} (le : α → α → Bool) (l : List α) : List α := l.foldr (insertBy le) []

/-! ### Registers -/

/-- Whether offset `o` from a row's base is an element of its array. -/
def hasOff : List (Nat × Nat) → Nat → Bool
  | [], o => o == 0
  | (s, c) :: r, o => decide (o / s < c) && hasOff r (o % s)

/-- Whether a row holds the register at address `a`. -/
def rowHas (a : Nat) (r : RegRow) : Bool := decide (r.base ≤ a) && hasOff r.dims (a - r.base)

/-- The row of the register table that defines address `a` (R384); none at an unused offset. -/
def regRow (a : Nat) : Option RegRow := (regRows a).find? (rowHas a)

/-- Reset values that differ along an array or come from the device (Tables BEAM-11 and MBX-1, R162, R256). -/
def regOverride (a : Nat) : Option Word :=
  match a / 0x10000 with
  | 0x07 =>
    let o := a - 0x070100
    if a < 0x070100 then none
    else if o < 0x60 && o % 16 == 0 then
      some (if o / 16 == 3 || o / 16 == 4 then 0x44000#32 else 0x80000#32)
    else if o < 0x60 && o % 16 == 4 then
      some (match o / 16 with
        | 0 => 0x320064#32 | 1 => 0x320064#32 | 2 => 0x320032#32 | 3 => 0x320032#32 | 4 => 0x140014#32 | _ => 0x640064#32)
    else if 0x070404 ≤ a then
      let h := (a - 0x070404) % 64 / 4
      if h == 0 || h == 4 || h == 8 then some 0x3F800000#32 else none
    else none
  | 0x03 => if a == Reg.HK_SLK_TX 3 || a == Reg.HK_SLK_TX 4 then some 0x24#32 else none
  | 0x1E =>
    if 0x1E0100 ≤ a && a < 0x1E0300 && (a - 0x1E0100) % 64 == 0 then
      some (match (a - 0x1E0100) / 64 with
        | 0 => 4#32 | 1 => 5#32 | 2 => 6#32 | 3 => 6#32 | 4 => 6#32 | 5 => 4#32 | 6 => 5#32 | _ => 4#32)
    else none
  | 0x16 =>
    if a == Reg.FAB_UID_LO then some (Config.uid.extractLsb' 0 32)
    else if a == Reg.FAB_UID_HI then some (Config.uid.extractLsb' 32 32) else none
  | 0x18 =>
    if a == Reg.MAC_ADDR_LO 0 then some ((Config.macAddr 0).extractLsb' 0 32)
    else if a == Reg.MAC_ADDR_HI 0 then some (((Config.macAddr 0).extractLsb' 32 16).setWidth 32) else none
  | 0x19 =>
    if a == Reg.MAC_ADDR_LO 1 then some ((Config.macAddr 1).extractLsb' 0 32)
    else if a == Reg.MAC_ADDR_HI 1 then some (((Config.macAddr 1).extractLsb' 32 16).setWidth 32) else none
  | 0x21 =>
    if a == Reg.FW_VERSION then some (Config.fwVersion Config.fwGen.toNat) else if a == Reg.FW_GEN then some Config.fwGen else none
  | 0x00 =>
    if a == Reg.TOP_DEVICE_ID then some (BitVec.ofNat 32 (0x1048 + (Config.gradeM1.val + 1) * 0x10000))
    else if a == Reg.TOP_STEPPING then some (Config.stepping.setWidth 32) else none
  | _ => none

/-- The reset value of the register at address `a`. -/
def regDefault (a : Nat) : Word :=
  match regOverride a with
  | some v => v
  | none => match regRow a with
    | some r => BitVec.ofNat 32 r.reset
    | none => 0

/-- Bits `lo` to `lo + len − 1` of a word. -/
def fld (w : Word) (lo len : Nat) : Nat := (w.toNat >>> lo) % 2 ^ len

/-- A word with the field at `lo` of `len` bits set to `v` modulo 2^len. -/
def setFld (w : Word) (lo len v : Nat) : Word :=
  BitVec.ofNat 32 (w.toNat - fld w lo len * 2 ^ lo + v % 2 ^ len * 2 ^ lo)

/-- Signed value of the low `len` bits of `v`. -/
def sext (len v : Nat) : Int := if v % 2 ^ len < 2 ^ (len - 1) then (v % 2 ^ len : Nat) else (v % 2 ^ len : Nat) - (2 ^ len : Nat)

/-- Two's complement of `v` in `len` bits. -/
def wrapInt (len : Nat) (v : Int) : Nat := (v % (2 ^ len : Nat)).toNat

namespace State

/-- The stored word of a register. -/
def rd (s : State) (a : Nat) : Word := sget regDefault s.regs a

/-- The state after hardware or firmware sets a register. -/
def wr (s : State) (a : Nat) (v : Word) : State := { s with regs := sput regDefault s.regs a v }

/-- A field of a register. -/
def fd (s : State) (a lo len : Nat) : Nat := fld (s.rd a) lo len

/-- One bit of a register. -/
def bit (s : State) (a lo : Nat) : Bool := s.fd a lo 1 == 1

/-- The state after a field of a register is set. -/
def wf (s : State) (a lo len v : Nat) : State := s.wr a (setFld (s.rd a) lo len v)

/-- The state after one bit of a register is set or cleared. -/
def wb (s : State) (a lo : Nat) (b : Bool) : State := s.wf a lo 1 (if b then 1 else 0)

/-- A counter register after `k` more occurrences: it holds at the largest value of the field (R378). -/
def countBy (s : State) (a k : Nat) : State := s.wr a (BitVec.ofNat 32 (min ((s.rd a).toNat + k) 0xFFFFFFFF))

/-- A counter register after one more occurrence. -/
def count (s : State) (a : Nat) : State := s.countBy a 1

/-- The live word of an RWS register, by the address of its shadow (R379). -/
def lrd (s : State) (a : Nat) : Word := sget regDefault s.live a

/-- A field of a live word. -/
def lf (s : State) (a lo len : Nat) : Nat := fld (s.lrd a) lo len

/-- The state after a live word is set. -/
def lwr (s : State) (a : Nat) (v : Word) : State := { s with live := sput regDefault s.live a v }

/-- The captured word of an RWS register, if its set is captured (R127). -/
def crd (s : State) (a : Nat) : Option Word := sget (fun _ => none) s.cap a

/-- Capture the shadow of each register of a list. -/
def capture (s : State) (l : List Nat) : State :=
  { s with cap := l.foldl (fun c a => sput (fun _ => none) c a (some (s.rd a))) s.cap }

/-- Drop the captures of a list. -/
def uncapture (s : State) (l : List Nat) : State :=
  { s with cap := l.foldl (fun c a => sput (fun _ => none) c a none) s.cap }

/-- Move every captured word to the live set and clear the captures (R127, R379). -/
def applyCaps (s : State) : State :=
  { s with
    live := s.cap.foldl (fun l e => match e.2 with | some v => sput regDefault l e.1 v | none => l) s.live
    cap := [] }

end State

/-! ### Memory

One byte memory keyed by the scan addresses of Table CRC-2; the windows of Table HOST-9 lie at 0x30_0000_0000 plus
their register address, but for the snowpack, whose window shows the bytes at 0x20_0000_0000. -/

/-- Scan address of the first byte of MRAM. -/
def mramBase : Nat := 0x1000000000
/-- Scan address of the first byte of the snowpack. -/
def snowBase : Nat := 0x2000000000
/-- Scan address of register address 0. -/
def winBase : Nat := 0x3000000000

/-- Entry `i` of an identity table of `n` steps to 65,535, rounded to nearest (R125, R171). -/
def identityEntry (i n : Nat) : Nat := (i * 65535 * 2 + n) / (2 * n)

/-- Byte `o` of a window of 16-bit identity entries, `k` entries a table. -/
def identityByte (o k : Nat) : Byte :=
  let e := identityEntry (o / 2 % k) (k - 1)
  BitVec.ofNat 8 (if o % 2 == 0 then e else e / 256)

/-- Byte `o` of an empty snowpack directory: VERSION, its CRC, and 0 (Table POL-3). -/
def dirByte (o : Nat) : Byte :=
  if o == 0 then 0x10 else if 12 ≤ o && o < 16 then BitVec.ofNat 8 (0x2060A480 / 256 ^ (o - 12)) else 0

/-- Byte `o` of a copy of mirror part `p` as delivered: an empty directory, a gain table of zeros, empty slots, each with its sequence
number 0, its length and its CRC (R235). -/
def mirrorByte (p o : Nat) : Byte :=
  if p == 4 && o < 256 then dirByte o
  else if o == 0xFFF9 then (if 4 ≤ p then 1 else 0)
  else if 0xFFFC ≤ o then
    BitVec.ofNat 8 ((if p == 4 then 0xD8C571BF else if p == 5 then 0x1EC65F25 else 0x8C28B28A) / 256 ^ (o - 0xFFFC))
  else 0

/-- What a byte that nothing has written reads as: the identity in the LUT and curve windows (R125, R171), an empty snowpack and its mirror
(R235); 0 elsewhere (DESIGN CHOICE, log entry 3). -/
@[irreducible] def memDefault (a : Nat) : Byte :=
  if snowBase ≤ a && a < snowBase + 0x100 then dirByte (a - snowBase) else
  if mramBase + 0xC00000 ≤ a && a < mramBase + 0xCC0000 then
    mirrorByte ((a - mramBase - 0xC00000) / 0x20000) ((a - mramBase) % 0x10000) else
  if winBase + 0x400000 ≤ a && a < winBase + 0x420000 then identityByte (a - (winBase + 0x400000)) 4096
  else if winBase + 0x430000 ≤ a && a < winBase + 0x440000 then identityByte (a - (winBase + 0x430000)) 1024
  else 0

/-- The canonical form of memory: addresses strictly rising, no entry equal to what its address reads as unlisted. -/
def Memory.wf (m : Store Byte) : Bool := sWf memDefault m

namespace State

/-- One byte of memory. -/
def byte (s : State) (a : Nat) : Byte := sget memDefault s.mem a

/-- The state after one byte is written. -/
def putByte (s : State) (a : Nat) (v : Byte) : State := { s with mem := sput memDefault s.mem a v }

/-- `n` bytes from address `a`. -/
def bytes (s : State) (a n : Nat) : List Byte := (List.range n).map fun i => s.byte (a + i)

/-- The state after the bytes of `l` are written from address `a` upward. -/
def putBytes (s : State) (a : Nat) : List Byte → State
  | [] => s
  | b :: r => (s.putByte a b).putBytes (a + 1) r

/-- The little-endian value of `n` bytes. -/
def le (s : State) (a n : Nat) : Nat := leNat (s.bytes a n)

/-- The state after `n` bytes of a value are written, low byte first. -/
def putLe (s : State) (a n v : Nat) : State := s.putBytes a (leBytes n v)

/-- Copy `n` bytes from `src` to `dst`. -/
def copyBytes (s : State) (dst src n : Nat) : State := s.putBytes dst (s.bytes src n)

/-! ### Indexed state -/

def link (s : State) (n : Nat) : LinkSt := sget (fun _ => {}) s.links n
def setLink (s : State) (n : Nat) (l : LinkSt) : State := { s with links := sput (fun _ => {}) s.links n l }
def modLink (s : State) (n : Nat) (f : LinkSt → LinkSt) : State := s.setLink n (f (s.link n))
def seg (s : State) (n : Nat) : SegSt := sget (fun _ => {}) s.segs n
def setSeg (s : State) (n : Nat) (g : SegSt) : State := { s with segs := sput (fun _ => {}) s.segs n g }
def modSeg (s : State) (n : Nat) (f : SegSt → SegSt) : State := s.setSeg n (f (s.seg n))
def layer (s : State) (n : Nat) : LayerSt := sget (fun _ => {}) s.layers n
def modLayer (s : State) (n : Nat) (f : LayerSt → LayerSt) : State :=
  { s with layers := sput (fun _ => {}) s.layers n (f (s.layer n)) }
def surf (s : State) (n : Nat) : SurfSt := sget (fun _ => {}) s.surfs n
def modSurf (s : State) (n : Nat) (f : SurfSt → SurfSt) : State :=
  { s with surfs := sput (fun _ => {}) s.surfs n (f (s.surf n)) }
def str (s : State) (n : Nat) : StrSt := sget (fun _ => {}) s.strs n
def modStr (s : State) (n : Nat) (f : StrSt → StrSt) : State :=
  { s with strs := sput (fun _ => {}) s.strs n (f (s.str n)) }
def lamp (s : State) (n : Nat) : Lamp := sget (fun _ => {}) s.hlt.lamps n
def setLamp (s : State) (n : Nat) (l : Lamp) : State :=
  { s with hlt := { s.hlt with lamps := sput (fun _ => {}) s.hlt.lamps n l } }
def polder (s : State) (n : Nat) : PolSt := sget (fun _ => {}) s.pol.ps n
def modPolder (s : State) (n : Nat) (f : PolSt → PolSt) : State :=
  { s with pol := { s.pol with ps := sput (fun _ => {}) s.pol.ps n (f (s.polder n)) } }
def crcCh (s : State) (n : Nat) : CrcSt := sget (fun _ => {}) s.crc n
def modCrcCh (s : State) (n : Nat) (f : CrcSt → CrcSt) : State :=
  { s with crc := sput (fun _ => {}) s.crc n (f (s.crcCh n)) }

/-! ### Device time -/

/-- Total device nanoseconds, 64 bits (R278). -/
def nowNs (s : State) : Nat := s.now / 2 ^ 32 % 2 ^ 64

/-- Device time in 2⁻¹⁶ ns. -/
def now16 (s : State) : Int := (s.now / 2 ^ 16 : Nat)

/-- WRAPNS: the low 32 bits of the total. -/
def wrapNs (s : State) : Word := BitVec.ofNat 32 s.nowNs

/-- The tick at which an input acts, in ns: the first 1 µs boundary of device time at or after now (R36). -/
def tickNs (s : State) : Nat := (s.now + (1000 * 2 ^ 32 - 1)) / (1000 * 2 ^ 32) * 1000 % 2 ^ 64

/-- That tick in 2⁻¹⁶ ns. -/
def tick16 (s : State) : Int := ((s.now + (1000 * 2 ^ 32 - 1)) / (1000 * 2 ^ 32) * 65536000 : Nat)

/-- WRAPNS of that tick. -/
def tickWrap (s : State) : Word := BitVec.ofNat 32 s.tickNs

/-- The first tick at or after an instant in 2⁻¹⁶ ns, in ns (R36). -/
def tickOf (t : Int) : Nat := ((t + 65535999) / 65536000 * 1000).toNat

/-- The device time moves forward to the first tick at or after an instant in 2⁻¹⁶ ns (R36); it never moves back. -/
def advanceTo (s : State) (t : Int) : State :=
  let tick := ((t + 65535999) / 65536000 * 1000 * 2 ^ 32).toNat
  { s with now := max s.now tick }

/-! ### Outputs, free values, events -/

/-- Put something on the wires. -/
def emit (s : State) (o : Output) : State := { s with out := s.out ++ [o] }

/-- The next free value (log entry 7); `useFree` must follow. -/
def freeNow (s : State) : Nat := Config.freeValue s.free

/-- The free value is used up. -/
def useFree (s : State) : State := { s with free := s.free + 1 }

/-- The fabric ID of the device (FAB.STATUS.FID). -/
def ownFid (s : State) : Nat := s.fd Reg.FAB_STATUS 4 12

/-- A word in the TARGET layout (Table HIER-5) with the device's own FID. -/
def objWord (s : State) (cls idx : Nat) : Word := BitVec.ofNat 32 (s.ownFid + cls * 2 ^ 12 + idx % 2 ^ 16 * 2 ^ 16)

/-- An event is raised: numbered, dated, written to the event log, which holds 16 MiB, and kept for sending (R335). -/
def event (s : State) (code cls sev ocls idx : Nat) (detail : List Nat) : State :=
  let r : EvRec :=
    { seq := s.mbx.evseq, wrap := s.tickWrap, code := code, cls := cls, sev := sev, frame := s.ras.frame,
      obj := s.objWord ocls idx,
      detail := (detail ++ List.replicate 12 0).take 12 |>.map (BitVec.ofNat 8) }
  let l := s.mbx.log ++ [r]
  { s with mbx := { s.mbx with
      evseq := (s.mbx.evseq + 1) % 2 ^ 32, log := l.drop (l.length - 524288), evNew := s.mbx.evNew ++ [r] } }

end State

/-- Run a writer for every element of a list, in order. -/
def forEach {α : Type} (l : List α) (f : α → State → State) (s : State) : State := l.foldl (fun t a => f a t) s

/-- Run a writer when a condition holds. -/
def when (c : Bool) (f : State → State) (s : State) : State := if c then f s else s

/-- Little-endian detail bytes of an event. -/
def det (n v : Nat) : List Nat := (leBytes n v).map BitVec.toNat

end Sys2Proof.Machine
end

