-- ==== Sys2Proof/Machine/CrcUnit.lean ====
section
/-! DEFINITION. Check-value channels (R352 to R363): parameters, and the alive counter and check value added to and
taken off messages at an attachment. -/
namespace Sys2Proof.Machine

/-- Parameters of channel `c`: a preset, or its own registers (R352). A register of a custom channel above its width is
ignored (R7). -/
def chanParam (s : State) (c : Nat) : CrcParam :=
  match s.fd (Reg.CRC_CH_CTRL c) 3 3 with
  | 1 => crc32P
  | 2 => crc32cP
  | 3 => crc16P
  | 4 => crc8P
  | _ =>
    let w := s.fd (Reg.CRC_CH_PARAM c) 0 6
    { width := w, poly := (s.rd (Reg.CRC_CH_POLY c)).toNat % 2 ^ w, init := (s.rd (Reg.CRC_CH_INIT c)).toNat % 2 ^ w,
      refin := s.bit (Reg.CRC_CH_PARAM c) 6, refout := s.bit (Reg.CRC_CH_PARAM c) 7,
      xorout := (s.rd (Reg.CRC_CH_XOROUT c)).toNat % 2 ^ w }

/-- CHECK bytes of channel `c` (R353). -/
def checkBytes (s : State) (c : Nat) : Nat := ((chanParam s c).width + 7) / 8

/-- Modulus of the alive counter: 4 or 8 bits (R358). -/
def aliveMod (s : State) (c : Nat) : Nat := if s.bit (Reg.CRC_CH_PARAM c) 8 then 256 else 16

/-- The check value over DATA_ID, when enabled, and `l` (R353, R358). -/
def protValue (s : State) (c : Nat) (l : List Byte) : Nat :=
  let id := if s.bit (Reg.CRC_CH_PARAM c) 13 then leBytes 2 (s.fd (Reg.CRC_CH_AUX c) 0 16) else []
  crcValue (chanParam s c) (id ++ l)

/-- The lowest enabled channel that names a point in a mode (R359): KIND and INDEX, or PORT for Ethernet. -/
def chanAt (s : State) (mode kind index : Nat) : Option Nat :=
  (List.range 8).find? fun c =>
    s.fd (Reg.CRC_CH_CTRL c) 0 1 == 1 && s.fd (Reg.CRC_CH_CTRL c) 1 2 == mode && s.fd (Reg.CRC_CH_ATTACH c) 0 3 == kind &&
      (if kind == 3 || kind == 4 then s.fd (Reg.CRC_CH_ATTACH c) 16 16 == index else s.fd (Reg.CRC_CH_ATTACH c) 3 6 == index)

/-- The next counter of an APPEND channel: 0 in the first message after EN (R360). -/
def appendCtr (s : State) (c : Nat) : Nat :=
  if (s.crcCh c).started then (s.fd (Reg.CRC_CH_ALIVE c) 0 8 + 1) % aliveMod s c else 0

/-- A message in its protected form (R358, R360). -/
def protect (s : State) (c : Nat) (l : List Byte) : List Byte :=
  let body := l ++ [BitVec.ofNat 8 (appendCtr s c)]
  body ++ leBytes (checkBytes s c) (protValue s c body)

/-- A message was protected: the counter moves and CNT_OK counts. -/
def protectDone (c : Nat) (s : State) : State :=
  ((s.wf (Reg.CRC_CH_ALIVE c) 0 8 (appendCtr s c)).modCrcCh c fun h => { h with started := true }).count (Reg.CRC_CH_CNT_OK c)

/-- The smallest CAN FD data length that holds `n` bytes. -/
def canSize (n : Nat) : Nat := if n ≤ 8 then n else ([12, 16, 20, 24, 32, 48, 64].find? fun k => decide (n ≤ k)).getD 64

/-- A CAN FD payload with the PAD bytes that its protected form needs ahead of the counter (R360). -/
def canPadded (s : State) (c : Nat) (l : List Byte) : List Byte :=
  let n := l.length + 1 + checkBytes s c
  l ++ List.replicate (canSize n - n) (BitVec.ofNat 8 (s.fd (Reg.CRC_CH_AUX c) 16 8))

/-- A message as it leaves a point: in its protected form when an APPEND channel acts there (R359, R360). -/
def appendForm (s : State) (kind index : Nat) (l : List Byte) : List Byte :=
  match chanAt s 1 kind index with
  | some c => protect s c (if kind == 1 || kind == 2 then canPadded s c l else l)
  | none => l

/-- A message has left a point. -/
def appendDone (kind index : Nat) (s : State) : State :=
  match chanAt s 1 kind index with | some c => protectDone c s | none => s

/-- Payload that remains after counter and check value are taken off. -/
def stripBody (s : State) (c : Nat) (l : List Byte) : List Byte := l.take (l.length - checkBytes s c - 1)

/-- The received counter. -/
def stripCtr (s : State) (c : Nat) (l : List Byte) : Nat := leAt l (l.length - checkBytes s c - 1) 1

/-- Verdict of CHECK_STRIP on a message (R361, R362): 0 accepted, 1 bad CRC, 2 repeat, 3 counter beyond the window. A
message too short to hold counter and check value has a bad CRC. -/
def stripVerdict (s : State) (c : Nat) (l : List Byte) : Nat :=
  let k := checkBytes s c
  if l.length < k + 1 then 1
  else if leNat (l.drop (l.length - k)) ≠ protValue s c (l.take (l.length - k)) then 1
  else if !(s.bit (Reg.CRC_CH_STATUS c) 4) then 0
  else
    let d := (stripCtr s c l + aliveMod s c - s.fd (Reg.CRC_CH_ALIVE c) 0 8) % aliveMod s c
    if d == 0 then 2 else if s.fd (Reg.CRC_CH_PARAM c) 9 4 < d then 3 else 0

/-- State after a CHECK_STRIP verdict: counters, SYNCED, and resynchronization after 4 discards for the counter alone
(R361, R362). -/
def stripDone (c : Nat) (l : List Byte) (s : State) : State :=
  let v := stripVerdict s c l
  let gap := s.bit (Reg.CRC_CH_STATUS c) 4 &&
    decide (1 < (stripCtr s c l + aliveMod s c - s.fd (Reg.CRC_CH_ALIVE c) 0 8) % aliveMod s c)
  if v == 0 then
    (((when gap (State.count · (Reg.CRC_CH_CNT_GAP c)) s).count (Reg.CRC_CH_CNT_OK c)).wf (Reg.CRC_CH_ALIVE c) 0 8
      (stripCtr s c l)).wb (Reg.CRC_CH_STATUS c) 4 true |>.modCrcCh c fun h => { h with badRun := 0 }
  else if v == 1 then (s.count (Reg.CRC_CH_CNT_CRC_ERR c)).modCrcCh c fun h => { h with badRun := 0 }
  else
    let s := s.count (if v == 2 then Reg.CRC_CH_CNT_REPEAT c else Reg.CRC_CH_CNT_ALIVE_ERR c)
    if 4 ≤ (s.crcCh c).badRun + 1 then
      ((s.wb (Reg.CRC_CH_STATUS c) 4 false).count (Reg.CRC_CH_CNT_RESYNC c)).modCrcCh c fun h => { h with badRun := 0 }
    else s.modCrcCh c fun h => { h with badRun := h.badRun + 1 }

end Sys2Proof.Machine
end

