-- ==== Sys2Proof/Machine/FabPort.lean ====
section
/-! DEFINITION. Fabric outputs: credits, token buckets, arbitration, routes and the forwarding of packets (R260 to
R267, R273). -/
namespace Sys2Proof.Machine

def fabPort (s : State) (p : Nat) : FabPort := sget (fun _ => {}) s.fab.ports p

def modFabPort (p : Nat) (f : FabPort → FabPort) (s : State) : State :=
  { s with fab := { s.fab with ports := sput (fun _ => {}) s.fab.ports p (f (fabPort s p)) } }

/-- An entry of a small table of counts; absent entries are 0. -/
def cnt (l : Store Nat) (v : Nat) : Nat := sget (fun _ => 0) l v

/-- The table with entry `v` set. -/
def setCnt (l : Store Nat) (v x : Nat) : Store Nat := sput (fun _ => 0) l v x

/-- FAB.Pp_STATUS.ACTIVE. -/
def fabActive (s : State) (p : Nat) : Bool := s.bit (Reg.FAB_P_STATUS p) 0

/-- Payload capacity of one lane in Mbit/s by RATE (Table SDS-1). -/
def laneMbps (rate : Nat) : Nat :=
  match rate with
  | 1 => 2000 | 2 => 2500 | 3 => 4000 | 4 => 5000 | 5 => 8000 | 6 => 10000 | _ => 1000

/-- Lanes of fabric port `p` (FAB.Pp_CTRL.LANES). -/
def fabLanes (s : State) (p : Nat) : Nat :=
  match s.fd (Reg.FAB_P_CTRL p) 1 2 with | 1 => 2 | 2 => 4 | _ => 1

/-- Payload capacity of port `p` in Mbit/s (R251). -/
def fabMbps (s : State) (p : Nat) : Nat :=
  fabLanes s p * laneMbps (s.fd (Reg.SDS_Q_CFG (s.fd (Reg.FAB_P_CTRL p) 3 5 / 4)) 4 3)

/-- Receive buffer of a VC in credits (R265). -/
def fabOwnSize (v : Nat) : Nat := match v with | 0 => 64 | 1 => 256 | 2 => 256 | _ => 1024

/-- Credits a packet costs (R265). -/
def fabCost (len : Nat) : Nat := (20 + len + 63) / 64

/-- Credits available at port `p` for VC `v`: size + freed − consumed, modulo 65,536 (R265). -/
def fabAvail (s : State) (p v : Nat) : Nat :=
  let f := fabPort s p
  (cnt f.size v + cnt f.freed v + 65536 - cnt f.used v % 65536) % 65536

/-- Bytes of a packet on the wire: header, payload, CRC. -/
def FabPkt.bytes (k : FabPkt) : Nat := 20 + k.payload.length

/-- The first packet of VC `v` in a queue. -/
def fabHead (q : List FabPkt) (v : Nat) : Option FabPkt := q.find? (·.vc == v)

/-- A queue without its first packet of VC `v`. -/
def fabDropHead : List FabPkt → Nat → List FabPkt
  | [], _ => []
  | k :: r, v => if k.vc == v then r else k :: fabDropHead r v

/-- Largest content of a token bucket, 4,116 bytes (R266). -/
def bucketMax : Nat := 4116 * 160000

/-- The two token buckets fill with device time at 5 % of the port's capacity (R266). -/
def fabFill (p : Nat) (s : State) : State :=
  let f := fabPort s p
  let add := (s.tickNs - f.bucketAt) * fabMbps s p
  modFabPort p (fun f => { f with
    bucket := setCnt (setCnt f.bucket 0 (min bucketMax (cnt f.bucket 0 + add))) 1 (min bucketMax (cnt f.bucket 1 + add))
    bucketAt := s.tickNs }) s

/-- Length of the head packet of VC `v` when credits, and for VC0 and VC1 the bucket, allow it (R265, R266). -/
def fabReady (s : State) (p v : Nat) : Option Nat :=
  match fabHead (fabPort s p).q v with
  | none => none
  | some k =>
    if fabAvail s p v < fabCost k.payload.length then none
    else if v < 2 && decide (cnt (fabPort s p).bucket v < k.bytes * 160000) then none
    else some k.bytes

/-- Deficit round robin of VC2 and VC3 with quanta 512 and 3,584 (R266): the VC that sends, the turn and the two
deficits. -/
def drrPick : Nat → Nat → Nat → Nat → Option Nat → Option Nat → Option (Nat × Nat × Nat × Nat)
  | 0, _, _, _, _, _ => none
  | n + 1, turn, d2, d3, b2, b3 =>
    match b2, b3 with
    | none, none => none
    | some _, none => some (2, 2, 0, 0)
    | none, some _ => some (3, 3, 0, 0)
    | some x, some y =>
      if turn == 2 then
        if x ≤ d2 then some (2, 2, d2 - x, d3) else drrPick n 3 d2 (d3 + 3584) b2 b3
      else if y ≤ d3 then some (3, 3, d2, d3 - y) else drrPick n 2 (d2 + 512) d3 b2 b3

/-- SEQ of this device's next packet on VC `v` (R253). -/
def fabNextSeq (s : State) (v : Nat) : Nat := cnt s.fab.seqTx v

def fabSeqUsed (v : Nat) (s : State) : State :=
  { s with fab := { s.fab with seqTx := setCnt s.fab.seqTx v ((fabNextSeq s v + 1) % 65536) } }

/-- A packet of this device. -/
def fabPkt (s : State) (ty vc dest flags : Nat) (payload : List Byte) : FabPkt :=
  { ty := ty, vc := vc, dest := dest, src := s.ownFid, hops := 0, flags := flags, seq := fabNextSeq s vc, frame := 0,
    xinfo := 0, payload := payload }

/-- The header of a packet with HOPS given (Table FAB-1). -/
def FabPkt.header (k : FabPkt) (hops : Nat) : List Byte :=
  leBytes 4 (k.dest % 4096 + k.src % 4096 * 2 ^ 12 + k.ty % 16 * 2 ^ 24 + k.vc % 4 * 2 ^ 28) ++
    leBytes 4 (hops % 64 + k.flags % 256 * 2 ^ 8 + k.seq % 65536 * 2 ^ 16) ++
    leBytes 4 (k.payload.length % 8192 + k.frame % 65536 * 2 ^ 16) ++ leBytes 4 k.xinfo

/-- The CRC of a packet: over its header with HOPS taken as 0, and its payload (R254). -/
def FabPkt.crc (k : FabPkt) : Nat := crc32 (k.header 0 ++ k.payload)

/-- The bytes of a packet between SOP and EOP (R253). -/
def FabPkt.onWire (k : FabPkt) : List Byte := k.header k.hops ++ k.payload ++ leBytes 4 k.crc

/-- The VCs that Table FAB-2 allows for a TYPE; none for a reserved one. -/
def fabVcs (ty : Nat) : List Nat := match ty with | 1 => [3] | 2 => [1, 2] | 3 => [0] | 4 => [1] | 5 => [0] | _ => []

/-- The bytes between SOP and what should be EOP are no good packet (R255): reserved TYPE, VC not allowed, LENGTH above 4,096 or not
that of the bytes received, CRC wrong with HOPS taken as 0, or no EOP. -/
def fabBad (frame : List Byte) (eop : Bool) : Bool :=
  let len := leAt frame 8 2 % 8192
  let head := frame.take 4 ++ [frame.getD 4 0 &&& 0xC0#8] ++ (frame.take 16).drop 5
  !((fabVcs (leAt frame 3 1 % 16)).contains (leAt frame 3 1 / 16 % 4)) || decide (4096 < len) || frame.length != 20 + len ||
    leAt frame (16 + len) 4 != crc32 (head ++ (frame.drop 16).take len) || !eop

/-- FLOW goes out on port `p` between packets, ahead of all VCs and without a credit, with INIT and four numbers (R265). -/
def flowOut (p : Nat) (init : Bool) (counts : List Nat) (s : State) : State :=
  let k := fabPkt s 5 0 0 (if init then 8 else 0) (counts.flatMap (leBytes 2))
  (fabSeqUsed 0 (modFabPort p (fun f => { f with since := 0 }) s)).count (Reg.FAB_P_VC_CNT_TX p 0) |>.emit (.fab p k.onWire)

/-- FLOW with the credits freed since ACTIVE (R265). -/
def flowFreed (p : Nat) (s : State) : State := flowOut p false ((List.range 4).map (cnt (fabPort s p).mine)) s

/-- `n` credits of VC `v` of port `p` are freed; at 32 since the last FLOW the next one goes out (R265). -/
def fabCredit (p v n : Nat) (s : State) : State :=
  let s := modFabPort p (fun f => { f with mine := setCnt f.mine v ((cnt f.mine v + n) % 65536), since := f.since + n }) s
  when (fabActive s p && decide (32 ≤ (fabPort s p).since)) (flowFreed p) s

/-- Credits of a receive buffer are freed (R265). -/
def fabFree (k : FabPkt) (s : State) : State :=
  match k.inPort with
  | none => s
  | some p => fabCredit p k.vc (fabCost k.payload.length) s

/-- The head packet of VC `v` leaves port `p`. -/
def fabSendHead (p v : Nat) (s : State) : State :=
  match fabHead (fabPort s p).q v with
  | none => s
  | some k =>
    let s := modFabPort p (fun f => { f with
      q := fabDropHead f.q v
      used := setCnt f.used v ((cnt f.used v + fabCost k.payload.length) % 65536)
      bucket := if v < 2 then setCnt f.bucket v (cnt f.bucket v - k.bytes * 160000) else f.bucket }) s
    fabFree k ((s.count (Reg.FAB_P_VC_CNT_TX p v)).emit (.fab p k.onWire))

/-- One choice at a packet boundary in the order of R266. -/
def fabSendOne (p : Nat) (s : State) : State :=
  match fabReady s p 0 with
  | some _ => fabSendHead p 0 s
  | none => match fabReady s p 1 with
    | some _ => fabSendHead p 1 s
    | none =>
      let f := fabPort s p
      match drrPick 64 f.turn (cnt f.deficit 2) (cnt f.deficit 3) (fabReady s p 2) (fabReady s p 3) with
      | none => s
      | some (v, turn, d2, d3) =>
        fabSendHead p v (modFabPort p (fun f => { f with turn := turn, deficit := setCnt (setCnt f.deficit 2 d2) 3 d3 }) s)

/-- A PIXEL_STRIP that is at least 2 frames older than the current frame (R273). -/
def fabStale (s : State) (k : FabPkt) : Bool :=
  k.ty == 1 && (let d := (s.ras.frame.toNat + 65536 * 65536 - k.frame) % 65536; decide (2 ≤ d ∧ d < 32768))

/-- Stale strips leave the queue of port `p` and count (R273). -/
def fabPurge (p : Nat) (s : State) : State :=
  let old := (fabPort s p).q.filter (fabStale s)
  let s := modFabPort p (fun f => { f with q := f.q.filter fun k => !(fabStale s k) }) s
  forEach old (fun k t => fabFree k (t.count (Reg.FAB_P_VC_CNT_DROP p 3))) s

/-- Everything port `p` may send now leaves it. -/
def fabDrain (p : Nat) (s : State) : State :=
  let s := fabPurge p (fabFill p s)
  forEach (List.range (fabPort s p).q.length) (fun _ t => if fabActive t p then fabSendOne p t else t) s

/-- A packet is queued at port `p`. -/
def fabQueue (p : Nat) (k : FabPkt) (s : State) : State :=
  fabDrain p (modFabPort p (fun f => { f with q := f.q ++ [{ k with since := s.tickNs }] }) s)

/-- A packet that port `p` would have sent is discarded (R262). -/
def fabDropAt (p : Nat) (k : FabPkt) (s : State) : State := fabFree k (s.count (Reg.FAB_P_VC_CNT_DROP p k.vc))

/-- Base of route bank `b` (R260). -/
def routeBase (b : Nat) : Nat := winBase + 0x440000 + 0x1000 * b

/-- Nibble `i` from byte `o` of the bank in use. -/
def routeNibble (s : State) (o i : Nat) : Nat :=
  let b := (s.byte (routeBase (s.fd Reg.FAB_RT_BANK 0 1) + o + i / 2)).toNat
  if i % 2 == 0 then b % 16 else b / 16

/-- Route entry of FID `f`: PORT in [1:0], VALID in [2] (R260). -/
def routeEntry (s : State) (f : Nat) : Nat := routeNibble s 0 f

/-- Port mask of group `g` (R260). -/
def groupMask (s : State) (g : Nat) : Nat := routeNibble s 2048 g

/-- FAB.STATUS.TREE_MASK (R259). -/
def treeMask (s : State) : Nat := s.fd Reg.FAB_STATUS 24 4

/-- A packet goes out on port `p`: discarded when the port is not ACTIVE, is the port of arrival, or HOPS is already 63
(R262). In NO_ROOT nothing is forwarded (R257). -/
def fabOut (arr : Option Nat) (p : Nat) (k : FabPkt) (s : State) : State :=
  if !(fabActive s p) || arr == some p || (arr.isSome && s.fd Reg.FAB_STATUS 0 3 == 5) then fabDropAt p k s
  else if k.hops == 63 then fabDropAt p k (s.count Reg.FAB_CNT_HOP_LIMIT)
  else fabQueue p (if arr == none then k else { k with hops := k.hops + 1 }) s

/-- Copies of a packet on several ports; the last copy frees the receive buffer. -/
def fabOutMany (arr : Option Nat) (ports : List Nat) (k : FabPkt) (s : State) : State :=
  match ports.getLast? with
  | none => fabFree k s
  | some l => fabOut arr l k (forEach ports.dropLast (fun p t => fabOut arr p { k with inPort := none } t) s)

/-- Ports of a mask. -/
def maskPorts (m : Nat) : List Nat := (List.range 4).filter fun p => m.testBit p

/-- A packet is sent or forwarded: unicast by its route entry, broadcast on the tree, multicast on its group's mask
(R259, R262, R263). `arr` is the port of arrival, none at the origin. -/
def fabForward (arr : Option Nat) (k : FabPkt) (s : State) : State :=
  if k.flags.testBit 0 then
    fabOutMany arr ((maskPorts (groupMask s (k.dest % 256))).filter fun p => arr != some p) k s
  else if k.dest == 0xFFF then
    fabOutMany arr ((maskPorts (treeMask s)).filter fun p => arr != some p) k s
  else
    let e := routeEntry s k.dest
    if e.testBit 2 then fabOut arr (e % 4) k s else fabDropAt (e % 4) k s

/-- This device originates a packet. -/
def fabSend (ty vc dest flags : Nat) (payload : List Byte) (s : State) : State :=
  fabSeqUsed vc (fabForward none (fabPkt s ty vc dest flags payload) s)

/-- VC of a CONTROL packet by the command class of its message (R268). -/
def controlVc (msg : List Byte) : Nat :=
  let c := leAt msg 1 1
  if c == 0x06 || c == 0x0A || c == 0x10 || c == 0x11 then 2 else 1

/-- A mailbox message leaves for FID `dest` in a CONTROL packet (R268). -/
def fabControl (dest : Nat) (msg : List Byte) (s : State) : State := fabSend 2 (controlVc msg) dest 0 msg s

end Sys2Proof.Machine
end

