-- ==== Sys2Proof/Machine/Mailbox.lean ====
section
/-! DEFINITION. Mailboxes: rings, messages, responses, completions, EVENT messages, and the frame in which every
service runs its command (R318 to R335, R340 to R345, R13 to R18). -/
namespace Sys2Proof.Machine

/-! ### Status codes (Table MBX-4) -/

namespace St
abbrev ok : Nat := 0x00
abbrev accepted : Nat := 0x01
abbrev badCrc : Nat := 0x10
abbrev badAlive : Nat := 0x11
abbrev badLength : Nat := 0x12
abbrev denied : Nat := 0x20
abbrev locked : Nat := 0x21
abbrev busy : Nat := 0x30
abbrev noSpace : Nat := 0x31
abbrev tooLate : Nat := 0x32
abbrev range : Nat := 0x40
abbrev state : Nat := 0x41
abbrev domainOff : Nat := 0x50
abbrev refused : Nat := 0x51
abbrev internal : Nat := 0x60
end St

/-! ### Rings (R319) -/

/-- First byte of the inbound ring of MBn. -/
def inRing (n : Nat) : Nat := winBase + 0x300000 + 0x2000 * n
/-- First byte of the outbound ring of MBn. -/
def outRing (n : Nat) : Nat := winBase + 0x301000 + 0x2000 * n

/-- `k` bytes of a ring from count `c`. -/
def ringGet (s : State) (base c k : Nat) : List Byte := (List.range k).map fun i => s.byte (base + (c + i) % 4096)

/-- Bytes written into a ring from count `c`. -/
def ringPut (base c : Nat) : List Byte → State → State
  | [], s => s
  | b :: r, s => ringPut base (c + 1) r (s.putByte (base + c % 4096) b)

/-- Bytes a message of LENGTH `len` occupies (R319). -/
def ringSize (len : Nat) : Nat := (16 + len + 3) / 4 * 4

/-- Bytes in a ring by its two counts, modulo 8,192. -/
def ringUsed (wr rdc : Nat) : Nat := (wr + 8192 - rdc) % 8192

/-- Free bytes of the outbound ring of MBn. -/
def outFree (s : State) (n : Nat) : Nat :=
  4096 - ringUsed (s.fd (Reg.MBX_MB_OUT_WR n) 0 13) (s.fd (Reg.MBX_MB_OUT_SLUICE n) 0 13)

/-- Free bytes of the inbound ring of MBn. -/
def inFree (s : State) (n : Nat) : Nat :=
  4096 - ringUsed (s.fd (Reg.MBX_MB_IN_SLUICE n) 0 13) (s.fd (Reg.MBX_MB_IN_RD n) 0 13)

/-- Largest LENGTH of a mailbox (Table MBX-1). -/
def mbLimit (mb : Nat) : Nat := if mb == 4 then 1456 else 4080

/-- Class of a mailbox under R37. -/
def mbClass (mb : Nat) : Nat := if 2 ≤ mb ∧ mb ≤ 5 then 8 else 9

/-! ### Messages -/

/-- A message with its header (Table MBX-2). -/
def msgBytes (cmd flags alive seq target : Nat) (payload : List Byte) : List Byte :=
  let head := leBytes 2 cmd ++ leBytes 1 flags ++ leBytes 1 alive ++ leBytes 2 seq ++ leBytes 2 payload.length ++
    leBytes 4 target
  head ++ leBytes 4 (crc32c (head ++ payload)) ++ payload

/-- TARGET of a request (Table HIER-5). -/
def msgTarget (m : Msg) : Nat := m.fid.toNat + m.cls.toNat * 2 ^ 12 + m.index.toNat * 2 ^ 16

/-- Value of `n` payload bytes from position `i`. -/
def msgAt (m : Msg) (i n : Nat) : Nat := leAt m.payload i n

/-- A message enters the outbound ring (R320, R323): the counter of ALIVE goes up by one. -/
def placeMsg (mb client cmd flags seq target : Nat) (payload : List Byte) (s : State) : State :=
  let payload := appendForm s 5 mb payload
  let s := appendDone 5 mb s
  let alive := (sget (fun _ => (0 : Byte)) s.mbx.outAlive mb)
  let bytes := msgBytes cmd flags alive.toNat seq target payload
  let wr := s.fd (Reg.MBX_MB_OUT_WR mb) 0 13
  let size := ringSize payload.length
  let s := ringPut (outRing mb) wr bytes s
  { s.wf (Reg.MBX_MB_OUT_WR mb) 0 13 (wr + size) with
    mbx := { s.mbx with
      outAlive := sput (fun _ => (0 : Byte)) s.mbx.outAlive mb (alive + 1)
      outq := if mbClass mb == 8 then s.mbx.outq ++ [(mb, client, size)] else s.mbx.outq } }

/-- Bytes the protection of a mailbox adds to a payload (R360). -/
def protectExtra (s : State) (mb : Nat) : Nat :=
  match chanAt s 1 5 mb with | some c => 1 + checkBytes s c | none => 0

/-- Counter of a refusal status (R324). -/
def countStatus (mb status : Nat) (s : State) : State :=
  if status == St.badLength then s.count (Reg.MBX_MB_CNT_BAD_LENGTH mb)
  else if status == St.badCrc then s.count (Reg.MBX_MB_CNT_BAD_CRC mb)
  else if status == St.badAlive then s.count (Reg.MBX_MB_CNT_BAD_ALIVE mb)
  else if status == St.denied then s.count (Reg.MBX_MB_CNT_DENIED mb)
  else s

/-- Status part of a response (R323). -/
def statusPart (status : Nat) (late : Option Nat) : List Byte :=
  leBytes 1 status ++ leBytes 1 (if late.isSome then 1 else 0) ++ leBytes 2 0 ++ leBytes 4 (late.getD 0)

/-- Whether a mailbox holds a response (R330). -/
def isHeld (s : State) (mb : Nat) : Bool := s.mbx.held.any (·.mb == mb)

/-- The mailboxes pause for a firmware handover (R337). -/
def mbPaused (s : State) : Bool := s.bit Reg.MBX_STATUS 0

/-- A response is placed, or held until its ring has room (R330), or the mailboxes resume (R337). -/
def sendMsg (mb client cmd flags seq target : Nat) (payload : List Byte) (s : State) : State :=
  if mbPaused s || isHeld s mb || decide (outFree s mb < ringSize (payload.length + protectExtra s mb)) then
    { s with mbx := { s.mbx with held := s.mbx.held ++ [⟨mb, client, cmd, flags, seq, target, payload⟩] } }
  else placeMsg mb client cmd flags seq target payload s

/-- A response with its status part and command part: one over the limit of its mailbox is replaced by BAD_LENGTH
(R323). -/
def respond (mb client cmd seq target status : Nat) (late : Option Nat) (part : List Byte) (s : State) : State :=
  let big := decide (mbLimit mb < 8 + part.length + protectExtra s mb)
  let status := if big then St.badLength else status
  let flags := if status == St.accepted then 1 else 9
  sendMsg mb client cmd flags seq target (statusPart status late ++ if big then [] else part) (countStatus mb status s)

/-- TARGET of a response: a broadcast is answered with the device's own FID (R331). -/
def respTarget (s : State) (m : Msg) : Nat := if m.fid == 0xFFF then msgTarget m - 0xFFF + s.ownFid else msgTarget m

/-- The response or completion of a command. -/
def respondTo (c : Ctx) (status : Nat) (part : List Byte) (s : State) : State :=
  respond c.m.mb.val c.m.client c.code c.m.seq.toNat (respTarget s c.m) status c.lateUs part s

/-! ### Frame numbers of changes (R342) -/

/-- RAS.CTRL.ENABLE. -/
def rasOn (s : State) : Bool := s.bit Reg.RAS_CTRL 0

/-- Phase 0s until a change made now applies (R26). -/
def applyWait (s : State) : Nat := if s.ras.inBlank then 2 else 1

/-- Frame number of the phase 0 at which a change made now applies (R342). -/
def applyFrame (s : State) : Nat :=
  if rasOn s then (s.ras.nextFrame.toNat + applyWait s - 1) % 2 ^ 32 else 0xFFFFFFFF

/-- A timed command is held to a phase 0: it changes what lamps show, and is no RAS_TIMING dequeued while the raster was disabled
(R42, R453). -/
def timedOnRaster (c : Ctx) : Bool := c.light && !c.byTick

/-- The answer of a service: a timed command that changes what lamps show completes with OK at the phase 0 at which its
change applies (R345); every other answer stands at once. -/
def reply (c : Ctx) (status : Nat) (part : List Byte) (s : State) : State :=
  if c.timed && timedOnRaster c && status == St.ok then
    { s with mbx := { s.mbx with compl := s.mbx.compl ++ [⟨applyWait s, c, part⟩] } }
  else respondTo c status part s

/-- Refuse with a status and no command part. -/
def refuse (c : Ctx) (status : Nat) (s : State) : State := respondTo c status [] s

/-- NOSPACE with its command part (R344). -/
def noSpace (c : Ctx) (missing largest : Nat) (fragmented : Bool) (unit : Nat) (s : State) : State :=
  respondTo c St.noSpace
    (leBytes 4 missing ++ leBytes 4 largest ++ leBytes 1 ((if fragmented then 1 else 0) + 2 * unit) ++ leBytes 3 0) s

/-- A command is answered ACCEPTED and stands until its completion (R328); a timed one was answered ACCEPTED before. -/
def acceptOp (c : Ctx) (cls lo hi : Nat) (d : List Nat) (s : State) : State :=
  let s := if c.timed then s else respondTo c St.accepted [] s
  { s with mbx := { s.mbx with ops := s.mbx.ops ++ [⟨c, cls, lo, hi, d⟩] } }

/-- The completion of an accepted command: it no longer keeps its object busy. -/
def completeOp (o : Op) (status : Nat) (part : List Byte) (s : State) : State :=
  respondTo o.ctx status part { s with mbx := { s.mbx with ops := s.mbx.ops.erase o } }

/-- Complete every accepted command of a code that a test selects. -/
def completeOps (code : Nat) (test : Op → Bool) (status : Nat) (part : List Byte) (s : State) : State :=
  forEach (s.mbx.ops.filter fun o => o.ctx.code == code && test o) (fun o t => completeOp o status part t) s

/-! ### Busy objects (R17) -/

/-- State code of a segment link (Table PSL-8). -/
def linkState (s : State) (n : Nat) : Nat := s.fd (Reg.SLK_LINK_STATE n) 0 3

/-- A link trains: its training is a multi-step operation, from the HOLD of a retraining on. -/
def linkTraining (s : State) (n : Nat) : Bool := let x := linkState s n; decide (1 ≤ x ∧ x ≤ 5) || (s.link n).holding

/-- Object classes of Table HIER-4 used by name. -/
def clsDevice : Nat := 0
def clsLayer : Nat := 1
def clsSegment : Nat := 2
def clsLink : Nat := 3

/-- Index range of an object class; the reserved class has none (Table HIER-4). -/
def classCount (cls : Nat) : Nat :=
  match cls with
  | 0 => 1 | 1 => 8 | 2 => 256 | 3 => 32 | 4 => 24 | 5 => 4 | 6 => 64 | 7 => 4 | 8 => 64 | 9 => 1 | 10 => 4 | 11 => 8
  | 12 => 4 | 13 => 48 | 14 => 8 | _ => 0

/-- Whether two index ranges of objects overlap, a link containing its 8 segments (R17). -/
def overlaps (c1 lo1 hi1 c2 lo2 hi2 : Nat) : Bool :=
  if c1 == c2 then decide (lo1 ≤ hi2 ∧ lo2 ≤ hi1)
  else if c1 == clsLink && c2 == clsSegment then decide (8 * lo1 ≤ hi2 ∧ lo2 ≤ 8 * hi1 + 7)
  else if c1 == clsSegment && c2 == clsLink then decide (8 * lo2 ≤ hi1 ∧ lo1 ≤ 8 * hi2 + 7)
  else false

/-- First and last index a request names. -/
def msgLo (m : Msg) : Nat := if m.index == 0xFFFF then 0 else m.index.toNat
def msgHi (m : Msg) : Nat := if m.index == 0xFFFF then classCount m.cls.toNat - 1 else m.index.toNat

/-- An accepted or timed command keeps objects of a range busy until its completion (R328). -/
def opsHold (s : State) (cls lo hi : Nat) : Bool :=
  (s.mbx.ops.any fun o => overlaps o.cls o.lo o.hi cls lo hi) ||
  (s.mbx.timed.map (·.ctx.m) ++ s.mbx.compl.map (·.ctx.m)).any fun t => overlaps t.cls.toNat (msgLo t) (msgHi t) cls lo hi

/-- A link of a range, or one that contains a segment of it, trains. -/
def linksHold (s : State) (cls lo hi : Nat) : Bool := (List.range 32).any fun n => linkTraining s n && overlaps clsLink n n cls lo hi

/-- A segment of a range reloads, or an apply of it waits (R184). -/
def reloadsHold (s : State) (cls lo hi : Nat) : Bool :=
  (s.corr.applies ++ s.corr.copying).any (fun a => overlaps clsSegment a.lo a.hi cls lo hi) ||
  (List.range 256).any fun g => (s.seg g).reload != 0 && overlaps clsSegment g g cls lo hi

/-- A multi-step operation runs on an object of a range, on one that contains it or on one it contains. -/
def rangeHeld (s : State) (cls lo hi : Nat) : Bool := opsHold s cls lo hi || linksHold s cls lo hi || reloadsHold s cls lo hi

/-- A request meets a busy object. SLOT_ABORT has its own answer (R242), and so has a retraining of all links (R74). -/
def isBusy (s : State) (code : Nat) (m : Msg) : Bool :=
  let cls := m.cls.toNat
  let lo := msgLo m
  let hi := msgHi m
  (code != 0x0A04 && opsHold s cls lo hi) || (!(code == 0x0B02 && m.index == 0xFFFF) && linksHold s cls lo hi) ||
    reloadsHold s cls lo hi

/-! ### Serving a command (check 6 of R324) -/

/-- Start-up stage (PMU.STATE.STAGE). -/
def stage (s : State) : Nat := s.fd Reg.PMU_STATE 8 4

/-- FAB.STATUS.STATE. -/
def fabState (s : State) : Nat := s.fd Reg.FAB_STATUS 0 3

/-- A service that needs DRAM (R431): LAYER, BEAM, CORR and HEALTH, FAB forwarding, and FB_CLEAR. -/
def needsDram (code : Nat) : Bool :=
  (4 ≤ code / 256 && code / 256 ≤ 7) || code == 0x0C04 || code == 0x0903

/-- The state of the device refuses the command: stopped (R399), or not yet at stage 8 (R431). -/
def stateRefuses (s : State) (r : Svc) : Bool :=
  (s.pwr.stopped && !r.rd && r.code != 0x0102) || (!r.rd && needsDram r.code && decide (stage s < 8))

/-- Forward a request to other devices (R331): ALIVE and SEQ of this origin for that destination. -/
def forwardReq (code : Nat) (m : Msg) (s : State) : State :=
  let d := m.fid.toNat
  let al := sget (fun _ => (0 : Byte)) s.mbx.fwdAlive d
  let sq := sget (fun _ => 0) s.mbx.fwdSeq d
  let s := { s with mbx := { s.mbx with
    fwdAlive := sput (fun _ => (0 : Byte)) s.mbx.fwdAlive d (al + 1)
    fwdSeq := sput (fun _ => 0) s.mbx.fwdSeq d ((sq + 1) % 65536)
    fwd := s.mbx.fwd ++ [⟨d, sq, m.mb.val, m.client, m.seq.toNat⟩] } }
  fabControl d (msgBytes code m.flags.toNat al.toNat sq (msgTarget m) m.payload) s

/-- A request passes R16: class accepted, index in range, 0xFFFF only with mark A. -/
def targetOk (r : Svc) (m : Msg) : Bool :=
  r.objs.contains m.cls.toNat &&
    (if m.index == 0xFFFF then r.all else decide (m.index.toNat < classCount m.cls.toNat))

/-- Frame period in 2⁻¹⁶ ns, live. -/
def period16 (s : State) : Nat := (s.lrd Reg.RAS_PERIOD).toNat * 65536 + s.lf Reg.RAS_PERIOD_FRAC 0 16

/-- Period from the next phase 0 on, in 2⁻¹⁶ ns: the captured one where a timing set is captured for it (R44). -/
def periodNext (s : State) : Nat :=
  if s.ras.commitCap then
    ((s.crd Reg.RAS_PERIOD).getD (s.lrd Reg.RAS_PERIOD)).toNat * 65536 +
      ((s.crd Reg.RAS_PERIOD_FRAC).getD (s.lrd Reg.RAS_PERIOD_FRAC)).toNat % 65536
  else period16 s

/-- Target phase 0 of a time `t` in ns, in 2⁻¹⁶ ns: the first at or after it on the grid of the period in force, up to the next
phase 0, and of the period that follows after it; none before the first phase 0 since the raster was enabled (R42, R453; log
entry 49). -/
def targetP0 (s : State) (t : Nat) : Int :=
  let d : Int := (t : Int) * 65536 - s.ras.p0Next
  let p : Int := if d ≤ 0 then period16 s else periodNext s
  max s.ras.p0First (s.ras.p0Next + ((d + p - 1) / p) * p)

/-- Earliest phase 0 a change made now can meet, in 2⁻¹⁶ ns. -/
def earliestP0 (s : State) : Int := s.ras.p0Next + ((applyWait s - 1 : Nat) : Int) * (periodNext s : Int)

/-- Lateness of a timed command run now, in 2⁻¹⁶ ns (R42, R345): from its target phase 0 to the earliest it can meet, or from T to the
tick, which is on time at the first tick at or after T. -/
def lateness (s : State) (c : Ctx) (t : Nat) : Int :=
  if timedOnRaster c then (if rasOn s then earliestP0 s - targetP0 s t else 0)
  else if decide (s.tick16 ≤ ((t + 999) / 1000 * 65536000 : Nat)) then 0
  else s.tick16 - ((t * 65536 : Nat) : Int)

/-- Tolerance in 2⁻¹⁶ ns: 0 means one frame period; a period change has none (R42, R47). -/
def tolerance16 (s : State) (c : Ctx) (tol : Nat) : Int :=
  if c.code == 0x0301 then 0 else if tol == 0 then period16 s else (tol : Int) * 65536000

/-- A timed command may be written now: its frame has begun, or its tick has come. -/
def timedReady (s : State) (c : Ctx) (t : Nat) : Bool :=
  if timedOnRaster c then rasOn s && decide (targetP0 s t ≤ earliestP0 s) else decide ((t : Int) * 65536 ≤ s.tick16)

/-- Run a timed command now: LATE with L rounded up to whole µs, or TOO_LATE. -/
def runTimed (body : Ctx → State → State) (c : Ctx) (t tol : Nat) (s : State) : State :=
  let l := lateness s c t
  let us := ((l + 65535999) / 65536000).toNat
  if l ≤ 0 then body c s
  else if tolerance16 s c tol < l then respondTo c St.tooLate [] s
  else body { c with lateUs := some us } s

/-- RAS.STATUS.TIMED_PENDING follows the timed period changes that have not taken effect (R47); MBX.TIMED_PENDING counts all (R329). -/
def timedCounts (s : State) : State :=
  (s.wf Reg.MBX_TIMED_PENDING 0 5 (s.mbx.timed.length + s.mbx.compl.length)).wb Reg.RAS_STATUS 6
    (s.mbx.timed.any (·.ctx.code == 0x0301) || s.mbx.compl.any (·.ctx.code == 0x0301))

/-- A timed request at its dequeue (R329, R345). -/
def acceptTimed (body : Ctx → State → State) (c : Ctx) (s : State) : State :=
  let p := c.m.payload
  let t := leAt p 0 8
  let tol := leAt p 8 4
  let c' := { c with timed := true, byTick := c.code == 0x0301 && !(rasOn s), m := { c.m with payload := p.drop 16 } }
  if p.length < 16 then refuse c St.badLength s
  else if 16 ≤ s.mbx.timed.length + s.mbx.compl.length then noSpace c 1 0 false 3 s
  else
    let s := respondTo c St.accepted [] s
    if decide (tolerance16 s c' tol < lateness s c' t) then respondTo c' St.tooLate [] s
    else if timedReady s c' t then timedCounts (runTimed body c' t tol s)
    else timedCounts { s with mbx := { s.mbx with timed := s.mbx.timed ++ [⟨t, tol, c'⟩] } }

/-- The service of a command that passed checks 1 to 5 of R324: target, marks, state of the device, busy objects, then
its body. -/
def serve (code : Nat) (body : Ctx → State → State) (m : Msg) (s : State) : State :=
  let c : Ctx := { code := code, m := m }
  match svcRow code with
  | none => refuse c St.range s
  | some r =>
    let c := { c with light := r.light }
    let other := m.fid != 0 && m.fid != 0xFFF && m.fid.toNat != s.ownFid
    let timed := m.flags.getLsbD 2
    if (m.fid == 0xFFF && !r.bcast) || !(targetOk r m) || (timed && !r.tim) then refuse c St.range s
    else if other then (if fabState s == 4 then forwardReq code m s else refuse c St.state s)
    else
      let s := if m.fid == 0xFFF && fabState s == 4 && m.mb != 5 then forwardReq code m s else s
      if stateRefuses s r then refuse c St.state s
      else if !r.rd && isBusy s code m then refuse c St.busy s
      else if timed then acceptTimed body c s
      else body c s

/-! ### Transports of MB2 to MB5 (R321) -/

/-- CAN FD data length that holds `n` bytes. -/
def canLen (n : Nat) : Nat :=
  if n ≤ 8 then n else if n ≤ 12 then 12 else if n ≤ 16 then 16 else if n ≤ 20 then 20 else if n ≤ 24 then 24
  else if n ≤ 32 then 32 else if n ≤ 48 then 48 else 64

/-- A byte list padded with zeros to `n`. -/
def padTo (n : Nat) (l : List Byte) : List Byte := l ++ List.replicate (n - l.length) 0

/-- The CAN FD frames that carry a message or list (R145). -/
def canFrames (img : List Byte) (alive : Byte) : List (List Byte) :=
  let n := max 1 ((img.length + 59) / 60)
  (List.range n).map fun i =>
    let f := leBytes 1 i ++ leBytes 1 n ++ [alive, 0] ++ (img.drop (60 * i)).take 60
    padTo (canLen f.length) f

/-- CAN controller `m` can send FD frames: enabled with FD_EN, not listening only, not bus-off (R315). -/
def canUp (s : State) (m : Nat) : Bool :=
  s.bit (Reg.CAN_CTRL m) 0 && s.bit (Reg.CAN_CTRL m) 1 && !(s.bit (Reg.CAN_CTRL m) 3) && s.fd (Reg.CAN_STATUS m) 0 2 != 2

/-- A frame sent well: TEC goes down by one, and error-active returns with both counters at most 127 (R315). -/
def canGoodTx (m : Nat) (s : State) : State :=
  let t := s.fd (Reg.CAN_STATUS m) 8 8 - 1
  (s.wf (Reg.CAN_STATUS m) 8 8 t).wf (Reg.CAN_STATUS m) 0 2 (if 127 < t || 127 < s.fd (Reg.CAN_STATUS m) 16 8 then 1 else 0)

/-- A CAN FD frame leaves with the identifier of mailbox responses, its data phase at the data rate with BRS_EN (R315). -/
def canSend (m : Nat) (f : List Byte) (s : State) : State :=
  canGoodTx m ((s.emit (.can m ((s.rd (Reg.CAN_MBX_ID_TX m)).toNat % 2 ^ 30) (s.bit (Reg.CAN_CTRL m) 2) f)).count (Reg.CAN_CNT_TX m))

/-- The next hop of an IPv4 packet: its destination on the subnet of MACm.IP, else the gateway (R314; log entry 138). -/
def nextHop (s : State) (m ip : Nat) : Nat :=
  let mask := (s.rd (Reg.MAC_IP_MASK m)).toNat
  if ip &&& mask == (s.rd (Reg.MAC_IP m)).toNat &&& mask then ip else (s.rd (Reg.MAC_GATEWAY m)).toNat

/-- An Ethernet payload for a client leaves by a MAC (R314). -/
def ethSend (m client port : Nat) (data : List Byte) (s : State) : State :=
  (s.emit (.eth m (nextHop s m (client / 65536 % 2 ^ 32)) client port data)).count (Reg.MAC_CNT_TX_OK m)

/-- The MAC that reaches an Ethernet client: bit 48 of its key (log entry 22). -/
def clientMac (client : Nat) : Nat := client / 2 ^ 48 % 2

/-- The transport of a mailbox can take a message. -/
def transportUp (s : State) (mb client : Nat) : Bool :=
  match mb with
  | 2 => canUp s 0
  | 3 => canUp s 1
  | 4 => s.bit (Reg.MAC_STATUS (clientMac client)) 0
  | _ => fabState s == 4

/-- A transport takes one message of its outbound ring and advances the outbound sluice (R321). -/
def transportTake (e : Nat × Nat × Nat) (s : State) : State :=
  let mb := e.1
  let client := e.2.1
  let rdc := s.fd (Reg.MBX_MB_OUT_SLUICE mb) 0 13
  let len := leNat (ringGet s (outRing mb) (rdc + 6) 2)
  let bytes := ringGet s (outRing mb) rdc (16 + len)
  let s := (s.wf (Reg.MBX_MB_OUT_SLUICE mb) 0 13 (rdc + e.2.2)).emit (.mbx mb client bytes)
  match mb with
  | 4 =>
    let m := clientMac client
    let port := s.fd (Reg.MAC_MBX_PORT m) 0 16
    appendDone (3 + m) port (ethSend m client port (appendForm s (3 + m) port bytes) s)
  | 5 => fabControl client bytes s
  | _ =>
    let m := mb - 2
    forEach (canFrames bytes (bytes.getD 3 0)) (canSend m) s

/-- Every message at the head of its outbound ring whose transport is up leaves. -/
def drainTransports (s : State) : State :=
  forEach s.mbx.outq (fun e t =>
    if t.mbx.outq.head? == some e || !((t.mbx.outq.takeWhile (· != e)).any (·.1 == e.1)) then
      if transportUp t e.1 e.2.1 then
        transportTake e { t with mbx := { t.mbx with outq := t.mbx.outq.erase e } }
      else t
    else t) s

/-! ### EVENT messages (R335) -/

/-- An event record of 32 bytes. -/
def EvRec.bytes (r : EvRec) : List Byte :=
  leBytes 4 r.seq ++ leBytes 4 r.wrap.toNat ++ leBytes 2 r.code ++ leBytes 1 r.cls ++ leBytes 1 r.sev ++
    leBytes 4 r.frame.toNat ++ leBytes 4 r.obj.toNat ++ r.detail

/-- A list cut into pieces of 8. -/
def chunks8 {α : Type} : Nat → List α → List (List α)
  | 0, _ => []
  | n + 1, l => if l.isEmpty then [] else l.take 8 :: chunks8 n (l.drop 8)

/-- A mailbox takes an event: its mask bit and lowest severity (R335). -/
def evWanted (s : State) (mb : Nat) (r : EvRec) : Bool :=
  (s.rd (Reg.MBX_MB_EVT_MASK mb)).getLsbD r.cls && decide (s.fd (Reg.MBX_MB_CFG mb) 3 2 ≤ r.sev)

/-- Up to 8 records in one EVENT message; a ring without room counts each as dropped (R330). -/
def sendEvents (mb : Nat) (l : List EvRec) (s : State) : State :=
  let p := l.flatMap EvRec.bytes
  if outFree s mb < ringSize (p.length + protectExtra s mb) then s.countBy (Reg.MBX_MB_CNT_EVT_DROP mb) l.length
  else
    let q := sget (fun _ => 0) s.mbx.evtSeq mb
    placeMsg mb (sget (fun _ => 0) s.mbx.lastClient mb) 0x10FF 0x0A q 0 p
      { s with mbx := { s.mbx with evtSeq := sput (fun _ => 0) s.mbx.evtSeq mb ((q + 1) % 65536) } }

/-- The events of one tick go out, packed up to 8 to a message (R335). -/
def sendTick (l : List EvRec) (s : State) : State :=
  forEach (List.range 8) (fun mb t =>
    let w := l.filter (evWanted t mb)
    forEach (chunks8 w.length w) (sendEvents mb) t) s

/-- Events of ticks that are over go out, tick by tick (R335; log entry 134). -/
def sendOver : Nat → State → State
  | 0, s => s
  | n + 1, s =>
    match s.mbx.evNew with
    | [] => s
    | e :: r =>
      if e.wrap == s.tickWrap then s
      else
        let rest := r.dropWhile (·.wrap == e.wrap)
        sendOver n (sendTick (e :: r.takeWhile (·.wrap == e.wrap)) { s with mbx := { s.mbx with evNew := rest } })

/-- Events go out once their tick is over, unless the mailboxes pause (R337) or firmware does not run (R429). -/
def flushEvents (s : State) : State :=
  if mbPaused s || decide (stage s < 3) then s else sendOver s.mbx.evNew.length s

/-- The next state of every meaning: events go out and transports take what they can. -/
def done (s : State) : Host.Outcome State Fault Refusal := .next (drainTransports (flushEvents s))

end Sys2Proof.Machine
end

