-- ==== Sys2Proof/Machine/Raster.lean ====
section
/-! DEFINITION. Raster time (R20 to R45, R453): frame starts on the grid of REF, blanking, slewing, SYNC_IN, SYNC_OUT and
the arming of time actions. Instants are in 2⁻¹⁶ ns of device time. -/
namespace Sys2Proof.Machine

/-- ns in 2⁻¹⁶ ns. -/
def ns16 (n : Int) : Int := n * 65536

/-- REF (R22). -/
def refInstant (s : State) : Int :=
  ns16 (((s.fd Reg.RAS_REF_S_HI 0 16 * 2 ^ 32 + (s.rd Reg.RAS_REF_S_LO).toNat) * 1000000000 + s.fd Reg.RAS_REF_NS 0 30 : Nat))
    + s.ras.refFrac

/-- REF and REF_FRAME move (R22). -/
def setRef (t : Int) (frame : BitVec 32) (s : State) : State :=
  let n := (t / 65536).toNat
  let s := { s with ras := { s.ras with refFrac := (t % 65536).toNat } }
  (((s.wr Reg.RAS_REF_NS (BitVec.ofNat 32 (n % 1000000000))).wr Reg.RAS_REF_S_LO (BitVec.ofNat 32 (n / 1000000000))).wr
    Reg.RAS_REF_S_HI (BitVec.ofNat 32 (n / 1000000000 / 2 ^ 32 % 65536))).wr Reg.RAS_REF_FRAME frame

/-- The period lies in the range of R21. -/
def periodInRange (p : Nat) : Bool := decide (2083333 * 65536 ≤ p ∧ p ≤ 41666667 * 65536)

/-- The layer-frame limit for `n` layers, exact (R21). -/
def layerFit (p n : Nat) : Bool := n == 0 || decide (n * 65536 * 1000000000 / 1920 ≤ p)

/-- Latest phase that leaves 250 µs to the end of the frame (R24). -/
def blankFloor (p : Nat) : Nat := 2 ^ 24 - (250000 * 65536 * 2 ^ 24 + p - 1) / p

/-- Effective blanking start (R24). -/
def blankEff (p blank : Nat) : Nat := min blank (blankFloor p)

/-- RAS.BLANK_EFF is recomputed. -/
def setBlankEff (s : State) : State :=
  s.wr Reg.RAS_BLANK_EFF (BitVec.ofNat 32 (blankEff (period16 s) (s.lf Reg.RAS_BLANK_START 0 24)))

/-- A fraction of the frame of `2 ^ bits` steps, as a time. -/
def frac16 (s : State) (x bits : Nat) : Int := (x * period16 s / 2 ^ bits : Nat)

/-- Instant of the blanking start of the frame in progress. -/
def blankAt (s : State) : Int := s.ras.p0At + frac16 s (s.fd Reg.RAS_BLANK_EFF 0 24) 24

/-- What blanking can still be shortened by (R34): it stays at 250 µs or more, and with BLANK_EFF at the floor of R24 it already stands
there. -/
def slewRoom (s : State) : Int :=
  if s.fd Reg.RAS_BLANK_EFF 0 24 == blankFloor (period16 s) then 0 else max 0 ((period16 s : Int) - frac16 s (s.fd Reg.RAS_BLANK_EFF 0 24) 24 - ns16 250000)

/-- Largest lengthening of a frame (R34). -/
def slewMax (s : State) : Int := ns16 (s.fd Reg.RAS_SLEW_MAX 0 10 * 1000)

/-- The wanted total move from the nominal next phase 0 is taken as far as this frame allows; the rest is carried, and SLEWING stands
until the last of it is done (R34). -/
def setMove (want : Int) (s : State) : State :=
  let m := max (-(slewRoom s)) (min (slewMax s) want)
  let s := { s with ras := { s.ras with
    move := m, slewLeft := want - m, p0Next := s.ras.p0At + (period16 s : Int) + m } }
  s.wb Reg.RAS_STATUS 2 (want != m || (s.bit Reg.RAS_STATUS 2 && m != 0))

/-- A wanted move in a direction that blanking allows: where it cannot be shortened it is lengthened (R34). -/
def slewDir (s : State) (want : Int) : Int :=
  if decide (want < 0) && slewRoom s == 0 then want % (period16 s : Int) else want

/-- The next phase 0 is to move by `e` from where it is planned; a rest that was carried is part of `e` (R32). -/
def addMove (e : Int) (s : State) : State := setMove (slewDir s (s.ras.move + e)) s

/-- Move that brings an instant onto the grid of REF in the direction of the smaller total, lengthening when blanking
cannot shorten (R34). -/
def gridError (s : State) (t : Int) : Int :=
  let p : Int := period16 s
  let r := (t - refInstant s) % p
  if r == 0 then 0 else if 0 < slewRoom s && decide (r ≤ p - r) then -r else p - r

/-- Frame number of a grid instant (R22, R23). -/
def gridFrame (s : State) (t : Int) : BitVec 32 :=
  BitVec.ofInt 32 (((s.rd Reg.RAS_REF_FRAME).toNat : Int) + (t - refInstant s) / (period16 s : Int))

/-- The source in force is SYNC_IN (R31). -/
def onSyncIn (s : State) : Bool := s.lf Reg.RAS_SOURCE 0 2 == 1

/-- The planned next phase 0 leaves the grid (a step of time or a new epoch): it slews back, and frame numbers follow
the grid (R34). -/
def realign (s : State) : State :=
  if s.ras.ran && !(onSyncIn s) then
    let want := s.ras.move + s.ras.slewLeft
    let t := s.ras.p0At + (period16 s : Int) + want
    let e := gridError s t
    let s := { s with ras := { s.ras with nextFrame := gridFrame s (t + e) } }
    setMove (want + e) s
  else s

/-- First phase 0 after an enable: the first grid instant at least one period after `t` (R43). -/
def firstP0 (s : State) (t : Int) : Int :=
  let p : Int := period16 s
  let x := t + p
  x + (refInstant s - x) % p

/-- The raster waits for its first phase 0 (R43). -/
def armRaster (s : State) : State :=
  let t := firstP0 s s.tick16
  { s with ras := { s.ras with
    armed := true, ran := false, inBlank := false, commitCap := false, move := 0, slewLeft := 0, p0Next := t, p0First := t
    nextFrame := gridFrame s t, edgeUsed := false, missRun := 0, syncTarget := none, syncOutDone := false } }

/-- A commit bit of a set was written again after its capture (R127); bits as in `Ras.recommit`. -/
def recommitted (s : State) (k : Nat) : Bool := s.ras.recommit.testBit k

/-- Record, or forget, a commit made after the capture of set `k`. -/
def setRecommit (k : Nat) (v : Bool) (s : State) : State :=
  { s with ras := { s.ras with recommit :=
      s.ras.recommit - (if s.ras.recommit.testBit k then 2 ^ k else 0) + (if v then 2 ^ k else 0) } }

/-- A captured layer set that is dropped waits for its capture again. -/
def uncaptureLayer (n : Nat) (s : State) : State :=
  if s.bit (Reg.CMP_LAYER_STATUS n) 2 then (s.wb (Reg.CMP_LAYER_STATUS n) 2 false).wb (Reg.CMP_LAYER_STATUS n) 1 true else s

/-- An epoch captured with a set that is dropped is staged again. -/
def epochBack (s : State) : State :=
  { s with ras := { s.ras with epochStaged := s.ras.epochStaged || s.ras.epochCap, epochCap := false } }

/-- What waited for a coming phase 0 waits for the first one after the raster is enabled again (R453): a fallback and its clear,
completions, a handover, and a snowpack operation. -/
def waitFirst (s : State) : State :=
  { s with
    pol := { s.pol with fbWait := min 1 s.pol.fbWait, clearPend := s.pol.clearPend || s.pol.clearCap, clearCap := false }
    mbx := { s.mbx with compl := s.mbx.compl.map fun c => { c with wait := 1 } }
    fw := { s.fw with commitWait := min 1 s.fw.commitWait }
    corr := { s.corr with applies := s.corr.applies.map fun a => { a with cap := false } }
    beam := { s.beam with laPend := s.beam.laPend.orElse fun _ => s.beam.laCap, laCap := none }
    snow := { s.snow with op := s.snow.op.map fun o => { o with cap := o.cap && o.applied } } }

/-- The raster stops: captures made for the next phase 0 are dropped and stay pending (R453). -/
def stopRaster (s : State) : State :=
  let s := waitFirst (epochBack ((s.wb Reg.RAS_STATUS 0 false).wb Reg.RAS_STATUS 2 false))
  let s := forEach (List.range 8) uncaptureLayer s
  let s := { s with ras := { s.ras with recommit := 0 } }
  { s with cap := [], ras := { s.ras with armed := false, ran := false, inBlank := false, commitCap := false, move := 0,
                                          slewLeft := 0 } }

/-- Time actions whose time a test selects as passed run late, at the next tick (R39, R425). -/
def tactPassed (sel : Nat → Bool) (s : State) : State :=
  { s with ras := { s.ras with
    tact := s.ras.tact.map fun e => match e.2 with
      | some (t, a, v, l) => (e.1, some (t, a, v, if sel t then some (s.tickNs + 1000) else l))
      | none => e } }

/-- Device time moves by `d` in 2⁻¹⁶ ns: the raster keeps its physical instants and slews back to the grid (R34, R39);
time actions that the step passes over run late, at the next tick. A raster whose first phase 0 has not come is placed anew
(DESIGN CHOICE, log entry 116). -/
def rasterStepped (d : Int) (before : Nat) (s : State) : State :=
  let s := tactPassed (fun t => decide (before < t ∧ t ≤ s.tickNs)) s
  let s := { s with ras := { s.ras with syncFall := s.ras.syncFall.map (· + d) } }
  if s.ras.armed then armRaster s
  else if s.ras.ran then
    realign { s with ras := { s.ras with
      p0At := s.ras.p0At + d, p0Next := s.ras.p0Next + d, p0First := s.ras.p0First + d, syncTarget := s.ras.syncTarget.map (· + d) } }
  else s

/-! ### SYNC_IN -/

/-- The accepted polarity of SYNC_IN (RAS.SOURCE.SYNC_POL). -/
def syncPolarity (s : State) (rising : Bool) : Bool := rising == (s.lf Reg.RAS_SOURCE 2 1 == 0)

/-- SYNC_WIN in 2⁻¹⁶ ns. -/
def syncWin (s : State) : Int := ns16 (s.fd Reg.RAS_SYNC_WIN 0 10 * 1000)

/-- Error of an edge at `t`: from the next phase 0 to its nearest target instant (R32). -/
def syncError (s : State) (t : Int) : Int :=
  let p : Int := period16 s
  let x := t + ns16 (sext 32 (s.rd Reg.RAS_SYNC_OFFSET).toNat)
  let r := (x - s.ras.p0Next) % p
  if 2 * r ≤ p then r else r - p

/-- An edge is used: the next phase 0 moves by its error. -/
def useEdge (e : Int) (s : State) : State :=
  addMove e { s with ras := { s.ras with
    edgeUsed := s.ras.edgeUsed || decide (-(syncWin s) ≤ e ∧ e ≤ syncWin s), syncTarget := some (s.ras.p0Next + e) } }

/-- An edge on SYNC_IN (R32, R33): polarity, and its time in units of 10 ns. Before the first phase 0 of an enabled raster there is no
frame whose end it could move: it is ignored and not counted (DESIGN CHOICE, log entry 114). -/
def syncEdge (rising : Bool) (at10 : Nat) (s : State) : State :=
  if !(onSyncIn s) || !(syncPolarity s rising) || !s.ras.ran then s
  else
    let e := syncError s (ns16 (at10 * 10))
    if s.bit Reg.RAS_STATUS 3 then useEdge e s
    else if decide (-(syncWin s) ≤ e ∧ e ≤ syncWin s) && !s.ras.edgeUsed then useEdge e s
    else s.count Reg.RAS_CNT_SYNC_OUTWIN

/-- Frames without an in-window edge have reached SYNC_LOSS_LIMIT: SYNC_LOST and its event (R33). -/
def syncLost (s : State) : State :=
  if onSyncIn s && !(s.bit Reg.RAS_STATUS 3) && decide (0 < s.ras.missRun) &&
      decide (s.fd Reg.RAS_SYNC_LOSS_LIMIT 0 4 ≤ s.ras.missRun) then
    (s.wb Reg.RAS_STATUS 3 true).event 0x0030 3 1 clsDevice 0 [0]
  else s

/-- SYNC_LOST (R33). -/
def execSyncLost (s : State) : Host.Outcome State Fault Refusal := done (syncLost s)

/-- The target of the last edge taken is kept while a rest of its move is carried. -/
def syncKeep (s : State) : State :=
  if s.ras.slewLeft == 0 then { s with ras := { s.ras with syncTarget := none } } else s

/-- The frame that ends at a phase 0 in SYNC_IN mode: misses, SYNC_LOST and its end (R33). The end is judged against the target of the
last edge taken, in this frame or in one whose rest was carried to it. Outside SYNC_IN mode SYNC_LOST stays as it is (DESIGN CHOICE, log
entry 115). -/
def syncFrameEnd (s : State) : State :=
  if !(onSyncIn s) || !s.ras.ran then { s with ras := { s.ras with edgeUsed := false, missRun := 0, syncTarget := none } }
  else
    let s := if s.ras.edgeUsed then { s with ras := { s.ras with missRun := 0, edgeUsed := false } }
      else { s with ras := { s.ras with missRun := s.ras.missRun + 1 } }.count Reg.RAS_CNT_SYNC_MISS
    let near := match s.ras.syncTarget with
      | none => false
      | some t =>
        let p : Int := period16 s
        let r := (t - s.ras.p0Next) % p
        decide (r ≤ syncWin s ∨ p - r ≤ syncWin s)
    syncKeep (if s.bit Reg.RAS_STATUS 3 then
      if near then ({ s with ras := { s.ras with missRun := 0 } }.wb Reg.RAS_STATUS 3 false).event 0x0030 3 1 clsDevice 0 [1]
      else s
    else syncLost s)

/-! ### The raster's part of a phase 0 -/

/-- Registers that every timing set holds, and those of a staged epoch (R44). -/
def baseTiming : List Nat := [Reg.RAS_SOURCE, Reg.RAS_PERIOD, Reg.RAS_PERIOD_FRAC, Reg.RAS_BLANK_START]
def epochTiming : List Nat := [Reg.RAS_EPOCH_NS, Reg.RAS_EPOCH_S_LO, Reg.RAS_EPOCH_S_HI]

/-- The staged timing set is captured, with an epoch where one is staged (R26, R44). -/
def takeTiming (s : State) : State :=
  let t := s.capture (baseTiming ++ if s.ras.epochStaged then epochTiming else [])
  { t with ras := { s.ras with commitCap := true, epochCap := s.ras.epochStaged || s.ras.epochCap, epochStaged := false } }

/-- The staged period in 2⁻¹⁶ ns. -/
def stagedPeriod (s : State) : Nat := (s.rd Reg.RAS_PERIOD).toNat * 65536 + s.fd Reg.RAS_PERIOD_FRAC 0 16

/-- A timing set is discarded whole, and its staged values stay (R46). -/
def rejectTiming (s : State) : State :=
  let s := epochBack ((s.wb Reg.RAS_STATUS 5 true).wb Reg.RAS_STATUS 4 false)
  { s.uncapture (baseTiming ++ epochTiming) with ras := { s.ras with commitCap := false, rejSeen := 0 } }

/-- PERIOD (0) or PERIOD_FRAC (1) is written: PERIOD_REJ clears when both were written again (R46). -/
def periodWritten (k : Nat) (s : State) : State :=
  let n := s.ras.rejSeen ||| 2 ^ k
  let s := { s with ras := { s.ras with rejSeen := n } }
  if n == 3 then s.wb Reg.RAS_STATUS 5 false else s

/-- A captured timing set takes effect at instant `t`, the start of frame `f` (R22, R31, R45). `anchor` is false at an
enabling tick, where only an epoch moves REF (R453). A period change moves REF whatever the source (DESIGN CHOICE, log entry 113). -/
def applyTiming (anchor : Bool) (t : Int) (f : BitVec 32) (s : State) : State :=
  let old := period16 s
  let wasSync := onSyncIn s
  let regs := baseTiming ++ epochTiming
  let s := forEach regs (fun a u => match u.crd a with | some v => u.lwr a v | none => u) s
  let s := s.uncapture regs
  let changed := period16 s != old
  let s := when (anchor && (changed || (wasSync && !(onSyncIn s)))) (setRef t f) s
  let s := when changed (fun u =>
    (u.count Reg.RAS_CNT_PERIOD_CHG).event 0x0031 3 0 clsDevice 0 (det 4 (u.lrd Reg.RAS_PERIOD).toNat)) s
  let s := setBlankEff s
  let s := { s with ras := { s.ras with commitCap := false } }
  let s := if s.ras.epochCap then
      let e : Int := (((s.lf Reg.RAS_EPOCH_S_HI 0 16 * 2 ^ 32 + (s.lrd Reg.RAS_EPOCH_S_LO).toNat) * 1000000000 +
        s.lf Reg.RAS_EPOCH_NS 0 30 : Nat) : Int)
      setRef (ns16 e) 0 { s with ras := { s.ras with epochCap := false } }
    else s
  (setRecommit 4 false (s.wb Reg.RAS_STATUS 4 (recommitted s 4))).wb Reg.RAS_STATUS 1 (onSyncIn s)

/-- The next phase 0 is planned from this one (R22, R34): a carried rest goes on, but for a timing set on device time, after
which the grid in force decides. -/
def planNext (timing : Bool) (s : State) : State :=
  let left := s.ras.slewLeft
  let s := { s with ras := { s.ras with
    nextFrame := s.ras.frame + 1, move := 0, slewLeft := 0, p0Next := s.ras.p0At + (period16 s : Int) } }
  let s := if timing && !(onSyncIn s) then realign s else setMove (slewDir s left) s
  { s with ras := { s.ras with photon := s.ras.p0Next } }

/-- The raster's own part of a phase 0: the instant comes, the frame number moves on, the timing set applies, and the
next phase 0 is planned (R22, R27, R34, R45). -/
def rasterP0 (s : State) : State :=
  let t := s.ras.p0Next
  let s := s.advanceTo t
  let s := syncFrameEnd s
  let s := when (s.ras.ran && s.ras.move != 0) (State.count · Reg.RAS_CNT_SLEW) s
  let s := { s with ras := { s.ras with
    frame := s.ras.nextFrame, p0At := t, inBlank := false, armed := false, ran := true, syncOutDone := false } }
  let s := (s.wb Reg.RAS_STATUS 0 true).wr Reg.RAS_LAST_P0 (BitVec.ofInt 32 ((t + 32768) / 65536))
  let timing := s.ras.commitCap
  let s := if s.ras.commitCap then
      applyTiming true t s.ras.frame s
    else s
  planNext timing s

/-! ### SYNC_OUT (R35) -/

/-- SYNC_OUT changes level at an instant. -/
def syncLevel (v : Bool) (t : Int) (s : State) : State := { s with pins := { s.pins with syncOut := v } }.emit (.edge 0 v t)

/-- Instant of its phase at which SYNC_OUT rises in the frame in progress. -/
def syncRise (s : State) : Int := s.ras.p0At + frac16 s (s.fd Reg.RAS_SYNC_OUT 0 24) 24

/-- SYNC_OUT goes high at its phase while enabled and the raster runs; the pulse lasts WIDTH µs, 1 µs for a WIDTH of 0. -/
def syncPulse (s : State) : State :=
  if s.bit Reg.RAS_SYNC_OUT 31 && rasOn s && s.ras.ran && !s.ras.syncOutDone then
    let t := syncRise s
    let s := syncLevel true t (s.advanceTo t)
    { s with ras := { s.ras with
      syncOutDone := true, syncFall := some (t + ns16 (max 1 (s.fd Reg.RAS_SYNC_OUT 24 7) * 1000)) } }
  else s

/-- SYNC_OUT goes high (R35). -/
def execSyncOutPulse (s : State) : Host.Outcome State Fault Refusal := done (syncPulse s)

/-- The end of the pulse that is out. -/
def syncPulseEnd (s : State) : State :=
  match s.ras.syncFall with
  | none => s
  | some t => syncLevel false t { s.advanceTo t with ras := { s.ras with syncFall := none } }

/-- With EN at 0, SYNC_OUT is low: a pulse that is out ends (R35). -/
def syncOutOff (s : State) : State :=
  if s.bit Reg.RAS_SYNC_OUT 31 || s.ras.syncFall.isNone then s
  else syncLevel false s.tick16 { s with ras := { s.ras with syncFall := none } }

/-- SYNC_OUT goes low (R35). -/
def execSyncOutPulseEnd (s : State) : Host.Outcome State Fault Refusal := done (syncPulseEnd s)

/-! ### Time actions (R40) -/

/-- STATE of a time action. -/
def setTactState (n st : Nat) (s : State) : State := s.wf (Reg.RAS_TACT_CTRL n) 2 3 st

/-- Arm a time action with its current time, address and data; one whose time has passed runs at the next tick (R40). -/
def tactArm (n : Nat) (s : State) : State :=
  let t := (s.rd (Reg.RAS_TACT_TIME_HI n)).toNat * 2 ^ 32 + (s.rd (Reg.RAS_TACT_TIME_LO n)).toNat
  setTactState n 1 { s with ras := { s.ras with
    tact := sput (fun _ => none) s.ras.tact n
      (some (t, s.fd (Reg.RAS_TACT_ADDR n) 2 22 * 4, (s.rd (Reg.RAS_TACT_DATA n)).toNat,
        if t < s.tickNs then some (s.tickNs + 1000) else none)) } }

/-- Cancel an armed time action. -/
def tactCancel (n : Nat) (s : State) : State :=
  if s.fd (Reg.RAS_TACT_CTRL n) 2 3 == 1 then
    setTactState n 0 { s with ras := { s.ras with tact := sput (fun _ => none) s.ras.tact n none } }
  else s

/-- RAS.TIMING_COMMIT.COMMIT: the staged timing set waits for its phase 0 (R44). -/
def timingCommit (s : State) : State :=
  when s.ras.commitCap (setRecommit 4 true) (s.wb Reg.RAS_STATUS 4 true)

end Sys2Proof.Machine
end

