-- ==== Sys2Proof/Machine/Beam.lean ====
section
/-! DEFINITION. The beam renderer (R142 to R166): acceptance of object lists, states, the render pass, lookahead, the
segment pass, base beams and glyph coverage. -/
namespace Sys2Proof.Machine

/-! ### Lists (R142 to R147) -/

/-- Signed 16-bit field of a byte list. -/
def s16At (l : List Byte) (i : Nat) : Int := sext 16 (leAt l i 2)

/-- An object record (Table BEAM-2). -/
def objOf (r : List Byte) : Obj :=
  { id := leAt r 0 2, cls := leAt r 2 1, azL := s16At r 4, azR := s16At r 6, elB := s16At r 8, elT := s16At r 10
    vaz := s16At r 12, vel := s16At r 14, dist := leAt r 16 2, ts := BitVec.ofNat 32 (leAt r 20 4) }

/-- The records of a list. -/
def listRecords (l : List Byte) : List (List Byte) := (List.range (leAt l 1 1)).map fun i => (l.drop (16 + 24 * i)).take 24

/-- The checks of Table BEAM-3 on record `r`; `earlier` holds the IDs before it. -/
def recordOk (s : State) (earlier : List Nat) (r : List Byte) : Bool :=
  let o := objOf r
  let vmax : Int := s.fd Reg.BEAM_VMAX 0 16
  let age := sext 32 ((s.tickNs + 2 ^ 32 - o.ts.toNat) % 2 ^ 32)
  decide (1 ≤ o.id ∧ o.id ≤ 0xFFFE) && !(earlier.contains o.id) && decide (o.cls ≤ 5) && leAt r 3 1 == 0 && leAt r 18 2 == 0 &&
    decide (o.azL ≠ -32768 ∧ o.azR ≠ -32768 ∧ o.elB ≠ -32768 ∧ o.elT ≠ -32768) && decide (o.azL ≤ o.azR ∧ o.elB ≤ o.elT) &&
    decide (o.vaz.natAbs ≤ vmax ∧ o.vel.natAbs ≤ vmax) && (o.dist == 0xFFFF || decide (1 ≤ o.dist ∧ o.dist ≤ 30000)) &&
    decide (-1000000 ≤ age ∧ age ≤ s.fd Reg.BEAM_AGE_LIMIT 0 8 * 1000000)

/-- The objects a list keeps (R147). -/
def keptObjs (s : State) (earlier : List Nat) : List (List Byte) → List Obj
  | [] => []
  | r :: rest =>
    let t := keptObjs s ((objOf r).id :: earlier) rest
    if recordOk s earlier r then objOf r :: t else t

/-- Verdict on a list image (R146): 0 accepted, 1 header, 2 CRC, 3 duplicate, 4 repeated ALIVE. -/
def listVerdict (s : State) (l : List Byte) : Nat :=
  let n := leAt l 1 1
  if l.length < 16 || leAt l 0 1 != 0x30 || decide (64 < n) || l.length != 16 + 24 * n || leAt l 3 1 != 0 || leAt l 8 4 != 0 then 1
  else if leAt l 12 4 != crc32c (l.take 12 ++ l.drop 16) then 2
  else if s.beam.lastAlive == some (l.getD 2 0) then (if s.beam.lastCrc.toNat == leAt l 12 4 then 3 else 4)
  else 0

/-- STATE of the renderer (Table BEAM-4): 0 OFF, 1 NO_LIST, 2 TRACKING, 3 TIMEOUT. -/
def beamState (s : State) : Nat := s.fd Reg.BEAM_STATUS 0 2

/-! ### The render pass (R151) -/

/-- Round to nearest, halves up. -/
def roundDiv (a b : Int) : Int := (2 * a + b) / (2 * b)

/-- Parallax and margin of one object. -/
def renderObj (s : State) (o : Obj) : Obj :=
  let d : Int := if o.dist == 0xFFFF then s.lf Reg.BEAM_DEF_DIST 0 16 else o.dist
  let px := sext 16 (s.lf Reg.BEAM_PARALLAX 0 16)
  let py := sext 16 (s.lf Reg.BEAM_PARALLAX 16 16)
  let pa := if d == 0 then 0 else roundDiv (1000 * px) d
  let pe := if d == 0 then 0 else roundDiv (1000 * py) d
  let ma : Int := s.lf (Reg.BEAM_CLASS_MARGIN o.cls) 0 16
  let me : Int := s.lf (Reg.BEAM_CLASS_MARGIN o.cls) 16 16
  { o with azL := o.azL - pa - ma, azR := o.azR - pa + ma, elB := o.elB - pe - me, elT := o.elT - pe + me }

/-- Fade and pattern of a pass (R161): a new PAT starts a fade, or changes at once. A pass run `again` for its output goes on with the step
already taken. -/
def stepFade (again : Bool) (s : State) : State :=
  let pat := s.lf Reg.BEAM_PATTERN 0 4
  let b := s.beam
  let st := beamState s
  let b :=
    if st == 1 || st == 3 then { b with fadeFrom := pat, fadeTo := pat, fadeI := 0, fadeF := 0 }
    else if pat != b.fadeTo then { b with fadeFrom := b.fadeTo, fadeTo := pat, fadeI := 1, fadeF := s.lf Reg.BEAM_PATTERN 8 8 }
    else if again then b
    else { b with fadeI := min b.fadeF (b.fadeI + 1) }
  { s with beam := b }

/-- The renderer output of a pass over list `l`. -/
def renderTab (s : State) (l : List Obj) (spec : Bool) : RTab :=
  let st := beamState s
  let out := st == 1 || st == 3
  { objs := if st == 2 then l.map (renderObj s) else [], state := st
    old := s.beam.fadeFrom, pat := if out then s.lf Reg.BEAM_TIMEOUT_PAT 0 4 else s.beam.fadeTo
    i := s.beam.fadeI, f := if out then 0 else s.beam.fadeF
    gAz := s.lrd Reg.BEAM_GRID_AZ, gEl := s.lrd Reg.BEAM_GRID_EL, gBank := s.lf Reg.BEAM_GRID_BANK 0 1
    hb := (List.range 8).map fun n => s.lrd (Reg.BEAM_HB_SEG n)
    cfg := (List.range 6).map fun c => s.lrd (Reg.BEAM_CLASS_CFG c), spec := spec }

/-- A render pass starts over a list; `again` after a squash. -/
def startPass (again : Bool) (l : List Obj) (spec : Bool) (s : State) : State :=
  let s := stepFade again s
  let t := renderTab s l spec
  (({ s with beam := { s.beam with prep := some t, prepAt := s.tick16, ready := none } }.wb Reg.BEAM_STATUS 2 true).wb Reg.BEAM_STATUS 3 spec)

/-- The speculative table is dropped and the pass runs from the current list (R165, R166). -/
def squash (counted : Bool) (s : State) : State :=
  let s := when counted (State.count · Reg.BEAM_CNT_SQUASH) s
  startPass true s.beam.fixed false { s with beam := { s.beam with squashed := true } }

/-- A speculative table is in preparation or waits (R163). -/
def speculative (s : State) : Bool :=
  (s.beam.prep.any (·.spec)) || (s.beam.ready.any (·.spec))

/-- The renderer changes state, with its event (R148); entry to NO_LIST or TIMEOUT squashes a speculative table (R166). -/
def setBeamState (st : Nat) (s : State) : State :=
  let old := beamState s
  if old == st then s
  else
    let s := (s.wf Reg.BEAM_STATUS 0 2 st).event 0x0050 5 1 clsDevice 0 [old, st]
    let s := when (st == 3) (State.count · Reg.BEAM_CNT_TIMEOUT) s
    let s := { s with beam := { s.beam with consec := if st == 2 then s.beam.consec else 0 } }
    when ((st == 1 || st == 3) && s.beam.la && speculative s) (squash true) s

/-- LIST_TIMEOUT in ns. -/
def listTimeoutNs (s : State) : Nat := s.fd Reg.BEAM_LIST_TIMEOUT 0 10 * 1000000

/-- The timeout expires: TIMEOUT (R148). -/
def listExpire (s : State) : State :=
  if beamState s == 2 then setBeamState 3 (s.advanceTo (ns16 ((s.beam.lastTick + listTimeoutNs s : Nat)))) else s

/-- List timeout (R148). -/
def execListTimeout (s : State) : Host.Outcome State Fault Refusal := done (listExpire s)

/-- BEAM.CTRL.EN written (R148). -/
def beamEn (v : Bool) (s : State) : State :=
  let was := s.bit Reg.BEAM_CTRL 0
  let s := s.wb Reg.BEAM_CTRL 0 v
  if v == was then s else setBeamState (if v then 1 else 0) s

/-- An accepted list: it becomes current, and it counts towards TRACKING (R148). The expiry of the same tick goes first. -/
def acceptList (l : List Byte) (s : State) : State :=
  let t := s.tickNs
  let s := if beamState s == 2 && decide (s.beam.lastTick + listTimeoutNs s ≤ t) then listExpire s else s
  let objs := keptObjs s [] (listRecords l)
  let gap := match s.beam.lastAlive with | some a => l.getD 2 0 != a + 1 | none => false
  let s := when gap (State.count · Reg.BEAM_CNT_ALIVE_GAP) s
  let s := (s.count Reg.BEAM_CNT_LISTS).countBy Reg.BEAM_CNT_OBJ_DROP (leAt l 1 1 - objs.length)
  let s := (s.wr Reg.BEAM_LAST_LIST (BitVec.ofNat 32 (leAt l 2 1 + 256 * leAt l 1 1))).wr Reg.BEAM_LAST_LIST_TS (BitVec.ofNat 32 t)
  let k := if s.beam.consec == 0 || decide (s.beam.lastTick + listTimeoutNs s ≤ t) then 1 else s.beam.consec + 1
  let s := { s with beam := { s.beam with
    lastAlive := some (l.getD 2 0), lastCrc := BitVec.ofNat 32 (leAt l 12 4), cur := objs, fresh := true, consec := k, lastTick := t } }
  if (beamState s == 1 || beamState s == 3) && decide (s.fd Reg.BEAM_RECOVER 0 4 ≤ k) then setBeamState 2 s else s

/-- A list on a transport: bit `src` of BEAM.CTRL (2 CAN0, 3 CAN1, 4 MAC0, 5 MAC1, 6 mailbox) accepts it (R145, R146). -/
def listIn (src : Nat) (l : List Byte) (s : State) : State :=
  if !(s.bit Reg.BEAM_CTRL src) then s.count Reg.BEAM_CNT_HEADER
  else match listVerdict s l with
    | 0 => acceptList l s
    | 1 => s.count Reg.BEAM_CNT_HEADER
    | 2 => s.count Reg.BEAM_CNT_CRC
    | 3 => s.count Reg.BEAM_CNT_DUP
    | _ => s.count Reg.BEAM_CNT_ALIVE

/-! ### CAN FD assembly (R145) -/

/-- One frame, at tick `now`, into an assembly that ends `limit` ns after its frame 0: the assembly that goes on, the image when it is
complete, and whether one was discarded. -/
def asmStep (now limit : Nat) (a : Option Assembly) (f : List Byte) : Option Assembly × Option (List Byte) × Bool :=
  let frag := leAt f 0 1
  let n := leAt f 1 1
  let alive := f.getD 2 0
  let body := f.drop 4
  let fresh : Option Assembly × Option (List Byte) :=
    if frag == 0 && 1 ≤ n then
      (if n == 1 then (none, some body) else (some { start := now, nfrag := n, next := 1, alive := alive, bytes := body }, none))
    else (none, none)
  match a with
  | none => (fresh.1, fresh.2, false)
  | some x =>
    if frag == x.next && n == x.nfrag && alive == x.alive && decide (now ≤ x.start + limit) then
      (if x.next + 1 == x.nfrag then (none, some (x.bytes ++ body), false)
       else (some { x with next := x.next + 1, bytes := x.bytes ++ body }, none, false))
    else (fresh.1, fresh.2, true)

/-- The assembled bytes without the padding of the last frame. -/
def listImage (b : List Byte) : List Byte :=
  let n := 16 + 24 * leAt b 1 1
  if n ≤ b.length && (b.drop n).all (· == 0) && decide (b.length < n + 60) then b.take n else b

def beamAsm (s : State) (m : Nat) : Option Assembly := sget (fun _ => none) s.beam.asm m
def setBeamAsm (m : Nat) (a : Option Assembly) (s : State) : State :=
  { s with beam := { s.beam with asm := sput (fun _ => none) s.beam.asm m a } }

/-- BEAM.CAN_ASSY in ns. -/
def beamAssyNs (s : State) : Nat := s.fd Reg.BEAM_CAN_ASSY 0 5 * 1000000

/-- A CAN FD frame with the identifier of BEAM.CAN_ID. -/
def beamCanFrame (m : Nat) (f : List Byte) (s : State) : State :=
  let r := asmStep s.tickNs (beamAssyNs s) (beamAsm s m) f
  let s := when r.2.2 (State.count · Reg.BEAM_CNT_ASSY) (setBeamAsm m r.1 s)
  match r.2.1 with
  | some b => listIn (2 + m) (listImage b) s
  | none => s

/-- An assembly is not complete within CAN_ASSY (R145). -/
def beamAsmTimeout (m : Nat) (s : State) : State :=
  match beamAsm s m with
  | some a => (setBeamAsm m none (s.advanceTo (ns16 (a.start + beamAssyNs s + 1000 : Nat)))).count Reg.BEAM_CNT_ASSY
  | none => s

/-- BEAM assembly timeout (R145). -/
def execBeamCanAssyTimeout (m : Fin 2) (s : State) : Host.Outcome State Fault Refusal := done (beamAsmTimeout m.val s)

/-! ### The segment pass (R154, R157) -/

/-- S and W in force for the frame in composition. -/
def segW (s : State) : Nat :=
  let g := 2 ^ s.lf Reg.SUP_PLAN 1 3
  let m := s.lf Reg.SUP_PLAN 4 7
  if g ≤ m then 0xFFFF else m * (65536 / g)

/-- Photon time of segment `g` for the frame in composition, in ns of device time at the nearest ns (R29, R30). -/
def photonNs (s : State) (g : Nat) : Int :=
  let p : Int := period16 s
  let sw : Int := 2 * (s.fd (Reg.SEG_SEG_PLAN g) 0 16 : Nat) + (segW s : Nat)
  roundDiv (2 * 65536 * s.ras.photon + sw * p) (2 * 65536 * 65536)

/-- Node (i, j) of a grid bank in quarter canvas pixels (R156). -/
def gridNode (s : State) (bank i j : Nat) : Int × Int :=
  let a := winBase + 0x420000 + 0x2000 * bank + 4 * (33 * j + i)
  (sext 16 (s.le a 2), sext 16 (s.le (a + 2) 2))

/-- grid(p) of R157 with angles doubled: quarter canvas pixels times the product of the doubled steps. -/
def gridAt (s : State) (t : RTab) (az2 el2 : Int) : Int × Int :=
  let ax : Int := 2 * (fld t.gAz 16 11 : Nat)
  let ay : Int := 2 * (fld t.gEl 16 11 : Nat)
  let gx := max 0 (min (32 * ax) (az2 - 2 * sext 16 (fld t.gAz 0 16)))
  let gy := max 0 (min (32 * ay) (2 * sext 16 (fld t.gEl 0 16) - el2))
  let i := min (gx / ax) 31
  let j := min (gy / ay) 31
  let fx := gx - i * ax
  let fy := gy - j * ay
  let n00 := gridNode s t.gBank i.toNat j.toNat
  let n10 := gridNode s t.gBank (i.toNat + 1) j.toNat
  let n01 := gridNode s t.gBank i.toNat (j.toNat + 1)
  let n11 := gridNode s t.gBank (i.toNat + 1) (j.toNat + 1)
  let mix (f : Int × Int → Int) : Int :=
    (ax - fx) * (ay - fy) * f n00 + fx * (ay - fy) * f n10 + (ax - fx) * fy * f n01 + fx * fy * f n11
  (mix (·.1), mix (·.2))

/-- Horizon of an object at photon time `tp`, unclamped (R154). -/
def horizon (o : Obj) (tp : Int) : Int := sext 32 (wrapInt 32 (tp - o.ts.toNat))

/-- BEAM.MAX_HORIZON in ns. -/
def maxHorizon (s : State) : Int := (s.fd Reg.BEAM_MAX_HORIZON 0 10 * 1000000 : Nat)

/-- Canvas box of an object at a photon time, in quarter canvas pixels: x0, x1, y0, y1. -/
def canvasBox (s : State) (t : RTab) (o : Obj) (tp : Int) : Int × Int × Int × Int :=
  let h := min (horizon o tp) (maxHorizon s)
  let da := roundDiv (o.vaz * h) 100000000
  let de := roundDiv (o.vel * h) 100000000
  let l := 2 * (o.azL + da)
  let r := 2 * (o.azR + da)
  let b := 2 * (o.elB + de)
  let u := 2 * (o.elT + de)
  let m := (l + r) / 2
  let v := (b + u) / 2
  let pts := [(l, b), (m, b), (r, b), (l, v), (r, v), (l, u), (m, u), (r, u)].map fun p => gridAt s t p.1 p.2
  let xs := pts.map (·.1)
  let ys := pts.map (·.2)
  let d : Int := 4 * ((fld t.gAz 16 11 * fld t.gEl 16 11 : Nat) : Int)
  let lo (l : List Int) : Int := l.foldl min (l.headD 0) / d
  let hi (l : List Int) : Int := -(-(l.foldl max (l.headD 0)) / d)
  (lo xs, hi xs, lo ys, hi ys)

/-- A box with what R155 needs of its class: level and soft. -/
structure MaskBox where
  x0 : Int
  x1 : Int
  y0 : Int
  y1 : Int
  level : Nat
  soft : Nat
  deriving DecidableEq, Repr

/-- Canvas size, live (R113). -/
def canvasW (s : State) : Nat := s.lf Reg.CMP_CANVAS 0 13 + 1
def canvasH (s : State) : Nat := s.lf Reg.CMP_CANVAS 16 13 + 1

/-- A box has a position on the canvas, whose pixels lie at 0 to size − 1 (R113). -/
def onCanvas (s : State) (b : MaskBox) : Bool :=
  decide (0 ≤ b.x1 ∧ b.x0 ≤ 4 * ((canvasW s : Int) - 1) ∧ 0 ≤ b.y1 ∧ b.y0 ≤ 4 * ((canvasH s : Int) - 1))

/-- Boxes of the shown table for segment `g`. A box that lies wholly outside the canvas has no effect (R155), segment by segment (DEDUCED,
log entry 128). -/
def maskBoxes (s : State) (t : RTab) (g : Nat) : List MaskBox :=
  let tp := photonNs s g
  (t.objs.map fun o =>
    let b := canvasBox s t o tp
    let c := t.cfg.getD o.cls 0
    ({ x0 := b.1, x1 := b.2.1, y0 := b.2.2.1, y1 := b.2.2.2, level := fld c 0 16, soft := fld c 16 6 } : MaskBox)).filter (onCanvas s)

/-- Value of one box at canvas pixel (i, j) (R155). -/
def boxValue (b : MaskBox) (i j : Nat) : Nat :=
  let dx := max (b.x0 - 4 * i) (max 0 (4 * i - b.x1))
  let dy := max (b.y0 - 4 * j) (max 0 (4 * j - b.y1))
  let d := (max dx dy).toNat
  if d == 0 then b.level
  else if 4 * b.soft ≤ d then 0xFFFF
  else b.level + (0xFFFF - b.level) * d / (4 * b.soft)

/-- Segment `g` is a high-beam segment in a table (R148). -/
def highBeam (t : RTab) (g : Nat) : Bool := (t.hb.getD (g / 32) 0).getLsbD (g % 32)

/-- The object mask at canvas pixel (i, j) for a lamp of segment `g` (R148, R155). -/
def maskValue (t : RTab) (boxes : List MaskBox) (g i j : Nat) : Nat :=
  if t.state == 1 || t.state == 3 then (if highBeam t g then 0 else 0xFFFF)
  else (boxes.map fun b => boxValue b i j).foldl min 0xFFFF

/-- Horizons of the shown table clamped for segment `g` count once per render (R154). -/
def countHorizons (g : Nat) (s : State) : State :=
  match s.beam.shown with
  | none => s
  | some t =>
    let tp := photonNs s g
    let hit := (List.range t.objs.length).filter fun i =>
      !(s.beam.horizonDone.contains i) && decide (maxHorizon s < horizon (t.objs.getD i {  id := 0, cls := 0, azL := 0, azR := 0, elB := 0, elT := 0, vaz := 0, vel := 0, dist := 0, ts := 0 }) tp)
    { s with beam := { s.beam with horizonDone := s.beam.horizonDone ++ hit } }.countBy Reg.BEAM_CNT_HORIZON hit.length

/-! ### Base beam (R159, R161) -/

/-- Pattern `p`: first byte, width, height. -/
def patOf (s : State) (p : Nat) : Option (Nat × Nat × Nat) := sget (fun _ => none) s.beam.pats p

/-- A pattern is loaded at the size of the canvas. -/
def patFits (s : State) (p : Nat) : Bool :=
  match patOf s p with | some (_, w, h) => w == canvasW s && h == canvasH s | none => false

/-- The base beam of a table can be completed (R159). -/
def baseFits (s : State) (t : RTab) : Bool := patFits s t.pat && (t.f ≤ t.i || t.f == 0 || patFits s t.old)

/-- A pixel of a pattern. -/
def patPixel (s : State) (p i j : Nat) : Nat :=
  match patOf s p with
  | some (a, w, _) => s.le (a + j * ((2 * w + 63) / 64 * 64) + 2 * i) 2
  | none => 0

/-- The base beam at canvas pixel (i, j) for a lamp of segment `g` (R148, R161). -/
def baseValue (s : State) (t : RTab) (g i j : Nat) : Nat :=
  if (t.state == 1 || t.state == 3) && highBeam t g then 0
  else
    let n := patPixel s t.pat i j
    if t.f == 0 || t.f ≤ t.i then n
    else (2 * (patPixel s t.old i j * (t.f - t.i) + n * t.i) + t.f) / (2 * t.f)

/-! ### Glyphs (R162) -/

/-- A finite binary32 value times 2¹⁴⁹. -/
def f32Scaled (w : Word) : Int :=
  let e := fld w 23 8
  let m := fld w 0 23
  let v : Nat := if e == 0 then m else (m + 2 ^ 23) * 2 ^ (e - 1)
  if fld w 31 1 == 1 then -(v : Int) else v

/-- A binary32 value is finite. -/
def f32Finite (w : Word) : Bool := fld w 23 8 != 255

/-- Glyph set `g`: first byte, width, height. -/
def glyphOf (s : State) (g : Nat) : Option (Nat × Nat × Nat) := sget (fun _ => none) s.beam.glyphs g

/-- A texel; 0 outside the set. -/
def texel (s : State) (set : Nat × Nat × Nat) (i j : Int) : Int :=
  if 0 ≤ i ∧ i < set.2.1 ∧ 0 ≤ j ∧ j < set.2.2 then (s.byte (set.1 + j.toNat * ((set.2.1 + 63) / 64 * 64) + i.toNat)).toNat else 0

/-- Coverage of glyph set `g` at canvas pixel (x, y) (R162). -/
def glyphCoverage (s : State) (g x y : Nat) : Nat :=
  match glyphOf s g with
  | none => 0
  | some set =>
    let h (m : Nat) : Int := f32Scaled (s.lrd (Reg.BEAM_GLYPH_H g m))
    let w := h 6 * x + h 7 * y + h 8
    if w ≤ 0 then 0
    else
      let u := (256 * (h 0 * x + h 1 * y + h 2)) / w
      let v := (256 * (h 3 * x + h 4 * y + h 5)) / w
      let i := u / 256
      let j := v / 256
      let fu := u % 256
      let fv := v % 256
      (((256 - fu) * (256 - fv) * texel s set i j + fu * (256 - fv) * texel s set (i + 1) j +
        (256 - fu) * fv * texel s set i (j + 1) + fu * fv * texel s set (i + 1) (j + 1) + 32768) / 65536).toNat

/-! ### Cutoff and completion (R150, R151, R163 to R165) -/

/-- Reference photon time of R164: the start of frame k+2 plus half a period, from frame k. -/
def refPhoton (s : State) : Int :=
  let p : Int := period16 s
  roundDiv (2 * s.ras.p0Next + 3 * p) (2 * 65536)

/-- Two tables agree within the tolerance (R164). -/
def tablesAgree (s : State) (a b : RTab) : Bool :=
  let tp := refPhoton s
  let tol : Int := 4 * (s.fd Reg.BEAM_LOOKAHEAD 0 8 : Nat)
  let near (x y : Int) : Bool := decide (x - y ≤ tol ∧ y - x ≤ tol)
  let find (t : RTab) (i : Nat) := t.objs.find? (·.id == i)
  (b.objs.all fun o => (find a o.id).isSome) &&
  a.objs.all fun o => match find b o.id with
    | none => false
    | some q =>
      let x := canvasBox s a o tp
      let y := canvasBox s b q tp
      near x.1 y.1 && near x.2.1 y.2.1 && near x.2.2.1 y.2.2.1 && near x.2.2.2 y.2.2.2

/-- Instant of the render cutoff of the frame in progress (R150). -/
def cutoffAt (s : State) : Int := s.ras.p0At + frac16 s (s.fd Reg.BEAM_CUTOFF 0 24) 24

/-- The render cutoff of the frame (R150), once a frame: the list is fixed; the pass starts, or in lookahead mode the comparison. -/
def renderCutoff (s : State) : State :=
  if !s.ras.ran || s.beam.cutDone then s
  else
    let s := s.advanceTo (cutoffAt s)
    let fresh := s.beam.fresh
    let s := { s with beam := { s.beam with fixed := s.beam.cur, fresh := false, cutDone := true } }
    if s.beam.la && speculative s then
      match s.beam.ready.orElse (fun _ => s.beam.prep) with
      | some t => if fresh && !(tablesAgree s t (renderTab s s.beam.fixed false)) then squash true s else s
      | none => s
    else startPass false s.beam.fixed false s

/-- Render cutoff (R150). -/
def execRenderCutoff (s : State) : Host.Outcome State Fault Refusal := done (renderCutoff s)

/-- The pass completes: its table is the output for the frame after next (R151). -/
def renderDone (s : State) : State :=
  match s.beam.prep with
  | none => s
  | some t =>
    ((({ s with beam := { s.beam with prep := none, ready := some t } }.wb Reg.BEAM_STATUS 2 false).wf Reg.BEAM_STATUS 8 8
      t.objs.length).wb Reg.BEAM_STATUS 4 (decide (t.i < t.f)))

/-- End of the render pass (R151). -/
def execRenderPassDone (s : State) : Host.Outcome State Fault Refusal := done (renderDone s)

/-- Within 20 µs + 4 µs for each object a pass has completed, whether or not the end of it was told (R151). -/
def renderBound (s : State) : State :=
  match s.beam.prep with
  | some t => if decide (s.beam.prepAt + ns16 (20000 + 4000 * t.objs.length) ≤ s.ras.p0At) then renderDone s else s
  | none => s

/-- The renderer's part of a phase 0: the output is handed to composition, or the pass is abandoned (R152, R165), a mode
change applies (R350), and in lookahead mode the speculative pass starts (R163). It runs after the shadows apply, but for
the first pass of which the live set is read. -/
def beamP0 (s : State) : State :=
  let s := renderBound s
  let b := s.beam
  let late := b.prep.isSome
  let s := if late then s.count (if b.squashed then Reg.BEAM_CNT_REUSE else Reg.BEAM_CNT_RENDER_LATE) else s
  let s := when late (fun u => { u with beam := { u.beam with fadeI := u.beam.fadeI - 1 } }.wb Reg.BEAM_STATUS 2 false) s
  let exit := b.laCap == some false
  let ready := if exit && b.ready.any (·.spec) then none else b.ready
  let s := { s with beam := { s.beam with
    prep := none, ready := none, done := ready.isSome, squashed := false, cutDone := false
    shown := ready.orElse fun _ => b.shown, horizonDone := if ready.isSome then [] else b.horizonDone
    baseDone := ready.any (baseFits s), base := if ready.any (baseFits s) then ready else b.base
    la := b.laCap.getD b.la, laCap := none } }
  let s := match b.laCap with | some v => s.wb Reg.BEAM_CTRL 1 v | none => s
  let s := match ready with | some t => s.wf Reg.BEAM_STATUS 16 4 t.pat | none => s
  let s := s.wb Reg.BEAM_STATUS 3 false
  if s.beam.la then startPass false s.beam.fixed true { s with beam := { s.beam with fresh := false } } else s

/-! ### Commit (R158, R160) -/

/-- The set that reaches the live registers by BEAM.COMMIT. -/
def beamRegs : List Nat :=
  [Reg.BEAM_PARALLAX, Reg.BEAM_DEF_DIST, Reg.BEAM_GRID_AZ, Reg.BEAM_GRID_EL, Reg.BEAM_GRID_BANK, Reg.BEAM_PATTERN, Reg.BEAM_TIMEOUT_PAT] ++
    (List.range 8).map Reg.BEAM_HB_SEG ++ (List.range 6).flatMap (fun c => [Reg.BEAM_CLASS_CFG c, Reg.BEAM_CLASS_MARGIN c]) ++
    (List.range 16).flatMap fun g => (List.range 9).map (Reg.BEAM_GLYPH_H g)

/-- The grid limits of R158 on two words. -/
def gridOk (az el : Word) : Bool :=
  let sa : Int := fld az 16 11
  let se : Int := fld el 16 11
  decide (1 ≤ sa ∧ 1 ≤ se ∧ sext 16 (fld az 0 16) + 32 * sa ≤ 32767 ∧ -32768 ≤ sext 16 (fld el 0 16) - 32 * se)

/-- Why a BEAM set fails (R160), read through `v`, as a cause of COMMIT_REJECTED: 0 it passes, 1 a reserved value, 2 a pattern
that is not loaded, 4 the limits of R158, 5 a coefficient that is not finite. -/
def beamSetFault (s : State) (v : Nat → Word) : Nat :=
  if (List.range 6).any (fun c => decide (32 < fld (v (Reg.BEAM_CLASS_CFG c)) 16 6)) then 1
  else if !(gridOk (v Reg.BEAM_GRID_AZ) (v Reg.BEAM_GRID_EL)) then 4
  else if (patOf s (fld (v Reg.BEAM_PATTERN) 0 4)).isNone || (patOf s (fld (v Reg.BEAM_TIMEOUT_PAT) 0 4)).isNone then 2
  else if (List.range 16).any (fun g => (List.range 9).any fun m => !(f32Finite (v (Reg.BEAM_GLYPH_H g m)))) then 5
  else 0

/-- BEAM.COMMIT.COMMIT: the shadows wait for their capture (R160). -/
def beamCommit (s : State) : State :=
  when (s.crd Reg.BEAM_PATTERN).isSome (setRecommit 1 true) ((s.wb Reg.BEAM_STATUS 5 true).wb Reg.BEAM_STATUS 6 false)

end Sys2Proof.Machine
end

