-- ==== Sys2Proof/Machine/CalUnit.lean ====
section
/-! DEFINITION. Calibration units: their fields, sensors, marks and the judgement of a run (R403 to R408). -/
namespace Sys2Proof.Machine

/-- A banded sensor: a channel, or 48 + s for the SEG_TEMP of segment s. -/
def sens (s : State) (k : Nat) : Sensor := sget (fun _ => {}) s.hk.sens k
def modSens (k : Nat) (f : Sensor → Sensor) (s : State) : State :=
  { s with hk := { s.hk with sens := sput (fun _ => {}) s.hk.sens k (f (sens s k)) } }

/-- VALUE of a channel, signed. -/
def chValue (s : State) (n : Nat) : Int := sext 16 (s.fd (Reg.HK_CH_VALUE n) 0 16)

/-- The die sensors that are not BROKEN, but for `n`. -/
def otherDies (s : State) (n : Nat) : List Nat :=
  ((List.range 6).map (12 + ·)).filter fun k => k != n && !(sens s k).broken

/-- Temperature a governing die sensor gives: of a BROKEN one, the highest of the others (R391). -/
def dieTemp (s : State) (n : Nat) : Int :=
  if (sens s n).broken then ((otherDies s n).map (chValue s)).foldl max (-(2 ^ 15 : Int)) else chValue s n

/-- Governing sensor of a unit (Table HK-4). -/
def calSensor (u : Nat) : Nat :=
  if u < 64 then 15 else if u < 72 then 16 else if u < 84 then 13 else if u < 96 then 14 else 17

/-- Fields of a unit: register, lowest bit, length. -/
def calFields (u : Nat) : List (Nat × Nat × Nat) :=
  if u < 32 then [(Reg.SLK_LINK_RXCAL u, 0, 7)]
  else if u < 64 then [(Reg.SLK_LINK_LAUNCH (u - 32), 8, 6)]
  else if u < 72 then [(Reg.HK_CAL_DRAM (u - 64), 0, 8), (Reg.HK_CAL_DRAM (u - 64), 8, 8)]
  else if u < 96 then [(Reg.SDS_LANE_RXCAL (u - 72), 0, 6), (Reg.SDS_LANE_RXCAL (u - 72), 8, 6)]
  else [(Reg.HK_CAL_HKCMP, 0, 8)]

/-- Index of a unit within its kind (R403). -/
def calIndex (u : Nat) : Nat :=
  if u < 32 then u else if u < 64 then u - 32 else if u < 72 then u - 64 else if u < 96 then u - 72 else 0

/-- The mark USER of a unit (R381). -/
def calUser (s : State) (u : Nat) : Bool := s.bit (Reg.HK_CAL_USER (u / 32)) (u % 32)
def setCalUser (u : Nat) (v : Bool) (s : State) : State := s.wb (Reg.HK_CAL_USER (u / 32)) (u % 32) v

/-- The temperature a unit keeps (R404). -/
def keepCalTemp (u : Nat) (s : State) : State :=
  { s with hk := { s.hk with calTemp := sput (fun _ => none) s.hk.calTemp u (some (dieTemp s (calSensor u))) } }

/-- Value of a field as a number of taps; the CDR phase offset is signed. -/
def tapValue (u : Nat) (f : Nat × Nat × Nat) (v : Nat) : Int :=
  if 72 ≤ u && u < 96 && f.2.1 == 0 then sext f.2.2 v else (v % 2 ^ f.2.2 : Nat)

/-- Moves of a result from the values in force. -/
def calShifts (s : State) (u : Nat) (vals : List Nat) : List Int :=
  ((calFields u).zip vals).map fun (f, v) => tapValue u f v - tapValue u f (s.fd f.1 f.2.1 f.2.2)

/-- The eye of a run is wide enough (R406): EYE_TAPS × tap size against MIN_EYE % of the UI. -/
def eyeOk (s : State) (u eye : Nat) : Bool :=
  let pct := s.fd Reg.HK_CAL_CFG 8 7
  if u < 32 then
    match (s.link u).rate with
    | 1 => decide (pct * 2000 ≤ eye * 10 * 100)
    | 2 => decide (pct * 2000 ≤ eye * 10 * 100 * 3)
    | _ => decide (pct * 1000 ≤ eye * 10 * 100)
  else if u < 64 then true
  else if u < 72 then decide (pct * 128 ≤ eye * 100)
  else if u < 96 then decide (pct * 64 ≤ eye * 100)
  else true

/-- Which check of R406 a run fails (Table HK-10): 0 none; 6 when the field is USER (R407). -/
def calCheck (s : State) (u : Nat) (shift : Bool) (vals : List Nat) (eye : Nat) (pass : Bool) : Nat :=
  let mx : Int := s.fd Reg.HK_CAL_CFG 16 6
  if calUser s u then 6
  else if !(eyeOk s u eye) then 1
  else if shift && (calShifts s u vals).any (fun d => decide (d < -mx ∨ mx < d)) then 2
  else if !pass then (if (32 ≤ u && u < 64) || u == 96 then 4 else 3)
  else 0

/-- An accepted result is written into the fields, with its eye width. -/
def calApply (u : Nat) (vals : List Nat) (eye : Nat) (s : State) : State :=
  let s := forEach ((calFields u).zip vals) (fun (f, v) t => t.wf f.1 f.2.1 f.2.2 v) s
  if u < 32 then s.wf (Reg.SLK_LINK_RXCAL u) 8 8 eye
  else if 72 ≤ u && u < 96 then s.wf (Reg.SDS_LANE_RXCAL (u - 72)) 16 8 eye
  else s

/-- HK.CAL_LAST (Table HK-10). SHIFT is the move of the unit's first field. -/
def calLast (u check eye : Nat) (shift : Int) (s : State) : State :=
  s.wr Reg.HK_CAL_LAST (BitVec.ofNat 32 (u + (if check == 0 then 2 ^ 7 else 0) + check * 2 ^ 8 + eye % 256 * 2 ^ 16 +
    wrapInt 8 shift * 2 ^ 24))

/-- A run has ended with a result: it is judged, written when accepted, shown and counted; the unit's temperature is kept
(R404, R406, R407). -/
def calEnd (u : Nat) (shift : Bool) (vals : List Nat) (eye : Nat) (pass : Bool) (s : State) : State :=
  let c := calCheck s u shift vals eye pass
  let d := (calShifts s u vals).headD 0
  let s := if c == 0 then calApply u vals eye s else s
  let s := (calLast u c eye d (keepCalTemp u s)).count Reg.HK_CNT_CAL_RUN
  if 1 ≤ c && c ≤ 4 then
    (s.count Reg.HK_CNT_CAL_REJECT).event 0x0025 14 1 0 0 ([u] ++ det 2 (calIndex u) ++ [c])
  else s

/-- The run of a unit in progress is cut short: check 5, the unit stays queued (R407). -/
def calAbort (u : Nat) (s : State) : State :=
  if s.hk.calRun == some u then
    let s := { s with hk := { s.hk with calRun := none } }
    (calLast u 5 0 0 ((s.wb Reg.HK_STATUS 3 false).wf Reg.HK_STATUS 4 7 0)).count Reg.HK_CNT_CAL_RUN
  else s

end Sys2Proof.Machine
end

