-- ==== Sys2Proof/Machine/Link.lean ====
section
/-! DEFINITION. Paland segment links: packets, answers, training and retraining, delay measurement, LATCH, holds and
upstream sleep (R49 to R86). -/
namespace Sys2Proof.Machine

/-! ### Segments of a link -/

/-- State of segment `n` (Table PSL-15): 0 ABSENT, 1 STARTING, 2 LIVE, 3 HOLD, 4 DEFAULT, 5 MISMATCH. -/
def segState (s : State) (n : Nat) : Nat := s.fd (Reg.SLK_LINK_SEGSTATE (n / 8)) (4 * (n % 8)) 3

/-- Segments of link `n`. -/
def linkSegs (n : Nat) : List Nat := (List.range 8).map (8 * n + ·)

/-- HOLDING and HOLD_LEFT follow the segments of link `n`. -/
def holdShow (n : Nat) (s : State) : State :=
  let h := (linkSegs n).filter fun g => segState s g == 3
  (s.wb (Reg.SLK_LINK_STATE n) 18 (!h.isEmpty)).wf (Reg.SLK_LINK_HOLD_LEFT n) 0 7
    ((h.map fun g => (s.seg g).holdLeft).foldl max 0)

/-- A segment changes state. -/
def setSegState (n st : Nat) (s : State) : State :=
  holdShow (n / 8) (s.wf (Reg.SLK_LINK_SEGSTATE (n / 8)) (4 * (n % 8)) 3 st)

/-- A live segment (R59). -/
def segLive (s : State) (n : Nat) : Bool := let x := segState s n; decide (1 ≤ x ∧ x ≤ 4)

/-- Columns and rows of a geometry (Table PSL-6). -/
def geomCols (g : Nat) : Nat := match g with | 1 => 32 | 2 => 128 | 3 => 16 | 4 => 256 | 5 => 4096 | _ => 64
def geomRows (g : Nat) : Nat := 4096 / geomCols g

/-- The upstream direction of link `n` sleeps (R86). -/
def upAsleep (s : State) (n : Nat) : Bool := s.bit (Reg.SLK_LINK_STATE n) 19

/-- Segment `n` was present in the last TRAIN_RSP. -/
def segPresent (s : State) (n : Nat) : Bool := s.bit (Reg.SLK_LINK_CAPS (n / 8)) (8 + n % 8)

/-- AUTO_RETRAIN acts on link `n` (R74). -/
def autoRetrain (s : State) (n : Nat) : Bool := s.bit (Reg.SLK_LINK_CTRL n) 3 && !(upAsleep s n)

/-! ### Sending -/

/-- The header word of a packet (Table PSL-3). -/
def slkHeader (ty sub flags len : Nat) : Nat := ty % 16 + sub % 8 * 2 ^ 4 + flags % 512 * 2 ^ 7 + len % 65536 * 2 ^ 16

/-- A packet between SOP and EOP: header, payload, and the CRC over both, low byte first (R55, R56). -/
def slkFrame (ty sub flags : Nat) (payload : List Byte) : List Byte :=
  let b := leBytes 4 (slkHeader ty sub flags payload.length) ++ payload
  b ++ leBytes 2 (crcValue crc16P b)

/-- LENGTH and CRC of the bytes between SOP and EOP are right (R55, R56). -/
def slkGood (f : List Byte) : Bool :=
  decide (6 ≤ f.length ∧ f.length ≤ 8198 ∧ leAt f 2 2 + 6 = f.length) &&
    leAt f (f.length - 2) 2 == crcValue crc16P (f.take (f.length - 2))

/-- A packet on link `n`. -/
def slkPacket (n ty sub flags : Nat) (payload : List Byte) : Output := .slk n (slkFrame ty sub flags payload)

/-- An acknowledged downstream packet: its TAG goes first, and it waits for its answer (R67), which none does while the upstream direction
sleeps (R86). -/
def slkSend (n ty sub flags : Nat) (body : List Byte) (s : State) : State :=
  let tag := (s.link n).tag
  let p := tag :: body
  (s.emit (slkPacket n ty sub flags p)).modLink n fun l =>
    { l with
      tag := tag + 1
      outst := if upAsleep s n then l.outst
        else l.outst ++ [{ tag := tag, ty := ty, sub := sub, flags := flags, payload := p }] }

/-- DEFAULT_LOAD chunks that got no answer wait for blanking again. -/
def chunksBack (l : LinkSt) : List (Nat × Nat × Bool × List Byte) :=
  ((l.outst.filter (·.ty == 5)).map fun p => (p.sub, p.flags % 16, p.flags.testBit 8, p.payload.drop 1)) ++ l.defQ

/-! ### The line between phase 0 and blanking start (R70)

Instants of a line are in thirds of 2⁻¹⁶ ns, of which a character is a whole number at every rate. -/

/-- Length of a unit interval at a rate, in thirds of a ns. -/
def ui3 (rate : Nat) : Nat := match rate with | 1 => 6 | 2 => 2 | _ => 3

/-- A character of link `n`. -/
def char3 (s : State) (n : Nat) : Int := (10 * ui3 (s.link n).rate * 65536 : Nat)

/-- Now, and blanking start of the frame. -/
def now3 (s : State) : Int := 3 * s.now16
def blank3 (s : State) : Int := 3 * blankAt s

/-- HEARTBEATs due on link `n` after the last one and before an instant (R52). -/
def beatsBefore (s : State) (n : Nat) (x : Int) : Nat :=
  ((x - (s.link n).hbAt - 1) / (3 * ns16 (s.fd Reg.SLK_HB_PERIOD 0 6 * 1000 : Nat))).toNat

/-- The instant at which a packet of `k` characters that starts at `x` has been sent, with the HEARTBEATs due during it. -/
def lineEnd (s : State) (n : Nat) (x : Int) (k : Nat) : Int :=
  let stop (b : Nat) : Int := x + (k + 3 * b : Nat) * char3 s n
  let beats (y : Int) : Nat := beatsBefore s n y - beatsBefore s n x
  stop (beats (stop (beats (stop 0))))

/-- Rows of a SEG_DATA packet from row `r` (R58): payload and FLAGS, and how many. -/
def segData (s : State) (g r : Nat) : List Byte × Nat × Nat :=
  let x := s.seg g
  let cols := geomCols x.geom
  let rows := geomRows x.geom
  let k := min (rows - r) (max 1 (s.fd Reg.SLK_CFG 0 14 / (2 * cols)))
  (((x.next.drop (r * cols)).take (k * cols)).flatMap (leBytes 2), (if rows ≤ r + k then 256 else 0) + r, k)

/-- Segments of link `n` with a packet ready, from the turn of the round robin on. -/
def lineReady (s : State) (n : Nat) : List Nat :=
  ((List.range 8).map fun i => 8 * n + ((s.link n).rr + i) % 8).filter fun g =>
    let x := s.seg g
    x.due && x.composed && !x.sent && !x.stopped

/-- The next packet of segment `g`: it goes out when it ends before blanking start; otherwise no later row of the segment is sent in this
frame. -/
def linePacket (n g : Nat) (s : State) : State :=
  let x := s.seg g
  let d := segData s g x.rowsOut
  let stop := lineEnd s n (s.link n).lineAt (d.1.length + 8)
  if stop < blank3 s then
    let last := decide (geomRows x.geom ≤ x.rowsOut + d.2.2)
    ((s.emit (slkPacket n 1 (g % 8) d.2.1 d.1)).modLink n fun l => { l with lineAt := stop, rr := (g + 1) % 8 }).modSeg g fun x =>
      { x with rowsOut := x.rowsOut + d.2.2, sent := last, blanked := x.blanked && !last }
  else s.modSeg g fun x => { x with stopped := true }

/-- Packets of link `n` that start up to instant `t`; at most as many as eight segments of 64 packets give. -/
def lineRun (n : Nat) (t : Int) : Nat → State → State
  | 0, s => s
  | k + 1, s => match (lineReady s n).head? with
    | none => s
    | some g => if t < (s.link n).lineAt then s else lineRun n t k (linePacket n g s)

/-- The line moves on to now. -/
def lineNow (n : Nat) (s : State) : State := if linkState s n == 6 then lineRun n (now3 s) 520 s else s

/-- After the packet in flight the line carries `k` characters. -/
def lineTake (n k : Nat) (s : State) : State :=
  let s := lineNow n s
  s.modLink n fun l => { l with lineAt := max l.lineAt (now3 s) + k * char3 s n }

/-- BLANK_CMD (R61): MODE and COUNT to one sub-position, or to all. -/
def blankCmd (n sub mode count : Nat) (all : Bool) (s : State) : State :=
  slkSend n 4 (if all then 0 else sub) (if all then 1 else 0) (leBytes 1 mode ++ leBytes 1 count ++ [0]) s

/-- BLANK_CMD of mode 1 or 2, or the HOLD of a retraining: at once after the packet in flight (R71, R74). -/
def blankNow (n sub mode count : Nat) (all : Bool) (s : State) : State := blankCmd n sub mode count all (lineTake n 12 s)

/-- BLANK_CMD WAKE, never answered (R86). -/
def wakeCmd (n : Nat) (s : State) : State :=
  let tag := (s.link n).tag
  (s.emit (slkPacket n 4 0 1 ([tag] ++ leBytes 1 5 ++ [0, 0]))).modLink n fun l => { l with tag := tag + 1 }

/-- What a segment shows after BLANK_CMD of mode 1 or 2. -/
def blankShown (g mode : Nat) (s : State) : State :=
  s.modSeg g fun x => { x with shows := if mode == 1 then .dark else .default, blanked := true }

/-- BLANK_CMD of mode 1 or 2 to one segment, at once (R71). -/
def segBlankNow (g mode : Nat) (s : State) : State := blankShown g mode (blankNow (g / 8) (g % 8) mode 0 false s)

/-- A segment is sent DEFAULT_NOW and marked DEFAULT. -/
def segToDefault (g : Nat) (s : State) : State :=
  let s := when (linkState s (g / 8) == 6 && !(upAsleep s (g / 8))) (segBlankNow g 2) s
  setSegState g 4 s

/-! ### Timing and commands (R59, R60) -/

/-- W of the phase plan (R213). -/
def planW (s : State) : Nat :=
  let g := 2 ^ s.lf Reg.SUP_PLAN 1 3
  let m := s.lf Reg.SUP_PLAN 4 7
  if g ≤ m then 0xFFFF else m * (65536 / g)

/-- S of a segment in the plan for the frame in composition (R213). -/
def planS (s : State) (g : Nat) : Nat := (s.seg g).slot * (65536 / s.sup.planG)

/-- Payload of TIMING after its TAG. -/
def timingBody (s : State) (n fn ns frac eff : Nat) : List Byte :=
  leBytes 1 fn ++ leBytes 4 ns ++ leBytes 2 frac ++ leBytes 3 eff ++ [0] ++
    (linkSegs n).flatMap fun g => leBytes 2 (planS s g) ++ leBytes 2 (planW s)

/-- TIMING with the timing in force. -/
def sendTiming (n fn : Nat) (s : State) : State :=
  slkSend n 3 0 0 (timingBody s n fn (s.lrd Reg.RAS_PERIOD).toNat (s.lf Reg.RAS_PERIOD_FRAC 0 16)
    (s.fd Reg.RAS_BLANK_EFF 0 24)) s

/-- PWM_MODE sent to a segment (R216). -/
def pwmMode (s : State) (g : Nat) : Nat :=
  let m := s.lf Reg.SUP_PLAN 11 2
  if s.bit (Reg.SLK_LINK_CAPS (g / 8)) 19 then m else 0

/-- A SEG_CMD is acknowledged: its values are in force at the driver, TRIM_SENT shows its trim (R59, R216). -/
def segCmdDone (g : Nat) (p : List Byte) (s : State) : State :=
  (s.wf (Reg.SEG_SEG_IREF g) 8 8 (leAt p 4 1)).modSeg g fun x =>
    { x with irefNow := leAt p 2 2, trimNow := leAt p 4 1, sNow := leAt p 5 2, wNow := leAt p 7 2, stale := false }

/-- SEG_CMD of a segment with a trim (Table PSL-5). One sent while the upstream direction sleeps, which no ACK answers, counts as received
(DESIGN CHOICE, log entry 119). -/
def segCmd (g trim : Nat) (s : State) : State :=
  let b := leBytes 1 0x7F ++ leBytes 2 (s.lf Reg.SUP_IREF 0 10) ++ leBytes 1 trim ++ leBytes 2 (planS s g) ++ leBytes 2 (planW s) ++
    leBytes 1 (pwmMode s g) ++ leBytes 1 (s.fd (Reg.SEG_SEG_CFG g) 8 8) ++ leBytes 1 (s.fd (Reg.SEG_SEG_CFG g) 16 1)
  when (upAsleep s (g / 8)) (segCmdDone g (0 :: b)) (slkSend (g / 8) 2 (g % 8) 0 b s)

/-- Trim of a segment, live. -/
def liveTrim (s : State) (g : Nat) : Nat := s.lf (Reg.SEG_SEG_IREF g) 0 8

/-! ### States (R72 to R75, R81) -/

/-- A link enters a state; ACTIVE and DOWN raise an event, OFF and DOWN show ABSENT everywhere. -/
def linkEnter (n st : Nat) (s : State) : State :=
  let s := s.wf (Reg.SLK_LINK_STATE n) 0 3 st
  let s := when (st == 6 || st == 7) (fun u => u.event 0x0090 11 1 clsLink n [st, u.fd (Reg.SLK_LINK_STATE n) 4 3]) s
  if st == 0 || st == 7 then
    let s := (s.wf (Reg.SLK_LINK_STATE n) 16 4 0).wr (Reg.SLK_LINK_SEGSTATE n) 0
    let s := completeOps 0x0B08 (fun o => o.lo / 8 == n) St.internal [] s
    holdShow n (s.modLink n fun l =>
      { l with waiting := false, closing := false, holding := false, sleeping := false, outst := [], blankQ := [], defQ := [],
               age := 0, hbBad := 0 })
  else s

/-- An attempt starts in ALIGN (R49, R73). -/
def alignStart (n : Nat) (s : State) : State :=
  let r := s.fd (Reg.SLK_LINK_CTRL n) 1 2
  let s := s.modLink n fun l =>
    { l with waiting := false, rtts := [], calAgain := false, hbBad := 0, defQ := chunksBack l, outst := [], closing := false,
             holding := false, sleeping := false, cfgFail := false, rate := if r == 3 then 0 else r }
  linkEnter n 1 ((s.wb (Reg.SLK_LINK_STATE n) 16 false).wb (Reg.SLK_LINK_STATE n) 19 false)

/-- A new series of attempts (R73). -/
def linkSeries (n : Nat) (s : State) : State := alignStart n (s.modLink n fun l => { l with fails := 0, fromDown := false })

/-- An attempt fails: the wait, or DOWN after the eighth of a series and after any started from DOWN (R73). -/
def linkFail (n reason : Nat) (s : State) : State :=
  let s := s.wf (Reg.SLK_LINK_STATE n) 4 3 reason
  let s := s.wf (Reg.SLK_LINK_STATE n) 8 8 (min 255 (s.fd (Reg.SLK_LINK_STATE n) 8 8 + 1))
  let k := (s.link n).fails + 1
  if (s.link n).fromDown || decide (8 ≤ k) then linkEnter n 7 s
  else
    linkEnter n 1 ((s.wb (Reg.SLK_LINK_STATE n) 16 false).modLink n fun l =>
      { l with fails := k, waiting := true, rtts := [], outst := [], quick := false })

/-- A link reaches ACTIVE: its configured, present and matching segments are STARTING; one that is UNMAPPED is sent
DEFAULT_NOW (R75, R183). In IDLE its upstream direction is put to sleep in the next blanking (R86). -/
def linkActive (n : Nat) (s : State) : State :=
  let s := linkEnter n 6 ((s.wf (Reg.SLK_LINK_STATE n) 8 8 0).modLink n fun l =>
    { l with fails := 0, fromDown := false, age := 0, crcErr := 0, naks := 0 })
  forEach (linkSegs n) (fun g t =>
    if segState t g == 5 then t
    else if (t.seg g).en && segPresent t g then
      let t := setSegState g 1 (t.modSeg g fun x => { x with holdLeft := 0, composed := false, sent := false, rowsOut := 0 })
      if t.fd (Reg.SEG_SEG_CORR g) 16 2 == 0 then segToDefault g (t.modSeg g fun x => { x with defUnmapped := true }) else t
    else setSegState g 0 t) (when (s.pwr.state == 1) (fun u => u.modLink n fun l => { l with blankQ := l.blankQ ++ [(8, 4, 0)] }) s)

/-- CONFIG is complete when TIMING and every SEG_CMD are acknowledged (R72). -/
def configCheck (n : Nat) (s : State) : State :=
  if linkState s n == 5 && !(s.link n).cfgFail && !((s.link n).outst.any fun p => p.ty == 2 || p.ty == 3) then linkActive n s else s

/-- CONFIG: TIMING, SEG_CMD to matching segments, DARK_NOW to MISMATCH segments (R64, R72). -/
def enterConfig (n : Nat) (s : State) : State :=
  let s := sendTiming n s.ras.nextFrame.toNat (linkEnter n 5 s)
  let s := forEach (linkSegs n) (fun g t =>
    if segState t g == 5 then segBlankNow g 1 t
    else if (t.seg g).en && segPresent t g then segCmd g (liveTrim t g) t
    else t) s
  configCheck n s

/-- A retraining of an ACTIVE link begins with HOLD to all (R74). -/
def retrain (n : Nat) (s : State) : State :=
  if linkState s n == 6 && !(s.link n).holding && !(s.link n).closing then
    (blankNow n 0 3 (s.fd Reg.SLK_HOLD_LIMIT 0 7) true s).modLink n fun l => { l with holding := true }
  else s

/-- The HOLD is answered, or its 20 µs are over: the link enters ALIGN, its segments hold (R74, R84), those that are STARTING as well
(DESIGN CHOICE, log entry 121); its calibration run is cut short (R407). -/
def retrainAlign (n : Nat) (s : State) : State :=
  let lim := s.fd Reg.SLK_HOLD_LIMIT 0 7
  let s := forEach (linkSegs n) (fun g t =>
    if segState t g == 1 || segState t g == 2 then setSegState g 3 (t.modSeg g fun x => { x with holdLeft := lim })
    else if segState t g == 3 then holdShow n (t.modSeg g fun x => { x with holdLeft := lim })
    else t) s
  let s := calAbort n (calAbort (32 + n) s)
  linkSeries n (s.count (Reg.SLK_LINK_CNT_RETRAIN n))

/-- An automatic trigger of R74. -/
def autoTrigger (n : Nat) (s : State) : State := if autoRetrain s n then retrain n s else s

/-- The packet is a BLANK_CMD of a mode to all segments of its link (R61). -/
def isBlankAll (p : OutPkt) (mode : Nat) : Bool := p.ty == 4 && p.flags.testBit 0 && leAt p.payload 1 1 == mode

/-- SLK.LINKn_CTRL.EN written (R81); a HOLD of a retraining that is out gives way to the DEFAULT_NOW. -/
def linkEn (n : Nat) (v : Bool) (s : State) : State :=
  let was := s.bit (Reg.SLK_LINK_CTRL n) 0
  let s := s.wb (Reg.SLK_LINK_CTRL n) 0 v
  if v == was then s
  else if v then (if linkState s n == 0 then linkSeries n s else s)
  else if linkState s n == 6 then
    let asleep := upAsleep s n
    let s := s.modLink n fun l => { l with holding := false, outst := if l.holding then l.outst.filter (!isBlankAll · 3) else l.outst }
    let s := blankNow n 0 2 0 true s
    let s := forEach (linkSegs n) (fun g t => if segLive t g then blankShown g 2 t else t) s
    if asleep then linkEnter n 0 s else s.modLink n fun l => { l with closing := true }
  else linkEnter n 0 s

/-- The DEFAULT_NOW of a link being switched off is answered or given up: OFF; EN set again meanwhile starts training. -/
def closeLink (n : Nat) (s : State) : State :=
  let s := linkEnter n 0 s
  if s.bit (Reg.SLK_LINK_CTRL n) 0 then linkSeries n s else s

/-- RETRAIN by the state of the link (R74). -/
def linkRetrain (n : Nat) (s : State) : State :=
  if linkState s n == 6 then retrain n s else if linkState s n == 7 then linkSeries n s else s

/-! ### TE mode (R79) -/

/-- d + F of a link, ns. -/
def linkPath (s : State) (n : Nat) : Nat := s.fd (Reg.SLK_LINK_DELAY n) 0 16 + s.fd (Reg.SLK_LINK_PARTNER n) 16 16

/-- SLK.TE_MASK written: a bit is not set for a link whose d + F leaves LEAD short by less than 100 ns. -/
def teMask (w : Word) (s : State) : State :=
  let old := s.rd Reg.SLK_TE_MASK
  let lead := s.fd Reg.SLK_TE_CFG 0 16
  s.wr Reg.SLK_TE_MASK ((List.range 32).foldl (fun a n =>
    if w.getLsbD n && !(old.getLsbD n) && decide (lead < linkPath s n + 100) then setFld a n 1 0 else a) w)

/-! ### Heartbeats (R52) -/

/-- Heartbeats run: neither OFF nor DOWN. -/
def hbRuns (s : State) (n : Nat) : Bool := linkState s n != 0 && linkState s n != 7

/-- A HEARTBEAT goes out. -/
def heartbeat (n : Nat) (s : State) : State :=
  if hbRuns s n then
    let c := (s.link n).hbNext
    ((s.emit (.slkSet n 0xB5 c.toNat)).wf (Reg.SLK_LINK_HB n) 0 8 c.toNat).modLink n fun l => { l with hbNext := c + 1, hbAt := now3 s }
  else s

/-- HEARTBEAT (R52). -/
def execHeartbeat (n : Fin 32) (s : State) : Host.Outcome State Fault Refusal := done (heartbeat n.val s)

/-- An echo is missing or wrong: the fourth in a row clears ECHO_OK, counts and may retrain. -/
def echoBad (n : Nat) (s : State) : State :=
  let k := (s.link n).hbBad + 1
  let s := s.modLink n fun l => { l with hbBad := k }
  if k == 4 then
    let was := s.bit (Reg.SLK_LINK_STATE n) 17
    let s := (s.wb (Reg.SLK_LINK_STATE n) 17 false).count (Reg.SLK_LINK_CNT_HB_MISS n)
    when was (autoTrigger n) s
  else s

/-- Echoes are watched: upstream awake, upstream characters taken into account. -/
def echoWatched (s : State) (n : Nat) : Bool := hbRuns s n && !(upAsleep s n) && !(s.link n).waiting

/-- An echo arrives. -/
def heartbeatEcho (n : Nat) (c : Byte) (s : State) : State :=
  if echoWatched s n then
    let s := s.wf (Reg.SLK_LINK_HB n) 8 8 c.toNat
    if c.toNat == s.fd (Reg.SLK_LINK_HB n) 0 8 then
      (s.wb (Reg.SLK_LINK_STATE n) 17 true).modLink n fun l => { l with hbBad := 0 }
    else echoBad n s
  else s

/-- Heartbeat echo (R52). -/
def execHeartbeatEcho (n : Fin 32) (c : Byte) (s : State) : Host.Outcome State Fault Refusal := done (heartbeatEcho n.val c s)

/-- An echo is missing after 10 µs. -/
def echoMissing (n : Nat) (s : State) : State := if echoWatched s n then echoBad n s else s

/-- Missing echo (R52). -/
def execHeartbeatEchoTimeout (n : Fin 32) (s : State) : Host.Outcome State Fault Refusal := done (echoMissing n.val s)

/-! ### Training -/

/-- Character lock and 64 valid IDLE end ALIGN (R72); on an ACTIVE link the lock has come back (Table PSL-14). -/
def upLock (n : Nat) (s : State) : State :=
  if linkState s n == 1 && !(s.link n).waiting then linkEnter n 2 (s.wb (Reg.SLK_LINK_STATE n) 16 true)
  else if linkState s n == 6 && !(upAsleep s n) then s.wb (Reg.SLK_LINK_STATE n) 16 true
  else s

/-- Upstream lock (R72). -/
def execUpstreamLock (n : Fin 32) (s : State) : Host.Outcome State Fault Refusal := done (upLock n.val s)

/-- Upstream lock is lost (R73, R74). -/
def upLockLoss (n : Nat) (s : State) : State :=
  let st := linkState s n
  if upAsleep s n || !(s.bit (Reg.SLK_LINK_STATE n) 16) then s
  else
    let s := s.wb (Reg.SLK_LINK_STATE n) 16 false
    if 2 ≤ st && st ≤ 5 then linkFail n 1 s else if st == 6 then autoTrigger n s else s

/-- Loss of upstream lock (R74). -/
def execUpstreamLockLoss (n : Fin 32) (s : State) : Host.Outcome State Fault Refusal := done (upLockLoss n.val s)

/-- TRAIN_REQ every 100 µs in IDENT (R63). -/
def sendTrainReq (n : Nat) (s : State) : State :=
  if linkState s n == 2 then
    let tag := (s.link n).tag
    (s.emit (slkPacket n 6 0 0 ([tag, 0x10] ++ leBytes 1 (s.link n).rate ++ [0]))).modLink n fun l => { l with tag := tag + 1 }
  else s

/-- TRAIN_REQ (R72). -/
def execTrainReq (n : Fin 32) (s : State) : Host.Outcome State Fault Refusal := done (sendTrainReq n.val s)

/-- Segments of a link after a TRAIN_RSP: GEOM and EN come into force, absent and mismatching ones are marked (R64, R65). In light
start GEOM is taken from the answer (R430). -/
def markSegs (n : Nat) (r : TrainRsp) (s : State) : State :=
  forEach (linkSegs n) (fun g t =>
    let cfg := fld (t.rd (Reg.SEG_SEG_CFG g)) 0 3
    let en := (t.rd (Reg.SEG_SEG_CFG g)).getLsbD 3
    let decl := fld r.geom (4 * (g % 8)) 4
    let light := t.bit Reg.PMU_STATE 14
    let cfg := if light then (if 5 < decl then 0 else decl) else cfg
    let t := when light (State.wf · (Reg.SEG_SEG_CFG g) 0 3 cfg) t
    let t := t.modSeg g fun x => { x with geom := cfg, en := en }
    if !en || !(r.present.getLsbD (g % 8)) then setSegState g 0 t
    else if decl != cfg then
      (setSegState g 5 t).event 0x0091 11 2 clsSegment g [decl, cfg]
    else if segState t g == 5 then setSegState g 0 t
    else t) s

/-- TRAIN_RSP in IDENT: refused by its revision, or the start of DELAY with 16 PROBEs (R64, R72, R73, R76); after FROST a link
may go to CONFIG (R421). -/
def trainRsp (n : Nat) (r : TrainRsp) (s : State) : State :=
  if linkState s n != 2 then s
  else
    let s := s.wr (Reg.SLK_LINK_CAPS n) (0#8 ++ r.caps ++ r.present ++ r.protoRev)
    let s := (s.wr (Reg.SLK_LINK_GEOM n) r.geom).wr (Reg.SLK_LINK_DRIVER_ID n) r.driverId
    let s := s.wr (Reg.SLK_LINK_PARTNER n) (r.f ++ r.ta)
    if r.protoRev.toNat < 0x10 || 0x1F < r.protoRev.toNat then linkFail n 3 s
    else if (s.link n).quick then enterConfig n (markSegs n r (s.modLink n fun l => { l with quick := false }))
    else
      let s := linkEnter n 3 (markSegs n r (s.modLink n fun l => { l with rtts := [] }))
      forEach (List.range 16) (fun i t => t.emit (.slkSet n 0x5C i)) s

/-- TRAIN_RSP received (R64). -/
def execTrainRsp (n : Fin 32) (r : TrainRsp) (s : State) : Host.Outcome State Fault Refusal := done (trainRsp n.val r s)

/-- UI_SHIFT of a path of `p` ns (R77). -/
def uiShift (rate p : Nat) : Nat := (2 * (3 * p % (10 * ui3 rate)) + ui3 rate) / (2 * ui3 rate) % 10

/-- CALBURSTs of a run (R54). -/
def calBursts (rate : Nat) : Nat := if rate == 1 then 16 else 32

/-- The delay is measured: d and UI_SHIFT are stored unless they are USER, and CAL begins with one CALBURST run (R76, R77,
R381). -/
def delayDone (n : Nat) (s : State) : State :=
  let l := s.link n
  let sum := l.rtts.foldl (· + ·) 0
  let d := (sum - 16 * s.fd (Reg.SLK_LINK_PARTNER n) 0 16 + 16) / 32
  let s := if s.hk.userFields.contains (Reg.SLK_LINK_DELAY n) then s else s.wf (Reg.SLK_LINK_DELAY n) 0 16 d
  let s := if s.hk.userFields.contains (Reg.SLK_LINK_LAUNCH n) then s
    else s.wf (Reg.SLK_LINK_LAUNCH n) 0 4 (uiShift l.rate (linkPath s n))
  (linkEnter n 4 s).emit (.slkSet n 0x4A (calBursts l.rate))

/-- A PROBE echo with its round trip in ns: 16 that agree within 2 ns end DELAY (R76). -/
def probeEcho (n rtt : Nat) (s : State) : State :=
  if linkState s n != 3 then s
  else
    let s := s.modLink n fun l => { l with rtts := (l.rtts ++ [rtt]).reverse.take 16 |>.reverse }
    let r := (s.link n).rtts
    if r.length == 16 && decide (r.foldl max 0 ≤ r.foldl min (r.headD 0) + 2) then delayDone n s else s

/-- PROBE echo (R76). -/
def execProbeEcho (n : Fin 32) (rtt : BitVec 16) (s : State) : Host.Outcome State Fault Refusal :=
  done (probeEcho n.val rtt.toNat s)

/-- The echoed CALBURST run: the best tap, its eye, and whether the PRBS7 part of every burst was error-free at the tap
used. A failed run at a link that holds a tap is followed by one at the old tap (R54, R73). -/
def calburstEcho (n tap eye : Nat) (clean : Bool) (s : State) : State :=
  if linkState s n != 4 then s
  else
    let l := s.link n
    if l.calAgain then (if clean then enterConfig n s else linkFail n 5 s)
    else
      let c := calCheck s n l.heldTap [tap] eye clean
      let s := calEnd n l.heldTap [tap] eye clean s
      if c == 0 || (c == 6 && clean) then enterConfig n (s.modLink n fun l => { l with heldTap := true })
      else if l.heldTap then
        (s.modLink n fun l => { l with calAgain := true }).emit (.slkSet n 0x4A (calBursts l.rate))
      else linkFail n 5 s

/-- CALBURST echo (R54). -/
def execCalburstEcho (n : Fin 32) (tap : BitVec 7) (eye : Byte) (clean : Bool) (s : State) :
    Host.Outcome State Fault Refusal := done (calburstEcho n.val tap.toNat eye.toNat clean s)

/-- Reason of a training state's timeout (R73). -/
def trainReason (st : Nat) : Nat := match st with | 1 => 1 | 2 => 2 | 3 => 4 | 4 => 5 | _ => 6

/-- A training state times out (R73). -/
def trainTimeoutL (n : Nat) (s : State) : State :=
  if linkTraining s n && !(s.link n).waiting then linkFail n (trainReason (linkState s n)) s else s

/-- Timeout of a training state (R73). -/
def execTrainingStateTimeout (n : Fin 32) (s : State) : Host.Outcome State Fault Refusal := done (trainTimeoutL n.val s)

/-- The 10 ms wait ends (R73). -/
def retryWait (n : Nat) (s : State) : State :=
  if linkState s n == 1 && (s.link n).waiting then alignStart n s else s

/-- End of the wait (R73). -/
def execRetryWaitExpiry (n : Fin 32) (s : State) : Host.Outcome State Fault Refusal := done (retryWait n.val s)

/-- The attempt of each second in DOWN (R73). -/
def downAttempt (n : Nat) (s : State) : State :=
  if linkState s n == 7 then alignStart n (s.modLink n fun l => { l with fromDown := true }) else s

/-- Attempt from DOWN (R73). -/
def execDownAttempt (n : Fin 32) (s : State) : Host.Outcome State Fault Refusal := done (downAttempt n.val s)

/-! ### Answers (R67, R68) -/

/-- The packet an answer names. -/
def answered (s : State) (n : Nat) (tag : Byte) (ty sub : Nat) : Option OutPkt :=
  (s.link n).outst.find? fun p => p.tag == tag && p.ty == ty && p.sub == sub

/-- The packet no longer waits. -/
def settle (n : Nat) (p : OutPkt) (s : State) : State := s.modLink n fun l => { l with outst := l.outst.erase p }

/-- The last packet of a link that switches off or holds has had its answer, or gets none. -/
def blankEnd (n : Nat) (p : OutPkt) (s : State) : State :=
  if (s.link n).closing && isBlankAll p 2 then closeLink n s
  else if (s.link n).holding && isBlankAll p 3 then retrainAlign n s
  else s

/-- ACK received. -/
def ackIn (n : Nat) (tag : Byte) (ty sub : Nat) (s : State) : State :=
  match answered s n tag ty sub with
  | none => s
  | some p =>
    let s := settle n p s
    match ty with
    | 2 => configCheck n (segCmdDone (8 * n + sub) p.payload s)
    | 3 => configCheck n s
    | 4 =>
      if leAt p.payload 1 1 == 4 && (s.link n).sleeping then
        (s.wb (Reg.SLK_LINK_STATE n) 19 true).modLink n fun l => { l with sleeping := false, defQ := chunksBack l, outst := [] }
      else blankEnd n p s
    | 5 =>
      if p.flags.testBit 8 then
        let g := 8 * n + sub
        let s := match s.mbx.ops.find? fun o => o.ctx.code == 0x0B08 && o.lo == g with
          | some o => s.modSeg g fun x => { x with defCodes := o.d }
          | none => s
        completeOps 0x0B08 (fun o => o.lo == g) St.ok [] s
      else s
    | _ => s

/-- ACK (R67). -/
def execAck (n : Fin 32) (tag : Byte) (ty : Fin 16) (sub : Fin 8) (s : State) : Host.Outcome State Fault Refusal :=
  done (ackIn n.val tag ty.val sub.val s)

/-- A packet will get no ACK: the segment of a SEG_CMD keeps its settings (R216), and CONFIG does not end by ACKs (R72). -/
def noAck (n : Nat) (p : OutPkt) (s : State) : State :=
  let s := settle n p s
  let s := when (p.ty == 2) (fun t => t.modSeg (8 * n + p.sub) fun x => { x with stale := true }) s
  when (linkState s n == 5 && (p.ty == 2 || p.ty == 3)) (fun t => t.modLink n fun l => { l with cfgFail := true }) s

/-- An acknowledged packet has finally failed: counted, and a retraining where R74 allows it. -/
def ackFailed (n : Nat) (p : OutPkt) (s : State) : State :=
  let s := (noAck n p s).count (Reg.SLK_LINK_CNT_ACK_TO n)
  let s := when (p.ty == 5) (completeOps 0x0B08 (fun o => o.lo == 8 * n + p.sub) St.internal []) s
  if (s.link n).closing && isBlankAll p 2 then closeLink n s else autoTrigger n s

/-- No answer, or a NAK that does not end it: sent again up to 3 times (R68). The HOLD of a retraining is not (R74). -/
def resend (n : Nat) (p : OutPkt) (s : State) : State :=
  if (s.link n).holding && isBlankAll p 3 then retrainAlign n (settle n p s)
  else if p.tries < 3 then
    ((s.emit (slkPacket n p.ty p.sub p.flags p.payload)).count (Reg.SLK_LINK_CNT_RESEND n)).modLink n fun l =>
      { l with outst := l.outst.map fun q => if q == p then { p with tries := p.tries + 1 } else q }
  else ackFailed n p s

/-- A SEG_DATA packet from row `r` goes once more after the packet in flight, if it ends before blanking start (R68, R70). -/
def dataAgain (n g r : Nat) (s : State) : State :=
  let s := lineNow n s
  let d := segData s g r
  let stop := lineEnd s n (max (s.link n).lineAt (now3 s)) (d.1.length + 8)
  if stop < blank3 s then
    ((s.emit (slkPacket n 1 (g % 8) d.2.1 d.1)).count (Reg.SLK_LINK_CNT_RESEND n)).modLink n fun l =>
      { l with lineAt := stop, resent := (g % 8, r) :: l.resent }
  else s

/-- NAK received; `inTime`: that of a SEG_DATA packet came within 20 µs of its EOP. A reason other than TYPE and RANGE is answered by
sending the packet again (for CRC and BUSY the rule; for LENGTH and reserved reasons a DESIGN CHOICE, log entry 80). -/
def nakIn (n : Nat) (tag : Byte) (ty sub reason : Nat) (inTime : Bool) (s : State) : State :=
  let k := (s.link n).naks + 1
  let s := (s.count (Reg.SLK_LINK_CNT_NAK_RX n)).modLink n fun l => { l with naks := k }
  let s := when (k == s.fd Reg.SLK_NAK_LIMIT 0 8 + 1) (fun u => u.event 0x0092 11 1 clsLink n (det 2 k)) s
  if ty == 1 then
    if inTime && linkState s n == 6 && !s.ras.inBlank && !((s.link n).resent.contains (sub, tag.toNat)) &&
        decide (tag.toNat < (s.seg (8 * n + sub)).rowsOut) then dataAgain n (8 * n + sub) tag.toNat s
    else s
  else match answered s n tag ty sub with
    | none => s
    | some p =>
      if reason == 3 || reason == 4 then
        let s := (noAck n p s).event 0x0094 11 1 clsSegment (8 * n + sub) [ty, reason, sub]
        let s := when (ty == 5) (completeOps 0x0B08 (fun o => o.lo == 8 * n + sub) St.internal []) s
        blankEnd n p s
      else resend n p s

/-- NAK (R68). -/
def execNak (n : Fin 32) (tag : Byte) (ty : Fin 16) (sub : Fin 8) (reason : Byte) (inTime : Bool) (s : State) :
    Host.Outcome State Fault Refusal := done (nakIn n.val tag ty.val sub.val reason.toNat inTime s)

/-- No answer within 20 µs (R68). -/
def ackTimeoutL (n : Nat) (tag : Byte) (ty sub : Nat) (s : State) : State :=
  match answered s n tag ty sub with | none => s | some p => resend n p s

/-- Answer missing (R68). -/
def execAckTimeout (n : Fin 32) (tag : Byte) (ty : Fin 16) (sub : Fin 8) (s : State) : Host.Outcome State Fault Refusal :=
  done (ackTimeoutL n.val tag ty.val sub.val s)

/-! ### Upstream reports (R66) -/

/-- Which lit frame a report describes: 0 the frame being lit, 1 the one before; none when it is late. -/
def reportSlot (s : State) (g : Nat) (fn : Byte) : Option Nat :=
  let f := s.ras.frame
  if fn == f.setWidth 8 && (s.seg g).lit0.isSome then some 0
  else if fn == (f - 1).setWidth 8 && (s.seg g).lit1.isSome then some 1
  else none

/-- Reports of a link are taken. -/
def reportsTaken (s : State) (n : Nat) : Bool := linkState s n == 6 && !(upAsleep s n)

/-- SEG_STATUS: the classes of a lit frame. -/
def segStatus (g : Nat) (fn : Byte) (classes : List Byte) (s : State) : State :=
  if !(reportsTaken s (g / 8)) then s
  else match reportSlot s g fn with
    | none => s.count (Reg.SLK_LINK_CNT_LATE_RPT (g / 8))
    | some 0 => s.modSeg g fun x => { x with rpt0 := some classes }
    | some _ => s.modSeg g fun x => { x with rpt1 := some classes }

/-- HEADROOM: the lowest sink headroom of a lit frame, mV. -/
def headroom (g : Nat) (fn : Byte) (mv : Nat) (s : State) : State :=
  if !(reportsTaken s (g / 8)) then s
  else match reportSlot s g fn with
    | none => s.count (Reg.SLK_LINK_CNT_LATE_RPT (g / 8))
    | some 0 => s.modSeg g fun x => { x with head0 := some mv }
    | some _ => s.modSeg g fun x => { x with head1 := some mv }

/-- HEADROOM received (R66). -/
def execHeadroom (g : Fin 256) (fn : Byte) (mv : BitVec 16) (s : State) : Host.Outcome State Fault Refusal :=
  done (headroom g.val fn mv.toNat s)

/-- SEG_TEMP: one temperature per sub-position; 0x8000 is none (R66, R174). -/
def segTemp (n : Nat) (fn : Byte) (temps : List (BitVec 16)) (s : State) : State :=
  if !(reportsTaken s n) then s
  else if fn == s.ras.frame.setWidth 8 || fn == (s.ras.frame - 1).setWidth 8 then
    forEach (List.range 8) (fun i t =>
      let w := temps.getD i 0x8000#16
      t.modSeg (8 * n + i) fun x => { x with temp := if w == 0x8000#16 then none else some w.toInt, tempAge := 0 }) s
  else s.count (Reg.SLK_LINK_CNT_LATE_RPT n)

/-- SEG_TEMP received (R174). -/
def execSegTemp (n : Fin 32) (fn : Byte) (temps : List (BitVec 16)) (s : State) : Host.Outcome State Fault Refusal :=
  done (segTemp n.val fn temps s)

/-- Payload length of an upstream type; none for a reserved TYPE or one of the other direction (R57, R64, R66, R67). -/
def upLength : Nat → Option Nat
  | 8 => some 1024 | 9 => some 66 | 10 => some 2 | 11 => some 16 | 12 => some 2 | 13 => some 4 | 14 => some 32 | _ => none

/-- What is wrong with an upstream packet: 0 nothing, 1 CRC, LENGTH or EOP, 2 TYPE (R55 to R57). A LENGTH that its TYPE does not have is
a bad LENGTH (DEDUCED, log entry 118). -/
def upFault (frame : List Byte) (eop : Bool) : Nat :=
  if !eop || !(slkGood frame) then 1
  else match upLength (leAt frame 0 1 % 16) with
    | none => 2
    | some k => if frame.length == k + 6 then 0 else 1

/-- Upstream characters with `codeErrs` disparity and code errors, and a packet they end, unless `frame` is empty: a bad one is counted by
kind, and more CRC errors in a frame than RETRAIN_CRC may retrain (R57, R68, R74). A good one comes as the command of what it carries. -/
def upstreamBad (n : Nat) (frame : List Byte) (eop : Bool) (codeErrs : Nat) (s : State) : State :=
  if !(hbRuns s n) || upAsleep s n || (s.link n).waiting then s
  else
  let s := s.countBy (Reg.SLK_LINK_CNT_CODE_ERR n) codeErrs
  if frame.isEmpty || upFault frame eop == 0 then s
  else if upFault frame eop == 2 then s.count (Reg.SLK_LINK_CNT_TYPE_ERR n)
  else
    let k := (s.link n).crcErr + 1
    let s := (s.count (Reg.SLK_LINK_CNT_CRC_RX n)).modLink n fun l => { l with crcErr := k }
    if s.fd Reg.SLK_RETRAIN_CRC 0 8 < k then autoTrigger n s else s

/-- Bad upstream packet (R68). -/
def execUpstreamBadPacket (n : Fin 32) (x : BadFrame) (s : State) : Host.Outcome State Fault Refusal :=
  done (upstreamBad n.val x.frame x.eop x.codeErrs s)

/-- A segment still in HOLD after HOLD_LIMIT frames: DEFAULT_NOW, DEFAULT, counted (R84). -/
def holdExpired (g : Nat) (s : State) : State :=
  if segState s g == 3 && (s.seg g).holdLeft == 0 then
    let s := s.modSeg g fun x => { x with defReload := x.reload != 0 }
    ((segToDefault g s).count (Reg.SLK_LINK_CNT_HOLD_EXP (g / 8))).event 0x0093 11 1 clsSegment g []
  else s

/-- Hold expired (R84). -/
def execHoldExpired (g : Fin 256) (s : State) : Host.Outcome State Fault Refusal := done (holdExpired g.val s)

/-! ### LATCH (R75, R77) -/

/-- Launch instant of LATCH for latch instant `l`, in 2⁻¹⁶ ns: the character boundary of the link nearest to l − d − F. The
common grid starts at device time 0 (log entry 8). -/
def launchAt (s : State) (n : Nat) (l : Int) : Int :=
  let u : Int := ui3 (s.link n).rate * 65536
  let sym := 10 * u
  let off : Int := s.fd (Reg.SLK_LINK_LAUNCH n) 0 4 * u
  let x := 3 * (l - ns16 (linkPath s n)) + off
  ((2 * x + sym) / (2 * sym) * sym - off) / 3

/-- A segment latches `d`, the codes and sums sent for this LATCH: dark under a pending DARK_NEXT, else the codes once no BLANK_CMD stands
over them. A complete frame makes it LIVE unless it reloads (R66, R75, R84). -/
def segLatch (g : Nat) (d : Option (List Nat × List Nat × Bool)) (s : State) : State :=
  let x := s.seg g
  let counted := segState s g == 2 || segState s g == 3 || segState s g == 4
  let full := d.any (·.2.2)
  let x := { x with litN := some counted }
  let x := match d with | some (c, p, _) => { x with codes := c, lastSums := p } | none => x
  let x := if x.darkNext then { x with shows := .dark, darkNext := false, blanked := true }
    else if full && !x.blanked then { x with shows := .codes } else x
  let s := s.setSeg g x
  if full && x.reload == 0 && (segState s g == 1 || segState s g == 3 || segState s g == 4) then
    setSegState g 2 (s.modSeg g fun x => { x with holdLeft := 0 })
  else s

/-- Codes that the driver of a segment holds when its frame ends: the rows sent, and the previous codes of every other row (R70). -/
def rowsKept (x : SegSt) (l : List Nat) : List Nat :=
  let k := x.rowsOut * geomCols x.geom
  l.take k ++ ((x.codes ++ List.replicate 4096 0).take 4096).drop k

/-- What was sent for the next LATCH of a segment, if anything: a cut frame has the rows that went out. -/
def frameSent (s : State) (g : Nat) : Option (List Nat × List Nat × Bool) :=
  let x := s.seg g
  if x.sent then some (x.next, x.post, true)
  else if x.rowsOut != 0 then some (rowsKept x x.next, x.post, false) else none

/-- Every segment composed for the frame on link `n` has been sent whole, or is cut (R75). -/
def linkSent (s : State) (n : Nat) : Bool :=
  (linkSegs n).all fun g => !(s.seg g).due || (s.seg g).sent || (s.seg g).stopped

/-- LATCH on a link for frame `f` with latch instant `l`. After phase 0 (`after`, TE mode) the frame waits in `teHeld`, and lights the frame in
progress; a link whose SEG_DATA an edge before phase 0 finds incomplete launches none. -/
def latchLink (f : BitVec 32) (l : Int) (after : Bool) (n : Nat) (s : State) : State :=
  if linkState s n == 6 && decide ((if after then 2 else 1) ≤ (s.link n).age) && (after || linkSent s n) then
    let s := s.emit (.latch n (f.toNat % 256) (launchAt s n l))
    if upAsleep s n then s
    else forEach (linkSegs n) (fun g t =>
      if segLive t g || segPresent t g then
        if after then
          (segLatch g (t.seg g).teHeld t).modSeg g fun x => { x with teHeld := none, lit0 := x.litN, litN := none }
        else segLatch g (frameSent t g) t
      else t) s
  else s

/-- The link runs in TE mode. -/
def teLink (s : State) (n : Nat) : Bool := (s.rd Reg.SLK_TE_MASK).getLsbD n

/-! ### Upstream sleep (R86) -/

/-- UP_SLEEP to every segment of a link. -/
def upSleep (n : Nat) (s : State) : State :=
  if linkState s n == 6 && !(upAsleep s n) then
    (blankCmd n 0 4 0 true s).modLink n fun l => { l with sleeping := true }
  else s

/-- WAKE: the link enters ALIGN and trains again. -/
def upWake (n : Nat) (s : State) : State := if linkState s n == 6 then linkSeries n (wakeCmd n s) else s

end Sys2Proof.Machine
end

