-- ==== Sys2Proof/Machine/Snow.lean ====
section
/-! DEFINITION. The snowpack as its readers see it (R235 to R239, R241): directory, images, run words, levels, gains, and the
MRAM mirror. -/
namespace Sys2Proof.Machine

/-! ### Places -/

/-- Copy `c` of mirror part `p` in MRAM: parts 0 to 3 the slots' run words, 4 the directory, 5 the gain table. The places are
the model's (log entry 3). -/
def mirrorAt (p c : Nat) : Nat := mramBase + 0xC00000 + 0x20000 * p + 0x10000 * c

/-- The newer copy of a part (R235). -/
def newerCopy (s : State) (p : Nat) : Nat := sget (fun _ => 0) s.snow.newer p
def setNewer (p c : Nat) (s : State) : State :=
  { s with snow := { s.snow with newer := sput (fun _ => 0) s.snow.newer p c } }

/-- The 12 bytes after a copy: its sequence number, its length, and the CRC-32C over both and the copy (R235). -/
def trailerAt (p c : Nat) : Nat := mirrorAt p c + 0xFFF4
def copyLen (s : State) (p c : Nat) : Nat := min 0xFFF4 (s.le (trailerAt p c + 4) 4)
def copyCrc (s : State) (p c : Nat) : Nat := crc32c (s.bytes (trailerAt p c) 8 ++ s.bytes (mirrorAt p c) (copyLen s p c))

/-- A copy passes its CRC. -/
def copyGood (s : State) (p c : Nat) : Bool := s.le (trailerAt p c + 8) 4 == copyCrc s p c

/-- A part is being restored: readers use the mirror (R243). -/
def restoring (s : State) (p : Nat) : Bool := s.snow.restoring.contains p

/-- First byte of the directory as readers see it. -/
def dirAt (s : State) : Nat := if restoring s 4 then mirrorAt 4 (newerCopy s 4) else snowBase

/-- First byte of the gain table as readers see it. -/
def gainAt (s : State) : Nat := if restoring s 5 then mirrorAt 5 (newerCopy s 5) else snowBase + 0x100

/-- B of segment `g` (Table POL-2). -/
def gainOf (s : State) (g : Nat) : Nat := (s.byte (gainAt s + g)).toNat

/-! ### Slots (Table POL-4) -/

/-- First byte of the entry of slot `k` in a directory. -/
def entryAt (dir k : Nat) : Nat := dir + 16 + 16 * k

/-- The write of a slot runs and has not applied (R241). -/
def writeOn (s : State) (k : Nat) : Option SnowOp := s.snow.op.filter fun o => o.code == 0x0A01 && o.slot == k && !o.applied

/-- STATE of slot `k`: 0 EMPTY, 1 VALID, 2 WRITING. -/
def slotState (s : State) (k : Nat) : Nat := if (writeOn s k).isSome then 2 else (s.byte (entryAt (dirAt s) k)).toNat

/-- An image: entry fields and where its run words stand. -/
structure Image where
  grid : Bool
  bg : Nat
  words : Nat
  runs : Nat
  width : Nat
  height : Nat
  deriving DecidableEq, Repr

/-- The image of a directory entry whose run words stand at `words`. -/
def entryImage (s : State) (e words : Nat) : Image :=
  { grid := (s.byte (e + 1)).getLsbD 0, bg := (s.byte (e + 2)).toNat % 64, words := words, runs := s.le (e + 6) 2,
    width := s.le (e + 8) 2 % 8192 + 1, height := s.le (e + 10) 2 % 8192 + 1 }

/-- Image of slot `k` from the mirror, when it holds one. -/
def mirrorImage (s : State) (k : Nat) : Option Image :=
  let e := entryAt (mirrorAt 4 (newerCopy s 4)) k
  if s.byte e == 1 then some (entryImage s e (mirrorAt k (newerCopy s k))) else none

/-- The image that readers of slot `k` get: from the SRAM, or from the mirror while the slot is WRITING or is being restored
(R241, R243). -/
def slotImage (s : State) (k : Nat) : Option Image :=
  if slotState s k == 2 || restoring s k || restoring s 4 then mirrorImage s k
  else if slotState s k == 1 then
    let e := entryAt snowBase k
    some (entryImage s e (snowBase + 0x200 + 4 * s.le (e + 4) 2))
  else none

/-! ### Values (R236, R237) -/

/-- A run word: XSTART, LENGTH, LEVEL. -/
def runOf (w : Nat) : Nat × Nat × Nat := (w % 8192, w / 8192 % 8192, w / 2 ^ 26 % 64)

/-- LEVELS[l]. -/
def levelOf (s : State) (l : Nat) : Nat := s.le (dirAt s + 80 + 2 * l) 2

/-- The level that covers (x, y), from run word `a` on, with `n` words left. -/
def findRun (s : State) (a x y : Nat) : Nat → Nat → Option Nat
  | 0, _ => none
  | n + 1, row =>
    if y < row then none
    else
      let r := runOf (s.le a 4)
      if r.2.1 == 0 then findRun s (a + 4) x y n (row + r.1 + 1)
      else if row == y && decide (r.1 ≤ x ∧ x < r.1 + r.2.1) then some r.2.2
      else findRun s (a + 4) x y n row

/-- Value of an image at (x, y), clamped to its edge. -/
def imageValue (s : State) (m : Image) (x y : Nat) : Nat :=
  levelOf s ((findRun s m.words (min x (m.width - 1)) (min y (m.height - 1)) m.runs 0).getD m.bg)

/-- State of the well-formedness check: row, next free position, and that a marker has reached HEIGHT. -/
def runsOk (w h : Nat) : List Nat → Nat → Nat → Bool
  | [], _, _ => true
  | r :: rest, row, pos =>
    let f := runOf r
    if f.2.1 == 0 then
      f.2.2 == 0 && decide (row + f.1 + 1 ≤ h) && (decide (row + f.1 + 1 < h) || rest.isEmpty) && runsOk w h rest (row + f.1 + 1) 0
    else decide (row < h ∧ pos ≤ f.1 ∧ f.1 + f.2.1 ≤ w) && runsOk w h rest row (f.1 + f.2.1)

/-- A list of run words is well formed for a size (R236). -/
def wellFormedRuns (w h : Nat) (l : List Nat) : Bool := runsOk w h l 0 0

/-! ### What the registers show -/

/-- CRC of the directory (Table POL-3). -/
def dirCrc (s : State) (dir : Nat) : Nat := crc32c (s.bytes dir 12 ++ s.bytes (dir + 16) 240)

/-- The directory is changed: SEQ goes up and its CRC is renewed. -/
def dirUpdated (s : State) : State :=
  let s := s.putLe (snowBase + 4) 4 (s.le (snowBase + 4) 4 + 1)
  s.putLe (snowBase + 12) 4 (dirCrc s snowBase)

/-- A slot is VALID. -/
def slotValid (s : State) (k : Nat) : Bool := slotState s k == 1

/-- The DEFAULT slot of the directory (Table POL-3). -/
def defaultSlot (s : State) : Nat := (s.byte (dirAt s + 1)).toNat % 4

/-- A slot holds an image that a reader can show. -/
def slotHolds (s : State) (k : Nat) : Bool := (slotImage s k).isSome

/-- Run words and offset of a slot that holds space (R239). -/
def slotExtent (s : State) (k : Nat) : Nat × Nat := (s.le (entryAt snowBase k + 4) 2, s.le (entryAt snowBase k + 6) 2)

/-- The extents in use, leaving out slot `but`. -/
def usedExtents (s : State) (but : Nat) : List (Nat × Nat) :=
  sortBy (fun a b => decide (a.1 ≤ b.1)) (((List.range 4).filter fun k => k != but && slotState s k != 0).map (slotExtent s))

/-- Free extents of the run area between extents in use: first word, words. -/
def gaps : Nat → List (Nat × Nat) → List (Nat × Nat)
  | p, [] => if p < 8064 then [(p, 8064 - p)] else []
  | p, e :: r => (if p < e.1 then [(p, e.1 - p)] else []) ++ gaps (max p (e.1 + e.2)) r

/-- Free words and the largest free extent with slot `but` taken as free (4: none). -/
def freeWords (s : State) (but : Nat) : Nat := ((gaps 0 (usedExtents s but)).map (·.2)).foldl (· + ·) 0
def largestGap (s : State) (but : Nat) : Nat := ((gaps 0 (usedExtents s but)).map (·.2)).foldl max 0
/-- Lowest offset at which `r` words fit. -/
def placeRuns (s : State) (but r : Nat) : Option Nat := ((gaps 0 (usedExtents s but)).find? fun e => decide (r ≤ e.2)).map (·.1)

/-- SLOTS field of SNOW.STATUS for slot `k`: 3 while it is restored. -/
def slotShow (s : State) (k : Nat) : Nat := if restoring s k then 3 else slotState s k

/-- The slot a reaction naming `slot` shows (R244): itself, the DEFAULT slot, or another that holds an image (log entry 30). -/
def fallbackSlot (s : State) (slot : Nat) : Option Nat :=
  if slotHolds s slot then some slot
  else if slotHolds s (defaultSlot s) then some (defaultSlot s)
  else (List.range 4).find? (slotHolds s)

/-- A fallback is pending or in force: composition gives the fallback image (R246, R247). -/
def showsFallback (s : State) : Bool := s.bit Reg.POL_FB_STATUS 0 || s.bit Reg.POL_FB_STATUS 1

/-- SLOT, DARK and GRID of POL.FB_STATUS follow what the slots hold while a fallback is pending or in force (R244). -/
def fbShow (s : State) : State :=
  if !(showsFallback s) then s
  else
    let k := fallbackSlot s s.pol.named
    let grid : Bool := match k with | some k => (slotImage s k).any (·.grid) | none => false
    ((s.wf Reg.POL_FB_STATUS 2 2 (k.getD 0)).wb Reg.POL_FB_STATUS 4 k.isNone).wb Reg.POL_FB_STATUS 5 grid

/-- The SNOW registers follow the directory, and a fallback what the slots hold. -/
def snowShow (s : State) : State :=
  let s := fbShow s
  let s := s.wf Reg.SNOW_STATUS 0 13
    ((List.range 4).foldl (fun a k => a + slotShow s k * 4 ^ k) 0 + defaultSlot s * 256 +
      (if (List.range 4).any (slotValid s) then 0 else 1024) + (if s.bit Reg.SNOW_STATUS 11 then 2048 else 0) +
      (if s.snow.op.isSome then 4096 else 0))
  let s := s.wr Reg.SNOW_FREE (BitVec.ofNat 32 (freeWords s 4 + largestGap s 4 * 65536))
  let s := s.wr Reg.SNOW_SEQ (BitVec.ofNat 32 (s.le (snowBase + 4) 4))
  forEach (List.range 4) (fun k t =>
    let e := entryAt snowBase k
    ((t.wr (Reg.SNOW_SLOT_EXTENT k) (BitVec.ofNat 32 (t.le (e + 4) 2 + t.le (e + 6) 2 * 65536))).wr (Reg.SNOW_SLOT_SIZE k)
      (BitVec.ofNat 32 (t.le (e + 8) 2 + t.le (e + 10) 2 * 65536 + (t.byte (e + 1)).toNat % 2 * 2 ^ 30))).wr
      (Reg.SNOW_SLOT_CRC k) (BitVec.ofNat 32 (t.le (e + 12) 4))) s

end Sys2Proof.Machine
end

