-- ==== Sys2Proof/Machine/Inbound.lean ====
section
/-! DEFINITION. Inbound mailboxes: sluices, sampling, the order of dequeuing, checks 1 to 5 of R324, held responses and
the records of forwarded requests (R320 to R333). -/
namespace Sys2Proof.Machine

/-- A tick count of device time. -/
def tickNow (s : State) : Nat := s.tickNs / 1000

/-- Inbound write count and read count of MBn. -/
def inWr (s : State) (n : Nat) : Nat := s.fd (Reg.MBX_MB_IN_SLUICE n) 0 13
def inRd (s : State) (n : Nat) : Nat := s.fd (Reg.MBX_MB_IN_RD n) 0 13

/-- Bytes waiting in the inbound ring of MBn. -/
def inAvail (s : State) (n : Nat) : Nat := ringUsed (inWr s n) (inRd s n)

/-- Fields of the header at the read count of MBn. -/
def hdr (s : State) (n i k : Nat) : Nat := leNat (ringGet s (inRing n) (inRd s n + i) k)

/-- Rounded size that the header at the read count declares. -/
def declared (s : State) (n : Nat) : Nat := ringSize (hdr s n 6 2)

/-- The message at the read count is complete (R320). -/
def inComplete (s : State) (n : Nat) : Bool := decide (16 ≤ inAvail s n ∧ declared s n ≤ inAvail s n)

/-- Every byte up to the write count is discarded, and BAD_LENGTH answers (R320). -/
def discardInbound (n client : Nat) (s : State) : State :=
  let r := respond n client (hdr s n 0 2) (hdr s n 4 2) (hdr s n 8 4) St.badLength none []
  let w := inWr s n
  let s := r s
  { s.wf (Reg.MBX_MB_IN_RD n) 0 13 w with mbx := { s.mbx with samples := s.mbx.samples.filter (·.2.1 != n) } }

/-- A sampled write count queues the messages it covers, or discards an incomplete one (R320); in a pause both wait (R337). -/
def sampleInbound (n client : Nat) (s : State) : State :=
  let waiting := s.mbx.samples.any (·.2.1 == n)
  if inAvail s n == 0 then s
  else if !waiting && !(mbPaused s) && !(inComplete s n) then discardInbound n client s
  else { s with mbx := { s.mbx with samples := s.mbx.samples ++ [(tickNow s, n, inWr s n, client)] } }

/-- Write of MBX.MBn_IN_SLUICE (R320); the engines of MB2 to MB5 own theirs (R321). -/
def inSluice (n : Nat) (w : Word) (s : State) : State :=
  if mbClass n == 8 then s else sampleInbound n 0 (s.wf (Reg.MBX_MB_IN_SLUICE n) 0 13 (w.toNat % 8192))

/-- Inbound sluice (R320). -/
def execMbnInSluice (n : Fin 8) (w : Word) (s : State) : Host.Outcome State Fault Refusal := done (inSluice n.val w s)

/-- Held responses of MBn are placed in order as far as the ring has room (R330), unless the mailboxes pause (R337). -/
def releaseHeld (n : Nat) (s : State) : State :=
  forEach (if mbPaused s then [] else s.mbx.held.filter (·.mb == n)) (fun h t =>
    if (t.mbx.held.find? (·.mb == n)) == some h && decide (ringSize (h.payload.length + protectExtra t n) ≤ outFree t n) then
      placeMsg n h.client h.cmd h.flags h.seq h.target h.payload
        { t with mbx := { t.mbx with held := t.mbx.held.erase h } }
    else t) s

/-- Write of MBX.MBn_OUT_SLUICE frees ring space (R320). -/
def outSluice (n : Nat) (w : Word) (s : State) : State :=
  if mbClass n == 8 then s else s.wf (Reg.MBX_MB_OUT_SLUICE n) 0 13 (w.toNat % 8192)

/-- Outbound sluice (R320). -/
def execMbnOutSluice (n : Fin 8) (w : Word) (s : State) : Host.Outcome State Fault Refusal := done (outSluice n.val w s)

/-- A held response is placed once its ring has room (R330). -/
def execResponseRelease (n : Fin 8) (s : State) : Host.Outcome State Fault Refusal := done (releaseHeld n.val s)

/-- A transport engine puts a message into its inbound ring (R321). -/
def mbPut (n client : Nat) (bytes : List Byte) (s : State) : State :=
  let w := inWr s n
  let s := ringPut (inRing n) w bytes s
  sampleInbound n client (s.wf (Reg.MBX_MB_IN_SLUICE n) 0 13 (w + (bytes.length + 3) / 4 * 4))

/-- A message from a transport whose length is not 16 + LENGTH, or whose LENGTH is over the ring's limit (R321, check 1 of R324). -/
def Arrived.wrong (w : Arrived) : Bool := w.bytes.length != 16 + leAt w.bytes 6 2 || decide (4080 < leAt w.bytes 6 2)

/-- A message leaves the buffer of the fabric port that received it (R265). -/
def freeCredit (w : Arrived) (s : State) : State :=
  match w.credit with | some (p, v, n) => fabCredit p v n s | none => s

/-- Messages received enter the inbound ring of MBn in order, as far as it has room; one of a wrong length is answered BAD_LENGTH, after
the pause if the mailboxes pause (R321, R337). -/
def mbRefill (n : Nat) (s : State) : State :=
  forEach (s.mbx.wait.filter (·.mb == n)) (fun w t =>
    let u := { t with mbx := { t.mbx with wait := t.mbx.wait.erase w } }
    if w.wrong then
      if mbPaused t then t
      else respond n w.client (leAt w.bytes 0 2) (leAt w.bytes 4 2) (leAt w.bytes 8 4) St.badLength none [] (freeCredit w u)
    else if (t.mbx.wait.find? fun x => x.mb == n && !x.wrong) == some w && decide (ringSize (leAt w.bytes 6 2) ≤ inFree t n) then
      mbPut n w.client w.bytes (freeCredit w u)
    else t) s

/-- A message arrives at a transport: it waits while the inbound ring lacks room (R321). -/
def mbArrive (w : Arrived) (s : State) : State := mbRefill w.mb { s with mbx := { s.mbx with wait := s.mbx.wait ++ [w] } }

/-! ### Forwarded requests (R331) -/

/-- A response of device `fid` to a forwarded request: the client's SEQ is restored, and it goes to the client's mailbox
with that mailbox's ALIVE; one over the limit of that mailbox is replaced by BAD_LENGTH (R323). Without a record it is discarded. -/
def forwarded (fid : Nat) (bytes : List Byte) (s : State) : State :=
  match s.mbx.fwd.find? fun f => (f.dest == fid || f.dest == 0xFFF) && f.seq == leAt bytes 4 2 with
  | none => s
  | some f =>
    let part := (bytes.drop 16).take (leAt bytes 6 2)
    if mbLimit f.mb < part.length + protectExtra s f.mb then
      respond f.mb f.client (leAt bytes 0 2) f.origSeq (leAt bytes 8 4) St.badLength none [] s
    else sendMsg f.mb f.client (leAt bytes 0 2) (leAt bytes 2 1) f.origSeq (leAt bytes 8 4) part s

/-- Response from another device (R331). -/
def execForwardedResponse (fid : BitVec 12) (bytes : List Byte) (s : State) : Host.Outcome State Fault Refusal :=
  done (forwarded fid.toNat bytes s)

/-- The record of a forwarded request expires after 1 s (R331). -/
def forwardExpiry (i : Nat) (s : State) : State := { s with mbx := { s.mbx with fwd := s.mbx.fwd.eraseIdx i } }

/-- Expiry of a forward record (R331). -/
def execForwardRecordExpiry (n : Nat) (s : State) : Host.Outcome State Fault Refusal := done (forwardExpiry n s)

/-! ### Order of dequeuing (R327) -/

/-- MBn may dequeue: served, no response held (R330, Table MBX-7). -/
def mbServed (s : State) (n : Nat) : Bool := s.bit (Reg.MBX_MB_CFG n) 2 && !(isHeld s n)

/-- Whether sample `a` is dequeued before sample `b`: earlier tick, then class 8, then lower index. -/
def sampleBefore (a b : Nat × Nat × Nat × Nat) : Bool :=
  if a.1 != b.1 then decide (a.1 < b.1)
  else if mbClass a.2.1 != mbClass b.2.1 then decide (mbClass a.2.1 < mbClass b.2.1)
  else decide (a.2.1 < b.2.1)

/-- The sample whose message is dequeued next. -/
def nextSample (s : State) : Option (Nat × Nat × Nat × Nat) :=
  (s.mbx.samples.filter fun e => mbServed s e.2.1).foldl
    (fun b e => match b with | none => some e | some b => if sampleBefore e b then some e else some b) none

/-- A message leaves the ring; the samples whose write count has been reached or passed end. -/
def consume (n size : Nat) (s : State) : State :=
  let s := s.wf (Reg.MBX_MB_IN_RD n) 0 13 (inRd s n + size)
  let past (c : Nat) : Bool := ringUsed c (inRd s n) == 0 || decide (4096 < ringUsed c (inRd s n))
  mbRefill n { s with mbx := { s.mbx with samples := s.mbx.samples.filter fun e => !(e.2.1 == n && past e.2.2.1) } }

/-! ### Checks 3 to 5 of R324 -/

/-- A client of R325: on MB4 its IPv4 address and UDP port, whichever MAC heard it. -/
def aliveClient (n client : Nat) : Nat := if n == 4 then client % 2 ^ 48 else client

/-- Key of a client's alive state (R325). -/
def clientKey (n client : Nat) : Nat := n + 8 * aliveClient n client

/-- Last accepted ALIVE of a client. -/
def lastAlive (s : State) (n client : Nat) : Option Byte := sget (fun _ => none) s.mbx.alive (clientKey n client)

/-- Alive state after a message passes check 3 (R324, R326): a ninth source of MB4 replaces the one least recently
heard (R325). -/
def aliveSeen (n client : Nat) (a : Byte) (s : State) : State :=
  let gap := match lastAlive s n client with | none => false | some l => a != l + 1
  let s := when gap (State.count · (Reg.MBX_MB_CNT_ALIVE_GAP n)) s
  let s := s.wf (Reg.MBX_MB_STATUS n) 8 8 a.toNat
  let put (k : Nat) (v : Option Byte) (u : State) : State :=
    { u with mbx := { u.mbx with alive := sput (fun _ => none) u.mbx.alive k v } }
  let s := put (clientKey n client) (some a) s
  let s := { s with mbx := { s.mbx with lastClient := sput (fun _ => 0) s.mbx.lastClient n client } }
  if n == 4 then
    let l := s.mbx.mb4.filter (· != aliveClient n client) ++ [aliveClient n client]
    if 8 < l.length then
      put (clientKey 4 (l.headD 0)) none { s with mbx := { s.mbx with mb4 := l.tail } }
    else { s with mbx := { s.mbx with mb4 := l } }
  else s

/-- Privilege level of a mailbox; MB7 is fixed at PL0 (R318). -/
def mbLevel (s : State) (n : Nat) : Nat := if n == 7 then 0 else s.fd (Reg.MBX_MB_CFG n) 0 2

/-- Protection rule `r` matches a request (R333). -/
def ruleMatches (s : State) (r code : Nat) (m : Msg) : Bool :=
  let w := s.rd (Reg.MBX_RULE_MATCH r)
  let i := s.rd (Reg.MBX_RULE_INDEX r)
  fld w 31 1 == 1 && w.getLsbD m.mb.val && decide (fld w 8 8 ≤ code / 256 ∧ code / 256 ≤ fld w 16 8) &&
    (fld w 28 1 == 1 ||
      (fld w 24 4 == m.cls.toNat &&
        (if m.index == 0xFFFF then fld i 0 16 == 0 && fld i 16 16 == 0xFFFF
         else decide (fld i 0 16 ≤ m.index.toNat ∧ m.index.toNat ≤ fld i 16 16))))

/-- The request is denied by level or by the first matching rule (R332, R333). -/
def denied (s : State) (code : Nat) (m : Msg) : Bool :=
  (match svcRow code with | some r => decide (r.pl < mbLevel s m.mb.val) | none => false) ||
  (match (List.range 16).find? fun r => ruleMatches s r code m with
    | some r => s.fd (Reg.MBX_RULE_MATCH r) 30 1 == 0
    | none => false)

/-- The message at the read count of MBn, with its payload. -/
def msgAtHead (s : State) (n client : Nat) : Msg :=
  { mb := Fin.ofNat 8 n, flags := BitVec.ofNat 8 (hdr s n 2 1), alive := BitVec.ofNat 8 (hdr s n 3 1)
    seq := BitVec.ofNat 16 (hdr s n 4 2), fid := BitVec.ofNat 12 (hdr s n 8 2), cls := BitVec.ofNat 4 (hdr s n 9 1 / 16)
    index := BitVec.ofNat 16 (hdr s n 10 2), client := client
    payload := ringGet s (inRing n) (inRd s n + 16) (hdr s n 6 2) }

/-- CRC of the message at the read count of MBn is good (R322). -/
def headCrcOk (s : State) (n : Nat) (m : Msg) : Bool :=
  hdr s n 12 4 == crc32c (ringGet s (inRing n) (inRd s n) 12 ++ m.payload)

/-- Checks 3 to 5 of R324 and the CHECK_STRIP channel of the mailbox (R362); what passes goes to `run`. -/
def judge (run : Nat → Msg → State → State) (code : Nat) (m : Msg) (s : State) : State :=
  let n := m.mb.val
  let bad (st : Nat) := refuse { code := code, m := m } st
  if lastAlive s n m.client == some m.alive then bad St.badAlive s
  else
    let s := aliveSeen n m.client m.alive s
    let c := chanAt s 2 5 n
    let v := match c with | some c => stripVerdict s c m.payload | none => 0
    let m' := match c with | some c => { m with payload := stripBody s c m.payload } | none => m
    let s := match c with | some c => stripDone c m.payload s | none => s
    if v == 1 then bad St.badCrc s
    else if v != 0 then bad St.badAlive s
    else if m.flags.toNat / 16 != 0 || m.flags.getLsbD 0 || m.flags.getLsbD 1 then bad St.range s
    else if denied s code m' then bad St.denied s
    else run code m' s

/-- One message is dequeued (R327), judged (R324) and handed to `run`. Mailboxes are served from stage 3 (R429), while
they do not pause (R337, Table PWR-2). -/
def dequeue (run : Nat → Msg → State → State) (s : State) : State :=
  if s.bit Reg.MBX_STATUS 0 || decide (stage s < 3) || s.pwr.quiesced then s
  else match nextSample s with
    | none => s
    | some e =>
      let n := e.2.1
      if !(inComplete s n) then mbRefill n (discardInbound n e.2.2.2 s)
      else
        let m := msgAtHead s n e.2.2.2
        let code := hdr s n 0 2
        let long := decide (mbLimit n < m.payload.length)
        let good := headCrcOk s n m
        let s := (consume n (ringSize m.payload.length) s).count (Reg.MBX_MB_CNT_RX n)
        if long then refuse { code := code, m := m } St.badLength s
        else if !good then refuse { code := code, m := m } St.badCrc s
        else judge run code m s

end Sys2Proof.Machine
end

