-- ==== Sys2Proof/Machine/Time.lean ====
section
/-! DEFINITION. Network time (R277 to R294): the device clock, the servo, PTP messages and port states, time-triggered
outputs and capture inputs. -/
namespace Sys2Proof.Machine

/-- The clock wraps with SECONDS modulo 2⁴⁸ (R277), in 2⁻³² ns. -/
def timeWrap : Nat := 2 ^ 48 * 1000000000 * 2 ^ 32

def tt (s : State) (n : Nat) : TtSt := sget (fun _ => {}) s.ptp.tt n
def modTt (n : Nat) (f : TtSt → TtSt) (s : State) : State :=
  { s with ptp := { s.ptp with tt := sput (fun _ => {}) s.ptp.tt n (f (tt s n)) } }

/-- STATE of a TT output (Table TIME-10). -/
def ttState (s : State) (n : Nat) : Nat := s.fd (Reg.PTP_TT_CTRL n) 2 3
def setTtState (n st : Nat) (s : State) : State := s.wf (Reg.PTP_TT_CTRL n) 2 3 st

/-- Instant of the next occurrence in 2⁻¹⁶ ns: START + n × P (R289). -/
def ttNext (t : TtSt) : Nat := t.start + t.n * t.period

/-- PTP.TTn_NEXT shows the next occurrence at the nearest ns. -/
def ttShow (n : Nat) (s : State) : State := s.wr (Reg.PTP_TT_NEXT n) (BitVec.ofNat 32 ((ttNext (tt s n) + 32768) / 65536))

/-- An output waits for occurrences. -/
def ttLive (s : State) (n : Nat) : Bool := ttState s n == 1 || ttState s n == 5

/-- A forward step skips occurrences of periodic outputs and makes one-shot outputs late (R39, R290). A pulse that is out ends at its
instant of device time. -/
def ttStepped (n : Nat) (s : State) : State :=
  let t := tt s n
  let now := s.tickNs * 65536
  if !(ttLive s n) || decide (now < ttNext t) then s
  else if !t.periodic then modTt n (fun t => { t with late := some (t.late.getD (s.tickNs + 1000)) }) s
  else
    let k := (now - ttNext t) / t.period + 1
    ttShow n ((modTt n (fun t => { t with n := t.n + k }) s).wr (Reg.PTP_TT_SKIP n)
      (s.rd (Reg.PTP_TT_SKIP n) + BitVec.ofNat 32 k))

/-- SERVO state (R287): a change raises the event SERVO_STATE. -/
def setServo (st : Nat) (s : State) : State :=
  let old := s.fd Reg.PTP_STATUS 0 2
  if old == st then s
  else
    let s := (s.wf Reg.PTP_STATUS 0 2 st).event 0x00C0 13 0 clsDevice 0 [old, st]
    let s := { s with ptp := { s.ptp with run := 0 } }
    if st == 2 then s.wb Reg.PTP_STATUS 5 false else s

/-- Device time is set, in 2⁻³² ns (R278, R288): the raster slews back (R34), skipped actions are late, and the servo
locks anew. -/
def setTime (t : Nat) (s : State) : State :=
  let before := s.tickNs
  let d : Int := (((t : Int) - (s.now : Int)) / 65536)
  let s := rasterStepped d before { s with now := t % timeWrap }
  let s := forEach (List.range 4) ttStepped s
  when (s.fd Reg.PTP_STATUS 0 2 != 0) (fun u => setServo 1 { u with ptp := { u.ptp with run := 0 } }) s

/-- Device time moves by `d` in 2⁻¹⁶ ns. -/
def stepTime (d : Int) (s : State) : State :=
  setTime (((s.now : Int) + d * 65536) % (timeWrap : Int)).toNat s

/-- PTP.SET_CTRL.LOAD (R288). -/
def timeLoad (s : State) : State :=
  setTime (((s.fd Reg.PTP_SET_S_HI 0 16 * 2 ^ 32 + (s.rd Reg.PTP_SET_S_LO).toNat) * 1000000000 +
    s.fd Reg.PTP_SET_NS 0 30) * 2 ^ 32) s

/-- PTP.SET_CTRL.STEP (R288). -/
def timeStep (s : State) : State := stepTime (ns16 (sext 32 (s.rd Reg.PTP_STEP_VAL).toNat)) s

/-- SECONDS and NANOSECONDS (R277). -/
def seconds (s : State) : Nat := s.now / 2 ^ 32 / 1000000000 % 2 ^ 48
def nanos (s : State) : Nat := s.now / 2 ^ 32 % 1000000000
/-- FRACNS: the top 16 bits of the fraction. -/
def fracNs (s : State) : Nat := s.now % 2 ^ 32 / 65536

/-- A host-port read of PTP.TIME_NS latches the other fields of the same instant (R279). -/
def latchTime (s : State) : State :=
  (((((s.wr Reg.PTP_TIME_NS (BitVec.ofNat 32 (nanos s))).wr Reg.PTP_TIME_S_LO (BitVec.ofNat 32 (seconds s))).wr
    Reg.PTP_TIME_S_HI (BitVec.ofNat 32 (seconds s / 2 ^ 32))).wr Reg.PTP_TIME_FRAC (BitVec.ofNat 32 (fracNs s))).wr
    Reg.PTP_TOTAL_LO (BitVec.ofNat 32 s.nowNs)).wr Reg.PTP_TOTAL_HI (BitVec.ofNat 32 (s.nowNs / 2 ^ 32))

/-- PTP.TIME_NS read (R279). -/
def execTimeNsRead (s : State) : Host.Outcome State Fault Refusal := done (latchTime s)

/-! ### Servo (R286, R287) -/

/-- Limit of integ and adj, 500,000 ns per s, in 2⁻⁶⁴. -/
def servoMax : Int := 500000 * 2 ^ 64

/-- A value held to the limit. -/
def clampServo (x : Int) : Int := max (-servoMax) (min servoMax x)

/-- θ × 2^−k / 2^LOG_INT in 2⁻⁶⁴ ns per s, for θ in 2⁻¹⁶ ns. -/
def servoTerm (s : State) (theta : Int) (k : Nat) : Int :=
  theta * 2 ^ ((48 : Int) - k - sext 4 (s.fd Reg.PTP_SERVO_CFG 16 4)).toNat

/-- A := round(adj × 2³² / 10⁹), halves up (R286). -/
def rateOf (adj : Int) : Int := (adj * 2 + 1000000000 * 2 ^ 32) / (2 * 1000000000 * 2 ^ 32)

/-- PTP.RATE and PTP.INTEG show the servo; INTEG holds whole ns per s, the rounding of which is a free value. -/
def servoShow (s : State) : State :=
  let f := s.ptp.integ / 2 ^ 64
  let r : Int := if s.ptp.integ % 2 ^ 64 == 0 then 0 else (s.freeNow % 2 : Nat)
  ((s.useFree).wr Reg.PTP_INTEG (BitVec.ofInt 32 (f + r))).wr Reg.PTP_RATE (BitVec.ofInt 32 (rateOf s.ptp.adj))

/-- The state of the servo after an offset (R287). -/
def servoLock (theta : Int) (s : State) : State :=
  let th := ns16 (s.fd Reg.PTP_LOCK_TH 0 16)
  let s := when (s.fd Reg.PTP_STATUS 0 2 == 3 || s.fd Reg.PTP_STATUS 0 2 == 0) (setServo 1) s
  if s.fd Reg.PTP_STATUS 0 2 == 2 then when (decide (4 * th < theta.natAbs)) (setServo 1) s
  else
    let n := if (theta.natAbs : Int) ≤ th then s.ptp.run + 1 else 0
    let s := { s with ptp := { s.ptp with run := n } }
    when (decide (8 ≤ n)) (setServo 2) s

/-- One offset θ handed to the servo (R286). -/
def servoOffset (w : Word) (s : State) : State :=
  let theta : Int := ns16 (sext 32 w.toNat) + s.fd Reg.PTP_SERVO_OFFSET_FRAC 0 16
  let s := s.count Reg.PTP_CNT_OFFSET
  if !(s.bit Reg.PTP_CTRL 0) then s
  else
    let s := s.wr Reg.PTP_LAST_OFFSET w
    let th := (s.rd Reg.PTP_STEP_TH).toNat
    if s.bit Reg.PTP_CTRL 1 && decide (0 < th ∧ ns16 th < theta.natAbs) then
      stepTime (-theta) (s.count Reg.PTP_CNT_STEP)
    else
      let i := s.ptp.integ - servoTerm s theta (s.fd Reg.PTP_SERVO_CFG 8 5)
      let i' := clampServo i
      let a := i' - servoTerm s theta (s.fd Reg.PTP_SERVO_CFG 0 5)
      let a' := clampServo a
      let s := when (i != i') (State.count · Reg.PTP_CNT_CLAMP) s
      let s := when (a != a') (State.count · Reg.PTP_CNT_CLAMP) s
      servoLock theta (servoShow { s with ptp := { s.ptp with integ := i', adj := a' } })

/-- PTP.SERVO_OFFSET_NS (R286). -/
def execServoOffset (w : Word) (s : State) : Host.Outcome State Fault Refusal := done (servoOffset w s)

/-- No offset for HOLD_TIMEOUT intervals: HOLDOVER, A set to integ and held (R287). -/
def servoHoldover (s : State) : State :=
  if s.bit Reg.PTP_CTRL 0 && (s.fd Reg.PTP_STATUS 0 2 == 1 || s.fd Reg.PTP_STATUS 0 2 == 2) then
    servoShow ({ setServo 3 s with ptp := { (setServo 3 s).ptp with adj := s.ptp.integ } }.count Reg.PTP_CNT_HOLDOVER)
  else s

/-- HOLDOVER (R287). -/
def execServoHoldover (s : State) : Host.Outcome State Fault Refusal := done (servoHoldover s)

/-- PTP.CTRL.SERVO_EN changed: FREE at 0, LOCKING at 1 (R287). -/
def servoEnable (s : State) : State :=
  if s.bit Reg.PTP_CTRL 0 then when (s.fd Reg.PTP_STATUS 0 2 == 0) (setServo 1) s else setServo 0 s

/-! ### PTP ports -/

/-- Line-rate code of a PTP port (Table SDS-1). -/
def ptpRate (s : State) (q : Nat) : Nat :=
  if q < 4 then s.fd (Reg.SDS_Q_CFG (s.fd (Reg.FAB_P_CTRL q) 3 5 / 4)) 4 3
  else if s.fd (Reg.MAC_CTRL (q - 4)) 1 2 == 2 then 2 else 0

/-- Egress and ingress constants of Table TIME-3 in ps. -/
def ptpConst (rate : Nat) : Nat × Nat :=
  match rate with
  | 1 => (64000, 92000) | 2 => (52800, 75200) | 3 => (36000, 50000) | 4 => (30400, 41600) | 5 => (21600, 28800)
  | 6 => (18400, 24800) | _ => (112000, 164000)

/-- The port is in service: a fabric port ACTIVE, a MAC with link; PTP runs on it. -/
def ptpUp (s : State) (q : Nat) : Bool :=
  s.bit (Reg.PTP_PORT_CFG q) 0 && (if q < 4 then fabActive s q else s.bit (Reg.MAC_STATUS (q - 4)) 0)

/-- The port takes timestamps: not SGMII at 10 or 100 Mbit/s (R281). -/
def ptpStamps (s : State) (q : Nat) : Bool :=
  q < 4 || s.fd (Reg.MAC_CTRL (q - 4)) 1 2 != 1 || decide (2 ≤ s.fd (Reg.MAC_STATUS (q - 4)) 1 2)

/-- GPTP of a port: MACs only. -/
def ptpGptp (s : State) (q : Nat) : Bool := decide (4 ≤ q) && s.bit (Reg.PTP_PORT_CFG q) 4

/-- The port measures peer delay (Tables TIME-2 and TIME-9): fabric ports always, GPTP forces it. -/
def ptpP2p (s : State) (q : Nat) : Bool := q < 4 || s.bit (Reg.PTP_PORT_CFG q) 2 || ptpGptp s q

/-- The port is two-step: MACs only (Table TIME-9). -/
def twoStep (s : State) (q : Nat) : Bool := decide (4 ≤ q) && s.bit (Reg.PTP_PORT_CFG q) 1

/-- GM_SRC stands and is ignored (R283). -/
def gmIgnored (s : State) : Bool := s.fd Reg.PTP_CTRL 2 2 != 0 && fabState s == 4 && !(s.bit Reg.FAB_STATUS 3)

/-- The MAC that PTP.CTRL.GM_SRC names, where it counts (R283). -/
def gmMac (s : State) : Nat := if gmIgnored s || s.fd Reg.PTP_CTRL 2 2 == 3 then 0 else s.fd Reg.PTP_CTRL 2 2

/-- Port state of the MAC that GM_SRC names, by the best master clock algorithm (Table TIME-2): LISTENING until an Announce has come, SLAVE
to a grandmaster better than this device's own data set, and MASTER otherwise (PRESUMED, log entry 120). -/
def macRole (s : State) (q : Nat) : Nat :=
  match sget (fun _ => none) s.ptp.announce q with
  | none => 4
  | some k => if k < Config.ptpDataset then 2 else 1

/-- Port state (R282, R283): from the fabric tree when READY, otherwise from GM_SRC alone; DISABLED while PTP does not run on the port. -/
def ptpRole (s : State) (q : Nat) : Nat :=
  if !(ptpUp s q) then 0
  else if 4 ≤ q then (if gmMac s == q - 3 then macRole s q else 1)
  else if fabState s != 4 then 0
  else if !(s.bit Reg.FAB_STATUS 3) && s.fd Reg.FAB_STATUS 22 2 == q then 2
  else if (treeMask s).testBit q then 1 else 3

/-- The port that is SLAVE, as SLAVE_PORT shows it; 0 for none. -/
def slavePort (s : State) : Nat := ((List.range 6).find? fun q => ptpRole s q == 2).map (· + 1) |>.getD 0

/-- A time in ps as whole ns; where it falls between two, which one is a free value (R284 gives the resolution only). -/
def psToNs (s : State) (ps : Int) : Int := ps / 1000 + if ps % 1000 == 0 then 0 else (s.freeNow % 2 : Nat)

/-- Big-endian bytes of a PTP field, and the value of such a field. -/
def beBytes (n v : Nat) : List Byte := (leBytes n v).reverse
def beAt (l : List Byte) (i n : Nat) : Nat := leNat ((l.drop i).take n).reverse

/-- A message with bytes replaced from position `i`. -/
def patch (l : List Byte) (i : Nat) (b : List Byte) : List Byte := l.take i ++ b ++ l.drop (i + b.length)

/-- A PTP timestamp field: 48-bit seconds, 32-bit ns; and its value in ns. -/
def ptpStamp (ns : Int) : List Byte :=
  beBytes 6 (ns.toNat / 1000000000 % 2 ^ 48) ++ beBytes 4 (ns.toNat % 1000000000)
def stampAt (l : List Byte) (i : Nat) : Int := (beAt l i 6 * 1000000000 + beAt l (i + 6) 4 : Nat)

/-- The correctionField of a message in 2⁻¹⁶ ns. -/
def correction (msg : List Byte) : Int := sext 64 (beAt msg 8 8)

/-- Domain and majorSdoId of a port (Table TIME-2). -/
def ptpDomain (s : State) (q : Nat) : Nat := if ptpGptp s q then 0 else s.fd Reg.PTP_CTRL 8 8
def ptpSdo (s : State) (q : Nat) : Nat := if ptpGptp s q then 1 else 0

/-- A message of the domain and version served (R281). -/
def ptpGood (s : State) (q : Nat) (msg : List Byte) : Bool :=
  decide (34 ≤ msg.length) && leAt msg 1 1 % 16 == 2 && leAt msg 4 1 == ptpDomain s q && leAt msg 0 1 / 16 == ptpSdo s q

/-- Timestamps taken. -/
def rxTs (s : State) (q ty : Nat) : Int := sget (fun _ => 0) s.ptp.rxTs (16 * q + ty)
def txTs (s : State) (q ty : Nat) : Option Int := sget (fun _ => none) s.ptp.txTs (16 * q + ty)
def setRxTs (q ty : Nat) (v : Int) (s : State) : State :=
  { s with ptp := { s.ptp with rxTs := sput (fun _ => 0) s.ptp.rxTs (16 * q + ty) v } }
def setTxTs (q ty : Nat) (v : Option Int) (s : State) : State :=
  { s with ptp := { s.ptp with txTs := sput (fun _ => none) s.ptp.txTs (16 * q + ty) v } }

/-! Delay mechanisms (Table TIME-2). The formulas and the places of the fields are those of IEEE 1588-2019, which the spec names and does not
repeat (PRESUMED, log entry 120). -/

/-- PTP.PORTq_DELAY shows a delay of `d` in 2⁻¹⁶ ns. -/
def setDelay (q : Nat) (d : Int) (s : State) : State := s.wr (Reg.PTP_PORT_DELAY q) (BitVec.ofInt 32 (d / 256))

/-- An exchange of peer delay ends: the neighbour turned the request around in `turn` (2⁻¹⁶ ns), its response arrived at `t4`. -/
def peerDelay (q : Nat) (turn t4 : Int) (s : State) : State :=
  match txTs s q 2 with
  | none => s
  | some t1 =>
    let s := setDelay q ((ns16 (t4 - t1) - turn) / 2) s
    { s with ptp := { s.ptp with capable := s.ptp.capable ||| 2 ^ q } }

/-- neighborRateRatio from the send and arrival times of two responses in a row (IEEE 802.1AS). -/
def rateRatio (q : Nat) (t3 t4 : Int) (s : State) : State :=
  let u := { s with ptp := { s.ptp with nrrT := sput (fun _ => none) s.ptp.nrrT q (some (t3, t4)) } }
  match sget (fun _ => none) s.ptp.nrrT q with
  | some (a, b) => if b < t4 then u.wr (Reg.PTP_PORT_NRR q) (BitVec.ofInt 32 ((t3 - a - (t4 - b)) * 2 ^ 32 / (t4 - b))) else u
  | none => u

/-- What a message that arrives at `ns` tells of the master or the neighbour. -/
def ptpTake (q : Nat) (ns : Int) (msg : List Byte) (s : State) : State :=
  match leAt msg 0 1 % 16 with
  | 0x0 => { s with ptp := { s.ptp with syncT := sput (fun _ => none) s.ptp.syncT q (some (stampAt msg 34, ns)) } }
  | 0x8 => { s with ptp := { s.ptp with syncT := sput (fun _ => none) s.ptp.syncT q (some (stampAt msg 34, rxTs s q 0)) } }
  | 0x3 =>
    if !(ptpP2p s q) then s
    else if (leAt msg 6 1).testBit 1 then
      { s with ptp := { s.ptp with respT := sput (fun _ => none) s.ptp.respT q (some (stampAt msg 34, ns)) } }
    else peerDelay q (correction msg) ns s
  | 0xA =>
    match sget (fun _ => none) s.ptp.respT q with
    | some (t2, t4) =>
      if ptpP2p s q then
        when (ptpGptp s q) (rateRatio q (stampAt msg 34) t4) (peerDelay q (ns16 (stampAt msg 34 - t2) + correction msg) t4 s)
      else s
    | none => s
  | 0x9 =>
    match sget (fun _ => none) s.ptp.syncT q, txTs s q 1 with
    | some (t1, t2), some t3 =>
      if ptpP2p s q then s else setDelay q ((ns16 (t2 - t1 + (stampAt msg 34 - t3)) - correction msg) / 2) s
    | _, _ => s
  | 0xB => { s with ptp := { s.ptp with announce := sput (fun _ => none) s.ptp.announce q (some (beAt msg 47 14)) } }
  | _ => s

/-- A PTP message arrives at port `q`, its start delimiter at `macPs` ps of device time: event messages (types 0 to 3)
are timestamped (R284). -/
def ptpReceive (q macPs : Nat) (msg : List Byte) (s : State) : State :=
  if !(ptpUp s q) then s
  else if !(ptpGood s q msg) then s.count (Reg.PTP_PORT_CNT_BAD q)
  else
    let s := s.count (Reg.PTP_PORT_CNT_RX q)
    let ty := leAt msg 0 1 % 16
    if ty < 4 && ptpStamps s q then
      let t : Int := (macPs : Int) - (ptpConst (ptpRate s q)).2 - sext 32 (s.rd (Reg.PTP_PORT_IG_ADJ q)).toNat
      let ns := psToNs s t
      ptpTake q ns msg (setRxTs q ty ns s.useFree)
    else if ty < 4 then s
    else ptpTake q 0 msg s

/-- PTP event message received (R284). -/
def execPtpEventMessage (q : Fin 6) (macPs : Nat) (msg : List Byte) (s : State) : Host.Outcome State Fault Refusal :=
  done (ptpReceive q.val macPs msg s)

/-- UDP port a message leaves from (Table TIME-2): 319 for event messages, 320 for the others; none outside UDP. -/
def ptpUdp (s : State) (q : Nat) (msg : List Byte) : Option Nat :=
  if decide (4 ≤ q) && s.bit (Reg.PTP_PORT_CFG q) 3 && !(ptpGptp s q) then some (if leAt msg 0 1 % 16 < 4 then 319 else 320)
  else none

/-- Logarithm of the interval that a message carries (Tables TIME-2 and TIME-9), as a byte: fabric ports use −4 and 0, and delay messages
carry 0x7F. -/
def ptpInterval (s : State) (q ty : Nat) : Nat :=
  let f (lo : Nat) : Nat := wrapInt 8 (sext 4 (s.fd (Reg.PTP_PORT_CFG q) lo 4))
  match ty with
  | 0x0 => if q < 4 then 0xFC else f 8
  | 0x8 => if q < 4 then 0xFC else f 8
  | 0x9 => f 12
  | 0xB => if q < 4 then 0 else f 16
  | _ => 0x7F

/-- The header fields that the device sets: majorSdoId, version, domain, source port and interval (R281). -/
def ptpHead (s : State) (q : Nat) (msg : List Byte) : List Byte :=
  let ty := leAt msg 0 1 % 16
  let m := patch (patch msg 0 (beBytes 1 (ptpSdo s q * 16 + ty) ++ beBytes 1 2)) 4 (beBytes 1 (ptpDomain s q))
  patch m 20 (beBytes 8 Config.uid.toNat ++ beBytes 2 (q + 1) ++ (m.drop 30).take 3 ++ beBytes 1 (ptpInterval s q ty))

/-- The port sends messages of a type: those of a master as MASTER, Delay_Req as SLAVE with the end-to-end mechanism, peer delay with the
peer-to-peer mechanism, in every role (R282). -/
def ptpSends (s : State) (q ty : Nat) : Bool :=
  match ty with
  | 0x0 => ptpRole s q == 1
  | 0x8 => ptpRole s q == 1
  | 0xB => ptpRole s q == 1
  | 0x9 => ptpRole s q == 1 && !(ptpP2p s q)
  | 0x1 => ptpRole s q == 2 && !(ptpP2p s q)
  | 0x2 => ptpP2p s q
  | 0x3 => ptpP2p s q
  | 0xA => ptpP2p s q && twoStep s q
  | _ => true

/-- A message leaves a port: a TIME packet on the fabric, a frame on Ethernet, where an APPEND channel may extend its datagram
(R359). -/
def ptpEmit (q : Nat) (msg : List Byte) (s : State) : State :=
  let s := s.count (Reg.PTP_PORT_CNT_TX q)
  let s := match ptpUdp s q msg with
    | some port => appendDone (q - 1) port (s.emit (.ptp q (leAt msg 0 1 % 16) (appendForm s (q - 1) port msg)))
    | none => s.emit (.ptp q (leAt msg 0 1 % 16) msg)
  if q < 4 then fabSeqUsed 0 (fabQueue q (fabPkt s 3 0 0 0 msg) s)
  else s.count (Reg.MAC_CNT_TX_OK (q - 4))

/-- An event message of type `ty` leaves with its egress timestamp `ns` (R284, R285): one-step ports insert it, two-step ports keep it for
the message that follows. -/
def ptpEvent (q ty : Nat) (ns : Int) (msg : List Byte) (s : State) : State :=
  let s := setTxTs q ty (some ns) s.useFree
  match ty with
  | 0 => ptpEmit q (if twoStep s q then msg else patch msg 34 (ptpStamp ns)) s
  | 3 =>
    ptpEmit q (if twoStep s q then patch msg 34 (ptpStamp (rxTs s q 2))
      else patch msg 8 (beBytes 8 (wrapInt 64 (ns16 (ns - rxTs s q 2))))) s
  | _ => ptpEmit q msg s

/-- A Follow_Up carries the timestamp kept of the message it follows; there is none for a message without one (R285). -/
def ptpFollow (q ty : Nat) (msg : List Byte) (s : State) : State :=
  match txTs s q ty with
  | none => s
  | some v => ptpEmit q (patch msg 34 (ptpStamp v)) s

/-- A PTP message is sent, its start delimiter leaving at `macPs`; `stamped` is false when the egress timestamp could not
be taken (R284, R285). -/
def ptpSend (q macPs : Nat) (stamped : Bool) (msg : List Byte) (s : State) : State :=
  let ty := leAt msg 0 1 % 16
  let t : Int := (macPs : Int) + (ptpConst (ptpRate s q)).1 + sext 32 (s.rd (Reg.PTP_PORT_EG_ADJ q)).toNat
  let ns := psToNs s t
  let m := ptpHead s q msg
  if !(ptpUp s q) || !(ptpSends s q ty) then s
  else if ty < 4 && !(stamped && ptpStamps s q) then
    ptpEmit q m (setTxTs q ty none (s.count (Reg.PTP_PORT_CNT_TS_MISS q)))
  else
    match ty with
    | 0x8 => ptpFollow q 0 m s
    | 0xA => ptpFollow q 3 m s
    | 0x9 => ptpEmit q (patch m 34 (ptpStamp (rxTs s q 1))) s
    | ty => if ty < 4 then ptpEvent q ty ns m s else ptpEmit q m s

/-- PTP message sent (R285). -/
def execPtpMessageSend (q : Fin 6) (macPs : Nat) (stamped : Bool) (msg : List Byte) (s : State) :
    Host.Outcome State Fault Refusal := done (ptpSend q.val macPs stamped msg s)

/-! ### Time-triggered outputs (R289, R290) -/

/-- Level of the ball TTn: active during a pulse, POL selecting the active level. -/
def ttLevel (s : State) (n : Nat) : Bool := (tt s n).fall.isSome != s.bit (Reg.PTP_TT_CFG n) 1

/-- An instant in 2⁻¹⁶ ns at the nearest ns of device time (R289). -/
def nearNs (t : Int) : Int := ns16 ((t + 32768) / 65536)

/-- ARM with the current settings (R290, R41). A START equal to the arming instant has passed for a periodic output, whose first occurrence
lies after the arming tick; for a one-shot output it is in time (DESIGN CHOICE, log entry 117). -/
def ttArm (n : Nat) (s : State) : State :=
  let periodic := s.bit (Reg.PTP_TT_CFG n) 0
  let p := (s.rd (Reg.PTP_TT_PERIOD n)).toNat * 65536 + s.fd (Reg.PTP_TT_PERIOD_FRAC n) 0 16
  let w := (s.rd (Reg.PTP_TT_WIDTH n)).toNat
  let start := ((s.rd (Reg.PTP_TT_START_HI n)).toNat * 2 ^ 32 + (s.rd (Reg.PTP_TT_START_LO n)).toNat) * 65536
  let now := s.tickNs * 65536
  if w < 20 || (periodic && (decide (p < 40 * 65536) || decide (p < (w + 20) * 65536))) then setTtState n 4 s
  else
    let k := if periodic && decide (start ≤ now) then (now - start) / p + 1 else 0
    let s := modTt n (fun t => { start := start, period := if periodic then p else 0, width := w, periodic := periodic,
                                 pol := s.bit (Reg.PTP_TT_CFG n) 1, n := k, fall := t.fall,
                                 late := if !periodic && decide (start < now) then some (s.tickNs + 1000) else none }) s
    ttShow n ((setTtState n 1 s).wr (Reg.PTP_TT_SKIP n) (BitVec.ofNat 32 k))

/-- CANCEL ends the output at the end of any pulse in progress (R290). -/
def ttCancel (n : Nat) (s : State) : State := if ttLive s n then setTtState n 0 s else s

/-- The ball TTn goes to its active level at `rise`, or to its idle level. -/
def ttEdge (n : Nat) (active : Bool) (at16 : Int) (s : State) : State :=
  s.emit (.edge (1 + n) (active != s.bit (Reg.PTP_TT_CFG n) 1) at16)

/-- An occurrence: the ball goes to its active level at the nearest ns of the instant, a late one-shot output at its tick, where it counts
as a late action (R40, R289, R290); WIDTH later the pulse ends. Nothing occurs while the device sleeps (R425). -/
def ttOccur (n : Nat) (s : State) : State :=
  if !(ttLive s n) || decide (2 ≤ s.pwr.state) then s
  else
    let t := tt s n
    let rise : Int := match t.late with | some k => ns16 k | none => nearNs (ttNext t)
    let s := ttEdge n true rise (s.advanceTo rise)
    let s := setTtState n (if t.periodic then 5 else if t.late.isSome then 3 else 2) s
    let s := when (t.late.isSome) (State.count · Reg.RAS_CNT_TACT_LATE) s
    let s := modTt n (fun t => { t with fall := some (nearNs (rise + t.width * 65536)), late := none
                                        n := if t.periodic then t.n + 1 else t.n }) s
    if t.periodic then ttShow n s else s

/-- Occurrence of a TT output (R289). -/
def execTtOccurrence (n : Fin 4) (s : State) : Host.Outcome State Fault Refusal := done (ttOccur n.val s)

/-- WIDTH after an occurrence the ball returns to idle (R289). -/
def ttPulseEnd (n : Nat) (s : State) : State :=
  match (tt s n).fall with
  | none => s
  | some t => modTt n (fun t => { t with fall := none }) (ttEdge n false t (s.advanceTo t))

/-- End of a TT pulse (R289). -/
def execTtPulseEnd (n : Fin 4) (s : State) : Host.Outcome State Fault Refusal := done (ttPulseEnd n.val s)

/-! ### Capture inputs (R291) -/

def tcFifo (s : State) (n : Nat) : List (Nat × Bool) := sget (fun _ => []) s.ptp.tc n
def setTc (n : Nat) (l : List (Nat × Bool)) (s : State) : State :=
  { s with ptp := { s.ptp with tc := sput (fun _ => []) s.ptp.tc n l } }

/-- The ball of TCn takes a level, which the GPIO block reads (R291). -/
def tcLevel (n : Nat) (v : Bool) (s : State) : State :=
  let m := s.pins.tcIn
  { s with pins := { s.pins with tcIn := m - (if m.testBit n then 2 ^ n else 0) + (if v then 2 ^ n else 0) } }

/-- An edge on TCn at TOTAL `at'` (R291). -/
def tcEdge (n : Nat) (falling : Bool) (at' : Nat) (s : State) : State :=
  let s := tcLevel n (!falling) s
  let e := s.fd (Reg.PTP_TC_CFG n) 1 2
  if !(s.bit (Reg.PTP_TC_CFG n) 0) || !(e.testBit (if falling then 1 else 0)) then s
  else if 16 ≤ (tcFifo s n).length then s.count (Reg.PTP_TC_CNT_OVF n)
  else setTc n (tcFifo s n ++ [(at' % 2 ^ 64, falling)]) s

/-- Capture edge (R291). -/
def execCaptureEdge (n : Fin 4) (falling : Bool) (total : Nat) (s : State) : Host.Outcome State Fault Refusal :=
  done (tcEdge n.val falling total s)

/-- The oldest entry is removed (R291). -/
def tcPop (n : Nat) (s : State) : State := setTc n (tcFifo s n).tail s

end Sys2Proof.Machine
end

