-- ==== Sys2Proof/Machine/Fabric.lean ====
section
/-! DEFINITION. The Forius fabric's control side (R251 to R268, R275): discovery, election, assignment, routes, flow
control, and CONTROL and TIME packets. Pixel strips stand in Strip.lean. -/
namespace Sys2Proof.Machine

/-- The device's own UID. -/
def ownUid (s : State) : Nat := (s.rd Reg.FAB_UID_HI).toNat * 2 ^ 32 + (s.rd Reg.FAB_UID_LO).toNat

/-- FAB.STATUS.IS_ROOT. -/
def isRoot (s : State) : Bool := s.bit Reg.FAB_STATUS 3

/-- FAB.STATUS.STATE changes: the event FAB_STATE with state and FID. -/
def setFabState (st : Nat) (s : State) : State :=
  if fabState s == st then s
  else (s.wf Reg.FAB_STATUS 0 3 st).event 0x00B0 12 0 clsDevice 0 ([st, 0] ++ det 2 s.ownFid)

/-- The device's fabric ID changes. -/
def setFid (f : Nat) (s : State) : State := s.wf Reg.FAB_STATUS 4 12 f

/-- PREF_ID a device asks for: its register when PREF_EN is 1, else the FID it kept (R258). -/
def prefId (s : State) : Nat := if s.bit Reg.FAB_CTRL 14 then s.fd Reg.FAB_CTRL 2 12 else s.fab.pref

/-- UID of the neighbour at port `p`. -/
def neighUid (s : State) (p : Nat) : Nat :=
  (s.rd (Reg.FAB_P_NEIGH_HI p)).toNat * 2 ^ 32 + (s.rd (Reg.FAB_P_NEIGH_LO p)).toNat

/-! ### Claims (R256) -/

/-- Claims a device may hold: its own when eligible, and each neighbour's with DIST + 1 (R256). -/
def claimCands (s : State) : List (Nat × Nat × Nat) :=
  (if s.bit Reg.FAB_CTRL 1 then [(ownUid s, 0, 1)] else []) ++
  (List.range 4).filterMap fun p =>
    match (fabPort s p).adv with
    | some (u, d) => if fabActive s p && decide (d + 1 ≤ 63) then some (u, d + 1, 2 + p) else none
    | none => none

/-- Lexicographic order of claims: lowest ROOT_UID, then DIST, then port. -/
def claimLess (a b : Nat × Nat × Nat) : Bool :=
  if a.1 != b.1 then decide (a.1 < b.1) else if a.2.1 != b.2.1 then decide (a.2.1 < b.2.1) else decide (a.2.2 < b.2.2)

/-- The best claim; code 0 when there is none. -/
def bestClaim (s : State) : Nat × Nat × Nat :=
  (claimCands s).foldl (fun b c => if b.2.2 == 0 || claimLess c b then c else b) (0, 0, 0)

/-- The claim follows what neighbours advertise: a changed claim, or one lost, puts a device that it concerns back into the
election (R256, R275). -/
def updateClaim (s : State) : State :=
  if !(s.bit Reg.FAB_CTRL 0) then s
  else
    let c := bestClaim s
    let old := s.fab.claim
    let was := (s.rd Reg.FAB_ROOT_UID_HI).toNat * 2 ^ 32 + (s.rd Reg.FAB_ROOT_UID_LO).toNat
    let s := ((({ s with fab := { s.fab with claim := c.2.2 } }.wr Reg.FAB_ROOT_UID_LO (BitVec.ofNat 32 c.1)).wr
      Reg.FAB_ROOT_UID_HI (BitVec.ofNat 32 (c.1 / 2 ^ 32))).wf Reg.FAB_STATUS 16 6 c.2.1)
    if old == c.2.2 && was == c.1 then s
    else if isRoot s && c.2.2 != 1 then setFabState 1 (s.wb Reg.FAB_STATUS 3 false)
    else if !(isRoot s) && (c.2.2 == 0 || c.2.2 == 1 || fabState s == 5) then setFabState 1 s
    else s

/-- The tree ports and the parent's port (R259): FAB.STATUS, and TREE and PARENT of each port. -/
def setTree (mask : Nat) (parent : Option Nat) (s : State) : State :=
  let s := (s.wf Reg.FAB_STATUS 24 4 mask).wf Reg.FAB_STATUS 22 2 (parent.getD 0)
  forEach (List.range 4) (fun p u => (u.wb (Reg.FAB_P_STATUS p) 1 (mask.testBit p)).wb (Reg.FAB_P_STATUS p) 2 (parent == some p)) s

/-- The parent's port; the root and a device outside a tree have none. -/
def parentPort (s : State) : Option Nat := (List.range 4).find? fun p => s.bit (Reg.FAB_P_STATUS p) 2

/-- Port `p` becomes a tree port. -/
def addTree (p : Nat) (s : State) : State := setTree (Nat.lor (treeMask s) (2 ^ p)) (parentPort s) s

/-- What a device held of a fabric is dropped: FID, kept as PREF_ID for later discoveries (R258), root, tree, assignment and staged
image. A root keeps which FIDs it gave. -/
def fabLeave (s : State) : State :=
  let pref := if s.ownFid == 0 then s.fab.pref else s.ownFid
  let s := setTree 0 none ((setFid 0 s).wb Reg.FAB_STATUS 3 false)
  { s with fab := { s.fab with
    pref := pref, topo := [], leftOut := [], asg := none, staged := none, commitAt := none, claim := 0, rootPath := [] } }

/-- Discovery starts or restarts (R264). -/
def fabDiscover (s : State) : State :=
  let s := forEach (List.range 4) (fun p => modFabPort p fun f => { f with adv := none }) s
  updateClaim (setFabState 1 ((fabLeave s).count Reg.FAB_CNT_DISCOVERY))

/-- During an election or an assignment a device of the fabric has reset, or left it: this device sees its claim go (log entry 131), and
discovery restarts (R264). -/
def fabLost (s : State) : State :=
  if s.bit Reg.FAB_CTRL 0 && (fabState s == 1 || fabState s == 2) then fabDiscover s else updateClaim s

/-- FAB.CTRL.EN written (R264). -/
def fabEnable (v : Bool) (s : State) : State :=
  let was := s.bit Reg.FAB_CTRL 0
  let s := s.wb Reg.FAB_CTRL 0 v
  if v && !was then fabDiscover s
  else if !v && was then
    let s := setFabState 0 (fabLeave s)
    ((s.wr Reg.FAB_ROOT_UID_LO 0).wr Reg.FAB_ROOT_UID_HI 0).wf Reg.FAB_STATUS 16 6 0
  else s

/-! ### DISCOVERY packets (Table FAB-3) -/

/-- Prefix of a DISCOVERY packet: SUB, DEPTH, PATH. -/
def discPrefix (sub : Nat) (path : List Nat) : List Byte :=
  let w := (path.zipIdx).foldl (fun a e => a + e.1 % 4 * 4 ^ e.2) 0
  leBytes 1 sub ++ leBytes 1 path.length ++ leBytes 2 0 ++ leBytes 16 w

/-- Hop `i` of a received PATH. -/
def pathHop (d : DiscPath) (i : Nat) : Nat := d.path.toNat / 4 ^ i % 4

/-- A received PATH as a list. -/
def pathList (d : DiscPath) : List Nat := (List.range d.depth.toNat).map (pathHop d)

/-- A source-routed packet leaves its origin on hop 0 of its path, with HOPS 1 (R262, log entry 23). -/
def srcSend (path : List Nat) (k : FabPkt) (s : State) : State :=
  match path with
  | [] => s
  | p :: _ => fabSeqUsed k.vc (fabOut none p { k with flags := 4, hops := 1 } s)

/-- A source-routed packet is forwarded on the port of its hop (R262). -/
def srcForward (arr : Nat) (d : DiscPath) (k : FabPkt) (s : State) : State := fabOut (some arr) (pathHop d k.hops) k s

/-- The packet of a received header. -/
def rxPkt (p ty : Nat) (h : FabHdr) (payload : List Byte) : FabPkt :=
  { ty := ty, vc := h.vc.toNat, dest := h.dest.toNat, src := h.src.toNat, hops := h.hops.toNat, flags := h.flags.toNat
    seq := h.seq.toNat, frame := h.frame.toNat, xinfo := h.xinfo.toNat, payload := payload, inPort := some p }

/-- A packet is received: counted; a VC its TYPE does not allow or a LENGTH above 4,096 discards it (R255). `next` takes
the rest. -/
def fabReceive (p : Nat) (k : FabPkt) (vcs : List Nat) (next : State → State) (s : State) : State :=
  if !(fabActive s p) then s
  else if !(vcs.contains k.vc) || decide (4096 < k.payload.length) then fabFree k (s.count (Reg.FAB_P_CNT_CRC p))
  else next (s.count (Reg.FAB_P_VC_CNT_RX p k.vc))

/-- The bytes of a bad packet are discarded and counted (R255), and free the credits that its sender consumed: none for FLOW (R265; log
entry 130). A good packet is none of this row. -/
def badPacket (p : Nat) (frame : List Byte) (eop : Bool) (s : State) : State :=
  if !(fabActive s p) || !(fabBad frame eop) then s
  else
    let s := s.count (Reg.FAB_P_CNT_CRC p)
    if leAt frame 3 1 % 16 == 5 then s else fabCredit p (leAt frame 3 1 / 16 % 4) (fabCost (frame.length - 20)) s

/-- Bad fabric packet (R255). -/
def execFabricBadPacket (p : Fin 4) (frame : List Byte) (eop : Bool) (s : State) : Host.Outcome State Fault Refusal :=
  done (badPacket p.val frame eop s)

/-- A broadcast that arrives outside the tree is discarded and counted (R259). -/
def offTree (s : State) (p : Nat) : Bool := !((treeMask s).testBit p)

/-- Gap in SEQ of an origin on VC1 or VC2, among the packets it addressed to this device (R268; log entry 130). -/
def seqCheck (k : FabPkt) (s : State) : State :=
  if k.src == 0 then s
  else
    let key := 4 * k.src + k.vc
    let gap := match sget (fun _ => none) s.fab.seqRx key with | none => false | some q => k.seq != (q + 1) % 65536
    let s := when gap (State.count · Reg.FAB_CNT_SEQ_GAP) s
    { s with fab := { s.fab with seqRx := sput (fun _ => none) s.fab.seqRx key (some k.seq) } }

/-- A received packet goes on its way (R259, R262, R263): by its path when SRCRT is 1, on its group's ports when MCAST is 1, by the tree
for a broadcast, else by its route. `deliver` takes what is for this device. -/
def fabRoute (p : Nat) (k : FabPkt) (path : Option DiscPath) (deliver : State → State) (s : State) : State :=
  match (if k.flags.testBit 2 then path else none) with
  | some d => if k.hops == d.depth.toNat then deliver (seqCheck k s) else srcForward p d k s
  | none =>
    if k.flags.testBit 0 then fabForward (some p) k s
    else if k.dest == 0xFFF then
      if offTree s p then fabDropAt p k s else deliver (seqCheck k (fabForward (some p) k s))
    else if k.dest == s.ownFid then deliver (seqCheck k s)
    else fabForward (some p) k s

/-- Payload of a HELLO (Table FAB-3). -/
def helloBody (uid root dist flags fid port : Nat) : List Byte :=
  discPrefix 1 [] ++ leBytes 8 uid ++ leBytes 8 root ++ leBytes 1 dist ++ leBytes 1 flags ++ leBytes 2 fid ++ leBytes 1 port

/-- A HELLO on port `p` (Table FAB-3): DIST 0xFF on the port of the claim and without one (R256). -/
def helloSend (p : Nat) (s : State) : State :=
  let dist := if s.fab.claim == 0 || s.fab.claim == 2 + p then 0xFF else s.fd Reg.FAB_STATUS 16 6
  let root := (s.rd Reg.FAB_ROOT_UID_HI).toNat * 2 ^ 32 + (s.rd Reg.FAB_ROOT_UID_LO).toNat
  let assigned := s.ownFid != 0
  let body := helloBody (ownUid s) root dist ((if s.bit Reg.FAB_CTRL 1 then 1 else 0) + if assigned then 2 else 0)
    (if assigned then s.ownFid else prefId s) p
  fabSeqUsed 1 (fabQueue p (fabPkt s 4 1 0 0 body) s)

/-- HELLO on every ACTIVE port (R256). -/
def execHelloSend (s : State) : Host.Outcome State Fault Refusal :=
  done (if s.bit Reg.FAB_CTRL 0 then forEach ((List.range 4).filter (fabActive s)) helloSend s else s)

/-! ### Assignment at the root (R258) -/

/-- The device's own record as root: its neighbours from its port registers. -/
def ownTopo (s : State) : TopoDev :=
  { uid := ownUid s, fid := s.ownFid, path := [], parent := 0
    neigh := (List.range 4).map fun p => if fabActive s p then (neighUid s p, s.fd (Reg.FAB_P_STATUS p) 16 2) else (0, 0) }

/-- Devices still to assign: path length and FID of the parent, parent's port, UID, and the port toward the parent. -/
def asgCands (s : State) : List (Nat × Nat × Nat × Nat × Nat × List Nat) :=
  s.fab.topo.flatMap fun d => (d.neigh.zipIdx).filterMap fun e =>
    if e.1.1 == 0 || s.fab.topo.any (·.uid == e.1.1) || s.fab.leftOut.contains e.1.1 then none
    else some (d.path.length, d.fid, e.2, e.1.1, e.1.2, d.path ++ [e.2])

/-- The next in the order of R258: distance, FID of the parent, port of the parent. -/
def asgNext (s : State) : Option (Nat × Nat × Nat × Nat × Nat × List Nat) :=
  (asgCands s).foldl (fun b c => match b with
    | none => some c
    | some b =>
      if c.1 < b.1 || (c.1 == b.1 && (decide (c.2.1 < b.2.1) || (c.2.1 == b.2.1 && decide (c.2.2.1 < b.2.2.1)))) then some c
      else some b) none

/-- FID for a device: the ID it asks for when no other holds it or, with a lower UID, asks for it; else the lowest free
(R258). The root hears of PREF_IDs by its neighbours' HELLO, and knows the FIDs it gave before; an ID asked for is not free (log entry
132). -/
def pickFid (s : State) (uid : Nat) : Nat :=
  let heard := (List.range 4).filterMap fun p =>
    if fabActive s p && (fabPort s p).advId != 0 then some (neighUid s p, (fabPort s p).advId) else none
  let asks := heard ++ s.fab.known.filter fun e => !(heard.any (·.1 == e.1))
  let held (f : Nat) : Bool := s.fab.topo.any (·.fid == f)
  let free := ((List.range 4095).find? fun g => decide (1 ≤ g) && !(held g) && !(asks.any (·.2 == g))).getD 0
  match asks.find? (·.1 == uid) with
  | some (_, f) => if !(held f) && !(asks.any fun a => a.2 == f && decide (a.1 < uid)) then f else free
  | none => free

/-- An ASSIGN goes out along the tree path, which makes its first port a tree port. -/
def asgSend (a : Asg) (s : State) : State :=
  let s := addTree (a.path.headD 0) s
  srcSend a.path (fabPkt s 4 1 a.fid 4 (discPrefix 2 a.path ++ leBytes 8 a.uid ++ leBytes 2 a.fid ++ leBytes 1 a.parent)) s

/-! ### Routes at the root (R261) -/

/-- Neighbour UIDs of a device with the ports that lead to them. -/
def topoOf (l : List TopoDev) (uid : Nat) : Option TopoDev := l.find? (·.uid == uid)

/-- Breadth-first distances to a device: UID and hops. -/
def topoDist (l : List TopoDev) : Nat → Nat → List Nat → List (Nat × Nat) → List (Nat × Nat)
  | 0, _, _, seen => seen
  | n + 1, d, frontier, seen =>
    let next := (frontier.flatMap fun u => match topoOf l u with
      | some t => t.neigh.filterMap fun e => if e.1 == 0 || (topoOf l e.1).isNone then none else some e.1
      | none => []).eraseDups.filter fun u => !(seen.any (·.1 == u))
    if next.isEmpty then seen else topoDist l n (d + 1) next (seen ++ next.map (·, d + 1))

/-- Hops from `u` in a table of distances. -/
def distOf (t : List (Nat × Nat)) (u : Nat) : Nat := ((t.find? (·.1 == u)).map (·.2)).getD 4096

/-- Port of device `d` toward `dest`: fewest hops, lower port first; none when there is no way (R261). -/
def nextPort (l : List TopoDev) (dest : Nat) (d : TopoDev) : Option Nat :=
  let t := topoDist l l.length 0 [dest] [(dest, 0)]
  let here := distOf t d.uid
  ((d.neigh.zipIdx).find? fun e => e.1.1 != 0 && decide (distOf t e.1.1 + 1 = here)).map (·.2)

/-- Ports a shortest path from `uid` to `dest` uses at each device it passes: UID, port. -/
def pathPorts (l : List TopoDev) (dest : Nat) : Nat → Nat → List (Nat × Nat)
  | 0, _ => []
  | n + 1, uid =>
    if uid == dest then []
    else match topoOf l uid with
      | none => []
      | some d => match nextPort l dest d with
        | none => []
        | some p => (uid, p) :: pathPorts l dest n ((d.neigh.getD p (0, 0)).1)

/-- UID of the device with a FID. -/
def uidOf (l : List TopoDev) (fid : Nat) : Nat := ((l.find? (·.fid == fid)).map (·.uid)).getD 0

/-- Port mask of device `d` for a group: the tree of shortest paths from the sender to the members (R261). -/
def groupPorts (l : List TopoDev) (g : Nat × Nat × List Nat) (d : TopoDev) : Nat :=
  (g.2.2.flatMap fun m => pathPorts l (uidOf l m) l.length (uidOf l g.2.1)).foldl
    (fun a e => if e.1 == d.uid then Nat.lor a (2 ^ e.2) else a) 0

/-- Tree ports of a device: its parent's and its children's (R259). -/
def treePorts (l : List TopoDev) (d : TopoDev) : Nat :=
  l.foldl (fun a e => if e.path.length == d.path.length + 1 && e.path.dropLast == d.path then
      Nat.lor a (2 ^ (e.path.getLastD 0)) else a) (if d.path.isEmpty then 0 else 2 ^ d.parent)

/-- Route image of a device (R260). -/
def routeImage (l : List TopoDev) (groups : List (Nat × Nat × List Nat)) (d : TopoDev) : List Byte :=
  let entry (f : Nat) : Nat := match l.find? (·.fid == f) with
    | some e => if e.uid == d.uid then 0 else match nextPort l e.uid d with | some p => 4 + p | none => 0
    | none => 0
  let mask (g : Nat) : Nat := match groups.find? (·.1 == g) with | some x => groupPorts l x d | none => 0
  ((List.range 2048).map fun i => BitVec.ofNat 8 (entry (2 * i) + 16 * entry (2 * i + 1))) ++
    ((List.range 128).map fun i => BitVec.ofNat 8 (mask (2 * i) + 16 * mask (2 * i + 1))) ++
    leBytes 4 (treePorts l d + 16 * d.parent + if d.path.isEmpty then 64 else 0)

/-- First byte of the idle route bank. -/
def idleBank (s : State) : Nat := routeBase (1 - s.fd Reg.FAB_RT_BANK 0 1)

/-- Stage an image into the idle bank. -/
def stageImage (id : Nat) (image : List Byte) (s : State) : State :=
  let s := s.putBytes (idleBank s) image
  { s with fab := { s.fab with staged := some id } }

/-- ROUTE to one device, on its tree path (log entry 23). -/
def routeTo (id : Nat) (d : TopoDev) (s : State) : State :=
  if d.path.isEmpty then stageImage id (routeImage s.fab.topo s.fab.grp d) s
  else srcSend d.path
    (fabPkt s 4 1 d.fid 4 (discPrefix 4 d.path ++ leBytes 4 id ++ routeImage s.fab.topo s.fab.grp d)) s

/-- ROUTE_COMMIT with T ahead by FAB.COMMIT_LEAD (R261). -/
def commitSend (dest id : Nat) (s : State) : State :=
  let t := s.tickNs + s.fd Reg.FAB_COMMIT_LEAD 0 7 * 1000000
  let s := if dest == 0xFFF then { s with fab := { s.fab with commitAt := some t } } else s
  fabSend 4 1 dest 0 (discPrefix 5 [] ++ leBytes 4 id ++ leBytes 8 t) s

/-- The root computes every image, loads them and commits (R261). -/
def sendRoutes (s : State) : State :=
  let id := s.fab.imageId + 1
  let s := { s with fab := { s.fab with imageId := id } }
  let s := if fabState s == 4 then s else setFabState 3 s
  commitSend 0xFFF id (forEach s.fab.topo (routeTo id) s)

/-- The root goes on: the next device to assign, or, with none left, the routes (R258, R261). -/
def rootNext (s : State) : State :=
  if !(isRoot s) || s.fab.asg.isSome then s
  else match asgNext s with
    | some (_, _, _, uid, parent, path) =>
      let a : Asg := { uid := uid, fid := pickFid s uid, path := path, parent := parent, tries := 1 }
      asgSend a { s with fab := { s.fab with asg := some a } }
    | none => sendRoutes s

/-- A self-claiming device without a change of claim for 20 ms becomes root and assigns FIDs (R257, R258). -/
def becomeRoot (s : State) : State :=
  if s.bit Reg.FAB_CTRL 0 && s.fab.claim == 1 && fabState s == 1 then
    let f := if prefId s == 0 then 1 else prefId s
    let s := setFabState 2 ((setFid f s).wb Reg.FAB_STATUS 3 true)
    let s := { s with fab := { s.fab with pref := f, rootFid := f } }
    rootNext { s with fab := { s.fab with topo := [ownTopo s], leftOut := [], asg := none } }
  else s

/-- Root elected (R257). -/
def execRootElected (s : State) : Host.Outcome State Fault Refusal := done (becomeRoot s)

/-- 100 ms after the first ACTIVE port without a root: NO_ROOT (R257). -/
def execNoRoot (s : State) : Host.Outcome State Fault Refusal :=
  done (if s.bit Reg.FAB_CTRL 0 && fabState s == 1 && s.fab.claim == 0 then setFabState 5 s else s)

/-- The claim that port `p` holds of its neighbour was not refreshed for 5 ms (R256, R264). -/
def claimLapse (p : Nat) (s : State) : State :=
  if (fabPort s p).adv.isNone then s else fabLost (modFabPort p (fun f => { f with adv := none }) s)

/-- Claim lapse (R256). -/
def execClaimLapse (p : Fin 4) (s : State) : Host.Outcome State Fault Refusal := done (claimLapse p.val s)

/-- A HELLO is taken: neighbour, claim, and at the root a device not yet assigned (R256, R258, R261). -/
def helloIn (p : Nat) (f : Hello) (s : State) : State :=
  let s := (s.wr (Reg.FAB_P_NEIGH_LO p) (BitVec.ofNat 32 f.uid.toNat)).wr (Reg.FAB_P_NEIGH_HI p)
    (BitVec.ofNat 32 (f.uid.toNat / 2 ^ 32))
  let s := (s.wf (Reg.FAB_P_STATUS p) 4 12 (if f.assigned then f.fid.toNat else 0)).wf (Reg.FAB_P_STATUS p) 16 2 f.port.val
  let s := updateClaim (modFabPort p (fun x => { x with
    adv := if f.dist == 0xFF then none else some (f.rootUid.toNat, f.dist.toNat), advId := f.fid.toNat }) s)
  if isRoot s && !(s.fab.topo.any (·.uid == f.uid.toNat)) && s.fab.asg.isNone then
    let own := ownTopo s
    rootNext { s with fab := { s.fab with
      leftOut := s.fab.leftOut.filter (· != f.uid.toNat)
      topo := s.fab.topo.map fun d => if d.path.isEmpty then own else d } }
  else s

/-- A HELLO is received; a device outside the fabric only counts it and frees its buffer (R256, R265). -/
def hello (p : Nat) (h : FabHdr) (f : Hello) (s : State) : State :=
  let k := rxPkt p 4 h (helloBody f.uid.toNat f.rootUid.toNat f.dist.toNat 0 f.fid.toNat f.port.val)
  fabReceive p k [1] (fun s => when (s.bit Reg.FAB_CTRL 0) (helloIn p f) (seqCheck k (fabFree k s))) s

/-- HELLO received (R256). -/
def execHello (p : Fin 4) (f : HelloPkt) (s : State) : Host.Outcome State Fault Refusal := done (hello p.val f.hdr f.body s)

/-- The path of an answer: the port of arrival, then the ports of the received path in reverse (R258, log entry 23). -/
def backPath (p : Nat) (d : DiscPath) : List Nat := p :: ((pathList d).reverse.drop 1)

/-- An ASSIGN with this device's UID: its FID, tree port and parent, and ASSIGN_ACK with its neighbours on the path back (R258). -/
def assignTake (p : Nat) (h : FabHdr) (d : DiscPath) (uid fid parent : Nat) (s : State) : State :=
  if uid != ownUid s || !(s.bit Reg.FAB_CTRL 0) then s
  else
    let s := setTree (Nat.lor (treeMask s) (2 ^ parent)) (some parent) (setFid fid s)
    let s := { s with fab := { s.fab with pref := fid, rootFid := h.src.toNat, rootPath := backPath p d } }
    let s := if fabState s == 4 then s else setFabState 2 s
    srcSend (backPath p d) (fabPkt s 4 1 h.src.toNat 4 (discPrefix 3 (backPath p d) ++ leBytes 8 uid ++ leBytes 2 fid ++
      (ownTopo s).neigh.flatMap fun e => leBytes 8 e.1 ++ leBytes 1 e.2)) s

/-- ASSIGN (R258): forwarded on its path, which makes the port a tree port, or taken. -/
def assign (p : Nat) (h : FabHdr) (d : DiscPath) (uid fid parent : Nat) (s : State) : State :=
  let k := rxPkt p 4 h (discPrefix 2 (pathList d) ++ leBytes 8 uid ++ leBytes 2 fid ++ leBytes 1 parent)
  fabReceive p k [1] (fun s =>
    fabRoute p k (some d) (fun s => assignTake p h d uid fid parent (fabFree k s))
      (when (k.flags.testBit 2 && k.hops != d.depth.toNat) (addTree (pathHop d k.hops)) s)) s

/-- ASSIGN received (R258). -/
def execAssign (p : Fin 4) (h : FabHdr) (d : DiscPath) (uid : BitVec 64) (fid : BitVec 12) (parent : Fin 4) (s : State) :
    Host.Outcome State Fault Refusal := done (assign p.val h d uid.toNat fid.toNat parent.val s)

/-- The root takes an ASSIGN_ACK into its topology, and goes on; a device left out that answers is assigned (R258, R264). -/
def ackTake (uid : Nat) (neigh : List (Nat × Nat)) (s : State) : State :=
  if !(isRoot s) then s
  else match s.fab.asg with
    | some a =>
      if a.uid == uid then
        rootNext { s with fab := { s.fab with
          asg := none
          known := s.fab.known.filter (·.1 != uid) ++ [(uid, a.fid)]
          topo := s.fab.topo ++ [{ uid := uid, fid := a.fid, path := a.path, parent := a.parent, neigh := neigh.take 4 }] } }
      else s
    | none => rootNext { s with fab := { s.fab with leftOut := s.fab.leftOut.filter (· != uid) } }

/-- ASSIGN_ACK (R258): forwarded, or taken by the root. -/
def assignAck (p : Nat) (h : FabHdr) (d : DiscPath) (uid fid : Nat) (neigh : List (Nat × Nat)) (s : State) : State :=
  let k := rxPkt p 4 h (discPrefix 3 (pathList d) ++ leBytes 8 uid ++ leBytes 2 fid ++
    neigh.flatMap fun e => leBytes 8 e.1 ++ leBytes 1 e.2)
  fabReceive p k [1] (fabRoute p k (some d) fun s => ackTake uid neigh (fabFree k s)) s

/-- ASSIGN_ACK received (R258). -/
def execAssignAck (p : Fin 4) (h : FabHdr) (d : DiscPath) (uid : BitVec 64) (fid : BitVec 12)
    (neigh : List (BitVec 64 × Fin 4)) (s : State) : Host.Outcome State Fault Refusal :=
  done (assignAck p.val h d uid.toNat fid.toNat (neigh.map fun e => (e.1.toNat, e.2.val)) s)

/-- No ASSIGN_ACK within 5 ms: sent again, or after 3 attempts the device is left out, with an event (R258). -/
def assignTimeout (s : State) : State :=
  match s.fab.asg with
  | none => s
  | some a =>
    if a.tries < 3 then
      asgSend a { s with fab := { s.fab with asg := some { a with tries := a.tries + 1 } } }
    else
      rootNext ({ s with fab := { s.fab with asg := none, leftOut := s.fab.leftOut ++ [a.uid] } }.event 0x00B1 12 2
        clsDevice 0 (det 8 a.uid))

/-- ASSIGN timeout (R258). -/
def execAssignTimeout (s : State) : Host.Outcome State Fault Refusal := done (assignTimeout s)

/-- A packet to the root: by its route, or before one is in force along the tree path. -/
def toRoot (back : List Nat) (sub : Nat) (body : List Byte) (s : State) : State :=
  if (routeEntry s s.fab.rootFid).testBit 2 then fabSend 4 1 s.fab.rootFid 0 (discPrefix sub [] ++ body) s
  else srcSend back (fabPkt s 4 1 s.fab.rootFid 4 (discPrefix sub back ++ body)) s

/-- A route image is staged into the idle bank and answered with ROUTE_ACK; one of another length is a bad image (R260, R261). -/
def routeTake (p : Nat) (h : FabHdr) (d : DiscPath) (id : Nat) (image : List Byte) (s : State) : State :=
  let s := { s with fab := { s.fab with rootFid := h.src.toNat } }
  if image.length == 2180 then
    let s := stageImage id image s
    let s := if fabState s == 4 then s else setFabState 3 s
    toRoot (backPath p d) 6 (leBytes 4 id ++ leBytes 1 0) s
  else toRoot (backPath p d) 6 (leBytes 4 id ++ leBytes 1 1) s

/-- ROUTE (R260): forwarded, or taken. -/
def route (p : Nat) (h : FabHdr) (d : DiscPath) (id : Nat) (image : List Byte) (s : State) : State :=
  let k := rxPkt p 4 h (discPrefix 4 (pathList d) ++ leBytes 4 id ++ image)
  fabReceive p k [1] (fabRoute p k (some d) fun s => routeTake p h d id image (fabFree k s)) s

/-- ROUTE received (R260). -/
def execRoute (p : Fin 4) (h : FabHdr) (d : DiscPath) (id : BitVec 32) (image : List Byte) (s : State) :
    Host.Outcome State Fault Refusal := done (route p.val h d id.toNat image s)

/-- The switch is scheduled when the image is staged, else answered with STATUS 1 (R261). -/
def commitTake (id t : Nat) (s : State) : State :=
  if s.fab.staged == some id then { s with fab := { s.fab with commitAt := some t } }
  else toRoot s.fab.rootPath 6 (leBytes 4 id ++ leBytes 1 1) s

/-- ROUTE_COMMIT (R261): sent on, and taken. -/
def routeCommit (p : Nat) (h : FabHdr) (id t : Nat) (s : State) : State :=
  let k := rxPkt p 4 h (discPrefix 5 [] ++ leBytes 4 id ++ leBytes 8 t)
  fabReceive p k [1] (fabRoute p k none fun s => commitTake id t (when (k.dest != 0xFFF) (fabFree k) s)) s

/-- ROUTE_COMMIT received (R261). -/
def execRouteCommit (p : Fin 4) (h : FabHdr) (id : BitVec 32) (t : BitVec 64) (s : State) :
    Host.Outcome State Fault Refusal := done (routeCommit p.val h id.toNat t.toNat s)

/-- The banks switch at the first tick at or after T: tree, parent and PTP port states follow (R261, R282), and
FAB_GROUP commands complete. -/
def bankSwitch (s : State) : State :=
  match s.fab.commitAt, s.fab.staged with
  | some t, some _ =>
    let s := s.advanceTo (ns16 t)
    let b := 1 - s.fd Reg.FAB_RT_BANK 0 1
    let w := s.le (routeBase b + 2176) 4
    let s := (s.wf Reg.FAB_RT_BANK 0 1 b).count Reg.FAB_CNT_ROUTE_COMMIT
    let s := setTree (w % 16) (if w.testBit 6 then none else some (w / 16 % 4)) s
    let s := setFabState 4 { s with fab := { s.fab with commitAt := none, staged := none } }
    completeOps 0x0C03 (fun _ => true) St.ok [] s
  | _, _ => s

/-- Route bank switch (R261). -/
def execRouteBankSwitch (s : State) : Host.Outcome State Fault Refusal := done (bankSwitch s)

/-- The root sends a bad image again, with a commit of its own (R261). -/
def routeAgain (src status : Nat) (s : State) : State :=
  match s.fab.topo.find? (·.fid == src) with
  | some e => if isRoot s && status == 1 then commitSend e.fid s.fab.imageId (routeTo s.fab.imageId e s) else s
  | none => s

/-- ROUTE_ACK (R261): forwarded, or taken by the root. -/
def routeAck (p : Nat) (h : FabHdr) (d : DiscPath) (id status : Nat) (s : State) : State :=
  let k := rxPkt p 4 h (discPrefix 6 (pathList d) ++ leBytes 4 id ++ leBytes 1 status)
  fabReceive p k [1] (fabRoute p k (some d) fun s => routeAgain k.src status (fabFree k s)) s

/-- ROUTE_ACK received (R261). -/
def execRouteAck (p : Fin 4) (h : FabHdr) (d : DiscPath) (id : BitVec 32) (status : Byte) (s : State) :
    Host.Outcome State Fault Refusal := done (routeAck p.val h d id.toNat status.toNat s)

/-- The neighbour records after a link changed at port `port` of `uid` (R261): a link that comes up is known by its port at each end once
both ends have told of it. -/
def topoLink (l : List TopoDev) (uid port : Nat) (up : Bool) (nb : Nat) : List TopoDev :=
  let far := ((topoOf l nb).bind fun d => d.neigh.findIdx? (·.1 == uid))
  l.map fun d =>
    if d.uid == uid then
      { d with neigh := d.neigh.set port (if up then (nb, far.getD (d.neigh.getD port (0, 0)).2) else (0, 0)) }
    else if d.uid == nb then
      { d with neigh := d.neigh.map fun e => if e.1 != uid then e else if up then (uid, port) else if e.2 == port then (0, 0) else e }
    else d

/-- Breadth-first from the devices `f` of one distance, in the order of R258: each device reached takes its path and its parent's port
anew. -/
def retreeFrom (l : List TopoDev) : Nat → List TopoDev → List TopoDev → List TopoDev
  | 0, _, seen => seen
  | n + 1, f, seen =>
    let step (a : List TopoDev) (c : TopoDev × Nat × Nat × Nat) : List TopoDev :=
      match topoOf l c.2.2.1 with
      | some e => if (seen ++ a).any (·.uid == e.uid) then a else a ++ [{ e with path := c.1.path ++ [c.2.1], parent := c.2.2.2 }]
      | none => a
    let next := (f.flatMap fun d => d.neigh.zipIdx.map fun e => (d, e.2, e.1.1, e.1.2)).foldl step []
    if next.isEmpty then seen else retreeFrom l n next (seen ++ next)

/-- The tree anew over the links there are (R258, R259): what the root no longer reaches leaves its topology. -/
def retree (l : List TopoDev) : List TopoDev :=
  let r := l.filter (·.path.isEmpty)
  retreeFrom l l.length r r

/-- The root hears of a link (R261, R275): it assigns what is new and computes again, on the tree of the links there are. -/
def rootLink (uid port : Nat) (up : Bool) (nb : Nat) (s : State) : State :=
  if isRoot s then
    rootNext { s with fab := { s.fab with
      topo := retree (topoLink s.fab.topo uid port up nb), leftOut := s.fab.leftOut.filter (· != nb) } }
  else s

/-- LINK_EVENT (R261): forwarded, or taken by the root. -/
def linkEvent (p : Nat) (h : FabHdr) (d : DiscPath) (uid port : Nat) (up : Bool) (nb : Nat) (s : State) : State :=
  let k := rxPkt p 4 h
    (discPrefix 7 (pathList d) ++ leBytes 8 uid ++ leBytes 1 port ++ leBytes 1 (if up then 1 else 0) ++ leBytes 8 nb)
  fabReceive p k [1] (fabRoute p k (some d) fun s => rootLink uid port up nb (fabFree k s)) s

/-- LINK_EVENT received (R261). -/
def execLinkEvent (p : Fin 4) (h : DiscHdr) (uid : BitVec 64) (port : Fin 4) (up : Bool) (nb : BitVec 64) (s : State) :
    Host.Outcome State Fault Refusal := done (linkEvent p.val h.hdr h.way uid.toNat port.val up nb.toNat s)

/-! ### Ports (R251, R265, R275) -/

/-- This device reports a link of its own to the root, once it is assigned (R275). -/
def reportLink (p : Nat) (up : Bool) (nb : Nat) (s : State) : State :=
  if isRoot s then rootLink (ownUid s) p up nb s
  else if s.ownFid != 0 then
    toRoot s.fab.rootPath 7 (leBytes 8 (ownUid s) ++ leBytes 1 p ++ leBytes 1 (if up then 1 else 0) ++ leBytes 8 nb) s
  else s

/-- A port becomes ACTIVE: credits start afresh, what waits elsewhere frees nothing of it any more, and FLOW with INIT goes first
(R265). -/
def fabPortUp (p nb : Nat) (s : State) : State :=
  let s := s.wb (Reg.FAB_P_STATUS p) 0 true
  let s := forEach (List.range 4) (fun o => modFabPort o fun f => { f with
    q := f.q.map fun k => if k.inPort == some p then { k with inPort := none } else k }) s
  let s := modFabPort p (fun f => { f with q := [], size := [], freed := [], used := [], mine := [], since := 0, deficit := [],
                                           bucket := setCnt (setCnt [] 0 bucketMax) 1 bucketMax, bucketAt := s.tickNs }) s
  let s := { s with mbx := { s.mbx with wait := s.mbx.wait.map fun w => if w.credit.any (·.1 == p) then { w with credit := none } else w } }
  reportLink p true nb (flowOut p true [64, 256, 256, 1024] s)

/-- A port leaves ACTIVE (R275): its queue is discarded under R262, its claim lapses (R256), and the root hears of it. -/
def fabPortDown (p : Nat) (s : State) : State :=
  if !(fabActive s p) then s
  else
    let nb := neighUid s p
    let s := forEach (fabPort s p).q (fun k t => fabDropAt p k t) s
    let s := modFabPort p (fun f => { f with q := [], adv := none, advId := 0 }) s
    let s := (s.wb (Reg.FAB_P_STATUS p) 0 false).count (Reg.FAB_P_CNT_DOWN p)
    let s := (s.wr (Reg.FAB_P_NEIGH_LO p) 0).wr (Reg.FAB_P_NEIGH_HI p) 0
    fabLost (reportLink p false nb s)

/-- FLOW updates the credits of a port, and is counted (R265, R276). -/
def flow (p : Nat) (init : Bool) (c : List Nat) (s : State) : State :=
  if !(fabActive s p) then s
  else
    let l := (List.range 4).foldl (fun a v => setCnt a v (c.getD v 0)) []
    fabDrain p (modFabPort p (fun f => if init then { f with size := l } else { f with freed := l }) (s.count (Reg.FAB_P_VC_CNT_RX p 0)))

/-- FLOW received (R265). -/
def execFlow (p : Fin 4) (init : Bool) (c0 c1 c2 c3 : BitVec 16) (s : State) : Host.Outcome State Fault Refusal :=
  done (flow p.val init [c0.toNat, c1.toNat, c2.toNat, c3.toNat] s)

/-- FLOW is sent: the counts of credits freed since ACTIVE (R265). -/
def flowSend (p : Nat) (s : State) : State := if fabActive s p then fabDrain p (flowFreed p s) else s

/-- FLOW sent (R265). -/
def execFlowSend (p : Fin 4) (s : State) : Host.Outcome State Fault Refusal := done (flowSend p.val s)

/-- The first packet of VC `v` not yet counted that has waited beyond DELAY_TH is counted (R267). -/
def packetDelay (p v : Nat) (s : State) : State :=
  match (fabPort s p).q.find? fun k => k.vc == v && !k.late with
  | none => s
  | some k =>
    modFabPort p (fun f => { f with q := f.q.map fun x => if x == k then { x with late := true } else x })
      (s.count (Reg.FAB_P_VC_CNT_DELAY p v))

/-- Delayed packet (R267). -/
def execFabPacketDelay (p : Fin 4) (v : Fin 4) (s : State) : Host.Outcome State Fault Refusal :=
  done (packetDelay p.val v.val s)

/-! ### CONTROL and TIME -/

/-- A mailbox message from the fabric: a response goes to the record of its request, anything else to MB5, and keeps its credits until
it enters the ring (R265, R268, R331). -/
def controlIn (k : FabPkt) (s : State) : State :=
  if (k.payload.getD 2 0).getLsbD 0 then forwarded k.src k.payload (fabFree k s)
  else mbArrive ⟨5, k.src, k.payload, k.inPort.map fun p => (p, k.vc, fabCost k.payload.length)⟩ s

/-- CONTROL (R268): forwarded, delivered, or both for a broadcast. -/
def control (p : Nat) (h : FabHdr) (data : List Byte) (s : State) : State :=
  let k := rxPkt p 2 h data
  fabReceive p k [1, 2] (fabRoute p k none fun s =>
    controlIn (if k.dest == 0xFFF then { k with inPort := none } else k) s) s

/-- TIME: a PTP message for the receiving port; never forwarded (Table TIME-2). -/
def timePacket (p : Nat) (h : FabHdr) (macPs : Nat) (data : List Byte) (s : State) : State :=
  let k := rxPkt p 3 h data
  fabReceive p k [0] (fun s => ptpReceive p macPs data (fabFree k s)) s

/-- TIME received (R281). -/
def execTime (p : Fin 4) (h : FabHdr) (macPs : Nat) (data : List Byte) (s : State) : Host.Outcome State Fault Refusal :=
  done (timePacket p.val h macPs data s)

end Sys2Proof.Machine
end

