-- ==== Sys2Proof/Machine/RegWrite.lean ====
section
/-! DEFINITION. What a word written to a register becomes (R7, R378, R455), apart from what the write sets going. -/
namespace Sys2Proof.Machine

/-- Bits of a word that a mask selects, the others from `old`. -/
def mergeBits (mask : Nat) (old w : Word) : Word :=
  let m := BitVec.ofNat 32 mask
  (old &&& ~~~m) ||| (w &&& m)

/-- Nearest end of a range. -/
def clampNat (lo hi v : Nat) : Nat := max lo (min hi v)

/-- A reserved value of one field is replaced (R455). -/
def fixField (w : Word) : FieldRule → Word
  | .range lo len mn mx => setFld w lo len (clampNat mn mx (fld w lo len))
  | .enum lo len mx rst => if mx < fld w lo len then setFld w lo len rst else w
  | .signed lo len n p =>
    let v := sext len (fld w lo len)
    setFld w lo len (wrapInt len (max (-(n : Int)) (min (p : Int) v)))
  | .wslots lo len => setFld w lo len (clampNat 1 (2 ^ fld w 1 3) (fld w lo len))

/-- The word a register holds after `w` is written to it: writable bits, without write-one bits, reserved values
replaced. -/
def storedWord (r : RegRow) (old w : Word) : Word :=
  match r.access with
  | .rw | .rws | .cal => r.rules.foldl fixField (mergeBits r.wmask old w)
  | .cnt => 0
  | .ro | .rol | .wo => old

/-- A software write of the register at `a` (R378). -/
def State.swWrite (s : State) (a : Nat) (w : Word) : State :=
  match regRow a with
  | none => s
  | some r => s.wr a (storedWord r (s.rd a) w)

/-- A word would change a firmware-owned field of a register, or sets a firmware-owned write-one bit (R376, R349). -/
def changesOwned (s : State) (a : Nat) (w : Word) : Bool :=
  match regRow a with
  | none => false
  | some r =>
    let own := BitVec.ofNat 32 r.fmask
    (storedWord r (s.rd a) w ^^^ s.rd a) &&& own != 0 || w &&& own &&& BitVec.ofNat 32 r.womask != 0

end Sys2Proof.Machine
end

