-- ==== Sys2Proof/Machine/Surface.lean ====
section
/-! DEFINITION. Surfaces: the pool, allocation, and the states of buffers (R100 to R109). -/
namespace Sys2Proof.Machine

/-- Bytes of DRAM: 4 GiB, or 8 GiB on the D8 (R2). -/
def dramBytes : Nat := if Config.gradeM1.val == 2 then 8 * 2 ^ 30 else 4 * 2 ^ 30

/-- Bytes per source pixel of a format code (Table STR-4); 0 for the reserved code. -/
def fmtBytes (f : Nat) : Nat :=
  match f with | 0 => 1 | 1 => 2 | 2 => 2 | 3 => 2 | 4 => 3 | 5 => 4 | 6 => 4 | _ => 0

def surfValid (s : State) (n : Nat) : Bool := s.bit (Reg.DRAM_SURF_CFG n) 31
def surfW (s : State) (n : Nat) : Nat := s.fd (Reg.DRAM_SURF_CFG n) 0 13 + 1
def surfH (s : State) (n : Nat) : Nat := s.fd (Reg.DRAM_SURF_CFG n) 13 13 + 1
def surfFmt (s : State) (n : Nat) : Nat := s.fd (Reg.DRAM_SURF_CFG n) 26 3
def surfBufs (s : State) (n : Nat) : Nat := max 1 (s.fd (Reg.DRAM_SURF_CFG n) 29 2)
/-- SOURCE: 0 to 3 a stream, 4 software, 5 fabric. -/
def surfSource (s : State) (n : Nat) : Nat := s.fd (Reg.DRAM_SURF_BASE n) 29 3

/-- Line pitch: a multiple of 64 bytes (R102). -/
def pitchOf (w f : Nat) : Nat := (w * fmtBytes f + 63) / 64 * 64
/-- Bytes of a buffer: a multiple of 64 KiB (R102). -/
def bufBytesOf (w h f : Nat) : Nat := (pitchOf w f * h + 65535) / 65536 * 65536
def surfPitch (s : State) (n : Nat) : Nat := pitchOf (surfW s n) (surfFmt s n)
def surfBufBytes (s : State) (n : Nat) : Nat := bufBytesOf (surfW s n) (surfH s n) (surfFmt s n)

/-- First byte of the pool. -/
def poolBase (s : State) : Nat := s.fd Reg.DRAM_SURF_POOL_BASE 0 13 * 2 ^ 20
/-- Bytes of the pool. -/
def poolSize (s : State) : Nat := s.fd Reg.DRAM_SURF_POOL_SIZE 0 13 * 2 ^ 20
/-- Extent start of a surface in the pool, 64 KiB units. -/
def surfStart (s : State) (n : Nat) : Nat := s.fd (Reg.DRAM_SURF_BASE n) 0 18
/-- Extent of a surface, 64 KiB units. -/
def surfUnits (s : State) (n : Nat) : Nat := surfBufs s n * surfBufBytes s n / 65536
/-- First byte of buffer `b`. -/
def bufAddr (s : State) (n b : Nat) : Nat := poolBase s + surfStart s n * 65536 + b * surfBufBytes s n
/-- First byte of a source pixel of buffer `b`. -/
def pixAddr (s : State) (n b x y : Nat) : Nat := bufAddr s n b + y * surfPitch s n + x * fmtBytes (surfFmt s n)

/-! ### Allocation (R102, R103) -/

/-- Extents in use, as start and end in 64 KiB units. -/
def extents (s : State) : List (Nat × Nat) :=
  ((List.range 64).filter (surfValid s)).map fun n => (surfStart s n, surfStart s n + surfUnits s n)

/-- Free extents of the pool in 64 KiB units, in rising order: start and length. -/
def freeExtents (s : State) : List (Nat × Nat) :=
  let total := poolSize s / 65536
  let l := sortBy (fun a b => decide (a.1 ≤ b.1)) (extents s)
  let r := l.foldl (fun (a : List (Nat × Nat) × Nat) e =>
    (if a.2 < e.1 then a.1 ++ [(a.2, e.1 - a.2)] else a.1, max a.2 e.2)) ([], 0)
  if r.2 < total then r.1 ++ [(r.2, total - r.2)] else r.1

def freeUnits (s : State) : Nat := (freeExtents s).foldl (fun a e => a + e.2) 0
def largestUnits (s : State) : Nat := (freeExtents s).foldl (fun a e => max a e.2) 0

/-- DRAM.POOL_FREE, POOL_LARGEST and SURF_VALID show the pool. -/
def poolShow (s : State) : State :=
  let mask (o : Nat) : Nat := (List.range 32).foldl (fun a i => a + if surfValid s (o + i) then 2 ^ i else 0) 0
  (((s.wr Reg.DRAM_POOL_FREE (BitVec.ofNat 32 (freeUnits s))).wr Reg.DRAM_POOL_LARGEST
    (BitVec.ofNat 32 (largestUnits s))).wr Reg.DRAM_SURF_VALID_LO (BitVec.ofNat 32 (mask 0))).wr Reg.DRAM_SURF_VALID_HI
    (BitVec.ofNat 32 (mask 32))

/-- The lowest free extent that holds `u` units. -/
def findExtent (s : State) (u : Nat) : Option Nat := ((freeExtents s).find? fun e => decide (u ≤ e.2)).map (·.1)

/-! ### Buffers (R105 to R109) -/

/-- Buffer states of DRAM.SURFn_STATE. -/
abbrev bFree : Nat := 0
abbrev bWriting : Nat := 1
abbrev bReady : Nat := 2
abbrev bReading : Nat := 3

def bufState (s : State) (n b : Nat) : Nat := s.fd (Reg.DRAM_SURF_STATE n) (2 * b) 2
def setBuf (n b st : Nat) (s : State) : State := s.wf (Reg.DRAM_SURF_STATE n) (2 * b) 2 st
/-- The first buffer of a surface in a state. -/
def bufIn (s : State) (n st : Nat) : Option Nat := (List.range (surfBufs s n)).find? fun b => bufState s n b == st

/-- CNT_DROPPED of the stream that fills a surface. -/
def countDropped (n : Nat) (s : State) : State :=
  if surfSource s n < 4 then s.count (Reg.SDS_STR_CNT_DROPPED (surfSource s n)) else s

/-- Buffer a new frame is written into: FREE of lowest index, else the READY one; with one buffer, that one (R105,
R108). -/
def writeBuf (s : State) (n : Nat) : Option Nat :=
  if surfBufs s n == 1 then some 0 else match bufIn s n bFree with | some b => some b | none => bufIn s n bReady

/-- The buffer is taken for writing: a READY one is withdrawn, and the READING one of a surface with one buffer is written in place
(R105, R108). -/
def takeBuf (n b : Nat) (s : State) : State :=
  if bufState s n b == bReading then s
  else setBuf n b bWriting (when (bufState s n b == bReady) (countDropped n) s)

/-- The buffer becomes READY and NEWEST; one that was READY before goes back to FREE (R106). -/
def publishBuf (n b sfn : Nat) (s : State) : State :=
  let s := forEach ((List.range (surfBufs s n)).filter fun c => c != b && bufState s n c == bReady)
    (fun c t => countDropped n (setBuf n c bFree t)) s
  let s := (setBuf n b bReady s).wf (Reg.DRAM_SURF_STATE n) 6 2 b
  (s.wf (Reg.DRAM_SURF_STATE n) 16 16 sfn).modSurf n fun x => { x with ever := true, discarded := false }

/-- A buffer whose frame is given up goes back to FREE (R98); one written in place keeps its published state. -/
def dropBuf (n b : Nat) (s : State) : State :=
  (when (bufState s n b == bWriting) (setBuf n b bFree) s).modSurf n fun x => { x with discarded := true }

/-- A layer reads a buffer of a surface, or has not finished its last read of it (R136). -/
def bufRead (s : State) (n b : Nat) : Bool :=
  (List.range 8).any fun l => (s.layer l).reading == some (n, b) || (s.layer l).retire.any fun e => e.1 == n && e.2.1 == b

/-- R107 at a phase 0: the READY buffer becomes READING; the one that was READING goes back to FREE when its last read has
finished. -/
def promote (n : Nat) (s : State) : State :=
  match bufIn s n bReady with
  | none => s
  | some b =>
    let old := (s.surf n).cur
    let s := setBuf n b bReading s
    let s := match old with
      | none => s
      | some o =>
        if o == b || bufState s n o != bReading then s
        else if bufRead s n o then s.modSurf n fun x => { x with old := x.old ++ [o] }
        else setBuf n o bFree s
    s.modSurf n fun x => { x with cur := some b }

/-- The last read of a buffer has finished: it goes back to FREE when it waited for that. -/
def readDone (n b : Nat) (s : State) : State :=
  if (s.surf n).old.contains b && !(bufRead s n b) then
    (when (bufState s n b == bReading && (s.surf n).cur != some b) (setBuf n b bFree) s).modSurf n
      fun x => { x with old := x.old.filter (· != b) }
  else s

/-- The NEWEST buffer of a surface, when one was ever published. -/
def newestBuf (s : State) (n : Nat) : Option Nat :=
  if (s.surf n).ever then some (s.fd (Reg.DRAM_SURF_STATE n) 6 2) else none

/-- A surface ceases to exist. -/
def destroySurf (n : Nat) (s : State) : State :=
  poolShow (((s.wr (Reg.DRAM_SURF_CFG n) 0).wr (Reg.DRAM_SURF_BASE n) 0).wr (Reg.DRAM_SURF_STATE n) 0 |>.modSurf n fun _ => {})

end Sys2Proof.Machine
end

