-- ==== Sys2Proof/Machine/Strip.lean ====
section
/-! DEFINITION. Pixel strips: sending by forward entries, reception by subscriptions, and the compose deadline (R269 to
R274). -/
namespace Sys2Proof.Machine

def subSt (s : State) (n : Nat) : SubSt := sget (fun _ => {}) s.fab.subs n
def modSub (n : Nat) (f : SubSt → SubSt) (s : State) : State :=
  { s with fab := { s.fab with subs := sput (fun _ => {}) s.fab.subs n (f (subSt s n)) } }

/-- Source pixels per packet: the largest multiple of 64 that fits in 4,096 bytes (R270). -/
def stripPixels (fmt : Nat) : Nat := if fmtBytes fmt == 0 then 64 else 4096 / fmtBytes fmt / 64 * 64

/-- Lines per strip, FAB.STRIP_ROWS (R269). -/
def stripRows (s : State) : Nat := max 1 (s.fd Reg.FAB_STRIP_ROWS 0 7)

/-! ### Sending (R269) -/

/-- The packets of strip `t` of forward entry `n`. -/
def stripPackets (s : State) (n t : Nat) : List FabPkt :=
  let f := s.fd (Reg.FAB_FWD_CFG n) 1 6
  let first := s.fd (Reg.FAB_FWD_LINES n) 0 13
  let last := min (s.fd (Reg.FAB_FWD_LINES n) 16 13) (surfH s f - 1)
  let r := stripRows s
  let px := stripPixels (surfFmt s f)
  let bp := fmtBytes (surfFmt s f)
  let w := surfW s f
  match (s.surf f).cur with
  | none => []
  | some b =>
    let lines := (List.range r).filterMap fun i =>
      let y := t * r + i
      if first ≤ y ∧ y ≤ last then some y else none
    let l := lines.flatMap fun y => (List.range ((w + px - 1) / px)).map fun i =>
      { fabPkt s 1 3 (s.fd (Reg.FAB_FWD_CFG n) 7 8) 1 (s.bytes (pixAddr s f b (i * px) y) (min px (w - i * px) * bp)) with
        frame := s.ras.frame.toNat % 65536, xinfo := f + y * 2 ^ 6 + i * px * 2 ^ 19, strip := some (n, t) }
    match l.getLast? with
    | none => []
    | some k => l.dropLast ++ [{ k with flags := 3 }]

/-- Strips of an enabled forward entry. -/
def entryStrips (s : State) (n : Nat) : List Nat :=
  let f := s.fd (Reg.FAB_FWD_CFG n) 1 6
  if !(s.bit (Reg.FAB_FWD_CFG n) 0) || !(surfValid s f) || (s.surf f).cur.isNone then []
  else
    let r := stripRows s
    let a := s.fd (Reg.FAB_FWD_LINES n) 0 13 / r
    let b := min (s.fd (Reg.FAB_FWD_LINES n) 16 13) (surfH s f - 1) / r
    (List.range (b + 1 - a)).map (a + ·)

/-- Strips in line order, round robin across entries (R269). -/
def sendOrder (s : State) : List (Nat × Nat) :=
  let per := (List.range 16).map fun n => (n, entryStrips s n)
  (List.range 8192).flatMap fun i =>
    if per.all (fun e => e.2.length ≤ i) then [] else per.filterMap fun e => (e.2[i]?).map (e.1, ·)

/-- Strips of this device's previous send that still wait in queues. -/
def unsent (s : State) : List (Nat × Nat) :=
  ((List.range 4).flatMap fun p => (fabPort s p).q.filterMap (·.strip)).eraseDups

/-- At a phase 0 the previous send is abandoned, its remaining strips counted, and a new one starts (R269). -/
def stripSend (s : State) : State :=
  let s := s.countBy Reg.FAB_CNT_SEND_CUT (unsent s).length
  let s := forEach (List.range 4) (fun p => modFabPort p fun f => { f with q := f.q.filter (·.strip.isNone) }) s
  forEach (sendOrder s) (fun e t => forEach (stripPackets t e.1 e.2)
    (fun k u => fabSeqUsed 3 (fabForward none { k with seq := fabNextSeq u 3 } u)) t) s

/-! ### Receiving (R271 to R273) -/

def subSurf (s : State) (n : Nat) : Nat := s.fd (Reg.FAB_SUB_CFG n) 1 6
def subWX (s : State) (n : Nat) : Nat := s.fd (Reg.FAB_SUB_WIN n) 0 13
def subWY (s : State) (n : Nat) : Nat := s.fd (Reg.FAB_SUB_WIN n) 16 13

/-- Subscriptions a packet matches: origin and source surface (R271). -/
def subsOf (s : State) (h : FabHdr) : List Nat :=
  (List.range 16).filter fun n => s.bit (Reg.FAB_SUB_CFG n) 0 && s.fd (Reg.FAB_SUB_CFG n) 7 6 == h.xinfo.toNat % 64 &&
    s.fd (Reg.FAB_SUB_CFG n) 13 12 == h.src.toNat

/-- NO_SIGNAL of a subscription changes, with its event (R274). -/
def subSignal (n : Nat) (lost : Bool) (s : State) : State :=
  if s.bit (Reg.FAB_SUB_STATUS n) 0 == lost then s
  else (s.wb (Reg.FAB_SUB_STATUS n) 0 lost).event 0x00A4 11 1 clsDevice 0 [if lost then 0 else 1, n]

/-- Write the pixels of a packet that lie in the window (R271). -/
def stripWrite (n b line x0 : Nat) (data : List Byte) (s : State) : State :=
  let f := subSurf s n
  let bp := fmtBytes (surfFmt s f)
  let y := line - subWY s n
  if line < subWY s n || decide (surfH s f ≤ y) then s
  else
    let a := max x0 (subWX s n)
    let e := min (x0 + data.length / bp) (subWX s n + surfW s f)
    if e ≤ a then s
    else s.putBytes (pixAddr s f b (a - subWX s n) y) ((data.drop ((a - x0) * bp)).take ((e - a) * bp))

/-- A packet reaches subscription `n` (R271 to R273). -/
def stripTake (n : Nat) (h : FabHdr) (data : List Byte) (s : State) : State :=
  let f := subSurf s n
  let bp := fmtBytes (surfFmt s f)
  let line := h.xinfo.toNat / 64 % 8192
  let x0 := h.xinfo.toNat / 2 ^ 19
  let cur := s.ras.frame.toNat % 65536
  let late (a b : Nat) : Bool := decide (32768 ≤ (a + 65536 - b) % 65536)
  let fr := h.frame.toNat
  let put (b : Nat) (t : State) : State :=
    modSub n (fun x => { x with got := if x.got.contains (line, x0) then x.got else x.got ++ [(line, x0)] })
      (stripWrite n b line x0 data t)
  if bp == 0 || data.length % bp != 0 then s.count (Reg.FAB_SUB_CNT_FMT n)
  else if late fr cur then s.count (Reg.FAB_SUB_CNT_LATE_PKT n)
  else match (subSt s n).writing with
    | some (w, b) =>
      if w == fr then put b s
      else if late fr w then s.count (Reg.FAB_SUB_CNT_LATE_PKT n)
      else s.count (Reg.FAB_SUB_CNT_EARLY n)
    | none =>
      if !(surfValid s f) then s
      else match writeBuf s f with
        | none => s
        | some b =>
          put b (modSub n (fun x => { x with writing := some (fr, b), got := [] })
            ((takeBuf f b s).wb (Reg.FAB_SUB_STATUS n) 1 true))

/-- PIXEL_STRIP (R262, R263, R271 to R273): forwarded, and taken by every subscription it matches; unicast to this device it counts when
there is none. -/
def pixelStrip (p : Nat) (h : FabHdr) (data : List Byte) (s : State) : State :=
  let k := rxPkt p 1 h data
  let subs := subsOf s h
  let take (s : State) : State := forEach subs (fun n t => stripTake n h data t) s
  fabReceive p k [3] (fun s =>
    if k.flags.testBit 0 then take (fabForward (some p) k s)
    else if k.dest == 0xFFF then if offTree s p then fabDropAt p k s else take (fabForward (some p) k s)
    else if k.dest != s.ownFid then fabForward (some p) k s
    else take (when subs.isEmpty (State.count · Reg.FAB_CNT_NOSUB) (fabFree k s))) s

/-- FAB.SUBn_CFG is written: a changed subscription begins anew, and gives up the frame it had begun (log entry 133). -/
def subCfg (n : Nat) (w : Word) (s : State) : State :=
  let a := Reg.FAB_SUB_CFG n
  if s.rd a == w then s
  else
    let s := match (subSt s n).writing with | some (_, b) => dropBuf (subSurf s n) b s | none => s
    (modSub n (fun _ => {}) (s.wb (Reg.FAB_SUB_STATUS n) 1 false)).swWrite a w

/-! ### The compose deadline (R272, R274) -/

/-- Strips of the window of subscription `n`. -/
def winStrips (s : State) (n : Nat) : List Nat :=
  let r := stripRows s
  let a := subWY s n / r
  let b := (subWY s n + surfH s (subSurf s n) - 1) / r
  (List.range (b + 1 - a)).map (a + ·)

/-- Lines of the window in strip `t`. -/
def stripLines (s : State) (n t : Nat) : List Nat :=
  let r := stripRows s
  (List.range r).filterMap fun i =>
    let y := t * r + i
    if subWY s n ≤ y ∧ y < subWY s n + surfH s (subSurf s n) then some y else none

/-- Every packet of the strip's lines within the window has arrived. -/
def stripComplete (s : State) (n t : Nat) : Bool :=
  let f := subSurf s n
  let px := stripPixels (surfFmt s f)
  let a := subWX s n / px
  let b := (subWX s n + surfW s f - 1) / px
  (stripLines s n t).all fun y => (List.range (b + 1 - a)).all fun i => (subSt s n).got.contains (y, (a + i) * px)

/-- An incomplete strip is copied from NEWEST into the buffer being written, and counted. -/
def stripCopy (n b t : Nat) (s : State) : State :=
  let f := subSurf s n
  let s := s.count (Reg.FAB_SUB_CNT_LATE_STRIP n)
  match newestBuf s f with
  | none => s
  | some o => forEach (stripLines s n t) (fun y u =>
      u.copyBytes (pixAddr u f b 0 (y - subWY u n)) (pixAddr u f o 0 (y - subWY u n)) (surfPitch u f)) s

/-- The deadline at the phase 0 of frame `frame`, before R107 acts (R272): a frame begun is completed from NEWEST and
published; one of which nothing arrived counts every strip once the subscription has published, also while a newer one is being written
(R274). -/
def stripDeadline (n : Nat) (s : State) : State :=
  if !(s.bit (Reg.FAB_SUB_CFG n) 0) then s
  else
    let cur := s.ras.frame.toNat % 65536
    match (subSt s n).writing.filter fun e => decide (1 ≤ (cur + 65536 - e.1) % 65536 ∧ (cur + 65536 - e.1) % 65536 < 32768) with
    | some (w, b) =>
      let s := forEach ((winStrips s n).filter fun t => !(stripComplete s n t)) (fun t u => stripCopy n b t u) s
      let s := publishBuf (subSurf s n) b w s
      let s := ((s.wf (Reg.FAB_SUB_STATUS n) 16 16 w).wb (Reg.FAB_SUB_STATUS n) 1 false).count (Reg.FAB_SUB_CNT_FRAMES n)
      subSignal n false (modSub n (fun _ => { published := true }) s)
    | none => when (subSt s n).published (State.countBy · (Reg.FAB_SUB_CNT_LATE_STRIP n) (winStrips s n).length) s

/-- No packet of a subscription for LOSS_TIMEOUT: NO_SIGNAL (R274). -/
def subLoss (n : Nat) (s : State) : State := if s.bit (Reg.FAB_SUB_CFG n) 0 then subSignal n true s else s

/-- Loss of a subscription (R274). -/
def execSubLossTimeout (n : Fin 16) (s : State) : Host.Outcome State Fault Refusal := done (subLoss n.val s)

end Sys2Proof.Machine
end

