-- ==== Sys2Proof/Machine/Compose.lean ====
section
/-! DEFINITION. Composition and correction of a lamp: canvas, layers, blending, look-up tables (R113 to R125), correction,
failure fill, derating and clamp (R168 to R181, R183), and the codes of a segment. -/
namespace Sys2Proof.Machine

/-! ### Look-up tables (R119, R124, R125, R171) -/

/-- Entry of a table of 16-bit entries, the one after the last repeating the last. -/
def lutEntry (s : State) (base n i : Nat) : Nat := s.le (base + 2 * min i (n - 1)) 2

/-- Interpolation in a table of `n` entries with `2 ^ k` steps between entries, rounded as R119 and R171 say. -/
def lutValue (s : State) (base n k e : Nat) : Nat :=
  let i := e / 2 ^ k
  let f := e % 2 ^ k
  let a : Int := lutEntry s base n i
  let b : Int := lutEntry s base n (i + 1)
  (a + ((b - a) * f + 2 ^ k / 2) / 2 ^ k).toNat

/-- First byte of the bank in use of pre-blend LUT `n`. -/
def preLut (s : State) (n : Nat) : Nat := winBase + 0x400000 + 0x2000 * (2 * n + s.lf Reg.CMP_LUT_BANK n 1)
/-- First byte of the bank in use of the post-blend LUT of plane `p`. -/
def postLut (s : State) (p : Nat) : Nat := winBase + 0x410000 + 0x2000 * (2 * p + s.lf Reg.CMP_LUT_BANK (8 + p) 1)
/-- First byte of response curve `k` in the bank in use. -/
def curveBase (s : State) (k : Nat) : Nat := winBase + 0x430000 + 0x8000 * s.lf Reg.CORR_CURVE_BANK 0 1 + 0x800 * k

/-! ### Layer settings, live -/

def layEn (s : State) (n : Nat) : Bool := s.lf (Reg.CMP_LAYER_CTRL n) 0 1 == 1
def laySource (s : State) (n : Nat) : Nat := s.lf (Reg.CMP_LAYER_CTRL n) 1 3
def layBlend (s : State) (n : Nat) : Nat := s.lf (Reg.CMP_LAYER_CTRL n) 4 3
def layPreLut (s : State) (n : Nat) : Nat := s.lf (Reg.CMP_LAYER_CTRL n) 7 3
def layClass (s : State) (n : Nat) : Nat := s.lf (Reg.CMP_LAYER_CTRL n) 10 2
def layIndex (s : State) (n : Nat) : Nat := s.lf (Reg.CMP_LAYER_SRC n) 0 8
def layGa (s : State) (n : Nat) : Nat := s.lf (Reg.CMP_LAYER_ALPHA n) 0 8
def layLevel (s : State) (n : Nat) : Nat := s.lf (Reg.CMP_LAYER_LEVEL n) 0 16
def layBg (s : State) (n : Nat) : Nat := s.lf (Reg.CMP_LAYER_BG n) 0 16

/-! ### Surface samples (R119 to R121) -/

/-- Components of a source pixel widened to 16 bits, and its alpha: one component for a Y format, three for RGB. -/
def widened (fmt : Nat) (b : List Byte) : List Nat × Nat :=
  let c8 (i : Nat) := leAt b i 1 * 257
  let c10 (v : Nat) := v % 1024 * 64 + v % 1024 / 16
  let w := leAt b 0 4
  match fmt with
  | 0 => ([c8 0], 255)
  | 1 => ([c10 w], 255)
  | 2 => ([w % 4096 * 16 + w % 4096 / 256], 255)
  | 3 => ([w % 65536], 255)
  | 4 => ([c8 0, c8 1, c8 2], 255)
  | 5 => ([c10 w, c10 (w / 1024), c10 (w / 1048576)], 255)
  | 6 => ([c8 0, c8 1, c8 2], leAt b 3 1)
  | _ => ([0], 255)

/-- The component a plane takes (R120). -/
def planeOf (s : State) (plane : Nat) (c : List Nat) : Nat :=
  if c.length == 1 then c.getD 0 0
  else if plane < 3 then c.getD plane 0
  else min 0xFFFF ((s.lf Reg.CMP_WMIX 0 8 * c.getD 0 0 + s.lf Reg.CMP_WMIX 8 8 * c.getD 1 0 + s.lf Reg.CMP_WMIX 16 8 * c.getD 2 0 + 128) / 256)

/-- The converted tap of surface `f`, buffer `b` at a source pixel, its edge repeated: value and alpha. -/
def tap (s : State) (n plane f b : Nat) (x y : Int) : Nat × Nat :=
  let xi := (max 0 (min ((surfW s f - 1 : Nat) : Int) x)).toNat
  let yi := (max 0 (min ((surfH s f - 1 : Nat) : Int) y)).toNat
  let r := widened (surfFmt s f) (s.bytes (pixAddr s f b xi yi) (fmtBytes (surfFmt s f)))
  let lin (e : Nat) := if layPreLut s n < 4 then lutValue s (preLut s (layPreLut s n)) 4096 4 e else e
  (planeOf s plane (r.1.map lin), r.2)

/-- Sample of a SURFACE layer at canvas pixel (i, j): value, source alpha, coverage (R121). -/
def surfaceSample (s : State) (n plane i j : Nat) : Option (Nat × Nat × Nat) :=
  match (s.layer n).reading with
  | none => none
  | some (f, b) =>
    let m (r : Nat → Nat) : Int := sext 32 (s.lrd (r n)).toNat
    let u := m Reg.CMP_LAYER_MAT_A * i + m Reg.CMP_LAYER_MAT_B * j + m Reg.CMP_LAYER_MAT_C
    let v := m Reg.CMP_LAYER_MAT_D * i + m Reg.CMP_LAYER_MAT_E * j + m Reg.CMP_LAYER_MAT_F
    let w : Int := ((surfW s f - 1) * 65536 : Nat)
    let h : Int := ((surfH s f - 1) * 65536 : Nat)
    if u < 0 ∨ w < u ∨ v < 0 ∨ h < v then some (0, 0, 0)
    else
      let x := u / 65536
      let y := v / 65536
      let fu := (u % 65536 / 256).toNat
      let fv := (v % 65536 / 256).toNat
      let mix (g : Nat × Nat → Nat) : Nat :=
        ((256 - fu) * (256 - fv) * g (tap s n plane f b x y) + fu * (256 - fv) * g (tap s n plane f b (x + 1) y) +
          (256 - fu) * fv * g (tap s n plane f b x (y + 1)) + fu * fv * g (tap s n plane f b (x + 1) (y + 1)) + 32768) / 65536
      some (mix (·.1), mix (·.2), 1)

/-- What composition holds ready for a segment: its boxes of the object mask. -/
structure SegView where
  seg : Nat
  boxes : List MaskBox
  deriving DecidableEq, Repr

/-- The view of segment `g`. -/
def segView (s : State) (g : Nat) : SegView :=
  { seg := g, boxes := match s.beam.shown with | some t => maskBoxes s t g | none => [] }

/-- Sample of layer `n` at canvas pixel (i, j) for a plane: value, source alpha, coverage; none for a layer without content
(R117, R131). -/
def layerSample (s : State) (v : SegView) (n plane i j : Nat) : Option (Nat × Nat × Nat) :=
  match laySource s n with
  | 0 => surfaceSample s n plane i j
  | 1 => some (layLevel s n, 255, 1)
  | 2 =>
    if layIndex s n == 0 then s.beam.shown.map fun t => (maskValue t v.boxes v.seg i j, 255, 1)
    else match s.beam.base with
      | some t => if baseFits s t then some (baseValue s t v.seg i j, 255, 1) else none
      | none => none
  | 3 => if (glyphOf s (layIndex s n)).isSome then some (layLevel s n, glyphCoverage s (layIndex s n) i j, 1) else none
  | 4 => (slotImage s (layIndex s n)).map fun m => (imageValue s m i j, 255, 1)
  | _ => none

/-! ### Blending (R122, R123) -/

/-- Effective alpha. -/
def alpha16 (ga sa cov : Nat) : Nat := (2 * ga * sa * cov * 65535 + 65025) / (2 * 65025)

/-- Round a quotient by 65,535, halves up. -/
def divM (x : Nat) : Nat := (2 * x + 65535) / (2 * 65535)

/-- One layer over the value below it. -/
def blend (mode d sample ga sa cov : Nat) : Nat :=
  let a := alpha16 ga sa cov
  match mode with
  | 0 => if cov == 1 then sample else d
  | 1 => divM (sample * a + d * (65535 - a))
  | 2 => divM (d * (65535 - a + divM (a * sample)))
  | 3 => max d (divM (sample * a))
  | 4 => min d (divM (sample * a) + 65535 - a)
  | _ => d

/-- An underrun of layer `n` covers a place of a segment row (R134). -/
def underrun (s : State) (n g row col : Nat) : Bool :=
  (s.layer n).under.any fun e => e.1 == g && e.2.1 == row && decide (e.2.2 ≤ col)

/-- The blended value at canvas pixel (i, j) for a lamp of a plane at a place of the segment (R116, R123). -/
def blended (s : State) (v : SegView) (plane row col i j : Nat) : Nat :=
  (List.range 8).foldl (fun d n =>
    if !(layEn s n) || (s.layer n).hidden then d
    else if underrun s n v.seg row col then blend (layBlend s n) d (layBg s n) (layGa s n) 255 1
    else match layerSample s v n plane i j with
      | none => d
      | some (x, sa, cov) => blend (layBlend s n) d x (layGa s n) sa cov) 0

/-- Bilinear value at a 13.2 position from values at canvas pixels (R114). -/
def canvasSample (s : State) (x y : Nat) (p : Nat → Nat → Nat) : Nat :=
  let w := canvasW s
  let h := canvasH s
  let i0 := min (x / 4) (w - 1)
  let j0 := min (y / 4) (h - 1)
  let i1 := min (i0 + 1) (w - 1)
  let j1 := min (j0 + 1) (h - 1)
  let fx := x % 4
  let fy := y % 4
  ((4 - fx) * (4 - fy) * p i0 j0 + fx * (4 - fy) * p i1 j0 + (4 - fx) * fy * p i0 j1 + fx * fy * p i1 j1 + 8) / 16

/-- A value through the post-blend LUT of a plane (R124). -/
def postBlend (s : State) (plane v : Nat) : Nat := lutValue s (postLut s plane) 4096 4 v

/-! ### The lamp map -/

/-- Lamp-map record of a lamp: X, Y, PLANE (Table CORR-1). -/
def mapRecord (s : State) (lamp : Nat) : Nat × Nat × Nat :=
  let w := s.le (s.fd Reg.CORR_MAP_BASE 0 9 * 2 ^ 20 + 4 * lamp) 4
  (w % 32768, w / 32768 % 32768, w / 2 ^ 30)

/-- Correction record of a lamp. -/
def corrRecord (s : State) (lamp : Nat) : Nat := s.le (s.fd Reg.CORR_CORR_BASE 0 9 * 2 ^ 20 + 4 * lamp) 4
def recMask (r : Nat) : Bool := r.testBit 28
def recSafe (r : Nat) : Bool := r.testBit 29
def recNoFill (r : Nat) : Bool := r.testBit 30
def recFillw (r : Nat) : Nat := r / 2 ^ 25 % 8

/-- The image a fallback shows: none when every lamp takes code 0 (R244). -/
def fallbackImage (s : State) : Option Image :=
  if s.bit Reg.POL_FB_STATUS 4 then none else slotImage s (s.fd Reg.POL_FB_STATUS 2 2)

/-- A lamp's code from the fallback image (R247). -/
def fallbackCode (s : State) (g row col : Nat) : Nat :=
  match fallbackImage s with
  | none => 0
  | some m =>
    if m.grid then
      let per := (s.byte (dirAt s + 2)).toNat + 1
      let x := s.seg g
      postBlend s 3 (imageValue s m (g % per * geomCols x.geom + col) (g / per * geomRows x.geom + row))
    else
      let r := mapRecord s (g * 4096 + row * geomCols (s.seg g).geom + col)
      postBlend s r.2.2 (canvasSample s r.1 r.2.1 (imageValue s m))

/-- Composed code of a lamp (R114, R124, R247). -/
def composedCode (s : State) (v : SegView) (row col : Nat) : Nat :=
  if showsFallback s then fallbackCode s v.seg row col
  else
    let r := mapRecord s (v.seg * 4096 + row * geomCols (s.seg v.seg).geom + col)
    postBlend s r.2.2 (canvasSample s r.1 r.2.1 (blended s v r.2.2 row col))

/-! ### Correction (R170 to R181) -/

/-- Value held to 0 to 0xFFFF. -/
def sat16 (v : Int) : Nat := (max 0 (min 0xFFFF v)).toNat

/-- Correction mode in force (Table CORR-5): 0 UNMAPPED, 1 SNOWGAIN, 2 NORMAL, 3 RELOADING. -/
def corrMode (s : State) (g : Nat) : Nat :=
  let x := s.seg g
  if x.reload != 0 then 3 else if !x.mapOk then 0 else if !x.corrOk || showsFallback s then 1 else 2

/-- SEG.SEGn_CORR.MODE follows. -/
def showMode (g : Nat) (s : State) : State := s.wf (Reg.SEG_SEG_CORR g) 16 2 (corrMode s g)

/-- Band in force of segment `g` (SEG.SEGn_CORR.BAND). -/
def segBand (s : State) (g : Nat) : Nat := s.fd (Reg.SEG_SEG_CORR g) 20 3

/-- Stages 1 to 3 for a composed code (R171 to R173). -/
def stage3 (s : State) (g r c : Nat) : Nat :=
  if c == 0 then 0
  else
    let v1 := lutValue s (curveBase s (r / 2 ^ 18 % 16)) 1024 6 c
    let v2 := sat16 ((((v1 * (r % 4096) + 0x400) / 0x800 : Nat) : Int) + 32 * sext 6 (r / 2 ^ 12 % 64))
    sat16 (((v2 * s.lf (Reg.CORR_TG (r / 2 ^ 22 % 8) (segBand s g)) 0 12 + 0x400) / 0x800 : Nat))

/-- Class of a lamp (R189): 0 OK, 1 OPEN, 2 SHORT, 3 WEAK. -/
def mapClass (s : State) (lamp : Nat) : Nat := (s.lamp lamp).cls

/-- OPEN or SHORT. -/
def lampDead (s : State) (lamp : Nat) : Bool := let c := mapClass s lamp; c == 1 || c == 2

/-- The lamps failed for fill are taken at the phase 0 at which composition starts (R176). -/
def fillLatch (s : State) : State :=
  let dead := (s.hlt.lamps.map (·.1)).filter fun p =>
    lampDead s p && s.bit Reg.CORR_CTRL 0 && !(recNoFill (corrRecord s p)) && !(recMask (corrRecord s p))
  { s with corr := { s.corr with failed := dead } }

/-- Failed for fill in the composition in progress (R176). -/
def fillFailed (s : State) (lamp : Nat) : Bool := s.corr.failed.contains lamp

/-- Edge entry of segment `g` for edge `e` (0 N, 1 E, 2 S, 3 W): SEG, EDGE, FLIP, VALID (Table CORR-10), live. -/
def edgeEntry (s : State) (g e : Nat) : Nat × Nat × Bool × Bool :=
  let w := if e < 2 then s.lrd (Reg.SEG_SEG_EDGE_NE g) else s.lrd (Reg.SEG_SEG_EDGE_SW g)
  let v := fld w (if e == 0 || e == 2 then 0 else 16) 12
  (v % 256, v / 256 % 4, v.testBit 10, v.testBit 11)

/-- Length of an edge of a segment; none for the N or S edge of a linear chain (R177). -/
def edgeLen (s : State) (g e : Nat) : Option Nat :=
  let m := (s.seg g).geom
  if m == 5 then (if e == 1 || e == 3 then some 1 else none) else some (if e == 0 || e == 2 then geomCols m else geomRows m)

/-- An entry is used: VALID, and its edges exist and have one length. -/
def edgeUsed (s : State) (g e : Nat) : Bool :=
  let x := edgeEntry s g e
  x.2.2.2 && (edgeLen s g e).isSome && edgeLen s g e == edgeLen s x.1 x.2.1

/-- EDGE_ERR of a segment: a VALID entry is not used (R177). -/
def edgeErr (s : State) (g : Nat) : Bool := (List.range 4).any fun e => (edgeEntry s g e).2.2.2 && !(edgeUsed s g e)

/-- Lamp at position `t` of edge `e` of segment `g`. -/
def edgeLamp (s : State) (g e t : Nat) : Nat :=
  let c := geomCols (s.seg g).geom
  let r := geomRows (s.seg g).geom
  g * 4096 + match e with | 0 => t | 1 => t * c + (c - 1) | 2 => (r - 1) * c + t | _ => t * c

/-- Positions (row, column) of a lamp on edges of its segment: edge and position. -/
def edgePlaces (s : State) (g row col : Nat) : List (Nat × Nat) :=
  let c := geomCols (s.seg g).geom
  let r := geomRows (s.seg g).geom
  (if row == 0 then [(0, col)] else []) ++ (if col + 1 == c then [(1, row)] else []) ++
    (if row + 1 == r then [(2, col)] else []) ++ (if col == 0 then [(3, row)] else [])

/-- Lamps of the same segment adjacent to (row, col). -/
def nearInside (s : State) (g row col : Nat) : List Nat :=
  let c := geomCols (s.seg g).geom
  let r := geomRows (s.seg g).geom
  ([(-1, -1), (-1, 0), (-1, 1), (0, -1), (0, 1), (1, -1), (1, 0), (1, 1)] : List (Int × Int)).filterMap fun d =>
    let y := (row : Int) + d.1
    let x := (col : Int) + d.2
    if 0 ≤ y ∧ y < r ∧ 0 ≤ x ∧ x < c then some (g * 4096 + y.toNat * c + x.toNat) else none

/-- Lamps of other segments to which (row, col) of `g` is adjacent by their edge entries. -/
def nearAcross (s : State) (g row col : Nat) : List Nat :=
  (edgePlaces s g row col).flatMap fun p => (List.range 256).flatMap fun q => (List.range 4).flatMap fun e =>
    let x := edgeEntry s q e
    if edgeUsed s q e && x.1 == g && x.2.1 == p.1 then
      let l := (edgeLen s q e).getD 0
      (((if p.2 == 0 then [] else [p.2 - 1]) ++ [p.2, p.2 + 1]).filter (decide <| · < l)).map fun t' =>
        edgeLamp s q e (if x.2.2.1 then l - 1 - t' else t')
    else []

/-- A segment takes part in fill: NORMAL, and composed in the frame (R178). -/
def fillSeg (s : State) (g : Nat) : Bool := corrMode s g == 2 && (s.seg g).due

/-- Row and column of a lamp index in its segment. -/
def lampPlace (s : State) (lamp : Nat) : Nat × Nat :=
  let c := geomCols (s.seg (lamp / 4096)).geom
  (lamp % 4096 / c, lamp % 4096 % c)

/-- v3 of a lamp in the frame in composition. -/
def lampV3 (s : State) (v : SegView) (lamp : Nat) : Nat :=
  let p := lampPlace s lamp
  stage3 s (lamp / 4096) (corrRecord s lamp) (composedCode s v p.1 p.2)

/-- Failed lamps that give fill to lamp `n`, with their terms (R178, R179). -/
def fillTerms (s : State) (n : Nat) : List (Nat × Nat) :=
  let g := n / 4096
  let p := lampPlace s n
  let rn := corrRecord s n
  if fillFailed s n || recMask rn || !(fillSeg s g) then []
  else
    ((nearInside s g p.1 p.2 ++ nearAcross s g p.1 p.2).eraseDups.filter fun f =>
      f != n && fillFailed s f && (mapRecord s f).2.2 == (mapRecord s n).2.2 && recSafe (corrRecord s f) == recSafe rn &&
        fillSeg s (f / 4096)).map fun f => (f, lampV3 s (segView s (f / 4096)) f * recFillw (corrRecord s f) / 20)

/-- Priority class of a lamp (R180, R183). -/
def lampClass (s : State) (g r : Nat) : Nat :=
  let deco := s.lf (Reg.SEG_SEG_CORR g) 8 1 == 1
  if (s.seg g).corrOk then (if recSafe r then 0 else if deco then 2 else 1) else (if deco then 2 else 0)

/-- Derating factor of a class for the frame in composition (R220). -/
def derateFactor (s : State) (cls : Nat) : Nat := s.fd Reg.SUP_DERATE_STATUS (9 * cls) 9

/-- Stage 6 (R181): mask, failed-lamp zero, clamp. -/
def stage6 (s : State) (lamp v : Nat) : Nat :=
  let ok := (s.seg (lamp / 4096)).corrOk
  if ok && recMask (corrRecord s lamp) then 0
  else if ok && s.bit Reg.CORR_CTRL 1 && lampDead s lamp then 0
  else min v (s.lf Reg.CORR_CLAMP 0 16)

/-- What composition gives a lamp: composed code, link code before derating, link code, class, fill capped, lamps that gave it
fill. -/
structure LampOut where
  comp : Nat
  pre : Nat
  code : Nat
  cls : Nat
  capped : Bool
  givers : List Nat
  deriving DecidableEq, Repr

/-- The link code of a lamp (Table CORR-3, R183). -/
def lampOut (s : State) (v : SegView) (lamp : Nat) : LampOut :=
  let g := v.seg
  let p := lampPlace s lamp
  let c := composedCode s v p.1 p.2
  let r := corrRecord s lamp
  let cls := lampClass s g r
  let put (v4 : Nat) (capped : Bool) (givers : List Nat) : LampOut :=
    { comp := c, pre := stage6 s lamp v4, code := stage6 s lamp (v4 * derateFactor s cls / 256), cls := cls, capped := capped,
      givers := givers }
  if c == 0 then { comp := 0, pre := 0, code := 0, cls := cls, capped := false, givers := [] }
  else if corrMode s g == 2 then
    let v3 := stage3 s g r c
    let terms := fillTerms s lamp
    let add := (terms.map (·.2)).foldl (· + ·) 0
    let cap := v3 * 3 / 10
    let v4 := min (v3 + min add cap) 0xFFFF
    put v4 (decide (cap < add)) (if v3 < v4 then (terms.filter fun t => decide (0 < t.2)).map (·.1) else [])
  else put (min (c * gainOf s g / 128) 0xFFFF) false []

/-- Every lamp of segment `g`. -/
def segOut (s : State) (g : Nat) : List LampOut :=
  let v := segView s g
  (List.range 4096).map fun i => lampOut s v (g * 4096 + i)

/-- Sums of codes per class. -/
def classSums (l : List LampOut) (f : LampOut → Nat) : List Nat :=
  (List.range 3).map fun c => (l.filter fun o => o.cls == c).foldl (fun a o => a + f o) 0

end Sys2Proof.Machine
end

