-- ==== Sys2Proof/Machine/Polder.lean ====
section
/-! DEFINITION. The fallback reaction (R244 to R248), composition of a segment (R70, R115, R134, R229), polders and the
shadow renderer (R227 to R234, R241). -/
namespace Sys2Proof.Machine

/-! ### Fallback -/

/-- Phase 0s until a reaction raised now applies (R245, R453). -/
def fallbackWait (s : State) : Nat := if s.ras.ran then applyWait s else 1

/-- A cause that keeps a DEFAULT segment from composition stands (R115); an UNMAPPED one is composed from a GRID fallback image
(R247). -/
def defaultHeld (s : State) (g : Nat) : Bool :=
  let x := s.seg g
  let grid := showsFallback s && (fallbackImage s).any (·.grid)
  (x.defReload && x.reload != 0) || (x.defUnmapped && corrMode s g == 0 && !grid)

/-- Segment `g` is composed from this phase 0 (R75, R115). A segment in HOLD on an ACTIVE link has left RELOADING when it is
not reloading (R184). -/
def segDue (s : State) (g : Nat) : Bool :=
  linkState s (g / 8) == 6 && !(upAsleep s (g / 8)) && !s.pwr.halted && !(s.seg g).defFault &&
    (let st := segState s g
     (st == 1 || st == 2 || st == 3 || (st == 4 && !(defaultHeld s g))) &&
       (corrMode s g != 0 || (showsFallback s && (fallbackImage s).any (·.grid))) && corrMode s g != 3)

/-- Composition of the frame in progress starts over with the fallback image (R246); a GRID image takes the UNMAPPED segments in (R247).
A raise in blanking finds no composition in progress. -/
def fbCompose (s : State) : State :=
  if s.ras.inBlank then s
  else
    forEach (List.range 256) (fun g t =>
      let more := t.ras.ran && corrMode t g == 0 && decide (1 ≤ (t.link (g / 8)).age) && segDue t g
      if (t.seg g).due || (t.seg g).fbDone || more then
        t.modSeg g fun x =>
          { x with due := x.due || more, composed := false, sent := false, fbDone := false, rowsOut := 0, stopped := false }
      else t) (forEach (List.range 32) lineNow s)

/-- The fallback reaction is raised (R244): cause of Table POL-10, its index, the slot named. One raised while a fallback is pending or in
force is counted and logged, with the record of FALLBACK_START (DESIGN CHOICE, log entry 122). -/
def fbRaise (cause idx slot : Nat) (s : State) : State :=
  if showsFallback s then (s.count Reg.POL_CNT_FB_EXTRA).event 0x0081 9 3 clsDevice 0 [cause, idx % 256, slot]
  else
    let s := s.wr Reg.POL_FB_STATUS (BitVec.ofNat 32 (2 + cause * 256 + idx % 256 * 65536))
    fbCompose (fbShow { s with pol := { s.pol with named := slot, fbWait := fallbackWait s } })

/-- At least one segment is faulty. -/
def anySegFault (s : State) : Bool := (List.range 8).any fun n => s.rd (Reg.HLT_SEGFAULT n) != 0

/-- A clear is refused (R248). -/
def clearRefused (s : State) : Bool :=
  s.bit Reg.SUP_STATUS 6 || s.bit Reg.SUP_STATUS 5 || (s.fd Reg.HLT_REACT 0 2 == 2 && anySegFault s)

/-- An accepted clear waits for its capture. -/
def fbClear (s : State) : State := { s with pol := { s.pol with clearPend := true } }

/-- Every polder's mismatch run is 0. -/
def clearRuns (s : State) : State :=
  { s with pol := { s.pol with ps := s.pol.ps.filterMap fun e =>
      let x : PolSt := { e.2 with run := 0, acted := false }
      if x = {} then none else some (e.1, x) } }

/-- MODE of every segment follows a fallback that takes hold or ends. -/
def showModes (s : State) : State :=
  forEach (List.range 256) (fun g t => if t.fd (Reg.SEG_SEG_CORR g) 16 2 == corrMode t g then t else showMode g t) s

/-- A pending fallback takes hold (R245, R247). -/
def fbApply (s : State) : State :=
  if !(s.bit Reg.POL_FB_STATUS 1) then s
  else
    let w := s.pol.fbWait - 1
    let s := { s with pol := { s.pol with fbWait := w } }
    if w != 0 then s
    else
      let f := s.rd Reg.POL_FB_STATUS
      let s := ((s.wf Reg.POL_FB_STATUS 0 2 1).count Reg.POL_CNT_FALLBACK).wr Reg.POL_FB_FRAME s.ras.frame
      clearRuns (s.event 0x0081 9 3 clsDevice 0 [fld f 8 4, fld f 16 8, fld f 2 2])

/-- A captured clear applies (R248): the fallback ends, and with it the FALLBACK policy of every layer. -/
def fbEnd (s : State) : State :=
  if !s.pol.clearCap then s
  else
    let s := { s with pol := { s.pol with clearCap := false, fbWait := 0 } }
    if !(showsFallback s) then s
    else
      let s := (clearRuns (s.wr Reg.POL_FB_STATUS 0)).event 0x0082 9 0 clsDevice 0 []
      let s := forEach (List.range 8) (fun n t =>
        if (t.layer n).policy == 3 then
          (t.wb (Reg.CMP_LAYER_STATUS n) 4 false).modLayer n fun x => { x with policy := 0, cleared := true }
        else t) s
      forEach (List.range 256) (fun g t =>
        if corrMode t g == 0 && segState t g == 2 then segToDefault g (t.modSeg g fun x => { x with defUnmapped := true }) else t) s

/-! ### Composition of a segment -/

/-- Bounds of polder `n`, live (R227): X0, X1, Y0, Y1. -/
def polRect (s : State) (n : Nat) : Nat × Nat × Nat × Nat :=
  (s.lf (Reg.POL_P_RECT_X n) 0 14, s.lf (Reg.POL_P_RECT_X n) 16 14, s.lf (Reg.POL_P_RECT_Y n) 0 14, s.lf (Reg.POL_P_RECT_Y n) 16 14)

/-- A lamp lies inside polder `n` (R227). -/
def lampInside (s : State) (n lamp : Nat) : Bool :=
  let r := polRect s n
  let m := mapRecord s lamp
  decide (4 * r.1 ≤ m.1 ∧ m.1 < 4 * r.2.1 ∧ 4 * r.2.2.1 ≤ m.2.1 ∧ m.2.1 < 4 * r.2.2.2)

/-- Polder `n` is enabled, live. -/
def polEn (s : State) (n : Nat) : Bool := s.lf (Reg.POL_P_CFG n) 0 1 == 1

/-- Composition of the first `k` lamps of segment `g` puts it into the footprint of polder `n` when it finds a lamp inside; a full one that
finds none takes it out (R229). -/
def footprint (k g n : Nat) (s : State) : State :=
  let hit := (List.range k).any fun i => lampInside s n (g * 4096 + i)
  s.modPolder n fun x =>
    { x with foot := if hit then (if x.foot.testBit g then x.foot else x.foot + 2 ^ g)
        else if k == 4096 && x.foot.testBit g then x.foot - 2 ^ g else x.foot }

/-- Codes and sums of a segment's composition; for the normal image also the codes its signatures take. -/
def takeCodes (g : Nat) (out : List LampOut) (s : State) : State :=
  let fb := showsFallback s
  s.modSeg g fun x => { x with
    next := out.map (·.code), nextPre := out.map (·.pre), comp := if fb then x.comp else out.map (·.comp)
    pre := classSums out (·.pre), post := classSums out (·.code) }

/-- What the first `k` lamps of a composition leave: caps and givers of fill, horizons, footprints (R154, R179, R229). -/
def composedLamps (k g : Nat) (out : List LampOut) (s : State) : State :=
  let out := out.take k
  let s := s.countBy Reg.CORR_CNT_FILL_CAP (out.filter (·.capped)).length
  let s := { s with corr := { s.corr with fillNow := (s.corr.fillNow ++ out.flatMap (·.givers)).eraseDups } }
  if showsFallback s then s
  else forEach ((List.range 64).filter (polEn s)) (footprint k g) (countHorizons g s)

/-- Segment `g` is in composition, on a link that carries its frame (R70, R75, R115). -/
def composing (s : State) (g : Nat) : Bool :=
  (s.seg g).due && !(s.seg g).composed && !s.ras.inBlank && linkState s (g / 8) == 6 && (s.link (g / 8)).age != 0

/-- Composition of a segment completes: its codes stream, its sums and footprints are taken (R70, R179, R212, R229). -/
def segComposed (g : Nat) (s : State) : State :=
  if !(composing s g) then s
  else
    let out := segOut s g
    let fb := showsFallback s
    let s := composedLamps 4096 g out (takeCodes g out (lineNow (g / 8) s))
    let s := s.modSeg g fun x => { x with composed := true, fbDone := fb, signed := x.signed || !fb, rowsOut := 0, stopped := false }
    lineNow (g / 8) (s.modLink (g / 8) fun l => { l with lineAt := max l.lineAt (now3 s) })

/-- Blanking start finds the composition of a segment unfinished. How many of its rows composition has delivered is a free value below all of
them; whole packets of these have been sent (R70, R229; log entry 125). -/
def composedPart (g : Nat) (s : State) : State :=
  if !(composing s g) then s
  else
    let x := s.seg g
    let k := s.freeNow % geomRows x.geom
    let per := max 1 (s.fd Reg.SLK_CFG 0 14 / (2 * geomCols x.geom))
    let out := segOut s g
    let s := composedLamps (k * geomCols x.geom) g out (takeCodes g out s.useFree)
    let s := forEach (List.range (k / per)) (fun i t => let d := segData t g (i * per); t.emit (slkPacket (g / 8) 1 (g % 8) d.2.1 d.1)) s
    s.modSeg g fun x => { x with rowsOut := k / per * per }

/-- Composition of a segment completes (R229). -/
def execSegmentComposed (seg : Fin 256) (s : State) : Host.Outcome State Fault Refusal := done (segComposed seg.val s)

/-- Data of a layer has not arrived in time for a lamp (R134): BG from there to the end of its segment row, counted once per
row. -/
def fetchUnderrun (n g row col : Nat) (s : State) : State :=
  if !(layEn s n) || (s.layer n).hidden || !(s.seg g).due || (s.seg g).composed then s
  else if (s.layer n).under.any fun e => e.1 == g && e.2.1 == row then s
  else (s.modLayer n fun x => { x with under := (g, row, col) :: x.under }).count (Reg.CMP_LAYER_CNT_UNDERRUN n)

/-- Fetch underrun (R134). -/
def execFetchUnderrun (layer : Fin 8) (seg : Fin 256) (row col : Fin 4096) (s : State) : Host.Outcome State Fault Refusal :=
  done (fetchUnderrun layer.val seg.val row.val col.val s)

/-! ### Signatures (R228 to R234) -/

def polSrc (s : State) (n : Nat) : Nat := s.lf (Reg.POL_P_CFG n) 1 2
def polSlot (s : State) (n : Nat) : Nat := s.lf (Reg.POL_P_CFG n) 6 2

/-- Segments of the footprint of polder `n`, in order. -/
def footSegs (s : State) (n : Nat) : List Nat := (List.range 256).filter fun g => (s.polder n).foot.testBit g

/-- Every segment of the footprint has been composed in full. -/
def footComplete (s : State) (n : Nat) : Bool := (footSegs s n).all fun g => (s.seg g).signed

/-- Lamps inside polder `n` composed in the frame, in increasing lamp index. -/
def polLamps (s : State) (n : Nat) : List Nat :=
  (footSegs s n).flatMap fun g => if (s.seg g).signed then
    ((List.range 4096).map (g * 4096 + ·)).filter (lampInside s n) else []

/-- CRC-32C over 16-bit codes, low byte first; 0 for none (R228). -/
def signCodes (l : List Nat) : Word := if l.isEmpty then 0 else BitVec.ofNat 32 (crc32c (l.flatMap (leBytes 2)))

/-- The signature of polder `n` for the frame in composition. -/
def polSig (s : State) (n : Nat) : Word :=
  signCodes ((polLamps s n).map fun l => (s.seg (l / 4096)).comp.getD (l % 4096) 0)

/-- The shadow renderer's code of a lamp (R234). -/
def shadowCode (s : State) (n : Nat) (m : Image) (lamp : Nat) : Nat :=
  let l := s.lf (Reg.POL_P_CFG n) 8 3
  let r := mapRecord s lamp
  postBlend s r.2.2 (canvasSample s r.1 r.2.1 fun i j => blend (layBlend s l) 0 (imageValue s m i j) (layGa s l) 255 1)

/-- The shadow signature of polder `n`. -/
def shadowSig (s : State) (n : Nat) : Option Word :=
  (slotImage s (polSlot s n)).map fun m => signCodes ((polLamps s n).map (shadowCode s n m))

/-- Enabled SHADOW polders. -/
def shadowPols (s : State) : List Nat := (List.range 64).filter fun n => polEn s n && polSrc s n == 2

/-- Lamps inside polder `n` of the segments that the frame composes. -/
def lampsHeld (s : State) (n : Nat) : Nat :=
  (((List.range 256).filter fun g => (s.seg g).due).map fun g =>
    ((List.range 4096).filter fun i => lampInside s n (g * 4096 + i)).length).foldl (· + ·) 0

/-- SHADOW polders left out, from the highest number downward, so that 262,144 lamps fit (R234). -/
def shadowOut (s : State) : List Nat :=
  (((shadowPols s).foldl (fun (a : Nat × List Nat) n =>
    if !a.2.isEmpty then (a.1, n :: a.2)
    else
      let k := lampsHeld s n
      if 262144 < a.1 + k then (a.1, [n]) else (a.1 + k, [])) (0, []))).2

/-- Polder `n` is held as FIXED while its slot is WRITING (R241). -/
def polHeld (s : State) (n : Nat) : Bool := polEn s n && polSrc s n == 2 && slotState s (polSlot s n) == 2

/-- POL.HOLD_LO and POL.HOLD_HI follow. -/
def holdPolShow (s : State) : State :=
  let m (k : Nat) : Nat := (List.range 32).foldl (fun a b => a + if polHeld s (32 * k + b) then 2 ^ b else 0) 0
  (s.wr Reg.POL_HOLD_LO (BitVec.ofNat 32 (m 0))).wr Reg.POL_HOLD_HI (BitVec.ofNat 32 (m 1))

/-- Result bits of polder `n`. -/
def polResult (n : Nat) (mismatch skip : Bool) (s : State) : State :=
  let a := if n < 32 then (Reg.POL_MISMATCH_LO, Reg.POL_SKIP_LO) else (Reg.POL_MISMATCH_HI, Reg.POL_SKIP_HI)
  (s.wb a.1 (n % 32) mismatch).wb a.2 (n % 32) skip

/-- SKIPPED (R229): the run stays. -/
def polSkip (n : Nat) (s : State) : State := (polResult n false true s).count Reg.POL_CNT_SKIP

/-- The run has reached LIMIT: count, event and reaction, once until a match (R232). -/
def polMismatch (n : Nat) (expected : Word) (s : State) : State :=
  if polEn s n && decide (s.lf (Reg.POL_P_CFG n) 12 4 ≤ (s.polder n).run) && decide (0 < (s.polder n).run) && !(s.polder n).acted &&
      !(s.bit Reg.POL_FB_STATUS 0) then
    let s := (s.modPolder n fun x => { x with acted := true }).count (Reg.POL_P_CNT_MISMATCH n)
    let s := s.event 0x0080 9 3 6 n (det 4 (s.rd (Reg.POL_P_SIG n)).toNat ++ det 4 expected.toNat ++ det 4 s.ras.nextFrame.toNat)
    when (s.lf (Reg.POL_P_CFG n) 3 1 == 1) (fbRaise 1 n (s.lf (Reg.POL_P_CFG n) 4 2)) s
  else s

/-- Mismatch reaction (R232). -/
def execPolderMismatch (n : Fin 64) (expected : Word) (s : State) : Host.Outcome State Fault Refusal :=
  done (polMismatch n.val expected s)

/-- A complete signature is compared with an expected value. -/
def polJudge (n : Nat) (ok : Bool) (expected : Word) (s : State) : State :=
  let s := polResult n (!ok) false s
  if ok then s.modPolder n fun x => { x with run := 0, acted := false }
  else polMismatch n expected (s.modPolder n fun x => { x with run := min 255 (x.run + 1) })

/-- A complete signature is shown and checked by its source (Table POL-1). A SHADOW polder left out, without an image, or held without a last
match, is SKIPPED. -/
def polCompare (n : Nat) (s : State) : State :=
  let sig := polSig s n
  let x := s.polder n
  let src := polSrc s n
  let shadow := shadowSig s n
  let out := shadowOut s
  let s := when (src == 2 && !out.isEmpty) (State.wb · Reg.POL_STATUS 2 true) s
  let skip := src == 2 && (out.contains n || (polHeld s n && x.lastShadow.isNone) || (!(polHeld s n) && shadow.isNone))
  let s := (s.wr (Reg.POL_P_SIG n) sig).modPolder n fun x => { x with prevSig := some sig }
  if skip then polSkip n s
  else
    match src with
    | 0 => polResult n false false s
    | 1 => polJudge n (sig == s.lrd (Reg.POL_P_EXPECT n)) (s.lrd (Reg.POL_P_EXPECT n)) s
    | 2 =>
      if polHeld s n then polJudge n (some sig == x.lastShadow) (x.lastShadow.getD 0) s
      else
        let ok := some sig == shadow
        polJudge n ok (shadow.getD 0) (when ok (fun u => u.modPolder n fun x => { x with lastShadow := some sig }) s)
    | _ => polJudge n (x.prevSig != some sig) (x.prevSig.getD 0) s

/-- The check of polder `n` (R229, R230), suspended while a fallback is in force (R247): when its footprint is complete, or SKIPPED at
blanking start (`last`); an empty footprint has no last segment and is checked at blanking start. -/
def polCheck (last : Bool) (n : Nat) (s : State) : State :=
  if !(polEn s n) || (s.polder n).checked || s.bit Reg.POL_FB_STATUS 0 || !s.ras.ran || s.ras.inBlank then s
  else if footComplete s n && (last || !(footSegs s n).isEmpty) then polCompare n (s.modPolder n fun x => { x with checked := true })
  else if last then polSkip n (s.modPolder n fun x => { x with checked := true })
  else s

/-- Polder check (R230). -/
def execPolderCheck (n : Fin 64) (s : State) : Host.Outcome State Fault Refusal := done (polCheck false n.val s)

/-! ### Commit (R233) -/

def polGroup (n : Nat) : List Nat := [Reg.POL_P_CFG n, Reg.POL_P_RECT_X n, Reg.POL_P_RECT_Y n, Reg.POL_P_EXPECT n]
def polRegs : List Nat := (List.range 64).flatMap polGroup

/-- Why a polder set fails, read through `v`, as a cause of COMMIT_REJECTED; 0 it passes. -/
def polSetFault (s : State) (v : Nat → Word) : Nat :=
  ((List.range 64).filterMap fun n =>
    let c := v (Reg.POL_P_CFG n)
    let x := v (Reg.POL_P_RECT_X n)
    let y := v (Reg.POL_P_RECT_Y n)
    if fld c 0 1 == 0 then none
    else if fld c 12 4 == 0 || decide (8192 < fld x 16 14) || decide (8192 < fld y 16 14) then some 1
    else if fld x 16 14 ≤ fld x 0 14 || decide (fld y 16 14 ≤ fld y 0 14) then some 5
    else if fld c 1 2 == 2 then
      (let k := fld c 6 2
       if slotShow s k != 1 || (s.snow.op.any fun o => o.code == 0x0A05 && o.slot == k) then some 2
       else if (slotImage s k).any (·.grid) then some 6 else none)
    else none).headD 0

/-- POL.COMMIT.COMMIT (R233). -/
def polCommit (s : State) : State :=
  when (s.crd (Reg.POL_P_CFG 0)).isSome (setRecommit 3 true) ((s.wb Reg.POL_STATUS 0 true).wb Reg.POL_STATUS 1 false)

end Sys2Proof.Machine
end

