-- ==== Sys2Proof/Machine/Scan.lean ====
section
/-! DEFINITION. Enabling a check-value channel and starting its scans (R354 to R359), and who uses which channel (R138,
R139, R187). -/
namespace Sys2Proof.Machine

/-! ### Channels -/

def chEn (s : State) (c : Nat) : Bool := s.bit (Reg.CRC_CH_CTRL c) 0
def chMode (s : State) (c : Nat) : Nat := s.fd (Reg.CRC_CH_CTRL c) 1 2
def chBusy (s : State) (c : Nat) : Bool := s.bit (Reg.CRC_CH_STATUS c) 0

/-- A channel is enabled in APPEND or CHECK_STRIP. -/
def chOnTransport (s : State) (c : Nat) : Bool := chEn s c && chMode s c != 0

/-- Layers whose live CHK names channel `c` (R139). -/
def chLayers (s : State) (c : Nat) : List Nat :=
  (List.range 8).filter fun n => s.lf (Reg.CMP_LAYER_CHK n) 0 1 == 1 && s.lf (Reg.CMP_LAYER_CHK n) 1 3 == c

/-- The table scan names channel `c`. -/
def chScanUser (s : State) (c : Nat) : Bool := s.bit Reg.CORR_CTRL 2 && s.fd Reg.CORR_CTRL 4 3 == c

/-- A channel is named under R138 or R187. -/
def chNamed (s : State) (c : Nat) : Bool := !(chLayers s c).isEmpty || chScanUser s c

/-! ### Populated memory (Table CRC-2) -/

/-- Region of a scan address: 1 DRAM, 2 MRAM, 3 snowpack, 4 register space; 0 none, or off. -/
def scanRegion (s : State) (a : Nat) : Nat :=
  if a < dramBytes then (if s.pwr.dramReady then 1 else 0)
  else if mramBase ≤ a && a < mramBase + 0x1000000 then 2
  else if snowBase ≤ a && a < snowBase + 0x8000 then 3
  else if winBase ≤ a && a < winBase + 0x1000000 then 4
  else 0

/-- START, LENGTH, BLOCK and STRIDE of a channel. -/
def chRange (s : State) (c : Nat) : Nat × Nat × Nat × Nat :=
  ((s.rd (Reg.CRC_CH_START_LO c)).toNat + s.fd (Reg.CRC_CH_START_HI c) 0 8 * 2 ^ 32, (s.rd (Reg.CRC_CH_LENGTH c)).toNat,
    (s.rd (Reg.CRC_CH_BLOCK c)).toNat, (s.rd (Reg.CRC_CH_STRIDE c)).toNat)

/-- Last byte of a scan. -/
def scanLast (r : Nat × Nat × Nat × Nat) : Nat :=
  if r.2.2.1 == 0 then r.1 + r.2.1 - 1
  else r.1 + (r.2.1 - 1) / r.2.2.1 * r.2.2.2 + (r.2.1 - 1) % r.2.2.1

/-- The range may be scanned (R355): its first and last byte lie in one populated region. No stride spans the gap between two
regions, so then every byte does. -/
def scanOk (s : State) (c : Nat) : Bool :=
  let r := chRange s c
  r.2.1 != 0 && (r.2.2.1 == 0 || decide (r.2.2.1 ≤ r.2.2.2)) && scanRegion s r.1 != 0 && scanRegion s r.1 == scanRegion s (scanLast r)

/-! ### Settings (R354, R359) -/

/-- The attachment of a channel is valid for its mode. -/
def attachOk (s : State) (c : Nat) : Bool :=
  let k := s.fd (Reg.CRC_CH_ATTACH c) 0 3
  let i := s.fd (Reg.CRC_CH_ATTACH c) 3 6
  if k == 1 || k == 2 then
    s.bit (Reg.CAN_MB_CFG (k - 1) i) 30 == (chMode s c == 1)
  else if k == 3 || k == 4 then true
  else k == 5 && decide (i < 8)

/-- The settings of a channel hold no reserved value. -/
def chFieldsOk (s : State) (c : Nat) : Bool :=
  let w := s.fd (Reg.CRC_CH_PARAM c) 0 6
  let win := s.fd (Reg.CRC_CH_PARAM c) 9 4
  chMode s c != 3 && decide (s.fd (Reg.CRC_CH_CTRL c) 3 3 ≤ 4) && decide (1 ≤ w ∧ w ≤ 32) &&
    decide (s.fd (Reg.CRC_CH_ATTACH c) 0 3 ≤ 5) &&
    (win != 0 && (s.bit (Reg.CRC_CH_PARAM c) 8 || decide (win ≤ 7)))

/-- A channel may be enabled: no reserved value, and a valid attachment outside SCAN. -/
def chSettingsOk (s : State) (c : Nat) : Bool := chFieldsOk s c && (chMode s c == 0 || attachOk s c)

/-- The point of a channel: KIND and INDEX, or PORT. -/
def chPoint (s : State) (c : Nat) : Nat × Nat :=
  let k := s.fd (Reg.CRC_CH_ATTACH c) 0 3
  (k, if k == 3 || k == 4 then s.fd (Reg.CRC_CH_ATTACH c) 16 16 else s.fd (Reg.CRC_CH_ATTACH c) 3 6)

/-- ATT_ERR of every channel (R359). -/
def attShow (s : State) : State :=
  forEach (List.range 8) (fun c t => t.wb (Reg.CRC_CH_STATUS c) 5
    (chOnTransport s c && (List.range c).any fun d => chOnTransport s d && chMode s d == chMode s c && chPoint s d == chPoint s c)) s

/-- A scan ends INVALID (R357): RESULT is a free value; the user that waits for it is served by the caller. -/
def scanInvalid (c : Nat) (s : State) : State :=
  let s := (s.wr (Reg.CRC_CH_RESULT c) (BitVec.ofNat 32 s.freeNow)).useFree
  ((((s.wb (Reg.CRC_CH_STATUS c) 0 false).wb (Reg.CRC_CH_STATUS c) 1 true).wb (Reg.CRC_CH_STATUS c) 2 true).count
    (Reg.CRC_CH_CNT_INVALID c))

/-- A scan begins. -/
def scanBegin (user : ScanUser) (c : Nat) (s : State) : State :=
  let s := s.wf (Reg.CRC_CH_STATUS c) 0 4 1
  s.modCrcCh c fun x => { x with user := user, fresh := true }

/-- CRC.CHc_CMD.START (R355, R356). -/
def chStart (c : Nat) (s : State) : State :=
  if !(chEn s c) || chMode s c != 0 then s
  else if chBusy s c then s.count (Reg.CRC_CH_CNT_START_BUSY c)
  else if scanOk s c then scanBegin .client c s
  else s.wb (Reg.CRC_CH_STATUS c) 3 true

/-- The channel is set to SCAN over an extent with CRC-32C and starts (R138, R187); a scan it already runs for this tick goes
first. -/
def scanExtent (user : ScanUser) (c addr len : Nat) (s : State) : State :=
  if chBusy s c then s.modCrcCh c fun x => { x with queue := x.queue ++ [(user, addr, len)] }
  else
    let s := ((((s.wr (Reg.CRC_CH_CTRL c) 0x11#32).wr (Reg.CRC_CH_START_LO c) (BitVec.ofNat 32 addr)).wr (Reg.CRC_CH_START_HI c)
      (BitVec.ofNat 32 (addr / 2 ^ 32 % 256))).wr (Reg.CRC_CH_LENGTH c) (BitVec.ofNat 32 len)).wr (Reg.CRC_CH_BLOCK c) 0
    scanBegin user c s

/-- A channel can serve a check of its user now: free of transports, and not busy with an earlier scan. -/
def chServes (s : State) (c : Nat) : Bool := !(chOnTransport s c) && (!(chBusy s c) || (s.crcCh c).fresh)

/-! ### Buffer checks (R138, R139) -/

/-- Layer `n` checks buffer `b` of surface `f`: its second scan where the first has the result `w`, else its first; skipped and counted
when the channel cannot serve. -/
def bufScan (n f b : Nat) (w : Option Word) (s : State) : State :=
  let c := s.lf (Reg.CMP_LAYER_CHK n) 1 3
  if s.lf (Reg.CMP_LAYER_CHK n) 0 1 == 0 then s
  else if (chLayers s c).head? == some n && chServes s c then
    match w with
    | some w => scanExtent (.second n f b w) c (bufAddr s f b) (surfBufBytes s f) s
    | none => (scanExtent (.first n f b) c (bufAddr s f b) (surfBufBytes s f) s).modLayer n fun x => { x with chkRun := some (c, f, b) }
  else s.count (Reg.CMP_LAYER_CNT_CHK_SKIP n)

/-- A scan is the second one of buffer `b` of surface `f` for layer `n`. -/
def ScanUser.isSecond (n f b : Nat) : ScanUser → Bool
  | .second m g c _ => m == n && g == f && c == b
  | _ => false

/-- The second scan of a buffer runs or waits. -/
def afterScan (s : State) (n f b : Nat) : Bool :=
  (List.range 8).any fun c => (chBusy s c && (s.crcCh c).user.isSecond n f b) || (s.crcCh c).queue.any fun q => q.1.isSecond n f b

end Sys2Proof.Machine
end

