-- ==== Sys2Proof/Machine/Layer.lean ====
section
/-! DEFINITION. Layers at the frame boundary: commits and their checks (R126 to R128, R454), ready and late (R130 to R133),
buffers read and retired (R136 to R138, R140). -/
namespace Sys2Proof.Machine

/-! ### Commits -/

/-- Registers of layer `n`'s set (R126). -/
def layerRegs (n : Nat) : List Nat :=
  [Reg.CMP_LAYER_CTRL n, Reg.CMP_LAYER_SRC n, Reg.CMP_LAYER_ALPHA n, Reg.CMP_LAYER_LEVEL n, Reg.CMP_LAYER_BG n,
    Reg.CMP_LAYER_MAT_A n, Reg.CMP_LAYER_MAT_B n, Reg.CMP_LAYER_MAT_C n, Reg.CMP_LAYER_MAT_D n, Reg.CMP_LAYER_MAT_E n,
    Reg.CMP_LAYER_MAT_F n, Reg.CMP_LAYER_MISS n, Reg.CMP_LAYER_CHK n]

/-- The global set. -/
def globalRegs : List Nat := [Reg.CMP_CANVAS, Reg.CMP_WMIX, Reg.CMP_LUT_BANK]

/-- CMP.LAYERn_COMMIT.COMMIT: COMMIT_PENDING until the capture; COMMIT_REJ clears (R127, R128). -/
def layerCommit (n : Nat) (s : State) : State :=
  (s.wb (Reg.CMP_LAYER_STATUS n) 1 true).wb (Reg.CMP_LAYER_STATUS n) 5 false

/-- CMP.GLOBAL_COMMIT.COMMIT. -/
def globalCommit (s : State) : State :=
  when (s.crd Reg.CMP_CANVAS).isSome (setRecommit 0 true) (s.wb Reg.CMP_STATUS 0 true)

/-- Why a layer set read through `v` fails every check of R128 but the limit, as a cause of COMMIT_REJECTED; 0 it passes. -/
def layerSetFault (s : State) (n : Nat) (v : Nat → Word) : Nat :=
  let c := v (Reg.CMP_LAYER_CTRL n)
  let m := v (Reg.CMP_LAYER_MISS n)
  let chk := v (Reg.CMP_LAYER_CHK n)
  let i := fld (v (Reg.CMP_LAYER_SRC n)) 0 8
  let src := fld c 1 3
  let en := fld c 0 1 == 1
  let ch := fld chk 1 3
  if decide (4 < src) || decide (4 < fld c 4 3) || decide (4 < fld c 7 3) || fld c 10 2 == 3 || fld m 0 8 == 0 || fld m 8 4 == 0 ||
      fld m 12 2 == 3 then 1
  else if en && (match src with
      | 0 => decide (64 ≤ i) || !(surfValid s i)
      | 2 => decide (2 ≤ i)
      | 3 => decide (16 ≤ i) || !(s.bit Reg.BEAM_GLYPH_VALID i)
      | 4 => decide (4 ≤ i) || !(slotHolds s i) || s.snow.op.any fun o => o.code == 0x0A05 && o.slot == i
      | _ => false) then 2
  else if en && src == 4 && (slotImage s i).any (·.grid) then 6
  else if fld chk 0 1 == 1 && (chScanUser s ch || chOnTransport s ch || (chLayers s ch).any (· != n) ||
      (List.range 8).any fun k => k != n && match s.crd (Reg.CMP_LAYER_CHK k) with
        | some w => fld w 0 1 == 1 && fld w 1 3 == ch
        | none => false) then 7
  else 0

/-- COMMIT_REJECTED of a block, about an object (R128). -/
def commitRejected (cls ocls idx block cause : Nat) (s : State) : State := s.event 0x0001 cls 1 ocls idx [block, cause]

/-- A captured layer set is discarded (R128). -/
def rejectLayer (n cause : Nat) (s : State) : State :=
  let s := ((((s.uncapture (layerRegs n)).wb (Reg.CMP_LAYER_STATUS n) 2 false).wb (Reg.CMP_LAYER_STATUS n) 1 false).wb
    (Reg.CMP_LAYER_STATUS n) 5 true).count (Reg.CMP_LAYER_CNT_COMMIT_REJ n)
  commitRejected 4 clsLayer n 0x06 cause s

/-- Capture of layer `n`'s pending set, with the checks of R128 but for the limit. -/
def captureLayer (n : Nat) (s : State) : State :=
  if !(s.bit (Reg.CMP_LAYER_STATUS n) 1) then s
  else
    let c := layerSetFault s n s.rd
    if c != 0 then rejectLayer n c s
    else ((s.capture (layerRegs n)).wb (Reg.CMP_LAYER_STATUS n) 1 false).wb (Reg.CMP_LAYER_STATUS n) 2 true

/-- Layers live-enabled. -/
def liveLayers (s : State) : List Nat := (List.range 8).filter (layEn s)

/-- Captured EN of a layer. -/
def capEn (s : State) (n : Nat) : Option Bool := (s.crd (Reg.CMP_LAYER_CTRL n)).map fun w => fld w 0 1 == 1

/-- keep and new of R454. -/
def keepLayers (s : State) : List Nat := (liveLayers s).filter fun n => capEn s n != some false
def newLayers (s : State) : List Nat := (List.range 8).filter fun n => !(layEn s n) && capEn s n == some true

/-- Rejections until the layers fit (R454). -/
def fitLayers (p : Nat) : Nat → State → State
  | 0, s => s
  | k + 1, s =>
    if layerFit p ((keepLayers s).length + (newLayers s).length) then s
    else match (newLayers s).getLast? with
      | none => s
      | some n => fitLayers p k (rejectLayer n 3 s)

/-- The limit of R454 over the sets captured at one blanking start, with a timing set when one is captured: a period that does
not fit is rejected (R46). -/
def captureLimit (s : State) : State :=
  let keep := (keepLayers s).length
  let new := (newLayers s).length
  let staged := stagedPeriod s
  let ok := periodInRange staged && (layerFit staged (keep + new) || layerFit staged keep)
  let s := if s.ras.commitCap && !ok then
      rejectTiming s
    else s
  fitLayers (if s.ras.commitCap then staged else period16 s) 8 s

/-- Every pending layer set and the global set are captured (R127). -/
def captureLayers (s : State) : State :=
  let s := forEach (List.range 8) captureLayer s
  when (s.bit Reg.CMP_STATUS 0) (State.capture · globalRegs) s

/-- CMP.STATUS and CMP.LAYER_FRAMES follow the live set (R116). -/
def cmpShow (s : State) : State :=
  let l := liveLayers s
  let s := (s.wf Reg.CMP_STATUS 8 8 (l.foldl (fun a n => a + 2 ^ n) 0)).wf Reg.CMP_STATUS 16 4 l.length
  let s := forEach (List.range 8) (fun n t => t.wb (Reg.CMP_LAYER_STATUS n) 0 (layEn t n)) s
  s.wr Reg.CMP_LAYER_FRAMES (BitVec.ofNat 32 (l.length * 1000000000 * 65536 / period16 s))

/-- The layer and global sets captured apply: counters and status bits; the words themselves move with every other captured
set. -/
def applyLayerMarks (s : State) : State :=
  let s := forEach (List.range 8) (fun n t =>
    if t.bit (Reg.CMP_LAYER_STATUS n) 2 then
      (t.wb (Reg.CMP_LAYER_STATUS n) 2 false).count (Reg.CMP_LAYER_CNT_COMMIT n)
    else t) s
  if (s.crd Reg.CMP_CANVAS).isSome then
    (setRecommit 0 false (s.wb Reg.CMP_STATUS 0 (recommitted s 0))).count Reg.CMP_CNT_GLOBAL_COMMIT
  else s

/-! ### Ready or late (R130 to R133) -/

/-- NO_SIGNAL of what fills surface `f`: its stream, or a subscription (R274). -/
def surfSignalLost (s : State) (f : Nat) : Bool :=
  let k := surfSource s f
  if k < 4 then s.bit (Reg.SDS_STR_STATUS k) 2
  else k == 5 && (List.range 16).any fun n => s.bit (Reg.FAB_SUB_CFG n) 0 && subSurf s n == f && s.bit (Reg.FAB_SUB_STATUS n) 0

/-- Layer `n` is late at this phase 0, before READY buffers become READING. -/
def layerLate (s : State) (n : Nat) : Bool :=
  match laySource s n with
  | 0 =>
    let f := layIndex s n
    let noReady := (bufIn s f bReady).isNone
    (noReady && ((s.surf f).wrRun.any fun r => decide (s.lf (Reg.CMP_LAYER_MISS n) 8 4 ≤ r))) ||
      (noReady && surfSignalLost s f) || (noReady && (s.surf f).discarded) || !(s.surf f).ever
  | 2 => if layIndex s n == 0 then !s.beam.done else !s.beam.baseDone
  | 3 => s.loads.any fun l => l.code == 0x0504 && l.obj == layIndex s n
  | _ => false

/-- The policy a layer takes (R118, R132): 1 HOLD, 2 HIDE, 3 FALLBACK. -/
def layerPolicy (s : State) (n : Nat) : Nat := if layClass s n == 0 then 3 else s.lf (Reg.CMP_LAYER_MISS n) 12 2 + 1

/-- The layer takes its miss policy (R132, R133). -/
def missPolicy (n : Nat) (s : State) : State :=
  if layEn s n && (s.layer n).policy == 0 && s.bit (Reg.CMP_LAYER_STATUS n) 3 &&
      decide (s.lf (Reg.CMP_LAYER_MISS n) 0 8 ≤ s.fd (Reg.CMP_LAYER_STATUS n) 8 8) then
    let p := layerPolicy s n
    let s := ((s.modLayer n fun x => { x with policy := p }).wb (Reg.CMP_LAYER_STATUS n) 4 true).count (Reg.CMP_LAYER_CNT_POLICY n)
    let s := s.event 0x0040 4 1 clsLayer n [p - 1]
    when (p == 3) (fbRaise 2 n (s.lf (Reg.CMP_LAYER_MISS n) 14 2)) s
  else s

/-- Miss policy (R132). -/
def execLayerMissPolicy (n : Fin 8) (s : State) : Host.Outcome State Fault Refusal := done (missPolicy n.val s)

/-- A late phase 0 of layer `n`. -/
def lateLayer (n : Nat) (s : State) : State :=
  let s := s.count (Reg.CMP_LAYER_CNT_LATE_FRAMES n)
  let s := s.wf (Reg.CMP_LAYER_STATUS n) 8 8 (min 255 (s.fd (Reg.CMP_LAYER_STATUS n) 8 8 + 1))
  missPolicy n (s.wb (Reg.CMP_LAYER_STATUS n) 3 true)

/-- A ready phase 0 of layer `n`: HOLD and HIDE end, and a FALLBACK policy that a clear ended raises LAYER_READY too (R132,
R248). -/
def readyLayer (n : Nat) (s : State) : State :=
  let x := s.layer n
  let s := (s.wf (Reg.CMP_LAYER_STATUS n) 8 8 0).wb (Reg.CMP_LAYER_STATUS n) 3 false
  let s := if x.policy == 1 || x.policy == 2 || x.cleared then s.event 0x0041 4 0 clsLayer n [] else s
  if x.policy == 1 || x.policy == 2 then
    (s.wb (Reg.CMP_LAYER_STATUS n) 4 false).modLayer n fun x => { x with policy := 0, cleared := false }
  else s.modLayer n fun x => { x with cleared := false }

/-- The decision on layer `n` at a phase 0. -/
def decideLayer (n : Nat) (s : State) : State :=
  if !(layEn s n) then
    ((s.wf (Reg.CMP_LAYER_STATUS n) 8 8 0).wf (Reg.CMP_LAYER_STATUS n) 3 2 0).modLayer n fun x =>
      { x with policy := 0, cleared := false }
  else if layerLate s n then (lateLayer n s).modLayer n fun x => { x with cleared := false }
  else readyLayer n s

/-- WRITING runs of surface `f` (R130). -/
def countWriting (f : Nat) (s : State) : State :=
  let l := (List.range 3).map fun b => if surfValid s f && bufState s f b == bWriting then (s.surf f).wrRun.getD b 0 + 1 else 0
  let l := if l.all (· == 0) then [] else l
  if (s.surf f).wrRun == l then s else s.modSurf f fun x => { x with wrRun := l }

/-! ### Buffers read (R131, R136, R138) -/

/-- The buffer layer `n` reads in the composition that starts: none under HIDE, or while nothing was published. -/
def layerBuffer (s : State) (n : Nat) : Option (Nat × Nat) :=
  if layEn s n && laySource s n == 0 && (s.layer n).policy != 2 then ((s.surf (layIndex s n)).cur).map (layIndex s n, ·) else none

/-- Layer `n` starts to read what it reads from this phase 0: a buffer it leaves waits for RETIRED, and
checks of buffers run: a buffer whose first scan still runs when it is left is not checked (R138). -/
def readLayer (n : Nat) (s : State) : State :=
  let x := s.layer n
  let new := layerBuffer s n
  let s := s.modLayer n fun x => { x with hidden := x.policy == 2, under := [] }
  if x.reading == new then s
  else
    let s := match x.reading with
      | none => s
      | some (f, b) =>
        let s := if x.chkRun.isSome then s.count (Reg.CMP_LAYER_CNT_CHK_SKIP n) else when x.chk.isSome (bufScan n f b x.chk) s
        s.modLayer n fun x => { x with retire := x.retire ++ [(f, b, s.ras.frame.toNat)] }
    let s := s.modLayer n fun y => { y with reading := new, chk := none, chkRun := none }
    match new with
    | none => s
    | some (f, b) =>
      (bufScan n f b none s).wf (Reg.CMP_LAYER_READING n) 0 10 (f + 256 * b)

/-- RETIRED of the oldest buffer layer `n` has left, once its second scan is done (R136). -/
def bufferRetired (n : Nat) (s : State) : State :=
  match (s.layer n).retire with
  | [] => s
  | (f, b, k) :: rest =>
    if afterScan s n f b then s
    else
      let s := s.modLayer n fun x => { x with retire := rest }
      let s := (s.wr (Reg.CMP_LAYER_RETIRED_BUF n) (BitVec.ofNat 32 (f + 256 * b))).wr (Reg.CMP_LAYER_RETIRED_FRAME n)
        (BitVec.ofNat 32 k)
      readDone f b (s.event 0x0042 4 0 clsLayer n ([f, b, 0, 0] ++ det 4 k))

/-- RETIRED (R136). -/
def execBufferRetired (n : Fin 8) (s : State) : Host.Outcome State Fault Refusal := done (bufferRetired n.val s)

/-- Prefetches of a layer disabled at this phase 0 are discarded and counted, one count per 64-byte burst (R140); how many were
issued is a free value. -/
def discardPrefetch (n : Nat) (s : State) : State :=
  if (s.layer n).reading.isSome && !(layEn s n) then (s.countBy (Reg.CMP_LAYER_CNT_DISCARD n) s.freeNow).useFree else s

/-- The layers' part of a phase 0, after the shadows apply (R107, R130 to R140). -/
def layersP0 (s : State) : State :=
  let s := forEach (List.range 8) discardPrefetch s
  let s := forEach (List.range 64) countWriting s
  let s := forEach (List.range 8) decideLayer s
  let s := forEach ((List.range 64).filter (surfValid s)) promote s
  forEach (List.range 8) readLayer s

end Sys2Proof.Machine
end

