-- ==== Sys2Proof/Machine/RasCtl.lean ====
section
/-! DEFINITION. Enabling the raster, with a timing commit that waits for it (R43, R46, R453). -/
namespace Sys2Proof.Machine

/-- A timing commit pending at the enabling tick is tested and takes effect there, or is discarded (R453). -/
def enablingTiming (s : State) : State :=
  if !(s.bit Reg.RAS_STATUS 4) then s
  else if periodInRange (stagedPeriod s) && layerFit (stagedPeriod s) (liveLayers s).length then
    applyTiming false s.tick16 0 (takeTiming s)
  else rejectTiming s

/-- TIMING to every ACTIVE link before the first phase 0 (R453). -/
def timingToAll (s : State) : State :=
  forEach (List.range 32) (fun n t =>
    if linkState t n == 6 then sendTiming n t.ras.nextFrame.toNat t else t) s

/-- RAS.CTRL.ENABLE written. -/
def rasEnable (v : Bool) (s : State) : State :=
  let was := rasOn s
  let s := s.wb Reg.RAS_CTRL 0 v
  if v == was then s
  else if v then timingToAll (armRaster (enablingTiming s))
  else stopRaster s

end Sys2Proof.Machine
end

