-- ==== Sys2Proof/Machine/Thermal.lean ====
section
/-! DEFINITION. Which sensor a segment uses, and its band in force (R174, R209, R391, R392). -/
namespace Sys2Proof.Machine

/-- A channel with ROLE OFF (Table HK-7). -/
def roleOff (s : State) (k : Nat) : Bool := decide (k < 12) && s.fd (Reg.HK_CH_CFG k) 0 2 == 0

/-- The banded sensor that a code of SENSOR or ALT names for segment `g`; none for a reserved code. -/
def sensorOf (g code : Nat) : Option Nat := if code < 12 then some code else if code == 12 then some (48 + g) else none

/-- A sensor counts as BROKEN where a sensor is selected (R174, R391). -/
def sensorBroken (s : State) (k : Nat) : Bool :=
  (sens s k).broken || roleOff s k ||
    (decide (48 ≤ k) && ((s.seg (k - 48)).temp.isNone || decide (16 ≤ (s.seg (k - 48)).tempAge)))

/-- The sensor that segment `g` uses: SENSOR, else ALT; none when both are BROKEN (R174). -/
def segSensor (s : State) (g : Nat) : Option Nat :=
  ([s.lf (Reg.SEG_SEG_CORR g) 0 4, s.lf (Reg.SEG_SEG_CORR g) 4 4].filterMap (sensorOf g)).find? fun k => !(sensorBroken s k)

/-- Band in force of a sensor; one that has given no value yet counts as B1 NORMAL (log entry 31). -/
def bandInForce (s : State) (k : Nat) : Nat := if (sens s k).band == 7 then 1 else (sens s k).band

/-- Temperature of the sensor of segment `g` in 1/16 °C (R196). -/
def segTempNow (s : State) (g : Nat) : Option Int :=
  (segSensor s g).bind fun k => if k < 48 then some (chValue s k) else (s.seg (k - 48)).temp

/-- BAND and THERM_FB of segment `g` follow its sensor; entry to B1 for want of a sensor counts once (R173, R174). -/
def thermShow (g : Nat) (s : State) : State :=
  let k := segSensor s g
  let b := match k with | some k => bandInForce s k | none => 1
  let was := s.bit (Reg.SEG_SEG_CORR g) 19
  let s := when (k.isNone && !was) (State.count · Reg.CORR_CNT_THERM_FB) s
  if was == k.isNone && segBand s g == b then s
  else (s.wb (Reg.SEG_SEG_CORR g) 19 k.isNone).wf (Reg.SEG_SEG_CORR g) 20 3 b

/-- Every segment's band follows. -/
def thermShowAll (s : State) : State := forEach (List.range 256) thermShow s

/-- Highest band in force among the sensors that segments use (R209). -/
def arrayBand (s : State) : Nat := ((List.range 256).filterMap fun g => (segSensor s g).map (bandInForce s)).foldl max 0

/-- THERMAL capacity factor in percent (R209, R392). -/
def thermFactor (s : State) : Nat :=
  if s.bit Reg.HK_STATUS 0 then 50
  else match arrayBand s with | 3 => s.fd Reg.SUP_THERM 0 7 | 4 => s.fd Reg.SUP_THERM 8 7 | _ => 100

end Sys2Proof.Machine
end

