-- ==== Sys2Proof/Machine/Supply.lean ====
section
/-! DEFINITION. The light supply: the stage and its faults (R206 to R208, R224, R225), capacity (R209), demand (R210 to
R212), phase plan (R213 to R216), setpoint, tracker and feed-forward (R217 to R219), derating (R220 to R223). Currents are
exact integers in units of which `ampU` make one ampere. -/
namespace Sys2Proof.Machine

/-- Units of current in one ampere: a quarter of 1 µA / (1,023 × 128 × 65,535), so that R210 and the factor 0.75 of R209 are
exact. -/
def ampU : Nat := 4 * 1000000 * (1023 * 128 * 65535)

/-- A quantity shown in steps of `d`: where it falls between two, which one is shown is a free value (the spec states no
rounding). `useFree` must follow. -/
def stepShow (s : State) (x d : Nat) : Nat := x / d + if x % d == 0 then 0 else s.freeNow % 2

/-- A current in 0.1 A. -/
def tenths (s : State) (x : Nat) : Nat := stepShow s (x * 10) ampU

/-! ### The stage (R206, R208) -/

def supRunning (s : State) : Bool := s.bit Reg.SUP_STATUS 0

/-- Phases enabled and healthy. -/
def supPhases (s : State) : List Nat := (List.range 6).filter fun p => s.bit Reg.SUP_PHASE_EN p && !(s.sup.off.testBit p)

/-- Phases running follow. -/
def supShow (s : State) : State :=
  s.wf Reg.SUP_STATUS 8 6 (if supRunning s then (supPhases s).foldl (fun a p => a + 2 ^ p) 0 else 0)

/-- Level of PH_EN (R206): 0 low, 1 high, 2 high impedance. -/
def phEnLevel (s : State) : Nat := if s.pwr.inReset then 2 else if supRunning s then 1 else 0

/-- Level of PH_PWMn (R206): 0 low, 1 switching, 2 high impedance. -/
def phPwmLevel (s : State) (p : Nat) : Nat :=
  if s.pwr.inReset then 2 else if !(supRunning s) then 0 else if (supPhases s).contains p then 1 else 2

/-- V_set in mV (R217): V_base + FF, at least VLED_MIN, then at most VLED_MAX, rounded up to 10 mV. -/
def vSet (s : State) : Nat :=
  let v := min ((s.fd Reg.SUP_VLED_MAX 0 11 * 10 : Nat) : Int) (max ((s.fd Reg.SUP_VLED_MIN 0 11 * 10 : Nat) : Int) (s.sup.vbase + s.sup.ff))
  (v.toNat + 9) / 10 * 10

/-- SUP.VSET shows V_set and V_base; V_base falls between two steps of 10 mV, and which one shows is a free value. -/
def vsetShow (s : State) : State :=
  let b : Int := s.sup.vbase / 10 + if s.sup.vbase % 10 == 0 then 0 else ((s.freeNow % 2 : Nat) : Int)
  (s.wr Reg.SUP_VSET (BitVec.ofNat 32 (vSet s / 10 + wrapInt 11 b * 65536))).useFree

/-- The stage may run: enabled, not latched off, no restart pending, powered, its balls not held (R206, R224, R424). -/
def supMay (s : State) : Bool :=
  s.bit Reg.SUP_CTRL 0 && !(s.bit Reg.SUP_STATUS 5) && !s.sup.ovWait && decide (s.pwr.state ≤ 1) &&
    !(s.bit Reg.PMU_STATE 12)

/-- Soft start (R208, R217). -/
def softStart (s : State) : State :=
  if !(supMay s) then s
  else
    let s := { s with sup := { s.sup with
      vbase := (s.fd Reg.SUP_VLED_INIT 0 11 * 10 : Nat), ff := 0, ffNext := none, fsw := s.fd Reg.SUP_FSW 0 8 } }
    supShow (vsetShow (((s.wb Reg.SUP_STATUS 0 true).wb Reg.SUP_STATUS 1 true).wb Reg.SUP_STATUS 3 false))

/-- The stage stops: PH_EN and every PH_PWMn low. -/
def supStop (s : State) : State := supShow ((s.wb Reg.SUP_STATUS 0 false).wb Reg.SUP_STATUS 1 false)

/-- What stands of the supply conditions of Table HLT-2. -/
def supplyFault (s : State) : Bool :=
  s.bit Reg.SUP_STATUS 3 || s.bit Reg.SUP_STATUS 4 || s.bit Reg.SUP_STATUS 5 || s.bit Reg.SUP_STATUS 6 || s.sup.off != 0 ||
    s.hlt.vinUnder || s.hlt.vinOver

/-- SUP.CTRL.EN written (R206, R217). -/
def supEnable (v : Bool) (s : State) : State :=
  let was := s.bit Reg.SUP_CTRL 0
  let s := s.wb Reg.SUP_CTRL 0 v
  if v == was then s else if v then softStart s else supStop s

/-- SUP.PHASE_EN written: it applies at once (R225), and the rewrite of a phase's bit ends its fault (R224). -/
def supPhaseEn (w : Word) (s : State) : State :=
  let s := s.swWrite Reg.SUP_PHASE_EN w
  supShow { s with sup := { s.sup with off := 0 } }

/-- SUP.RESTART: LATCHED_OFF and a pending restart end, and a stage that does not run starts (R224). -/
def supRestart (s : State) : State :=
  let s := { (s.wb Reg.SUP_STATUS 5 false) with sup := { s.sup with ovWait := false } }
  if supRunning s then s else softStart (s.wb Reg.SUP_STATUS 3 false)

/-- The rail reaches V_set (R217). -/
def softDone (s : State) : State := s.wb Reg.SUP_STATUS 1 false

/-- SOFTSTART clears (R217). -/
def execSoftstartDone (s : State) : Host.Outcome State Fault Refusal := done (softDone s)

/-! ### Faults (R224) -/

/-- SUPPLY_FAULT (Table CMD-13). -/
def supplyEvent (kind phase : Nat) (s : State) : State := s.event 0x0072 8 2 9 0 [kind, phase]

/-- SUP.REACT.FB_SLOT. -/
def supSlot (s : State) : Nat := s.fd Reg.SUP_REACT 0 2

/-- VLED overvoltage: the stage stops, the fallback is raised; a second one within 1 s latches off. -/
def overvoltage (s : State) : State :=
  let again := match s.sup.ovLast with | some t => decide (s.tickNs - t ≤ 1000000000) | none => false
  let s := { s with sup := { s.sup with ovWait := !again, ovLast := some s.tickNs } }
  let s := supStop ((s.wb Reg.SUP_STATUS 3 true).wb Reg.SUP_STATUS 5 (again || s.bit Reg.SUP_STATUS 5))
  fbRaise 4 0 (supSlot s) (supplyEvent 1 0 (s.count Reg.SUP_CNT_OV))

/-- VLED overvoltage (R224). -/
def execVledOvervoltage (s : State) : Host.Outcome State Fault Refusal := done (overvoltage s)

/-- 10 ms after an overvoltage the stage restarts by soft start. -/
def ovRestart (s : State) : State :=
  if s.sup.ovWait && !(s.bit Reg.SUP_STATUS 5) then
    let s := s.advanceTo (ns16 (s.sup.ovLast.getD 0 + 10000000 : Nat))
    softStart ({ s with sup := { s.sup with ovWait := false } }.wb Reg.SUP_STATUS 3 false)
  else s

/-- Restart after an overvoltage (R224). -/
def execOvRestart (s : State) : Host.Outcome State Fault Refusal := done (ovRestart s)

/-- VLED undervoltage, outside soft start. -/
def undervoltage (s : State) : State :=
  if supRunning s && !(s.bit Reg.SUP_STATUS 1) then
    let s := { s with sup := { s.sup with uvTrip := true, uvLast := s.tickNs } }
    supplyEvent 2 0 ((s.wb Reg.SUP_STATUS 4 true).count Reg.SUP_CNT_UV)
  else s

/-- VLED undervoltage (R224). -/
def execVledUndervoltage (s : State) : Host.Outcome State Fault Refusal := done (undervoltage s)

/-- While the raster is disabled, one frame period without a trip ends the undervoltage condition. -/
def undervoltageEnd (s : State) : State :=
  if s.bit Reg.SUP_STATUS 4 && !(rasOn s) then
    (s.advanceTo (ns16 s.sup.uvLast + (period16 s : Int))).wb Reg.SUP_STATUS 4 false
  else s

/-- End of VLED undervoltage while the raster is disabled (R224). -/
def execVledUndervoltageEnd (s : State) : Host.Outcome State Fault Refusal := done (undervoltageEnd s)

/-- A phase is disabled by a fault of kind 3 or 4. -/
def phaseOff (kind p : Nat) (s : State) : State :=
  if supRunning s && (supPhases s).contains p then
    let s := { s with sup := { s.sup with off := s.sup.off + 2 ^ p } }
    supplyEvent kind p (supShow (s.count Reg.SUP_CNT_PHASE_OFF))
  else s

/-- Phase imbalance (R224). -/
def execPhaseImbalance (p : Fin 6) (s : State) : Host.Outcome State Fault Refusal := done (phaseOff 3 p.val s)

/-- Current sense open (R224). -/
def execCurrentSenseOpen (p : Fin 6) (s : State) : Host.Outcome State Fault Refusal := done (phaseOff 4 p.val s)

/-! ### Demand (R210 to R212) -/

/-- The window of a segment in 64ths of a frame, and its current per class. G divides 64, so a slot is a whole number of
them. -/
structure Win where
  seg : Nat
  start : Nat
  len : Nat
  i : List Nat
  deriving DecidableEq, Repr

/-- Length of window W in 64ths. -/
def winLen (w : Nat) : Nat := if w == 0xFFFF then 64 else w / 1024

/-- Sums of codes of the lamps of segment `g`, per class. -/
def codeSums (s : State) (g : Nat) (codes : List Nat) : List Nat :=
  let l := ((List.range 4096).zip codes).map fun e => (lampClass s g (corrRecord s (g * 4096 + e.1)), e.2)
  (List.range 3).map fun c => (l.filter fun e => e.1 == c).foldl (fun a e => a + e.2) 0

/-- Sums of the default pattern of segment `g` per class; none with DEFAULT_SEL = 0 (R212). -/
def defaultSums (s : State) (g : Nat) : List Nat := if s.bit (Reg.SEG_SEG_CFG g) 16 then codeSums s g (s.seg g).defCodes else []

/-- The window of a segment with given S, W, reference and trim, and sums of codes. -/
def winOf (s : State) (g st w iref trim : Nat) (sums : List Nat) : Win :=
  { seg := g, start := st / 1024, len := winLen w, i := sums.map (4 * s.fd Reg.SUP_LAMP_I 0 16 * iref * trim * ·) }

/-- With the values in force at its driver. -/
def winForce (s : State) (g : Nat) (sums : List Nat) : Win :=
  let x := s.seg g
  winOf s g x.sNow x.wNow x.irefNow x.trimNow sums

/-- Sums of a segment that shows no fresh codes: HOLD its last latched ones, DEFAULT its pattern; STARTING, ABSENT and MISMATCH count 0. -/
def heldSums (s : State) (g : Nat) : Option (List Nat) :=
  match segState s g with
  | 3 => some (s.seg g).lastSums
  | 4 => some (defaultSums s g)
  | _ => none

/-- Every segment's window in the frame being lit. In IDLE segments are dark (R225). -/
def litWins (s : State) : List Win :=
  if s.pwr.state == 1 then [] else
  (List.range 256).filterMap fun g =>
    (if segState s g == 2 then some (s.seg g).lastSums else heldSums s g).map (winForce s g)

/-- The window of a segment in the frame to come, which starts at `st` if it follows the plan: the live reference (R210), the plan's length and
the live trim; one whose SEG_CMD was not acknowledged keeps its S, W and trim (R216). -/
def winNext (s : State) (g st : Nat) (sums : List Nat) : Win :=
  let x := s.seg g
  if x.stale then winOf s g x.sNow x.wNow (s.lf Reg.SUP_IREF 0 10) x.trimNow sums
  else winOf s g st (planW s) (s.lf Reg.SUP_IREF 0 10) (liveTrim s g) sums

/-- Every segment's window in the frame to come: LIVE segments by a plan's slots and the sums `f` selects, HOLD and DEFAULT with their S in
force (R212). -/
def nextWins (s : State) (f : SegSt → List Nat) (slots : List Nat) : List Win :=
  if s.pwr.state == 1 then [] else
  (List.range 256).filterMap fun g =>
    let x := s.seg g
    if segState s g == 2 then some (winNext s g (slots.getD g 0 * (65536 / s.sup.planG)) (f x))
    else (heldSums s g).map (winNext s g x.sNow)

/-- Current of class `c` that a list of windows puts into 64th `j`, counted on past the end of its own frame. -/
def winSum (l : List Win) (c j : Nat) : Nat :=
  l.foldl (fun a w => a + if w.start ≤ j ∧ j < w.start + w.len then w.i.getD c 0 else 0) 0

/-- Demand of class `c` in 64th `j`: the frame's windows and those carried over from the frame before. -/
def demand (this carry : List Win) (c j : Nat) : Nat := winSum this c j + winSum carry c (j + 64)

/-- Every 64th's demand per class. -/
def demands (this carry : List Win) : List (Nat × Nat × Nat) :=
  (List.range 64).map fun j => (demand this carry 0 j, demand this carry 1 j, demand this carry 2 j)

/-- The peak. -/
def peakOf (d : List (Nat × Nat × Nat)) : Nat := d.foldl (fun a e => max a (e.1 + e.2.1 + e.2.2)) 0

/-! ### Capacity (R209) -/

/-- The CURRENT terms. -/
def currentTerms (s : State) : List Nat :=
  [s.fd Reg.SUP_ILIM 0 7 * ampU, s.fd Reg.SUP_PHASE_ILIM 0 5 * (supPhases s).length * ampU] ++
    if s.bit Reg.SUP_STATUS 4 then [s.sup.peakLit * 3 / 4] else []

/-- The THERMAL term. -/
def thermalTerm (s : State) : Nat := s.fd Reg.SUP_ILIM 0 7 * (ampU / 100) * thermFactor s

/-- The HOST term, when there is one. -/
def hostTerm (s : State) : Option Nat :=
  if s.fd Reg.SUP_HOST_LIMIT 0 7 == 0 then none else some (s.fd Reg.SUP_HOST_LIMIT 0 7 * ampU)

/-- C. -/
def capacity (s : State) : Nat :=
  ((currentTerms s).tail ++ [thermalTerm s] ++ (hostTerm s).toList).foldl min ((currentTerms s).headD 0)

/-- Causes of a demand as DERATE_STATUS [29:27]: CURRENT, THERMAL, HOST. -/
def causes (s : State) (peak : Nat) : Nat :=
  (if (currentTerms s).any fun t => decide (t < peak) then 1 else 0) + (if thermalTerm s < peak then 2 else 0) +
    (if (hostTerm s).any fun t => decide (t < peak) then 4 else 0)

/-- SUP.CAPACITY shows C. -/
def capShow (s : State) : State := (s.wf Reg.SUP_CAPACITY 0 11 (tenths s (capacity s))).useFree

/-! ### Phase plan (R213 to R216) -/

/-- Segments that keep their slot. -/
def keepsSlot (s : State) (g : Nat) : Bool := let x := segState s g; x == 1 || x == 3 || x == 4

/-- Slots kept, as places in the frame (a change of G keeps the place; log entry 32). -/
def keptSlots (s : State) (oldG newG : Nat) : List Nat := (List.range 256).map fun g => (s.seg g).slot * newG / oldG

/-- The levelling plan (R214). -/
def levelSlots (s : State) (g : Nat) (kept : List Nat) : List Nat :=
  let cur (n : Nat) : Nat := match (nextWins s (·.pre) kept).find? (·.seg == n) with | some w => w.i.foldl (· + ·) 0 | none => 0
  let iv := (List.range 256).map cur
  let tot := (List.range 256).foldl (fun (t : List Nat) n =>
    if keepsSlot s n then t.set (kept.getD n 0) (t.getD (kept.getD n 0) 0 + iv.getD n 0) else t) (List.replicate g 0)
  let order := sortBy (fun a b => decide (iv.getD b 0 ≤ iv.getD a 0)) ((List.range 256).filter fun n => !(keepsSlot s n))
  let best (t : List Nat) : Nat := (List.range g).foldl (fun x y => if t.getD y 0 < t.getD x 0 then y else x) 0
  (order.foldl (fun (a : List Nat × List Nat) n =>
    let x := best a.1
    (a.1.set x (a.1.getD x 0 + iv.getD n 0), a.2.set n x)) (tot, kept)).2

/-- The default plan. -/
def defaultSlots (s : State) (g : Nat) (kept : List Nat) : List Nat :=
  (List.range 256).map fun n => if keepsSlot s n then kept.getD n 0 else n * g / 256

/-- SEG.SEGn_PLAN shows the plan, or what is in force for a segment whose SEG_CMD was not acknowledged. -/
def planShow (g : Nat) (s : State) : State :=
  let x := s.seg g
  let w := if x.stale then x.sNow + x.sNow * s.sup.planG / 65536 * 65536 else planS s g + x.slot * 65536
  if s.rd (Reg.SEG_SEG_PLAN g) == BitVec.ofNat 32 w then s else s.wr (Reg.SEG_SEG_PLAN g) (BitVec.ofNat 32 w)

/-- The plan of the frame after next (R213 to R215). -/
def makePlan (s : State) : State :=
  let mode := s.lf Reg.SUP_PLAN 0 1
  let g := min 64 (2 ^ s.lf Reg.SUP_PLAN 1 3)
  let m := s.lf Reg.SUP_PLAN 4 7
  let changed := mode != s.sup.planMode || g != s.sup.planG || m != s.sup.planM
  let kept := keptSlots s s.sup.planG g
  let s := { s with sup := { s.sup with planMode := mode, planG := g, planM := m } }
  let cand := if mode == 1 then levelSlots s g kept else defaultSlots s g kept
  let peak (l : List Nat) : Nat := peakOf (demands (nextWins s (·.pre) l) (litWins s))
  let adopt := changed || (mode == 1 && decide (peak cand * (100 + s.lf Reg.SUP_PLAN 13 7) < peak kept * 100))
  let s := when adopt (State.count · Reg.SUP_CNT_PLAN) s
  let slots := if adopt || mode == 0 then cand else kept
  forEach (List.range 256) (fun n t =>
    planShow n (if (t.seg n).slot == slots.getD n 0 then t else t.modSeg n fun x => { x with slot := slots.getD n 0 })) s

/-! ### Derating (R220, R221, R223) -/

/-- Largest factor in 256ths, over the 64ths with `b` above 0, that keeps `a` + factor × `b` within `c`. -/
def fitFactor (c : Nat) (l : List (Nat × Nat)) : Nat :=
  l.foldl (fun f e => if e.2 == 0 then f else min f (256 * (c - e.1) / e.2)) 256

/-- The fitting factor is exactly 0: some 64th leaves no room. -/
def fitNone (c : Nat) (l : List (Nat × Nat)) : Bool := l.any fun e => decide (0 < e.2 ∧ c ≤ e.1)

/-- F1 and F2 for class demands. -/
def factors (c : Nat) (d : List (Nat × Nat × Nat)) : Nat × Nat :=
  let two := d.map fun e => (e.1 + e.2.1, e.2.2)
  (if fitNone c two then fitFactor c (d.map fun e => (e.1, e.2.1)) else 256, fitFactor c two)

/-- Class 0 demand over capacity: shown, counted, and at its entry the event and the fallback (R221). -/
def class0Over (ovr : Bool) (s : State) : State :=
  let was := s.bit Reg.SUP_STATUS 6
  let s := s.wb Reg.SUP_STATUS 6 ovr
  if !ovr then s
  else
    let s := s.count Reg.SUP_CNT_CLASS0_OVER
    if was then s else fbRaise 4 0 (supSlot s) (supplyEvent 5 0 s)

/-- Factors of the frame after next (R220 to R223). -/
def derate (s : State) : State :=
  let d := demands (nextWins s (·.pre) ((List.range 256).map fun g => (s.seg g).slot)) (litWins s)
  let c := capacity s
  let p := peakOf d
  let cs := causes s p
  let ovr := d.any fun e => decide (c < e.1)
  let f := if ovr then (0, 0) else factors c d
  let s := class0Over ovr (capShow s)
  let s := (s.wf Reg.SUP_PEAK 0 11 (tenths s p)).useFree
  let s := s.wr Reg.SUP_DERATE_STATUS (BitVec.ofNat 32 (256 + f.1 * 2 ^ 9 + f.2 * 2 ^ 18 + cs * 2 ^ 27 + if ovr then 2 ^ 30 else 0))
  let now := decide (f.1 < 256 ∨ f.2 < 256)
  let was := s.sup.derated
  let s := { s with sup := { s.sup with derated := now } }
  if now then
    let s := s.count Reg.SUP_CNT_DERATE
    if was then s else s.event 0x0070 8 1 9 0 (det 2 f.1 ++ det 2 f.2 ++ [cs])
  else if was then s.event 0x0071 8 0 9 0 [] else s

/-! ### Tracker (R218) -/

/-- Lowest headroom of the frame evaluated, and its segment. -/
def hmin (s : State) : Option (Nat × Nat) :=
  ((List.range 256).filterMap fun g => match (s.seg g).head1 with
    | some h => if h == 0xFFFF then none else some (h, g)
    | none => none).foldl (fun a e => match a with | none => some e | some b => if e.1 < b.1 then some e else some b) none

/-- V_base follows the lowest headroom; held in IDLE (R225). -/
def track (s : State) : State :=
  if !(s.bit Reg.SUP_CTRL 1) || s.pwr.state == 1 then s
  else
    match hmin s with
    | none => s.wb Reg.SUP_STATUS 2 false
    | some (h, g) =>
      let e : Int := (h : Int) - s.lf Reg.SUP_BERM 0 10
      let up : Int := (s.fd Reg.SUP_TRACK 8 8 * 10 : Nat)
      let dn : Int := (s.fd Reg.SUP_TRACK 16 8 * 10 : Nat)
      let dv := max (-dn) (min up (-(e * (s.fd Reg.SUP_TRACK 0 5 : Nat) / 16)))
      let s := vsetShow { s with sup := { s.sup with vbase := s.sup.vbase + dv } }
      let lim := vSet s == s.fd Reg.SUP_VLED_MAX 0 11 * 10 && decide (h < s.lf Reg.SUP_BERM 0 10)
      let s := s.wr Reg.SUP_HMIN (BitVec.ofNat 32 (h + g * 65536))
      (when lim (State.count · Reg.SUP_CNT_HEADROOM_LIM) s).wb Reg.SUP_STATUS 2 lim

/-! ### Measured values -/

/-- Measured VLED and mean phase currents while the stage runs: what is measured is a free value. -/
def supMeasure (s : State) : State :=
  if !(supRunning s) then s
  else
    let s := (s.wf Reg.SUP_VLED_MEAS 0 11 s.freeNow).useFree
    forEach (List.range 6) (fun p t => (t.wf (Reg.SUP_PH_I p) 0 10 t.freeNow).useFree) s

/-! ### The supply at a phase 0 and at a blanking start -/

/-- Before the plan: the end of an undervoltage, a falling setpoint, the factors and late trims that now light, the tracker. -/
def supLit (s : State) : State :=
  let s := if s.sup.uvTrip then s else s.wb Reg.SUP_STATUS 4 false
  let s := { s with sup := { s.sup with uvTrip := false } }
  let s := match s.sup.ffNext with
    | some f => vsetShow { s with sup := { s.sup with ff := f, ffNext := none } }
    | none => s
  let s := s.wr Reg.SUP_DERATE_LIT (s.rd Reg.SUP_DERATE_STATUS)
  let s := forEach (List.range 256) (fun g t =>
    let b := (t.seg g).lateNext && !(t.seg g).stale
    let t := if t.bit (Reg.SEG_SEG_IREF g) 29 == b then t else t.wb (Reg.SEG_SEG_IREF g) 29 b
    if (t.seg g).lateNext then t.modSeg g fun x => { x with lateNext := false } else t) s
  supMeasure (track s)

/-- Plan, capacity and factors of the frame after next (R213, R220). The frame last lit is the one that this phase 0 ends. -/
def supPlan (s : State) : State :=
  let s := derate (makePlan s)
  { s with sup := { s.sup with peakLit := s.sup.peakNext } }

/-- A segment may be trimmed late: it has no SAFE lamp and gets a SEG_CMD in this blanking (R222). -/
def trimmable (s : State) (g : Nat) : Bool :=
  segLive s g && linkState s (g / 8) == 6 && !(upAsleep s (g / 8)) && s.fd (Reg.SEG_SEG_IREF g) 16 13 == 0

/-- A decorative segment. -/
def decorative (s : State) (g : Nat) : Bool := s.lf (Reg.SEG_SEG_CORR g) 8 1 == 1

/-- All classes of a window as one. -/
def Win.whole (w : Win) : Nat := w.i.foldl (· + ·) 0

/-- The demand of R222: fixed, trimmable and not decorative, trimmable and decorative. -/
def lateWins (s : State) (this carry : List Win) : List (Nat × Nat × Nat) :=
  let fix := (this.filter fun w => !(trimmable s w.seg)).map fun w => { w with i := [w.whole] }
  let one := (this.filter fun w => trimmable s w.seg && !(decorative s w.seg)).map fun w => { w with i := [w.whole] }
  let two := (this.filter fun w => trimmable s w.seg && decorative s w.seg).map fun w => { w with i := [w.whole] }
  let old := carry.map fun w => { w with i := [w.whole] }
  (List.range 64).map fun j => (winSum fix 0 j + winSum old 0 (j + 64), winSum one 0 j, winSum two 0 j)

/-- What late trim gives segment `g`: floor(TRIM × G / 256). -/
def lateTrimOf (s : State) (f : Nat × Nat) (g : Nat) : Nat :=
  if trimmable s g then liveTrim s g * (if decorative s g then f.2 else f.1) / 256 else liveTrim s g

/-- The frame to come is trimmed late when its actual demand exceeds C (R222): the factors (256: none), and the state. -/
def lateTrim (s : State) : (Nat × Nat) × State :=
  let slots := (List.range 256).map fun g => (s.seg g).slot
  let this := nextWins s (·.post) slots
  let carry := litWins s
  let d := demands this carry
  let c := capacity s
  if !(s.bit Reg.SUP_CTRL 3) then ((256, 256), s)
  else
    let s := class0Over (d.any fun e => decide (c < e.1)) (capShow s)
    if peakOf d ≤ c then ((256, 256), s)
    else
      let l := lateWins s this carry
      let f := factors c l
      let s := s.count Reg.SUP_CNT_LATE_TRIM
      let s := forEach (List.range 256) (fun g t =>
        if trimmable t g && lateTrimOf t f g != liveTrim t g then t.modSeg g fun x => { x with lateNext := true } else t) s
      let ovr := l.any fun e => decide (c < e.1)
      (f, if ovr then supplyEvent 6 0 (s.count Reg.SUP_CNT_LATE_OVER) else s)

/-- Feed-forward from the actual peak of the frame to come, after late trim `f` (R219): a rise starts now, a fall at phase 0. -/
def feedForward (f : Nat × Nat) (s : State) : State :=
  let slots := (List.range 256).map fun g => (s.seg g).slot
  let this := (nextWins s (·.post) slots).map fun w =>
    let t := if (s.seg w.seg).stale then (s.seg w.seg).trimNow else liveTrim s w.seg
    if f == (256, 256) || !(trimmable s w.seg) || t == 0 then w
    else { w with i := w.i.map fun x => x / t * lateTrimOf s f w.seg }
  let p := peakOf (demands this (litWins s))
  let s := (s.wf Reg.SUP_PEAK 16 11 (tenths s p)).useFree
  let s := { s with sup := { s.sup with peakNext := p } }
  let ff := if s.bit Reg.SUP_CTRL 2 then (s.fd Reg.SUP_FF_GAIN 0 10 * p * 2 + ampU) / (2 * ampU) else 0
  let up := { s with sup := { s.sup with ff := ff, ffNext := none } }
  if vSet s < vSet up then vsetShow up else { s with sup := { s.sup with ffNext := some ff } }

end Sys2Proof.Machine
end

