-- ==== Sys2Proof/Machine/Health.lean ====
section
/-! DEFINITION. Lamp and segment health (R189 to R202): reports, classes, drift verdicts, the failure map, events, segment
faults and the reference capture. -/
namespace Sys2Proof.Machine

/-! ### The failure map (R199) -/

/-- First byte of the map, and its length. -/
def mapBase (s : State) : Nat := s.fd Reg.HLT_MAP_BASE 0 9 * 2 ^ 20
def mapBytes : Nat := 0x40000

/-- Byte `i` of the map: the classes of four lamps. -/
def mapByte (s : State) (i : Nat) : Byte :=
  BitVec.ofNat 8 (mapClass s (4 * i) + 4 * mapClass s (4 * i + 1) + 16 * mapClass s (4 * i + 2) + 64 * mapClass s (4 * i + 3))

/-- The bytes of a stretch of memory that hold anything are set to 0. -/
def clearBytes (a n : Nat) (s : State) : State :=
  forEach ((s.mem.map (·.1)).filter fun x => decide (a ≤ x ∧ x < a + n)) (fun x t => t.putByte x 0) s

/-- The whole map is written to DRAM, as at each evaluation; to a base that has moved too. Without DRAM in service no byte of it is
(DEDUCED, log entry 90). -/
def mapWrite (s : State) : State :=
  if !s.pwr.dramReady then s
  else forEach (s.hlt.lamps.map fun e => e.1 / 4) (fun i t => t.putByte (mapBase t + i) (mapByte t i)) (clearBytes (mapBase s) mapBytes s)

/-- The class of a lamp, its place in the map, and the counts that follow it. -/
def setClass (lamp c : Nat) (s : State) : State :=
  let old := mapClass s lamp
  let s := s.setLamp lamp { s.lamp lamp with cls := c }
  let s := when s.pwr.dramReady (fun t => t.putByte (mapBase t + lamp / 4) (mapByte t (lamp / 4))) s
  let move (r lo len : Nat) (was is : Bool) (u : State) : State :=
    if was == is then u else u.wf r lo len (if is then u.fd r lo len + 1 else u.fd r lo len - 1)
  let dead (k : Nat) : Bool := k == 1 || k == 2
  let s := move (Reg.HLT_SEG_COUNT (lamp / 4096)) 0 13 (dead old) (dead c) s
  let s := move (Reg.HLT_SEG_COUNT (lamp / 4096)) 13 13 (old == 3) (c == 3) s
  let s := move Reg.HLT_TOTAL_OPEN 0 21 (old == 1) (c == 1) s
  let s := move Reg.HLT_TOTAL_SHORT 0 21 (old == 2) (c == 2) s
  move Reg.HLT_TOTAL_WEAK 0 21 (old == 3) (c == 3) s

/-- Counts of the map are taken anew. -/
def recountMap (s : State) : State :=
  let n (g c : Nat) : Nat := (s.hlt.lamps.filter fun e => e.1 / 4096 == g && e.2.cls == c).length
  let l := (List.range 256).map fun g => (n g 1, n g 2, n g 3)
  let s := forEach ((List.range 256).zip l) (fun e t =>
    t.wr (Reg.HLT_SEG_COUNT e.1) (BitVec.ofNat 32 (e.2.1 + e.2.2.1 + e.2.2.2 * 2 ^ 13))) s
  let tot (f : Nat × Nat × Nat → Nat) : Word := BitVec.ofNat 32 (l.foldl (fun a e => a + f e) 0)
  ((s.wr Reg.HLT_TOTAL_OPEN (tot (·.1))).wr Reg.HLT_TOTAL_SHORT (tot (·.2.1))).wr Reg.HLT_TOTAL_WEAK (tot (·.2.2))

/-! ### Persistence (R191, R192) -/

/-- A lamp's record is valid and says MASK (R183, R193). -/
def lampMasked (s : State) (lamp : Nat) : Bool := (s.seg (lamp / 4096)).corrOk && recMask (corrRecord s lamp)

/-- The run of a lamp has reached PERSIST, and LATCH_FAIL does not hold its class. -/
def lampDue (s : State) (lamp : Nat) : Bool :=
  let x := s.lamp lamp
  decide (0 < x.run ∧ s.fd Reg.HLT_CTRL 4 4 ≤ x.run) && !(s.bit Reg.HLT_CTRL 2 && lampDead s lamp) && x.cand != mapClass s lamp

/-- The lamp takes its candidate class; `ev`: the event LAMP_CLASS is raised (R192, R200). The frame evaluated is two before
the frame that is lit. -/
def lampChange (ev : Bool) (lamp : Nat) (s : State) : State :=
  if !(lampDue s lamp) then s
  else
    let old := mapClass s lamp
    let c := (s.lamp lamp).cand
    let s := (setClass lamp c (s.setLamp lamp { s.lamp lamp with run := 0 })).count Reg.HLT_CNT_CLASS_CHG
    when ev (fun u => u.event 0x0060 7 0 clsSegment (lamp / 4096)
      (det 4 lamp ++ [old, c, 0, 0] ++ det 4 (u.ras.frame - 2).toNat)) s

/-- A lamp's class changes (R192). -/
def execLampClass (lamp : Fin 1048576) (s : State) : Host.Outcome State Fault Refusal := done (lampChange true lamp.val s)

/-- Observed class of a lamp (R191). -/
def observed (s : State) (lamp : Nat) (reported : Nat) : Nat :=
  if reported == 1 || reported == 2 then reported else if reported == 3 || (s.lamp lamp).drift then 3 else 0

/-- Candidate and run after an observed class. -/
def lampObserve (lamp obs : Nat) (s : State) : State :=
  let x := s.lamp lamp
  let y : Lamp := if obs == mapClass s lamp then { x with run := 0 } else if obs == x.cand then { x with run := x.run + 1 }
    else { x with cand := obs, run := 1 }
  if y = x then s else s.setLamp lamp y

/-- Class that a SEG_STATUS gives the lamp at position `i`. -/
def reportedClass (l : List Byte) (i : Nat) : Nat := (l.getD (i / 4) 0).toNat / 4 ^ (i % 4) % 4

/-- A lamp whose record has MASK is no lamp of the map: its entry is 0b00, without an event (R193). -/
def unclass (g : Nat) (s : State) : State :=
  forEach ((s.hlt.lamps.map (·.1)).filter fun p => p / 4096 == g && mapClass s p != 0 && lampMasked s p)
    (fun p t => (setClass p 0 t).setLamp p { t.lamp p with run := 0 }) s

/-- The lamps of segment `g` are classified from an accepted SEG_STATUS (R190 to R193, R200). -/
def classify (g : Nat) (l : List Byte) (s : State) : State :=
  let lamps := ((List.range 4096).map (g * 4096 + ·)).filter fun p => !(lampMasked s p)
  let s := forEach lamps (fun p t => lampObserve p (observed t p (reportedClass l (p % 4096))) t) s
  let due := lamps.filter (lampDue s)
  let lim := s.fd Reg.HLT_EVT_LIMIT 0 8
  let rest := due.drop lim
  let n (c : Nat) : Nat := (rest.filter fun p => (s.lamp p).cand == c).length
  let bulk := det 2 (n 0) ++ det 2 (n 1) ++ det 2 (n 2) ++ det 2 (n 3)
  let s := forEach (due.take lim) (lampChange true) s
  if rest.isEmpty then s
  else
    let s := forEach rest (lampChange false) s
    (s.event 0x0061 7 1 clsSegment g (bulk ++ det 4 (s.ras.frame - 2).toNat)).count Reg.HLT_CNT_EVT_BULK

/-! ### Drift verdicts (R196, R198) -/

/-- First byte of the reference table, and of the record of segment `g` (R197). -/
def vfBase (s : State) : Nat := s.fd Reg.HLT_VF_REF_BASE 0 9 * 2 ^ 20
def vfRecord (s : State) (g : Nat) : Nat := vfBase s + 2 * 2 ^ 20 + 16 * g

/-- Reference of a lamp in mV; 0xFFFF is none, as before DRAM is in service. -/
def vfRef (s : State) (lamp : Nat) : Nat := if s.pwr.dramReady then s.le (vfBase s + 2 * lamp) 2 else 0xFFFF

/-- A capture of segment `g` runs. -/
def capturing (s : State) (g : Nat) : Bool := s.hlt.cap.any fun k => decide (k.lo ≤ g ∧ g ≤ k.hi)

/-- The VF check of segment `g` is suspended (R198). -/
def vfSuspended (s : State) (g : Nat) : Bool :=
  capturing s g || s.le (vfRecord s g + 2) 2 != (s.seg g).irefNow || s.le (vfRecord s g + 4) 1 != (s.seg g).trimNow

/-- HLT.VF_SUSPn follow. -/
def vfSuspShow (s : State) : State :=
  forEach (List.range 8) (fun n t => t.wr (Reg.HLT_VF_SUSP n)
    (BitVec.ofNat 32 ((List.range 32).foldl (fun a b => a + if vfSuspended t (32 * n + b) then 2 ^ b else 0) 0))) s

/-- DRIFT by a measured voltage (R196); `t16` and the stored Tref in 1/16 °C. -/
def isDrift (s : State) (lamp v : Nat) (t16 : Int) : Bool :=
  let tref := sext 16 (s.le (vfRecord s (lamp / 4096)) 2)
  let d := 160 * ((v : Int) - vfRef s lamp) - sext 16 (s.fd Reg.HLT_VF_TC 0 16) * (t16 - tref)
  vfRef s lamp != 0xFFFF && decide (160 * s.fd Reg.HLT_VF_WINDOW 0 10 < d.natAbs)

/-- One sample of a VF_ROW. `held`: no verdict is formed, for the check of the segment is suspended or VF_EN is 0. -/
def vfSample (held : Bool) (lamp base : Nat) (b : Byte) (s : State) : State :=
  if b == 0xFF then when (vfRef s lamp != 0xFFFF) (State.count · Reg.HLT_CNT_VF_NA) s
  else if held then s
  else match segTempNow s (lamp / 4096) with
    | none => s
    | some t =>
      let d := isDrift s lamp (50 * base + 10 * b.toNat) t
      if (s.lamp lamp).drift == d then s else s.setLamp lamp { s.lamp lamp with drift := d }

/-- A VF_ROW of segment `g` is evaluated: verdicts, and references while a capture runs (R196, R197). -/
def vfEvaluate (g : Nat) (r : Nat × Nat × List Byte) (late : Bool) (s : State) : State :=
  let lamps := (List.range 64).map fun i => (g * 4096 + 64 * (r.1 % 64) + i, r.2.2.getD i 0xFF)
  let s := if capturing s g && s.hlt.cap.all (·.wait == 0) then
      forEach lamps (fun e t =>
        if e.2 == 0xFF || sget (fun _ => false) t.hlt.capDone e.1 then t
        else
          let t := t.putLe (vfBase t + 2 * e.1) 2 (50 * r.2.1 + 10 * e.2.toNat)
          { t with hlt := { t.hlt with capDone := sput (fun _ => false) t.hlt.capDone e.1 true } }) s
    else s
  let held := late || vfSuspended s g || !(s.bit Reg.HLT_CTRL 1)
  forEach lamps (fun e t => vfSample held e.1 r.2.1 e.2 t) s

/-! ### Reference capture (R197) -/

/-- A capture starts: every segment of the range is suspended. -/
def captureStart (c : Ctx) (lo hi : Nat) (s : State) : State :=
  let s := { s with hlt := { s.hlt with cap := some { lo := lo, hi := hi, ctx := c }, capDone := [] } }
  vfSuspShow ((s.wb Reg.HLT_STATUS 0 true).wr Reg.HLT_CAPTURE_STATE (BitVec.ofNat 32 (lo + hi * 256)))

/-- The reference record of a segment: Tref (a free value when no sensor gives one), and the references in force. -/
def captureRecord (g : Nat) (s : State) : State :=
  let x := s.seg g
  let t := match segTempNow s g with | some t => wrapInt 16 t | none => s.freeNow % 65536
  (s.putBytes (vfRecord s g) (leBytes 2 t ++ leBytes 2 x.irefNow ++ leBytes 1 x.trimNow ++ List.replicate 11 0)).useFree

/-- The capture has its 64 lit frames: lamps without a sample get no reference, and the command completes. -/
def captureDone (s : State) : State :=
  match s.hlt.cap with
  | none => s
  | some k =>
    if k.n < 64 then s
    else
      let lamps := (List.range ((k.hi - k.lo + 1) * 4096)).map (k.lo * 4096 + ·)
      let s := forEach (lamps.filter fun p => !(sget (fun _ => false) s.hlt.capDone p)) (fun p t => t.putLe (vfBase t + 2 * p) 2 0xFFFF) s
      let s := { s with hlt := { s.hlt with cap := none, capDone := [] } }
      let s := vfSuspShow (s.wb Reg.HLT_STATUS 0 false)
      completeOps k.ctx.code (fun o => o.ctx == k.ctx) St.ok [] s

/-- End of a capture (R197). -/
def execVfCaptureDone (s : State) : Host.Outcome State Fault Refusal := done (captureDone s)

/-- Segments of a capture. -/
def VfCap.segs (k : VfCap) : List Nat := (List.range (k.hi + 1 - k.lo)).map (k.lo + ·)

/-- The capture moves on. -/
def setCap (k : VfCap) (s : State) : State := { s with hlt := { s.hlt with cap := some k } }

/-- A lit frame of the range has been evaluated; frames lit before the command do not count. -/
def captureFrame (s : State) : State :=
  match s.hlt.cap with
  | none => s
  | some k =>
    if k.wait != 0 then setCap { k with wait := k.wait - 1 } s
    else if !(k.segs.any fun g => (s.seg g).lit1.isSome) then s
    else captureDone ((setCap { k with n := k.n + 1 } s).wf Reg.HLT_CAPTURE_STATE 16 7 (k.n + 1))

/-- The first lit frame of the capture begins: its reference records are taken. -/
def captureTref (s : State) : State :=
  match s.hlt.cap with
  | none => s
  | some k =>
    if k.tref || !(k.segs.any fun g => (s.seg g).lit0.isSome) then s
    else setCap { k with tref := true } (forEach k.segs captureRecord s)

/-! ### Reports (R66) -/

/-- VF_ROW of a lit frame. -/
def vfRow (g : Nat) (fn : Byte) (row base : Nat) (samples : List Byte) (s : State) : State :=
  if !(reportsTaken s (g / 8)) then s
  else match reportSlot s g fn with
    | none => s.count (Reg.SLK_LINK_CNT_LATE_RPT (g / 8))
    | some 0 => s.modSeg g fun x => { x with vf0 := some (row, base, samples) }
    | some _ => s.modSeg g fun x => { x with vf1 := some (row, base, samples) }

/-- VF_ROW received (R196). -/
def execVfRow (g : Fin 256) (fn row base : Byte) (samples : List Byte) (s : State) : Host.Outcome State Fault Refusal :=
  done (vfRow g.val fn row.toNat base.toNat samples s)

/-! ### Segment faults (R202) -/

def segFaulty (s : State) (g : Nat) : Bool := s.bit (Reg.HLT_SEGFAULT (g / 32)) (g % 32)
def reportLoss (s : State) (g : Nat) : Bool := s.bit (Reg.HLT_RPT_LOSS (g / 32)) (g % 32)

/-- What makes segment `g` faulty: 0 nothing, 1 its count, 2 report loss. -/
def faultCause (s : State) (g : Nat) : Nat :=
  if s.fd Reg.HLT_SEG_FAIL_LIMIT 0 13 ≤ s.fd (Reg.HLT_SEG_COUNT g) 0 13 then 1 else if reportLoss s g then 2 else 0

/-- The faulty state of segment `g` follows; its entry acts (R202). -/
def faultEval (g : Nat) (s : State) : State :=
  let c := faultCause s g
  if (c != 0) == segFaulty s g then s
  else
    let s := s.wb (Reg.HLT_SEGFAULT (g / 32)) (g % 32) (c != 0)
    if c == 0 then s.modSeg g fun x => { x with defFault := false }
    else
      let s := (s.count Reg.HLT_CNT_SEG_FAULT).event 0x0062 7 2 clsSegment g [c]
      match s.fd Reg.HLT_REACT 0 2 with
      | 1 =>
        let s := s.modSeg g fun x => { x with defFault := true }
        when (segLive s g) (segToDefault g) s
      | 2 => fbRaise 3 g (s.fd Reg.HLT_REACT 2 2) s
      | _ => s

/-- RPT_LIMIT counted lit frames without SEG_STATUS: report loss. -/
def lossEval (g : Nat) (s : State) : State :=
  if decide (0 < (s.seg g).noRpt ∧ s.fd Reg.HLT_RPT_LIMIT 0 4 ≤ (s.seg g).noRpt) && !(reportLoss s g) then
    faultEval g (s.wb (Reg.HLT_RPT_LOSS (g / 32)) (g % 32) true)
  else s

/-- Report loss (R202). -/
def execReportLoss (g : Fin 256) (s : State) : Host.Outcome State Fault Refusal := done (lossEval g.val s)

/-- An accepted SEG_STATUS ends the report loss of its segment. -/
def lossEnd (g : Nat) (s : State) : State :=
  if reportLoss s g then
    faultEval g ((s.modSeg g fun x => { x with noRpt := 0 }).wb (Reg.HLT_RPT_LOSS (g / 32)) (g % 32) false)
  else s

/-- SEG_STATUS with what it ends. -/
def statusIn (g : Nat) (fn : Byte) (classes : List Byte) (s : State) : State :=
  let ok := reportsTaken s (g / 8) && (reportSlot s g fn).isSome
  when ok (lossEnd g) (segStatus g fn classes s)

/-- SEG_STATUS received (R66, R202). -/
def execSegStatus (g : Fin 256) (fn : Byte) (classes : List Byte) (s : State) : Host.Outcome State Fault Refusal :=
  done (statusIn g.val fn classes s)

/-! ### Evaluation at a phase 0 (R190) -/

/-- Lamps of segment `g` keep their classes whatever is reported (R193). -/
def classesKept (s : State) (g : Nat) : Bool := segState s g == 0 || segState s g == 5 || upAsleep s (g / 8)

/-- The reports of the lit frame two frames back are evaluated for segment `g`. -/
def evaluateSeg (g : Nat) (s : State) : State :=
  let x := s.seg g
  let kept := classesKept s g
  let s := match x.vf1 with | some r => if kept then s else vfEvaluate g r x.late1 s | none => s
  match x.lit1, x.rpt1 with
  | some true, none =>
    lossEval g ((s.modSeg g fun y => { y with noRpt := y.noRpt + 1 }).count Reg.HLT_CNT_NO_RPT)
  | some _, some l =>
    let s := if x.noRpt == 0 then s else s.modSeg g fun y => { y with noRpt := 0 }
    when (s.bit Reg.HLT_CTRL 0 && !kept) (fun t => classify g l (unclass g t)) s
  | _, _ => s

/-- Health at a phase 0, with the step of lit frames that follows it. -/
def healthP0 (s : State) : State :=
  let s := forEach (List.range 256) evaluateSeg s
  let s := captureFrame (when (s.bit Reg.HLT_CTRL 0) mapWrite s)
  let s := forEach (List.range 256) faultEval s
  vfSuspShow s

/-- The lit frame moves on: what was reported of the frame being lit waits one frame more. -/
def litStep (s : State) : State :=
  forEach (List.range 256) (fun g t =>
    let x := t.seg g
    let y := { x with lit1 := x.lit0, rpt1 := x.rpt0, head1 := x.head0, vf1 := x.vf0, late1 := x.late0
                      lit0 := x.litN, rpt0 := none, head0 := none, vf0 := none, litN := none
                      late0 := t.bit (Reg.SEG_SEG_IREF g) 29, tempAge := min 255 (x.tempAge + 1) }
    if y = x then t else t.setSeg g y) s

end Sys2Proof.Machine
end

