-- ==== Sys2Proof/Machine/Corr.lean ====
section
/-! DEFINITION. Lamp tables in service: the CORR commit (R175), applies and their copies (R183 to R186), saves, and the table
scan (R187). -/
namespace Sys2Proof.Machine

/-! ### Commit (R175) -/

/-- Registers of the CORR set. -/
def corrRegs : List Nat :=
  [Reg.CORR_CURVE_BANK, Reg.CORR_CLAMP] ++ (List.range 8).flatMap fun c => (List.range 5).map (Reg.CORR_TG c)

/-- CORR.COMMIT.COMMIT. -/
def corrCommit (s : State) : State :=
  when (s.crd Reg.CORR_CLAMP).isSome (setRecommit 2 true) (s.wb Reg.CORR_STATUS 3 true)

/-- Capture at blanking start. -/
def corrCapture (s : State) : State := when (s.bit Reg.CORR_STATUS 3) (State.capture · corrRegs) s

/-- COMMIT_PENDING when the captured set applies. -/
def corrMark (s : State) : State :=
  if (s.crd Reg.CORR_CLAMP).isSome then setRecommit 2 false (s.wb Reg.CORR_STATUS 3 (recommitted s 2)) else s

/-! ### Tables -/

/-- Bytes of one segment's table. -/
def tableBytes : Nat := 16384

/-- First byte of the records of segment `g` in a table (0 map, 1 correction): live, staging, MRAM default. -/
def liveAt (s : State) (t g : Nat) : Nat :=
  (if t == 0 then s.fd Reg.CORR_MAP_BASE 0 9 else s.fd Reg.CORR_CORR_BASE 0 9) * 2 ^ 20 + tableBytes * g
def stageAt (s : State) (t g : Nat) : Nat :=
  (if t == 0 then s.fd Reg.CORR_STAGE_MAP_BASE 0 9 else s.fd Reg.CORR_STAGE_CORR_BASE 0 9) * 2 ^ 20 + tableBytes * g
def homeAt (t g : Nat) : Nat := mramBase + (if t == 0 then 0x400000 else 0x800000) + tableBytes * g

/-- Place of the directory CRC of a default table (log entry 3). -/
def homeCrcAt (t g : Nat) : Nat := mramBase + 0xCF0000 + 4 * (256 * t + g)

/-- SAFE_LAMPS of segment `g` (Table SUP-11). -/
def safeShow (g : Nat) (s : State) : State :=
  s.wf (Reg.SEG_SEG_IREF g) 16 13 ((List.range 4096).filter fun i => recSafe (corrRecord s (g * 4096 + i))).length

/-- Segment `g` is UNMAPPED: DEFAULT_NOW, and no composition until it is mapped (R183). -/
def unmapSeg (g : Nat) (s : State) : State :=
  let st := segState s g
  let s := s.modSeg g fun x => { x with defUnmapped := true }
  if st == 1 || st == 2 || st == 3 then segToDefault g s else s

/-- A table of segment `g` has failed: SNOWGAIN or UNMAPPED (R186, R187). -/
def tableFailed (t g : Nat) (s : State) : State :=
  let s := s.modSeg g fun x => if t == 0 then { x with mapOk := false } else { x with corrOk := false }
  if (s.seg g).reload != 0 then s
  else
    let s := showMode g s
    when (t == 0) (unmapSeg g) s

/-! ### Applies (R184, R185) -/

/-- An apply is accepted. -/
def applyAccept (a : Apply) (s : State) : State := { s with corr := { s.corr with applies := s.corr.applies ++ [a] } }

/-- Applies accepted before this blanking start are captured (R184). -/
def captureApplies (s : State) : State :=
  { s with corr := { s.corr with applies := s.corr.applies.map fun a => { a with cap := true } } }

/-- A segment enters RELOADING, and HOLD where it shows anything. -/
def reloadSeg (g : Nat) (s : State) : State :=
  let st := segState s g
  let s := showMode g (s.modSeg g fun x => { x with reload := 1, defUnmapped := false })
  if st == 1 || st == 2 || st == 3 || st == 4 then
    setSegState g 3 (s.modSeg g fun x => { x with holdLeft := s.fd Reg.SLK_HOLD_LIMIT 0 7 })
  else s

/-- CORR.RELOAD_STATE and COPYING follow the copy in progress. -/
def reloadShow (s : State) : State :=
  match s.corr.copying with
  | [] => s.wb Reg.CORR_STATUS 0 false
  | a :: _ => (s.wf Reg.CORR_RELOAD_STATE 8 8 a.lo).wb Reg.CORR_STATUS 0 true

/-- The first copy's range is shown when it begins. -/
def reloadBegin (s : State) : State :=
  match s.corr.copying with
  | [] => s
  | a :: _ => s.wr Reg.CORR_RELOAD_STATE (BitVec.ofNat 32 (a.lo + a.lo * 256 + a.hi * 65536 + a.tables * 2 ^ 24 + a.source * 2 ^ 26))

/-- An apply begins at its phase 0. -/
def applyBegin (a : Apply) (s : State) : State :=
  let segs := (List.range (a.hi + 1 - a.lo)).map (a.lo + ·)
  let s := forEach segs (fun g t => (reloadSeg g t).wb (Reg.SEG_SEG_CORR g) 18 false) s
  let first := s.corr.copying.isEmpty
  let s := { s with corr := { s.corr with copying := s.corr.copying ++ [a] } }
  reloadShow (when first reloadBegin s)

/-- The default of a table fails the check of its directory CRC (R186). -/
def homeBad (s : State) (t g : Nat) : Bool := s.le (homeCrcAt t g) 4 != crc32c (s.bytes (homeAt t g) tableBytes)

/-- Scratch area of a save: the records of one segment, 32 KiB, their CRCs, and the segment plus 1 (R186; log entry 3). -/
def scratchAt (t : Nat) : Nat := mramBase + 0xCE0000 + tableBytes * t
def scratchCrcAt (t : Nat) : Nat := mramBase + 0xCE8000 + 4 * t
def scratchSegAt : Nat := mramBase + 0xCE8008

/-- The scratch area holds a table of segment `g` with a good CRC. -/
def scratchGood (s : State) (t g : Nat) : Bool :=
  s.le scratchSegAt 4 == g + 1 && s.le (scratchCrcAt t) 4 == crc32c (s.bytes (scratchAt t) tableBytes)

/-- First byte of what a load of a table of segment `g` reads: staging, the default at its home, or the scratch area where the home fails
(R186). -/
def loadFrom (s : State) (source t g : Nat) : Option Nat :=
  if source != 1 then some (stageAt s t g)
  else if !(homeBad s t g) then some (homeAt t g)
  else if scratchGood s t g then some (scratchAt t) else none

/-- One table of segment `g` is copied into the live table, and its reference taken; lamps that its records mask leave the failure map
(R193). -/
def copyTable (source t g : Nat) (s : State) : State :=
  match loadFrom s source t g with
  | none =>
    let s := s.modSeg g fun x => if t == 0 then { x with mapOk := false } else { x with corrOk := false }
    (s.count Reg.CORR_CNT_MRAM_CRC).event 0x0063 6 2 clsSegment g [1, t + 1]
  | some src =>
    let s := s.copyBytes (liveAt s t g) src tableBytes
    let c := BitVec.ofNat 32 (crc32c (s.bytes (liveAt s t g) tableBytes))
    let s := s.modSeg g fun x => if t == 0 then { x with mapOk := true, refMap := some c } else { x with corrOk := true, refCorr := some c }
    when (t == 1) (fun u => unclass g (safeShow g u)) (s.count Reg.CORR_CNT_RELOAD)

/-- The tables an apply names are copied for segment `g`. -/
def copySeg (a : Apply) (g : Nat) (s : State) : State :=
  let s := when (a.tables.testBit 0) (copyTable a.source 0 g) s
  when (a.tables.testBit 1) (copyTable a.source 1 g) s

/-- The copy engine finishes the next segment (R184, R185). -/
def copyNext (s : State) : State :=
  match s.corr.copying with
  | [] => s
  | a :: rest =>
    let s := (copySeg a a.lo s).modSeg a.lo fun x => { x with reload := 2 }
    if a.lo < a.hi then reloadShow { s with corr := { s.corr with copying := { a with lo := a.lo + 1 } :: rest } }
    else reloadShow (reloadBegin { s with corr := { s.corr with copying := rest } })

/-- Copy of a segment done (R184). -/
def execCorrCopyDone (s : State) : Host.Outcome State Fault Refusal := done (copyNext s)

/-- A segment whose copy is complete leaves RELOADING. -/
def reloadEnd (g : Nat) (s : State) : State :=
  if (s.seg g).reload != 2 then s
  else
    let s := showMode g (s.modSeg g fun x => { x with reload := 0, defReload := false })
    if corrMode s g == 0 then unmapSeg g s else s

/-- A count in one byte of a command part; above 255 a free value, for the byte cannot hold it (log entry 50). -/
def countByte (s : State) (n : Nat) : Nat := if n ≤ 255 then n else s.freeNow % 256

/-- CORR_APPLY completes when no segment of its range reloads: 8 segments applied, 9 those left in SNOWGAIN or UNMAPPED. -/
def applyComplete (s : State) : State :=
  forEach (s.mbx.ops.filter fun o => o.ctx.code == 0x0602) (fun o t =>
    let segs := (List.range (o.hi + 1 - o.lo)).map (o.lo + ·)
    if t.corr.applies.any (·.ctx == some o.ctx) || segs.any fun g => (t.seg g).reload != 0 then t
    else
      let n := (segs.filter fun g => !((t.seg g).mapOk && (t.seg g).corrOk)).length
      completeOp o St.ok (leBytes 1 (countByte t segs.length) ++ leBytes 1 (countByte t n)) (when (255 < segs.length) State.useFree t)) s

/-! ### Save (R186) -/

/-- The live records of a table of segment `g` and their CRC are written to a place. -/
def saveTable (t g dst crc : Nat) (s : State) : State :=
  let b := s.bytes (liveAt s t g) tableBytes
  (s.putBytes dst b).putLe crc 4 (crc32c b)

/-- The next record of a save is committed: the segment's records and their CRCs in the scratch area, then in their home. -/
def saveNext (s : State) : State :=
  match s.corr.saving with
  | none => s
  | some (g, false, hi, c) =>
    let s := saveTable 1 g (scratchAt 1) (scratchCrcAt 1) (saveTable 0 g (scratchAt 0) (scratchCrcAt 0) s)
    { s.putLe scratchSegAt 4 (g + 1) with corr := { s.corr with saving := some (g, true, hi, c) } }
  | some (g, true, hi, c) =>
    let s := saveTable 1 g (homeAt 1 g) (homeCrcAt 1 g) (saveTable 0 g (homeAt 0 g) (homeCrcAt 0 g) s)
    if g < hi then { s with corr := { s.corr with saving := some (g + 1, false, hi, c) } }
    else
      completeOps c.code (fun o => o.ctx == c) St.ok []
        ({ s with corr := { s.corr with saving := none } }.wb Reg.CORR_STATUS 1 false)

/-- A reset or shutdown breaks off the record being written: the first of its bytes, how many is a free value, are new, and its CRC is not
(R186). -/
def saveLost (s : State) : State :=
  match s.corr.saving with
  | none => s
  | some (g, home, _) =>
    let n := s.freeNow % (2 * tableBytes + 1)
    let part (t : Nat) (u : State) : State :=
      u.putBytes (if home then homeAt t g else scratchAt t) ((u.bytes (liveAt u t g) tableBytes).take (n - tableBytes * t))
    (part 1 (part 0 s)).useFree

/-! ### Scan (R187) -/

/-- The segment the scan of this frame takes: the next one that is not RELOADING. -/
def scanSeg (s : State) : Option Nat :=
  ((List.range 256).map fun i => (s.corr.scanNext + i) % 256).find? fun g => (s.seg g).reload == 0

/-- The scan of one segment per frame: its map records, then its correction records. A channel that a layer names, that a transport uses or
that is busy leaves the segment of the frame unchecked (R139). -/
def scanP0 (s : State) : State :=
  let c := s.fd Reg.CORR_CTRL 4 3
  if !(s.bit Reg.CORR_CTRL 2) || !s.pwr.dramReady then s
  else match scanSeg s with
    | none => s
    | some g =>
      let s := { s with corr := { s.corr with scanNext := (g + 1) % 256 } }
      if !(chServes s c) || !(chLayers s c).isEmpty then s
      else
      let s := scanExtent (.table (2 * g + 1)) c (liveAt s 1 g) tableBytes (scanExtent (.table (2 * g)) c (liveAt s 0 g) tableBytes s)
      s.wb Reg.CORR_STATUS 2 true

/-- A table scan has ended with a result (R187). -/
def scanJudge (arg : Nat) (v : Word) (s : State) : State :=
  let g := arg / 2
  let t := arg % 2
  let s := s.wf Reg.CORR_STATUS 8 8 g
  let s := when (t == 1) (State.wb · Reg.CORR_STATUS 2 false) s
  let ref := if t == 0 then (s.seg g).refMap else (s.seg g).refCorr
  if ref.isNone || ref == some v || (s.seg g).reload != 0 then s
  else
    let s := ((s.wb (Reg.SEG_SEG_CORR g) 18 true).count Reg.CORR_CNT_SCAN_ERR).event 0x0063 6 2 clsSegment g [0, t + 1]
    let s := tableFailed t g s
    when (s.bit Reg.CORR_CTRL 3) (applyAccept { lo := g, hi := g, tables := t + 1, source := 1 }) s

/-! ### The tables at a phase 0 -/

/-- Reloads that are complete end, captured applies begin, FILL_ACTIVE shows the frame before, and the scan takes its segment
(R179, R184, R187). -/
def corrP0 (s : State) : State :=
  let s := forEach (List.range 256) reloadEnd s
  let s := applyComplete s
  let start := s.corr.applies.filter (·.cap)
  let s := { s with corr := { s.corr with applies := s.corr.applies.filter fun a => !a.cap } }
  let s := forEach start applyBegin s
  let s := { (s.wr Reg.CORR_FILL_ACTIVE (BitVec.ofNat 32 s.corr.fillNow.length)) with corr := { s.corr with fillNow := [] } }
  scanP0 s

end Sys2Proof.Machine
end

