-- ==== Sys2Proof/Machine/Stream.lean ====
section
/-! DEFINITION. Stream inputs: reception of frames, its faults, and transmission (R88 to R99, R110). -/
namespace Sys2Proof.Machine

/-- Lanes of stream `n`. -/
def strLanes (s : State) (n : Nat) : Nat := match s.fd (Reg.SDS_STR_CTRL n) 1 2 with | 1 => 2 | 2 => 4 | _ => 1
/-- The surface a stream is bound to. -/
def strSurf (s : State) (n : Nat) : Nat := s.fd (Reg.SDS_STR_SURF n) 0 6
/-- A transmitting stream (R110). -/
def strTx (s : State) (n : Nat) : Bool := s.bit (Reg.SDS_STR_CTRL n) 8
/-- Packets are taken: enabled, receiving, lanes up and aligned. -/
def strTakes (s : State) (n : Nat) : Bool :=
  s.bit (Reg.SDS_STR_CTRL n) 0 && !(strTx s n) && s.bit (Reg.SDS_STR_STATUS n) 0 && !(s.bit (Reg.SDS_STR_STATUS n) 4)
/-- A frame is open. -/
def strOpen (s : State) (n : Nat) : Bool := s.bit (Reg.SDS_STR_STATUS n) 1

/-- The open frame is given up: its buffer goes back, and the given counter counts (R98). -/
def strDrop (n cntr : Nat) (s : State) : State :=
  if strOpen s n then
    dropBuf (strSurf s n) (s.str n).buf ((s.wb (Reg.SDS_STR_STATUS n) 1 false).count cntr)
  else s

/-- The open frame is abandoned (CNT_ABORT). -/
def strAbandon (n : Nat) (s : State) : State := strDrop n (Reg.SDS_STR_CNT_ABORT n) s

/-- VSTART: a frame opens when it matches the bound surface (R97, R98, R105). -/
def vstart (n sfn w h fmt : Nat) (ts period : Word) (s : State) : State :=
  if !(strTakes s n) then s
  else
    let s := strAbandon n s
    let f := strSurf s n
    if !(surfValid s f) || surfW s f != w || surfH s f != h || surfFmt s f != fmt then
      ((s.count (Reg.SDS_STR_CNT_FMT_ERR n)).wb (Reg.SDS_STR_STATUS n) 3 true).modStr n fun x => { x with skip := true }
    else
      let s := s.wb (Reg.SDS_STR_STATUS n) 3 false
      match writeBuf s f with
      | none => s.modStr n fun x => { x with skip := true }
      | some b =>
        (takeBuf f b (s.wb (Reg.SDS_STR_STATUS n) 1 true)).modStr n fun x => { x with
          skip := false, sfn := sfn, width := w, height := h, fmt := fmt, ts := ts, period := period, buf := b, lines := [] }

/-- LINE: one whole line into the buffer; `stored` is false when the DRAM write queue was full (R94, R95, R98). Of several faults the first in
this order counts: the open frame, FORMAT and WIDTH and LINE, the length (DESIGN CHOICE, log entry 127). -/
def lineIn (n sfn ln fmt w : Nat) (pixels : List Byte) (stored : Bool) (s : State) : State :=
  let t := s.str n
  if !(strTakes s n) || t.skip then s
  else if !(strOpen s n) || sfn != t.sfn then s.count (Reg.SDS_STR_CNT_SEQ_ERR n)
  else if fmt != t.fmt || w != t.width || decide (t.height ≤ ln) then s.count (Reg.SDS_STR_CNT_FMT_ERR n)
  else if pixels.length != w * fmtBytes fmt then s.count (Reg.SDS_STR_CNT_CRC n)
  else if !stored then s.count (Reg.SDS_STR_CNT_OVERFLOW n)
  else
    (s.putBytes (pixAddr s (strSurf s n) t.buf 0 ln) pixels).modStr n fun x =>
      { x with lines := if x.lines.contains ln then x.lines else x.lines ++ [ln] }

/-- NO_SIGNAL of a stream changes, with its event (R99). -/
def strSignal (n : Nat) (lost : Bool) (s : State) : State :=
  if s.bit (Reg.SDS_STR_STATUS n) 2 == lost then s
  else (s.wb (Reg.SDS_STR_STATUS n) 2 lost).event 0x00A4 11 1 7 n [if lost then 0 else 1]

/-- VEND: a complete frame is published, an incomplete one discarded (R97, R98, R106). -/
def vend (n sfn : Nat) (s : State) : State :=
  let t := s.str n
  if !(strTakes s n) || t.skip then s
  else if !(strOpen s n) || sfn != t.sfn then s.count (Reg.SDS_STR_CNT_SEQ_ERR n)
  else if t.lines.length < t.height then strDrop n (Reg.SDS_STR_CNT_INCOMPLETE n) s
  else
    let s := (s.wb (Reg.SDS_STR_STATUS n) 1 false).count (Reg.SDS_STR_CNT_FRAMES n)
    let s := ((s.wr (Reg.SDS_STR_LAST_SFN n) (BitVec.ofNat 32 sfn)).wr (Reg.SDS_STR_LAST_TS n) t.ts).wr
      (Reg.SDS_STR_LAST_PERIOD n) t.period
    strSignal n false (publishBuf (strSurf s n) t.buf sfn s)

/-- META: counted; IDs 0 to 7 are kept (R96). More than 1,024 bytes of data is a LENGTH that does not match the type (R98). -/
def metaIn (n id : Nat) (data : List Byte) (s : State) : State :=
  if !(strTakes s n) then s
  else if 1024 < data.length then s.count (Reg.SDS_STR_CNT_CRC n)
  else
    (s.count (Reg.SDS_STR_CNT_META n)).modStr n fun x =>
      if id < 8 then { x with metas := sput (fun _ => []) x.metas id data } else x

/-- META received (R96). -/
def execMeta (n : Fin 4) (id : BitVec 16) (data : List Byte) (s : State) : Host.Outcome State Fault Refusal :=
  done (metaIn n.val id.toNat data s)

/-- FRAME_TIMEOUT before VEND: the frame and packets up to the next VSTART are discarded (R97, R98). -/
def frameTimeout (n : Nat) (s : State) : State :=
  if strOpen s n then (strDrop n (Reg.SDS_STR_CNT_TIMEOUT n) s).modStr n fun x => { x with skip := true } else s

/-- Frame timeout (R98). -/
def execFrameTimeout (n : Fin 4) (s : State) : Host.Outcome State Fault Refusal := done (frameTimeout n.val s)

/-- No VSTART for LOSS_TIMEOUT: NO_SIGNAL (R99). -/
def streamLoss (n : Nat) (s : State) : State :=
  if s.bit (Reg.SDS_STR_CTRL n) 0 && !(strTx s n) then strSignal n true s else s

/-- Loss of a stream (R99). -/
def execStreamLossTimeout (n : Fin 4) (s : State) : Host.Outcome State Fault Refusal := done (streamLoss n.val s)

/-- A stream packet between SOP and EOP: header of Table STR-1, payload, and the CRC over both, low byte first (R92, R93). -/
def strFrame (ty sfn : Nat) (payload : List Byte) : List Byte :=
  let b := leBytes 1 (ty % 16) ++ [0] ++ leBytes 2 sfn ++ leBytes 2 payload.length ++ [0, 0] ++ payload
  b ++ leBytes 4 (crc32 b)

/-- LENGTH of a packet matches its type (Table STR-2); none for a reserved TYPE. -/
def strLength (f : List Byte) : Option Bool :=
  let k := leAt f 4 2
  match leAt f 0 1 % 16 with
  | 1 => some (k == 16)
  | 2 => some (k == 8 + leAt f 12 2 * fmtBytes (leAt f 10 1))
  | 3 => some (k == 8)
  | 4 => some (decide (4 ≤ k ∧ k ≤ 1028))
  | _ => none

/-- What is wrong with a packet: 0 nothing, 1 CRC, LENGTH or EOP, 2 TYPE (Table STR-5). -/
def strFault (f : List Byte) (eop : Bool) : Nat :=
  if !eop || decide (f.length < 12) || leAt f 4 2 + 12 != f.length || leAt f (f.length - 4) 4 != crc32 (f.take (f.length - 4)) then 1
  else match strLength f with
    | none => 2
    | some ok => if ok then 0 else 1

/-- A bad packet is discarded: a reserved TYPE counts CNT_SEQ_ERR, anything else CNT_CRC (R98). A good one comes as the command of what it
carries. -/
def badStreamPacket (n : Nat) (frame : List Byte) (eop : Bool) (s : State) : State :=
  if strTakes s n then
    match strFault frame eop with
    | 0 => s
    | 2 => s.count (Reg.SDS_STR_CNT_SEQ_ERR n)
    | _ => s.count (Reg.SDS_STR_CNT_CRC n)
  else s

/-- Bad stream packet (R98). -/
def execBadStreamPacket (n : Fin 4) (x : RxFrame) (s : State) : Host.Outcome State Fault Refusal :=
  done (badStreamPacket n.val x.frame x.eop s)

/-! ### Transmission (R110) -/

/-- First lane of a stream. -/
def strFirst (s : State) (n : Nat) : Nat := s.fd (Reg.SDS_STR_CTRL n) 3 5

/-- Lanes of a stream. -/
def strLaneList (s : State) (n : Nat) : List Nat := (List.range (strLanes s n)).map (strFirst s n + ·)

/-- EIOS, FTS and IDLE (Table SDS-2, R90). -/
def eiosSet : List Byte := [0xBC, 0x7C, 0x7C, 0x7C]
def ftsSet : List Byte := [0xBC, 0x5C, 0x5C, 0x5C]
def idleSet : List Byte := [0xBC, 0x50]

/-- The exit from sleep: as many FTS as the partner's FTS_REQ says, then 16 IDLE (R306). -/
def ftsBurst (l : Nat) (s : State) : State :=
  (s.emit (.laneSet l ftsSet (s.fd (Reg.SDS_LANE_PARTNER_X l) 16 8))).emit (.laneSet l idleSet 16)

/-- The transmitter of a lane falls asleep or wakes (R306, R307). -/
def txSleep (l : Nat) (on : Bool) (s : State) : State :=
  if s.bit (Reg.SDS_LANE_STATE l) 12 == on then s
  else
    let s := s.wb (Reg.SDS_LANE_STATE l) 12 on
    if on then (s.emit (.laneSet l eiosSet 1)).count (Reg.SDS_LANE_CNT_SLEEP l) else ftsBurst l s

/-- The PX1048's transmitter may sleep on a lane: TX_SLEEP set, and the partner's receiver tolerates it (R306, R307). -/
def maySleep (s : State) (l : Nat) : Bool :=
  s.bit (Reg.SDS_LANE_PWR l) 0 && s.bit (Reg.SDS_LANE_PARTNER_X l) 9

/-- At a phase 0 a transmitting stream wakes (R307), and starts to send the READING buffer of its surface: VSTART and the lines. -/
def streamTransmit (n : Nat) (s : State) : State :=
  let f := strSurf s n
  if !(s.bit (Reg.SDS_STR_CTRL n) 0 && strTx s n && s.bit (Reg.SDS_STR_STATUS n) 0) then s
  else
    let s := forEach (strLaneList s n) (fun l t => txSleep l false t) s
    match (if surfValid s f then (s.surf f).cur else none) with
    | none => s
    | some b =>
      let sfn := s.ras.frame.toNat % 65536
      let w := surfW s f
      let h := surfH s f
      let fmt := surfFmt s f
      let s := s.emit (.stream n (strFrame 1 sfn (leBytes 2 w ++ leBytes 2 h ++ leBytes 1 fmt ++ leBytes 3 0 ++
        leBytes 4 (s.rd Reg.RAS_LAST_P0).toNat ++ leBytes 4 (s.lrd Reg.RAS_PERIOD).toNat)))
      let s := forEach (List.range h) (fun y t => t.emit (.stream n (strFrame 2 sfn (leBytes 2 y ++ leBytes 1 fmt ++ leBytes 1 0 ++
        leBytes 2 w ++ leBytes 2 0 ++ t.bytes (pixAddr t f b 0 y) (w * fmtBytes fmt))))) s
      s.modStr n fun x => { x with sending := true, sfn := sfn, height := h }

/-- The send finishes with VEND, and the transmitter sleeps until the next phase 0 (R110, R307). -/
def streamFinish (n : Nat) (s : State) : State :=
  let t := s.str n
  if !t.sending then s
  else
    let s := s.emit (.stream n (strFrame 3 t.sfn (leBytes 2 t.height ++ leBytes 2 0 ++ leBytes 4 s.wrapNs.toNat)))
    let s := forEach (strLaneList s n) (fun l u => if maySleep u l then txSleep l true u else u) s
    s.modStr n fun x => { x with sending := false }

/-- Stream send finished (R307). -/
def execStreamSendFinish (n : Fin 4) (s : State) : Host.Outcome State Fault Refusal := done (streamFinish n.val s)

/-- At blanking start an unfinished send is cut off without VEND (R110). -/
def streamCut (n : Nat) (s : State) : State :=
  if (s.str n).sending then
    let s := (s.count (Reg.SDS_STR_CNT_ABORT n)).modStr n fun x => { x with sending := false }
    forEach (strLaneList s n) (fun l u => if maySleep u l then txSleep l true u else u) s
  else s

end Sys2Proof.Machine
end

