-- ==== Sys2Proof/Machine/Lanes.lean ====
section
/-! DEFINITION. Serial lanes: quads, bring-up, retries, sleep, test, and the enables of streams and fabric ports (R88 to
R91, R251, R252, R296 to R311). -/
namespace Sys2Proof.Machine

def laneSt (s : State) (l : Nat) : LaneSt := sget (fun _ => {}) s.lanes l
def modLane (l : Nat) (f : LaneSt → LaneSt) (s : State) : State :=
  { s with lanes := sput (fun _ => {}) s.lanes l (f (laneSt s l)) }
def group (s : State) (g : Nat) : GroupSt := sget (fun _ => {}) s.groups g
def modGroup (g : Nat) (f : GroupSt → GroupSt) (s : State) : State :=
  { s with groups := sput (fun _ => {}) s.groups g (f (group s g)) }

/-- STAGE of a lane (Table SDS-3). -/
def laneStage (s : State) (l : Nat) : Nat := s.fd (Reg.SDS_LANE_STATE l) 0 3
def setStage (st l : Nat) (s : State) : State := s.wf (Reg.SDS_LANE_STATE l) 0 3 st
/-- REASON of a lane (R303). -/
def setReason (r l : Nat) (s : State) : State := s.wf (Reg.SDS_LANE_STATE l) 3 3 r

/-- Reasons of R303. -/
abbrev noRx : Nat := 1
abbrev noLock : Nat := 2
abbrev noComma : Nat := 3
abbrev capsMismatch : Nat := 4
abbrev trainTimeout : Nat := 5
abbrev refclkReason : Nat := 6

/-! ### Groups: 0 to 3 are STR0 to STR3, 4 to 7 FP0 to FP3 -/

/-- Control register of a group. -/
def grpCtrl (g : Nat) : Nat := if g < 4 then Reg.SDS_STR_CTRL g else Reg.FAB_P_CTRL (g - 4)
def grpEn (s : State) (g : Nat) : Bool := s.bit (grpCtrl g) 0
/-- Lane count and first lane that a control word gives. -/
def ctrlLanes (w : Word) : Nat := match fld w 1 2 with | 1 => 2 | 2 => 4 | _ => 1
def ctrlFirst (w : Word) : Nat := fld w 3 5
/-- Lanes of a group. -/
def grpLanes (s : State) (g : Nat) : List Nat :=
  (List.range (ctrlLanes (s.rd (grpCtrl g)))).map (ctrlFirst (s.rd (grpCtrl g)) + ·)
/-- The enabled group a lane belongs to. -/
def grpOf (s : State) (l : Nat) : Option Nat := (List.range 8).find? fun g => grpEn s g && (grpLanes s g).contains l
/-- USE, REFSEL and RATE of a lane's quad; RATE 7 is treated as 0 (Table SDS-1). -/
def quadUse (s : State) (l : Nat) : Nat := s.fd (Reg.SDS_Q_CFG (l / 4)) 0 2
def quadRef (s : State) (q : Nat) : Nat := s.fd (Reg.SDS_Q_CFG q) 2 1
def quadRate (s : State) (l : Nat) : Nat := let r := s.fd (Reg.SDS_Q_CFG (l / 4)) 4 3; if r == 7 then 0 else r
/-- The reference clock of a group's quad is present. -/
def grpClock (s : State) (g : Nat) : Bool := s.bit (Reg.SDS_Q_STATUS (ctrlFirst (s.rd (grpCtrl g)) / 4)) 1
/-- Object class and index of a group. -/
def grpEvent (g code sev : Nat) (detail : List Nat) (s : State) : State :=
  if g < 4 then s.event code 11 sev 7 g detail else s.event code 11 sev 5 (g - 4) detail

/-- The group is ACTIVE. -/
def grpActive (s : State) (g : Nat) : Bool := (grpLanes s g).all fun l => laneStage s l == 5
/-- The group is DOWN. -/
def grpDown (s : State) (g : Nat) : Bool := (grpLanes s g).any fun l => laneStage s l == 6

/-- Every lane of a group not in TEST takes a stage (R303, R310). -/
def grpStage (g st : Nat) (s : State) : State :=
  forEach (grpLanes s g) (fun l t => if laneStage t l == 7 then t else setStage st l t) s

/-! ### What lanes send (Tables SDS-2 and SDS-4) -/

/-- Position of a lane in its group, and the group's lane count. -/
def lanePos (s : State) (g l : Nat) : Nat := l - (grpLanes s g).headD 0
def laneCount (s : State) (g : Nat) : Nat := (grpLanes s g).length

/-- FTS that the lane's receiver needs (SDS.LANEl_PWR.FTS). -/
def laneFts (s : State) (l : Nat) : Nat := s.fd (Reg.SDS_LANE_PWR l) 8 8

/-- TS1, or TS2, of a lane: K28.5, the data character, LANE, NLANES, RATE, FTS_REQ, the data character ten times. -/
def trainingSet (s : State) (g l : Nat) (two : Bool) : List Byte :=
  let d : Byte := if two then 0x45 else 0x4A
  [0xBC, d] ++ leBytes 1 (lanePos s g l) ++ leBytes 1 (laneCount s g) ++ leBytes 1 (quadRate s l) ++ leBytes 1 (laneFts s l) ++
    List.replicate 10 d

def sendTs (g l : Nat) (two : Bool) (s : State) : State := s.emit (.laneSet l (trainingSet s g l two) 1)

/-- The CAPS of a lane: POWER 0b111, FTS_REQ its own, SEEN, and ROLE from DIR (R301). -/
def capsBytes (s : State) (g l : Nat) : List Byte :=
  let role := decide (g < 4) && strTx s g
  let p := leBytes 1 (quadUse s l) ++ [0x10] ++ leBytes 1 (lanePos s g l) ++ leBytes 1 (laneCount s g) ++ leBytes 1 (quadRate s l) ++ [7] ++
    leBytes 1 (laneFts s l) ++ leBytes 1 ((if (laneSt s l).seen then 1 else 0) + if role then 2 else 0) ++ leBytes 8 (ownUid s) ++
    List.replicate 16 0
  p ++ leBytes 4 (crc32 p)

def sendCaps (g l : Nat) (s : State) : State :=
  modLane l (fun x => { x with at_ := s.tickNs }) (s.emit (.laneCaps l (capsBytes s g l)))

/-! ### Attempts -/

/-- CDR lock and alignment of a group's lanes end. -/
def grpUnlock (g : Nat) (s : State) : State := forEach (grpLanes s g) (fun l t => t.wf (Reg.SDS_LANE_STATE l) 16 2 0) s

/-- An attempt starts in DETECT, once the reference clock is present (R301, R303). -/
def startAttempt (g : Nat) (s : State) : State :=
  let s := grpStage g 1 (grpUnlock g s)
  if !(grpClock s g) then modGroup g (fun x => { x with waiting := true, held := true }) s
  else
    let s := modGroup g (fun x => { x with waiting := false, held := false, probing := false }) s
    let n := (group s g).fails + 1
    forEach (grpLanes s g) (fun l t =>
      modLane l (fun _ => {}) ((t.wf (Reg.SDS_LANE_STATE l) 8 4 n).count (Reg.SDS_LANE_CNT_ATTEMPT l))) s

/-- A new series of attempts, told to the user by LANE_RETRY (R304). -/
def newSeries (g : Nat) (s : State) : State :=
  grpEvent g 0x00A1 0 [] (startAttempt g (modGroup g (fun _ => {}) s))

/-- Backoff before retry `r` in ns (R303). -/
def backoffNs (r : Nat) : Nat := min (10 * 2 ^ (r - 1)) 1000 * 1000000

/-- An attempt of a group ends with a reason: a backoff in which its transmitters send TS1, or DOWN after the ninth (R303). -/
def attemptFail (g reason : Nat) (s : State) : State :=
  let ls := grpLanes s g
  let s := forEach ls (fun l t => setReason reason l t) (grpUnlock g s)
  let n := (group s g).fails + 1
  if 9 ≤ n then
    let s := forEach ls (fun l t => (t.wf (Reg.SDS_LANE_STATE l) 8 4 0).count (Reg.SDS_LANE_CNT_DOWN l)) (grpStage g 6 s)
    grpEvent g 0x00A0 1 [reason] (modGroup g (fun _ => {}) s)
  else
    forEach ls (sendTs g · false)
      (modGroup g (fun x => { x with fails := n, waiting := true, held := false, until_ := s.tickNs + backoffNs n }) (grpStage g 1 s))

/-- An attempt of the group is in progress. -/
def attempting (s : State) (g : Nat) : Bool :=
  !(group s g).waiting && (grpLanes s g).any fun l => decide (1 ≤ laneStage s l ∧ laneStage s l ≤ 4)

/-- UID of the partner of a lane. -/
def partnerUid (s : State) (l : Nat) : Nat :=
  (s.rd (Reg.SDS_LANE_PARTNER_UID_HI l)).toNat * 2 ^ 32 + (s.rd (Reg.SDS_LANE_PARTNER_UID_LO l)).toNat

/-- A lane of an ACTIVE stream group. -/
def streamLane (s : State) (l : Nat) : Bool :=
  match grpOf s l with | some g => decide (g < 4) && grpActive s g | none => false

/-- The electrical-idle fallback applies to a lane: the partner lacks a sleep bit, both ends have EIDLE (R308). -/
def eidleFallback (s : State) (l : Nat) : Bool :=
  streamLane s l && s.fd (Reg.SDS_LANE_PARTNER_X l) 8 2 != 3 && s.bit (Reg.SDS_LANE_PARTNER_X l) 10 &&
    s.bit (Reg.SDS_LANE_PWR l) 1

/-- EIDLE_REQ and EIDLE are both 1. -/
def eidleAsked (s : State) (l : Nat) : Bool := s.bit (Reg.SDS_LANE_PWR l) 1 && s.bit (Reg.SDS_LANE_PWR l) 2

/-- The fallback is asked for with EIOS (R308). -/
def eidleAsk (l : Nat) (s : State) : State :=
  if eidleAsked s l && eidleFallback s l && !(s.bit (Reg.SDS_LANE_STATE l) 14) then
    modLane l (fun x => { x with eiosOut := true }) (s.emit (.laneSet l eiosSet 1))
  else s

/-- The group becomes ACTIVE (R300); the fallback is asked for where EIDLE_REQ stands (R308). -/
def grpUp (g : Nat) (s : State) : State :=
  let ls := grpLanes s g
  let s := forEach ls (fun l t => modLane l (fun x => { x with at_ := s.tickNs }) ((setStage 5 l t).wf (Reg.SDS_LANE_STATE l) 8 4 0))
    (modGroup g (fun _ => {}) s)
  let s := grpEvent g 0x00A2 0 [] s
  if g < 4 then
    forEach ls eidleAsk ((s.wb (Reg.SDS_STR_STATUS g) 0 true).wb (Reg.SDS_STR_STATUS g) 4 false)
  else fabPortUp (g - 4) (partnerUid s (ls.headD 0)) s

/-- The user of a group loses its lanes (R275, R305, Table STR-5). -/
def grpLost (g : Nat) (s : State) : State :=
  let s := forEach (grpLanes s g) (fun l t => modLane l (fun _ => {}) (t.wr (Reg.SDS_LANE_STATE l)
    (t.rd (Reg.SDS_LANE_STATE l) &&& ~~~ 0x37000#32))) s
  if g < 4 then (strAbandon g (streamCut g s)).wb (Reg.SDS_STR_STATUS g) 0 false else fabPortDown (g - 4) s

/-- A group leaves ACTIVE; a new series starts at once (R305). -/
def leaveActive (g : Nat) (s : State) : State := newSeries g (grpLost g s)

/-- The group stops: its lanes go OFF, powered down (R305). -/
def grpOff (g : Nat) (s : State) : State :=
  let s := when (grpActive s g) (grpLost g) s
  let s := forEach (grpLanes s g) (fun l t =>
    modLane l (fun _ => {}) (((t.wf (Reg.SDS_LANE_STATE l) 8 4 0)).wf (Reg.SDS_LANE_STATE l) 15 3 0)) (grpStage g 0 s)
  modGroup g (fun _ => {}) s

/-! ### Enables (R88, R89, R104, R251, R298) -/

/-- The lanes a control word names are of one quad with the given use, the first a multiple of the count (R88, R251). -/
def laneChoiceOk (s : State) (use : Nat) (w : Word) : Bool :=
  let f := ctrlFirst w
  decide (f < 24) && f % ctrlLanes w == 0 && quadUse s f == use

/-- Reservation of a stream in Mbit/s (R89). -/
def strReserve (s : State) (w : Word) : Nat := ctrlLanes w * laneMbps (quadRate s (ctrlFirst w))

/-- Sum of the reservations of enabled streams other than `n`. -/
def reserved (s : State) (n : Nat) : Nat :=
  (List.range 4).foldl (fun a k => if k != n && s.bit (Reg.SDS_STR_CTRL k) 0 then a + strReserve s (s.rd (Reg.SDS_STR_CTRL k)) else a) 0

/-- What an enable of stream `n` is answered: OK, STATE or NOSPACE (R89, R104, R298). The surface must exist and have the stream as its
source. -/
def streamAdmit (s : State) (n : Nat) : Nat :=
  let w := s.rd (Reg.SDS_STR_CTRL n)
  let f := strSurf s n
  if !(laneChoiceOk s 1 w) || !(surfValid s f) || surfSource s f != n then St.state
  else if 80000 < reserved s n + strReserve s w then St.noSpace
  else St.ok

/-- Missing capacity of a refused enable, in Mbit/s (R89). -/
def streamMissing (s : State) (n : Nat) : Nat := reserved s n + strReserve s (s.rd (Reg.SDS_STR_CTRL n)) - 80000

/-- SDS.STRn_RESV, ADMITTED and the total follow the enables (R89). -/
def reserveShow (n r : Nat) (s : State) : State :=
  let s := (s.wr (Reg.SDS_STR_RESV n) (BitVec.ofNat 32 r)).wb (Reg.SDS_STR_STATUS n) 5 (decide (0 < r))
  s.wr Reg.SDS_STR_RESV_TOTAL (BitVec.ofNat 32 (reserved s 4))

/-- A stream is enabled or disabled; an enable that is refused changes nothing. -/
def streamEn (n : Nat) (v : Bool) (s : State) : State :=
  if v == s.bit (Reg.SDS_STR_CTRL n) 0 then s
  else if v then
    if streamAdmit s n != St.ok then s
    else
      let r := strReserve s (s.rd (Reg.SDS_STR_CTRL n))
      newSeries n (reserveShow n r (s.wb (Reg.SDS_STR_CTRL n) 0 true))
  else
    let s := strAbandon n (grpOff n s)
    let s := (s.wb (Reg.SDS_STR_CTRL n) 0 false).wf (Reg.SDS_STR_STATUS n) 0 5 0
    reserveShow n 0 s

/-- A fabric port may be enabled (R251, R298). -/
def fabPortOk (s : State) (p : Nat) : Bool := laneChoiceOk s 2 (s.rd (Reg.FAB_P_CTRL p))

/-- A fabric port is enabled or disabled. -/
def fabPortEn (p : Nat) (v : Bool) (s : State) : State :=
  if v == s.bit (Reg.FAB_P_CTRL p) 0 then s
  else if v then (if fabPortOk s p then newSeries (4 + p) (s.wb (Reg.FAB_P_CTRL p) 0 true) else s)
  else (grpOff (4 + p) s).wb (Reg.FAB_P_CTRL p) 0 false

/-! ### Quads, test and restart -/

/-- Every lane of a quad is OFF (R297). -/
def quadOff (s : State) (q : Nat) : Bool := (List.range 4).all fun i => laneStage s (4 * q + i) == 0

/-- SDS.Qq_STATUS follows the reference clock selected. -/
def quadShow (q : Nat) (s : State) : State :=
  let ok := s.bit Reg.SDS_REFCLK_STATUS (quadRef s q)
  (s.wb (Reg.SDS_Q_STATUS q) 1 ok).wb (Reg.SDS_Q_STATUS q) 0 (ok && s.fd (Reg.SDS_Q_CFG q) 0 2 != 0)

/-- Lane of a MAC (R312). -/
def macLaneOf (s : State) (m : Nat) : Nat := s.fd (Reg.MAC_CTRL m) 3 5

/-- The lane of an enabled MAC. -/
def macLane (s : State) (l : Nat) : Bool := (List.range 2).any fun m => s.bit (Reg.MAC_CTRL m) 0 && macLaneOf s m == l

/-- A MAC works on its lane: enabled, a lane there is, its quad Ethernet, and not in TEST (R296, R310, R312). -/
def macOn (s : State) (m : Nat) : Bool :=
  s.bit (Reg.MAC_CTRL m) 0 && decide (macLaneOf s m < 24) && quadUse s (macLaneOf s m) == 3 && laneStage s (macLaneOf s m) != 7

/-- An OFF lane that has become the lane of a working MAC starts (R312). -/
def macStart (s : State) : State :=
  forEach (List.range 2) (fun m t => when (macOn t m && laneStage t (macLaneOf t m) == 0) (setStage 1 (macLaneOf t m)) t) s

/-- A write of SDS.Qq_CFG applies only while every lane is OFF (R297). -/
def quadCfg (q : Nat) (w : Word) (s : State) : State :=
  if quadOff s q then macStart (quadShow q (s.swWrite (Reg.SDS_Q_CFG q) w)) else s.count Reg.SDS_CNT_CFG_REJ

/-- A lane serves an enabled group, or an enabled MAC: it takes no TEST (R310). -/
def laneServes (s : State) (l : Nat) : Bool := (grpOf s l).isSome || macLane s l

/-- SDS.LANEl_CTRL written: a set of TEST while the lane's group is enabled is discarded and counted; the PRBS generator starts from all
ones and the checker anew when they are selected, and without the checker there is no lock (R310, R311; log entry 136). -/
def laneCtrl (l : Nat) (w : Word) (s : State) : State :=
  let a := Reg.SDS_LANE_CTRL l
  let was := s.rd a
  let bad := w.getLsbD 0 && !(was.getLsbD 0) && laneServes s l
  let s := when bad (State.count · Reg.SDS_CNT_CFG_REJ) s
  let s := s.swWrite a (if bad then setFld w 0 1 0 else w)
  let test := s.bit a 0
  let s := if test then setStage 7 l s else if laneStage s l == 7 then macStart (setStage 0 l s) else s
  let s := when (!test || fld was 3 2 != s.fd a 3 2) (modLane l fun x => { x with gen := [] }) s
  if !test || fld was 5 2 != s.fd a 5 2 then
    modLane l (fun x => { x with chk := [], run := 0, errs := 0 }) (s.wb (Reg.SDS_LANE_STATE l) 18 false)
  else s

/-- A restart starts a new series of the lane's group (R304). -/
def laneRestart (l : Nat) (s : State) : State :=
  match grpOf s l with
  | some g => newSeries g (when (grpActive s g) (grpLost g) s)
  | none => s

/-! ### Stages (R300 to R302) -/

/-- DETECT's charge test, with TS1 between tests: termination and signal complete DETECT; on a probe they start a new series (R300,
R304). -/
def detectTest (l : Nat) (term signal : Bool) (s : State) : State :=
  match grpOf s l with
  | none => s
  | some g =>
    if (laneStage s l == 1 && !(group s g).waiting) || (laneStage s l == 6 && (group s g).probing) then
      let s := sendTs g l false ((s.wb (Reg.SDS_LANE_STATE l) 15 signal).emit (.laneTest l))
      if !(term && signal) then s else if laneStage s l == 1 then setStage 2 l s else newSeries g s
    else s

/-- Charge test (R300). -/
def execDetectTest (l : Fin 24) (term signal : Bool) (s : State) : Host.Outcome State Fault Refusal :=
  done (detectTest l.val term signal s)

/-- Training sets: TS1 while the equaliser adapts, TS2 once it has adapted and 8 sets have come; 16 TS2 sent and 8 in a row
received complete TRAIN, and LOCK sends TS2, then IDLE (R300). -/
def trainingSets (l : Nat) (adapted : Bool) (sets ts2Run ts2Sent : Nat) (s : State) : State :=
  match grpOf s l with
  | none => s
  | some g =>
    if laneStage s l == 2 then
      let ready := adapted && decide (8 ≤ sets)
      let s := sendTs g l ready s
      if ready && decide (16 ≤ ts2Sent ∧ 8 ≤ ts2Run) then (sendTs g l true (setStage 3 l s)).emit (.laneSet l idleSet 1) else s
    else s

/-- TS1 and TS2 received (R300). -/
def execTrainingSetsReceived (l : Fin 24) (adapted : Bool) (sets ts2Run ts2Sent : Nat) (s : State) :
    Host.Outcome State Fault Refusal := done (trainingSets l.val adapted sets ts2Run ts2Sent s)

/-- Bit lock, then 4 K28.5 at one alignment, complete LOCK: CAPS goes out (R300). -/
def laneLock (l : Nat) (bitLock : Bool) (commas : Nat) (s : State) : State :=
  match grpOf s l with
  | none => s
  | some g =>
    if laneStage s l == 3 then
      let ok := bitLock && decide (4 ≤ commas)
      let s := (s.wb (Reg.SDS_LANE_STATE l) 16 bitLock).wb (Reg.SDS_LANE_STATE l) 17 ok
      if ok then sendCaps g l (setStage 4 l s) else s
    else s

/-- Lock of a lane (R300). -/
def execLaneLock (l : Fin 24) (bitLock : Bool) (commas : Nat) (s : State) : Host.Outcome State Fault Refusal :=
  done (laneLock l.val bitLock commas s)

/-- CAPS_MISMATCH (R302). -/
def capsBad (s : State) (g l : Nat) (c : CapsPkt) : Bool :=
  c.proto.toNat != quadUse s l || !(decide (0x10 ≤ c.protoRev.toNat ∧ c.protoRev.toNat ≤ 0x1F)) ||
    c.nlanes.toNat != laneCount s g || c.lane.toNat != lanePos s g l ||
    c.rate.toNat != quadRate s l || (decide (g < 4) && c.flags.getLsbD 1 == strTx s g) ||
    (grpLanes s g).any fun k => k != l && (laneSt s k).seen && partnerUid s k != c.uid.toNat

/-- The partner registers show a CAPS. -/
def capsShow (l : Nat) (c : CapsPkt) (s : State) : State :=
  (((s.wr (Reg.SDS_LANE_PARTNER l) (c.nlanes ++ c.lane ++ c.protoRev ++ c.proto)).wr
    (Reg.SDS_LANE_PARTNER_X l) (c.flags ++ c.ftsReq ++ c.power ++ c.rate)).wr
    (Reg.SDS_LANE_PARTNER_UID_LO l) (c.uid.setWidth 32)).wr (Reg.SDS_LANE_PARTNER_UID_HI l) (c.uid.extractLsb' 32 32)

/-- A valid CAPS received: a mismatch fails the attempt; with SEEN the lane is complete, and with the last lane the group
is ACTIVE (R300, R302). -/
def capsIn (l : Nat) (c : CapsPkt) (s : State) : State :=
  match grpOf s l with
  | none => s
  | some g =>
    if laneStage s l != 4 then s
    else
      let bad := capsBad s g l c
      let s := modLane l (fun x => { x with seen := true, done := x.done || c.flags.getLsbD 0 }) (capsShow l c s)
      if bad then attemptFail g capsMismatch s
      else if (grpLanes s g).all fun k => laneStage s k == 4 && (laneSt s k).done then grpUp g s
      else s

/-- CAPS received (R302). -/
def execCaps (l : Fin 24) (c : CapsPkt) (s : State) : Host.Outcome State Fault Refusal := done (capsIn l.val c s)

/-- Reason of a stage's timeout (Table SDS-3). -/
def stageReason (s : State) (l : Nat) : Nat :=
  match laneStage s l with
  | 1 => noRx
  | 3 => if s.bit (Reg.SDS_LANE_STATE l) 16 then noComma else noLock
  | _ => trainTimeout

/-- A stage times out: the group's attempt fails; a probe without a result ends (R300, R301, R304). -/
def stageTimeout (l : Nat) (s : State) : State :=
  match grpOf s l with
  | none => s
  | some g =>
    if (group s g).probing then modGroup g (fun x => { x with probing := false }) s
    else if attempting s g && decide (1 ≤ laneStage s l ∧ laneStage s l ≤ 4) && !(laneSt s l).done then
      attemptFail g (stageReason s l) s
    else s

/-- Stage timeout (R300). -/
def execLaneStageTimeout (l : Fin 24) (s : State) : Host.Outcome State Fault Refusal := done (stageTimeout l.val s)

/-- The backoff of a group ends: the next attempt (R303). -/
def backoffEnd (g : Nat) (s : State) : State :=
  if grpEn s g && (group s g).waiting && !(group s g).held then startAttempt g (s.advanceTo (ns16 (group s g).until_)) else s

/-- End of a retry backoff (R303). -/
def execLaneBackoffExpiry (g : Fin 8) (s : State) : Host.Outcome State Fault Refusal := done (backoffEnd g.val s)

/-- A DOWN group makes one probe, a DETECT: the charge test, with TS1 between tests (R304). -/
def laneProbe (g : Nat) (s : State) : State :=
  if grpEn s g && grpDown s g && grpClock s g then
    forEach (grpLanes s g) (fun l t => sendTs g l false (t.emit (.laneTest l))) (modGroup g (fun x => { x with probing := true }) s)
  else s

/-- Probe (R304). -/
def execLaneProbe (g : Fin 8) (s : State) : Host.Outcome State Fault Refusal := done (laneProbe g.val s)

/-- A detector of a lane sees a signal: a DOWN group starts a new series. While this device's own direction is entering sleep the partner
leaves: it is answered with this end's own burst (R304, R308, R309). -/
def signalDetect (l : Nat) (s : State) : State :=
  let s := s.wb (Reg.SDS_LANE_STATE l) 15 true
  let s := if (laneSt s l).eiosOut then modLane l (fun x => { x with eiosOut := false, ftsOut := true }) (ftsBurst l s) else s
  match grpOf s l with
  | some g => if grpDown s g then newSeries g s else s
  | none => s

/-- Signal detected (R304). -/
def execLaneSignalDetect (l : Fin 24) (s : State) : Host.Outcome State Fault Refusal := done (signalDetect l.val s)

/-- Loss of signal (or, with `align`, of alignment) for more than 1 µs (R301, R305). A sleeping partner's missing signal
is no loss. -/
def signalLoss (l : Nat) (align : Bool) (s : State) : State :=
  let w := s.rd (Reg.SDS_LANE_STATE l)
  if fld w 13 2 != 0 then (if align then s else s.wb (Reg.SDS_LANE_STATE l) 15 false)
  else
    let s := if align then s.wb (Reg.SDS_LANE_STATE l) 17 false else s.wf (Reg.SDS_LANE_STATE l) 15 3 0
    let s := modLane l (fun x => { x with eiosOut := false }) s
    match grpOf s l with
    | none => s
    | some g =>
      if grpActive s g then leaveActive g (s.count (Reg.SDS_LANE_CNT_LOS l))
      else if !align && attempting s g && decide (2 ≤ laneStage s l ∧ laneStage s l ≤ 4) then attemptFail g noRx s
      else s

/-- Loss of signal or alignment (R305). -/
def execLaneSignalLoss (l : Fin 24) (align : Bool) (s : State) : Host.Outcome State Fault Refusal :=
  done (signalLoss l.val align s)

/-- Code and disparity errors in 1 ms: more than 16 take an ACTIVE group out of ACTIVE (R305). -/
def codeErrors (l n : Nat) (s : State) : State :=
  match grpOf s l with
  | none => s
  | some g =>
    if grpActive s g then
      let s := s.countBy (Reg.SDS_LANE_CNT_CODE_ERR l) n
      if 16 < n then leaveActive g s else s
    else s

/-- Code errors (R305). -/
def execLaneCodeErrors (l : Fin 24) (n : Nat) (s : State) : Host.Outcome State Fault Refusal := done (codeErrors l.val n s)

/-! ### Reference clocks (R296, R301) -/

/-- Quads of a reference clock. -/
def refQuads (s : State) (k : Nat) : List Nat := (List.range 6).filter fun q => quadRef s q == k

/-- Enabled groups whose quad uses a reference clock. -/
def refGroups (s : State) (k : Nat) : List Nat :=
  (List.range 8).filter fun g => grpEn s g && (refQuads s k).contains (ctrlFirst (s.rd (grpCtrl g)) / 4)

/-- A reference clock fails its monitor: attempts end, and ACTIVE groups leave, with REFCLK (R301). -/
def refclkFail (k : Nat) (s : State) : State :=
  let s := forEach (refQuads s k) quadShow (s.wb Reg.SDS_REFCLK_STATUS k false)
  forEach (refGroups s k) (fun g t =>
    if grpActive t g then
      leaveActive g (forEach (grpLanes t g) (fun l u => setReason refclkReason l u) t)
    else if attempting t g then attemptFail g refclkReason t
    else t) s

/-- A reference clock has been present for 1 ms, at 125 or 156.25 MHz: attempts that waited for it start (R296, R301). -/
def refclkPresent (k : Nat) (fast : Bool) (s : State) : State :=
  let s := (s.wb Reg.SDS_REFCLK_STATUS k true).wb Reg.SDS_REFCLK_STATUS (2 + k) fast
  let s := forEach (refQuads s k) quadShow s
  forEach (refGroups s k) (fun g t => if (group t g).held then startAttempt g t else t) s

/-- A reference clock is back (R301). -/
def execRefclkPresent (k : Fin 2) (fast : Bool) (s : State) : Host.Outcome State Fault Refusal :=
  done (refclkPresent k.val fast s)

/-! ### Sleep and electrical idle (R306 to R309) -/

/-- The fallback is left with FTS (R308); a request not yet answered is dropped. -/
def eidleLeave (l : Nat) (s : State) : State :=
  let s := modLane l (fun x => { x with eiosOut := false }) s
  if s.bit (Reg.SDS_LANE_STATE l) 14 && !(laneSt s l).ftsOut then modLane l (fun x => { x with ftsOut := true }) (ftsBurst l s) else s

/-- EIDLE_REQ, or EIDLE, has changed: the fallback is asked for, or left (R308). -/
def eidleTurn (was : Bool) (l : Nat) (s : State) : State :=
  if eidleAsked s l == was then s else if was then eidleLeave l s else eidleAsk l s

/-- EIDLE_REQ of a lane changes (R308). -/
def eidleRequest (l : Nat) (v : Bool) (s : State) : State := eidleTurn (eidleAsked s l) l (s.wb (Reg.SDS_LANE_PWR l) 2 v)

/-- Both directions of a lane are idle (R308). -/
def eidleIn (l : Nat) (s : State) : State := (s.wb (Reg.SDS_LANE_STATE l) 14 true).count (Reg.SDS_LANE_CNT_SLEEP l)

/-- EIOS received: the answer to this end's; a request for the fallback, which is answered; or the partner's sleep. Where a partner that has
TX_SLEEP sends it, it is a request while this device has EIDLE_REQ (log entry 135). -/
def eiosIn (l : Nat) (s : State) : State :=
  if !(streamLane s l) then s
  else if (laneSt s l).eiosOut then eidleIn l (modLane l (fun x => { x with eiosOut := false }) s)
  else if eidleFallback s l && (eidleAsked s l || !(s.bit (Reg.SDS_LANE_PARTNER_X l) 8)) then eidleIn l (s.emit (.laneSet l eiosSet 1))
  else if s.bit (Reg.SDS_LANE_PARTNER_X l) 8 then s.wb (Reg.SDS_LANE_STATE l) 13 true
  else s

/-- EIOS received (R308). -/
def execEios (l : Fin 24) (s : State) : Host.Outcome State Fault Refusal := done (eiosIn l.val s)

/-- FTS received: idle ends, answered with this end's own burst unless that has gone out; a receiver not aligned counts and takes the
group out of ACTIVE (R306, R308, R309). -/
def ftsIn (l : Nat) (aligned : Bool) (s : State) : State :=
  let sent := (laneSt s l).ftsOut
  if fld (s.rd (Reg.SDS_LANE_STATE l)) 13 2 == 0 && !sent then s
  else
    let s := when (s.bit (Reg.SDS_LANE_STATE l) 14 && !sent) (ftsBurst l) s
    let s := modLane l (fun x => { x with ftsOut := false }) ((s.wf (Reg.SDS_LANE_STATE l) 13 2 0).wb (Reg.SDS_LANE_STATE l) 15 true)
    if aligned then s
    else
      let s := s.count (Reg.SDS_LANE_CNT_FTS_FAIL l)
      match grpOf s l with
      | some g => leaveActive g s
      | none => s

/-- FTS received (R306). -/
def execFts (l : Fin 24) (aligned : Bool) (s : State) : Host.Outcome State Fault Refusal := done (ftsIn l.val aligned s)

/-- No answer to an EIOS within 10 µs: the partner is left awake (R309). -/
def eiosTimeout (l : Nat) (s : State) : State :=
  if (laneSt s l).eiosOut then
    (modLane l (fun x => { x with eiosOut := false }) s).count (Reg.SDS_LANE_CNT_FTS_FAIL l)
  else s

/-! ### PRBS (R311) -/

/-- Degree of a pattern and its other tap: x^n + x^k + 1. -/
def prbsTaps (code : Nat) : Nat × Nat := match code with | 1 => (7, 6) | 2 => (15, 14) | _ => (31, 28)

/-- The bit that follows bits `h`, newest first, in a pattern. -/
def prbsNext (code : Nat) (h : List Bool) : Bool := (h.getD ((prbsTaps code).1 - 1) false) != (h.getD ((prbsTaps code).2 - 1) false)

/-- `n` bits of a generator, oldest first, and what it then holds. -/
def prbsMake (code : Nat) : Nat → List Bool → List Bool × List Bool
  | 0, h => ([], h)
  | n + 1, h =>
    let b := prbsNext code h
    let r := prbsMake code n ((b :: h).take 31)
    (b :: r.1, r.2)

/-- `n` bits of the generator of a lane, which starts from all ones, and its history after them; none where it is off. -/
def prbsGenerate (s : State) (l n : Nat) : List Bool × List Bool :=
  let h := (laneSt s l).gen
  let code := s.fd (Reg.SDS_LANE_CTRL l) 3 2
  if code == 0 then ([], h) else prbsMake code n (if h.isEmpty then List.replicate 31 true else h)

/-- One bit at the checker. Before lock it follows the line, and locks after 64 error-free bits; after lock it runs by itself, each bit that
differs counts, and a block of 64 bits of which half or more differ loses lock (log entry 136). -/
def prbsBit (l code : Nat) (b : Bool) (s : State) : State :=
  let x := laneSt s l
  let want := prbsNext code x.chk
  if s.bit (Reg.SDS_LANE_STATE l) 18 then
    let bad := b != want
    let s := when bad (State.count · (Reg.SDS_LANE_CNT_PRBS_ERR l)) s
    let errs := x.errs + if bad then 1 else 0
    if x.run + 1 < 64 then modLane l (fun x => { x with chk := (want :: x.chk).take 31, run := x.run + 1, errs := errs }) s
    else if errs < 32 then modLane l (fun x => { x with chk := (want :: x.chk).take 31, run := 0, errs := 0 }) s
    else modLane l (fun x => { x with chk := [], run := 0, errs := 0 }) (s.wb (Reg.SDS_LANE_STATE l) 18 false)
  else
    let n := (prbsTaps code).1
    let good := decide (n ≤ x.chk.length) && (x.chk.take n).any id && b == want
    let run := if good then x.run + 1 else 0
    let s := modLane l (fun x => { x with chk := (b :: x.chk).take 31, run := if run < 64 then run else 0, errs := 0 }) s
    when (decide (64 ≤ run)) (State.wb · (Reg.SDS_LANE_STATE l) 18 true) s

/-- Bits pass on the raw line of a lane in TEST: the generator sends as many as come in; the near-end serial loop takes them to the
lane's own receiver, with the balls idle, and the far-end loop sends back what is received. TX_INV and RX_INV invert the pairs (R310,
R311). -/
def prbsBits (l : Nat) (bits : List Bool) (s : State) : State :=
  let c := s.rd (Reg.SDS_LANE_CTRL l)
  let loop := fld c 1 2
  let inv (i : Nat) (x : List Bool) : List Bool := x.map (· != c.getLsbD i)
  if laneStage s l != 7 then s
  else
    let g := prbsGenerate s l bits.length
    let rx := inv 8 (if loop == 1 then inv 7 g.1 else bits)
    let tx := if loop == 1 then [] else if loop == 3 then inv 7 rx else inv 7 g.1
    let s := when (!tx.isEmpty) (State.emit · (.laneBits l tx)) (modLane l (fun x => { x with gen := g.2 }) s)
    if fld c 5 2 == 0 then s else forEach rx (prbsBit l (fld c 5 2)) s

/-- PRBS bits: `count` of them, bit 0 of `bits` first (R311). -/
def execPrbsLock (l : Fin 24) (count bits : Nat) (s : State) : Host.Outcome State Fault Refusal :=
  done (prbsBits l.val ((List.range count).map bits.testBit) s)

/-! ### What happens at a tick -/

/-- A lane in CAPS sends one every 50 µs (R300); a receiving stream's transmitter sleeps from the tick after ACTIVE (R307). -/
def laneTick (l : Nat) (s : State) : State :=
  if laneStage s l == 4 then
    match grpOf s l with
    | some g => when (decide ((laneSt s l).at_ + 50000 ≤ s.tickNs)) (sendCaps g l) s
    | none => s
  else if laneStage s l == 5 then
    match grpOf s l with
    | some g => when (decide (g < 4 ∧ (laneSt s l).at_ < s.tickNs) && !(strTx s g) && maySleep s l) (txSleep l true) s
    | none => s
  else s

/-- More than 32 characters of skew: a stream discards packets until its lanes are brought up again, a fabric port is
brought up again (R91, R252). -/
def deskewError (fabric : Bool) (n : Nat) (s : State) : State :=
  if fabric then
    if s.bit (Reg.FAB_P_STATUS n) 0 then leaveActive (4 + n) s else s
  else if s.bit (Reg.SDS_STR_STATUS n) 0 then (strAbandon n s).wb (Reg.SDS_STR_STATUS n) 4 true else s

/-- Deskew error (R91). -/
def execLaneDeskewError (fabric : Bool) (n : Fin 4) (s : State) : Host.Outcome State Fault Refusal :=
  done (deskewError fabric n.val s)

end Sys2Proof.Machine
end

