-- ==== Sys2Proof/Machine/Housekeeping.lean ====
section
/-! DEFINITION. Housekeeping: the results of the ADC round, broken sensors, bands and what they select (R387 to R396), and
calibration: triggers, the queue, and the end of a run (R403 to R408). -/
namespace Sys2Proof.Machine

/-! ### Results (R387 to R389) -/

/-- The terms z^(2j+1) / (2j+1) of the series of artanh, in 2⁻⁶⁰, from j = `n` of them down, for a power `p` and square `q`. -/
def artanhSum : Nat → Nat → Nat → Nat → Nat
  | 0, _, _, _ => 0
  | n + 1, j, p, q => p / (2 * j + 1) + artanhSum n (j + 1) (p * q / 2 ^ 60) q

/-- The natural logarithm of `n` ≥ 1 in 2⁻⁶⁰, with an error far below any step of a result (log entry 34). -/
def lnNat (n : Nat) : Nat :=
  let k := Nat.log2 n
  let z := (n - 2 ^ k) * 2 ^ 60 / (n + 2 ^ k)
  k * 799144290325165979 + 2 * artanhSum 30 0 z (z * z / 2 ^ 60)

/-- A temperature `num / den` in 1/16 °C as a whole number of steps: which neighbour of a value between two is a free value. -/
def tempStep (s : State) (num den : Int) : Int := num / den + if num % den == 0 then 0 else (s.freeNow % 2 : Nat)

/-- Temperature of a remote diode in 1/16 °C from ΔV1 and ΔV2 in nV (R388), as a fraction. -/
def diodeTemp (eta dv1 dv2 : Nat) : Int × Int :=
  let d : Int := (198423 * (2048 + eta) * 10 : Nat)
  ((2 * (dv1 : Int) - dv2) * (16 * 2048 * 10) - 43704 * (198423 * (2048 + eta) : Nat), d)

/-- Temperature of a thermistor in 1/16 °C from its code and BETA (R389), as a fraction; codes 0 and 4,095 give none. -/
def thermistorTemp (beta c : Nat) : Option (Int × Int) :=
  if c == 0 || 4095 ≤ c then none
  else
    let ln : Int := (lnNat c : Int) - lnNat (4095 - c)
    let den : Int := 100 * beta * 2 ^ 60 + 29815 * ln
    if den ≤ 0 then none else some (16 * 29815 * beta * 2 ^ 60 * 100 - 437040 * den, den * 100)

/-- A value as a signed 16-bit field, at the nearest end of its range. -/
def clamp16 (v : Int) : Int := max (-32768) (min 32767 v)

/-- A value lies outside −60 to +170 °C. -/
def tempOut (v : Int) : Bool := decide (v < -960 ∨ 2720 < v)

/-- A channel takes a result: value, and whether a condition of R390 holds in it. -/
def chResult (ch : Nat) (v : Int) (bad : Bool) (s : State) : State :=
  modSens ch (fun x => { x with bad := bad, given := true }) (s.wf (Reg.HK_CH_VALUE ch) 0 16 (wrapInt 16 v))

/-- The slot of channel `ch` ends with a measurement of its kind (R387). -/
def slotEnd (ch : Nat) (raw : HkRaw) (s : State) : State :=
  if !(s.bit Reg.HK_CTRL 0) || roleOff s ch then s
  else if 42 ≤ ch then chResult ch 0 false s
  else match raw with
    | .diode v10 dv1 dv2 =>
      if 4 ≤ ch then s
      else
        let f := diodeTemp (s.fd (Reg.HK_CH_CFG ch) 8 8) dv1 dv2
        let v := tempStep s f.1 f.2
        chResult ch (clamp16 v) (decide (950 < v10 ∨ v10 < 150) || tempOut v) s.useFree
    | .code c =>
      if ch < 4 || 12 ≤ ch then s
      else
        let v := match thermistorTemp (s.fd (Reg.HK_CH_CFG ch) 16 16) c.val with
          | some f => tempStep s f.1 f.2
          | none => sext 16 s.freeNow
        chResult ch (clamp16 v) (decide (c.val < 41 ∨ 4054 < c.val)) s.useFree
    | .value v =>
      if ch < 12 then s
      else if ch < 18 then chResult ch (clamp16 v) (tempOut v) s
      else chResult ch (max 0 (min 65535 v)) false s

/-- An ADC slot ends (R387). -/
def execHkSlotEnd (ch : Fin 48) (raw : HkRaw) (s : State) : Host.Outcome State Fault Refusal := done (slotEnd ch.val raw s)

/-! ### Broken sensors (R390 to R392) -/

/-- Sensors that take part in a round: channels 0 to 17 without ROLE OFF, and the SEG_TEMP of every segment. -/
def roundSensors (s : State) : List Nat :=
  ((List.range 18).filter fun k => !(roleOff s k)) ++ (List.range 256).map (48 + ·)

/-- A condition of R390 holds at the end of a round. -/
def brokenNow (s : State) (k : Nat) : Bool :=
  if 48 ≤ k then (s.seg (k - 48)).temp.isNone || decide (16 ≤ (s.seg (k - 48)).tempAge)
  else if 12 ≤ k then
    let o := otherDies s k
    let sum := (o.map (chValue s)).foldl (· + ·) 0
    (sens s k).bad || (!o.isEmpty && decide (400 * o.length < (chValue s k * o.length - sum).natAbs))
  else (sens s k).bad

/-- Object of a sensor: its channel, or the segment of a SEG_TEMP. -/
def sensObj (k : Nat) : Nat × Nat := if k < 48 then (13, k) else (clsSegment, k - 48)

/-- Channel byte of a sensor's events: the channel, or 12, the code of SEG_TEMP in SENSOR (log entry 35). -/
def sensByte (k : Nat) : Nat := if k < 48 then k else 12

def sensorEvent (k what : Nat) (s : State) : State :=
  s.event 0x0023 14 1 (sensObj k).1 (sensObj k).2 [sensByte k, what]

/-- BROKEN of a sensor is evaluated (R390). -/
def brokenEval (k : Nat) (bad : Bool) (s : State) : State :=
  let x := sens s k
  if bad then
    let s := modSens k (fun x => { x with broken := true, clean := 0 }) s
    if x.broken then s else sensorEvent k 0 (s.count Reg.HK_CNT_BROKEN)
  else if x.broken then
    if clampNat 1 15 (s.fd Reg.HK_HYST 8 4) ≤ x.clean + 1 then
      sensorEvent k 1 (modSens k (fun x => { x with broken := false, clean := 0 }) s)
    else modSens k (fun x => { x with clean := x.clean + 1 }) s
  else s

/-- The array sensors (R392). -/
def arraySensors (s : State) : List Nat :=
  ((List.range 12).filter fun k => s.fd (Reg.HK_CH_CFG k) 0 2 == 1) ++
    ((List.range 256).filter fun g => s.lf (Reg.SEG_SEG_CORR g) 0 4 == 12 || s.lf (Reg.SEG_SEG_CORR g) 4 4 == 12).map (48 + ·)

/-- ARRAY_BROKEN follows the array sensors (R392). -/
def arrayEval (s : State) : State :=
  let a := arraySensors s
  let b := !a.isEmpty && a.all fun k => (sens s k).broken
  let was := s.bit Reg.HK_STATUS 0
  let s := s.wb Reg.HK_STATUS 0 b
  if b && !was then s.event 0x0023 14 1 0 0 [0xFF, 0]
  else if was && !b then s.event 0x0023 14 1 0 0 [0xFF, 1]
  else s

/-! ### Bands (R393 to R395) -/

/-- Thresholds COLD to CRIT of a sensor in 1/16 °C (Table HK-2). -/
def bandTh (s : State) (k : Nat) : List Int :=
  let w := if 48 ≤ k then s.rd Reg.HK_ARRAY_TH else if 12 ≤ k then 0x7D6E5AF6#32 else s.rd (Reg.HK_CH_TH k)
  (List.range 4).map fun i => sext 8 (fld w (8 * i) 8) * 16

/-- Latest value of a sensor. -/
def sensValue (s : State) (k : Nat) : Int := if 48 ≤ k then (s.seg (k - 48)).temp.getD 0 else chValue s k

/-- Highest band above `lo` whose threshold plus `h` is reached. -/
def bandUp (th : List Int) (h : Int) (t : Int) (lo : Nat) : Option Nat :=
  ((List.range 4).map fun i => 4 - i).find? fun b => decide (lo < b) && decide (th.getD (b - 1) 0 + h ≤ t)

/-- Lowest band below `hi` whose upper threshold less `h` lies above `t`. -/
def bandDown (th : List Int) (h : Int) (t : Int) (hi : Nat) : Option Nat :=
  (List.range 4).find? fun b => decide (b < hi) && decide (t < th.getD b 0 - h)

/-- A sensor has given a first value. -/
def sensGiven (s : State) (k : Nat) : Bool := if 48 ≤ k then (s.seg (k - 48)).temp.isSome else (sens s k).given

/-- One round of the banding algorithm for a sensor that is not BROKEN (R394). -/
def bandEval (k : Nat) (s : State) : State :=
  let x := sens s k
  let t := sensValue s k
  let th := bandTh s k
  let h : Int := clampNat 1 15 (s.fd Reg.HK_HYST 0 4) * 16
  let cur := x.next.getD x.band
  if x.broken || !(sensGiven s k) then s
  else if cur == 7 then modSens k (fun x => { x with next := some ((bandUp th 0 t 0).getD 0) }) s
  else
    let up := bandUp th h t cur
    let dn := if up.isSome then none else bandDown th h t cur
    let tgt := (up.orElse fun _ => dn).getD cur
    let dir : Int := if up.isSome then 1 else if dn.isSome then -1 else 0
    let run := (if dir == 0 || dir != x.lastDir then 0 else x.run) + if dir == 0 then 0 else 1
    if clampNat 1 15 (s.fd Reg.HK_HYST 8 4) ≤ run then
      let s := modSens k (fun x => { x with run := 0, lastDir := dir, next := some tgt }) s
      (s.count Reg.HK_CNT_BAND_CHG).event 0x0024 14 0 (sensObj k).1 (sensObj k).2 [sensByte k, cur, tgt]
    else modSens k (fun x => { x with run := run, lastDir := dir }) s

/-! ### What the bands select (R396, R391) -/

/-- Band of die sensor `n` for a function it governs: of a BROKEN one, the highest of the others. -/
def dieBand (s : State) (n : Nat) : Nat :=
  if (sens s n).broken then ((otherDies s n).map (bandInForce s)).foldl max 0 else bandInForce s n

/-- DRAM refresh and segment-link drive follow DS4 and DS3, LED gains the segments' sensors. -/
def bandsShow (s : State) : State :=
  let d := dieBand s 16
  let m := match d with | 0 => 1 | 1 => 1 | 2 => 2 | _ => 4
  let s := s.wr Reg.HK_REFRESH (BitVec.ofNat 32 (m + 16 * d))
  let w := s.rd (Reg.HK_SLK_TX (dieBand s 15))
  let s := forEach (List.range 32) (fun n t => t.wr (Reg.SLK_LINK_TX_CFG n) w) s
  thermShowAll s

/-- A sensor with its decided band in force. -/
def bandTaken (x : Sensor) : Sensor := match x.next with | some b => { x with band := b, next := none } | none => x

/-- Bands decided take effect (R395). -/
def bandsApply (s : State) : State :=
  bandsShow (forEach (s.hk.sens.map (·.1)) (fun k t => modSens k bandTaken t) s)

/-! ### Calibration triggers (R404) -/

/-- A unit enters the queue once. -/
def calEnqueue (u : Nat) (s : State) : State :=
  if s.hk.calQueue.contains u then s
  else { s with hk := { s.hk with calQueue := s.hk.calQueue.filter (· < u) ++ [u] ++ s.hk.calQueue.filter (u < ·) } }

/-- The governing sensor has moved far enough from the kept temperature. -/
def calMoved (s : State) (u : Nat) : Bool :=
  match sget (fun _ => none) s.hk.calTemp u with
  | none => false
  | some t => decide ((clampNat 2 30 (s.fd Reg.HK_CAL_CFG 0 5)) * 16 < (dieTemp s (calSensor u) - t).natAbs)

/-- Units triggered at the end of a round. -/
def calTriggers (s : State) : State :=
  if !(s.bit Reg.HK_CAL_CFG 24) || s.pwr.stopped then s
  else forEach ((List.range 97).filter (calMoved s)) calEnqueue s

/-- Channel 47 completes: the round's evaluation (R387, R390 to R395, R404). -/
def roundEnd (s : State) : State :=
  if !(s.bit Reg.HK_CTRL 0) then s
  else
    let bad := (roundSensors s).map fun k => (k, brokenNow s k)
    let s := forEach bad (fun e t => brokenEval e.1 e.2 t) s
    let s := forEach (roundSensors s) bandEval s
    let s := calTriggers (arrayEval s)
    let s := s.count Reg.HK_CNT_ROUND
    if s.bit Reg.RAS_STATUS 0 then s else bandsApply s

/-! ### Runs (R405 to R408) -/

/-- The group of a lane's unit, and whether it is ACTIVE. -/
def laneInService (s : State) (l : Nat) : Bool :=
  match grpOf s l with | some g => grpActive s g | none => quadUse s l == 3 && laneStage s l == 5

/-- A unit is in service, so that it may run (R405). -/
def calInService (s : State) (u : Nat) : Bool :=
  if u < 64 then linkState s (calIndex u) == 6 && !(upAsleep s (calIndex u))
  else if u < 72 then s.pwr.dramReady
  else if u < 96 then laneInService s (u - 72)
  else true

/-- A unit's link is being retrained (R405). -/
def calHeld (s : State) (u : Nat) : Bool := decide (u < 64) && linkTraining s (calIndex u)

/-- Run time of a unit within blanking, in ns (Table HK-4). -/
def calTime (s : State) (u : Nat) : Nat :=
  if u < 32 then (if (s.link u).rate == 2 then 109700 else 164500)
  else if u < 64 then 8000
  else if u < 72 then 20000
  else if u < 96 then 0
  else 50000

/-- Time of `k` characters on link `n`, in 2⁻¹⁶ ns (Table PSL-1). -/
def charTime (s : State) (n k : Nat) : Int := (k * 10 * ui3 (s.link n).rate * 65536 / 3 : Nat)

/-- What is left of this blanking after the packets that R71 places ahead on the unit's link, `ahead` characters, is long enough. -/
def calFits (ahead : Nat → Nat) (s : State) (u : Nat) : Bool :=
  let before := if u < 64 then charTime s (calIndex u) (ahead (calIndex u)) else 0
  decide (((calTime s u : Nat) : Int) * 65536 + before ≤ s.ras.p0Next - blankAt s) &&
    !(decide (u < 64) && (s.link (calIndex u)).sleeping)

/-- The lowest queued unit that can run starts in this blanking (R405); a receiver unit of a segment link sends its CALBURST run
(R54, R71). -/
def calStart (ahead : Nat → Nat) (s : State) : State :=
  if s.hk.calRun.isSome || s.pwr.stopped then s
  else match s.hk.calQueue.find? fun u => calInService s u && !(calHeld s u) && calFits ahead s u with
    | none => s
    | some u =>
      let s := ({ s with hk := { s.hk with calRun := some u } }.wb Reg.HK_STATUS 3 true).wf Reg.HK_STATUS 4 7 u
      when (decide (u < 32)) (State.emit · (.slkSet u 0x4A (calBursts (s.link u).rate))) s

/-- A unit may make its start-up run (R408). -/
def calStartup (s : State) (u : Nat) : Bool :=
  (u == 96 && decide (stage s < 4)) || (decide (64 ≤ u ∧ u < 72) && !s.pwr.dramReady) ||
    (decide (72 ≤ u ∧ u < 96) && decide (2 ≤ laneStage s (u - 72) ∧ laneStage s (u - 72) ≤ 4))

/-- Completion of the CAL_RUN of a unit: 8 accepted, 9 EYE_TAPS (R407). -/
def calComplete (u eye : Nat) (s : State) : State :=
  let l := s.hk.calCtx.filter (·.1 == u)
  let s := { s with hk := { s.hk with calCtx := s.hk.calCtx.filter (·.1 != u) } }
  let ok := if s.bit Reg.HK_CAL_LAST 7 then 1 else 0
  forEach l (fun e t => completeOps 0x0E02 (fun o => o.ctx == e.2) St.ok (leBytes 1 ok ++ leBytes 1 eye) t) s

/-- HK.DRAMb_EYE after a run of a DRAM byte lane; the rounding of EYE_PS is a free value. -/
def dramEye (u eye margin : Nat) (s : State) : State :=
  if 64 ≤ u && u < 72 then
    let ps := eye * 15625 / 12800 + if eye * 15625 % 12800 == 0 then 0 else s.freeNow % 2
    (s.wr (Reg.HK_DRAM_EYE (u - 64)) (BitVec.ofNat 32 (eye % 256 + ps % 1024 * 2 ^ 8 + margin % 1024 * 2 ^ 18))).useFree
  else s

/-- A calibration run ends with a result (R406, R407). -/
def runEnd (u : Nat) (vals : List Nat) (eye margin : Nat) (pass : Bool) (s : State) : State :=
  if s.hk.calRun == some u then
    let s := { s with hk := { s.hk with calRun := none, calQueue := s.hk.calQueue.erase u } }
    let s := (s.wb Reg.HK_STATUS 3 false).wf Reg.HK_STATUS 4 7 0
    calComplete u eye (calEnd u true vals eye pass (dramEye u eye margin s))
  else if calStartup s u then calEnd u false vals eye pass (dramEye u eye margin s)
  else s

/-- Calibration run ended: unit, field values found, eye width and margin, and whether the check pattern passed (R406). -/
def execCalibrationRunEnd (u : Fin 97) (vals : List Nat) (eye : Byte) (margin : BitVec 10) (pass : Bool) (s : State) :
    Host.Outcome State Fault Refusal := done (runEnd u.val vals eye.toNat margin.toNat pass s)

end Sys2Proof.Machine
end

