-- ==== Sys2Proof/Machine/Net.lean ====
section
/-! DEFINITION. Network ports: the Ethernet MACs with ARP, ICMP echo and UDP (R312 to R314), the CAN FD controllers and their
message buffers (R315, R316), and mailbox messages on both (R321). -/
namespace Sys2Proof.Machine

/-! ### Ethernet -/

/-- Sum of big-endian 16-bit words, an odd last byte padded with 0. -/
def sum16 : Nat → List Byte → Nat
  | 0, _ => 0
  | n + 1, l => if l.isEmpty then 0 else (beAt (l ++ [0]) 0 2 + sum16 n (l.drop 2))

/-- The Internet checksum over `l` verifies. -/
def inetOk (l : List Byte) : Bool := sum16 l.length l % 65535 == 0

/-- Mode of a MAC (R312). -/
def macMode (s : State) (m : Nat) : Nat := s.fd (Reg.MAC_CTRL m) 1 2

/-- Line rate of an Ethernet lane in Mbit/s, by the mode of its MAC (R298). -/
def ethLineMbps (mode : Nat) : Nat := if mode == 2 then 3125 else 1250

/-- Auto-negotiation is used: AN_EN, and not by 2500BASE-X (R312). -/
def anUsed (s : State) (m : Nat) : Bool := s.bit (Reg.MAC_CTRL m) 8 && macMode s m != 2

/-- SPEED of a mode: 1,000 and 2,500 Mbit/s, or what an SGMII PHY tells, of which 3 is none (R312; log entry 137). -/
def macSpeed (s : State) (m told : Nat) : Nat := match macMode s m with | 1 => min told 2 | 2 => 3 | _ => 2

/-- MACm.STATUS.LINK becomes `up`; a change is counted and raises NET_LINK (R312). -/
def macShow (m : Nat) (up : Bool) (w : Nat) (s : State) : State :=
  let was := s.bit (Reg.MAC_STATUS m) 0
  let s := s.wr (Reg.MAC_STATUS m) (BitVec.ofNat 32 ((if up then 1 else 0) + w))
  if was == up then s
  else (s.count (Reg.MAC_CNT_LINK_CHG m)).event 0x00A3 11 0 12 m [if up then 1 else 0, w / 2 % 4]

/-- What the PCS of a MAC tells (R312): the link is up when it has synchronized and, where used, auto-negotiation has completed. The lane's
STAGE and REASON follow. -/
def macLink (m : Nat) (sync : Bool) (speed : Nat) (anDone remoteFault : Bool) (signal : Bool) (s : State) : State :=
  let l := macLaneOf s m
  if !(macOn s m) || !(s.bit (Reg.SDS_Q_STATUS (l / 4)) 1) then s
  else
    let up := sync && (!(anUsed s m) || anDone)
    let s := if up then setStage 5 l s else
      let t := setStage 1 l s
      if !signal then setReason noRx l t else when (!sync) (setReason noComma l) t
    macShow m up (2 * macSpeed s m speed + (if anUsed s m && anDone then 8 else 0) + if remoteFault then 16 else 0)
      (s.wb (Reg.SDS_LANE_STATE l) 15 signal)

/-- Link change of a MAC (R312). -/
def execMacLinkChange (m : Fin 2) (sync : Bool) (speed : Fin 4) (anDone remoteFault signal : Bool) (s : State) :
    Host.Outcome State Fault Refusal := done (macLink m.val sync speed.val anDone remoteFault signal s)

/-- The link of a MAC goes down, its lane to a stage. -/
def macDown (m stage : Nat) (s : State) : State := macShow m false 0 (when (macOn s m) (setStage stage (macLaneOf s m)) s)

/-- MACm.CTRL is written: what changes the MAC's work takes the link down, the lane it had goes OFF, and the lane it has starts (R312). -/
def macCtrl (m : Nat) (w : Word) (s : State) : State :=
  let a := Reg.MAC_CTRL m
  let was := s.rd a
  let t := s.swWrite a w
  if t.rd a == was then t
  else
    let s := (macDown m 0 s).swWrite a w
    macStart s

/-- A reference clock fails: the MACs on its quads lose their links with reason REFCLK (R301). -/
def macClock (k : Nat) (s : State) : State :=
  forEach ((List.range 2).filter fun m => macOn s m && (refQuads s k).contains (macLaneOf s m / 4))
    (fun m t => setReason refclkReason (macLaneOf t m) (macDown m 1 t)) s

/-- A reference clock fails (R301). -/
def execRefclkFail (k : Fin 2) (s : State) : Host.Outcome State Fault Refusal := done (macClock k.val (refclkFail k.val s))

/-- The MAC's own address. -/
def ownMac (s : State) (m : Nat) : Nat := s.fd (Reg.MAC_ADDR_HI m) 0 16 * 2 ^ 32 + (s.rd (Reg.MAC_ADDR_LO m)).toNat

/-- A destination the MAC accepts (R313). -/
def macAccepts (s : State) (m dest : Nat) : Bool :=
  dest == ownMac s m || dest == 0xFFFFFFFFFFFF || dest == 0x011B19000000 || dest == 0x0180C200000E

/-- Offset of the EtherType, after one IEEE 802.1Q tag if there is one. -/
def typeAt (f : List Byte) : Nat := if beAt f 12 2 == 0x8100 then 16 else 12

/-- A UDP client of MB4: the MAC that answers go to, IPv4 address, port (R321, R325; log entry 22). -/
def udpClient (m ip port : Nat) : Nat := m * 2 ^ 48 + ip * 2 ^ 16 + port

/-- A datagram to the mailbox port (R321). -/
def udpMailbox (client : Nat) (d : List Byte) (s : State) : State := mbArrive ⟨4, client, d, none⟩ s

/-- A CHECK_STRIP channel of an attachment takes counter and check value off, or discards (R361, R362). -/
def stripAt (kind index : Nat) (d : List Byte) (f : List Byte → State → State) (s : State) : State :=
  match chanAt s 2 kind index with
  | none => f d s
  | some c =>
    let v := stripVerdict s c d
    let b := stripBody s c d
    let s := stripDone c d s
    if v == 0 then f b s else s

/-- A UDP datagram (R314). -/
def udpIn (m macPs ip : Nat) (u : List Byte) (s : State) : State :=
  let port := beAt u 2 2
  let d := (u.take (beAt u 4 2)).drop 8
  stripAt (3 + m) port d (fun d s =>
    if port == s.fd (Reg.MAC_MBX_PORT m) 0 16 then udpMailbox (udpClient m ip (beAt u 0 2)) d s
    else if port == s.fd Reg.BEAM_UDP_PORT 0 16 then listIn (4 + m) d s
    else if port == 319 || port == 320 then ptpReceive (4 + m) macPs d s
    else s.count (Reg.MAC_CNT_UDP_NOPORT m)) s

/-- An IPv4 address that the device takes as its own on MAC `m`: MACm.IP, the limited broadcast, or that of its subnet (R314; log entry
138). -/
def ipMine (s : State) (m ip : Nat) : Bool :=
  let own := (s.rd (Reg.MAC_IP m)).toNat
  let mask := (s.rd (Reg.MAC_IP_MASK m)).toNat
  ip == own || ip == 0xFFFFFFFF || (mask != 0 && ip == Nat.lor (own &&& mask) (0xFFFFFFFF - mask))

/-- An IPv4 packet: options and fragments are counted and dropped; one for another address, or whose checksum fails, is dropped
(R314). -/
def ipIn (m macPs : Nat) (p : List Byte) (s : State) : State :=
  let len := beAt p 2 2
  let b := (p.take len).drop 20
  let src := beAt p 12 4
  let pseudo := (p.drop 12).take 8 ++ [0, 17] ++ ((b.drop 4).take 2)
  if beAt p 0 1 / 16 != 4 then s
  else if beAt p 0 1 % 16 != 5 || beAt p 6 2 % 2 ^ 14 != 0 then s.count (Reg.MAC_CNT_IP_DROP m)
  else if !(inetOk (p.take 20)) || !(ipMine s m (beAt p 16 4)) then s
  else match beAt p 9 1 with
    | 1 =>
      if beAt b 0 2 == 0x0800 && inetOk b then
        let c := (beAt b 2 2 + 0x0800) % 65536 + (beAt b 2 2 + 0x0800) / 65536
        ethSend m (udpClient m src 0) 0 ([0, 0] ++ beBytes 2 c ++ b.drop 4) s
      else s
    | 17 => if beAt b 6 2 == 0 || inetOk (pseudo ++ b) then udpIn m macPs src b s else s
    | _ => s

/-- An ARP request for the own address is answered (R314). -/
def arpIn (m : Nat) (p : List Byte) (s : State) : State :=
  if (p.take 8) == [0, 1, 8, 0, 6, 4, 0, 1] && beAt p 24 4 == (s.rd (Reg.MAC_IP m)).toNat then
    (s.emit (.eth m (beAt p 14 4) 0 0 ([0, 1, 8, 0, 6, 4, 0, 2] ++ beBytes 6 (ownMac s m) ++ (p.drop 24).take 4 ++ (p.drop 8).take 10))).count
      (Reg.MAC_CNT_TX_OK m)
  else s

/-- An Ethernet frame, without its FCS, arrives with its start delimiter at `macPs` (R313, R314). PAUSE frames count with those
for another address (Table SDS-10). -/
def frameIn (m macPs : Nat) (f : List Byte) (fcsOk : Bool) (s : State) : State :=
  if !(s.bit (Reg.MAC_CTRL m) 0) || !(s.bit (Reg.MAC_STATUS m) 0) then s
  else if !fcsOk then s.count (Reg.MAC_CNT_RX_FCS m)
  else if f.length + 4 < 64 || 1522 < f.length + 4 then s.count (Reg.MAC_CNT_RX_SIZE m)
  else if !(macAccepts s m (beAt f 0 6)) || beAt f (typeAt f) 2 == 0x8808 then s.count (Reg.MAC_CNT_RX_FILTER m)
  else
    let s := s.count (Reg.MAC_CNT_RX_OK m)
    let p := f.drop (typeAt f + 2)
    match beAt f (typeAt f) 2 with
    | 0x0800 => ipIn m macPs p s
    | 0x0806 => arpIn m p s
    | 0x88F7 => ptpReceive (4 + m) macPs p s
    | _ => s

/-! ### CAN FD -/

/-- CAN_STB (R316): low while RUN or IDLE and a controller is enabled. -/
def canStbShow (s : State) : State :=
  { s with pins := { s.pins with canStb := !(decide (s.pwr.state ≤ 1) && (s.bit (Reg.CAN_CTRL 0) 0 || s.bit (Reg.CAN_CTRL 1) 0)) } }

/-- The controller takes part in bus traffic. -/
def canOn (s : State) (m : Nat) : Bool := s.bit (Reg.CAN_CTRL m) 0 && s.fd (Reg.CAN_STATUS m) 0 2 != 2

/-- Identifier registers match a frame. -/
def canIdIs (w : Word) (id : Nat) (ext : Bool) : Bool := fld w 0 29 == id && fld w 29 1 == (if ext then 1 else 0)

/-- Receive buffer `b` of controller `m` takes a frame, by its identifier under its mask (R315). -/
def canBufMatches (s : State) (m b id : Nat) (ext : Bool) : Bool :=
  let w := s.rd (Reg.CAN_MB_CFG m b)
  let k := s.fd (Reg.CAN_MB_MASK m b) 0 29
  fld w 31 1 == 1 && fld w 30 1 == 0 && fld w 29 1 == (if ext then 1 else 0) && fld w 0 29 &&& k == id &&& k

/-- Data length code of `n` data bytes. -/
def canDlc (n : Nat) : Nat :=
  if n ≤ 8 then n else if n ≤ 12 then 9 else if n ≤ 16 then 10 else if n ≤ 20 then 11 else if n ≤ 24 then 12
  else if n ≤ 32 then 13 else if n ≤ 48 then 14 else 15

/-- The first matching buffer takes the frame; a full one keeps its content (R315). -/
def canBuffer (m id : Nat) (ext : Bool) (flags : Nat) (d : List Byte) (s : State) : State :=
  match (List.range 64).find? fun b => canBufMatches s m b id ext with
  | none => s
  | some b =>
    if s.bit (Reg.CAN_MB_STATUS m b) 0 then s.count (Reg.CAN_CNT_OVR m)
    else stripAt (1 + m) b d (fun d s =>
      ({ s with net := { s.net with canBuf := sput (fun _ => []) s.net.canBuf (64 * m + b) d } }.wb (Reg.CAN_MB_STATUS m b) 0 true).wf
        (Reg.CAN_MB_STATUS m b) 2 7 (canDlc d.length + 16 * flags)) s

def mbxAsm (s : State) (m : Nat) : Option Assembly := sget (fun _ => none) s.mbx.asm m
def setMbxAsm (m : Nat) (a : Option Assembly) (s : State) : State :=
  { s with mbx := { s.mbx with asm := sput (fun _ => none) s.mbx.asm m a } }

/-- A frame of a mailbox request: the layout of R145, the ALIVE copy being header byte 3, padding of the last frame taken off
(R321). -/
def mbxCanFrame (m : Nat) (f : List Byte) (s : State) : State :=
  let r := asmStep s.tickNs (s.fd Reg.MBX_CAN_ASSY 0 8 * 1000000) (mbxAsm s m) f
  let s := setMbxAsm m r.1 s
  match r.2.1 with
  | some b => if b.getD 3 0 == f.getD 2 0 then mbArrive ⟨2 + m, 0, b.take (16 + leAt b 6 2), none⟩ s else s
  | none => s

/-- State of a controller by its error counters: error-passive above 127 (R315). -/
def canErrors (m tec rec : Nat) (s : State) : State :=
  let st := if 255 < tec then 2 else if 127 < tec || 127 < rec then 1 else 0
  ((s.wf (Reg.CAN_STATUS m) 0 2 st).wf (Reg.CAN_STATUS m) 8 8 (min tec 255)).wf (Reg.CAN_STATUS m) 16 8 (min rec 255)

/-- REC after a frame received well: one less, or from above 127 a value from 119 to 127, which ISO 11898-1 leaves open (R315; log entry
139). -/
def canGoodRx (m : Nat) (s : State) : State :=
  let rec' := s.fd (Reg.CAN_STATUS m) 16 8
  let tec := s.fd (Reg.CAN_STATUS m) 8 8
  if 127 < rec' then canErrors m tec (119 + s.freeNow % 9) s.useFree else canErrors m tec (rec' - 1) s

/-- FDF and BRS of a frame that the controller's settings do not take: FD frames need FD_EN, bit-rate switching BRS_EN (R315; log entry
139). -/
def canRefused (s : State) (m flags : Nat) : Bool :=
  (flags.testBit 0 && !(s.bit (Reg.CAN_CTRL m) 1)) || (flags.testBit 1 && !(s.bit (Reg.CAN_CTRL m) 2))

/-- A CAN FD frame is received (R315); `flags` are FDF, BRS and ESI. -/
def canIn (m id : Nat) (ext : Bool) (flags : Nat) (d : List Byte) (s : State) : State :=
  if !(canOn s m) || canRefused s m flags then s
  else
    let s := canBuffer m id ext flags d (canGoodRx m (s.count (Reg.CAN_CNT_RX m)))
    let s := when (canIdIs (s.rd (Reg.CAN_MBX_ID_RX m)) id ext) (mbxCanFrame m d) s
    when (canIdIs (s.rd Reg.BEAM_CAN_ID) id ext) (beamCanFrame m d) s

/-- A mailbox assembly is not complete within MBX.CAN_ASSY (R321). -/
def mbxAsmTimeout (m : Nat) (s : State) : State :=
  match mbxAsm s m with
  | some a => setMbxAsm m none (s.advanceTo (ns16 (a.start + s.fd Reg.MBX_CAN_ASSY 0 8 * 1000000 + 1000 : Nat)))
  | none => s

/-- Mailbox assembly timeout (R321). -/
def execMbxCanAssyTimeout (m : Fin 2) (s : State) : Host.Outcome State Fault Refusal := done (mbxAsmTimeout m.val s)

/-- An error frame moves the error counters (R315): error-passive above 127, bus-off above 255 of TEC. -/
def canError (m tec rec : Nat) (s : State) : State :=
  if !(canOn s m) then s
  else when (decide (255 < tec)) (State.count · (Reg.CAN_CNT_BUSOFF m)) (canErrors m tec rec (s.count (Reg.CAN_CNT_ERR m)))

/-- CAN error frame, with the error counters after it (R315). -/
def execCanErrorFrame (m : Fin 2) (tec rec : BitVec 9) (s : State) : Host.Outcome State Fault Refusal :=
  done (canError m.val tec.toNat rec.toNat s)

/-- A message buffer is configured anew: it holds no frame (log entry 139). -/
def canBufCfg (m b : Nat) (w : Word) (s : State) : State :=
  ({ s with net := { s.net with canBuf := sput (fun _ => []) s.net.canBuf (64 * m + b) [] } }.wr (Reg.CAN_MB_STATUS m b) 0).swWrite
    (Reg.CAN_MB_CFG m b) w

/-- The controller leaves bus-off, error-active with both counters at 0. -/
def canBack (m : Nat) (s : State) : State := if s.fd (Reg.CAN_STATUS m) 0 2 == 2 then s.wr (Reg.CAN_STATUS m) 0 else s

/-- 128 occurrences of 11 recessive bits: recovery, unless BO_MANUAL (R315). -/
def busOffRecovery (m : Nat) (s : State) : State := if s.bit (Reg.CAN_CTRL m) 4 then s else canBack m s

/-- Bus-off recovery (R315). -/
def execBusOffRecovery (m : Fin 2) (s : State) : Host.Outcome State Fault Refusal := done (busOffRecovery m.val s)

/-- CANm.CTRL after it is written: CAN_STB follows (R316). -/
def canCtrl (s : State) : State := canStbShow s

end Sys2Proof.Machine
end

