-- ==== Sys2Proof/Machine/RegRead.lean ====
section
/-! DEFINITION. What a read of the register space returns (R369, R378 to R380, R385): stored words, live words at live offsets, and
the registers that show standing causes or values held elsewhere; HLT.FAULTS (R204) and HINT_N (R383); and levels of balls. -/
namespace Sys2Proof.Machine

/-- One bit as a number. -/
def b2n (b : Bool) : Nat := if b then 1 else 0

/-- A bit mask over `n` indexes. -/
def maskOf (n : Nat) (f : Nat → Bool) : Nat := (List.range n).foldl (fun a i => a + b2n (f i) * 2 ^ i) 0

/-- A die sensor, or a channel with ROLE ARRAY or BOARD, is BROKEN (R390). -/
def sensorFault (s : State) : Bool := (List.range 18).any fun k => !(roleOff s k) && (sens s k).broken

/-- HLT.FAULTS (Table HLT-3). -/
def faults (s : State) : Nat :=
  b2n (s.rd Reg.HLT_TOTAL_OPEN != 0 || s.rd Reg.HLT_TOTAL_SHORT != 0) + b2n (s.rd Reg.HLT_TOTAL_WEAK != 0) * 2 +
  b2n (anySegFault s) * 4 + b2n ((List.range 8).any fun i => s.rd (Reg.HLT_RPT_LOSS i) != 0) * 8 +
  b2n ((List.range 32).any fun n => linkState s n == 7) * 16 + b2n (supplyFault s) * 32 + b2n (sensorFault s) * 64 +
  b2n (s.bit Reg.HK_STATUS 1) * 128 + b2n (s.rd Reg.POL_MISMATCH_LO != 0 || s.rd Reg.POL_MISMATCH_HI != 0) * 256 +
  b2n (s.bit Reg.POL_FB_STATUS 0) * 512 +
  b2n ((List.range 4).any fun n => s.bit (Reg.SDS_STR_CTRL n) 0 && s.bit (Reg.SDS_STR_STATUS n) 2) * 1024 +
  b2n ((List.range 4).any fun p => grpEn s (4 + p) && grpDown s (4 + p)) * 2048

/-- The outbound ring of a mailbox holds what its client has not read. -/
def outPending (s : State) (n : Nat) : Bool := s.fd (Reg.MBX_MB_OUT_WR n) 0 13 != s.fd (Reg.MBX_MB_OUT_SLUICE n) 0 13

/-- TOP.HINT_CAUSE (R383). -/
def hintCause (s : State) : Word := BitVec.ofNat 32 (faults s + b2n (outPending s 0) * 2 ^ 16 + b2n (outPending s 1) * 2 ^ 17)

/-- HINT_N is asserted. -/
def hintOn (s : State) : Bool := hintCause s &&& s.rd Reg.TOP_HINT_EN != 0

/-- RAS.FRAME (R20): the frames before the first phase 0 are counted (R43). -/
def frameNow (s : State) : BitVec 32 := if s.ras.armed then gridFrame s s.now16 else s.ras.frame

/-- RAS.PHASE (R20): the fraction of the frame that has passed, of its actual length where it is slewed (DESIGN CHOICE, log entry 112). -/
def framePhase (s : State) : Nat :=
  if s.ras.armed then ((s.now16 - refInstant s) % (period16 s : Int)).toNat * 2 ^ 24 / period16 s
  else if !s.ras.ran then 0
  else
    let d := s.ras.p0Next - s.ras.p0At
    if d ≤ 0 then 0 else min 0xFFFFFF ((max 0 (s.now16 - s.ras.p0At)) * 2 ^ 24 / d).toNat

/-- CMP.STATUS.COMPOSING: codes of the next frame are still to be composed or streamed. -/
def composingNow (s : State) : Bool :=
  s.ras.ran && !s.ras.inBlank && !s.pwr.stopped && !s.pwr.halted && (List.range 256).any fun g => (s.seg g).due && !(s.seg g).sent

/-- The balls GPIOn driven as outputs (R452). -/
def gpioDrives (s : State) (n : Nat) : Bool :=
  s.bit (Reg.GPIO_PIN_CFG n) 0 && !(decide (12 ≤ n) && s.bit (Reg.PTP_TC_CFG (n - 12)) 0)

/-- Present levels of the output balls (R424). -/
def levels (s : State) : Levels :=
  { syncOut := s.pins.syncOut, aliveOut := s.pins.aliveOut, phEn := phEnLevel s, phPwm := (List.range 6).map (phPwmLevel s)
    canStb := s.pins.canStb
    tt := maskOf 4 (ttLevel s), gpio := maskOf 16 fun n => gpioDrives s n && s.bit (Reg.GPIO_PIN_CFG n) 1, hintN := !(hintOn s) }

/-- What the balls show: levels held, or present ones. -/
def ballLevels (s : State) : Levels := s.pins.held.getD (levels s)

/-- Address of the shadow whose live word an address shows. -/
def liveOf (a : Nat) : Option Nat :=
  let shadow (b : Nat) : Option Nat := match regRow b with | some r => if r.access == .rws then some b else none | none => none
  if a == 0x060040 || a == 0x060044 || a == 0x060048 then some (a - 0x40)
  else if 0x060400 ≤ a && a < 0x060C00 && decide (0x40 ≤ (a - 0x060400) % 0x100 ∧ (a - 0x060400) % 0x100 ≤ 0x70) then shadow (a - 0x40)
  else if 0x070180 ≤ a && a < 0x0701E0 then shadow (a - 0x80)
  else if 0x080400 ≤ a && a < 0x080800 then shadow (a - 0x400)
  else if 0x040100 ≤ a && a < 0x040200 then shadow (a - 0x100)
  else none

/-- The balls of bank `b` (0 VIOA, 1 VIOB) are high impedance: without the bank's supply, and in reset and OFF (R436, R440). -/
def bankOff (s : State) (b : Nat) : Bool := s.pins.lost.testBit b || s.pwr.inReset || s.pwr.state == 4

/-- The balls GPIOn as GPIO.IN shows them: what the device drives, on capture inputs the level of the ball, and on other inputs what the
board drives, a free value at each instant; without the supply of its bank a ball reads 0 (R291, R440, R452). -/
def gpioIn (s : State) : Nat :=
  maskOf 16 fun n =>
    if s.pins.lost.testBit (n / 8) then false
    else if decide (12 ≤ n) && s.bit (Reg.PTP_TC_CFG (n - 12)) 0 then s.pins.tcIn.testBit (n - 12)
    else if gpioDrives s n then (ballLevels s).gpio.testBit n
    else (Config.boardLevels s.now).testBit n

/-- PTP.STATUS and PTP.PORTq_STATUS (Tables TIME-5 and TIME-7): port states stand with their causes. -/
def ptpStatus (s : State) : Word :=
  setFld (setFld (setFld (s.rd Reg.PTP_STATUS) 2 3 (slavePort s)) 6 1 (b2n (gmIgnored s))) 7 1 (b2n (slavePort s == 0))
def ptpPortStatus (s : State) (q : Nat) : Word :=
  BitVec.ofNat 32 (ptpRole s q + 8 * b2n (ptpUp s q && ptpGptp s q && s.ptp.capable.testBit q))

/-- Registers of block MBX and PTP that show values held elsewhere. -/
def regShown1 (s : State) (a : Nat) : Option Word :=
  match a / 0x10000 with
  | 0x1E =>
    if 0x1E0100 ≤ a && a < 0x1E0300 && a % 64 == 0x18 then
      let n := (a - 0x1E0100) / 64
      some (setFld (s.rd a) 0 3 (b2n (inAvail s n != 0) + 2 * b2n (outPending s n) + 4 * b2n (isHeld s n)))
    else none
  | 0x1A =>
    let n := (a - 0x1A0600) / 32
    let e := (tcFifo s n).head?
    if a == Reg.PTP_TIME_NS then some (BitVec.ofNat 32 (nanos s))
    else if a == Reg.PTP_STATUS then some (ptpStatus s)
    else if 0x1A0100 ≤ a && a < 0x1A0280 && a % 64 == 4 then some (ptpPortStatus s ((a - 0x1A0100) / 64))
    else if a < 0x1A0600 || 0x1A0680 ≤ a then none
    else if a % 32 == 4 then some (BitVec.ofNat 32 (e.map (·.1) |>.getD 0))
    else if a % 32 == 8 then some (BitVec.ofNat 32 ((e.map (·.1) |>.getD 0) / 2 ^ 32))
    else if a % 32 == 12 then some (BitVec.ofNat 32 ((tcFifo s n).length + 256 * b2n (e.map (·.2) |>.getD false)))
    else none
  | 0x16 =>
    let p := (a - 0x160400) / 256
    let c (v : Nat) : Nat := fabAvail s p v % 2048
    if a < 0x160400 || 0x160800 ≤ a then none
    else if a % 256 == 0x10 then some (BitVec.ofNat 32 (c 0 + c 1 * 2 ^ 16))
    else if a % 256 == 0x14 then some (BitVec.ofNat 32 (c 2 + c 3 * 2 ^ 16))
    else none
  | _ => none

/-- Registers that show standing causes or values held elsewhere. -/
def regShown (s : State) (a : Nat) : Option Word :=
  match a / 0x10000 with
  | 0x00 => if a == Reg.TOP_HINT_CAUSE then some (hintCause s) else none
  | 0x02 =>
    if a == Reg.AON_COUNT_LO then some (BitVec.ofNat 32 s.nowNs)
    else if a == Reg.AON_COUNT_HI then some (BitVec.ofNat 32 (s.nowNs / 2 ^ 32)) else none
  | 0x03 =>
    if 0x030100 ≤ a && a < 0x030400 && a % 16 == 8 then
      let x := sens s ((a - 0x030100) / 16)
      some (setFld (s.rd a) 16 8 (x.band + 8 * b2n x.broken + 16 * x.run))
    else none
  | 0x05 =>
    if a == Reg.RAS_FRAME then some (frameNow s)
    else if a == Reg.RAS_PHASE then some (BitVec.ofNat 32 (framePhase s)) else none
  | 0x06 => if a == Reg.CMP_STATUS then some (setFld (s.rd a) 28 1 (b2n (composingNow s))) else none
  | 0x09 => if a == Reg.HLT_FAULTS then some (BitVec.ofNat 32 (faults s)) else none
  | 0x10 => if a % 256 == 16 then some (setFld (s.rd a) 23 1 (b2n (edgeErr s ((a - 0x100000) / 256)))) else none
  | 0x12 =>
    if a == Reg.SLK_LINK_ACTIVE then some (BitVec.ofNat 32 (maskOf 32 fun n => linkState s n == 6))
    else if a == Reg.SLK_LINK_DOWN then some (BitVec.ofNat 32 (maskOf 32 fun n => linkState s n == 7)) else none
  | 0x1D =>
    if a == Reg.CRC_ACTIVE then some (BitVec.ofNat 32 (maskOf 8 (chEn s) + 256 * maskOf 8 (chBusy s)))
    else if 0x1D0100 ≤ a ∧ a < 0x1D0500 ∧ a % 0x80 ∈ [0x04, 0x08, 0x0C] then
      some (s.rd a &&& BitVec.ofNat 32 (2 ^ s.fd (a - a % 0x80 + 0x10) 0 6 - 1))
    else none
  | 0x20 => if a == Reg.GPIO_IN then some (BitVec.ofNat 32 (gpioIn s)) else none
  | _ => regShown1 s a

/-- The word of a register as a read returns it; 0 for a WO register. -/
def regRead (s : State) (a : Nat) : Word :=
  match liveOf a with
  | some b => s.lrd b
  | none => (regShown s a).getD (s.rd a)

/-! ### Address space (R369, Tables HOST-8 and HOST-9) -/

/-- Windows: first address, end, and what governs a write: 0 plain, 1 pre-blend LUT, 2 post-blend LUT, 3 grid, 4 curves, 5 routes,
6 snowpack. -/
def windows : List (Nat × Nat × Nat) :=
  [(0x300000, 0x310000, 0), (0x400000, 0x410000, 1), (0x410000, 0x420000, 2), (0x420000, 0x424000, 3), (0x430000, 0x440000, 4),
    (0x440000, 0x442000, 5), (0x480000, 0x488000, 6)]

/-- The window an address lies in. -/
def windowOf (a : Nat) : Option (Nat × Nat × Nat) := windows.find? fun w => decide (w.1 ≤ a ∧ a < w.2.1)

/-- Scan address of a window byte: the snowpack's window shows the snowpack. -/
def winByte (a : Nat) : Nat := if 0x480000 ≤ a then snowBase + (a - 0x480000) else winBase + a

/-- An address names a register or a window word. -/
def mapped (a : Nat) : Bool := (liveOf a).isSome || (regRow a).isSome || (windowOf a).isSome

/-- Two addresses lie in one block or window. -/
def sameArea (a b : Nat) : Bool :=
  match windowOf a, windowOf b with
  | some v, some w => v == w
  | none, none => a / 0x10000 == b / 0x10000
  | _, _ => false

/-- The word at an address of the space. -/
def spaceRead (s : State) (a : Nat) : Word :=
  if (windowOf a).isSome then BitVec.ofNat 32 (s.le (winByte a) 4) else regRead s a

/-- A block that answers in every state (R373). -/
def alwaysOn (a : Nat) : Bool := decide (a < 0x030000)

/-- A block or window is off (R373). -/
def areaOff (s : State) (a : Nat) : Bool := decide (2 ≤ s.pwr.state) && !(alwaysOn a)

end Sys2Proof.Machine
end

