-- ==== Sys2Proof/Machine/Service.lean ====
section
/-! DEFINITION. Payloads of commands: their length, objects, the frame number of a change, and the bulk prefix with its staged
loads (R342, R343). Reserved payload bytes are ignored (R7); a payload too short for its row is answered BAD_LENGTH (log entry
33). -/
namespace Sys2Proof.Machine

/-- Value of `n` payload bytes from position `i`. -/
def arg (c : Ctx) (i n : Nat) : Nat := leAt c.m.payload i n

/-- The payload holds at least `n` bytes; otherwise BAD_LENGTH. -/
def need (n : Nat) (c : Ctx) (f : State → State) (s : State) : State :=
  if c.m.payload.length < n then refuse c St.badLength s else f s

/-- APPLY_FRAME as a command part. -/
def framePart (s : State) : List Byte := leBytes 4 (applyFrame s)

/-- The indexes a request acts on. -/
def objects (c : Ctx) : List Nat := (List.range (msgHi c.m + 1 - msgLo c.m)).map (msgLo c.m + ·)

/-- Words as bytes. -/
def wordBytes (l : List Word) : List Byte := l.flatMap fun w => leBytes 4 w.toNat

/-- A multi-step operation with a command of the given codes stands (R17, R240). -/
def opStands (s : State) (codes : List Nat) : Bool := s.mbx.ops.any fun o => codes.contains o.ctx.code

/-! ### Bulk (R343) -/

/-- The bulk prefix. -/
structure Bulk where
  offset : Nat
  sel : Nat
  op : Nat
  size : Nat
  crc : Nat
  data : List Byte
  deriving DecidableEq, Repr

/-- Prefix and data of a bulk payload. -/
def bulkOf (c : Ctx) : Bulk :=
  { offset := arg c 0 4, sel := arg c 4 1, op := arg c 5 1, size := arg c 8 4, crc := arg c 12 4, data := c.m.payload.drop 16 }

/-- Most data bytes of a bulk message. -/
def bulkMax (c : Ctx) : Nat := if c.m.mb == 4 then 1440 else 4064

/-- A well-formed bulk payload is handed on: data a multiple of 4 bytes and within the limit, OP at most 2. -/
def withBulk (c : Ctx) (f : Bulk → State → State) (s : State) : State :=
  let b := bulkOf c
  need 16 c (fun s =>
    if b.data.length % 4 != 0 || decide (bulkMax c < b.data.length) then refuse c St.badLength s
    else if 2 < b.op then refuse c St.range s
    else f b s) s

/-- A bulk payload of a command that is not staged: OP is 1. -/
def withData (c : Ctx) (f : Bulk → State → State) (s : State) : State :=
  withBulk c (fun b s => if b.op != 1 then refuse c St.range s else f b s) s

/-- The staged load of a command on an object. -/
def loadOf (s : State) (code obj : Nat) : Option Load := s.loads.find? fun l => l.code == code && l.obj == obj

/-- The staged load ends. -/
def dropLoad (code obj : Nat) (s : State) : State := { s with loads := s.loads.filter fun l => !(l.code == code && l.obj == obj) }

/-- A staged load begins, or begins anew. -/
def startLoad (l : Load) (s : State) : State :=
  let s := dropLoad l.code l.obj s
  { s with loads := s.loads ++ [{ l with last := s.tickNs }] }

/-- Data of a staged load: RANGE outside SIZE, STATE without a load. -/
def loadData (c : Ctx) (obj : Nat) (b : Bulk) (s : State) : State :=
  match loadOf s c.code obj with
  | none => refuse c St.state s
  | some l =>
    if l.size < b.offset + b.data.length then refuse c St.range s
    else
      let got := ((List.range b.data.length).zip b.data).foldl (fun g e => sput (fun _ => none) g (b.offset + e.1) (some e.2)) l.got
      respondTo c St.ok [] { s with loads := s.loads.map fun k => if k = l then { l with got := got, last := s.tickNs } else k }

/-- Every byte of a load, when each was written. -/
def loadBytes (l : Load) : Option (List Byte) :=
  let g := (List.range l.size).map fun i => sget (fun _ => (none : Option Byte)) l.got i
  if g.all (·.isSome) then some (g.filterMap id) else none

/-- END of a staged load: BAD_CRC when a byte is missing or the CRC differs, and the object stays invalid; otherwise `f` gets
the object whole. -/
def loadEnd (c : Ctx) (obj : Nat) (b : Bulk) (f : Load → List Byte → State → State) (s : State) : State :=
  match loadOf s c.code obj with
  | none => refuse c St.state s
  | some l =>
    let s := dropLoad c.code obj s
    match loadBytes l with
    | none => refuse c St.badCrc s
    | some d => if crc32c d == b.crc then f l d s else refuse c St.badCrc s

/-- A staged load by OP: BEGIN by `start`, DATA, END by `fin`. -/
def staged (c : Ctx) (obj : Nat) (start : Bulk → State → State) (fin : Load → List Byte → State → State) (b : Bulk) (s : State) :
    State :=
  match b.op with
  | 0 => start b s
  | 1 => loadData c obj b s
  | _ => loadEnd c obj b fin s

end Sys2Proof.Machine
end

