-- ==== Sys2Proof/Machine/SnowOps.lean ====
section
/-! DEFINITION. Changing the snowpack (R239 to R243), its MRAM mirror, ECC, and ALIVE_OUT (R249). -/
namespace Sys2Proof.Machine

/-! ### Parts -/

/-- Bytes of a directory entry of slot `k`. -/
def entryBytes (st flags bg off runs wm1 hm1 crc : Nat) : List Byte :=
  leBytes 1 st ++ leBytes 1 flags ++ leBytes 1 bg ++ [0] ++ leBytes 2 off ++ leBytes 2 runs ++ leBytes 2 wm1 ++ leBytes 2 hm1 ++
    leBytes 4 crc

def setOp (o : Option SnowOp) (s : State) : State := { s with snow := { s.snow with op := o } }
def modOp (f : SnowOp → SnowOp) (s : State) : State := { s with snow := { s.snow with op := s.snow.op.map f } }

/-- Polders whose live SHADOW source names slot `k`: their runs start at 0 (R242). -/
def freshRuns (k : Nat) (s : State) : State :=
  forEach ((List.range 64).filter fun n => polSrc s n == 2 && polSlot s n == k)
    (fun n t => t.modPolder n fun x => { x with run := 0, acted := false }) s

/-- Slot `k` becomes VALID: the first one becomes the DEFAULT (R240). -/
def firstDefault (k : Nat) (s : State) : State :=
  if (List.range 4).any (slotValid s) then s else s.putByte (snowBase + 1) (BitVec.ofNat 8 k)

/-- A snowpack change whose cutoff has come is captured (R242). -/
def snowCapture (s : State) : State := modOp (fun o => if o.ended then { o with cap := true } else o) s

/-- The captured change applies at a phase 0, and its mirror begins. -/
def snowApply (s : State) : State :=
  match s.snow.op with
  | none => s
  | some o =>
    if !o.cap || o.applied then s
    else
      let s := match o.code with
        | 0x0A01 =>
          let s := firstDefault o.slot s
          let s := s.putBytes (entryAt snowBase o.slot) (entryBytes 1 o.sflags o.bg o.offset o.runs o.wm1 o.hm1 o.crc)
          freshRuns o.slot (dirUpdated (s.count Reg.SNOW_CNT_WRITE))
        | 0x0A05 => dirUpdated (s.putBytes (entryAt snowBase o.slot) (List.replicate 16 0))
        | 0x0A06 => dirUpdated (s.putByte (snowBase + 1) (BitVec.ofNat 8 o.slot))
        | 0x0A07 => s.putBytes (snowBase + 0x100) o.bytes
        | _ => dirUpdated (s.putBytes (snowBase + 80) o.bytes)
      let s := modOp (fun o => { o with applied := true, frame := s.ras.frame.toNat }) s
      holdPolShow (snowShow (s.wb Reg.SNOW_STATUS 11 true))

/-- One part is written to its older MRAM copy, with the next sequence number and its CRC, and that copy becomes the newer (R235). -/
def mirrorPart (p addr n : Nat) (s : State) : State :=
  let c := 1 - newerCopy s p
  let q := s.le (trailerAt p (newerCopy s p)) 4 + 1
  let s := ((s.copyBytes (mirrorAt p c) addr n).putLe (trailerAt p c) 4 q).putLe (trailerAt p c + 4) 4 n
  setNewer p c (s.putLe (trailerAt p c + 8) 4 (copyCrc s p c))

/-- The MRAM copy of a change is complete (R242). -/
def mirrorDone (s : State) : State :=
  match s.snow.op with
  | none => s
  | some o =>
    if !o.applied then s
    else
      let s := if o.code == 0x0A07 then mirrorPart 5 (snowBase + 0x100) 256 s else mirrorPart 4 snowBase 256 s
      let s := when (o.code == 0x0A01) (mirrorPart o.slot (snowBase + 0x200 + 4 * o.offset) (4 * o.runs)) s
      let s := snowShow (setOp none (s.wb Reg.SNOW_STATUS 11 false))
      match o.ctx with
      | some c => completeOps c.code (fun x => x.ctx == c) St.ok (if 0x0A07 ≤ o.code then [] else leBytes 4 o.frame) s
      | none => s

/-- Mirror complete (R242). -/
def execMirrorDone (s : State) : Host.Outcome State Fault Refusal := done (mirrorDone s)

/-! ### ECC (R243) -/

/-- Part that holds byte `a` of the snowpack: 0 to 3 a slot, 4 the directory, 5 the gain table; none in free run area. -/
def snowPart (s : State) (a : Nat) : Option Nat :=
  if a < 0x100 then some 4 else if a < 0x200 then some 5
  else (List.range 4).find? fun k => slotState s k != 0 &&
    (let e := slotExtent s k; decide (0x200 + 4 * e.1 ≤ a ∧ a < 0x200 + 4 * (e.1 + e.2)))

/-- An ECC error at byte `a`: corrected, or its part is restored from the mirror. -/
def snowEcc (a : Nat) (double : Bool) (s : State) : State :=
  let s := s.event 0x0013 1 2 clsDevice 0 ([3, if double then 2 else 1, 0, 0] ++ det 4 a)
  if !double then s.count Reg.SNOW_CNT_ECC_1
  else
    let s := s.count Reg.SNOW_CNT_ECC_2
    match snowPart s a with
    | none => s
    | some p => if restoring s p then s else snowShow { s with snow := { s.snow with restoring := s.snow.restoring ++ [p] } }

/-- Snowpack ECC error (R243). -/
def execSnowEccError (addr : Fin 32768) (double : Bool) (s : State) : Host.Outcome State Fault Refusal :=
  done (snowEcc addr.val double s)

/-- A copy fails its CRC, of itself or, as `b0` and `b1` say of copies 0 and 1, by damage to its MRAM. -/
def copyBad (s : State) (p : Nat) (b0 b1 : Bool) (c : Nat) : Bool := (if c == 0 then b0 else b1) || !(copyGood s p c)

/-- The copy a part is restored from: the newer one that passes its CRC. -/
def goodCopy (s : State) (p : Nat) (b0 b1 : Bool) : Option Nat :=
  [newerCopy s p, 1 - newerCopy s p].find? fun c => !(copyBad s p b0 b1 c)

/-- The entry of the slot being written, as WRITING (R241). -/
def writingEntry (s : State) : State :=
  match s.snow.op with
  | some o => if (writeOn s o.slot).isSome then
      dirUpdated (s.putBytes (entryAt snowBase o.slot) (entryBytes 2 o.sflags o.bg o.offset o.runs o.wm1 o.hm1 o.crc)) else s
  | none => s

/-- Slot `k` takes the words of copy `c` and the entry of the mirrored directory that names them; it is EMPTY where that says so. -/
def restoreSlot (k c : Nat) (s : State) : State :=
  let e := entryAt (mirrorAt 4 (newerCopy s 4)) k
  let e' := entryAt (mirrorAt 4 (1 - newerCopy s 4)) k
  let w := crc32c (s.bytes (mirrorAt k c) (copyLen s k c))
  let fits (e : Nat) : Bool := s.byte e == 1 && s.le (e + 12) 4 == w
  let old := s.bytes (entryAt snowBase k) 16
  let s := if s.byte e != 1 then s.putBytes (entryAt snowBase k) (List.replicate 16 0)
    else
      let e := if !(fits e) && fits e' then e' else e
      (s.copyBytes (entryAt snowBase k) e 16).copyBytes (snowBase + 0x200 + 4 * s.le (e + 4) 2) (mirrorAt k c) (copyLen s k c)
  if s.bytes (entryAt snowBase k) 16 == old then s else dirUpdated s

/-- The part takes copy `c`; the directory keeps the entry of a slot that is being written. -/
def restoreFrom (p c : Nat) (s : State) : State :=
  match p with
  | 4 => writingEntry (s.copyBytes snowBase (mirrorAt 4 c) 256)
  | 5 => s.copyBytes (snowBase + 0x100) (mirrorAt 5 c) 256
  | k => restoreSlot k c s

/-- The part becomes EMPTY. -/
def emptyPart (p : Nat) (s : State) : State :=
  match p with
  | 4 => writingEntry (dirUpdated (s.putBytes snowBase (0x10 :: List.replicate 255 0)))
  | 5 => s.putBytes (snowBase + 0x100) (List.replicate 256 0)
  | k => dirUpdated (s.putBytes (entryAt snowBase k) (List.replicate 16 0))

/-- The write of slot `k` ends without its image: the slot is restored to what its mirror holds, and the write with an accepted SLOT_END
completes with INTERNAL (DESIGN CHOICE, log entry 123). -/
def writeLost (k : Nat) (s : State) : State :=
  match writeOn s k with
  | none => s
  | some o =>
    let s := setOp none s
    match o.ctx with
    | some c => completeOps c.code (fun x => x.ctx == c) St.internal [] s
    | none => s

/-- A restoration ends; `bad0` and `bad1`: the MRAM copies whose memory is damaged. -/
def snowRestore (p : Nat) (bad0 bad1 : Bool) (s : State) : State :=
  if !(restoring s p) then s
  else
    let c := goodCopy s p bad0 bad1
    let s := s.countBy Reg.SNOW_CNT_MIRROR_FAIL
      ((if copyBad s p bad0 bad1 0 then 1 else 0) + if copyBad s p bad0 bad1 1 then 1 else 0)
    let s := { s with snow := { s.snow with restoring := s.snow.restoring.filter (· != p) } }
    let s := when (p < 4) (writeLost p) s
    let s := match c with
      | some c => (restoreFrom p c (setNewer p c s)).count Reg.SNOW_CNT_RESTORE
      | none => emptyPart p s
    holdPolShow (snowShow (s.event 0x0083 10 1 (if p < 4 then 10 else clsDevice) (if p < 4 then p else 0) [p, if c.isSome then 1 else 2]))

/-- A reset that keeps the SRAM finds a change whose mirror is not complete: what it changed is restored from the newer copies (R242). -/
def snowReset (o : Option SnowOp) (s : State) : State :=
  let s := match o with
    | none => s
    | some o =>
      if o.code == 0x0A01 then restoreFrom o.slot (newerCopy s o.slot) (if o.applied then restoreFrom 4 (newerCopy s 4) s else s)
      else if !o.applied then s
      else restoreFrom (if o.code == 0x0A07 then 5 else 4) (newerCopy s (if o.code == 0x0A07 then 5 else 4)) s
  snowShow s

/-- Restoration of a part (R243). -/
def execSnowRestore (part : Fin 6) (bad0 bad1 : Bool) (s : State) : Host.Outcome State Fault Refusal :=
  done (snowRestore part.val bad0 bad1 s)

/-! ### ALIVE_OUT (R249) -/

/-- ALIVE_OUT toggles. -/
def aliveRuns (s : State) : Bool :=
  s.bit Reg.POL_ALIVE_CFG 0 && s.pwr.state == 0 && s.pwr.thaw == 0 && s.bit Reg.RAS_STATUS 0 && s.ras.latched && !s.pwr.stopped &&
    !s.pwr.inReset && s.pins.held.isNone && !(s.bit Reg.POL_FB_STATUS 0 && s.bit Reg.POL_ALIVE_CFG 1)

/-- The next edge of ALIVE_OUT: every 500 µs of device time. -/
def aliveToggle (s : State) : State :=
  if aliveRuns s then
    let s := s.advanceTo (ns16 ((s.tickNs / 500000 + 1) * 500000 : Nat))
    { s with pins := { s.pins with aliveOut := !s.pins.aliveOut } }
  else s

/-- ALIVE_OUT edge (R249). -/
def execAliveOutToggle (s : State) : Host.Outcome State Fault Refusal := done (aliveToggle s)

/-! ### Commands -/

/-- A snowpack operation runs from its first command to its completion (R240). -/
def snowBusy (s : State) : Bool := s.snow.op.isSome

/-- A change of the DEFAULT slot while it is VALID is LOCKED (R240). -/
def slotLocked (s : State) (k : Nat) : Bool := k == defaultSlot s && slotValid s k

/-- An operation that applies at a phase 0 and is then mirrored is accepted. -/
def snowAccept (c : Ctx) (o : SnowOp) (s : State) : State :=
  let k := o.slot
  let s := setOp (some { o with ended := true, ctx := some c }) s
  snowShow (acceptOp c c.m.cls.toNat k k [] s)

/-- SNOW_GET: slot entries, SNOW.STATUS and SNOW.FREE. -/
def bodySnowGet (c : Ctx) (s : State) : State :=
  respondTo c St.ok ((objects c).flatMap (fun k => s.bytes (entryAt snowBase k) 16) ++
    wordBytes [s.rd Reg.SNOW_STATUS, s.rd Reg.SNOW_FREE]) s

/-- SLOT_BEGIN (R239 to R241): the slot becomes WRITING at the lowest extent that fits. -/
def bodySlotBegin (c : Ctx) (s : State) : State :=
  let k := c.m.index.toNat
  let r := arg c 0 2
  need 12 c (fun s =>
    if snowBusy s then refuse c St.busy s
    else if slotLocked s k then refuse c St.locked s
    else if r == 0 || decide (8064 < r) || decide (8191 < arg c 2 2) || decide (8191 < arg c 4 2) then refuse c St.range s
    else match placeRuns s k r with
      | none =>
        let missing := r - freeWords s k
        noSpace c missing (largestGap s k) (missing == 0) 1 s
      | some off =>
        let o : SnowOp := { code := 0x0A01, slot := k, offset := off, runs := r, wm1 := arg c 2 2, hm1 := arg c 4 2, sflags := arg c 6 1 % 2,
                            bg := arg c 7 1 % 64, crc := arg c 8 4, bytes := s.bytes (entryAt snowBase k) 16 }
        let s := setOp (some o) (s.putBytes (entryAt snowBase k) (entryBytes 2 o.sflags o.bg off r o.wm1 o.hm1 o.crc))
        holdPolShow (snowShow (respondTo c St.ok (leBytes 2 off) (dirUpdated s)))) s

/-- The slot write of a request, before its SLOT_END. -/
def openWrite (s : State) (k : Nat) : Option SnowOp := s.snow.op.filter fun o => o.code == 0x0A01 && o.slot == k && !o.ended

/-- SLOT_DATA. -/
def bodySlotData (c : Ctx) (s : State) : State :=
  withData c (fun b s =>
    match openWrite s c.m.index.toNat with
    | none => refuse c St.state s
    | some o =>
      if 4 * o.runs < 4 * b.offset + b.data.length then refuse c St.range s
      else
        let n := b.data.length / 4
        let s := s.putBytes (snowBase + 0x200 + 4 * (o.offset + b.offset)) b.data
        let words := (List.range n).foldl (fun w i => sput (fun _ => none) w (b.offset + i) (some (BitVec.ofNat 32 (leAt b.data (4 * i) 4)))) o.words
        respondTo c St.ok [] (modOp (fun o => { o with words := words }) s)) s

/-- The slot returns to its old image (R242): its old entry, and its old words from the mirror. -/
def slotBack (o : SnowOp) (s : State) : State :=
  let s := s.putBytes (entryAt snowBase o.slot) o.bytes
  let s := s.copyBytes (snowBase + 0x200 + 4 * leAt o.bytes 4 2) (mirrorAt o.slot (newerCopy s o.slot)) (4 * leAt o.bytes 6 2)
  holdPolShow (snowShow (setOp none (dirUpdated s)))

/-- SLOT_END: completeness and CRC, then form (R242). -/
def bodySlotEnd (c : Ctx) (s : State) : State :=
  match openWrite s c.m.index.toNat with
  | none => refuse c St.state s
  | some o =>
    let w := (List.range o.runs).map fun i => sget (fun _ => (none : Option Word)) o.words i
    let l := w.filterMap id
    if l.length != o.runs || crc32c (wordBytes l) != o.crc then refuse c St.badCrc (slotBack o s)
    else if !(wellFormedRuns (o.wm1 + 1) (o.hm1 + 1) (l.map BitVec.toNat)) then refuse c St.range (slotBack o s)
    else snowAccept c o s

/-- SLOT_ABORT. -/
def bodySlotAbort (c : Ctx) (s : State) : State :=
  match openWrite s c.m.index.toNat with
  | none => refuse c St.state s
  | some o => respondTo c St.ok [] (slotBack o s)

/-- Something in force or captured names slot `k` (R240). -/
def slotNamed (s : State) (k : Nat) : Bool :=
  ((List.range 8).any fun n => layEn s n && laySource s n == 4 && layIndex s n == k) ||
  ((List.range 8).any fun n => match s.crd (Reg.CMP_LAYER_CTRL n), s.crd (Reg.CMP_LAYER_SRC n) with
    | some w, some i => fld w 0 1 == 1 && fld w 1 3 == 4 && fld i 0 8 == k
    | _, _ => false) ||
  ((List.range 64).any fun n => polEn s n && polSrc s n == 2 && polSlot s n == k) ||
  ((List.range 64).any fun n => match s.crd (Reg.POL_P_CFG n) with
    | some w => fld w 0 1 == 1 && fld w 1 2 == 2 && fld w 6 2 == k
    | none => false) ||
  (showsFallback s && !(s.bit Reg.POL_FB_STATUS 4) && s.fd Reg.POL_FB_STATUS 2 2 == k)

/-- SLOT_DELETE. -/
def bodySlotDelete (c : Ctx) (s : State) : State :=
  let k := c.m.index.toNat
  if snowBusy s then refuse c St.busy s
  else if slotLocked s k then refuse c St.locked s
  else if slotState s k == 0 || slotNamed s k then refuse c St.state s
  else snowAccept c { code := 0x0A05, slot := k } s

/-- SET_DEFAULT. -/
def bodySetDefault (c : Ctx) (s : State) : State :=
  let k := c.m.index.toNat
  if snowBusy s then refuse c St.busy s
  else if !(slotValid s k) then refuse c St.state s
  else snowAccept c { code := 0x0A06, slot := k } s

/-- GAIN_PUT and LEVELS_PUT: a table of `n` bytes. -/
def bodyTable (code n : Nat) (c : Ctx) (s : State) : State :=
  need n c (fun s =>
    if snowBusy s then refuse c St.busy s
    else snowAccept c { code := code, slot := 0, bytes := c.m.payload.take n } s) s

def bodyGainPut (c : Ctx) (s : State) : State := bodyTable 0x0A07 256 c s
def bodyLevelsPut (c : Ctx) (s : State) : State := bodyTable 0x0A08 128 c s

end Sys2Proof.Machine
end

