-- ==== Sys2Proof/Machine/Power.lean ====
section
/-! DEFINITION. Power states: the stop order and its refusals (R411 to R416), IDLE (R417 to R420), THAW and wake sources (R421 to R425). -/
namespace Sys2Proof.Machine

def modPwr (f : Pwr → Pwr) (s : State) : State := { s with pwr := f s.pwr }

/-- STATE and STEP of PMU.STATE (Table PWR-8). -/
def pmuState (v : Nat) (s : State) : State := s.wf Reg.PMU_STATE 0 3 v
def pmuStep (v : Nat) (s : State) : State := s.wf Reg.PMU_STATE 4 3 v

/-- Lanes of ACTIVE stream groups. -/
def streamLanes (s : State) : List Nat := (List.range 24).filter (streamLane s)

/-- Links whose EN is 1. -/
def linksOn (s : State) : List Nat := (List.range 32).filter fun n => s.bit (Reg.SLK_LINK_CTRL n) 0

/-- Links that are ACTIVE. -/
def linksUp (s : State) : List Nat := (List.range 32).filter fun n => linkState s n == 6

/-- Lane groups that are enabled. -/
def groupsOn (s : State) : List Nat := (List.range 8).filter (grpEn s)

/-- Output balls are held at their levels (R424). Those of the stage are high impedance in GLACIER (R206; log entry 110). -/
def holdPads (s : State) : State :=
  let l := ballLevels s
  let l := if s.pwr.target == 3 then { l with phEn := 2, phPwm := [2, 2, 2, 2, 2, 2] } else l
  ({ s with pins := { s.pins with held := some l } }).wb Reg.PMU_STATE 12 true

/-- Held balls take their internal values; the stage starts by soft start if SUP.CTRL.EN asks for it (R424). -/
def releasePads (s : State) : State :=
  let s := ({ s with pins := { s.pins with held := none } }).wb Reg.PMU_STATE 12 false
  when (s.bit Reg.SUP_CTRL 0 && !(supRunning s)) softStart s

/-- What the completion of a PWR_ENTER carries when it ends with OK. -/
def enterPart (src time : Nat) : List Byte := leBytes 4 src ++ leBytes 4 time

/-- The PWR_ENTER in progress completes. -/
def enterComplete (status : Nat) (part : List Byte) (s : State) : State :=
  completeOps 0x0201 (fun _ => true) status part s

/-- POWER_STATE: old state, new state, WAKE_SRC. -/
def powerEvent (old new src : Nat) (s : State) : State := s.event 0x0020 2 0 clsDevice 0 [old, new, src]

/-- BLANK_CMD of mode 4 or 5 to every segment of a link waits for blanking (R71); with no blanking to come it goes at once. -/
def sleepCmd (n mode : Nat) (s : State) : State :=
  if s.ras.ran then s.modLink n fun l => { l with blankQ := l.blankQ ++ [(8, mode, 0)] }
  else if mode == 4 then upSleep n s else upWake n s

/-- A BLANK_CMD of a mode waits on link `n`. -/
def blankWaits (s : State) (n mode : Nat) : Bool := (s.link n).blankQ.any fun e => e.1 == 8 && e.2.1 == mode

/-- The upstream direction of link `n` is put to sleep (R86). -/
def linkSleep (n : Nat) (s : State) : State :=
  if linkState s n == 6 && !(upAsleep s n) && !(blankWaits s n 4) then sleepCmd n 4 s else s

/-- Link `n` wakes: an UP_SLEEP that still waits is dropped, and a link that sleeps, or is about to, is sent WAKE. -/
def linkWake (n : Nat) (s : State) : State :=
  if blankWaits s n 4 then s.modLink n fun l => { l with blankQ := l.blankQ.filter fun e => !(e.1 == 8 && e.2.1 == 4) }
  else if linkState s n == 6 && (upAsleep s n || (s.link n).sleeping) && !(blankWaits s n 5) then sleepCmd n 5 s
  else s

/-- Link `n` is ACTIVE with both directions awake. -/
def linkAwake (s : State) (n : Nat) : Bool :=
  linkState s n == 6 && !(upAsleep s n) && !(s.link n).sleeping && !(blankWaits s n 5)

/-! ### Steps of Table PWR-2 and their restart (R413, R414) -/

/-- Step 1 is refused: a command answered ACCEPTED has not completed, or a multi-step operation runs. -/
def quiesceRefused (s : State) : Bool :=
  s.mbx.ops.any (·.ctx.code != 0x0201) || !s.mbx.timed.isEmpty || !s.mbx.compl.isEmpty || s.snow.op.isSome ||
    !s.corr.applies.isEmpty || !s.corr.copying.isEmpty || !s.loads.isEmpty

/-- An MRAM record is open under R401. -/
def mramOpen (s : State) : Bool :=
  s.corr.saving.isSome || opStands s [0x0603, 0x0704, 0x0E03] || (match s.snow.op with | some o => o.applied | none => false)

/-- Step 2 begins: DARK_NEXT goes out at the next blanking start, and composition halts at the phase 0 after it; with the raster
stopped, or composition halted before, there is nothing to wait for. -/
def stopPipeline (s : State) : State :=
  if s.ras.ran && !s.pwr.halted then modPwr (fun p => { p with pipe := 1 }) s
  else modPwr (fun p => { p with halted := true, pipe := 0 }) s

/-- Step 3: links asleep, or cleared with the supply off. -/
def stopLinks (target : Nat) (s : State) : State :=
  if target == 1 then forEach (List.range 32) linkSleep s
  else
    let on := linksOn s
    let s := modPwr (fun p => { p with linksEn := on, supWas := s.bit Reg.SUP_CTRL 0 }) s
    supEnable false (forEach on (linkEn · false) s)

/-- Step 4: stream lanes asleep or in the electrical-idle fallback, or every group OFF and the CAN transceivers standing by. -/
def stopLanes (target : Nat) (s : State) : State :=
  if target == 1 then forEach (streamLanes s) (eidleRequest · true) s
  else
    let s := forEach (groupsOn s) grpOff s
    { s with pins := { s.pins with canStb := true } }

/-- The restart of the work of step `k`. -/
def undoStep (k target : Nat) (s : State) : State :=
  match k with
  | 7 => when s.pins.held.isSome (fun t => ({ t with pins := { t.pins with held := none } }).wb Reg.PMU_STATE 12 false) s
  | 6 =>
    let s := ({ s with pins := { s.pins with held := none } }).wb Reg.PMU_STATE 12 false
    when (rasOn s && !(s.ras.armed || s.ras.ran)) (fun t => timingToAll (armRaster t)) s
  | 5 => modPwr (fun p => { p with dramReady := decide (7 ≤ stage s) && !(s.bit Reg.PMU_STATE 13) }) s
  | 4 =>
    if target == 1 then forEach (streamLanes s) (eidleRequest · false) s
    else canStbShow (forEach (groupsOn s) newSeries s)
  | 3 =>
    if target == 1 then forEach s.pwr.linksWere linkWake s
    else
      let s := forEach s.pwr.linksEn (linkEn · true) s
      supEnable s.pwr.supWas s
  | _ => s

/-- The restart of every step from `k` down to 3, in reverse order. -/
def undoFrom (target : Nat) : Nat → State → State
  | 0, s => s
  | k + 1, s => undoFrom target k (undoStep (k + 1) target s)

/-- The refusal is complete: mailboxes and composition resume, and the device is in the state it was in before. -/
def restartEnd (s : State) : State :=
  let r := s.rd Reg.PMU_REFUSE
  let idx := if fld r 16 16 == 0xFFFF then 0xFFFFFFFF else fld r 16 16
  let idle := s.pwr.state == 1
  let s := when idle (fun t => forEach (streamLanes t) (eidleRequest · true) (forEach (List.range 32) linkSleep t)) s
  let s := modPwr (fun p => { p with halted := idle, quiesced := false, pipe := 0, target := 0, step := 0, wake := none }) s
  enterComplete St.refused
    (leBytes 1 (fld r 0 8) ++ leBytes 1 (fld r 8 3) ++ leBytes 1 (fld r 12 3) ++ leBytes 1 0 ++ leBytes 4 idx)
    (pmuStep 0 (pmuState (if idle then 1 else 0) s))

/-- A block refuses at step `k`, with a reason and an object; the work of steps 3 to `began` is undone. -/
def enterRefuse (k began reason idx : Nat) (s : State) : State :=
  let block := match k with | 1 => 0x1E | 2 => 0x06 | 3 => 0x12 | 4 => if reason == 3 then 0x14 else 0x16 | 5 => 0x1F | _ => 0x01
  let s := (s.wr Reg.PMU_REFUSE (BitVec.ofNat 32 (block + k * 2 ^ 8 + reason * 2 ^ 12 + idx % 2 ^ 16 * 2 ^ 16))).count Reg.PMU_CNT_REFUSE
  let target := s.pwr.target
  let s := undoFrom target began s
  let s := modPwr (fun p => { p with target := 5, since := s.tickNs, wake := none }) (pmuState 4 s)
  if k ≤ 2 || !(rasOn s) then restartEnd s else s

/-- Device time is handed to the always-on domain: TOTAL and the trim are copied, unless it counts already (R293). -/
def aonStart (s : State) : State :=
  if s.pwr.aon.on || s.pwr.aon.lost then s
  else modPwr (fun p => { p with aon := { on := true, trim := s.rd Reg.PTP_AON_TRIM } }) { s with now := s.now / 2 ^ 32 * 2 ^ 32 }

/-- Device time is loaded from the always-on count, with FRACNS 0, or starts from 0 where the domain lost its state (R293, R294). -/
def aonLoad (s : State) : State :=
  modPwr (fun p => { p with aon := {} }) { s with now := if s.pwr.aon.lost then 0 else s.now / 2 ^ 32 * 2 ^ 32 }

/-- Entry into IDLE is complete (R418). -/
def idleReached (s : State) : State :=
  let s := modPwr (fun p => { p with state := 1, target := 0, step := 0, quiesced := false }) s
  enterComplete St.ok (enterPart 0 0) (powerEvent 0 1 0 ((pmuStep 0 (pmuState 1 s)).count Reg.PMU_CNT_ENTER))

/-- Delay from the start of THAW to the end of a step, in µs (Table PWR-4). -/
def thawAt (glacier : Bool) (k : Nat) : Nat :=
  if glacier then match k with | 1 => 200 | 2 => 700 | 3 => 1000 | 4 => 3000 | 5 => 9000 | _ => 12000
  else match k with | 2 => 500 | 4 => 2500 | 5 => 2900 | _ => 3000

/-- THAW begins on wake source `b` (R421, R423). -/
def startThaw (b : Nat) (s : State) : State :=
  let first := if s.pwr.state == 3 then 1 else 2
  let s := ((s.wf Reg.PMU_WAKE_SRC 0 4 b).wr Reg.PMU_WAKE_TIME s.tickWrap).wb Reg.AON_WAKE_CFG 5 false
  let s := modPwr (fun p => { p with thaw := first, since := s.tickNs, wake := none }) s
  pmuStep first (pmuState 3 (s.count Reg.PMU_CNT_THAW))

/-- The device sleeps; a latched wake starts THAW at once (R415). -/
def asleep (s : State) : State :=
  let old := s.pwr.state
  let new := s.pwr.target
  let s := modPwr (fun p => { p with state := new, target := 0, step := 0 }) s
  let s := aonStart (powerEvent old new 0 ((pmuStep 0 s).count Reg.PMU_CNT_ENTER))
  match s.pwr.wake with | some b => startThaw b s | none => s

/-- Step `k` of the entry begins: it refuses, or its work starts. -/
def beginStep (k : Nat) (s : State) : State :=
  let t := s.pwr.target
  let s := pmuStep k (modPwr (fun p => { p with step := k }) s)
  match k with
  | 1 => if quiesceRefused s then enterRefuse 1 0 4 0xFFFF s else s
  | 2 => stopPipeline s
  | 3 =>
    let s := when (s.pwr.state == 0) (modPwr fun p => { p with linksWere := linksUp s }) s
    match (List.range 32).find? (linkTraining s) with | some n => enterRefuse 3 0 4 n s | none => stopLinks t s
  | 4 => if isRoot s && (s.fab.commitAt.isSome || decide (1 ≤ fabState s ∧ fabState s ≤ 3)) then enterRefuse 4 3 2 0xFFFF s else stopLanes t s
  | 5 => modPwr (fun p => { p with dramReady := false }) s
  | 6 => let s := stopRaster s; when (t == 2) holdPads s
  | _ => if mramOpen s then enterRefuse 7 6 1 0xFFFF s else holdPads s

/-- The step in progress has finished: the next one begins, or the entry is complete. -/
def stepDone (s : State) : State :=
  let k := s.pwr.step
  let t := s.pwr.target
  if t == 0 || 4 ≤ t || k == 0 || (k == 2 && s.pwr.pipe != 0) || (k == 3 && (List.range 32).any fun n => blankWaits s n 4) then s
  else if k == 4 && t == 1 then idleReached s
  else if (k == 6 && t == 2) || k == 7 then asleep s
  else beginStep (k + 1) s

/-- A block reports that it has stopped (R413). -/
def execStopStepDone (s : State) : Host.Outcome State Fault Refusal := done (stepDone s)

/-- A block has not stopped within 10 ms: REASON 5 (R413). Steps 1 and 2 refuse for no such reason (Table PWR-2; log entry 42). -/
def stepTimeout (s : State) : State :=
  let k := s.pwr.step
  if s.pwr.target == 0 || 4 ≤ s.pwr.target || k ≤ 2 then s else enterRefuse k k 5 0xFFFF s

/-- Step not done in time (R413). -/
def execStopStepTimeout (s : State) : Host.Outcome State Fault Refusal := done (stepTimeout s)

/-- An EIOS is not answered: REASON 3 while step 4 of an entry runs (Table PWR-2). -/
def eiosUnanswered (l : Nat) (s : State) : State :=
  let out := (laneSt s l).eiosOut
  let s := eiosTimeout l s
  if out && s.pwr.step == 4 && decide (1 ≤ s.pwr.target ∧ s.pwr.target ≤ 3) then enterRefuse 4 4 3 l s else s

/-- EIOS unanswered (R309). -/
def execEiosAnswerTimeout (l : Fin 24) (s : State) : Host.Outcome State Fault Refusal := done (eiosUnanswered l.val s)

/-! ### PWR_ENTER (R347) -/

/-- PWR_ENTER RUN from IDLE: every link that sleeps is woken, one that became ACTIVE since too (R419). -/
def leaveIdle (s : State) : State :=
  let s := modPwr (fun p => { p with target := 4, since := s.tickNs }) s
  forEach (List.range 32) linkWake (forEach (streamLanes s) (eidleRequest · false) s)

/-- PWR_ENTER. -/
def bodyPwrEnter (c : Ctx) (s : State) : State :=
  need 8 c (fun s =>
    let st := arg c 0 1
    let wake := arg c 1 1 % 16
    if 3 < st then refuse c St.range s
    else if !(if s.pwr.state == 0 then decide (1 ≤ st) else st != 1) || s.pwr.target != 0 then refuse c St.state s
    else if 2 ≤ st && (wake == 0 || (wake.testBit 3 && st == 3)) then refuse c St.range s
    else if wake.testBit 1 && c.m.payload.length < 16 then refuse c St.badLength s
    else
      let s := acceptOp c clsDevice 0 0 [] s
      if st == 0 then leaveIdle s
      else
        let s := s.wf Reg.AON_WAKE_CFG 0 4 wake
        let s := if wake.testBit 1 then
            ((s.wr Reg.AON_TIMER_LO (BitVec.ofNat 32 (arg c 8 4))).wr Reg.AON_TIMER_HI (BitVec.ofNat 32 (arg c 12 4))).wb Reg.AON_WAKE_CFG 5 true
          else s
        let s := modPwr (fun p => { p with target := st, quiesced := true, wake := none }) (pmuState 2 s)
        let s := beginStep 1 s
        if s.pwr.target == st then beginStep 2 s else s) s

/-- PWR_PAD_RELEASE: STATE when no ball is held (R424). -/
def bodyPwrPadRelease (c : Ctx) (s : State) : State :=
  if s.pins.held.isNone then refuse c St.state s else refuse c St.ok (releasePads s)

/-! ### Hooks at blanking start and phase 0 -/

/-- Every link that was ACTIVE is ACTIVE again; one that is OFF or DOWN is not waited for. -/
def linksBack (s : State) : Bool :=
  s.pwr.linksWere.all fun n => let x := linkState s n; linkAwake s n || x == 0 || x == 7

/-- At blanking start: DARK_NEXT of step 2, or the resumption of a return from IDLE meets its cutoff (R413, R419). -/
def powerBlank (s : State) : State :=
  if s.pwr.pipe == 1 then
    let s := forEach (List.range 256) (fun g t => if segLive t g then
      t.modLink (g / 8) fun l => { l with blankQ := l.blankQ ++ [(g % 8, 0, 0)] } else t) s
    modPwr (fun p => { p with pipe := 2 }) s
  else if s.pwr.target == 4 && linksBack s then modPwr (fun p => { p with pipe := 3 }) s
  else s

/-- The return to RUN is complete (R419). -/
def runResumed (s : State) : State :=
  let s := modPwr (fun p => { p with state := 0, halted := false, pipe := 0, target := 0 }) s
  enterComplete St.ok (enterPart 0 0) (powerEvent 1 0 0 (pmuState 0 s))

/-- At a phase 0, after LATCH: composition halts, resumes, or a restart ends. -/
def powerP0 (s : State) : State :=
  if s.pwr.pipe == 2 then modPwr (fun p => { p with halted := true, pipe := 0 }) s
  else if s.pwr.pipe == 3 then runResumed s
  else if s.pwr.target == 5 && (s.pwr.linksWere.all (linkAwake s) || decide (s.pwr.since + 6000000 ≤ s.tickNs)) then
    restartEnd s
  else s

/-! ### THAW (R421, R422) -/

/-- DS3 has moved no more than DELTA_T since the delay and taps of link `n` were found. -/
def tapsStand (s : State) (n : Nat) : Bool := (sget (fun _ => none) s.hk.calTemp n).isSome && !(calMoved s n)

/-- Work that a step starts. -/
def thawBegin (k : Nat) (s : State) : State :=
  match k with
  | 5 =>
    let fast := s.pwr.state == 2
    let s := forEach s.pwr.linksEn (fun n t =>
      linkEn n true (t.modLink n fun l => { l with quick := fast && tapsStand t n })) s
    let s := forEach (groupsOn s) newSeries s
    s.wb Reg.SUP_CTRL 0 s.pwr.supWas
  | 6 =>
    let s := aonLoad s
    let s := when (s.bit Reg.PTP_CTRL 0) (setServo 1) s
    s.wb Reg.PTP_STATUS 5 true
  | _ => s

/-- Work that is complete at the end of a step. -/
def thawFinish (k : Nat) (s : State) : State :=
  match k with
  | 4 => modPwr (fun p => { p with dramReady := decide (7 ≤ stage s) && !(s.bit Reg.PMU_STATE 13) }) s
  | _ => s

/-- THAW ends in RUN (R422, R425). -/
def thawEnd (s : State) : State :=
  let old := s.pwr.state
  let dur := (s.tickNs - s.pwr.since) / 1000
  let src := s.fd Reg.PMU_WAKE_SRC 0 4
  let s := s.wr Reg.PMU_THAW_LAST (BitVec.ofNat 32 (dur % 65536 + (old - 1) * 65536))
  let s := modPwr (fun p => { p with state := 0, thaw := 0, halted := false, quiesced := false, pipe := 0 }) s
  let s := timingToAll (armRaster (s.wb Reg.RAS_CTRL 0 true))
  let s := canStbShow (forEach (List.range 4) ttStepped (tactPassed (fun t => decide (t ≤ s.tickNs)) s))
  enterComplete St.ok (enterPart src (s.rd Reg.PMU_WAKE_TIME).toNat) (powerEvent old 0 src (pmuStep 0 (pmuState 0 s)))

/-- The fixed delay of the THAW step in progress ends. -/
def thawStep (s : State) : State :=
  let k := s.pwr.thaw
  if k == 0 then s
  else
    let s := s.advanceTo (ns16 (Int.ofNat (s.pwr.since + thawAt (s.pwr.state == 3) k * 1000)))
    let s := thawFinish k s
    if k == 6 then thawEnd s
    else
      let n := if k == 2 && s.pwr.state == 2 then 4 else k + 1
      thawBegin n (pmuStep n (modPwr (fun p => { p with thaw := n }) s))

/-- End of a THAW step (R421). -/
def execThawStepEnd (s : State) : Host.Outcome State Fault Refusal := done (thawStep s)

/-- A wake source fires: asleep it starts THAW when it is selected; during an entry it is latched, the lowest bit standing for all of a
tick (R415, R423). -/
def wakeBy (b : Nat) (s : State) : State :=
  let sel := (s.fd Reg.AON_WAKE_CFG 0 4).testBit b
  let asleep := s.pwr.state == 2 || s.pwr.state == 3
  if !sel || s.pwr.inReset || (b == 3 && !(s.pwr.state == 2 || s.pwr.target == 2)) then s
  else if s.pwr.target == 2 || s.pwr.target == 3 then
    modPwr (fun p => { p with wake := some (match p.wake with | some w => min w b | none => b) }) s
  else if !asleep then s
  else if s.pwr.thaw == 0 then startThaw b s
  else if s.pwr.since == s.tickNs && decide (b < s.fd Reg.PMU_WAKE_SRC 0 4) then s.wf Reg.PMU_WAKE_SRC 0 4 b
  else s

/-- The AON timer reaches TIMER. -/
def timerWake (s : State) : State :=
  if s.bit Reg.AON_WAKE_CFG 5 then
    let t : Nat := (s.rd Reg.AON_TIMER_HI).toNat * 2 ^ 32 + (s.rd Reg.AON_TIMER_LO).toNat
    wakeBy 1 (s.advanceTo (ns16 (Int.ofNat t)))
  else s

/-- AON timer (R423). -/
def execAonTimerWake (s : State) : Host.Outcome State Fault Refusal := done (timerWake s)

/-- The die crosses AON.TEMP_WAKE (R423). -/
def execTempWake (s : State) : Host.Outcome State Fault Refusal := done (wakeBy 2 (s.wb Reg.AON_STATUS 3 true))

end Sys2Proof.Machine
end

