-- ==== Sys2Proof/Machine/Reset.lean ====
section
/-! DEFINITION. Reset, the orderly stop and shutdown, and the supplies VIN, VIOA and VIOB (R397 to R400, R426 to R428, R440, R443). -/
namespace Sys2Proof.Machine

/-- A register that a reset leaves alone: AON, the straps, the bank supplies, the counts of Table PWR-7; and after a warm reset the CAL fields
with their marks (R427). -/
def keptReg (cold : Bool) (a : Nat) : Bool :=
  a / 0x10000 == 2 || a == Reg.PMU_STRAPS || a == Reg.PMU_CNT_COLD || a == Reg.GPIO_BANK ||
    (!cold && (a == Reg.PMU_CNT_WARM || (List.range 4).any (fun i => a == Reg.HK_CAL_USER i) ||
      (match regRow a with | some r => r.access == .cal | none => false)))

/-- A byte of memory that a reset leaves alone: MRAM, and after a warm reset the snowpack. -/
def keptByte (cold : Bool) (a : Nat) : Bool :=
  decide (mramBase ≤ a ∧ a < snowBase) || (!cold && decide (snowBase ≤ a ∧ a < snowBase + 0x8000))

/-- Every block in its reset state, with what a reset of the kind keeps (R294, R401, R427). VIN, its comparators and the levels of balls are
outside what a reset touches (R204). -/
def blank (cold : Bool) (s : State) : State :=
  let s := saveLost s
  let r := State.reset
  { r with
    regs := s.regs.filter fun e => keptReg cold e.1
    mem := s.mem.filter fun e => keptByte cold e.1
    now := s.now
    hlt := { vinUnder := s.hlt.vinUnder, vinOver := s.hlt.vinOver }
    snow := { newer := s.snow.newer }
    mbx := { r.mbx with
      log := if cold then s.mbx.logSaved else s.mbx.log
      logSaved := s.mbx.logSaved
      evseq := if cold then (match s.mbx.logSaved.getLast? with | some e => (e.seq + 1) % 2 ^ 32 | none => 0) else s.mbx.evseq
      evNew := if cold then [] else s.mbx.evNew }
    ptp := if cold then {} else { integ := s.ptp.integ, adj := s.ptp.adj }
    hk := { r.hk with
      saved := s.hk.saved, calTemp := if cold then [] else s.hk.calTemp, userFields := if cold then [] else s.hk.userFields }
    fw := { recs := s.fw.recs }
    pwr := { r.pwr with vinLow := s.pwr.vinLow, resetLow := s.pwr.resetLow, aon := s.pwr.aon }
    pins := { lost := s.pins.lost, tcIn := s.pins.tcIn }
    out := s.out
    free := s.free
    pending := s.pending }

/-- Straps act: ROOT_EN on FAB.CTRL, LINK_RATE on the rate of every link. -/
def strapsApply (s : State) : State :=
  let s := when (s.bit Reg.PMU_STRAPS 1) (State.wb · Reg.FAB_CTRL 1 true) s
  when (s.bit Reg.PMU_STRAPS 2) (forEach (List.range 32) fun n t => t.wf (Reg.SLK_LINK_CTRL n) 1 2 1) s

/-- The device goes through a reset; start-up begins at stage 0 (R427, R429). A cold start loads device time from the always-on count, and
a warm one during THAW too, whose time that domain still keeps (R294, R416). -/
def resetNow (cold : Bool) (cause : Nat) (s : State) : State :=
  let op := s.snow.op
  let s := when (cold || s.pwr.aon.on) aonLoad (strapsApply (blank cold s))
  let s := s.wr Reg.PMU_RESET_CAUSE (BitVec.ofNat 32 (cause + if cold then 0 else 16))
  let s := if !cold then s.count Reg.PMU_CNT_WARM else when (cause != 1) (State.count · Reg.PMU_CNT_COLD) s
  when (!cold) (fun t => snowReset op (servoShow t)) s

/-- A reset is requested: held while the prewarn comparator stands tripped (R399). -/
def resetReq (cold : Bool) (cause : Nat) (s : State) : State :=
  if s.pwr.shut || s.pwr.vinLow || s.pwr.state == 4 then s
  else if s.bit Reg.HK_STATUS 1 then
    modPwr (fun p => { p with resetHeld := some (match p.resetHeld with
      | some (k, c) => if k == 1 then (k, c) else (if cold then 1 else 0, cause)
      | none => (if cold then 1 else 0, cause)) }) s
  else resetNow cold cause s

/-- The device is off, but for the always-on domain (Table PWR-1). -/
def switchOff (s : State) : State := modPwr (fun p => { p with state := 4, inReset := true }) (blank true (aonStart s))

/-! ### VIN and RESET_N (R426, R428) -/

/-- VIN rises through 4.4 V with the straps, or falls below 4.0 V. A strap whose bank supply is lost reads 0 (R440). -/
def porEdge (rise : Bool) (straps : Nat) (s : State) : State :=
  if rise then
    if !s.pwr.vinLow then s
    else
      let v := if s.pins.lost.testBit 0 then 0 else straps
      let s := (modPwr (fun p => { p with vinLow := false }) s).wr Reg.PMU_STRAPS (BitVec.ofNat 32 v)
      let s := (resetNow true 1 s).wb Reg.AON_STATUS 1 true
      let s := { s with hlt := { s.hlt with vinUnder := false } }
      modPwr (fun p => { p with inReset := p.resetLow }) s
  else
    let s := (switchOff s).wb Reg.AON_STATUS 1 false
    modPwr (fun p => { p with vinLow := true }) s

/-- POR (R426, R428). -/
def execPor (rise : Bool) (straps : Fin 8) (s : State) : Host.Outcome State Fault Refusal := done (porEdge rise straps.val s)

/-- RESET_N low for more than 10 µs holds a cold reset until it rises. -/
def resetPin (low : Bool) (s : State) : State :=
  let s := modPwr (fun p => { p with resetLow := low }) s
  if s.pwr.shut || s.pwr.vinLow || s.pwr.state == 4 then s
  else if low then
    if s.bit Reg.HK_STATUS 1 then resetReq true 2 s else aonStart (modPwr (fun p => { p with inReset := true }) (resetNow true 2 s))
  else when (s.pwr.inReset) (fun t => modPwr (fun p => { p with inReset := false }) (aonLoad t)) s

/-- RESET_N (R426). -/
def execResetN (low : Bool) (s : State) : Host.Outcome State Fault Refusal := done (resetPin low s)

/-- The firmware service timer expires (R426). -/
def execWatchdog (s : State) : Host.Outcome State Fault Refusal := done (resetReq false 3 s)

/-- Compare error of the management core (R426). -/
def execLockstep (s : State) : Host.Outcome State Fault Refusal := done (resetReq false 6 (s.event 0x0011 1 3 clsDevice 0 []))

/-- The core PLL fails (R426). -/
def execClockFail (s : State) : Host.Outcome State Fault Refusal := done (resetReq false 7 (s.event 0x0012 1 2 clsDevice 0 [2]))

/-- VIN falls below 3.0 V: the always-on domain loses its state (R412). -/
def aonLoss (s : State) : State :=
  let s := switchOff s
  modPwr (fun p => { p with vinLow := true, aon := { lost := true } }) { s with regs := s.regs.filter (fun e => e.1 / 0x10000 != 2 && e.1 != Reg.PMU_CNT_COLD), now := 0 }

/-- Loss of the always-on domain (R412). -/
def execAonLoss (s : State) : Host.Outcome State Fault Refusal := done (aonLoss s)

/-- VIN falls below 4.5 V, with its value in mV: every live segment is sent DEFAULT_NOW (R428, Table HLT-2). -/
def vinUnder (mv : Nat) (s : State) : State :=
  let s := (s.event 0x0021 2 2 clsDevice 0 ([0, 0] ++ det 2 mv)).wb Reg.AON_STATUS 1 false
  let s := { s with hlt := { s.hlt with vinUnder := true } }
  forEach (List.range 256) (fun g t => if segLive t g then segToDefault g t else t) s

/-- VIN below 4.5 V (R428). -/
def execVinUndervoltage (mv : BitVec 16) (s : State) : Host.Outcome State Fault Refusal := done (vinUnder mv.toNat s)

/-- VIN is back at or above 4.5 V. -/
def vinUnderEnd (s : State) : State := { s.wb Reg.AON_STATUS 1 true with hlt := { s.hlt with vinUnder := false } }

/-- End of the undervoltage (R428). -/
def execVinUndervoltageEnd (s : State) : Host.Outcome State Fault Refusal := done (vinUnderEnd s)

/-- VIN above 28 V raises an event only; `high` false: it is below again. -/
def vinOver (high : Bool) (mv : Nat) (s : State) : State :=
  let s := when high (State.event · 0x0021 2 2 clsDevice 0 ([1, 0] ++ det 2 mv)) s
  { s with hlt := { s.hlt with vinOver := high } }

/-- VIN above 28 V (R428). -/
def execVinOvervoltage (high : Bool) (mv : BitVec 16) (s : State) : Host.Outcome State Fault Refusal := done (vinOver high mv.toNat s)

/-! ### Wake ball and host chip select (R423) -/

/-- The WAKE ball, or HCS_N, wakes the device: from OFF the ball does so by a cold boot. -/
def wakeBall (hcs : Bool) (s : State) : State :=
  let s := when (!hcs) (fun t => t.wb Reg.AON_STATUS 0 (!(t.bit Reg.AON_WAKE_CFG 4))) s
  if s.pwr.state == 4 then
    if hcs || s.pwr.vinLow || s.pwr.shut then s
    else
      let t := (resetNow true 1 s).wb Reg.AON_WAKE_CFG 5 false
      modPwr (fun p => { p with inReset := p.resetLow }) t
  else wakeBy (if hcs then 3 else 0) s

/-- WAKE ball or host chip select (R423). -/
def execWake (hcs : Bool) (s : State) : Host.Outcome State Fault Refusal := done (wakeBall hcs s)

/-! ### Orderly stop and shutdown (R397 to R400) -/

/-- The prewarn comparator trips: steps 1 and 2 of Table HK-5. The THERMAL event waits for step 5. -/
def prewarn (s : State) : State :=
  if s.pwr.inReset || s.pwr.stopped then s.wb Reg.HK_STATUS 1 true
  else
    let s := s.wb Reg.HK_STATUS 1 true
    let before := s.mbx.evNew
    let s := s.event 0x0022 14 2 13 12 [0, 12]
    let s := { s with mbx := { s.mbx with evNew := before, logSaved := s.mbx.log } }
    let s := match s.hk.calRun with | some u => calAbort u s | none => s
    let s := modPwr (fun p => { p with
      stopped := true, halted := true, pipe := 0, target := 0, step := 0, thaw := 0, stopAt := s.tickNs
      stopEv := s.mbx.log.drop (s.mbx.log.length - 1) }) s
    forEach (linksOn s) (linkEn · false) s

/-- Prewarn trip (R398). -/
def execPrewarnTrip (s : State) : Host.Outcome State Fault Refusal := done (prewarn s)

/-- 2 ms after the trip: step 5 of Table HK-5. -/
def stopFinish (s : State) : State :=
  if s.pwr.stopped && !s.pwr.stopDone && decide (s.pwr.stopAt + 2000000 ≤ s.tickNs) then
    let s := forEach (groupsOn s) grpOff s
    let s := { s with mbx := { s.mbx with evNew := s.mbx.evNew ++ s.pwr.stopEv } }
    let s := stopRaster s
    let s := modPwr (fun p => { p with stopDone := true, dramReady := false, stopEv := [] }) s
    pmuState 5 (s.wb Reg.HK_STATUS 2 true)
  else s

/-- The prewarn comparator releases: a reset that waited goes on. -/
def prewarnEnd (s : State) : State :=
  let s := s.wb Reg.HK_STATUS 1 false
  match s.pwr.resetHeld with
  | some (k, c) =>
    let t := resetNow (k == 1) c s
    modPwr (fun p => { p with inReset := p.resetLow }) t
  | none => s

/-- Prewarn release (R399). -/
def execPrewarnRelease (s : State) : Host.Outcome State Fault Refusal := done (prewarnEnd s)

/-- The shutdown comparator trips: everything off but the always-on domain, latched until VIN falls (R400). -/
def shutdown (s : State) : State :=
  let s := s.event 0x0022 14 2 13 12 [1, 12]
  modPwr (fun p => { p with inReset := true, shut := true }) (blank true (aonStart s))

/-- Shutdown trip (R400). -/
def execShutdown (s : State) : Host.Outcome State Fault Refusal := done (shutdown s)

/-! ### Bank supplies and the crystal (R440, R441, R443) -/

/-- VOUT_3V3 is on: while VIN is at or above 4.5 V and the device is neither OFF nor shut down; it stays on through a reset (R441). -/
def vout3v3 (s : State) : Bool := !s.pwr.vinLow && !s.hlt.vinUnder && s.pwr.state != 4 && !s.pwr.shut

/-- A bank loses its supply: 0 VIOA, 1 VIOB. -/
def vioLoss (b : Nat) (s : State) : State :=
  let l := s.pins.lost
  let s := { s with pins := { s.pins with lost := if l.testBit b then l else l + 2 ^ b } }
  (s.wb Reg.GPIO_BANK b false).count Reg.GPIO_CNT_BANK_LOSS

/-- Loss of a bank supply (R440). -/
def execVioLoss (b : Fin 2) (s : State) : Host.Outcome State Fault Refusal := done (vioLoss b.val s)

/-- A bank supply returns, at 3.3 V or not. -/
def vioReturn (b : Nat) (high : Bool) (s : State) : State :=
  let l := s.pins.lost
  let s := { s with pins := { s.pins with lost := if l.testBit b then l - 2 ^ b else l } }
  (s.wb Reg.GPIO_BANK b true).wb Reg.GPIO_BANK (2 + b) high

/-- Return of a bank supply (R440). -/
def execVioReturn (b : Fin 2) (high : Bool) (s : State) : Host.Outcome State Fault Refusal := done (vioReturn b.val high s)

/-- The 32.768 kHz oscillator has started (R443). -/
def execXtalOk (s : State) : Host.Outcome State Fault Refusal := done (s.wb Reg.AON_STATUS 2 true)

/-- What follows a response: a reset, or OFF, 1 ms after it stands (SYS_RESET, PWR_OFF), where that is not later than a tick given in ns. -/
def afterBy (tick : Nat) (s : State) : State :=
  match s.pwr.after with
  | some (kind, cause, t) =>
    if decide (t ≤ tick) then
      let s := modPwr (fun p => { p with after := none }) (s.advanceTo (ns16 (Int.ofNat t)))
      if kind == 2 then switchOff s else resetReq (kind == 1) cause s
    else s
  | none => s

/-- What follows a response and is due. -/
def afterDue (s : State) : State := afterBy s.tickNs s

end Sys2Proof.Machine
end

