-- ==== Sys2Proof/Machine/Firmware.lean ====
section
/-! DEFINITION. Firmware update (R336 to R338) and the milestones of start-up that firmware makes (R408, R429 to R432). -/
namespace Sys2Proof.Machine

/-- Commit record of a bank; bank A is delivered CONFIRMED. -/
def fwDefault (b : Nat) : FwRec := if b == 0 then ⟨Config.fwGen.toNat, 2⟩ else {}
def fwRec (s : State) (b : Nat) : FwRec := sget fwDefault s.fw.recs b
def setFwRec (b : Nat) (r : FwRec) (s : State) : State := { s with fw := { s.fw with recs := sput fwDefault s.fw.recs b r } }

/-- First byte of the image in a bank (log entry 3). -/
def fwBase (b : Nat) : Nat := mramBase + 0x200000 * b

/-- The running bank, and UPDATE (Table MBX-9). -/
def fwActive (s : State) : Nat := s.fd Reg.FW_STATE 0 1
def fwUpdate (s : State) : Nat := s.fd Reg.FW_STATE 1 3

/-- UPDATE changes: MBX.STATUS.UPDATING and the event FW_STATE follow. -/
def setUpdate (v : Nat) (s : State) : State :=
  if fwUpdate s == v then s
  else ((s.wf Reg.FW_STATE 1 3 v).wb Reg.MBX_STATUS 1 (v != 0)).event 0x00D0 17 0 clsDevice 0 [v]

/-- The update is given up; the bank stays invalid. -/
def fwAbandon (s : State) : State :=
  let s := completeOps 0x1103 (fun _ => true) St.internal [] s
  setUpdate 0 { s with fw := { s.fw with owner := none, size := 0 } }

/-- The request comes from the client that began the update. -/
def fwOwner (s : State) (c : Ctx) : Bool := s.fw.owner == some (c.m.mb.val, c.m.client)

/-- FW_BEGIN: the record of the inactive bank is invalidated. -/
def bodyFwBegin (c : Ctx) (s : State) : State :=
  need 4 c (fun s =>
    let n := arg c 0 4
    if fwUpdate s != 0 && !(fwOwner s c) then refuse c St.busy s
    else if 3 < fwUpdate s then refuse c St.state s
    else if n == 0 || 2097152 < n then refuse c St.range s
    else
      let s := setFwRec (1 - fwActive s) {} s
      refuse c St.ok (setUpdate 1 { s with fw := { s.fw with owner := some (c.m.mb.val, c.m.client), size := n } })) s

/-- FW_DATA: bytes of the image. -/
def bodyFwData (c : Ctx) (s : State) : State :=
  withData c (fun b s =>
    if !(fwOwner s c) || !(fwUpdate s == 1 || fwUpdate s == 3) then refuse c St.state s
    else if b.sel != 0 || s.fw.size < b.offset + b.data.length then refuse c St.range s
    else refuse c St.ok (setUpdate 1 (s.putBytes (fwBase (1 - fwActive s) + b.offset) b.data))) s

/-- FW_VERIFY: ACCEPTED; its completion is `verifyDone`. -/
def bodyFwVerify (c : Ctx) (s : State) : State :=
  if !(fwOwner s c) || !(fwUpdate s == 1 || fwUpdate s == 3) then refuse c St.state s
  else setUpdate 2 (acceptOp c clsDevice 0 0 [] s)

/-- The signature check ends. -/
def verifyDone (good : Bool) (s : State) : State :=
  if fwUpdate s != 2 then s
  else completeOps 0x1103 (fun _ => true) (if good then St.ok else St.range) [] (setUpdate (if good then 3 else 1) s)

/-- End of the signature check (R336). -/
def execFwVerifyDone (good : Bool) (s : State) : Host.Outcome State Fault Refusal := done (verifyDone good s)

/-- The new firmware takes over: the mailboxes pause (R337). -/
def handover (s : State) : State :=
  let b := 1 - fwActive s
  let g := (fwRec s b).gen
  let s := ((s.wf Reg.FW_STATE 0 1 b).wr Reg.FW_GEN (BitVec.ofNat 32 g)).wr Reg.FW_VERSION (Config.fwVersion g)
  setUpdate 5 (s.wb Reg.MBX_STATUS 0 true)

/-- FW_COMMIT: a TRIAL record with GEN one above the active bank's; the handover follows the cutoff. With the raster stopped it
waits for the first phase 0 after it is enabled (R453). -/
def bodyFwCommit (c : Ctx) (s : State) : State :=
  if !(fwOwner s c) || fwUpdate s != 3 then refuse c St.state s
  else
    let s := acceptOp c clsDevice 0 0 [] s
    let s := setFwRec (1 - fwActive s) ⟨((s.rd Reg.FW_GEN).toNat + 1) % 2 ^ 32, 1⟩ s
    let s := setUpdate 4 s
    { s with fw := { s.fw with commitWait := applyWait s } }

/-- The handover at its phase 0. -/
def handoverP0 (s : State) : State :=
  match s.fw.commitWait with
  | 0 => s
  | 1 => handover { s with fw := { s.fw with commitWait := 0 } }
  | n + 1 => { s with fw := { s.fw with commitWait := n } }

/-- The new firmware resumes the mailboxes: it completes FW_COMMIT, and what waited goes on (R337). -/
def fwResume (s : State) : State :=
  if !(mbPaused s) then s
  else
    let s := completeOps 0x1104 (fun _ => true) St.ok (leBytes 4 (s.rd Reg.FW_VERSION).toNat) (s.wb Reg.MBX_STATUS 0 false)
    forEach (List.range 8) (fun n t => mbRefill n (releaseHeld n t)) s

/-- Mailboxes resume (R337). -/
def execFwResume (s : State) : Host.Outcome State Fault Refusal := done (fwResume s)

/-- The new firmware writes CONFIRMED; the update is over. -/
def fwConfirm (s : State) : State :=
  if fwUpdate s != 5 then s
  else
    let b := fwActive s
    let s := setFwRec b { fwRec s b with st := 2 } s
    setUpdate 0 { s with fw := { s.fw with owner := none, size := 0 } }

/-- CONFIRMED (R337). -/
def execFwConfirm (s : State) : Host.Outcome State Fault Refusal := done (fwConfirm s)

/-- No FW command for 60 s (R336). -/
def fwTimeout (s : State) : State := if decide (1 ≤ fwUpdate s ∧ fwUpdate s ≤ 3) then fwAbandon s else s

/-- An update is abandoned (R336). -/
def execFwUpdateTimeout (s : State) : Host.Outcome State Fault Refusal := done (fwTimeout s)

/-- FW_ABORT: STATE when no update can be ended. -/
def bodyFwAbort (c : Ctx) (s : State) : State :=
  if decide (1 ≤ fwUpdate s ∧ fwUpdate s ≤ 3) then refuse c St.ok (fwAbandon s) else refuse c St.state s

/-- FW_INFO: FW.STATE, FW.VERSION, GEN and record state of each bank. -/
def bodyFwInfo (c : Ctx) (s : State) : State :=
  let r (b : Nat) : List Byte := leBytes 4 (fwRec s b).gen ++ leBytes 4 (fwRec s b).st
  respondTo c St.ok (wordBytes [s.rd Reg.FW_STATE, s.rd Reg.FW_VERSION] ++ r 0 ++ r 1) s

/-! ### Start-up (R408, R429 to R432) -/

/-- STAGE of PMU.STATE. -/
def bootStage (v : Nat) (s : State) : State := s.wf Reg.PMU_STATE 8 4 v

/-- The bank the boot ROM boots (R338): the CONFIRMED one of highest GEN whose image verifies. -/
def bootBank (s : State) (goodA goodB : Bool) : Option Nat :=
  let fit (b : Nat) (good : Bool) : Bool := good && (fwRec s b).st == 2
  match fit 0 goodA, fit 1 goodB with
  | true, true => some (if (fwRec s 0).gen < (fwRec s 1).gen then 1 else 0)
  | true, false => some 0
  | false, true => some 1
  | false, false => none

/-- Values of CAL_SAVE are loaded at a cold start (R408). -/
def loadSaved (s : State) : State :=
  match s.hk.saved with
  | some l => forEach l (fun e t => t.wr e.1 e.2) s
  | none => s

/-- The boot ROM verifies and boots; then firmware runs and serves the mailboxes: stages 2 and 3 (R429). After a cold start the
snowpack is restored from its mirror (R235). -/
def bootVerify (goodA goodB : Bool) (s : State) : State :=
  if s.pwr.inReset || decide (3 ≤ stage s) then s
  else match bootBank s goodA goodB with
    | none => bootStage 1 s
    | some b =>
      let g := (fwRec s b).gen
      let s := ((s.wf Reg.FW_STATE 0 1 b).wr Reg.FW_GEN (BitVec.ofNat 32 g)).wr Reg.FW_VERSION (Config.fwVersion g)
      let cold := !(s.bit Reg.PMU_RESET_CAUSE 4)
      let s := when cold (fun t => loadSaved { t with snow := { t.snow with restoring := List.range 6 } }) s
      (bootStage 3 s).event 0x0010 1 0 clsDevice 0 [s.fd Reg.PMU_RESET_CAUSE 0 4]

/-- Boot ROM (R338). -/
def execBootRomVerify (goodA goodB : Bool) (s : State) : Host.Outcome State Fault Refusal := done (bootVerify goodA goodB s)

/-- Stage 4: in light start the raster runs at 240 Hz, the fallback reaction is raised with the DEFAULT slot, and the stage starts; every
segment link trains (R430). -/
def lightStart (s : State) : State :=
  if stage s != 3 then s
  else
    let s := bootStage 4 s
    let s := if s.bit Reg.PMU_STRAPS 0 then s
      else
        let s := s.wb Reg.PMU_STATE 14 true
        let s := timingCommit ((s.wr Reg.RAS_PERIOD 0x3F940A#32).wr Reg.RAS_PERIOD_FRAC 0xAAAB#32)
        let s := rasEnable true s
        supEnable true (fbRaise 6 0xFF (defaultSlot s) s)
    forEach (List.range 32) (linkEn · true) s

/-- Stage 4 (R430). -/
def execLightStart (s : State) : Host.Outcome State Fault Refusal := done (lightStart s)

/-- Stages 5 and 6, seen at a phase 0: links trained, and light. -/
def stageP0 (s : State) : State :=
  let s := if stage s == 4 && (linksOn s).all (fun n => linkState s n == 6) then bootStage 5 s else s
  if stage s == 5 && s.ras.latched then bootStage 6 s else s

/-- Places of the saved VF references and failure map in MRAM, with their CRCs (log entry 3). -/
def savedMap : Nat := mramBase + 0xD00000
def savedMapCrc : Nat := mramBase + 0xD40000
def savedVf : Nat := mramBase + 0xD80000
def savedVfCrc : Nat := mramBase + 0xF81000
def vfBytes : Nat := 0x201000

/-- The failure map is seeded when SEED asks for it and the saved map passes its check (R201). -/
def seedMap (s : State) : State :=
  if !(s.bit Reg.HLT_CTRL 3) then s
  else if s.le savedMapCrc 4 == crc32c (s.bytes savedMap mapBytes) then
    let l := s.mem.filter fun e => decide (savedMap ≤ e.1 ∧ e.1 < savedMap + mapBytes)
    let s := { s with hlt := { s.hlt with lamps := [] } }
    let s := forEach l (fun e t => forEach (List.range 4) (fun k u =>
      u.setLamp (4 * (e.1 - savedMap) + k) { cls := e.2.toNat / 4 ^ k % 4 }) t) s
    recountMap (mapWrite (s.wb Reg.HLT_STATUS 1 true))
  else (s.wb Reg.HLT_STATUS 2 true).event 0x0063 6 2 clsDevice 0 [2]

/-- The saved references are loaded; without a committed copy no lamp has one (log entry 41). -/
def loadVf (s : State) : State :=
  if s.le savedVfCrc 4 == crc32c (s.bytes savedVf vfBytes) then s.copyBytes (vfBase s) savedVf vfBytes
  else s.putBytes (vfBase s) (List.replicate 0x200000 0xFF#8)

/-- Stage 7: DRAM is in service and the tables of every segment are applied from MRAM; or no byte lane passes (R431, R432). -/
def dramReady (good : Bool) (s : State) : State :=
  if decide (stage s < 4 ∨ 7 ≤ stage s) || s.bit Reg.PMU_STATE 13 then s
  else if good then
    let s := bootStage 7 (modPwr (fun p => { p with dramReady := true }) s)
    let s := vfSuspShow (seedMap (mapWrite (loadVf s)))
    applyAccept { lo := 0, hi := 255, tables := 3, source := 1 } s
  else
    (s.wb Reg.PMU_STATE 13 true).event 0x0013 1 2 clsDevice 0 [1]

/-- DRAM in service, or not (R431, R432). -/
def execDramReady (good : Bool) (s : State) : Host.Outcome State Fault Refusal := done (dramReady good s)

/-- Stage 8 (R429). -/
def startupReady (s : State) : State := if stage s == 7 then bootStage 8 s else s

/-- READY (R429). -/
def execStartupReady (s : State) : Host.Outcome State Fault Refusal := done (startupReady s)

end Sys2Proof.Machine
end

