-- ==== Sys2Proof/Machine/Blanking.lean ====
section
/-! DEFINITION. Blanking start (R26): checks of polders, cuts, captures of every shadow set, and what goes out within blanking (R53,
R70, R71, R127, R128, R160, R175, R222, R233, R246, R454). -/
namespace Sys2Proof.Machine

/-! ### Captures -/

/-- RWS registers that need no commit: SUP.BERM, SUP.IREF, SUP.PLAN and the SEG registers. -/
def plainRegs : List Nat :=
  [Reg.SUP_BERM, Reg.SUP_IREF, Reg.SUP_PLAN] ++ (List.range 256).flatMap fun g =>
    [Reg.SEG_SEG_CORR g, Reg.SEG_SEG_EDGE_NE g, Reg.SEG_SEG_EDGE_SW g, Reg.SEG_SEG_IREF g]

/-- A shadow differs from its live word in a bit that software writes. -/
def shadowMoved (s : State) (a : Nat) : Bool :=
  match regRow a with
  | some r => (s.rd a ^^^ s.lrd a) &&& BitVec.ofNat 32 r.wmask != 0
  | none => false

/-- The BEAM set is captured, or discarded whole (R160). -/
def captureBeam (s : State) : State :=
  if !(s.bit Reg.BEAM_STATUS 5) then s
  else
    let c := beamSetFault s s.rd
    if c == 0 then s.capture beamRegs
    else commitRejected 5 clsDevice 0 0x07 c ((s.wb Reg.BEAM_STATUS 5 false).wb Reg.BEAM_STATUS 6 true)

/-- The polder set is captured, or discarded whole (R233). -/
def capturePol (s : State) : State :=
  if !(s.bit Reg.POL_STATUS 0) then s
  else
    let c := polSetFault s s.rd
    if c == 0 then s.capture polRegs
    else commitRejected 9 clsDevice 0 0x0A c ((s.wb Reg.POL_STATUS 0 false).wb Reg.POL_STATUS 1 true)

/-- The pending timing set is captured (R44, R127). -/
def captureTiming (s : State) : State :=
  if s.bit Reg.RAS_STATUS 4 then takeTiming s else s

/-- The captured period differs from the one in force. -/
def periodMoves (s : State) : Bool := s.ras.commitCap && stagedPeriod s != period16 s

/-- Everything pending is captured and checked (R127, R453). -/
def captureAll (s : State) : State :=
  let s := s.capture (plainRegs.filter (shadowMoved s))
  let s := captureTiming s
  let s := captureLimit (captureLayers s)
  let s := capturePol (captureBeam (corrCapture s))
  let s := snowCapture (captureApplies s)
  { s with
    beam := { s.beam with laPend := none, laCap := s.beam.laPend.orElse fun _ => s.beam.laCap }
    pol := { s.pol with clearPend := false, clearCap := s.pol.clearPend || s.pol.clearCap } }

/-! ### Packets in blanking (R71) -/

/-- Characters that fit into this blanking on a link. -/
def blankChars (s : State) (n : Nat) : Nat :=
  ((s.ras.p0Next - blankAt s) * 3 / (ui3 (s.link n).rate * 10 * 65536)).toNat

/-- TIMING of a period change, with the captured period and the blanking it gives (R45, R60). -/
def timingAhead (n : Nat) (s : State) : State :=
  let w := (s.crd Reg.RAS_PERIOD).getD (s.lrd Reg.RAS_PERIOD)
  let f := fld ((s.crd Reg.RAS_PERIOD_FRAC).getD (s.lrd Reg.RAS_PERIOD_FRAC)) 0 16
  let b := fld ((s.crd Reg.RAS_BLANK_START).getD (s.lrd Reg.RAS_BLANK_START)) 0 24
  slkSend n 3 0 0 (timingBody s n s.ras.nextFrame.toNat w.toNat f (blankEff (w.toNat * 65536 + f) b)) s

/-- A BLANK_CMD that waited for blanking goes out. -/
def blankOut (n : Nat) (e : Nat × Nat × Nat) (s : State) : State :=
  let segs := if e.1 == 8 then linkSegs n else [8 * n + e.1]
  match e.2.1 with
  | 4 => upSleep n s
  | 5 => upWake n s
  | 0 => forEach segs (fun g t => t.modSeg g fun x => { x with darkNext := true }) (blankCmd n e.1 0 e.2.2 (e.1 == 8) s)
  | m => blankCmd n e.1 m e.2.2 (e.1 == 8) s

/-- DEFAULT_LOAD chunks go out while characters are left (R62, R71). -/
def chunksOut (n : Nat) : Nat → List (Nat × Nat × Bool × List Byte) → State → State
  | left, e :: r, s =>
    if left < 521 then s.modLink n fun l => { l with defQ := e :: r }
    else
      chunksOut n (left - 521) r (slkSend n 5 e.1 (e.2.1 + if e.2.2.1 then 256 else 0) e.2.2.2 (s.modLink n fun l => { l with defQ := r }))
  | _, [], s => s

/-- What link `n` carries in this blanking before a calibration run; `f` are the factors of late trim. -/
def linkBlank (f : Nat × Nat) (n : Nat) (s : State) : State :=
  if linkState s n != 6 then s
  else
    let s := when (periodMoves s) (timingAhead n) (s.emit (.slkSet n 0xC6 0))
    let s := forEach ((linkSegs n).filter (segLive s)) (fun g t => segCmd g (lateTrimOf t f g) t) s
    let q := (s.link n).blankQ
    forEach q (blankOut n) (s.modLink n fun l => { l with blankQ := [] })

/-- Characters of the packets that R71 places first in the blanking of link `n`. -/
def aheadChars (s : State) (n : Nat) : Nat :=
  2 + (if periodMoves s then 52 else 0) + 20 * ((linkSegs n).filter (segLive s)).length + 12 * (s.link n).blankQ.length

/-- DEFAULT_LOAD chunks of link `n` while time remains after `ahead` characters and a CALBURST run (R71). -/
def linkChunks (ahead : Nat → Nat) (n : Nat) (s : State) : State :=
  if linkState s n != 6 || upAsleep s n || (s.link n).sleeping then s
  else
    let run := if s.hk.calRun == some n then 514 * calBursts (s.link n).rate else 0
    chunksOut n (blankChars s n - ahead n - run) (s.link n).defQ s

/-- What goes out in this blanking on every link, in the order of R71; `f` are the factors of late trim. -/
def blankPackets (f : Nat × Nat) (s : State) : State :=
  let ahead := aheadChars s
  forEach (List.range 32) (linkChunks ahead) (calStart ahead (forEach (List.range 32) (linkBlank f) s))

/-! ### Cuts (R70, R246) -/

/-- A segment whose frame is not complete is cut: the rows sent count with the codes sent, the others with what it keeps (R70, R212). -/
def cutSeg (g : Nat) (s : State) : State :=
  let x := s.seg g
  if !x.due || x.sent then s
  else
    let sums (l : List Nat) : List Nat := if x.rowsOut == 0 then x.lastSums else codeSums s g (rowsKept x l)
    let s := s.modSeg g fun x => { x with stopped := true, pre := sums x.nextPre, post := sums x.next }
    (s.count (Reg.SLK_LINK_CNT_ROWS_CUT (g / 8))).count Reg.CMP_CNT_ROWS_CUT

/-- A segment without a complete frame of a fallback that applies at the next phase 0 goes dark for it (R246). -/
def fbDark (g : Nat) (s : State) : State :=
  let x := s.seg g
  if !x.due || x.fbDone then s
  else
    let s := (s.modSeg g fun x => { x with sent := false, stopped := true }).modLink (g / 8) fun l =>
      { l with blankQ := l.blankQ ++ [(g % 8, 0, 0)] }
    s.count Reg.POL_CNT_FB_DARK

/-- What a blanking start judges: polders on what has been composed, and segments that are cut or kept dark. -/
def blankChecks (s : State) : State :=
  let s := forEach (List.range 256) composedPart (forEach (List.range 32) lineNow s)
  let s := forEach (List.range 64) (polCheck true) s
  let s := s.wb Reg.POL_STATUS 2 (!(shadowOut s).isEmpty)
  let s := forEach (List.range 256) cutSeg { s with ras := { s.ras with inBlank := true } }
  when (s.bit Reg.POL_FB_STATUS 1 && s.pol.fbWait == 1) (forEach (List.range 256) fbDark) s

/-- What a blanking start sends, by the late trim of the frame to come. -/
def blankSend (s : State) : State :=
  let t := lateTrim s
  blankPackets t.1 (powerBlank (feedForward t.1 t.2))

/-- Blanking start of the frame in progress; a render cutoff before it has passed (R150). -/
def blankingStart (s : State) : State :=
  if !s.ras.ran || s.ras.inBlank then s
  else
    let s := (when (decide (cutoffAt s ≤ blankAt s)) renderCutoff s).advanceTo (blankAt s)
    if s.pwr.stopped then { s with ras := { s.ras with inBlank := true } }
    else
      let s := captureAll (blankChecks s)
      let s := when (periodMoves s && s.beam.la && speculative s) (squash true) s
      blankSend (forEach (List.range 4) streamCut s)

/-- Blanking start (R26). -/
def execBlankingStart (s : State) : Host.Outcome State Fault Refusal := done (blankingStart s)

end Sys2Proof.Machine
end

