-- ==== Sys2Proof/Machine/Phase.lean ====
section
/-! DEFINITION. Phase 0 (R27) and TE mode (R79, R80). -/
namespace Sys2Proof.Machine

/-! ### LATCH (R75, R77 to R80) -/

/-- The TE window of a phase 0 begins. With the first phase 0 after an enabling, and while composition is halted (`mute`), no LATCH goes
(R43, R414). -/
def teBegin (mute : Bool) (s : State) : State :=
  { s with ras := { s.ras with
    teDone := s.ras.teNext, teNext := false, teMute := mute
    latched := !mute && (List.range 32).any fun n => linkState s n == 6 && decide (1 ≤ (s.link n).age) } }

/-- LATCH at a phase 0 on every link outside TE mode; in TE mode a frame not latched by an edge before phase 0 waits for the edge after it,
or for the close of the window. -/
def latchP0 (s : State) : State :=
  forEach (List.range 32) (fun n t =>
    if !(teLink t n) then latchLink t.ras.frame t.ras.p0At false n t
    else if t.ras.teDone then t
    else forEach (linkSegs n) (fun g u => match frameSent u g with
      | some d => u.modSeg g fun x => { x with teHeld := some d }
      | none => u) t) s

/-- LATCH on the links in TE mode for latch instant `l`: before phase 0, or after it. -/
def latchTe (f : BitVec 32) (l : Int) (after : Bool) (s : State) : State :=
  forEach ((List.range 32).filter (teLink s)) (latchLink f l after) s

/-- LEAD in 2⁻¹⁶ ns. -/
def teLead (s : State) : Int := ns16 (s.fd Reg.SLK_TE_CFG 0 16)
def teWin (s : State) : Int := ns16 (s.fd Reg.SLK_TE_WIN 0 10 * 1000)

/-- An edge on TE_IN, with its time in units of 10 ns: the first one in the window around a phase 0 is accepted (R79). -/
def teEdge (rising : Bool) (at10 : Nat) (s : State) : State :=
  let t := ns16 (at10 * 10)
  if rising == s.bit Reg.SLK_TE_CFG 16 || !(s.ras.ran || s.ras.armed) || s.pwr.stopped then s
  else if s.ras.ran && !s.ras.teDone && decide (t - s.ras.p0At ≤ teWin s ∧ s.ras.p0At ≤ t) then
    let s := s.wr Reg.SLK_TE_OFFSET (BitVec.ofInt 32 ((t - s.ras.p0At) / 65536))
    let s := { s with ras := { s.ras with teDone := true } }
    if s.ras.teMute then s else latchTe s.ras.frame (t + teLead s) true s
  else if !s.ras.teNext && decide (s.ras.p0Next - t ≤ teWin s ∧ t < s.ras.p0Next) then
    let s := s.wr Reg.SLK_TE_OFFSET (BitVec.ofInt 32 (-((s.ras.p0Next - t) / 65536)))
    let s := { s with ras := { s.ras with teNext := true } }
    if !s.ras.ran || s.pwr.halted then s
    else latchTe s.ras.nextFrame (t + teLead s) false (forEach (List.range 32) lineNow s)
  else s

/-- The window closes without an edge: counted, and LATCH at the fallback time (R80). With no link in TE mode nothing is counted (DESIGN
CHOICE, log entry 126). -/
def teClose (s : State) : State :=
  if !s.ras.ran || s.ras.teDone || s.rd Reg.SLK_TE_MASK == 0 || s.pwr.stopped then s
  else
    let s := (s.advanceTo (s.ras.p0At + teWin s)).count Reg.SLK_CNT_TE_MISS
    let s := { s with ras := { s.ras with teDone := true } }
    if s.ras.teMute then s else latchTe s.ras.frame (s.ras.p0At + teWin s + teLead s) true s

/-- Close of the TE window (R80). -/
def execTeWindowClose (s : State) : Host.Outcome State Fault Refusal := done (teClose s)

/-! ### Links at a phase 0 -/

/-- A SEG_CMD without an acknowledgement by the end of blanking: its segment keeps its settings (R71, R216). -/
def dropSegCmds (n : Nat) (s : State) : State :=
  if linkState s n != 6 then s else
  let l := (s.link n).outst.filter (·.ty == 2)
  let s := s.modLink n fun x => { x with outst := x.outst.filter (·.ty != 2) }
  if upAsleep s n then s
  else forEach l (fun p t => (t.count (Reg.SLK_LINK_CNT_ACK_TO n)).modSeg (8 * n + p.sub) fun x => { x with stale := true }) s

/-- Counts per frame start again, the age of an ACTIVE link moves on, and its line starts at phase 0 with the frame's turn of the round
robin (R70). -/
def linkP0 (n : Nat) (s : State) : State :=
  let l := s.link n
  let m := { l with crcErr := 0, naks := 0, resent := [], age := if linkState s n == 6 then min 2 (l.age + 1) else 0 }
  let m := if linkState s n == 6 then { m with rr := s.ras.frame.toNat % 8, lineAt := 3 * s.ras.p0At } else m
  if m = l then s else s.setLink n m

/-- A frame in HOLD has passed; after the last the segment goes to DEFAULT (R84). -/
def holdP0 (g : Nat) (s : State) : State :=
  if segState s g != 3 then s else holdExpired g (holdShow (g / 8) (s.modSeg g fun x => { x with holdLeft := x.holdLeft - 1 }))

/-! ### Shadows that apply (R127, R233, R379) -/

/-- Polders whose captured group differs from the live one. -/
def polChanged (s : State) : List Nat :=
  (List.range 64).filter fun n => (polGroup n).any fun a => match s.crd a with | some v => v != s.lrd a | none => false

/-- Every captured set applies, with the status bits of its block. -/
def applyShadows (s : State) : State :=
  let s := corrMark (applyLayerMarks s)
  let s := when (s.crd Reg.BEAM_PATTERN).isSome (fun t => setRecommit 1 false (t.wb Reg.BEAM_STATUS 5 (recommitted t 1))) s
  let s := if (s.crd (Reg.POL_P_CFG 0)).isSome then
      let l := polChanged s
      let s := setRecommit 3 false (s.wb Reg.POL_STATUS 0 (recommitted s 3))
      forEach l (fun n t => t.modPolder n fun x => { x with run := 0, acted := false, prevSig := none, lastShadow := none }) s
    else s
  holdPolShow (cmpShow (setBlankEff s.applyCaps))

/-! ### Composition -/

/-- Composition of the next frame starts for every segment that is due. -/
def composeP0 (s : State) : State :=
  let s := forEach (List.range 256) (fun g t =>
    let x := t.seg g
    let y := { x with due := segDue t g, composed := false, sent := false, fbDone := false, lateNext := false, signed := false
                      rowsOut := 0, stopped := false }
    if y = x then t else t.setSeg g y) s
  let s := fillLatch s
  { s with pol := { s.pol with ps := s.pol.ps.filterMap fun e =>
      let x : PolSt := { e.2 with checked := false }
      if x = {} then none else some (e.1, x) } }

/-- Completions that waited for this phase 0. -/
def complP0 (s : State) : State :=
  let l := s.mbx.compl
  let s := { s with mbx := { s.mbx with compl := (l.filter fun c => 1 < c.wait).map fun c => { c with wait := c.wait - 1 } } }
  timedCounts (forEach (l.filter fun c => c.wait ≤ 1) (fun c t => respondTo c.ctx St.ok c.part t) s)

/-- Phase 0: a raster enabled takes its first, a running one its next. A reset due by its tick goes first (R38). -/
def phase0 (s : State) : State :=
  let s := when (rasOn s && (s.ras.armed || s.ras.ran)) (afterBy (State.tickOf s.ras.p0Next)) s
  if !(rasOn s) || !(s.ras.armed || s.ras.ran) then s
  else
    let s := renderCutoff (blankingStart s)
    let first := !s.ras.ran
    let s := forEach (List.range 8) (fun c t => if (t.crcCh c).fresh then t.modCrcCh c fun x => { x with fresh := false } else t) s
    let s := when first captureAll s
    let s := rasterP0 s
    if s.pwr.stopped then s
    else
      let s := forEach (List.range 32) dropSegCmds s
      let mute := first || s.pwr.halted
      let s := when (!mute) latchP0 (teBegin mute s)
      let s := forEach (List.range 32) linkP0 s
      let s := forEach (List.range 256) holdP0 s
      let s := fbEnd (fbApply (applyShadows s))
      let s := supLit (healthP0 s)
      let s := supPlan (captureTref (litStep s))
      let s := beamP0 s
      let s := snowApply (corrP0 s)
      let s := forEach (List.range 16) stripDeadline s
      let s := layersP0 s
      let s := forEach (List.range 4) streamTransmit (stripSend s)
      let s := bandsApply s
      let s := stageP0 (powerP0 s)
      let s := composeP0 (showModes s)
      handoverP0 (complP0 s)

/-- Phase 0 (R27): nothing more where the tick has run it already, ahead of a command of a later class. -/
def phase0Event (s : State) : State :=
  if s.ras.ahead == some s.tickNs then { s with ras := { s.ras with ahead := none } } else phase0 s

/-- Phase 0 (R27). -/
def execPhase0 (s : State) : Host.Outcome State Fault Refusal := done (phase0Event s)

/-! ### Order within a tick (R37, R38) -/

/-- A blanking start is due at this tick. -/
def blankDue (s : State) : Bool := rasOn s && s.ras.ran && !s.ras.inBlank && decide (blankAt s ≤ s.tick16)

/-- A render cutoff is due at this tick (R150). -/
def cutDue (s : State) : Bool := rasOn s && s.ras.ran && !s.beam.cutDone && decide (cutoffAt s ≤ s.tick16)

/-- A phase 0 is due at this tick. -/
def p0Due (s : State) : Bool := rasOn s && (s.ras.armed || s.ras.ran) && decide (s.ras.p0Next ≤ s.tick16)

/-- Raster boundaries due at a tick go before its scheduled actions, pins, network messages and host accesses (Table RAS-4); a phase 0 run
here is not run again by its own event in the same tick. Of classes 1 to 4 the sender's order decides (log entry 2). -/
def rasterFirst (s : State) : State :=
  let s := when (cutDue s) renderCutoff (when (blankDue s) blankingStart s)
  if p0Due s then
    let t := phase0 s
    { t with ras := { t.ras with ahead := some t.tickNs } }
  else s

end Sys2Proof.Machine
end

