-- ==== Sys2Proof/Machine/RegAccess.lean ====
section
/-! DEFINITION. What a write into the register space does: the registers whose write sets something going, the banks of the
memory windows, the table bases, and the CAL fields (R7, R101, R125, R354 to R357, R378 to R381, R455). -/
namespace Sys2Proof.Machine

/-- Index of an array register at base `b`, stride `d`, `n` elements. -/
def idxOf (b d n a : Nat) : Option Nat :=
  if decide (b ≤ a) && (a - b) % d == 0 && decide ((a - b) / d < n) then some ((a - b) / d) else none

/-! ### Check-value channels (R354 to R357) -/

/-- A byte of the scan address space (Table CRC-2): registers through their read value. -/
def scanByte (s : State) (a : Nat) : Byte :=
  if winBase ≤ a then
    let o := a - winBase
    BitVec.ofNat 8 ((spaceRead s (o / 4 * 4)).toNat / 256 ^ (o % 4))
  else s.byte a

/-- Bytes of a channel's scan (R355), as they stand at its end (log entry 43). -/
def scanBytes (s : State) (c : Nat) : List Byte :=
  let r := chRange s c
  (List.range r.2.1).map fun i =>
    scanByte s (if r.2.2.1 == 0 then r.1 + i else r.1 + i / r.2.2.1 * r.2.2.2 + i % r.2.2.1)

/-- The user of a scan takes its result; none is INVALID. The first scan of a buffer that its layer has left serves nothing. -/
def scanServe (c : Nat) (user : ScanUser) (v : Option Word) (s : State) : State :=
  match user with
  | .client => completeOps 0x0F02 (fun o => o.lo == c) St.ok
      (leBytes 4 (s.rd (Reg.CRC_CH_RESULT c)).toNat ++ leBytes 1 (if v.isNone then 1 else 0) ++ leBytes 3 0) s
  | .first n f b =>
    if (s.layer n).chkRun == some (c, f, b) then
      let s := s.modLayer n fun x => { x with chk := v, chkRun := none }
      when v.isNone (State.count · (Reg.CMP_LAYER_CNT_CHK_SKIP n)) s
    else s
  | .second n f b r => match v with
    | some w => if w == r then s else (s.count (Reg.CMP_LAYER_CNT_BUF_MOD n)).event 0x0043 4 2 clsLayer n [f, b]
    | none => s.count (Reg.CMP_LAYER_CNT_CHK_SKIP n)
  | .table arg => match v with
    | some w => scanJudge arg w s
    | none => when (arg % 2 == 1) (State.wb · Reg.CORR_STATUS 2 false) s

/-- The scan in progress ends with a value, or INVALID; scans that follow it start, or without EN are skipped. -/
def scanFinish (c : Nat) (ok : Bool) (s : State) : State :=
  let x := s.crcCh c
  let v := BitVec.ofNat 32 (protValue s c (scanBytes s c))
  let s := if ok then
      (s.wr (Reg.CRC_CH_RESULT c) v).wf (Reg.CRC_CH_STATUS c) 0 4 2
    else scanInvalid c s
  let s := s.modCrcCh c fun y => { y with queue := x.queue.drop 1, fresh := false }
  let s := scanServe c x.user (if ok then some v else none) s
  match x.queue with
  | [] => s
  | q :: _ =>
    if chEn s c then scanExtent q.1 c q.2.1 q.2.2 s
    else forEach x.queue (fun e t => scanServe c e.1 none t) (s.modCrcCh c fun y => { y with queue := [] })

/-- End of a scan; `ecc`: an uncorrectable error on a read, and its address (R356, R357). -/
def crcScanEnd (c : Nat) (ecc : Option Nat) (s : State) : State :=
  if !(chBusy s c) then s
  else match ecc with
    | none => scanFinish c true s
    | some a =>
      let r := scanRegion s (chRange s c).1
      scanFinish c false (s.event 0x0013 1 2 clsDevice 0 ([if r == 1 then 1 else if r == 2 then 2 else if r == 3 then 3 else 0, 2, 0, 0] ++ det 4 a))

/-- End of a scan (R356). -/
def execCrcScanEnd (c : Fin 8) (ecc : Option (BitVec 32)) (s : State) : Host.Outcome State Fault Refusal :=
  done (crcScanEnd c.val (ecc.map BitVec.toNat) s)

/-- CRC.CHc_CTRL written (R354, R357, R363): MODE and PRESET are taken while EN is 0; EN is taken when the settings pass. -/
def crcCtrl (c : Nat) (w : Word) (s : State) : State :=
  let old := s.rd (Reg.CRC_CH_CTRL c)
  let en := w.getLsbD 0
  if old.getLsbD 0 then
    let s := when (fld (storedWord ⟨0, [], .rw, 0, 0x3E, 0, 0, []⟩ old w) 1 5 != fld old 1 5) (State.count · Reg.CRC_CNT_CFG_REJ) s
    if en then s
    else
      let s := s.wb (Reg.CRC_CH_CTRL c) 0 false
      attShow (if chBusy s c then scanFinish c false s else s)
  else
    let s := s.swWrite (Reg.CRC_CH_CTRL c) (setFld w 0 1 0)
    if !en then attShow s
    else if chSettingsOk s c then
      let s := ((s.wb (Reg.CRC_CH_CTRL c) 0 true).wf (Reg.CRC_CH_STATUS c) 3 2 0).modCrcCh c fun x => { x with started := false, badRun := 0 }
      attShow s
    else attShow (s.wb (Reg.CRC_CH_STATUS c) 3 true)

/-- CRC.CHc_CTRL (R354). -/
def execCrcChcEn (c : Fin 8) (w : Word) (s : State) : Host.Outcome State Fault Refusal := done (crcCtrl c.val w (rasterFirst s))

/-! ### Table bases (R101) -/

/-- The tables of the table area: base register and bytes. -/
def tableBases : List (Nat × Nat) :=
  [(Reg.CORR_MAP_BASE, 0x400000), (Reg.CORR_CORR_BASE, 0x400000), (Reg.CORR_STAGE_MAP_BASE, 0x400000), (Reg.CORR_STAGE_CORR_BASE, 0x400000),
    (Reg.HLT_MAP_BASE, 0x40000), (Reg.HLT_VF_REF_BASE, 0x201000)]

/-- Bases, in MiB, that keep R101: inside the table area, and no two overlapping; those of the lamp tables are multiples of 4 (R182): any
other is discarded like them (DESIGN CHOICE, log entry 129). -/
def basesOk (l : List (Nat × Nat)) : Bool :=
  l.all (fun e => decide (e.1 * 2 ^ 20 + e.2 ≤ 32 * 2 ^ 20) && (e.2 != 0x400000 || e.1 % 4 == 0)) &&
    (l.zipIdx.all fun e => (l.drop (e.2 + 1)).all fun f =>
      decide (e.1.1 * 2 ^ 20 + e.1.2 ≤ f.1 * 2 ^ 20 ∨ f.1 * 2 ^ 20 + f.2 ≤ e.1.1 * 2 ^ 20))

/-- The bases after a write of register `a`. -/
def basesWith (s : State) (a : Nat) (w : Word) : List (Nat × Nat) :=
  tableBases.map fun e => (if e.1 == a then fld w 0 9 else s.fd e.1 0 9, e.2)

/-- A base register is written, or the write is discarded and counted. -/
def baseWrite (a : Nat) (w : Word) (s : State) : State :=
  if basesOk (basesWith s a w) then s.swWrite a w else s.count Reg.DRAM_CNT_MAP_REJ

/-- Write of a base register of the table area (R101). -/
def execTableBaseWrite (which : Fin 6) (w : Word) (s : State) : Host.Outcome State Fault Refusal :=
  done (baseWrite (tableBases.getD which.val (0, 0)).1 w (rasterFirst s))

/-! ### Windows (R125, R156, R171, R260) -/

/-- Bank `k` selected by bit `b` of a bank register is in use, or a captured set will bring it into use. -/
def bankUsed (s : State) (a b k : Nat) : Bool := s.lf a b 1 == k || (s.crd a).any fun w => fld w b 1 == k

/-- Write of a window word: a bank in use takes no write, and neither the rings of MB7 (R321) nor the route
banks take one from software (log entry 44). -/
def windowWrite (a : Nat) (w : Word) (s : State) : State :=
  let put := s.putLe (winByte a) 4 w.toNat
  match windowOf a with
  | none => s
  | some (b, _, k) =>
    match k with
    | 0 => if 0x30E000 ≤ a then s else put
    | 1 => let i := (a - b) / 0x2000
           if bankUsed s Reg.CMP_LUT_BANK (i / 2) (i % 2) then s.count Reg.CMP_CNT_LUT_LIVE_WR else put
    | 2 => let i := (a - b) / 0x2000
           if bankUsed s Reg.CMP_LUT_BANK (8 + i / 2) (i % 2) then s.count Reg.CMP_CNT_LUT_LIVE_WR else put
    | 3 => if bankUsed s Reg.BEAM_GRID_BANK 0 ((a - b) / 0x2000) then s.count Reg.BEAM_CNT_GRID_LIVE_WR else put
    | 4 => if bankUsed s Reg.CORR_CURVE_BANK 0 ((a - b) / 0x8000) then s.count Reg.CORR_CNT_CURVE_LIVE_WR else put
    | _ => s

/-- Write into a bank window (R125). -/
def execBankWindowWrite (a : BitVec 22) (w : Word) (s : State) : Host.Outcome State Fault Refusal := done (windowWrite (a.toNat * 4) w (rasterFirst s))

/-! ### CAL fields (R381) -/

/-- Units with a field in register `a`. -/
def unitsAt (a : Nat) : List Nat := (List.range 97).filter fun u => (calFields u).any (·.1 == a)

/-- A software write of a CAL register marks its fields USER. -/
def calWrite (a : Nat) (w : Word) (s : State) : State :=
  let s := forEach (unitsAt a) (setCalUser · true) (s.swWrite a w)
  if s.hk.userFields.contains a then s else { s with hk := { s.hk with userFields := s.hk.userFields ++ [a] } }

/-- A register of access code CAL. -/
def isCal (a : Nat) : Bool := match regRow a with | some r => r.access == .cal | none => false

/-- Software write of a CAL field (R381). -/
def execCalFieldWrite (a : BitVec 22) (w : Word) (s : State) : Host.Outcome State Fault Refusal :=
  done (when (isCal (a.toNat * 4)) (calWrite (a.toNat * 4) w) (rasterFirst s))

/-! ### Registers whose write sets something going -/

/-- Store a word, but for the bits of `keep`, which stay. -/
def writeKeep (a keep : Nat) (w : Word) (s : State) : State := s.swWrite a (mergeBits keep w (s.rd a))

/-- Write of a group's control register: with EN at 1 a change of the lanes, or of the direction, first stops the group. -/
def groupCtrl (a : Nat) (en : Bool → State → State) (w : Word) (s : State) : State :=
  let s := if s.bit a 0 && (!(w.getLsbD 0) || fld w 1 31 != fld (s.rd a) 1 31) then en false s else s
  let s := writeKeep a 1 w s
  when (w.getLsbD 0) (en true) s

def wRas (a : Nat) (w : Word) (s : State) : State :=
  if a == Reg.RAS_CTRL then rasEnable (w.getLsbD 0) s
  else if a == Reg.RAS_TIMING_COMMIT then when (w.getLsbD 0) timingCommit s
  else if a == Reg.RAS_PERIOD then periodWritten 0 (s.swWrite a w)
  else if a == Reg.RAS_PERIOD_FRAC then periodWritten 1 (s.swWrite a w)
  else if a == Reg.RAS_SYNC_OUT then syncOutOff (s.swWrite a w)
  else if a == Reg.RAS_EPOCH_NS || a == Reg.RAS_EPOCH_S_LO || a == Reg.RAS_EPOCH_S_HI then
    let s := s.swWrite a w
    { s with ras := { s.ras with epochStaged := true } }
  else match idxOf (Reg.RAS_TACT_CTRL 0) 32 16 a with
    | some n => when (w.getLsbD 1) (tactCancel n) (when (w.getLsbD 0) (tactArm n) s)
    | none => s.swWrite a w

def wSlk (a : Nat) (w : Word) (s : State) : State :=
  if a == Reg.SLK_TE_MASK then teMask w s
  else match idxOf (Reg.SLK_LINK_CTRL 0) 0x80 32 a with
    | some n => when (w.getLsbD 4) (linkRetrain n) (linkEn n (w.getLsbD 0) (writeKeep a 1 w s))
    | none => s.swWrite a w

def wCmp (a : Nat) (w : Word) (s : State) : State :=
  if a == Reg.CMP_GLOBAL_COMMIT then when (w.getLsbD 0) globalCommit s
  else match idxOf (Reg.CMP_LAYER_COMMIT 0) 0x100 8 a with
    | some n => when (w.getLsbD 0) (layerCommit n) s
    | none => s.swWrite a w

/-- LOOKAHEAD of BEAM.CTRL changes by command alone (R5, R349). -/
def wBeam (a : Nat) (w : Word) (s : State) : State :=
  if a == Reg.BEAM_COMMIT then when (w.getLsbD 0) beamCommit s
  else if a == Reg.BEAM_CTRL then beamEn (w.getLsbD 0) (writeKeep a 3 w s)
  else s.swWrite a w

def wSup (a : Nat) (w : Word) (s : State) : State :=
  if a == Reg.SUP_RESTART then when (w.getLsbD 0) supRestart s
  else if a == Reg.SUP_CTRL then supEnable (w.getLsbD 0) (writeKeep a 1 w s)
  else if a == Reg.SUP_PHASE_EN then supPhaseEn w s
  else if a == Reg.SUP_VLED_MIN || a == Reg.SUP_VLED_MAX then vsetShow (s.swWrite a w)
  else s.swWrite a w

def wPol (a : Nat) (w : Word) (s : State) : State :=
  if a == Reg.POL_COMMIT then when (w.getLsbD 0) polCommit s
  else if a == Reg.POL_FB_CTRL then
    let s := if w.getLsbD 0 then (if clearRefused s then s.count Reg.POL_CNT_CLEAR_REJ else fbClear s) else s
    when (w.getLsbD 1) (fbRaise 6 0 (fld w 2 2)) s
  else s.swWrite a w

def wPtp (a : Nat) (w : Word) (s : State) : State :=
  if a == Reg.PTP_SET_CTRL then when (w.getLsbD 1) timeStep (when (w.getLsbD 0) timeLoad s)
  else if a == Reg.PTP_SERVO_OFFSET_NS then servoOffset w s
  else if a == Reg.PTP_CTRL then servoEnable (s.swWrite a w)
  else match idxOf (Reg.PTP_TT_CTRL 0) 0x40 4 a, idxOf (Reg.PTP_TC_POP 0) 0x20 4 a with
    | some n, _ => when (w.getLsbD 1) (ttCancel n) (when (w.getLsbD 0) (ttArm n) s)
    | _, some n => when (w.getLsbD 0) (tcPop n) s
    | _, _ => s.swWrite a w

/-- SDS.LANEl_PWR: EIDLE_REQ, with EIDLE, asks for the fallback or leaves it (R308); TX_SLEEP wakes the transmitter, or lets it sleep on a
receiving stream (R307). -/
def lanePwr (l : Nat) (w : Word) (s : State) : State :=
  let a := Reg.SDS_LANE_PWR l
  let was := eidleAsked s l
  let s := eidleTurn was l (s.swWrite a w)
  match grpOf s l with
  | some g =>
    if g < 4 && grpActive s g && !(strTx s g) then txSleep l (maySleep s l) s
    else when (!(maySleep s l)) (txSleep l false) s
  | none => s

def wSds (a : Nat) (w : Word) (s : State) : State :=
  match idxOf (Reg.SDS_STR_CTRL 0) (Reg.SDS_STR_CTRL 1 - Reg.SDS_STR_CTRL 0) 4 a, idxOf (Reg.SDS_Q_CFG 0) (Reg.SDS_Q_CFG 1 - Reg.SDS_Q_CFG 0) 6 a,
      (List.range 24).find? (fun l => a == Reg.SDS_LANE_CTRL l || a == Reg.SDS_LANE_PWR l || a == Reg.SDS_LANE_RESTART l) with
  | some n, _, _ => groupCtrl a (streamEn n) w s
  | _, some q, _ => quadCfg q w s
  | _, _, some l =>
    if a == Reg.SDS_LANE_CTRL l then laneCtrl l w s
    else if a == Reg.SDS_LANE_PWR l then lanePwr l w s
    else when (w.getLsbD 0) (laneRestart l) s
  | _, _, _ => s.swWrite a w

def wFab (a : Nat) (w : Word) (s : State) : State :=
  if a == Reg.FAB_CTRL then fabEnable (w.getLsbD 0) (writeKeep a 1 w s)
  else match (List.range 4).find? (fun p => a == Reg.FAB_P_CTRL p), (List.range 16).find? (fun n => a == Reg.FAB_SUB_CFG n) with
    | some p, _ => groupCtrl a (fabPortEn p) w s
    | _, some n => subCfg n w s
    | _, _ => s.swWrite a w

def wNet (a : Nat) (w : Word) (s : State) : State :=
  match (List.range 2).find? (fun m => a == Reg.CAN_CTRL m || a == Reg.CAN_RESTART m || a == Reg.MAC_CTRL m) with
  | some m =>
    if a == Reg.CAN_RESTART m then when (w.getLsbD 0) (canBack m) s
    else if a == Reg.CAN_CTRL m then canCtrl (s.swWrite a w)
    else macCtrl m w s
  | none =>
    match (List.range 128).find? fun i => a == Reg.CAN_MB_CFG (i / 64) (i % 64) with
    | some i => canBufCfg (i / 64) (i % 64) w s
    | none => s.swWrite a w

def wCrc (a : Nat) (w : Word) (s : State) : State :=
  let c := (a - Reg.CRC_CH_CTRL 0) / 0x80
  let o := (a - Reg.CRC_CH_CTRL 0) % 0x80
  if a < Reg.CRC_CH_CTRL 0 then s.swWrite a w
  else if o == 0 then crcCtrl c w s
  else if o == 0x30 then when (w.getLsbD 0) (chStart c) s
  else if 4 ≤ o && o ≤ 0x2C && chEn s c then s.count Reg.CRC_CNT_CFG_REJ
  else s.swWrite a w

/-- A mailbox register. MB7 cannot be reached from outside, so raw writes of its sluices reach nothing (R321). -/
def wMbx (a : Nat) (w : Word) (s : State) : State :=
  match idxOf (Reg.MBX_MB_IN_SLUICE 0) 0x40 8 a, idxOf (Reg.MBX_MB_OUT_SLUICE 0) 0x40 8 a with
  | some n, _ => if n == 7 then s else inSluice n w s
  | _, some n => if n == 7 then s else outSluice n w s
  | _, _ => s.swWrite a w

/-- A pool register is written: with a surface, or with a pool outside its bounds, the write is discarded (R100). -/
def poolWrite (a : Nat) (w : Word) (s : State) : State :=
  let t := s.swWrite a w
  let b := t.fd Reg.DRAM_SURF_POOL_BASE 0 13
  let n := t.fd Reg.DRAM_SURF_POOL_SIZE 0 13
  if (List.range 64).any (surfValid s) || b < 512 || n < 64 || dramBytes / 2 ^ 20 < b + n then s else t

/-- A register of the block DRAM; what shows the pool follows (R112). -/
def wDram (a : Nat) (w : Word) (s : State) : State :=
  poolShow (if a == Reg.DRAM_SURF_POOL_BASE || a == Reg.DRAM_SURF_POOL_SIZE then poolWrite a w s else s.swWrite a w)

/-- A word written to a register of the space (R378). -/
def regWrite (a : Nat) (w : Word) (s : State) : State :=
  if isCal a then calWrite a w s
  else match a / 0x10000 with
    | 0x04 => wSup a w s
    | 0x05 => wRas a w s
    | 0x06 => wCmp a w s
    | 0x07 => wBeam a w s
    | 0x08 => if a == Reg.CORR_COMMIT then when (w.getLsbD 0) corrCommit s
              else if tableBases.any (·.1 == a) then baseWrite a w s else s.swWrite a w
    | 0x09 => if tableBases.any (·.1 == a) then baseWrite a w s else s.swWrite a w
    | 0x0A => wPol a w s
    | 0x12 => wSlk a w s
    | 0x13 => wSlk a w s
    | 0x14 => wSds a w s
    | 0x15 => wSds a w s
    | 0x16 => wFab a w s
    | 0x18 => wNet a w s
    | 0x19 => wNet a w s
    | 0x1A => wPtp a w s
    | 0x1B => wNet a w s
    | 0x1C => wNet a w s
    | 0x1D => wCrc a w s
    | 0x1E => wMbx a w s
    | 0x1F => wDram a w s
    | _ => s.swWrite a w

/-- A word written to the space: a window word, or a register. -/
def applyWord (a : Nat) (w : Word) (s : State) : State :=
  if (windowOf a).isSome then windowWrite a w s else regWrite a w s

/-- The write would change BEAM.CTRL.LOOKAHEAD (R5). -/
def movesLookahead (s : State) (a : Nat) (w : Word) : Bool := a == Reg.BEAM_CTRL && w.getLsbD 1 != s.bit Reg.BEAM_CTRL 1

/-- REG_OVERRIDE of an address. -/
def overrideEvent (a : Nat) (s : State) : State := s.event 0x0002 18 1 clsDevice 0 (det 4 a)

/-- A raw write of a register: one that would change LOOKAHEAD, or a firmware-owned field without OVERRIDE, is refused (R376). -/
def registerWrite (a : Nat) (w : Word) (s : State) : State :=
  if (regRow a).isNone || movesLookahead s a w || (changesOwned s a w && !(s.bit Reg.TOP_HOST_CFG 0)) then s
  else when (changesOwned s a w) (overrideEvent a) (regWrite a w s)

/-- Register write (R376, R378). -/
def execRegisterWrite (a : BitVec 22) (w : Word) (s : State) : Host.Outcome State Fault Refusal :=
  done (registerWrite (a.toNat * 4) w (rasterFirst s))

/-! ### Time actions (R40) -/

/-- The instant of a time action has come: its data is written, late when its time had passed at the arming or in a step of time; it fails
when the target block is off, or at an address that takes no write (log entry 45). None runs while the device sleeps (R425). -/
def tactDue (n : Nat) (s : State) : State :=
  match (if 2 ≤ s.pwr.state then none else sget (fun _ => none) s.ras.tact n) with
  | none => s
  | some (t, a, v, late) =>
    let s := rasterFirst (s.advanceTo (ns16 (Int.ofNat (late.getD t))))
    if (sget (fun _ => none) s.ras.tact n).isNone then s else
    let w := BitVec.ofNat 32 v
    let bad := !(mapped a) || (liveOf a).isSome || (match windowOf a with | some (_, _, k) => k == 6 | none => false) || areaOff s a ||
      movesLookahead s a w
    let s := { s with ras := { s.ras with tact := sput (fun _ => none) s.ras.tact n none } }
    if bad then setTactState n 4 s
    else applyWord a w (if late.isSome then (setTactState n 3 s).count Reg.RAS_CNT_TACT_LATE else setTactState n 2 s)

/-- A time action is due (R40). -/
def execTimeActionDue (n : Fin 16) (s : State) : Host.Outcome State Fault Refusal := done (tactDue n.val s)

end Sys2Proof.Machine
end

