-- ==== Sys2Proof/Machine/HostPort.lean ====
section
/-! DEFINITION. The host port (R365 to R377): frames that read, frames that post writes, and the status byte. Fill bytes and high
impedance are not recorded (log entry 46). -/
namespace Sys2Proof.Machine

/-- The port answers: not in reset, not in OFF, and not without the supply VIOA of its balls (R373, R440). -/
def hostAnswers (s : State) : Bool := !(bankOff s 0)

/-- The status byte (Table HOST-3). -/
def hostStatusByte (s : State) : Byte :=
  BitVec.ofNat 8 (b2n (!s.host.frames.isEmpty) + 2 * b2n (!(ballLevels s).hintN) + 16 * s.host.code)

/-- The level of raw access is not PL0 (R370). -/
def hostLow (s : State) : Bool := s.fd (Reg.MBX_MB_CFG 0) 0 2 != 0

/-- An address of the snowpack's window, and one of the register block MBX. -/
def inSnowWindow (a : Nat) : Bool := match windowOf a with | some (_, _, k) => k == 6 | none => false
def inMbxBlock (a : Nat) : Bool := a / 0x10000 == 0x1E

/-- Code that ends an access at `a` of a frame that began at `first` (Table HOST-4); 0: none. -/
def hostFault (s : State) (first a : Nat) (write : Bool) : Nat :=
  if a % 4 != 0 then 3
  else if !(mapped a) || !(sameArea first a) then 2
  else if inSnowWindow a && (write || hostLow s) then 4
  else if write && inMbxBlock a && hostLow s then 4
  else if areaOff s a then 0xD
  else 0

/-- A frame ends with an error code. -/
def hostCount (code : Nat) (s : State) : State :=
  when (code == 0xE) (State.count · Reg.TOP_CNT_HOST_TIMEOUT) (s.count Reg.TOP_CNT_HOST_ERR)

/-- A write frame ends: CODE, and for an error the address of the failing word, the opcode and the words applied (R377). -/
def hostEnd (f : HFrame) (code : Nat) (s : State) : State :=
  let s := { s with host := { s.host with code := code } }
  if code == 0 then s
  else
    hostCount code ((s.wr Reg.TOP_HOST_ERR_ADDR (BitVec.ofNat 32 ((f.addr + 4 * f.applied) % 2 ^ 24))).wr Reg.TOP_HOST_ERR_INFO
      (BitVec.ofNat 32 (code + f.opcode * 2 ^ 8 + f.applied * 2 ^ 16)))

/-! ### Posted words (R374, R376) -/

/-- Code of a word to be written; 0: it is applied. -/
def hostWordCode (s : State) (f : HFrame) (a : Nat) (w : Word) : Nat :=
  let c := hostFault s f.addr a true
  if c != 0 then c
  else if movesLookahead s a w || (changesOwned s a w && !(s.bit Reg.TOP_HOST_CFG 0)) then 7
  else 0

/-- The oldest frame goes, with a code. -/
def hostDrop (code : Nat) (s : State) : State :=
  match s.host.frames with
  | [] => s
  | f :: rest => hostEnd f code { s with host := { s.host with frames := rest } }

/-- The next posted word takes effect, or it and the rest of its frame are discarded. -/
def hostApply (s : State) : State :=
  match s.host.frames with
  | [] => s
  | f :: rest =>
    let a := f.addr + 4 * f.applied
    let w := f.words.getD f.applied 0
    let code := hostWordCode s f a w
    if code != 0 then hostDrop code s
    else
      let s := applyWord a w (when (changesOwned s a w) (overrideEvent a) s)
      let f := { f with applied := f.applied + 1 }
      let s := { s with host := { s.host with frames := f :: rest } }
      if f.words.length ≤ f.applied then hostDrop 0 s else s

/-- A posted word reaches its block (R374). -/
def execHostWriteApply (s : State) : Host.Outcome State Fault Refusal := done (hostApply (rasterFirst s))

/-- A posted word cannot start within 128 µs (R374). -/
def execHostWriteTimeout (s : State) : Host.Outcome State Fault Refusal := done (hostDrop 0xE s)

/-- Words posted and not yet applied. -/
def hostPosted (s : State) : Nat := s.host.frames.foldl (fun a f => a + (f.words.length - f.applied)) 0

/-- Every posted word is applied or discarded. -/
def hostDrain : Nat → State → State
  | 0, s => s
  | n + 1, s => if s.host.frames.isEmpty then s else hostDrain n (hostApply s)

/-! ### Frames -/

/-- A frame: the status byte goes out with its opcode, `f` answers, and its chip-select can wake the device from FROST (R373). -/
def hostFrame (f : Byte → State → State) (s : State) : State :=
  if hostAnswers s then wakeBy 3 (f (hostStatusByte s) s) else s

/-- Words of a read from `a`, up to `n`, until one fails; `ecc`: the word whose read meets an uncorrectable error. -/
def hostWords (s : State) (first : Nat) (ecc : Option Nat) : Nat → Nat → List Byte × Nat
  | 0, _ => ([], 0)
  | n + 1, i =>
    let a := first + 4 * i
    let c := hostFault s first a false
    let c := if c == 0 && ecc == some i then 8 else c
    if c != 0 then ([0x3C, BitVec.ofNat 8 c], c)
    else
      let r := hostWords s first ecc n (i + 1)
      (0xC3 :: leBytes 4 (spaceRead s a).toNat ++ r.1, r.2)

/-- A read of `n` words from `a` reaches PTP.TIME_NS, no word before it failing (R279). -/
def hostReadsTime (s : State) (a n : Nat) (ecc : Option Nat) : Bool :=
  decide (a ≤ Reg.PTP_TIME_NS ∧ Reg.PTP_TIME_NS < a + 4 * n) && (hostWords s a ecc ((Reg.PTP_TIME_NS - a) / 4 + 1) 0).2 == 0

/-- A read frame of up to `n` words (R371, R372): it waits for the writes accepted before it. -/
def hostRead (a : Option (BitVec 24)) (n : Nat) (ecc : Option Nat) : State → State :=
  hostFrame fun b s =>
    match a with
    | none => s.emit (.host [b])
    | some a =>
      let a := a.toNat
      let s := hostDrain (hostPosted s) s
      let s := when (hostReadsTime s a n ecc) latchTime s
      let r := hostWords s a ecc n 0
      when (r.2 != 0) (hostCount r.2) (s.emit (.host (b :: r.1)))

/-- READ32; without an address the frame ended early (R367). -/
def execHostRead32 (addr : Option (BitVec 24)) (ecc : Bool) (s : State) : Host.Outcome State Fault Refusal :=
  done (hostRead addr 1 (if ecc then some 0 else none) (rasterFirst s))

/-- READ_BURST of `n` words, at most 256. -/
def execHostReadBurst (addr : Option (BitVec 24)) (n : Nat) (ecc : Option Nat) (s : State) : Host.Outcome State Fault Refusal :=
  done (hostRead addr (min n 256) ecc (rasterFirst s))

/-- A read word is not ready within 128 µs (R372). -/
def execHostReadTimeout (s : State) : Host.Outcome State Fault Refusal :=
  done (hostFrame (fun b s => hostCount 0xE (s.emit (.host [b, 0x3C, 0x0E]))) s)

/-- Little-endian words of a data phase. -/
def hostData (d : List Byte) : List Word := (List.range (d.length / 4)).map fun i => BitVec.ofNat 32 (leAt d (4 * i) 4)

/-- A write frame at the rise of HCS_N (R367, R375). -/
def hostWrite (op mx : Nat) (a : Option (BitVec 24)) (d : List Byte) : State → State :=
  hostFrame fun b s =>
    let s := s.emit (.host [b])
    match a with
    | none => s
    | some a =>
      let f : HFrame := { opcode := op, addr := a.toNat, words := hostData d }
      if d.length % 4 != 0 || d.isEmpty || decide (mx < f.words.length) then hostEnd f 6 s
      else if decide (256 < hostPosted s + f.words.length) then hostEnd f 5 s
      else { s with host := { s.host with frames := s.host.frames ++ [f] } }

/-- WRITE32. -/
def execHostWrite32 (addr : Option (BitVec 24)) (data : List Byte) (s : State) : Host.Outcome State Fault Refusal :=
  done (hostWrite 0x20 1 addr data s)

/-- WRITE_BURST. -/
def execHostWriteBurst (addr : Option (BitVec 24)) (data : List Byte) (s : State) : Host.Outcome State Fault Refusal :=
  done (hostWrite 0x21 256 addr data s)

/-- STATUS: the status byte in the opcode phase and in every byte time after it (R368). -/
def execHostStatus (n : Nat) (s : State) : Host.Outcome State Fault Refusal :=
  done (hostFrame (fun b s => s.emit (.host (List.replicate (n + 1) b))) s)

/-- Opcodes of Table HOST-1. -/
def hostOpcodes : List Nat := [0x10, 0x11, 0x20, 0x21, 0x30]

/-- An opcode is checked (R367): an unknown one gives BAD_OPCODE. -/
def hostOpcode (op : Nat) : State → State :=
  hostFrame fun b s =>
    let s := s.emit (.host [b])
    if hostOpcodes.contains op then s else hostCount 1 { s with host := { s.host with code := 1 } }

/-- A frame with an unknown opcode (R367). -/
def execBadOpcode (op : Byte) (s : State) : Host.Outcome State Fault Refusal := done (hostOpcode op.toNat s)

end Sys2Proof.Machine
end

