-- ==== Sys2Proof/Machine/Mram.lean ====
section
/-! DEFINITION. MRAM records (R186, R201, R335, R401, R408) and uncorrectable memory errors (R134, R203). -/
namespace Sys2Proof.Machine

/-- CAL registers (R381). -/
def calRegs : List Nat :=
  (List.range 32).map Reg.SLK_LINK_DELAY ++ (List.range 32).map Reg.SLK_LINK_LAUNCH ++ (List.range 32).map Reg.SLK_LINK_RXCAL ++
    (List.range 8).map Reg.HK_CAL_DRAM ++ (List.range 24).map Reg.SDS_LANE_RXCAL ++ [Reg.HK_CAL_HKCMP]

/-- The copies of HEALTH_SAVE are committed: VF references and failure map, as the command asked (R197, R201). -/
def healthSaved (s : State) : State :=
  match s.mbx.ops.find? (·.ctx.code == 0x0704) with
  | none => s
  | some o =>
    let m := o.d.headD 0
    let put (dst crc : Nat) (b : List Byte) (u : State) : State := (u.putBytes dst b).putLe crc 4 (crc32c b)
    let s := when (m.testBit 0) (put savedVf savedVfCrc (s.bytes (vfBase s) vfBytes)) s
    let s := when (m.testBit 1) (put savedMap savedMapCrc ((List.range mapBytes).map (mapByte s))) s
    completeOp o St.ok [] s

/-- The copy of CAL_SAVE is committed (R408). -/
def calSaved (s : State) : State :=
  match s.mbx.ops.find? (·.ctx.code == 0x0E03) with
  | none => s
  | some o => completeOp o St.ok [] { s with hk := { s.hk with saved := some (calRegs.map fun a => (a, s.rd a)) } }

/-- An MRAM record's commit word is written: 0 a health save, 1 the next record of a table save, 2 a calibration save, 3 the event log.
No record is committed after the orderly stop. -/
def mramCommit (rec : Nat) (s : State) : State :=
  if s.pwr.stopDone || s.pwr.inReset then s
  else match rec with
    | 0 => healthSaved s
    | 1 => saveNext s
    | 2 => calSaved s
    | _ => { s with mbx := { s.mbx with logSaved := s.mbx.log } }

/-- An MRAM record is committed (R401). -/
def execMramRecordCommit (rec : Fin 4) (s : State) : Host.Outcome State Fault Refusal := done (mramCommit rec.val s)

/-! ### Uncorrectable errors (Table HLT-2) -/

/-- The live lamp table and segment that hold a DRAM byte: 0 map, 1 correction. -/
def tableAt (s : State) (a : Nat) : Option (Nat × Nat) :=
  let hit (t : Nat) : Option (Nat × Nat) :=
    let b := liveAt s t 0
    if decide (b ≤ a ∧ a < b + 256 * tableBytes) then some (t, (a - b) / tableBytes) else none
  match hit 0 with | some r => some r | none => hit 1

/-- What an uncorrectable DRAM error does: a lamp table fails (`hit`: its kind and segment), and is loaded again when AUTO_RELOAD asks for
it; a read of layer data underruns the rest of its segment row (layer, segment, row, column of the lamp that needs it). -/
def dramFail (hit : Option (Nat × Nat)) (lamp : Option (Nat × Nat × Nat × Nat)) (s : State) : State :=
  match hit with
  | some (t, g) =>
    when (s.bit Reg.CORR_CTRL 3) (applyAccept { lo := g, hi := g, tables := t + 1, source := 1 }) (tableFailed t g s)
  | none => match lamp with
    | some (n, g, r, c) => fetchUnderrun n g r c s
    | none => s

/-- An uncorrectable DRAM error at `a`. -/
def dramEcc (a : Nat) (lamp : Option (Nat × Nat × Nat × Nat)) (s : State) : State :=
  let s := s.event 0x0013 1 2 clsDevice 0 ([1, 2, 0, 0] ++ det 4 a)
  dramFail (tableAt s a) lamp s

/-- Uncorrectable DRAM read error (R203). -/
def execDramEccError (addr : Nat) (lamp : Option (Fin 8 × Fin 256 × Fin 4096 × Fin 4096)) (s : State) : Host.Outcome State Fault Refusal :=
  done (dramEcc addr (lamp.map fun e => (e.1.val, e.2.1.val, e.2.2.1.val, e.2.2.2.val)) s)

/-- An uncorrectable error of internal SRAM raises the fallback reaction, cause 5; it names no slot of its own (log entry 30). -/
def sramEcc (a : Nat) (s : State) : State :=
  fbRaise 5 0 (defaultSlot s) (s.event 0x0013 1 2 clsDevice 0 ([0, 2, 0, 0] ++ det 4 a))

/-- Uncorrectable internal SRAM error (R203). -/
def execSramEccError (addr : BitVec 32) (s : State) : Host.Outcome State Fault Refusal := done (sramEcc addr.toNat s)

end Sys2Proof.Machine
end

