-- ==== Sys2Proof/Machine/CmdBase.lean ====
section
/-! DEFINITION. The register-set payload of Table CMD-2 and what every command that carries it checks (R342, R455). -/
namespace Sys2Proof.Machine

/-- The registers a register set selects, by offset within the group, with their words. -/
def setOffsets (c : Ctx) : List (Nat × Word) :=
  (((List.range 32).filter fun m => (arg c 4 4).testBit m).zipIdx).map fun e =>
    (arg c 0 2 + 4 * e.1, BitVec.ofNat 32 (arg c (8 + 4 * e.2) 4))

/-- The COMMIT bit of CTRL. -/
def setCommits (c : Ctx) : Bool := arg c 2 1 % 2 == 1

/-- The word a register would hold with `w` written, reserved values as they are. -/
def mergedWord (s : State) (a : Nat) (w : Word) : Word :=
  match regRow a with
  | some r => mergeBits r.wmask (s.rd a) w
  | none => w

/-- A selected field would hold a reserved value (R455). -/
def reservedWord (s : State) (a : Nat) (w : Word) : Bool :=
  match regRow a with
  | some r => (r.access == .rw || r.access == .rws || r.access == .cal) && r.rules.foldl fixField (mergedWord s a w) != mergedWord s a w
  | none => true

/-- The registers as they would read with the set written. -/
def setView (s : State) (l : List (Nat × Word)) (a : Nat) : Word :=
  match l.find? (·.1 == a) with
  | some e => mergedWord s a e.2
  | none => s.rd a

/-- A register with a shadow. -/
def isShadowed (a : Nat) : Bool := match regRow a with | some r => r.access == .rws | none => false

/-- A register-set command on the groups at `bases`: how its service refuses, how it writes, the offsets its row accepts, the checks of
its service (a status), its commit bit. The whole command is refused, or everything is written. -/
def regSetWith (deny : Nat → List (Nat × Word) → State → State) (write : List (Nat × Word) → State → State) (c : Ctx) (bases : List Nat)
    (accepts : Nat → Bool) (check : State → List (Nat × Word) → Nat) (commit : Option (State → State)) (s : State) : State :=
  let sel := setOffsets c
  let l := bases.flatMap fun b => sel.map fun e => (b + e.1, e.2)
  need (if c.m.payload.length < 8 then 8 else 8 + 4 * sel.length) c (fun s =>
    if sel.any (fun e => !(accepts e.1)) || l.any (fun e => reservedWord s e.1 e.2) then refuse c St.range s
    else if check s l != St.ok then deny (check s l) l s
    else
      let commits := setCommits c && commit.isSome
      let t := write l s
      let t := when commits (commit.getD id) t
      reply c St.ok (if commits || l.any (fun e => isShadowed e.1) then framePart t else []) t) s

/-- Words written one after the other. -/
def writeWords (l : List (Nat × Word)) (s : State) : State := forEach l (fun e t => applyWord e.1 e.2 t) s

/-- A register-set command whose service refuses with a status alone, and which writes in address order. -/
def regSet (c : Ctx) (bases : List Nat) (accepts : Nat → Bool) (check : State → List (Nat × Word) → Nat)
    (commit : Option (State → State)) (s : State) : State :=
  regSetWith (fun st _ t => refuse c st t) writeWords c bases accepts check commit s

/-- A service with no check of its own. -/
def noCheck (_ : State) (_ : List (Nat × Word)) : Nat := St.ok

/-- A fault of a set as its status: a reserved value is RANGE, everything else STATE (R128, R160). -/
def faultStatus (f : Nat) : Nat := if f == 0 then St.ok else if f == 1 then St.range else St.state

/-- Words of registers as a read returns them. -/
def regWords (s : State) (l : List Nat) : List Byte := wordBytes (l.map (regRead s))

/-- Registers from `a` to `b`, in words. -/
def regSpan (a b : Nat) : List Nat := ((List.range ((b - a) / 4 + 1)).map fun i => a + 4 * i).filter fun x => (regRow x).isSome || (liveOf x).isSome

/-- An answer that changes nothing else. -/
def readBack (c : Ctx) (part : List Byte) (s : State) : State := respondTo c St.ok part s

end Sys2Proof.Machine
end

