-- ==== Sys2Proof/Machine/CmdSys.lean ====
section
/-! DEFINITION. Commands of classes SYS, PWR and RAS (Table CMD-4). -/
namespace Sys2Proof.Machine

/-- SYS_INFO. -/
def bodySysInfo (c : Ctx) (s : State) : State :=
  readBack c (leBytes 1 (Config.gradeM1.val + 1) ++ [0] ++ leBytes 2 s.ownFid ++ leBytes 8 (ownUid s) ++
    regWords s [Reg.FW_VERSION, Reg.FW_IF_REV] ++ leBytes 4 (dramBytes / 2 ^ 20)) s

/-- SYS_STATUS. -/
def bodySysStatus (c : Ctx) (s : State) : State :=
  readBack c (regWords s [Reg.HLT_FAULTS, Reg.RAS_STATUS] ++ leBytes 1 s.pwr.state ++ leBytes 3 0 ++ regWords s [Reg.POL_FB_STATUS]) s

/-- What follows 1 ms after the response. -/
def followUp (kind cause : Nat) (s : State) : State :=
  modPwr (fun p => { p with after := some (kind, cause, s.tickNs + 1000000) }) s

/-- SYS_RESET: cause 5 over the fabric, 4 elsewhere (Table PWR-7). -/
def bodySysReset (c : Ctx) (s : State) : State :=
  need 1 c (fun s =>
    if 1 < arg c 0 1 then refuse c St.range s
    else followUp (arg c 0 1) (if c.m.mb == 5 then 5 else 4) (respondTo c St.ok [] s)) s

/-- Rules a SYS_PROTECT names, with the places of their words. -/
def protectRules (c : Ctx) : List (Nat × Nat) := ((List.range 16).filter fun r => (arg c 0 2).testBit r).zipIdx.map fun e => (e.1, 8 + 8 * e.2)

/-- SYS_PROTECT (R334). -/
def bodySysProtect (c : Ctx) (s : State) : State :=
  need 8 c (fun s => need (8 + 8 * (protectRules c).length) c (fun s =>
    let mask := arg c 2 1
    let level (n : Nat) : Nat := arg c 4 2 / 4 ^ n % 4
    if mask.testBit 7 && level 7 != 0 then refuse c St.range s
    else
      let s := forEach (protectRules c) (fun e t =>
        (t.swWrite (Reg.MBX_RULE_MATCH e.1) (BitVec.ofNat 32 (arg c e.2 4))).swWrite (Reg.MBX_RULE_INDEX e.1) (BitVec.ofNat 32 (arg c (e.2 + 4) 4))) s
      respondTo c St.ok [] (forEach ((List.range 8).filter fun n => mask.testBit n) (fun n t => t.wf (Reg.MBX_MB_CFG n) 0 2 (level n)) s)) s) s

/-- SYS_MBX_CFG. -/
def bodySysMbxCfg (c : Ctx) (s : State) : State :=
  need 8 c (fun s =>
    let en := arg c 0 1 % 2
    if en == 0 && (objects c).contains 7 then refuse c St.range s
    else respondTo c St.ok [] (forEach (objects c) (fun n t =>
      ((t.wf (Reg.MBX_MB_CFG n) 2 1 en).wf (Reg.MBX_MB_CFG n) 3 2 (arg c 0 1 / 2)).swWrite (Reg.MBX_MB_EVT_MASK n) (BitVec.ofNat 32 (arg c 4 4))) s)) s

/-- Alive state of every client of mailbox `n` is forgotten (R326). -/
def aliveReset (n : Nat) (s : State) : State :=
  { s with mbx := { s.mbx with
      alive := s.mbx.alive.filter fun e => e.1 % 8 != n
      mb4 := if n == 4 then [] else s.mbx.mb4 } }

/-- SYS_ALIVE_RESET (R326). -/
def bodySysAliveReset (c : Ctx) (s : State) : State := respondTo c St.ok [] (forEach (objects c) aliveReset s)

/-- PWR_GET. -/
def bodyPwrGet (c : Ctx) (s : State) : State :=
  readBack c (leBytes 1 s.pwr.state ++ leBytes 1 (s.fd Reg.PMU_WAKE_SRC 0 4) ++ leBytes 1 (b2n s.pins.held.isSome)) s

/-- PWR_OFF: OFF follows 1 ms after the response. -/
def bodyPwrOff (c : Ctx) (s : State) : State := followUp 2 0 (respondTo c St.ok [] s)

/-- RAS_GET: the period in force. -/
def bodyRasGet (c : Ctx) (s : State) : State :=
  readBack c (regWords s [Reg.RAS_STATUS, Reg.RAS_FRAME, Reg.RAS_PHASE] ++ leBytes 4 (s.lrd Reg.RAS_PERIOD).toNat ++
    leBytes 2 (s.lf Reg.RAS_PERIOD_FRAC 0 16) ++ leBytes 2 0 ++ regWords s [Reg.RAS_BLANK_EFF]) s

/-- EN of a layer with its pending or captured set taken as applied (R46). -/
def layerWillBe (s : State) (n : Nat) : Bool :=
  if s.bit (Reg.CMP_LAYER_STATUS n) 1 then s.fd (Reg.CMP_LAYER_CTRL n) 0 1 == 1 else (capEn s n).getD (layEn s n)

/-- RAS_TIMING (R46, R47): the period is checked before it is staged. -/
def bodyRasTiming (c : Ctx) (s : State) : State :=
  need 12 c (fun s =>
    let p := arg c 0 4 * 65536 + arg c 4 2
    let src := arg c 6 1
    if (1 < src && src != 0xFF) || 1 < arg c 7 1 || 2 ^ 24 ≤ arg c 8 4 || !(periodInRange p) then refuse c St.range s
    else if !(layerFit p ((List.range 8).filter (layerWillBe s)).length) then refuse c St.state s
    else
      let s := wRas Reg.RAS_PERIOD_FRAC (BitVec.ofNat 32 (arg c 4 2)) (wRas Reg.RAS_PERIOD (BitVec.ofNat 32 (arg c 0 4)) s)
      let s := when (src != 0xFF) (State.wf · Reg.RAS_SOURCE 0 2 src) s
      let s := s.wf Reg.RAS_SOURCE 2 1 (arg c 7 1)
      let s := when (arg c 8 4 != 0) (State.wr · Reg.RAS_BLANK_START (BitVec.ofNat 32 (arg c 8 4))) s
      let s := timingCommit s
      reply c St.ok (framePart s) s) s

/-- RAS_EPOCH: a total of device ns as seconds and nanoseconds (R22, R278). -/
def bodyRasEpoch (c : Ctx) (s : State) : State :=
  need 8 c (fun s =>
    let t := arg c 0 8
    let sec := t / 1000000000
    let s := wRas Reg.RAS_EPOCH_NS (BitVec.ofNat 32 (t % 1000000000)) s
    let s := wRas Reg.RAS_EPOCH_S_HI (BitVec.ofNat 32 (sec / 2 ^ 32)) (wRas Reg.RAS_EPOCH_S_LO (BitVec.ofNat 32 sec) s)
    let s := timingCommit s
    reply c St.ok (framePart s) s) s

/-- RAS_ENABLE (R43). -/
def bodyRasEnable (c : Ctx) (s : State) : State :=
  need 1 c (fun s => if 1 < arg c 0 1 then refuse c St.range s else respondTo c St.ok [] (rasEnable (arg c 0 1 == 1) s)) s

/-- RAS_SYNC_CFG. -/
def bodyRasSyncCfg (c : Ctx) (s : State) : State := regSet c [Reg.RAS_CTRL] (fun o => decide (0x60 ≤ o ∧ o ≤ 0x70)) noCheck none s

/-- SYS_INFO (R346). -/
def execSysInfo (m : Msg) (s : State) : Host.Outcome State Fault Refusal := done (serve 0x0100 bodySysInfo m (rasterFirst s))
/-- SYS_STATUS (R346). -/
def execSysStatus (m : Msg) (s : State) : Host.Outcome State Fault Refusal := done (serve 0x0101 bodySysStatus m (rasterFirst s))
/-- SYS_RESET (R346). -/
def execSysReset (m : Msg) (s : State) : Host.Outcome State Fault Refusal := done (serve 0x0102 bodySysReset m (rasterFirst s))
/-- SYS_PROTECT (R334). -/
def execSysProtect (m : Msg) (s : State) : Host.Outcome State Fault Refusal := done (serve 0x0103 bodySysProtect m (rasterFirst s))
/-- SYS_MBX_CFG (R346). -/
def execSysMbxCfg (m : Msg) (s : State) : Host.Outcome State Fault Refusal := done (serve 0x0104 bodySysMbxCfg m (rasterFirst s))
/-- SYS_ALIVE_RESET (R326). -/
def execSysAliveReset (m : Msg) (s : State) : Host.Outcome State Fault Refusal := done (serve 0x0105 bodySysAliveReset m (rasterFirst s))
/-- PWR_GET (R346). -/
def execPwrGet (m : Msg) (s : State) : Host.Outcome State Fault Refusal := done (serve 0x0200 bodyPwrGet m (rasterFirst s))
/-- PWR_OFF (R346). -/
def execPwrOff (m : Msg) (s : State) : Host.Outcome State Fault Refusal := done (serve 0x0202 bodyPwrOff m (rasterFirst s))
/-- RAS_GET (R346). -/
def execRasGet (m : Msg) (s : State) : Host.Outcome State Fault Refusal := done (serve 0x0300 bodyRasGet m (rasterFirst s))
/-- RAS_TIMING (R46). -/
def execRasTiming (m : Msg) (s : State) : Host.Outcome State Fault Refusal := done (serve 0x0301 bodyRasTiming m (rasterFirst s))
/-- RAS_EPOCH (R22, R34). -/
def execRasEpoch (m : Msg) (s : State) : Host.Outcome State Fault Refusal := done (serve 0x0302 bodyRasEpoch m (rasterFirst s))
/-- RAS_ENABLE (R43). -/
def execRasEnable (m : Msg) (s : State) : Host.Outcome State Fault Refusal := done (serve 0x0303 bodyRasEnable m (rasterFirst s))
/-- RAS_SYNC_CFG (R346). -/
def execRasSyncCfg (m : Msg) (s : State) : Host.Outcome State Fault Refusal := done (serve 0x0304 bodyRasSyncCfg m (rasterFirst s))

end Sys2Proof.Machine
end

