-- ==== Sys2Proof/Machine/CmdLayer.lean ====
section
/-! DEFINITION. Commands of class LAYER (Table CMD-5). -/
namespace Sys2Proof.Machine

/-- LAYER_GET: live words, shadow words, status and counters of a layer. -/
def layerWords (s : State) (n : Nat) : List Byte :=
  let b := Reg.CMP_LAYER_CTRL n
  wordBytes ((layerRegs n).map s.lrd) ++ wordBytes ((layerRegs n).map s.rd) ++ regWords s (Reg.CMP_LAYER_STATUS n :: regSpan (b + 0xA0) (b + 0xBC))

def bodyLayerGet (c : Ctx) (s : State) : State := readBack c ((objects c).flatMap (layerWords s)) s

/-- The checks of R128 before any shadow is written; an enabling set must fit the limit of R21 with the other layers as they will be. -/
def layerCheck (n : Nat) (s : State) (l : List (Nat × Word)) : Nat :=
  let v := setView s l
  let f := faultStatus (layerSetFault s n v)
  let others := ((List.range 8).filter fun k => k != n && layerWillBe s k).length
  if f != St.ok then f
  else if fld (v (Reg.CMP_LAYER_CTRL n)) 0 1 == 1 && !(layEn s n) && !(layerFit (period16 s) (others + 1)) then St.state
  else St.ok

/-- LAYER_SET. -/
def bodyLayerSet (c : Ctx) (s : State) : State :=
  let n := c.m.index.toNat
  regSet c [Reg.CMP_LAYER_CTRL n] (fun o => decide (o ≤ 0x30)) (layerCheck n) (some (layerCommit n)) s

/-- CANVAS_SET. -/
def bodyCanvasSet (c : Ctx) (s : State) : State := regSet c [Reg.CMP_CANVAS] (fun o => decide (o ≤ 8)) noCheck (some globalCommit) s

/-- A bulk write of a bank of a table of `n` entries of 16 bits: RANGE past its end, STATE for a bank in use. -/
def bankLoad (c : Ctx) (used : Bool) (base n : Nat) (b : Bulk) (s : State) : State :=
  if 2 * n < 2 * b.offset + b.data.length then refuse c St.range s
  else if used then refuse c St.state s
  else respondTo c St.ok [] (s.putBytes (winBase + base + 2 * b.offset) b.data)

/-- LUT_LOAD (R125). -/
def bodyLutLoad (c : Ctx) (s : State) : State :=
  withData c (fun b s =>
    let l := b.sel % 8
    let k := b.sel / 8
    if 15 < b.sel then refuse c St.range s
    else bankLoad c (bankUsed s Reg.CMP_LUT_BANK (if l < 4 then l else 4 + l) k)
      ((if l < 4 then 0x400000 + 0x2000 * (2 * l + k) else 0x410000 + 0x2000 * (2 * (l - 4) + k))) 4096 b s) s

/-- A surface comes to exist at extent start `u` (R102). -/
def makeSurf (n w h fmt bufs src u : Nat) (s : State) : State :=
  let s := s.wr (Reg.DRAM_SURF_CFG n) (BitVec.ofNat 32 (w - 1 + (h - 1) * 2 ^ 13 + fmt * 2 ^ 26 + bufs * 2 ^ 29 + 2 ^ 31))
  let s := (s.wr (Reg.DRAM_SURF_BASE n) (BitVec.ofNat 32 (u + src * 2 ^ 29))).wr (Reg.DRAM_SURF_STATE n) 0
  poolShow (s.modSurf n fun _ => {})

/-- SURF_CREATE (R102, R103). -/
def bodySurfCreate (c : Ctx) (s : State) : State :=
  need 7 c (fun s =>
    let w := arg c 0 2
    let h := arg c 2 2
    let fmt := arg c 4 1
    let bufs := arg c 5 1
    let src := arg c 6 1
    let pick := if c.m.index == 0xFFFF then (List.range 64).find? fun n => !(surfValid s n) else some c.m.index.toNat
    if w == 0 || h == 0 || 8192 < w || 8192 < h || 6 < fmt || bufs == 0 || 3 < bufs || 5 < src then refuse c St.range s
    else match pick with
      | none => noSpace c 1 0 false 4 s
      | some n =>
        let units := bufs * bufBytesOf w h fmt / 65536
        if surfValid s n then refuse c St.state s
        else match findExtent s units with
          | none => noSpace c ((units - freeUnits s) * 65536) (largestUnits s * 65536) (decide (units ≤ freeUnits s)) 0 s
          | some u => respondTo c St.ok (leBytes 1 n ++ leBytes 3 0 ++ leBytes 4 u ++ leBytes 4 (pitchOf w fmt)) (makeSurf n w h fmt bufs src u s)) s

/-- Something keeps a surface from being destroyed (R104): a live or captured layer names it, or an enabled stream is bound to it. -/
def surfNamed (s : State) (f : Nat) : Bool :=
  ((List.range 8).any fun n => layEn s n && laySource s n == 0 && layIndex s n == f) ||
  ((List.range 8).any fun n => match s.crd (Reg.CMP_LAYER_CTRL n), s.crd (Reg.CMP_LAYER_SRC n) with
    | some w, some i => fld w 0 1 == 1 && fld w 1 3 == 0 && fld i 0 8 == f
    | _, _ => false) ||
  (List.range 4).any fun n => s.bit (Reg.SDS_STR_CTRL n) 0 && strSurf s n == f

/-- SURF_DESTROY (R104). -/
def bodySurfDestroy (c : Ctx) (s : State) : State :=
  let n := c.m.index.toNat
  if !(surfValid s n) || surfNamed s n then refuse c St.state s else respondTo c St.ok [] (destroySurf n s)

/-- A surface that software fills (R109). -/
def softSurf (s : State) (n : Nat) : Bool := surfValid s n && surfSource s n == 4

/-- SURF_WRITE (R109). -/
def bodySurfWrite (c : Ctx) (s : State) : State :=
  let n := c.m.index.toNat
  withData c (fun b s =>
    if !(softSurf s n) then refuse c St.state s
    else if surfBufs s n ≤ b.sel || surfBufBytes s n < b.offset + b.data.length then refuse c St.range s
    else respondTo c St.ok []
      (when (bufState s n b.sel == bFree) (setBuf n b.sel bWriting) (s.putBytes (bufAddr s n b.sel + b.offset) b.data))) s

/-- SURF_PUBLISH (R106, R109); the SFN that a software publication shows is a free value. -/
def bodySurfPublish (c : Ctx) (s : State) : State :=
  let n := c.m.index.toNat
  need 1 c (fun s =>
    if !(softSurf s n) then refuse c St.state s
    else if surfBufs s n ≤ arg c 0 1 then refuse c St.range s
    else reply c St.ok [] (publishBuf n (arg c 0 1) s.freeNow s).useFree) s

/-- SURF_POOL (R100). -/
def bodySurfPool (c : Ctx) (s : State) : State :=
  need 4 c (fun s =>
    let b := arg c 0 2
    let n := arg c 2 2
    if b < 512 || n < 64 || dramBytes / 2 ^ 20 < b + n then refuse c St.range s
    else if (List.range 64).any (surfValid s) then refuse c St.state s
    else respondTo c St.ok [] (poolShow ((s.wf Reg.DRAM_SURF_POOL_BASE 0 13 b).wf Reg.DRAM_SURF_POOL_SIZE 0 13 n))) s

/-- LAYER_GET (R346). -/
def execLayerGet (m : Msg) (s : State) : Host.Outcome State Fault Refusal := done (serve 0x0400 bodyLayerGet m (rasterFirst s))
/-- LAYER_SET (R126, R128). -/
def execLayerSet (m : Msg) (s : State) : Host.Outcome State Fault Refusal := done (serve 0x0401 bodyLayerSet m (rasterFirst s))
/-- CANVAS_SET (R126). -/
def execCanvasSet (m : Msg) (s : State) : Host.Outcome State Fault Refusal := done (serve 0x0402 bodyCanvasSet m (rasterFirst s))
/-- LUT_LOAD (R125). -/
def execLutLoad (m : Msg) (s : State) : Host.Outcome State Fault Refusal := done (serve 0x0403 bodyLutLoad m (rasterFirst s))
/-- SURF_CREATE (R102). -/
def execSurfCreate (m : Msg) (s : State) : Host.Outcome State Fault Refusal := done (serve 0x0410 bodySurfCreate m (rasterFirst s))
/-- SURF_DESTROY (R104). -/
def execSurfDestroy (m : Msg) (s : State) : Host.Outcome State Fault Refusal := done (serve 0x0411 bodySurfDestroy m (rasterFirst s))
/-- SURF_WRITE (R109). -/
def execSurfWrite (m : Msg) (s : State) : Host.Outcome State Fault Refusal := done (serve 0x0412 bodySurfWrite m (rasterFirst s))
/-- SURF_PUBLISH (R106). -/
def execSurfPublish (m : Msg) (s : State) : Host.Outcome State Fault Refusal := done (serve 0x0413 bodySurfPublish m (rasterFirst s))
/-- SURF_POOL (R100). -/
def execSurfPool (m : Msg) (s : State) : Host.Outcome State Fault Refusal := done (serve 0x0414 bodySurfPool m (rasterFirst s))

end Sys2Proof.Machine
end

