-- ==== Sys2Proof/Machine/CmdBeam.lean ====
section
/-! DEFINITION. Commands of class BEAM and the lookahead commands (Tables CMD-5 and CMD-12). -/
namespace Sys2Proof.Machine

/-- BEAM_GET. -/
def bodyBeamGet (c : Ctx) (s : State) : State :=
  readBack c (regWords s ([Reg.BEAM_STATUS, Reg.BEAM_LAST_LIST, Reg.BEAM_LAST_LIST_TS] ++ regSpan Reg.BEAM_CNT_LISTS Reg.BEAM_CNT_GRID_LIVE_WR)) s

/-- LIST_PUT (R145): the count of dropped objects, or why the list is dropped whole. -/
def bodyListPut (c : Ctx) (s : State) : State :=
  let l := c.m.payload
  let v := listVerdict s l
  let dropped := leAt l 1 1 - (keptObjs s [] (listRecords l)).length
  let t := listIn 6 l s
  if !(s.bit Reg.BEAM_CTRL 6) || v == 1 then refuse c St.range t
  else if v == 0 then respondTo c St.ok (leBytes 4 dropped) t
  else if v == 2 then refuse c St.badCrc t
  else refuse c St.badAlive t

/-- Offsets BEAM_CFG accepts: RW and RWS registers of its two ranges. -/
def beamAccepts (o : Nat) : Bool :=
  (decide (0xC ≤ o ∧ o ≤ 0x154) || decide (0x404 ≤ o ∧ o ≤ 0x7E4)) &&
    match regRow (Reg.BEAM_CTRL + o) with | some r => r.access == .rw || r.access == .rws | none => false

/-- The checks of R160, made before any shadow is written. -/
def beamCheck (commits : Bool) (s : State) (l : List (Nat × Word)) : Nat :=
  if commits || l.any fun e => isShadowed e.1 then faultStatus (beamSetFault s (setView s l)) else St.ok

/-- BEAM_CFG. -/
def bodyBeamCfg (c : Ctx) (s : State) : State := regSet c [Reg.BEAM_CTRL] beamAccepts (beamCheck (setCommits c)) (some beamCommit) s

/-! ### Staged loads into the stores of Table STR-14 -/

/-- Free extents from `lo` to `hi`, lowest first. -/
def storeGaps (lo hi : Nat) (used : List (Nat × Nat)) : List (Nat × Nat) :=
  let l := sortBy (fun a b => decide (a.1 ≤ b.1)) used
  let r := l.foldl (fun (a : List (Nat × Nat) × Nat) e => (if a.2 < e.1 then a.1 ++ [(a.2, e.1 - a.2)] else a.1, max a.2 (e.1 + e.2))) ([], lo)
  if r.2 < hi then r.1 ++ [(r.2, hi - r.2)] else r.1

/-- What a staged load of an image has been allocated: first byte, width, height. -/
def loadPlace (l : Load) : Nat × Nat × Nat := (leAt l.extra 0 8, leAt l.extra 8 2, leAt l.extra 10 2)

/-- Bytes of an image row by row at a pitch of whole 64 bytes. -/
def imageBytes (w h px : Nat) : Nat := (w * px + 63) / 64 * 64 * h

/-- Extents in use in a store: the images loaded, and those being loaded by a command. -/
def storeUsed (s : State) (code px : Nat) (l : Store (Option (Nat × Nat × Nat))) : List (Nat × Nat) :=
  (l.filterMap fun e => e.2.map fun p => (p.1, imageBytes p.2.1 p.2.2 px)) ++
    (s.loads.filter (·.code == code)).map fun k => ((loadPlace k).1, k.size)

/-- BEGIN of an image: it is allocated whole at the lowest place in `t`, the state without the object, or refused with NOSPACE and
nothing changed (R103). -/
def placeLoad (c : Ctx) (obj w h size : Nat) (store : List (Nat × Nat)) (t s : State) : State :=
  let free := store.foldl (fun a e => a + e.2) 0
  match store.find? fun e => decide (size ≤ e.2) with
  | none => noSpace c (size - free) (store.foldl (fun a e => max a e.2) 0) (decide (size ≤ free)) 0 s
  | some e => respondTo c St.ok []
      (startLoad { code := c.code, obj := obj, size := size, got := [], extra := leBytes 8 e.1 ++ leBytes 2 w ++ leBytes 2 h } t)

def setPat (p : Nat) (v : Option (Nat × Nat × Nat)) (s : State) : State :=
  ({ s with beam := { s.beam with pats := sput (fun _ => none) s.beam.pats p v } }).wb Reg.BEAM_PAT_VALID p v.isSome

/-- A pattern is selected by the live set. -/
def patSelected (s : State) (p : Nat) : Bool := s.lf Reg.BEAM_PATTERN 0 4 == p || s.lf Reg.BEAM_TIMEOUT_PAT 0 4 == p

/-- PAT_LOAD (R159). -/
def bodyPatLoad (c : Ctx) (s : State) : State :=
  withBulk c (fun b s =>
    if 15 < b.sel then refuse c St.range s
    else if patSelected s b.sel then refuse c St.state s
    else staged c b.sel
      (fun b s =>
        if b.size != imageBytes (canvasW s) (canvasH s) 2 then refuse c St.range s
        else
          let t := dropLoad c.code b.sel (setPat b.sel none s)
          placeLoad c b.sel (canvasW s) (canvasH s) b.size (storeGaps (32 * 2 ^ 20) (96 * 2 ^ 20) (storeUsed t c.code 2 t.beam.pats)) t s)
      (fun l d s => respondTo c St.ok [] (setPat l.obj (some (loadPlace l)) (s.putBytes (loadPlace l).1 d))) b s) s

def setGlyph (g : Nat) (v : Option (Nat × Nat × Nat)) (s : State) : State :=
  let s := ({ s with beam := { s.beam with glyphs := sput (fun _ => none) s.beam.glyphs g v } }).wb Reg.BEAM_GLYPH_VALID g v.isSome
  match v with
  | some p => s.wr (Reg.BEAM_GLYPH_SIZE g) (BitVec.ofNat 32 (p.2.1 - 1 + (p.2.2 - 1) * 2 ^ 16))
  | none => s

/-- A live-enabled GLYPH layer names a set. -/
def glyphNamed (s : State) (g : Nat) : Bool := (List.range 8).any fun n => layEn s n && laySource s n == 3 && layIndex s n == g

/-- GLYPH_LOAD (R162). -/
def bodyGlyphLoad (c : Ctx) (s : State) : State :=
  withBulk c (fun b s =>
    if 15 < b.sel then refuse c St.range s
    else if glyphNamed s b.sel then refuse c St.state s
    else staged c b.sel
      (fun b s =>
        let w := leAt b.data 0 2 + 1
        let h := leAt b.data 2 2 + 1
        if b.data.length < 4 then refuse c St.badLength s
        else if 2048 < w || 2048 < h || b.size != imageBytes w h 1 then refuse c St.range s
        else
          let t := dropLoad c.code b.sel (setGlyph b.sel none s)
          placeLoad c b.sel w h b.size (storeGaps (96 * 2 ^ 20) (160 * 2 ^ 20) (storeUsed t c.code 1 t.beam.glyphs)) t s)
      (fun l d s => respondTo c St.ok [] (setGlyph l.obj (some (loadPlace l)) (s.putBytes (loadPlace l).1 d))) b s) s

/-- GRID_LOAD (R156). -/
def bodyGridLoad (c : Ctx) (s : State) : State :=
  withBulk c (fun b s =>
    if 1 < b.sel then refuse c St.range s
    else if bankUsed s Reg.BEAM_GRID_BANK 0 b.sel then refuse c St.state s
    else staged c b.sel
      (fun b s => if b.size != 4356 then refuse c St.range s
        else respondTo c St.ok [] (startLoad { code := c.code, obj := b.sel, size := b.size, got := [], extra := [] } s))
      (fun l d s => respondTo c St.ok [] (s.putBytes (winBase + 0x420000 + 0x2000 * l.obj) d)) b s) s

/-- LOOKAHEAD takes a value at the phase 0 that R26 gives (R350). -/
def lookAhead (v : Bool) (s : State) : State := { s with beam := { s.beam with laPend := some v } }

/-- LA_ENTER (R350). -/
def bodyLaEnter (c : Ctx) (s : State) : State :=
  need 1 c (fun s =>
    if !(s.bit Reg.BEAM_CTRL 0) then refuse c St.state s
    else respondTo c St.ok (framePart s) (lookAhead true (when (arg c 0 1 != 0) (State.swWrite · Reg.BEAM_LOOKAHEAD (BitVec.ofNat 32 (arg c 0 1))) s))) s

/-- LA_EXIT (R350). -/
def bodyLaExit (c : Ctx) (s : State) : State := respondTo c St.ok (framePart s) (lookAhead false s)

/-- LA_TOL. -/
def bodyLaTol (c : Ctx) (s : State) : State :=
  need 1 c (fun s => if arg c 0 1 == 0 then refuse c St.range s
    else respondTo c St.ok [] (s.swWrite Reg.BEAM_LOOKAHEAD (BitVec.ofNat 32 (arg c 0 1)))) s

/-- LA_STATUS. -/
def bodyLaStatus (c : Ctx) (s : State) : State :=
  readBack c (leBytes 4 (b2n s.beam.la) ++ regWords s [Reg.BEAM_CNT_SQUASH, Reg.BEAM_CNT_REUSE]) s

/-- BEAM_GET (R346). -/
def execBeamGet (m : Msg) (s : State) : Host.Outcome State Fault Refusal := done (serve 0x0500 bodyBeamGet m (rasterFirst s))
/-- LIST_PUT (R145). -/
def execListPut (m : Msg) (s : State) : Host.Outcome State Fault Refusal := done (serve 0x0501 bodyListPut m (rasterFirst s))
/-- BEAM_CFG (R160). -/
def execBeamCfg (m : Msg) (s : State) : Host.Outcome State Fault Refusal := done (serve 0x0502 bodyBeamCfg m (rasterFirst s))
/-- PAT_LOAD (R159). -/
def execPatLoad (m : Msg) (s : State) : Host.Outcome State Fault Refusal := done (serve 0x0503 bodyPatLoad m (rasterFirst s))
/-- GLYPH_LOAD (R162). -/
def execGlyphLoad (m : Msg) (s : State) : Host.Outcome State Fault Refusal := done (serve 0x0504 bodyGlyphLoad m (rasterFirst s))
/-- GRID_LOAD (R156). -/
def execGridLoad (m : Msg) (s : State) : Host.Outcome State Fault Refusal := done (serve 0x0505 bodyGridLoad m (rasterFirst s))
/-- LA_ENTER (R350). -/
def execLaEnter (m : Msg) (s : State) : Host.Outcome State Fault Refusal := done (serve 0x0540 bodyLaEnter m (rasterFirst s))
/-- LA_EXIT (R350). -/
def execLaExit (m : Msg) (s : State) : Host.Outcome State Fault Refusal := done (serve 0x0541 bodyLaExit m (rasterFirst s))
/-- LA_TOL (R350). -/
def execLaTol (m : Msg) (s : State) : Host.Outcome State Fault Refusal := done (serve 0x0542 bodyLaTol m (rasterFirst s))
/-- LA_STATUS (R350). -/
def execLaStatus (m : Msg) (s : State) : Host.Outcome State Fault Refusal := done (serve 0x0543 bodyLaStatus m (rasterFirst s))

end Sys2Proof.Machine
end

