-- ==== Sys2Proof/Machine/CmdCorr.lean ====
section
/-! DEFINITION. Commands of classes CORR, HEALTH and SUPPLY (Table CMD-6). -/
namespace Sys2Proof.Machine

/-! ### CORR -/

/-- First byte of a segment's records: copy 0 live, 1 staging, 2 MRAM default. -/
def recordsAt (s : State) (copy t g : Nat) : Nat := match copy with | 0 => liveAt s t g | 1 => stageAt s t g | _ => homeAt t g

/-- CORR_READ. -/
def bodyCorrRead (c : Ctx) (s : State) : State :=
  need 8 c (fun s =>
    let p := arg c 4 2
    let n := arg c 6 2
    if 1 < arg c 0 1 || 2 < arg c 1 1 || n == 0 || 1016 < n || 4096 < p + n then refuse c St.range s
    else readBack c (s.bytes (recordsAt s (arg c 1 1) (arg c 0 1) c.m.index.toNat + 4 * p) (4 * n)) s) s

/-- CORR_STAGE: records into a staging table from a lamp index. -/
def bodyCorrStage (c : Ctx) (s : State) : State :=
  withData c (fun b s =>
    if 1 < b.sel || 4 * 2 ^ 20 < 4 * b.offset + b.data.length then refuse c St.range s
    else respondTo c St.ok [] (s.putBytes (stageAt s b.sel 0 + 4 * b.offset) b.data)) s

/-- A command on the segments from INDEX to its byte LAST: RANGE for a LAST below, BUSY when one of them is held (R184). -/
def segRange (c : Ctx) (n : Nat) (f : Nat → Nat → State → State) (s : State) : State :=
  need n c (fun s =>
    let lo := c.m.index.toNat
    let hi := arg c 0 1
    if hi < lo then refuse c St.range s
    else if rangeHeld s clsSegment lo hi then refuse c St.busy s
    else f lo hi s) s

/-- CORR_APPLY (R184). -/
def bodyCorrApply (c : Ctx) (s : State) : State :=
  segRange c 3 (fun lo hi s =>
    let t := arg c 1 1
    if t == 0 || 3 < t || 1 < arg c 2 1 then refuse c St.range s
    else applyAccept { lo := lo, hi := hi, tables := t, source := arg c 2 1, ctx := some c } (acceptOp c clsSegment lo hi [] s)) s

/-- CORR_SAVE (R186). -/
def bodyCorrSave (c : Ctx) (s : State) : State :=
  segRange c 1 (fun lo hi s =>
    if s.corr.saving.isSome then refuse c St.busy s
    else
      let s := acceptOp c clsSegment lo hi [] s
      { s with corr := { s.corr with saving := some (lo, false, hi, c) } }.wb Reg.CORR_STATUS 1 true) s

/-- The bases a set writes keep R101, one write after the other. -/
def basesStand (s : State) (l : List (Nat × Word)) : Bool :=
  let now := tableBases.map fun e => (e.1, s.fd e.1 0 9, e.2)
  let r := l.foldl (fun (a : Bool × List (Nat × Nat × Nat)) e =>
    if tableBases.any (·.1 == e.1) then
      let n := a.2.map fun b => if b.1 == e.1 then (b.1, fld e.2 0 9, b.2.2) else b
      (a.1 && basesOk (n.map (·.2)), n)
    else a) (true, now)
  r.1

/-- CORR_CFG: RANGE for a base that breaks R101, STATE for a scan channel that a layer uses (R139). -/
def corrCheck (s : State) (l : List (Nat × Word)) : Nat :=
  let w := setView s l Reg.CORR_CTRL
  if !(basesStand s l) then St.range
  else if l.any (·.1 == Reg.CORR_CTRL) && fld w 2 1 == 1 && !(chLayers s (fld w 4 3)).isEmpty then St.state
  else St.ok

def bodyCorrCfg (c : Ctx) (s : State) : State := regSet c [Reg.CORR_CTRL] (fun o => decide (o ≤ 0x1FF)) corrCheck (some corrCommit) s

/-- CURVE_LOAD (R171). -/
def bodyCurveLoad (c : Ctx) (s : State) : State :=
  withData c (fun b s =>
    let k := b.sel / 16
    if 31 < b.sel then refuse c St.range s
    else bankLoad c (bankUsed s Reg.CORR_CURVE_BANK 0 k) (0x430000 + 0x8000 * k + 0x800 * (b.sel % 16)) 1024 b s) s

/-- SEG_CFG: GEOM and EN apply at the next training (R65). -/
def bodySegCfg (c : Ctx) (s : State) : State :=
  regSet c ((objects c).map Reg.SEG_SEG_CFG) (fun o => o == 0 || decide (0x10 ≤ o ∧ o ≤ 0x1C)) noCheck none s

/-! ### HEALTH -/

/-- RPT_LOSS, SEGFAULT and VF_SUSP of a segment. -/
def healthBits (s : State) (g : Nat) : Nat :=
  b2n (reportLoss s g) + 2 * b2n (segFaulty s g) + 4 * b2n (s.bit (Reg.HLT_VF_SUSP (g / 32)) (g % 32))

/-- HEALTH_GET. -/
def bodyHealthGet (c : Ctx) (s : State) : State :=
  if c.m.index == 0xFFFF then readBack c (regWords s [Reg.HLT_TOTAL_OPEN, Reg.HLT_TOTAL_SHORT, Reg.HLT_TOTAL_WEAK, Reg.HLT_FAULTS]) s
  else readBack c (regWords s [Reg.HLT_SEG_COUNT c.m.index.toNat] ++ leBytes 4 (healthBits s c.m.index.toNat)) s

/-- MAP_READ (R199). -/
def bodyMapRead (c : Ctx) (s : State) : State :=
  need 6 c (fun s =>
    let a := arg c 0 4
    let n := arg c 4 2
    if n == 0 || 4064 < n || mapBytes < a + n then refuse c St.range s
    else readBack c ((List.range n).map fun i => mapByte s (a + i)) s) s

/-- A lamp is cleared (R194): class OK, run 0. -/
def clearLamp (n : Nat) (s : State) : State := (setClass n 0 s).setLamp n { s.lamp n with run := 0 }

/-- HEALTH_CLEAR (R194); the faulty state follows the counts (R202). -/
def bodyHealthClear (c : Ctx) (s : State) : State :=
  need 4 c (fun s =>
    let p := arg c 0 2
    let n := arg c 2 2
    if n != 0 && 4096 < p + n then refuse c St.range s
    else
      let first := if n == 0 then 0 else p
      let count := if n == 0 then 4096 else n
      respondTo c St.ok [] (forEach (objects c) (fun g t =>
        faultEval g (forEach ((List.range count).map (g * 4096 + first + ·)) clearLamp t)) s)) s

/-- VF_CAPTURE (R197); one capture runs at a time. -/
def bodyVfCapture (c : Ctx) (s : State) : State :=
  segRange c 1 (fun lo hi s =>
    if s.hlt.cap.isSome then refuse c St.busy s else captureStart c lo hi (acceptOp c clsSegment lo hi [] s)) s

/-- HEALTH_SAVE (R197, R201). -/
def bodyHealthSave (c : Ctx) (s : State) : State := need 1 c (acceptOp c clsDevice 0 0 [arg c 0 1 % 4]) s

/-- HEALTH_CFG: RANGE for a base that breaks R101. -/
def bodyHealthCfg (c : Ctx) (s : State) : State :=
  regSet c [Reg.HLT_CTRL] (fun o => decide (o ≤ 0x24)) (fun s l => if basesStand s l then St.ok else St.range) none s

/-! ### SUPPLY -/

/-- SUP_GET. -/
def bodySupGet (c : Ctx) (s : State) : State :=
  readBack c (regWords s [Reg.SUP_STATUS, Reg.SUP_VSET, Reg.SUP_HMIN, Reg.SUP_CAPACITY, Reg.SUP_PEAK, Reg.SUP_DERATE_STATUS, Reg.SUP_DERATE_LIT]) s

/-- SUP_CFG: RANGE when VLED_MIN would stand above VLED_MAX (R217). -/
def bodySupCfg (c : Ctx) (s : State) : State :=
  regSet c [Reg.SUP_CTRL] (fun o => decide (o ≤ 0x58))
    (fun s l => if fld (setView s l Reg.SUP_VLED_MAX) 0 11 < fld (setView s l Reg.SUP_VLED_MIN) 0 11 then St.range else St.ok) none s

/-- SUP_RESTART (R224). -/
def bodySupRestart (c : Ctx) (s : State) : State := respondTo c St.ok [] (supRestart s)

/-- SUP_LIMIT: applies at once (R225). -/
def bodySupLimit (c : Ctx) (s : State) : State :=
  need 1 c (fun s => if 120 < arg c 0 1 then refuse c St.range s
    else reply c St.ok [] (applyWord Reg.SUP_HOST_LIMIT (BitVec.ofNat 32 (arg c 0 1)) s)) s

/-- CORR_READ (R346). -/
def execCorrRead (m : Msg) (s : State) : Host.Outcome State Fault Refusal := done (serve 0x0600 bodyCorrRead m (rasterFirst s))
/-- CORR_STAGE (R346). -/
def execCorrStage (m : Msg) (s : State) : Host.Outcome State Fault Refusal := done (serve 0x0601 bodyCorrStage m (rasterFirst s))
/-- CORR_APPLY (R184). -/
def execCorrApply (m : Msg) (s : State) : Host.Outcome State Fault Refusal := done (serve 0x0602 bodyCorrApply m (rasterFirst s))
/-- CORR_SAVE (R186). -/
def execCorrSave (m : Msg) (s : State) : Host.Outcome State Fault Refusal := done (serve 0x0603 bodyCorrSave m (rasterFirst s))
/-- CORR_CFG (R175). -/
def execCorrCfg (m : Msg) (s : State) : Host.Outcome State Fault Refusal := done (serve 0x0604 bodyCorrCfg m (rasterFirst s))
/-- CURVE_LOAD (R171). -/
def execCurveLoad (m : Msg) (s : State) : Host.Outcome State Fault Refusal := done (serve 0x0605 bodyCurveLoad m (rasterFirst s))
/-- SEG_CFG (R65). -/
def execSegCfg (m : Msg) (s : State) : Host.Outcome State Fault Refusal := done (serve 0x0606 bodySegCfg m (rasterFirst s))
/-- HEALTH_GET (R346). -/
def execHealthGet (m : Msg) (s : State) : Host.Outcome State Fault Refusal := done (serve 0x0700 bodyHealthGet m (rasterFirst s))
/-- MAP_READ (R199). -/
def execMapRead (m : Msg) (s : State) : Host.Outcome State Fault Refusal := done (serve 0x0701 bodyMapRead m (rasterFirst s))
/-- HEALTH_CLEAR (R194). -/
def execHealthClear (m : Msg) (s : State) : Host.Outcome State Fault Refusal := done (serve 0x0702 bodyHealthClear m (rasterFirst s))
/-- VF_CAPTURE (R197). -/
def execVfCapture (m : Msg) (s : State) : Host.Outcome State Fault Refusal := done (serve 0x0703 bodyVfCapture m (rasterFirst s))
/-- HEALTH_SAVE (R197). -/
def execHealthSave (m : Msg) (s : State) : Host.Outcome State Fault Refusal := done (serve 0x0704 bodyHealthSave m (rasterFirst s))
/-- HEALTH_CFG (R346). -/
def execHealthCfg (m : Msg) (s : State) : Host.Outcome State Fault Refusal := done (serve 0x0705 bodyHealthCfg m (rasterFirst s))
/-- SUP_GET (R346). -/
def execSupGet (m : Msg) (s : State) : Host.Outcome State Fault Refusal := done (serve 0x0800 bodySupGet m (rasterFirst s))
/-- SUP_CFG (R217). -/
def execSupCfg (m : Msg) (s : State) : Host.Outcome State Fault Refusal := done (serve 0x0801 bodySupCfg m (rasterFirst s))
/-- SUP_RESTART (R224). -/
def execSupRestart (m : Msg) (s : State) : Host.Outcome State Fault Refusal := done (serve 0x0802 bodySupRestart m (rasterFirst s))
/-- SUP_LIMIT (R225). -/
def execSupLimit (m : Msg) (s : State) : Host.Outcome State Fault Refusal := done (serve 0x0803 bodySupLimit m (rasterFirst s))

end Sys2Proof.Machine
end

