-- ==== Sys2Proof/Machine/CmdPolLink.lean ====
section
/-! DEFINITION. Commands of classes POLDER and LINK (Table CMD-7). -/
namespace Sys2Proof.Machine

/-! ### POLDER -/

/-- Live set, signature and last result of a polder: MISMATCH in [0], SKIPPED in [1], held in [2]. -/
def polWords (s : State) (n : Nat) : List Byte :=
  let b (lo hi : Nat) : Nat := b2n (s.bit (if n < 32 then lo else hi) (n % 32))
  wordBytes ((polGroup n).map s.lrd) ++ regWords s [Reg.POL_P_SIG n] ++
    leBytes 4 (b Reg.POL_MISMATCH_LO Reg.POL_MISMATCH_HI + 2 * b Reg.POL_SKIP_LO Reg.POL_SKIP_HI + 4 * b Reg.POL_HOLD_LO Reg.POL_HOLD_HI)

/-- POL_GET. -/
def bodyPolGet (c : Ctx) (s : State) : State := readBack c ((objects c).flatMap (polWords s)) s

/-- LIMIT 0 and a bound above 8,192 are reserved values (R227, Table POL-9). -/
def polSetCheck (s : State) (l : List (Nat × Word)) : Nat :=
  if l.any (fun e =>
    let w := mergedWord s e.1 e.2
    match (e.1 - Reg.POL_P_CFG 0) % 0x20 with
    | 0 => fld w 12 4 == 0
    | 12 => false
    | _ => decide (8192 < fld w 0 14) || decide (8192 < fld w 16 14)) then St.range else St.ok

/-- POL_SET (R233). -/
def bodyPolSet (c : Ctx) (s : State) : State :=
  regSet c [Reg.POL_P_CFG c.m.index.toNat] (fun o => decide (o ≤ 0x0C)) polSetCheck (some polCommit) s

/-- FB_RAISE (R244). -/
def bodyFbRaise (c : Ctx) (s : State) : State :=
  need 1 c (fun s => if 3 < arg c 0 1 then refuse c St.range s else reply c St.ok (framePart s) (fbRaise 6 0 (arg c 0 1) s)) s

/-- FB_CLEAR (R248). -/
def bodyFbClear (c : Ctx) (s : State) : State :=
  if clearRefused s then refuse c St.state (s.count Reg.POL_CNT_CLEAR_REJ) else reply c St.ok (framePart s) (fbClear s)

/-! ### LINK: reading, enabling and retraining -/

/-- State, reason, partner and counters of a LINK, LANE, STREAM or NETPORT. -/
def linkWords (s : State) (cls n : Nat) : List Byte :=
  regWords s (
    if cls == 3 then regSpan (Reg.SLK_LINK_CTRL n) (Reg.SLK_LINK_CTRL n + 0x5C)
    else if cls == 4 then
      [Reg.SDS_LANE_STATE n, Reg.SDS_LANE_PARTNER n, Reg.SDS_LANE_PARTNER_X n, Reg.SDS_LANE_PARTNER_UID_LO n, Reg.SDS_LANE_PARTNER_UID_HI n] ++
        regSpan (Reg.SDS_LANE_CTRL n + 0x40) (Reg.SDS_LANE_CTRL n + 0x5C)
    else if cls == 7 then Reg.SDS_STR_STATUS n :: regSpan (Reg.SDS_STR_CTRL n + 0x40) (Reg.SDS_STR_CTRL n + 0x64)
    else if n < 2 then Reg.MAC_STATUS n :: regSpan (Reg.MAC_CTRL n + 0x80) (Reg.MAC_CTRL n + 0x9C)
    else Reg.CAN_STATUS (n - 2) :: regSpan (Reg.CAN_CTRL (n - 2) + 0x80) (Reg.CAN_CTRL (n - 2) + 0x90))

/-- LINK_GET. -/
def bodyLinkGet (c : Ctx) (s : State) : State := readBack c ((objects c).flatMap (linkWords s c.m.cls.toNat)) s

/-- NOSPACE of a stream's enable (R89, R344). -/
def streamNoSpace (c : Ctx) (n : Nat) (s : State) : State := noSpace c (streamMissing s n) (80000 - reserved s n) false 2 s

/-- A stream is enabled or disabled, or its enable refused. -/
def streamEnable (c : Ctx) (n : Nat) (v : Bool) (s : State) : State :=
  let st := if v && !(s.bit (Reg.SDS_STR_CTRL n) 0) then streamAdmit s n else St.ok
  if st == St.noSpace then streamNoSpace c n s
  else if st != St.ok then refuse c st s
  else respondTo c St.ok [] (streamEn n v s)

/-- A network port is enabled or disabled. -/
def netEnable (n : Nat) (v : Bool) (s : State) : State :=
  if n < 2 then macCtrl n (setFld (s.rd (Reg.MAC_CTRL n)) 0 1 (if v then 1 else 0)) s else canCtrl (s.wb (Reg.CAN_CTRL (n - 2)) 0 v)

/-- LINK_ENABLE (R81, R89). -/
def bodyLinkEnable (c : Ctx) (s : State) : State :=
  need 1 c (fun s =>
    let n := c.m.index.toNat
    let v := arg c 0 1 == 1
    if 1 < arg c 0 1 then refuse c St.range s
    else if c.m.cls == 3 then
      need 2 c (fun s =>
        let r := arg c 1 1
        if 2 < r && r != 0xFF then refuse c St.range s
        else respondTo c St.ok [] (linkEn n v (when (r != 0xFF) (State.wf · (Reg.SLK_LINK_CTRL n) 1 2 r) s))) s
    else if c.m.cls == 7 then streamEnable c n v s
    else respondTo c St.ok [] (netEnable n v s)) s

/-- A series of attempts of a group runs: it is neither ACTIVE nor DOWN (R303). -/
def seriesRuns (s : State) (g : Nat) : Bool := grpEn s g && !(grpActive s g) && !(grpDown s g)

/-- A new series of a group, which leaves ACTIVE when it is (R304). -/
def groupRestart (g : Nat) (s : State) : State := newSeries g (when (grpActive s g) (grpLost g) s)

/-- The enabled groups a LINK_RETRAIN on lanes or streams names. -/
def namedGroups (c : Ctx) (s : State) : List Nat :=
  if c.m.cls == 7 then (objects c).filter (grpEn s) else ((objects c).filterMap (grpOf s)).eraseDups

/-- LINK_RETRAIN (R74, R304). -/
def bodyLinkRetrain (c : Ctx) (s : State) : State :=
  if c.m.cls == 3 then
    let l := (objects c).filter fun n => linkState s n == 6 || linkState s n == 7
    if l.isEmpty then refuse c St.state s else respondTo c St.ok [] (forEach l linkRetrain s)
  else
    let l := namedGroups c s
    let free := l.filter fun g => !(seriesRuns s g)
    if l.isEmpty then refuse c St.state s
    else if free.isEmpty then refuse c St.busy s
    else respondTo c St.ok [] (forEach free groupRestart s)

/-! ### LINK: settings -/

/-- STREAM_CFG: RANGE for LANES 0b11; while EN is 1, STATE for a change of LANES, FIRST_LANE, DIR or SURF; an enable is judged on the
registers as they will be (R89, R104). -/
def streamCheck (n : Nat) (s : State) (l : List (Nat × Word)) : Nat :=
  let w := setView s l (Reg.SDS_STR_CTRL n)
  let old := s.rd (Reg.SDS_STR_CTRL n)
  if fld w 1 2 == 3 then St.range
  else if old.getLsbD 0 then
    (if fld w 1 8 != fld old 1 8 || fld (setView s l (Reg.SDS_STR_SURF n)) 0 6 != strSurf s n then St.state else St.ok)
  else if w.getLsbD 0 then streamAdmit (forEach l (fun e t => t.swWrite e.1 e.2) s) n
  else St.ok

/-- CTRL is written after the other registers, so that an enable finds them. -/
def streamWrite (n : Nat) (l : List (Nat × Word)) (s : State) : State :=
  writeWords (l.filter fun e => e.1 == Reg.SDS_STR_CTRL n) (writeWords (l.filter fun e => e.1 != Reg.SDS_STR_CTRL n) s)

def bodyStreamCfg (c : Ctx) (s : State) : State :=
  let n := c.m.index.toNat
  regSetWith
    (fun st l t => if st == St.noSpace then
        noSpace c (streamMissing (forEach l (fun e t => t.swWrite e.1 e.2) t) n) (80000 - reserved t n) false 2 t
      else refuse c st t)
    (streamWrite n) c [Reg.SDS_STR_CTRL n] (fun o => decide (o ≤ 0x10)) (streamCheck n) none s

/-- QUAD_CFG (R297). -/
def bodyQuadCfg (c : Ctx) (s : State) : State :=
  need 3 c (fun s =>
    let q := c.m.index.toNat / 4
    if 3 < arg c 0 1 || 1 < arg c 1 1 || 6 < arg c 2 1 then refuse c St.range s
    else if !(quadOff s q) then refuse c St.state s
    else respondTo c St.ok [] (quadCfg q (BitVec.ofNat 32 (arg c 0 1 + 4 * arg c 1 1 + 16 * arg c 2 1)) s)) s

/-- LANE_TEST (R310). -/
def bodyLaneTest (c : Ctx) (s : State) : State :=
  need 8 c (fun s =>
    let l := c.m.index.toNat
    let w := BitVec.ofNat 32 (arg c 0 4)
    let x := BitVec.ofNat 32 (arg c 4 4)
    if reservedWord s (Reg.SDS_LANE_CTRL l) w || reservedWord s (Reg.SDS_LANE_TXEQ l) x then refuse c St.range s
    else if w.getLsbD 0 && !(s.bit (Reg.SDS_LANE_CTRL l) 0) && laneServes s l then refuse c St.state s
    else respondTo c St.ok [] (applyWord (Reg.SDS_LANE_TXEQ l) x (applyWord (Reg.SDS_LANE_CTRL l) w s))) s

/-- NET_CFG: the registers of a MAC, or those and the message buffers of a CAN controller. -/
def bodyNetCfg (c : Ctx) (s : State) : State :=
  let n := c.m.index.toNat
  regSet c [if n < 2 then Reg.MAC_CTRL n else Reg.CAN_CTRL (n - 2)] (fun o => decide (o ≤ 0x1C) || decide (0x100 ≤ o ∧ o ≤ 0x4F8)) noCheck none s

/-! ### LINK: segments -/

/-- The segment is live on an ACTIVE link that listens and answers. -/
def segReached (s : State) (g : Nat) : Bool := linkState s (g / 8) == 6 && !(upAsleep s (g / 8)) && !(s.link (g / 8)).closing && segLive s g

/-- BLANK_CMD of mode 0 waits for blanking (R71); with no blanking to come it goes at once. -/
def segDarkNext (g : Nat) (s : State) : State :=
  if s.ras.ran then s.modLink (g / 8) fun l => { l with blankQ := l.blankQ ++ [(g % 8, 0, 0)] } else blankOut (g / 8) (g % 8, 0, 0) s

/-- SEG_BLANK (R61): a segment that no packet can reach is sent nothing (log entry 48). -/
def bodySegBlank (c : Ctx) (s : State) : State :=
  need 1 c (fun s =>
    let l := (objects c).filter (segReached s)
    let mode := arg c 0 1
    if 2 < mode then refuse c St.range s
    else respondTo c St.ok [] (forEach l (fun g t => if mode == 0 then segDarkNext g t else segBlankNow g mode t) s)) s

/-- SEG_DEFAULT_LOAD (R62). -/
def bodySegDefaultLoad (c : Ctx) (s : State) : State :=
  withBulk c (fun b s =>
    let g := c.m.index.toNat
    staged c g
      (fun b s => if b.size != 8192 then refuse c St.range s
        else respondTo c St.ok [] (startLoad { code := c.code, obj := g, size := b.size, got := [], extra := [] } s))
      (fun _ d s =>
        if !(segReached s g) then refuse c St.state s
        else
          let q := (List.range 16).map fun k => (g % 8, k, k == 15, (d.drop (512 * k)).take 512)
          let s := acceptOp c clsSegment g g ((List.range 4096).map fun i => leAt d (2 * i) 2) s
          s.modLink (g / 8) fun l => { l with defQ := l.defQ ++ q }) b s) s

/-- POL_GET (R346). -/
def execPolGet (m : Msg) (s : State) : Host.Outcome State Fault Refusal := done (serve 0x0900 bodyPolGet m (rasterFirst s))
/-- POL_SET (R233). -/
def execPolSet (m : Msg) (s : State) : Host.Outcome State Fault Refusal := done (serve 0x0901 bodyPolSet m (rasterFirst s))
/-- FB_RAISE (R244). -/
def execFbRaise (m : Msg) (s : State) : Host.Outcome State Fault Refusal := done (serve 0x0902 bodyFbRaise m (rasterFirst s))
/-- FB_CLEAR (R248). -/
def execFbClear (m : Msg) (s : State) : Host.Outcome State Fault Refusal := done (serve 0x0903 bodyFbClear m (rasterFirst s))
/-- LINK_GET (R346). -/
def execLinkGet (m : Msg) (s : State) : Host.Outcome State Fault Refusal := done (serve 0x0B00 bodyLinkGet m (rasterFirst s))
/-- LINK_ENABLE (R81). -/
def execLinkEnable (m : Msg) (s : State) : Host.Outcome State Fault Refusal := done (serve 0x0B01 bodyLinkEnable m (rasterFirst s))
/-- LINK_RETRAIN (R74). -/
def execLinkRetrain (m : Msg) (s : State) : Host.Outcome State Fault Refusal := done (serve 0x0B02 bodyLinkRetrain m (rasterFirst s))
/-- STREAM_CFG (R111). -/
def execStreamCfg (m : Msg) (s : State) : Host.Outcome State Fault Refusal := done (serve 0x0B03 bodyStreamCfg m (rasterFirst s))
/-- QUAD_CFG (R297). -/
def execQuadCfg (m : Msg) (s : State) : Host.Outcome State Fault Refusal := done (serve 0x0B04 bodyQuadCfg m (rasterFirst s))
/-- LANE_TEST (R310). -/
def execLaneTest (m : Msg) (s : State) : Host.Outcome State Fault Refusal := done (serve 0x0B05 bodyLaneTest m (rasterFirst s))
/-- NET_CFG (R346). -/
def execNetCfg (m : Msg) (s : State) : Host.Outcome State Fault Refusal := done (serve 0x0B06 bodyNetCfg m (rasterFirst s))
/-- SEG_BLANK (R61). -/
def execSegBlank (m : Msg) (s : State) : Host.Outcome State Fault Refusal := done (serve 0x0B07 bodySegBlank m (rasterFirst s))
/-- SEG_DEFAULT_LOAD (R62). -/
def execSegDefaultLoad (m : Msg) (s : State) : Host.Outcome State Fault Refusal := done (serve 0x0B08 bodySegDefaultLoad m (rasterFirst s))

end Sys2Proof.Machine
end

