-- ==== Sys2Proof/Machine/CmdFab.lean ====
section
/-! DEFINITION. Commands of classes FAB and TIME (Table CMD-8). -/
namespace Sys2Proof.Machine

/-! ### FAB -/

/-- FAB_GET: status and counters of the device, or status, neighbour and counters of a port. -/
def bodyFabGet (c : Ctx) (s : State) : State :=
  if c.m.cls == 0 then readBack c (regWords s (Reg.FAB_STATUS :: regSpan Reg.FAB_CNT_DISCOVERY Reg.FAB_CNT_SEND_CUT)) s
  else readBack c ((objects c).flatMap fun p => regWords s
    ([Reg.FAB_P_STATUS p, Reg.FAB_P_NEIGH_LO p, Reg.FAB_P_NEIGH_HI p] ++ regSpan (Reg.FAB_P_CNT_CRC p) (Reg.FAB_P_CTRL p + 0x5C))) s

/-- FAB_CFG (R256, R258): RANGE for a PREF_ID outside 0x001 to 0xFFE with PREF_EN. -/
def bodyFabCfg (c : Ctx) (s : State) : State :=
  need 4 c (fun s =>
    let b := arg c 0 1
    let id := arg c 2 2
    if 0xFFE < id || (b.testBit 2 && id == 0) then refuse c St.range s
    else
      let s := ((s.wf Reg.FAB_CTRL 1 1 (b / 2)).wf Reg.FAB_CTRL 2 12 id).wf Reg.FAB_CTRL 14 1 (b / 4)
      respondTo c St.ok [] (fabEnable (b.testBit 0) s)) s

/-- FAB_PORT (R251, R298): an enable on lanes of a quad of another use is refused. -/
def bodyFabPort (c : Ctx) (s : State) : State :=
  need 3 c (fun s =>
    let p := c.m.index.toNat
    let w := BitVec.ofNat 32 (arg c 0 1 + 2 * arg c 1 1 + 8 * arg c 2 1)
    if 1 < arg c 0 1 || 2 < arg c 1 1 || 23 < arg c 2 1 then refuse c St.range s
    else if arg c 0 1 == 1 && !(laneChoiceOk s 2 w) then refuse c St.state s
    else respondTo c St.ok [] (regWrite (Reg.FAB_P_CTRL p) w s)) s

/-- FAB_GROUP (R261): the root computes the group's tree and commits new routes, at once or with those it is about to send. -/
def bodyFabGroup (c : Ctx) (s : State) : State :=
  need 6 c (fun s =>
    let n := arg c 4 2
    let g := arg c 0 1
    need (6 + 2 * n) c (fun s =>
      if n == 0 || 1024 < n then refuse c St.range s
      else if !(isRoot s) then refuse c St.state s
      else
        let e := (g, arg c 2 2, (List.range n).map fun i => arg c (6 + 2 * i) 2)
        let s := acceptOp c clsDevice 0 0 [] { s with fab := { s.fab with grp := s.fab.grp.filter (·.1 != g) ++ [e] } }
        when s.fab.asg.isNone sendRoutes s) s) s

/-- FAB_FWD (R269). -/
def bodyFabFwd (c : Ctx) (s : State) : State :=
  need 12 c (fun s =>
    let n := arg c 0 1
    let l := [(Reg.FAB_FWD_CFG n, BitVec.ofNat 32 (arg c 4 4)), (Reg.FAB_FWD_LINES n, BitVec.ofNat 32 (arg c 8 4))]
    if 15 < n || l.any (fun e => reservedWord s e.1 e.2) then refuse c St.range s
    else respondTo c St.ok [] (writeWords l s)) s

/-- FAB_SUB (R271): STATE for a surface with one buffer, or one the fabric does not fill. -/
def bodyFabSub (c : Ctx) (s : State) : State :=
  need 16 c (fun s =>
    let n := arg c 0 1
    let w := BitVec.ofNat 32 (arg c 4 4)
    let f := fld w 1 6
    let l := [(Reg.FAB_SUB_CFG n, w), (Reg.FAB_SUB_WIN n, BitVec.ofNat 32 (arg c 8 4)), (Reg.FAB_SUB_LOSS_TIMEOUT n, BitVec.ofNat 32 (arg c 12 4))]
    if 15 < n || l.any (fun e => reservedWord s e.1 e.2) then refuse c St.range s
    else if w.getLsbD 0 && (!(surfValid s f) || surfSource s f != 5 || surfBufs s f == 1) then refuse c St.state s
    else respondTo c St.ok [] (writeWords l s)) s

/-- FAB_REDISCOVER (R264): STATE on a device that has not joined the fabric. -/
def bodyFabRediscover (c : Ctx) (s : State) : State :=
  if s.bit Reg.FAB_CTRL 0 then respondTo c St.ok [] (fabDiscover s) else refuse c St.state s

/-- A record of FAB_TOPO (log entry 47): FID, UID, then for each port the neighbour's FID, its port, and the low half of its UID. -/
def topoRecord (s : State) (d : TopoDev) : List Byte :=
  leBytes 2 d.fid ++ leBytes 2 0 ++ leBytes 8 d.uid ++ d.neigh.flatMap fun e =>
    leBytes 2 (((s.fab.topo.find? (·.uid == e.1)).map (·.fid)).getD 0) ++ leBytes 1 e.2 ++ leBytes 4 e.1

/-- FAB_TOPO: assigned devices from a FID upward. -/
def bodyFabTopo (c : Ctx) (s : State) : State :=
  need 4 c (fun s =>
    let n := arg c 2 2
    if n == 0 || 100 < n then refuse c St.range s
    else if !(isRoot s) then refuse c St.state s
    else
      let l := (List.range 4095).filterMap fun f => if arg c 0 2 ≤ f then s.fab.topo.find? (·.fid == f) else none
      readBack c ((l.take n).flatMap (topoRecord s)) s) s

/-! ### TIME -/

/-- TIME_GET (R277, R278). -/
def bodyTimeGet (c : Ctx) (s : State) : State :=
  readBack c (leBytes 8 s.nowNs ++ leBytes 6 (seconds s) ++ leBytes 2 0 ++ leBytes 4 (nanos s) ++ leBytes 1 (s.fd Reg.PTP_STATUS 0 2) ++
    leBytes 1 0 ++ leBytes 2 (wrapInt 16 s.ptp.utc)) s

/-- TIME_SET (R288). -/
def bodyTimeSet (c : Ctx) (s : State) : State :=
  need 16 c (fun s =>
    let v := arg c 8 8
    if 1 < arg c 0 1 then refuse c St.range s
    else respondTo c St.ok [] (if arg c 0 1 == 0 then setTime (v * 2 ^ 32) s else stepTime (ns16 (sext 64 v)) s)) s

/-- TIME_UTC (R278). -/
def bodyTimeUtc (c : Ctx) (s : State) : State :=
  need 2 c (fun s => respondTo c St.ok [] { s with ptp := { s.ptp with utc := sext 16 (arg c 0 2) } }) s

/-- SERVO_CFG: the LOAD and STEP registers are outside its range. -/
def bodyServoCfg (c : Ctx) (s : State) : State :=
  regSet c [Reg.PTP_CTRL] (fun o => decide (o ≤ 0x74) && !(decide (0x30 ≤ o ∧ o ≤ 0x40))) noCheck none s

/-- PTP_PORT (R281). -/
def bodyPtpPort (c : Ctx) (s : State) : State :=
  need 12 c (fun s =>
    let n := c.m.index.toNat
    let q := if c.m.cls == 5 then n else 4 + n
    let w := BitVec.ofNat 32 (arg c 0 4)
    let l := [(Reg.PTP_PORT_CFG q, w), (Reg.PTP_PORT_EG_ADJ q, BitVec.ofNat 32 (arg c 4 4)), (Reg.PTP_PORT_IG_ADJ q, BitVec.ofNat 32 (arg c 8 4))]
    if 5 < q then refuse c St.state s
    else if l.any (fun e => reservedWord s e.1 e.2) then refuse c St.range s
    else if w.getLsbD 0 && !(ptpStamps s q) then refuse c St.state s
    else respondTo c St.ok [] (writeWords l s)) s

/-- TT_ARM (R290): the answer shows STATE and SKIP. -/
def bodyTtArm (c : Ctx) (s : State) : State :=
  need 2 c (fun s =>
    let n := arg c 0 1
    let f := arg c 1 1
    let answer (t : State) : State := respondTo c St.ok (leBytes 1 (ttState t n) ++ leBytes 3 0 ++ leBytes 4 (t.rd (Reg.PTP_TT_SKIP n)).toNat) t
    if 3 < n then refuse c St.range s
    else if f.testBit 2 then answer (ttCancel n s)
    else need 28 c (fun s =>
      answer (ttArm n (writeWords
        [(Reg.PTP_TT_START_LO n, BitVec.ofNat 32 (arg c 8 4)), (Reg.PTP_TT_START_HI n, BitVec.ofNat 32 (arg c 12 4)),
          (Reg.PTP_TT_PERIOD n, BitVec.ofNat 32 (arg c 16 4)), (Reg.PTP_TT_PERIOD_FRAC n, BitVec.ofNat 32 (arg c 20 2)),
          (Reg.PTP_TT_WIDTH n, BitVec.ofNat 32 (arg c 24 4))] (s.wf (Reg.PTP_TT_CFG n) 0 2 f)))) s) s

/-- TC_POP (R291): as many entries as asked for and held leave the FIFO. -/
def bodyTcPop (c : Ctx) (s : State) : State :=
  need 2 c (fun s =>
    let n := arg c 0 1
    let k := arg c 1 1
    if 3 < n || k == 0 || 16 < k then refuse c St.range s
    else respondTo c St.ok (((tcFifo s n).take k).flatMap fun e => leBytes 8 e.1 ++ leBytes 4 (b2n e.2)) (setTc n ((tcFifo s n).drop k) s)) s

/-- FAB_GET (R346). -/
def execFabGet (m : Msg) (s : State) : Host.Outcome State Fault Refusal := done (serve 0x0C00 bodyFabGet m (rasterFirst s))
/-- FAB_CFG (R256). -/
def execFabCfg (m : Msg) (s : State) : Host.Outcome State Fault Refusal := done (serve 0x0C01 bodyFabCfg m (rasterFirst s))
/-- FAB_PORT (R251). -/
def execFabPort (m : Msg) (s : State) : Host.Outcome State Fault Refusal := done (serve 0x0C02 bodyFabPort m (rasterFirst s))
/-- FAB_GROUP (R261). -/
def execFabGroup (m : Msg) (s : State) : Host.Outcome State Fault Refusal := done (serve 0x0C03 bodyFabGroup m (rasterFirst s))
/-- FAB_FWD (R269). -/
def execFabFwd (m : Msg) (s : State) : Host.Outcome State Fault Refusal := done (serve 0x0C04 bodyFabFwd m (rasterFirst s))
/-- FAB_SUB (R271). -/
def execFabSub (m : Msg) (s : State) : Host.Outcome State Fault Refusal := done (serve 0x0C05 bodyFabSub m (rasterFirst s))
/-- FAB_REDISCOVER (R264). -/
def execFabRediscover (m : Msg) (s : State) : Host.Outcome State Fault Refusal := done (serve 0x0C06 bodyFabRediscover m (rasterFirst s))
/-- FAB_TOPO (R346). -/
def execFabTopo (m : Msg) (s : State) : Host.Outcome State Fault Refusal := done (serve 0x0C07 bodyFabTopo m (rasterFirst s))
/-- TIME_GET (R277, R278). -/
def execTimeGet (m : Msg) (s : State) : Host.Outcome State Fault Refusal := done (serve 0x0D00 bodyTimeGet m (rasterFirst s))
/-- TIME_SET (R288). -/
def execTimeSet (m : Msg) (s : State) : Host.Outcome State Fault Refusal := done (serve 0x0D01 bodyTimeSet m (rasterFirst s))
/-- TIME_UTC (R278). -/
def execTimeUtc (m : Msg) (s : State) : Host.Outcome State Fault Refusal := done (serve 0x0D02 bodyTimeUtc m (rasterFirst s))
/-- SERVO_CFG (R286). -/
def execServoCfg (m : Msg) (s : State) : Host.Outcome State Fault Refusal := done (serve 0x0D03 bodyServoCfg m (rasterFirst s))
/-- PTP_PORT (R281). -/
def execPtpPort (m : Msg) (s : State) : Host.Outcome State Fault Refusal := done (serve 0x0D04 bodyPtpPort m (rasterFirst s))
/-- TT_ARM (R290). -/
def execTtArm (m : Msg) (s : State) : Host.Outcome State Fault Refusal := done (serve 0x0D05 bodyTtArm m (rasterFirst s))
/-- TC_POP (R291). -/
def execTcPop (m : Msg) (s : State) : Host.Outcome State Fault Refusal := done (serve 0x0D06 bodyTcPop m (rasterFirst s))

end Sys2Proof.Machine
end

