-- ==== Sys2Proof/Machine/CmdReg.lean ====
section
/-! DEFINITION. Commands of classes THERM/CAL, CRC, LOG and REG (Tables CMD-8 and CMD-9). -/
namespace Sys2Proof.Machine

/-! ### THERM/CAL -/

/-- SENSOR_GET: value, band and BROKEN of a channel, as HK.CHn_VALUE holds them. -/
def bodySensorGet (c : Ctx) (s : State) : State := readBack c (regWords s ((objects c).map Reg.HK_CH_VALUE)) s

/-- SENSOR_CFG. -/
def bodySensorCfg (c : Ctx) (s : State) : State := regSet c [Reg.HK_CH_CFG c.m.index.toNat] (fun o => decide (o ≤ 0x0C)) noCheck none s

/-- Unit that UNIT and index name (R403). -/
def calUnit (k i : Nat) : Option Nat :=
  match k with
  | 0 => if i < 32 then some i else none
  | 1 => if i < 32 then some (32 + i) else none
  | 2 => if i < 8 then some (64 + i) else none
  | 3 => if i < 24 then some (72 + i) else none
  | 4 => some 96
  | _ => none

/-- CAL_RUN (R404, R405): the unit is triggered and its field re-armed. -/
def bodyCalRun (c : Ctx) (s : State) : State :=
  need 4 c (fun s =>
    match calUnit (arg c 0 1) (arg c 2 2) with
    | none => refuse c St.range s
    | some u =>
      if calHeld s u then refuse c St.busy s
      else if !(calInService s u) then refuse c St.state s
      else
        let s := acceptOp c clsDevice 0 0 [] (calEnqueue u (setCalUser u false s))
        { s with hk := { s.hk with calCtx := s.hk.calCtx ++ [(u, c)] } }) s

/-- CAL_SAVE (R408). -/
def bodyCalSave (c : Ctx) (s : State) : State := acceptOp c clsDevice 0 0 [] s

/-! ### CRC -/

/-- Configuration, result and INVALID of a channel. -/
def chWords (s : State) (n : Nat) : List Byte :=
  regWords s (regSpan (Reg.CRC_CH_CTRL n) (Reg.CRC_CH_AUX n) ++ [Reg.CRC_CH_RESULT n]) ++ leBytes 4 (b2n (s.bit (Reg.CRC_CH_STATUS n) 2))

/-- CRC_GET. -/
def bodyCrcGet (c : Ctx) (s : State) : State := readBack c ((objects c).flatMap (chWords s)) s

/-- The channel with EN cleared and the words of a set written. -/
def chWritten (n : Nat) (l : List (Nat × Word)) (s : State) : State :=
  writeWords (l.map fun e => if e.1 == Reg.CRC_CH_CTRL n then (e.1, setFld e.2 0 1 0) else e)
    (crcCtrl n (setFld (s.rd (Reg.CRC_CH_CTRL n)) 0 1 0) s)

/-- EN that a set leaves: that of a selected CTRL, or the present one. -/
def chEnNext (n : Nat) (l : List (Nat × Word)) (s : State) : Bool :=
  match l.find? (·.1 == Reg.CRC_CH_CTRL n) with | some e => e.2.getLsbD 0 | none => chEn s n

/-- CRC_CFG: STATE while the channel is named; a set to be enabled must pass the checks of R354. -/
def chCheck (n : Nat) (s : State) (l : List (Nat × Word)) : Nat :=
  let t := chWritten n l s
  if chNamed s n then St.state
  else if !(chEnNext n l s) || chSettingsOk t n then St.ok
  else if chFieldsOk t n then St.state
  else St.range

/-- CRC_CFG (R354). -/
def bodyCrcCfg (c : Ctx) (s : State) : State :=
  let n := c.m.index.toNat
  regSetWith (fun st _ t => refuse c st t)
    (fun l t => let u := chWritten n l t; when (chEnNext n l t) (crcCtrl n (setFld (u.rd (Reg.CRC_CH_CTRL n)) 0 1 1)) u)
    c [Reg.CRC_CH_CTRL n] (fun o => decide (o ≤ 0x2C)) (chCheck n) none s

/-- CRC_SCAN (R355): STATE unless the channel is enabled in SCAN and free of its users, RANGE for a range that may not be scanned. -/
def bodyCrcScan (c : Ctx) (s : State) : State :=
  let n := c.m.index.toNat
  if chNamed s n || !(chEn s n) || chMode s n != 0 then refuse c St.state s
  else if chBusy s n then refuse c St.busy (chStart n s)
  else if !(scanOk s n) then refuse c St.range (chStart n s)
  else chStart n (acceptOp c 11 n n [] s)

/-! ### LOG -/

/-- LOG_READ (R335): records from an EVSEQ on; of an empty log, the oldest is the one to come. -/
def bodyLogRead (c : Ctx) (s : State) : State :=
  need 5 c (fun s =>
    let n := arg c 4 1
    let first := arg c 0 4
    if n == 0 || 126 < n then refuse c St.range s
    else
      let l := s.mbx.log.filter fun r => decide ((r.seq + 2 ^ 32 - first) % 2 ^ 32 < 2 ^ 31)
      let old := (s.mbx.log.head?.map (·.seq)).getD s.mbx.evseq
      readBack c (leBytes 4 old ++ leBytes 4 ((s.mbx.evseq + 2 ^ 32 - 1) % 2 ^ 32) ++ (l.take n).flatMap EvRec.bytes) s) s

/-- LOG_CLEAR: EVSEQ continues. -/
def bodyLogClear (c : Ctx) (s : State) : State := respondTo c St.ok [] { s with mbx := { s.mbx with log := [] } }

/-! ### REG -/

/-- Status and command part of an access of `n` words from `a` that is refused before anything is done (R348); 0: none. -/
def regDenied (c : Ctx) (s : State) (a n : Nat) (write : Bool) : Nat × List Byte :=
  let l := (List.range n).map fun i => a + 4 * i
  let low := mbLevel s c.m.mb.val != 0
  if a % 4 != 0 || l.any (fun x => !(mapped x) || !(sameArea a x)) || (write && l.any inSnowWindow) then (St.range, [])
  else if low && (if write then l.any inMbxBlock else l.any inSnowWindow) then (St.denied, [])
  else match l.find? (areaOff s) with
    | some x => (St.domainOff, leBytes 4 x)
    | none => (0, [])

/-- First word of a write that R349 locks: LOOKAHEAD whatever OVERRIDE holds, a firmware-owned field without it. -/
def firstLocked (s : State) (l : List (Nat × Word)) (force : Bool) : Option Nat :=
  (l.find? fun e => movesLookahead s e.1 e.2 || (!force && changesOwned s e.1 e.2)).map (·.1)

/-- Words written by a REG command, each firmware-owned one with its event. -/
def regPut (l : List (Nat × Word)) (s : State) : State :=
  forEach l (fun e t => applyWord e.1 e.2 (when (changesOwned t e.1 e.2) (overrideEvent e.1) t)) s

/-- A REG write: refused whole, or made, with `part` as its command part. -/
def regStore (c : Ctx) (a : Nat) (l : List (Nat × Word)) (force : Bool) (part : List Byte) (s : State) : State :=
  let d := regDenied c s a l.length true
  if d.1 != 0 then respondTo c d.1 d.2 s
  else match firstLocked s l force with
    | some x => respondTo c St.locked (leBytes 4 x) s
    | none => respondTo c St.ok part (regPut l s)

/-- REG_READ (R348). -/
def bodyRegRead (c : Ctx) (s : State) : State :=
  need 6 c (fun s =>
    let a := arg c 0 4
    let n := arg c 4 2
    if n == 0 || 1018 < n then refuse c St.range s
    else
      let d := regDenied c s a n false
      if d.1 != 0 then respondTo c d.1 d.2 s
      else readBack c ((List.range n).flatMap fun i => leBytes 4 (spaceRead s (a + 4 * i)).toNat) s) s

/-- REG_WRITE (R349). -/
def bodyRegWrite (c : Ctx) (s : State) : State :=
  need 8 c (fun s =>
    let a := arg c 0 4
    let n := arg c 4 2
    if n == 0 || 1018 < n then refuse c St.range s
    else need (8 + 4 * n) c (fun s =>
      regStore c a ((List.range n).map fun i => (a + 4 * i, BitVec.ofNat 32 (arg c (8 + 4 * i) 4))) (arg c 6 1 % 2 == 1) [] s) s) s

/-- REG_RMW (R349): the answer holds the old word. -/
def bodyRegRmw (c : Ctx) (s : State) : State :=
  need 13 c (fun s =>
    let a := arg c 0 4
    let old := spaceRead s a
    regStore c a [(a, mergeBits (arg c 4 4) old (BitVec.ofNat 32 (arg c 8 4)))] (arg c 12 1 % 2 == 1) (leBytes 4 old.toNat) s) s

/-- SENSOR_GET (R346). -/
def execSensorGet (m : Msg) (s : State) : Host.Outcome State Fault Refusal := done (serve 0x0E00 bodySensorGet m (rasterFirst s))
/-- SENSOR_CFG (R346). -/
def execSensorCfg (m : Msg) (s : State) : Host.Outcome State Fault Refusal := done (serve 0x0E01 bodySensorCfg m (rasterFirst s))
/-- CAL_RUN (R404). -/
def execCalRun (m : Msg) (s : State) : Host.Outcome State Fault Refusal := done (serve 0x0E02 bodyCalRun m (rasterFirst s))
/-- CAL_SAVE (R408). -/
def execCalSave (m : Msg) (s : State) : Host.Outcome State Fault Refusal := done (serve 0x0E03 bodyCalSave m (rasterFirst s))
/-- CRC_GET (R346). -/
def execCrcGet (m : Msg) (s : State) : Host.Outcome State Fault Refusal := done (serve 0x0F00 bodyCrcGet m (rasterFirst s))
/-- CRC_CFG (R354). -/
def execCrcCfg (m : Msg) (s : State) : Host.Outcome State Fault Refusal := done (serve 0x0F01 bodyCrcCfg m (rasterFirst s))
/-- CRC_SCAN (R355). -/
def execCrcScan (m : Msg) (s : State) : Host.Outcome State Fault Refusal := done (serve 0x0F02 bodyCrcScan m (rasterFirst s))
/-- LOG_READ (R335). -/
def execLogRead (m : Msg) (s : State) : Host.Outcome State Fault Refusal := done (serve 0x1000 bodyLogRead m (rasterFirst s))
/-- LOG_CLEAR (R346). -/
def execLogClear (m : Msg) (s : State) : Host.Outcome State Fault Refusal := done (serve 0x1001 bodyLogClear m (rasterFirst s))
/-- REG_READ (R348). -/
def execRegRead (m : Msg) (s : State) : Host.Outcome State Fault Refusal := done (serve 0x1200 bodyRegRead m (rasterFirst s))
/-- REG_WRITE (R349). -/
def execRegWrite (m : Msg) (s : State) : Host.Outcome State Fault Refusal := done (serve 0x1201 bodyRegWrite m (rasterFirst s))
/-- REG_RMW (R349). -/
def execRegRmw (m : Msg) (s : State) : Host.Outcome State Fault Refusal := done (serve 0x1202 bodyRegRmw m (rasterFirst s))

end Sys2Proof.Machine
end

