-- ==== Sys2Proof/Machine/Dequeue.lean ====
section
/-! DEFINITION. Dequeuing of messages and the running of timed commands: the service of every command code (R324, R327, R340, R346), and
the end of staged loads (R343). -/
namespace Sys2Proof.Machine

/-- A code that no service has: `serve` answers RANGE before it comes here. -/
def bodyNone (c : Ctx) (s : State) : State := refuse c St.range s

def bodySysClass (code : Nat) : Ctx → State → State :=
  match code with
  | 0x0100 => bodySysInfo
  | 0x0101 => bodySysStatus
  | 0x0102 => bodySysReset
  | 0x0103 => bodySysProtect
  | 0x0104 => bodySysMbxCfg
  | 0x0105 => bodySysAliveReset
  | _ => bodyNone

def bodyPwrClass (code : Nat) : Ctx → State → State :=
  match code with
  | 0x0200 => bodyPwrGet
  | 0x0201 => bodyPwrEnter
  | 0x0202 => bodyPwrOff
  | 0x0203 => bodyPwrPadRelease
  | _ => bodyNone

def bodyRasClass (code : Nat) : Ctx → State → State :=
  match code with
  | 0x0300 => bodyRasGet
  | 0x0301 => bodyRasTiming
  | 0x0302 => bodyRasEpoch
  | 0x0303 => bodyRasEnable
  | 0x0304 => bodyRasSyncCfg
  | _ => bodyNone

def bodyLayerClass (code : Nat) : Ctx → State → State :=
  match code with
  | 0x0400 => bodyLayerGet
  | 0x0401 => bodyLayerSet
  | 0x0402 => bodyCanvasSet
  | 0x0403 => bodyLutLoad
  | 0x0410 => bodySurfCreate
  | 0x0411 => bodySurfDestroy
  | 0x0412 => bodySurfWrite
  | 0x0413 => bodySurfPublish
  | 0x0414 => bodySurfPool
  | _ => bodyNone

def bodyBeamClass (code : Nat) : Ctx → State → State :=
  match code with
  | 0x0500 => bodyBeamGet
  | 0x0501 => bodyListPut
  | 0x0502 => bodyBeamCfg
  | 0x0503 => bodyPatLoad
  | 0x0504 => bodyGlyphLoad
  | 0x0505 => bodyGridLoad
  | 0x0540 => bodyLaEnter
  | 0x0541 => bodyLaExit
  | 0x0542 => bodyLaTol
  | 0x0543 => bodyLaStatus
  | _ => bodyNone

def bodyCorrClass (code : Nat) : Ctx → State → State :=
  match code with
  | 0x0600 => bodyCorrRead
  | 0x0601 => bodyCorrStage
  | 0x0602 => bodyCorrApply
  | 0x0603 => bodyCorrSave
  | 0x0604 => bodyCorrCfg
  | 0x0605 => bodyCurveLoad
  | 0x0606 => bodySegCfg
  | _ => bodyNone

def bodyHealthClass (code : Nat) : Ctx → State → State :=
  match code with
  | 0x0700 => bodyHealthGet
  | 0x0701 => bodyMapRead
  | 0x0702 => bodyHealthClear
  | 0x0703 => bodyVfCapture
  | 0x0704 => bodyHealthSave
  | 0x0705 => bodyHealthCfg
  | _ => bodyNone

def bodySupplyClass (code : Nat) : Ctx → State → State :=
  match code with
  | 0x0800 => bodySupGet
  | 0x0801 => bodySupCfg
  | 0x0802 => bodySupRestart
  | 0x0803 => bodySupLimit
  | _ => bodyNone

def bodyPolderClass (code : Nat) : Ctx → State → State :=
  match code with
  | 0x0900 => bodyPolGet
  | 0x0901 => bodyPolSet
  | 0x0902 => bodyFbRaise
  | 0x0903 => bodyFbClear
  | _ => bodyNone

def bodySnowClass (code : Nat) : Ctx → State → State :=
  match code with
  | 0x0A00 => bodySnowGet
  | 0x0A01 => bodySlotBegin
  | 0x0A02 => bodySlotData
  | 0x0A03 => bodySlotEnd
  | 0x0A04 => bodySlotAbort
  | 0x0A05 => bodySlotDelete
  | 0x0A06 => bodySetDefault
  | 0x0A07 => bodyGainPut
  | 0x0A08 => bodyLevelsPut
  | _ => bodyNone

def bodyLinkClass (code : Nat) : Ctx → State → State :=
  match code with
  | 0x0B00 => bodyLinkGet
  | 0x0B01 => bodyLinkEnable
  | 0x0B02 => bodyLinkRetrain
  | 0x0B03 => bodyStreamCfg
  | 0x0B04 => bodyQuadCfg
  | 0x0B05 => bodyLaneTest
  | 0x0B06 => bodyNetCfg
  | 0x0B07 => bodySegBlank
  | 0x0B08 => bodySegDefaultLoad
  | _ => bodyNone

def bodyFabClass (code : Nat) : Ctx → State → State :=
  match code with
  | 0x0C00 => bodyFabGet
  | 0x0C01 => bodyFabCfg
  | 0x0C02 => bodyFabPort
  | 0x0C03 => bodyFabGroup
  | 0x0C04 => bodyFabFwd
  | 0x0C05 => bodyFabSub
  | 0x0C06 => bodyFabRediscover
  | 0x0C07 => bodyFabTopo
  | _ => bodyNone

def bodyTimeClass (code : Nat) : Ctx → State → State :=
  match code with
  | 0x0D00 => bodyTimeGet
  | 0x0D01 => bodyTimeSet
  | 0x0D02 => bodyTimeUtc
  | 0x0D03 => bodyServoCfg
  | 0x0D04 => bodyPtpPort
  | 0x0D05 => bodyTtArm
  | 0x0D06 => bodyTcPop
  | _ => bodyNone

def bodyCalClass (code : Nat) : Ctx → State → State :=
  match code with
  | 0x0E00 => bodySensorGet
  | 0x0E01 => bodySensorCfg
  | 0x0E02 => bodyCalRun
  | 0x0E03 => bodyCalSave
  | _ => bodyNone

def bodyCrcClass (code : Nat) : Ctx → State → State :=
  match code with
  | 0x0F00 => bodyCrcGet
  | 0x0F01 => bodyCrcCfg
  | 0x0F02 => bodyCrcScan
  | _ => bodyNone

def bodyLogClass (code : Nat) : Ctx → State → State :=
  match code with
  | 0x1000 => bodyLogRead
  | 0x1001 => bodyLogClear
  | _ => bodyNone

def bodyFwClass (code : Nat) : Ctx → State → State :=
  match code with
  | 0x1100 => bodyFwInfo
  | 0x1101 => bodyFwBegin
  | 0x1102 => bodyFwData
  | 0x1103 => bodyFwVerify
  | 0x1104 => bodyFwCommit
  | 0x1105 => bodyFwAbort
  | _ => bodyNone

def bodyRegClass (code : Nat) : Ctx → State → State :=
  match code with
  | 0x1200 => bodyRegRead
  | 0x1201 => bodyRegWrite
  | 0x1202 => bodyRegRmw
  | _ => bodyNone

/-- The service of a command code. -/
def svcBody (code : Nat) : Ctx → State → State :=
  match code / 256 with
  | 0x01 => bodySysClass code
  | 0x02 => bodyPwrClass code
  | 0x03 => bodyRasClass code
  | 0x04 => bodyLayerClass code
  | 0x05 => bodyBeamClass code
  | 0x06 => bodyCorrClass code
  | 0x07 => bodyHealthClass code
  | 0x08 => bodySupplyClass code
  | 0x09 => bodyPolderClass code
  | 0x0A => bodySnowClass code
  | 0x0B => bodyLinkClass code
  | 0x0C => bodyFabClass code
  | 0x0D => bodyTimeClass code
  | 0x0E => bodyCalClass code
  | 0x0F => bodyCrcClass code
  | 0x10 => bodyLogClass code
  | 0x11 => bodyFwClass code
  | 0x12 => bodyRegClass code
  | _ => bodyNone

/-- One inbound message is dequeued and served (R327). -/
def dequeueOne (s : State) : State := dequeue (fun code m => serve code (svcBody code) m) s

/-- Message dequeue (R327). -/
def execMessageDequeue (s : State) : Host.Outcome State Fault Refusal := done (dequeueOne (rasterFirst s))

/-- A pending timed command reaches its target (R42, R345): it runs, late within its tolerance or not, or is refused TOO_LATE. A tick that has
not come is gone to; a frame that has not begun is waited for. Nothing runs while the mailboxes pause (R337);
after an orderly stop it is refused with STATE (R399). -/
def timedDue (i : Nat) (s : State) : State :=
  match s.mbx.timed[i]? with
  | none => s
  | some d =>
    let t := d.t
    let c := d.ctx
    if s.bit Reg.MBX_STATUS 0 || s.pwr.quiesced then s
    else
      let s := rasterFirst (if timedOnRaster c then s else s.advanceTo (ns16 (Int.ofNat t)))
      if s.mbx.timed[i]? == some d && !(s.bit Reg.MBX_STATUS 0) && timedReady s c t then
        let s := { s with mbx := { s.mbx with timed := s.mbx.timed.eraseIdx i } }
        timedCounts (if s.pwr.stopped then respondTo c St.state [] s else runTimed (svcBody c.code) c t d.tol s)
      else s

/-- A timed command is due (R42). -/
def execTimedCommandDue (n : Fin 16) (s : State) : Host.Outcome State Fault Refusal := done (timedDue n.val s)

/-- A staged load without a message for 10 s is abandoned; its object stays invalid. The 10 s have passed: time goes on to there when it is
not there yet (R343). -/
def loadTimeout (code obj : Nat) (s : State) : State :=
  match loadOf s code obj with
  | none => s
  | some l => dropLoad code obj (s.advanceTo (ns16 (l.last + 10000000000 : Nat)))

/-- Staged load timeout (R343). -/
def execStagedLoadTimeout (code : BitVec 16) (obj : BitVec 16) (s : State) : Host.Outcome State Fault Refusal :=
  done (loadTimeout code.toNat obj.toNat s)

end Sys2Proof.Machine
end

