-- ==== Sys2Proof/Machine/Ordered.lean ====
section
/-! DEFINITION. The pins, the network and the host within a tick: the raster boundaries of the tick go first (R37, R38). -/
namespace Sys2Proof.Machine

/-! ### Pins -/

/-- SYNC_IN edge (R32). -/
def execSyncInEdge (rising : Bool) (at10 : Nat) (s : State) : Host.Outcome State Fault Refusal :=
  done (syncEdge rising at10 (rasterFirst s))

/-- TE_IN edge (R79). -/
def execTeEdge (rising : Bool) (at10 : Nat) (s : State) : Host.Outcome State Fault Refusal := done (teEdge rising at10 (rasterFirst s))

/-- The housekeeping round ends (R387): a band decided in the tick of a phase 0 waits for the next (R395). -/
def execHkRoundEnd (s : State) : Host.Outcome State Fault Refusal := done (roundEnd (rasterFirst s))

/-! ### Network -/

/-- VSTART received (R97). -/
def execVstart (n : Fin 4) (sfn width height : BitVec 16) (format : Byte) (ts period : BitVec 32) (s : State) :
    Host.Outcome State Fault Refusal := done (vstart n.val sfn.toNat width.toNat height.toNat format.toNat ts period (rasterFirst s))

/-- LINE received (R94). -/
def execLine (n : Fin 4) (sfn line : BitVec 16) (format : Byte) (width : BitVec 16) (pixels : List Byte) (stored : Bool)
    (s : State) : Host.Outcome State Fault Refusal :=
  done (lineIn n.val sfn.toNat line.toNat format.toNat width.toNat pixels stored (rasterFirst s))

/-- VEND received (R97). -/
def execVend (n : Fin 4) (sfn _lines : BitVec 16) (_tsEnd : BitVec 32) (s : State) : Host.Outcome State Fault Refusal :=
  done (vend n.val sfn.toNat (rasterFirst s))

/-- PIXEL_STRIP received (R272). -/
def execPixelStrip (p : Fin 4) (h : FabHdr) (data : List Byte) (s : State) : Host.Outcome State Fault Refusal :=
  done (pixelStrip p.val h data (rasterFirst s))

/-- CONTROL received (R268). -/
def execControl (p : Fin 4) (h : FabHdr) (data : List Byte) (s : State) : Host.Outcome State Fault Refusal :=
  done (control p.val h data (rasterFirst s))

/-- Ethernet frame received (R313, R314). -/
def execMacFrameRx (m : Fin 2) (macPs : Nat) (frame : List Byte) (fcsOk : Bool) (s : State) : Host.Outcome State Fault Refusal :=
  done (frameIn m.val macPs frame fcsOk (rasterFirst s))

/-- CAN FD frame received (R315). -/
def execCanFrameRx (m : Fin 2) (id : BitVec 29) (ext : Bool) (flags : Fin 8) (data : List Byte) (s : State) :
    Host.Outcome State Fault Refusal := done (canIn m.val id.toNat ext flags.val data (rasterFirst s))

/-! ### Host: registers whose write sets something going -/

/-- RAS.CTRL.ENABLE (R43, R453). -/
def execRasCtrlEnable (v : Bool) (s : State) : Host.Outcome State Fault Refusal := done (rasEnable v (rasterFirst s))

/-- RAS.TIMING_COMMIT (R44). -/
def execRasTimingCommit (s : State) : Host.Outcome State Fault Refusal := done (timingCommit (rasterFirst s))

/-- RAS.TACTn_CTRL.ARM (R40). -/
def execTactArm (n : Fin 16) (s : State) : Host.Outcome State Fault Refusal := done (tactArm n.val (rasterFirst s))

/-- RAS.TACTn_CTRL.CANCEL (Table RAS-10). -/
def execTactCancel (n : Fin 16) (s : State) : Host.Outcome State Fault Refusal := done (tactCancel n.val (rasterFirst s))

/-- CMP.LAYERn_COMMIT (R126). -/
def execLayerCommit (n : Fin 8) (s : State) : Host.Outcome State Fault Refusal := done (layerCommit n.val (rasterFirst s))

/-- CMP.GLOBAL_COMMIT (R126). -/
def execGlobalCommit (s : State) : Host.Outcome State Fault Refusal := done (globalCommit (rasterFirst s))

/-- BEAM.COMMIT (R160). -/
def execBeamCommit (s : State) : Host.Outcome State Fault Refusal := done (beamCommit (rasterFirst s))

/-- BEAM.CTRL.EN (R148). -/
def execBeamCtrlEn (v : Bool) (s : State) : Host.Outcome State Fault Refusal := done (beamEn v (rasterFirst s))

/-- CORR.COMMIT (R175). -/
def execCorrCommit (s : State) : Host.Outcome State Fault Refusal := done (corrCommit (rasterFirst s))

/-- POL.COMMIT (R233). -/
def execPolCommit (s : State) : Host.Outcome State Fault Refusal := done (polCommit (rasterFirst s))

/-- POL.FB_CTRL.RAISE (R244). -/
def execFbCtrlRaise (slot : Fin 4) (s : State) : Host.Outcome State Fault Refusal := done (fbRaise 6 0 slot.val (rasterFirst s))

/-- POL.FB_CTRL.CLEAR (R248). -/
def fbCtrlClear (s : State) : State := if clearRefused s then s.count Reg.POL_CNT_CLEAR_REJ else fbClear s

/-- POL.FB_CTRL.CLEAR as a command. -/
def execFbCtrlClear (s : State) : Host.Outcome State Fault Refusal := done (fbCtrlClear (rasterFirst s))

/-- SLK.LINKn_CTRL.EN (R81). -/
def execLinknCtrlEn (n : Fin 32) (v : Bool) (s : State) : Host.Outcome State Fault Refusal := done (linkEn n.val v (rasterFirst s))

/-- SLK.LINKn_CTRL.RETRAIN (R74). -/
def execLinknCtrlRetrain (n : Fin 32) (s : State) : Host.Outcome State Fault Refusal := done (linkRetrain n.val (rasterFirst s))

/-- SLK.TE_MASK (R79). -/
def execTeMaskWrite (w : Word) (s : State) : Host.Outcome State Fault Refusal := done (teMask w (rasterFirst s))

/-- SDS.STRn_CTRL.EN (R89). -/
def execStreamEn (n : Fin 4) (v : Bool) (s : State) : Host.Outcome State Fault Refusal := done (streamEn n.val v (rasterFirst s))

/-- FAB.Pp_CTRL.EN (R298). -/
def execFabPortEn (p : Fin 4) (v : Bool) (s : State) : Host.Outcome State Fault Refusal := done (fabPortEn p.val v (rasterFirst s))

/-- SDS.Qq_CFG written (R297). -/
def execQuadCfgWrite (q : Fin 6) (w : Word) (s : State) : Host.Outcome State Fault Refusal := done (quadCfg q.val w (rasterFirst s))

/-- SDS.LANEl_CTRL.TEST (R310). -/
def execLaneTestWrite (l : Fin 24) (w : Word) (s : State) : Host.Outcome State Fault Refusal := done (laneCtrl l.val w (rasterFirst s))

/-- SDS.LANEl_RESTART.RESTART (R304). -/
def execLaneRestart (l : Fin 24) (s : State) : Host.Outcome State Fault Refusal := done (laneRestart l.val (rasterFirst s))

/-- CRC.CHc_CMD.START (R355). -/
def execCrcChcStart (c : Fin 8) (s : State) : Host.Outcome State Fault Refusal := done (chStart c.val (rasterFirst s))

/-- SUP.CTRL.EN (R206). -/
def execSupCtrlEn (v : Bool) (s : State) : Host.Outcome State Fault Refusal := done (supEnable v (rasterFirst s))

/-- SUP.PHASE_EN (R224). -/
def execSupPhaseEn (w : Word) (s : State) : Host.Outcome State Fault Refusal := done (supPhaseEn w (rasterFirst s))

/-- SUP.RESTART.RESTART (R224). -/
def execSupRestartReg (s : State) : Host.Outcome State Fault Refusal := done (supRestart (rasterFirst s))

/-- FAB.CTRL.EN (R264). -/
def execFabCtrlEn (v : Bool) (s : State) : Host.Outcome State Fault Refusal := done (fabEnable v (rasterFirst s))

/-- LOAD (R288). -/
def execSetCtrlLoad (s : State) : Host.Outcome State Fault Refusal := done (timeLoad (rasterFirst s))

/-- STEP (R288). -/
def execSetCtrlStep (s : State) : Host.Outcome State Fault Refusal := done (timeStep (rasterFirst s))

/-- PTP.TTn_CTRL.ARM (R290). -/
def execTtnArm (n : Fin 4) (s : State) : Host.Outcome State Fault Refusal := done (ttArm n.val (rasterFirst s))

/-- PTP.TTn_CTRL.CANCEL (R290). -/
def execTtnCancel (n : Fin 4) (s : State) : Host.Outcome State Fault Refusal := done (ttCancel n.val (rasterFirst s))

/-- PTP.TCn_POP (R291). -/
def execTcnPop (n : Fin 4) (s : State) : Host.Outcome State Fault Refusal := done (tcPop n.val (rasterFirst s))

/-- CANm.RESTART (R315). -/
def execCanRestart (m : Fin 2) (s : State) : Host.Outcome State Fault Refusal := done (canBack m.val (rasterFirst s))

/-! ### Commands of classes PWR, SNOW and FW -/

/-- FW_BEGIN (R336). -/
def execFwBegin (m : Msg) (s : State) : Host.Outcome State Fault Refusal := done (serve 0x1101 bodyFwBegin m (rasterFirst s))
/-- FW_DATA (R336). -/
def execFwData (m : Msg) (s : State) : Host.Outcome State Fault Refusal := done (serve 0x1102 bodyFwData m (rasterFirst s))
/-- FW_VERIFY (R336). -/
def execFwVerify (m : Msg) (s : State) : Host.Outcome State Fault Refusal := done (serve 0x1103 bodyFwVerify m (rasterFirst s))
/-- FW_COMMIT (R337). -/
def execFwCommit (m : Msg) (s : State) : Host.Outcome State Fault Refusal := done (serve 0x1104 bodyFwCommit m (rasterFirst s))
/-- FW_ABORT (R336). -/
def execFwAbort (m : Msg) (s : State) : Host.Outcome State Fault Refusal := done (serve 0x1105 bodyFwAbort m (rasterFirst s))
/-- FW_INFO (R336). -/
def execFwInfo (m : Msg) (s : State) : Host.Outcome State Fault Refusal := done (serve 0x1100 bodyFwInfo m (rasterFirst s))
/-- PWR_ENTER (R347). -/
def execPwrEnter (m : Msg) (s : State) : Host.Outcome State Fault Refusal := done (serve 0x0201 bodyPwrEnter m (rasterFirst s))
/-- PWR_PAD_RELEASE (R424). -/
def execPwrPadRelease (m : Msg) (s : State) : Host.Outcome State Fault Refusal := done (serve 0x0203 bodyPwrPadRelease m (rasterFirst s))
/-- SNOW_GET (R346). -/
def execSnowGet (m : Msg) (s : State) : Host.Outcome State Fault Refusal := done (serve 0x0A00 bodySnowGet m (rasterFirst s))
/-- SLOT_BEGIN (R240). -/
def execSlotBegin (m : Msg) (s : State) : Host.Outcome State Fault Refusal := done (serve 0x0A01 bodySlotBegin m (rasterFirst s))
/-- SLOT_DATA (R240). -/
def execSlotData (m : Msg) (s : State) : Host.Outcome State Fault Refusal := done (serve 0x0A02 bodySlotData m (rasterFirst s))
/-- SLOT_END (R242). -/
def execSlotEnd (m : Msg) (s : State) : Host.Outcome State Fault Refusal := done (serve 0x0A03 bodySlotEnd m (rasterFirst s))
/-- SLOT_ABORT (R242). -/
def execSlotAbort (m : Msg) (s : State) : Host.Outcome State Fault Refusal := done (serve 0x0A04 bodySlotAbort m (rasterFirst s))
/-- SLOT_DELETE (R240). -/
def execSlotDelete (m : Msg) (s : State) : Host.Outcome State Fault Refusal := done (serve 0x0A05 bodySlotDelete m (rasterFirst s))
/-- SET_DEFAULT (R240). -/
def execSetDefault (m : Msg) (s : State) : Host.Outcome State Fault Refusal := done (serve 0x0A06 bodySetDefault m (rasterFirst s))
/-- GAIN_PUT (R240). -/
def execGainPut (m : Msg) (s : State) : Host.Outcome State Fault Refusal := done (serve 0x0A07 bodyGainPut m (rasterFirst s))
/-- LEVELS_PUT (R240). -/
def execLevelsPut (m : Msg) (s : State) : Host.Outcome State Fault Refusal := done (serve 0x0A08 bodyLevelsPut m (rasterFirst s))

end Sys2Proof.Machine
end

