-- ==== Sys2Proof/Machine/Dispatch.lean ====
section
/-! DEFINITION. exec: one arm per command, each one direct call of its meaning. -/
namespace Sys2Proof.Machine

def exec (i : Instr) (s : State) : Host.Outcome State Fault Refusal :=
  match i with
  | .sysInfo m => Sys2Proof.Machine.execSysInfo m s
  | .sysStatus m => Sys2Proof.Machine.execSysStatus m s
  | .sysReset m => Sys2Proof.Machine.execSysReset m s
  | .sysProtect m => Sys2Proof.Machine.execSysProtect m s
  | .sysMbxCfg m => Sys2Proof.Machine.execSysMbxCfg m s
  | .sysAliveReset m => Sys2Proof.Machine.execSysAliveReset m s
  | .pwrGet m => Sys2Proof.Machine.execPwrGet m s
  | .pwrEnter m => Sys2Proof.Machine.execPwrEnter m s
  | .pwrOff m => Sys2Proof.Machine.execPwrOff m s
  | .pwrPadRelease m => Sys2Proof.Machine.execPwrPadRelease m s
  | .rasGet m => Sys2Proof.Machine.execRasGet m s
  | .rasTiming m => Sys2Proof.Machine.execRasTiming m s
  | .rasEpoch m => Sys2Proof.Machine.execRasEpoch m s
  | .rasEnable m => Sys2Proof.Machine.execRasEnable m s
  | .rasSyncCfg m => Sys2Proof.Machine.execRasSyncCfg m s
  | .layerGet m => Sys2Proof.Machine.execLayerGet m s
  | .layerSet m => Sys2Proof.Machine.execLayerSet m s
  | .canvasSet m => Sys2Proof.Machine.execCanvasSet m s
  | .lutLoad m => Sys2Proof.Machine.execLutLoad m s
  | .surfCreate m => Sys2Proof.Machine.execSurfCreate m s
  | .surfDestroy m => Sys2Proof.Machine.execSurfDestroy m s
  | .surfWrite m => Sys2Proof.Machine.execSurfWrite m s
  | .surfPublish m => Sys2Proof.Machine.execSurfPublish m s
  | .surfPool m => Sys2Proof.Machine.execSurfPool m s
  | .beamGet m => Sys2Proof.Machine.execBeamGet m s
  | .listPut m => Sys2Proof.Machine.execListPut m s
  | .beamCfg m => Sys2Proof.Machine.execBeamCfg m s
  | .patLoad m => Sys2Proof.Machine.execPatLoad m s
  | .glyphLoad m => Sys2Proof.Machine.execGlyphLoad m s
  | .gridLoad m => Sys2Proof.Machine.execGridLoad m s
  | .corrRead m => Sys2Proof.Machine.execCorrRead m s
  | .corrStage m => Sys2Proof.Machine.execCorrStage m s
  | .corrApply m => Sys2Proof.Machine.execCorrApply m s
  | .corrSave m => Sys2Proof.Machine.execCorrSave m s
  | .corrCfg m => Sys2Proof.Machine.execCorrCfg m s
  | .curveLoad m => Sys2Proof.Machine.execCurveLoad m s
  | .segCfg m => Sys2Proof.Machine.execSegCfg m s
  | .healthGet m => Sys2Proof.Machine.execHealthGet m s
  | .mapRead m => Sys2Proof.Machine.execMapRead m s
  | .healthClear m => Sys2Proof.Machine.execHealthClear m s
  | .vfCapture m => Sys2Proof.Machine.execVfCapture m s
  | .healthSave m => Sys2Proof.Machine.execHealthSave m s
  | .healthCfg m => Sys2Proof.Machine.execHealthCfg m s
  | .supGet m => Sys2Proof.Machine.execSupGet m s
  | .supCfg m => Sys2Proof.Machine.execSupCfg m s
  | .supRestart m => Sys2Proof.Machine.execSupRestart m s
  | .supLimit m => Sys2Proof.Machine.execSupLimit m s
  | .polGet m => Sys2Proof.Machine.execPolGet m s
  | .polSet m => Sys2Proof.Machine.execPolSet m s
  | .fbRaise m => Sys2Proof.Machine.execFbRaise m s
  | .fbClear m => Sys2Proof.Machine.execFbClear m s
  | .snowGet m => Sys2Proof.Machine.execSnowGet m s
  | .slotBegin m => Sys2Proof.Machine.execSlotBegin m s
  | .slotData m => Sys2Proof.Machine.execSlotData m s
  | .slotEnd m => Sys2Proof.Machine.execSlotEnd m s
  | .slotAbort m => Sys2Proof.Machine.execSlotAbort m s
  | .slotDelete m => Sys2Proof.Machine.execSlotDelete m s
  | .setDefault m => Sys2Proof.Machine.execSetDefault m s
  | .gainPut m => Sys2Proof.Machine.execGainPut m s
  | .levelsPut m => Sys2Proof.Machine.execLevelsPut m s
  | .linkGet m => Sys2Proof.Machine.execLinkGet m s
  | .linkEnable m => Sys2Proof.Machine.execLinkEnable m s
  | .linkRetrain m => Sys2Proof.Machine.execLinkRetrain m s
  | .streamCfg m => Sys2Proof.Machine.execStreamCfg m s
  | .quadCfg m => Sys2Proof.Machine.execQuadCfg m s
  | .laneTest m => Sys2Proof.Machine.execLaneTest m s
  | .netCfg m => Sys2Proof.Machine.execNetCfg m s
  | .segBlank m => Sys2Proof.Machine.execSegBlank m s
  | .segDefaultLoad m => Sys2Proof.Machine.execSegDefaultLoad m s
  | .fabGet m => Sys2Proof.Machine.execFabGet m s
  | .fabCfg m => Sys2Proof.Machine.execFabCfg m s
  | .fabPort m => Sys2Proof.Machine.execFabPort m s
  | .fabGroup m => Sys2Proof.Machine.execFabGroup m s
  | .fabFwd m => Sys2Proof.Machine.execFabFwd m s
  | .fabSub m => Sys2Proof.Machine.execFabSub m s
  | .fabRediscover m => Sys2Proof.Machine.execFabRediscover m s
  | .fabTopo m => Sys2Proof.Machine.execFabTopo m s
  | .timeGet m => Sys2Proof.Machine.execTimeGet m s
  | .timeSet m => Sys2Proof.Machine.execTimeSet m s
  | .timeUtc m => Sys2Proof.Machine.execTimeUtc m s
  | .servoCfg m => Sys2Proof.Machine.execServoCfg m s
  | .ptpPort m => Sys2Proof.Machine.execPtpPort m s
  | .ttArm m => Sys2Proof.Machine.execTtArm m s
  | .tcPop m => Sys2Proof.Machine.execTcPop m s
  | .sensorGet m => Sys2Proof.Machine.execSensorGet m s
  | .sensorCfg m => Sys2Proof.Machine.execSensorCfg m s
  | .calRun m => Sys2Proof.Machine.execCalRun m s
  | .calSave m => Sys2Proof.Machine.execCalSave m s
  | .crcGet m => Sys2Proof.Machine.execCrcGet m s
  | .crcCfg m => Sys2Proof.Machine.execCrcCfg m s
  | .crcScan m => Sys2Proof.Machine.execCrcScan m s
  | .logRead m => Sys2Proof.Machine.execLogRead m s
  | .logClear m => Sys2Proof.Machine.execLogClear m s
  | .fwInfo m => Sys2Proof.Machine.execFwInfo m s
  | .fwBegin m => Sys2Proof.Machine.execFwBegin m s
  | .fwData m => Sys2Proof.Machine.execFwData m s
  | .fwVerify m => Sys2Proof.Machine.execFwVerify m s
  | .fwCommit m => Sys2Proof.Machine.execFwCommit m s
  | .fwAbort m => Sys2Proof.Machine.execFwAbort m s
  | .regRead m => Sys2Proof.Machine.execRegRead m s
  | .regWrite m => Sys2Proof.Machine.execRegWrite m s
  | .regRmw m => Sys2Proof.Machine.execRegRmw m s
  | .laEnter m => Sys2Proof.Machine.execLaEnter m s
  | .laExit m => Sys2Proof.Machine.execLaExit m s
  | .laTol m => Sys2Proof.Machine.execLaTol m s
  | .laStatus m => Sys2Proof.Machine.execLaStatus m s
  | .stagedLoadTimeout code obj => Sys2Proof.Machine.execStagedLoadTimeout code obj s
  | .mbnInSluice n w => Sys2Proof.Machine.execMbnInSluice n w s
  | .mbnOutSluice n w => Sys2Proof.Machine.execMbnOutSluice n w s
  | .messageDequeue => Sys2Proof.Machine.execMessageDequeue s
  | .responseRelease n => Sys2Proof.Machine.execResponseRelease n s
  | .timedCommandDue n => Sys2Proof.Machine.execTimedCommandDue n s
  | .forwardedResponse fid bytes => Sys2Proof.Machine.execForwardedResponse fid bytes s
  | .forwardRecordExpiry n => Sys2Proof.Machine.execForwardRecordExpiry n s
  | .mbxCanAssyTimeout m => Sys2Proof.Machine.execMbxCanAssyTimeout m s
  | .phase0 => Sys2Proof.Machine.execPhase0 s
  | .blankingStart => Sys2Proof.Machine.execBlankingStart s
  | .renderCutoff => Sys2Proof.Machine.execRenderCutoff s
  | .renderPassDone => Sys2Proof.Machine.execRenderPassDone s
  | .syncInEdge rising at10 => Sys2Proof.Machine.execSyncInEdge rising at10 s
  | .syncLost => Sys2Proof.Machine.execSyncLost s
  | .teEdge rising at10 => Sys2Proof.Machine.execTeEdge rising at10 s
  | .teWindowClose => Sys2Proof.Machine.execTeWindowClose s
  | .timeActionDue n => Sys2Proof.Machine.execTimeActionDue n s
  | .tactArm n => Sys2Proof.Machine.execTactArm n s
  | .tactCancel n => Sys2Proof.Machine.execTactCancel n s
  | .rasTimingCommit => Sys2Proof.Machine.execRasTimingCommit s
  | .rasCtrlEnable v => Sys2Proof.Machine.execRasCtrlEnable v s
  | .layerCommit n => Sys2Proof.Machine.execLayerCommit n s
  | .globalCommit => Sys2Proof.Machine.execGlobalCommit s
  | .beamCommit => Sys2Proof.Machine.execBeamCommit s
  | .corrCommit => Sys2Proof.Machine.execCorrCommit s
  | .polCommit => Sys2Proof.Machine.execPolCommit s
  | .beamCtrlEn v => Sys2Proof.Machine.execBeamCtrlEn v s
  | .fetchUnderrun layer seg row col => Sys2Proof.Machine.execFetchUnderrun layer seg row col s
  | .segmentComposed seg => Sys2Proof.Machine.execSegmentComposed seg s
  | .polderCheck n => Sys2Proof.Machine.execPolderCheck n s
  | .polderMismatch n expected => Sys2Proof.Machine.execPolderMismatch n expected s
  | .fbCtrlRaise slot => Sys2Proof.Machine.execFbCtrlRaise slot s
  | .fbCtrlClear => Sys2Proof.Machine.execFbCtrlClear s
  | .layerMissPolicy n => Sys2Proof.Machine.execLayerMissPolicy n s
  | .bufferRetired n => Sys2Proof.Machine.execBufferRetired n s
  | .linknCtrlEn n v => Sys2Proof.Machine.execLinknCtrlEn n v s
  | .linknCtrlRetrain n => Sys2Proof.Machine.execLinknCtrlRetrain n s
  | .teMaskWrite w => Sys2Proof.Machine.execTeMaskWrite w s
  | .heartbeat n => Sys2Proof.Machine.execHeartbeat n s
  | .heartbeatEcho n c => Sys2Proof.Machine.execHeartbeatEcho n c s
  | .heartbeatEchoTimeout n => Sys2Proof.Machine.execHeartbeatEchoTimeout n s
  | .upstreamLock n => Sys2Proof.Machine.execUpstreamLock n s
  | .upstreamLockLoss n => Sys2Proof.Machine.execUpstreamLockLoss n s
  | .trainReq n => Sys2Proof.Machine.execTrainReq n s
  | .trainRsp n r => Sys2Proof.Machine.execTrainRsp n r s
  | .probeEcho n rtt => Sys2Proof.Machine.execProbeEcho n rtt s
  | .calburstEcho n tap eye clean => Sys2Proof.Machine.execCalburstEcho n tap eye clean s
  | .trainingStateTimeout n => Sys2Proof.Machine.execTrainingStateTimeout n s
  | .retryWaitExpiry n => Sys2Proof.Machine.execRetryWaitExpiry n s
  | .downAttempt n => Sys2Proof.Machine.execDownAttempt n s
  | .ack n tag ty sub => Sys2Proof.Machine.execAck n tag ty sub s
  | .nak n tag ty sub reason inTime => Sys2Proof.Machine.execNak n tag ty sub reason inTime s
  | .ackTimeout n tag ty sub => Sys2Proof.Machine.execAckTimeout n tag ty sub s
  | .segStatus g fn classes => Sys2Proof.Machine.execSegStatus g fn classes s
  | .vfRow g fn row base samples => Sys2Proof.Machine.execVfRow g fn row base samples s
  | .headroom g fn mv => Sys2Proof.Machine.execHeadroom g fn mv s
  | .segTemp n fn temps => Sys2Proof.Machine.execSegTemp n fn temps s
  | .upstreamBadPacket n x => Sys2Proof.Machine.execUpstreamBadPacket n x s
  | .holdExpired g => Sys2Proof.Machine.execHoldExpired g s
  | .vstart n sfn width height format ts period => Sys2Proof.Machine.execVstart n sfn width height format ts period s
  | .line n sfn line format width pixels stored => Sys2Proof.Machine.execLine n sfn line format width pixels stored s
  | .vend n sfn lines tsEnd => Sys2Proof.Machine.execVend n sfn lines tsEnd s
  | .metaPacket n id data => Sys2Proof.Machine.execMeta n id data s
  | .frameTimeout n => Sys2Proof.Machine.execFrameTimeout n s
  | .streamLossTimeout n => Sys2Proof.Machine.execStreamLossTimeout n s
  | .streamEn n v => Sys2Proof.Machine.execStreamEn n v s
  | .fabPortEn p v => Sys2Proof.Machine.execFabPortEn p v s
  | .quadCfgWrite q w => Sys2Proof.Machine.execQuadCfgWrite q w s
  | .laneTestWrite l w => Sys2Proof.Machine.execLaneTestWrite l w s
  | .laneRestart l => Sys2Proof.Machine.execLaneRestart l s
  | .detectTest l term signal => Sys2Proof.Machine.execDetectTest l term signal s
  | .trainingSetsReceived l adapted sets ts2Run ts2Sent => Sys2Proof.Machine.execTrainingSetsReceived l adapted sets ts2Run ts2Sent s
  | .laneLock l bitLock commas => Sys2Proof.Machine.execLaneLock l bitLock commas s
  | .caps l c => Sys2Proof.Machine.execCaps l c s
  | .laneStageTimeout l => Sys2Proof.Machine.execLaneStageTimeout l s
  | .laneBackoffExpiry g => Sys2Proof.Machine.execLaneBackoffExpiry g s
  | .laneProbe g => Sys2Proof.Machine.execLaneProbe g s
  | .laneSignalDetect l => Sys2Proof.Machine.execLaneSignalDetect l s
  | .laneSignalLoss l align => Sys2Proof.Machine.execLaneSignalLoss l align s
  | .laneCodeErrors l n => Sys2Proof.Machine.execLaneCodeErrors l n s
  | .refclkFail k => Sys2Proof.Machine.execRefclkFail k s
  | .refclkPresent k fast => Sys2Proof.Machine.execRefclkPresent k fast s
  | .eios l => Sys2Proof.Machine.execEios l s
  | .fts l aligned => Sys2Proof.Machine.execFts l aligned s
  | .eiosAnswerTimeout l => Sys2Proof.Machine.execEiosAnswerTimeout l s
  | .macFrameRx m macPs frame fcsOk => Sys2Proof.Machine.execMacFrameRx m macPs frame fcsOk s
  | .macLinkChange m sync speed anDone remoteFault signal => Sys2Proof.Machine.execMacLinkChange m sync speed anDone remoteFault signal s
  | .canFrameRx m id ext flags data => Sys2Proof.Machine.execCanFrameRx m id ext flags data s
  | .beamCanAssyTimeout m => Sys2Proof.Machine.execBeamCanAssyTimeout m s
  | .busOffRecovery m => Sys2Proof.Machine.execBusOffRecovery m s
  | .canRestart m => Sys2Proof.Machine.execCanRestart m s
  | .listTimeout => Sys2Proof.Machine.execListTimeout s
  | .lampClass lamp => Sys2Proof.Machine.execLampClass lamp s
  | .reportLoss g => Sys2Proof.Machine.execReportLoss g s
  | .vfCaptureDone => Sys2Proof.Machine.execVfCaptureDone s
  | .corrCopyDone => Sys2Proof.Machine.execCorrCopyDone s
  | .crcScanEnd c ecc => Sys2Proof.Machine.execCrcScanEnd c ecc s
  | .crcChcEn c w => Sys2Proof.Machine.execCrcChcEn c w s
  | .crcChcStart c => Sys2Proof.Machine.execCrcChcStart c s
  | .vledOvervoltage => Sys2Proof.Machine.execVledOvervoltage s
  | .vledUndervoltage => Sys2Proof.Machine.execVledUndervoltage s
  | .phaseImbalance p => Sys2Proof.Machine.execPhaseImbalance p s
  | .currentSenseOpen p => Sys2Proof.Machine.execCurrentSenseOpen p s
  | .ovRestart => Sys2Proof.Machine.execOvRestart s
  | .softstartDone => Sys2Proof.Machine.execSoftstartDone s
  | .supCtrlEn v => Sys2Proof.Machine.execSupCtrlEn v s
  | .supPhaseEn w => Sys2Proof.Machine.execSupPhaseEn w s
  | .supRestartReg => Sys2Proof.Machine.execSupRestartReg s
  | .snowEccError addr double => Sys2Proof.Machine.execSnowEccError addr double s
  | .snowRestore part bad0 bad1 => Sys2Proof.Machine.execSnowRestore part bad0 bad1 s
  | .mirrorDone => Sys2Proof.Machine.execMirrorDone s
  | .mramRecordCommit rec => Sys2Proof.Machine.execMramRecordCommit rec s
  | .aliveOutToggle => Sys2Proof.Machine.execAliveOutToggle s
  | .fabCtrlEn v => Sys2Proof.Machine.execFabCtrlEn v s
  | .pixelStrip p h data => Sys2Proof.Machine.execPixelStrip p h data s
  | .control p h data => Sys2Proof.Machine.execControl p h data s
  | .time p h macPs data => Sys2Proof.Machine.execTime p h macPs data s
  | .hello p f => Sys2Proof.Machine.execHello p f s
  | .helloSend => Sys2Proof.Machine.execHelloSend s
  | .claimLapse p => Sys2Proof.Machine.execClaimLapse p s
  | .rootElected => Sys2Proof.Machine.execRootElected s
  | .noRoot => Sys2Proof.Machine.execNoRoot s
  | .assign p h d uid fid parent => Sys2Proof.Machine.execAssign p h d uid fid parent s
  | .assignAck p h d uid fid neigh => Sys2Proof.Machine.execAssignAck p h d uid fid neigh s
  | .assignTimeout => Sys2Proof.Machine.execAssignTimeout s
  | .route p h d id image => Sys2Proof.Machine.execRoute p h d id image s
  | .routeCommit p h id t => Sys2Proof.Machine.execRouteCommit p h id t s
  | .routeBankSwitch => Sys2Proof.Machine.execRouteBankSwitch s
  | .routeAck p h d id status => Sys2Proof.Machine.execRouteAck p h d id status s
  | .linkEvent p h uid port up nb => Sys2Proof.Machine.execLinkEvent p h uid port up nb s
  | .flow p init c0 c1 c2 c3 => Sys2Proof.Machine.execFlow p init c0 c1 c2 c3 s
  | .flowSend p => Sys2Proof.Machine.execFlowSend p s
  | .fabPacketDelay p v => Sys2Proof.Machine.execFabPacketDelay p v s
  | .subLossTimeout n => Sys2Proof.Machine.execSubLossTimeout n s
  | .ptpEventMessage q macPs msg => Sys2Proof.Machine.execPtpEventMessage q macPs msg s
  | .ptpMessageSend q macPs stamped msg => Sys2Proof.Machine.execPtpMessageSend q macPs stamped msg s
  | .servoOffset w => Sys2Proof.Machine.execServoOffset w s
  | .servoHoldover => Sys2Proof.Machine.execServoHoldover s
  | .setCtrlLoad => Sys2Proof.Machine.execSetCtrlLoad s
  | .setCtrlStep => Sys2Proof.Machine.execSetCtrlStep s
  | .timeNsRead => Sys2Proof.Machine.execTimeNsRead s
  | .ttnArm n => Sys2Proof.Machine.execTtnArm n s
  | .ttnCancel n => Sys2Proof.Machine.execTtnCancel n s
  | .ttOccurrence n => Sys2Proof.Machine.execTtOccurrence n s
  | .ttPulseEnd n => Sys2Proof.Machine.execTtPulseEnd n s
  | .captureEdge n falling total => Sys2Proof.Machine.execCaptureEdge n falling total s
  | .tcnPop n => Sys2Proof.Machine.execTcnPop n s
  | .hkSlotEnd ch raw => Sys2Proof.Machine.execHkSlotEnd ch raw s
  | .hkRoundEnd => Sys2Proof.Machine.execHkRoundEnd s
  | .calibrationRunEnd u vals eye margin pass => Sys2Proof.Machine.execCalibrationRunEnd u vals eye margin pass s
  | .calFieldWrite a w => Sys2Proof.Machine.execCalFieldWrite a w s
  | .prewarnTrip => Sys2Proof.Machine.execPrewarnTrip s
  | .prewarnRelease => Sys2Proof.Machine.execPrewarnRelease s
  | .shutdown => Sys2Proof.Machine.execShutdown s
  | .stopStepDone => Sys2Proof.Machine.execStopStepDone s
  | .stopStepTimeout => Sys2Proof.Machine.execStopStepTimeout s
  | .wake hcs => Sys2Proof.Machine.execWake hcs s
  | .aonTimerWake => Sys2Proof.Machine.execAonTimerWake s
  | .tempWake => Sys2Proof.Machine.execTempWake s
  | .thawStepEnd => Sys2Proof.Machine.execThawStepEnd s
  | .vinUndervoltage mv => Sys2Proof.Machine.execVinUndervoltage mv s
  | .vinOvervoltage high mv => Sys2Proof.Machine.execVinOvervoltage high mv s
  | .por rise straps => Sys2Proof.Machine.execPor rise straps s
  | .resetN low => Sys2Proof.Machine.execResetN low s
  | .watchdog => Sys2Proof.Machine.execWatchdog s
  | .lockstep => Sys2Proof.Machine.execLockstep s
  | .clockFail => Sys2Proof.Machine.execClockFail s
  | .aonLoss => Sys2Proof.Machine.execAonLoss s
  | .vioLoss b => Sys2Proof.Machine.execVioLoss b s
  | .vioReturn b high => Sys2Proof.Machine.execVioReturn b high s
  | .xtalOk => Sys2Proof.Machine.execXtalOk s
  | .bootRomVerify goodA goodB => Sys2Proof.Machine.execBootRomVerify goodA goodB s
  | .lightStart => Sys2Proof.Machine.execLightStart s
  | .dramReady good => Sys2Proof.Machine.execDramReady good s
  | .fwResume => Sys2Proof.Machine.execFwResume s
  | .fwConfirm => Sys2Proof.Machine.execFwConfirm s
  | .fwUpdateTimeout => Sys2Proof.Machine.execFwUpdateTimeout s
  | .dramEccError addr lamp => Sys2Proof.Machine.execDramEccError addr lamp s
  | .sramEccError addr => Sys2Proof.Machine.execSramEccError addr s
  | .hostRead32 addr ecc => Sys2Proof.Machine.execHostRead32 addr ecc s
  | .hostReadBurst addr n ecc => Sys2Proof.Machine.execHostReadBurst addr n ecc s
  | .hostWrite32 addr data => Sys2Proof.Machine.execHostWrite32 addr data s
  | .hostWriteBurst addr data => Sys2Proof.Machine.execHostWriteBurst addr data s
  | .hostStatus n => Sys2Proof.Machine.execHostStatus n s
  | .badOpcode op => Sys2Proof.Machine.execBadOpcode op s
  | .hostWriteApply => Sys2Proof.Machine.execHostWriteApply s
  | .hostReadTimeout => Sys2Proof.Machine.execHostReadTimeout s
  | .hostWriteTimeout => Sys2Proof.Machine.execHostWriteTimeout s
  | .tableBaseWrite which w => Sys2Proof.Machine.execTableBaseWrite which w s
  | .bankWindowWrite a w => Sys2Proof.Machine.execBankWindowWrite a w s
  | .registerWrite a w => Sys2Proof.Machine.execRegisterWrite a w s
  | .badStreamPacket n x => Sys2Proof.Machine.execBadStreamPacket n x s
  | .fabricBadPacket p frame eop => Sys2Proof.Machine.execFabricBadPacket p frame eop s
  | .laneDeskewError fabric n => Sys2Proof.Machine.execLaneDeskewError fabric n s
  | .canErrorFrame m tec rec => Sys2Proof.Machine.execCanErrorFrame m tec rec s
  | .vledUndervoltageEnd => Sys2Proof.Machine.execVledUndervoltageEnd s
  | .vinUndervoltageEnd => Sys2Proof.Machine.execVinUndervoltageEnd s
  | .fwVerifyDone good => Sys2Proof.Machine.execFwVerifyDone good s
  | .startupReady => Sys2Proof.Machine.execStartupReady s
  | .syncOutPulse => Sys2Proof.Machine.execSyncOutPulse s
  | .syncOutPulseEnd => Sys2Proof.Machine.execSyncOutPulseEnd s
  | .streamSendFinish n => Sys2Proof.Machine.execStreamSendFinish n s
  | .prbsLock l count bits => Sys2Proof.Machine.execPrbsLock l count bits s

end Sys2Proof.Machine
end

