-- ==== Sys2Proof/Machine/Tick.lean ====
section
/-! DEFINITION. What the block does by itself when no command waits: one microsecond of its clock passes (R36, R277; log entry 1). -/
namespace Sys2Proof.Machine

/-- Rate adjustment A in 2⁻³² ns per ns (PTP.RATE). -/
def rateNow (s : State) : Int := sext 32 (s.rd Reg.PTP_RATE).toNat

/-- Device time, in 2⁻³² ns, that one nominal microsecond of the core clock adds: × (1 + A) (R277). -/
def tickAdd (s : State) : Nat := (1000 * (2 ^ 32 + rateNow s)).toNat

/-- Length of a crystal cycle, 30,517.578125 ns × (1 + trim), in 2⁻³² ns (R293). -/
def aonCycle (s : State) : Nat := (131072 * (1000000000 + sext 32 s.pwr.aon.trim.toNat)).toNat

/-- The always-on domain counts for one microsecond: whole cycles of the crystal. Until it has started the RC oscillator counts in its
place, whose deviation within ±3 % is a free value (R293, R443). -/
def aonTick (s : State) : State :=
  let xtal := s.bit Reg.AON_STATUS 2
  let acc := s.pwr.aon.acc + (if xtal then 1000 else 970 + s.freeNow % 61) * 32768
  let s := if xtal then s else s.useFree
  { modPwr (fun p => { p with aon := { p.aon with acc := acc % 1000000000 } }) s with
    now := (s.now + acc / 1000000000 * aonCycle s) % timeWrap }

/-- One microsecond passes: the core clock counts, the always-on domain in its place, or nothing where that has lost its state (R294). -/
def clockTick (s : State) : State :=
  if s.pwr.aon.lost then s else if s.pwr.aon.on then aonTick s else { s with now := (s.now + tickAdd s) % timeWrap }

/-- The time-driven effects that no row of the table stands for: what follows a response 1 ms later, the end of an orderly stop, SEG_DATA
packets, CAPS and sleep of serial lanes, and fabric packets that may leave. -/
def background (s : State) : State :=
  forEach (List.range 4) fabDrain (forEach (List.range 24) laneTick (forEach (List.range 32) lineNow (stopFinish (afterDue s))))

/-- One idle tick. -/
def idleTick (s : State) : Host.Outcome State Fault Refusal := done (background (clockTick s))

end Sys2Proof.Machine
end

