-- ==== Sys2Proof/Safety.lean ====
section
/-! DEFINITION. What counts as a sound state and a safe step. -/
namespace Sys2Proof.Machine

/-- The canonical forms of registers, live words, captures and memory: indexes strictly rising, no entry equal to what its index reads as
unlisted. Equal contents are then equal data. -/
def State.canonical (s : State) : Bool :=
  sWf regDefault s.regs && sWf regDefault s.live && sWf (fun _ => none) s.cap && Memory.wf s.mem

/-- A step that neither faults nor refuses. -/
def Safe (s : State) : Prop := ∃ t, step s = .next t

/-- What every command ends with: the events it raised go out, and transports take the messages they can. -/
def State.settle (s : State) : State := drainTransports (flushEvents s)

/-- Nothing differs from `s` to `t` but what sending a message may change: registers (ring counters and event counters), memory (the rings),
the check units, the mailboxes, the fabric ports and the record of outputs. -/
def State.sameButSending (s t : State) : Prop :=
  t = { s with regs := t.regs, mem := t.mem, crc := t.crc, mbx := t.mbx, fab := t.fab, out := t.out }

/-- A mailbox that its client empties by itself, with no message protection attached to it, while no event and no message of a transport waits. -/
def quietBox (s : State) (mb : Nat) : Bool :=
  mbClass mb == 9 && (chanAt s 1 5 mb).isNone && s.mbx.outq.isEmpty && s.mbx.evNew.isEmpty

/-- Nothing differs from `s` to `t` but that mailbox `mb` was answered: its outbound count and its counters of refusals, its outbound ring,
its ALIVE and the responses that wait for room. -/
def State.onlyAnswered (s t : State) (mb : Nat) : Prop :=
  t = { s with regs := t.regs, mem := t.mem, mbx := { s.mbx with outAlive := t.mbx.outAlive, held := t.mbx.held } } ∧
  (∀ a, a ∉ [Reg.MBX_MB_OUT_WR mb, Reg.MBX_MB_CNT_BAD_LENGTH mb, Reg.MBX_MB_CNT_BAD_CRC mb, Reg.MBX_MB_CNT_BAD_ALIVE mb,
    Reg.MBX_MB_CNT_DENIED mb] → t.rd a = s.rd a) ∧
  ∀ a, a < outRing mb ∨ outRing mb + 4096 ≤ a → t.byte a = s.byte a

/-- The context in which the service of a code runs a request that is neither timed nor late. -/
def ctxOf (code : Nat) (m : Msg) : Ctx := { code := code, m := m, light := ((svcRow code).map (·.light)).getD false }

/-- A request to this device passes the checks before the body of its service (R16, R17, R324, R431): it names the device as FID 0, an object
its row accepts, no time; the state of the device allows the service; and the object is not busy, or the service only reads. -/
def served (code : Nat) (m : Msg) (s : State) : Bool :=
  match svcRow code with
  | none => false
  | some r => m.fid == 0 && targetOk r m && !(m.flags.getLsbD 2) && !(stateRefuses s r) && (r.rd || !(isBusy s code m))

/-- The words of a register set (Table CMD-2) on the groups at `bases`, by register address. -/
def setWords (c : Ctx) (bases : List Nat) : List (Nat × Word) := bases.flatMap fun b => (setOffsets c).map fun e => (b + e.1, e.2)

/-- A register set is complete, within the offsets its row accepts, and holds no reserved value. -/
def setFits (c : Ctx) (bases : List Nat) (accepts : Nat → Bool) (s : State) : Bool :=
  decide (8 + 4 * (setOffsets c).length ≤ c.m.payload.length) && (setOffsets c).all (fun e => accepts e.1) &&
    (setWords c bases).all fun e => !(reservedWord s e.1 e.2)

/-- The answer to a register set: OK, with APPLY_FRAME when it committed or wrote a shadow register. -/
def setAnswer (c : Ctx) (bases : List Nat) (committed : Bool) (t : State) : State :=
  respondTo c St.ok (if committed || (setWords c bases).any (fun e => isShadowed e.1) then framePart t else []) t

end Sys2Proof.Machine
end

