-- ==== Sys2Proof/Certificates/Slice0/Obligations.lean ====
section
/-! DEFINITION. The statements about the model. Each command's own effect is stated as the next state that `exec` answers, under hypotheses on
the state and the operands alone; `State.settle` is what every command ends with, and a statement of its own says what that may change. -/
open Sys2Proof Sys2Proof.Machine

/-- For every command c and every state whose queue begins with c, a step is exec of c on that state with the rest of the queue: the answer of
exec, a next state or a stop, is the answer of the step. The statements about single commands reach a run through this one. (Derived:
01_two_hierarchies.md, R18.) -/
def Obligations.StepRunsTheFrontCommand : Prop :=
    ∀ (c : Instr) (rest : List Instr) (s : State), s.pending = c :: rest → step s = exec c { s with pending := rest }

/-- With an empty queue a step lets one nominal microsecond pass and then does the background work that no row of the table stands for. Where
the core clock counts, device time goes on by 1000 ns times 1 + A, modulo the width of the time; where the always-on domain counts in its
place, by whole cycles of its crystal; where that domain has lost its state, nothing counts. That a step without a command is a tick, and of
that length, is the model's choice (log entry 1). (Derived: R36, R277, R293, R294.) -/
def Obligations.AnEmptyQueueLetsOneMicrosecondPass : Prop :=
    ∀ s : State, s.pending = [] → step s = .next (State.settle (background (clockTick s))) ∧
      (s.pwr.aon.on = false → s.pwr.aon.lost = false → clockTick s = { s with now := (s.now + tickAdd s) % timeWrap }) ∧
      (s.pwr.aon.on = true → s.pwr.aon.lost = false → clockTick s = aonTick s) ∧ (s.pwr.aon.lost = true → clockTick s = s)

/-- The state right after reset lists no register, no live word, no capture and no byte of memory that would read the same unlisted, has an
empty queue of commands, no message or event waiting, device time 0 and the raster stopped. The values that the spec does not state are the
model's (log entry 4). (Derived: R294, R378, 02_raster_time.md.) -/
def Obligations.ResetIsCanonicalAndIdle : Prop :=
    State.reset.canonical = true ∧ State.reset.pending = [] ∧ State.reset.mbx.outq = [] ∧ State.reset.mbx.evNew = [] ∧ State.reset.now = 0 ∧
    State.reset.ras.ran = false ∧ State.reset.pwr.stopped = false

/-- Right after reset, registers of each block hold the reset values of the register tables: the 60 Hz period with its fraction and blanking
start, the slewing limit, heartbeat period, NAK limit, lane power, surface pool, canvas, layer control, cutoff, list timeout, clamp,
correction offsets of every segment, health and supply controls, polder settings, commit lead, lock threshold, mailbox port, check
polynomial, hint enables, housekeeping control, ball settings, cause of reset and interface revision; live words equal their shadows; and
the mailboxes have the levels and enables of Table MBX-1. (Derived: R318, R379, 02_raster_time.md, 15_command_reference.md.) -/
def Obligations.ResetHoldsTheTabledValues : Prop :=
    State.reset.rd (Reg.RAS_PERIOD) = 0xFE502A#32 ∧
    State.reset.rd (Reg.RAS_PERIOD_FRAC) = 0xAAAB#32 ∧
    State.reset.rd (Reg.RAS_BLANK_START) = 0xF40000#32 ∧
    State.reset.rd (Reg.RAS_SLEW_MAX) = 200#32 ∧
    State.reset.rd (Reg.SLK_HB_PERIOD) = 50#32 ∧
    State.reset.rd (Reg.SLK_NAK_LIMIT) = 8#32 ∧
    (∀ (n : Fin 24), State.reset.rd (Reg.SDS_LANE_PWR n.val) = 0x4003#32) ∧
    State.reset.rd (Reg.DRAM_SURF_POOL_BASE) = 0x200#32 ∧
    State.reset.rd (Reg.CMP_CANVAS) = 0x1FFF1FFF#32 ∧
    (∀ (n : Fin 8), State.reset.rd (Reg.CMP_LAYER_CTRL n.val) = 0x600#32) ∧
    State.reset.rd (Reg.BEAM_CUTOFF) = 0x800000#32 ∧
    State.reset.rd (Reg.BEAM_LIST_TIMEOUT) = 100#32 ∧
    State.reset.rd (Reg.CORR_CLAMP) = 0xFFFF#32 ∧
    (∀ (g : Fin 256), State.reset.rd (Reg.SEG_SEG_CORR g.val) = 0x10004C#32) ∧
    State.reset.rd (Reg.HLT_CTRL) = 0x33#32 ∧
    State.reset.rd (Reg.SUP_CTRL) = 0xE#32 ∧
    (∀ (n : Fin 64), State.reset.rd (Reg.POL_P_CFG n.val) = 0x2000#32) ∧
    State.reset.rd (Reg.FAB_COMMIT_LEAD) = 10#32 ∧
    State.reset.rd (Reg.PTP_LOCK_TH) = 100#32 ∧
    (∀ (m : Fin 2), State.reset.rd (Reg.MAC_MBX_PORT m.val) = 0xB7A1#32) ∧
    (∀ (n : Fin 8), State.reset.rd (Reg.CRC_CH_POLY n.val) = 0x1EDC6F41#32) ∧
    State.reset.rd (Reg.TOP_HINT_EN) = 0x30000#32 ∧
    State.reset.rd (Reg.HK_CTRL) = 0x21#32 ∧
    (∀ (n : Fin 16), State.reset.rd (Reg.GPIO_PIN_CFG n.val) = 0x14#32) ∧
    State.reset.rd (Reg.PMU_RESET_CAUSE) = 1#32 ∧
    State.reset.rd (Reg.FW_IF_REV) = 0x300#32 ∧
    State.reset.lrd (Reg.RAS_PERIOD) = 0xFE502A#32 ∧
    State.reset.lrd (Reg.CMP_CANVAS) = 0x1FFF1FFF#32 ∧
    [0, 1, 2, 3, 4, 5, 6, 7].map (fun n => (State.reset.fd (Reg.MBX_MB_CFG n) 0 2, State.reset.bit (Reg.MBX_MB_CFG n) 2)) =
      [(0, true), (1, true), (2, true), (2, true), (2, true), (0, true), (1, true), (0, true)]

/-- The rows of the table of commands carry no encoding: no word of any length decodes to a command, and putting a word where the next command
would be read leaves the state as it is. Commands come from outside the block. (Derived: 15_command_reference.md.) -/
def Obligations.NoWordSpellsACommand : Prop :=
    ∀ (nbits w : Nat) (s : State), decodeTableWord nbits w = none ∧ s.withFetchWord nbits w = s

/-- For every state whose stores are canonical (indexes strictly rising, no entry equal to what its index reads as unlisted), reached by a run
or not, and whatever command stands at the front of its queue or none: the next state has canonical stores again. Equal contents therefore
stay equal data, and the laws of reading after writing hold after any number of steps. (Derived: R384, R378.) -/
def Obligations.EveryStepKeepsTheCanonicalForms : Prop :=
    ∀ s t : State, s.canonical = true → step s = .next t → t.canonical = true

/-- From every state a step ends in a next state, never in a fault or a refusal, because the spec gives every command an effect or an answer;
and the queue of the next state is the old queue without its front command, or still empty when it was empty. Commands are thus taken first
in, first out, one a step, and no command puts another into the queue. That an empty queue lets a tick pass is the model's choice (log entry
1). (Derived: R18, 01_two_hierarchies.md.) -/
def Obligations.EveryStepAnswersAndTakesOneCommand : Prop :=
    ∀ s : State, ∃ t : State, step s = .next t ∧ t.pending = s.pending.tail

/-- State.settle ends every command: events raised go out and transports take the messages they can. In every state, whatever it sends, it
changes no field of the state but registers (outbound counts, sluices of the engines and counters), memory (the rings), the check units, the
mailboxes, the fabric ports and the record of outputs: the raster, links, segments, layers, surfaces, streams, beam, correction, health,
supply, polders, snowpack, host port, time, lanes, network, housekeeping, firmware, power and ball state stay as the command left them.
(Derived: R320, R321, R330, R335.) -/
def Obligations.SettleChangesOnlyWhatSendingMayChange : Prop :=
    ∀ s : State, s.sameButSending s.settle

/-- For each of the 22 mailbox commands that only read, with s the state after the raster boundaries due at the tick (R37), sent to this device
(FID 0) on a mailbox that its client empties by itself and that no message protection is attached to, while no event and no transport
message waits, in every canonical state: whether it is answered or refused, on every path, nothing changes but the outbound count and the
refusal counters of that mailbox, the bytes of its outbound ring, its ALIVE and the responses that wait for room. Every other register and
every other byte of memory reads as before. (Derived: R37, R346, R324, R320, R330, 15_command_reference.md.) -/
def Obligations.ReadCommandsLeaveAllElse : Prop :=
    ∀ (m : Msg) (z s t : State) (i : Instr), s = rasterFirst z → i ∈ [Instr.sysInfo m, Instr.sysStatus m, Instr.pwrGet m, Instr.rasGet m, Instr.layerGet m, Instr.beamGet m, Instr.laStatus m, Instr.corrRead m, Instr.healthGet m, Instr.mapRead m, Instr.supGet m, Instr.polGet m, Instr.snowGet m, Instr.linkGet m, Instr.fabGet m, Instr.fabTopo m, Instr.timeGet m, Instr.sensorGet m, Instr.crcGet m, Instr.logRead m, Instr.fwInfo m, Instr.regRead m] →
      m.fid = 0 → s.canonical = true → quietBox s m.mb.val = true → exec i z = .next t → s.onlyAnswered t m.mb.val

/-- Each of the mailbox commands is the service of its code (Tables CMD-4 to CMD-9 and CMD-12) on its message, on the state after the raster
boundaries due at the tick (R37), with the checks that every service makes, and then what every command ends with. The statements about
services and codes reach the commands through this one. (Derived: R340, R346.) -/
def Obligations.EachMailboxCommandIsTheServiceOfItsCode : Prop :=
    ∀ (m : Msg) (s : State),
    exec (.sysInfo m) s = .next (State.settle (serve 0x0100 bodySysInfo m (rasterFirst s))) ∧
    exec (.sysStatus m) s = .next (State.settle (serve 0x0101 bodySysStatus m (rasterFirst s))) ∧
    exec (.sysReset m) s = .next (State.settle (serve 0x0102 bodySysReset m (rasterFirst s))) ∧
    exec (.sysProtect m) s = .next (State.settle (serve 0x0103 bodySysProtect m (rasterFirst s))) ∧
    exec (.sysMbxCfg m) s = .next (State.settle (serve 0x0104 bodySysMbxCfg m (rasterFirst s))) ∧
    exec (.sysAliveReset m) s = .next (State.settle (serve 0x0105 bodySysAliveReset m (rasterFirst s))) ∧
    exec (.pwrGet m) s = .next (State.settle (serve 0x0200 bodyPwrGet m (rasterFirst s))) ∧
    exec (.pwrEnter m) s = .next (State.settle (serve 0x0201 bodyPwrEnter m (rasterFirst s))) ∧
    exec (.pwrOff m) s = .next (State.settle (serve 0x0202 bodyPwrOff m (rasterFirst s))) ∧
    exec (.pwrPadRelease m) s = .next (State.settle (serve 0x0203 bodyPwrPadRelease m (rasterFirst s))) ∧
    exec (.rasGet m) s = .next (State.settle (serve 0x0300 bodyRasGet m (rasterFirst s))) ∧
    exec (.rasTiming m) s = .next (State.settle (serve 0x0301 bodyRasTiming m (rasterFirst s))) ∧
    exec (.rasEpoch m) s = .next (State.settle (serve 0x0302 bodyRasEpoch m (rasterFirst s))) ∧
    exec (.rasEnable m) s = .next (State.settle (serve 0x0303 bodyRasEnable m (rasterFirst s))) ∧
    exec (.rasSyncCfg m) s = .next (State.settle (serve 0x0304 bodyRasSyncCfg m (rasterFirst s))) ∧
    exec (.layerGet m) s = .next (State.settle (serve 0x0400 bodyLayerGet m (rasterFirst s))) ∧
    exec (.layerSet m) s = .next (State.settle (serve 0x0401 bodyLayerSet m (rasterFirst s))) ∧
    exec (.canvasSet m) s = .next (State.settle (serve 0x0402 bodyCanvasSet m (rasterFirst s))) ∧
    exec (.lutLoad m) s = .next (State.settle (serve 0x0403 bodyLutLoad m (rasterFirst s))) ∧
    exec (.surfCreate m) s = .next (State.settle (serve 0x0410 bodySurfCreate m (rasterFirst s))) ∧
    exec (.surfDestroy m) s = .next (State.settle (serve 0x0411 bodySurfDestroy m (rasterFirst s))) ∧
    exec (.surfWrite m) s = .next (State.settle (serve 0x0412 bodySurfWrite m (rasterFirst s))) ∧
    exec (.surfPublish m) s = .next (State.settle (serve 0x0413 bodySurfPublish m (rasterFirst s))) ∧
    exec (.surfPool m) s = .next (State.settle (serve 0x0414 bodySurfPool m (rasterFirst s))) ∧
    exec (.beamGet m) s = .next (State.settle (serve 0x0500 bodyBeamGet m (rasterFirst s))) ∧
    exec (.listPut m) s = .next (State.settle (serve 0x0501 bodyListPut m (rasterFirst s))) ∧
    exec (.beamCfg m) s = .next (State.settle (serve 0x0502 bodyBeamCfg m (rasterFirst s))) ∧
    exec (.patLoad m) s = .next (State.settle (serve 0x0503 bodyPatLoad m (rasterFirst s))) ∧
    exec (.glyphLoad m) s = .next (State.settle (serve 0x0504 bodyGlyphLoad m (rasterFirst s))) ∧
    exec (.gridLoad m) s = .next (State.settle (serve 0x0505 bodyGridLoad m (rasterFirst s))) ∧
    exec (.corrRead m) s = .next (State.settle (serve 0x0600 bodyCorrRead m (rasterFirst s))) ∧
    exec (.corrStage m) s = .next (State.settle (serve 0x0601 bodyCorrStage m (rasterFirst s))) ∧
    exec (.corrApply m) s = .next (State.settle (serve 0x0602 bodyCorrApply m (rasterFirst s))) ∧
    exec (.corrSave m) s = .next (State.settle (serve 0x0603 bodyCorrSave m (rasterFirst s))) ∧
    exec (.corrCfg m) s = .next (State.settle (serve 0x0604 bodyCorrCfg m (rasterFirst s))) ∧
    exec (.curveLoad m) s = .next (State.settle (serve 0x0605 bodyCurveLoad m (rasterFirst s))) ∧
    exec (.segCfg m) s = .next (State.settle (serve 0x0606 bodySegCfg m (rasterFirst s))) ∧
    exec (.healthGet m) s = .next (State.settle (serve 0x0700 bodyHealthGet m (rasterFirst s))) ∧
    exec (.mapRead m) s = .next (State.settle (serve 0x0701 bodyMapRead m (rasterFirst s))) ∧
    exec (.healthClear m) s = .next (State.settle (serve 0x0702 bodyHealthClear m (rasterFirst s))) ∧
    exec (.vfCapture m) s = .next (State.settle (serve 0x0703 bodyVfCapture m (rasterFirst s))) ∧
    exec (.healthSave m) s = .next (State.settle (serve 0x0704 bodyHealthSave m (rasterFirst s))) ∧
    exec (.healthCfg m) s = .next (State.settle (serve 0x0705 bodyHealthCfg m (rasterFirst s))) ∧
    exec (.supGet m) s = .next (State.settle (serve 0x0800 bodySupGet m (rasterFirst s))) ∧
    exec (.supCfg m) s = .next (State.settle (serve 0x0801 bodySupCfg m (rasterFirst s))) ∧
    exec (.supRestart m) s = .next (State.settle (serve 0x0802 bodySupRestart m (rasterFirst s))) ∧
    exec (.supLimit m) s = .next (State.settle (serve 0x0803 bodySupLimit m (rasterFirst s))) ∧
    exec (.polGet m) s = .next (State.settle (serve 0x0900 bodyPolGet m (rasterFirst s))) ∧
    exec (.polSet m) s = .next (State.settle (serve 0x0901 bodyPolSet m (rasterFirst s))) ∧
    exec (.fbRaise m) s = .next (State.settle (serve 0x0902 bodyFbRaise m (rasterFirst s))) ∧
    exec (.fbClear m) s = .next (State.settle (serve 0x0903 bodyFbClear m (rasterFirst s))) ∧
    exec (.snowGet m) s = .next (State.settle (serve 0x0A00 bodySnowGet m (rasterFirst s))) ∧
    exec (.slotBegin m) s = .next (State.settle (serve 0x0A01 bodySlotBegin m (rasterFirst s))) ∧
    exec (.slotData m) s = .next (State.settle (serve 0x0A02 bodySlotData m (rasterFirst s))) ∧
    exec (.slotEnd m) s = .next (State.settle (serve 0x0A03 bodySlotEnd m (rasterFirst s))) ∧
    exec (.slotAbort m) s = .next (State.settle (serve 0x0A04 bodySlotAbort m (rasterFirst s))) ∧
    exec (.slotDelete m) s = .next (State.settle (serve 0x0A05 bodySlotDelete m (rasterFirst s))) ∧
    exec (.setDefault m) s = .next (State.settle (serve 0x0A06 bodySetDefault m (rasterFirst s))) ∧
    exec (.gainPut m) s = .next (State.settle (serve 0x0A07 bodyGainPut m (rasterFirst s))) ∧
    exec (.levelsPut m) s = .next (State.settle (serve 0x0A08 bodyLevelsPut m (rasterFirst s))) ∧
    exec (.linkGet m) s = .next (State.settle (serve 0x0B00 bodyLinkGet m (rasterFirst s))) ∧
    exec (.linkEnable m) s = .next (State.settle (serve 0x0B01 bodyLinkEnable m (rasterFirst s))) ∧
    exec (.linkRetrain m) s = .next (State.settle (serve 0x0B02 bodyLinkRetrain m (rasterFirst s))) ∧
    exec (.streamCfg m) s = .next (State.settle (serve 0x0B03 bodyStreamCfg m (rasterFirst s))) ∧
    exec (.quadCfg m) s = .next (State.settle (serve 0x0B04 bodyQuadCfg m (rasterFirst s))) ∧
    exec (.laneTest m) s = .next (State.settle (serve 0x0B05 bodyLaneTest m (rasterFirst s))) ∧
    exec (.netCfg m) s = .next (State.settle (serve 0x0B06 bodyNetCfg m (rasterFirst s))) ∧
    exec (.segBlank m) s = .next (State.settle (serve 0x0B07 bodySegBlank m (rasterFirst s))) ∧
    exec (.segDefaultLoad m) s = .next (State.settle (serve 0x0B08 bodySegDefaultLoad m (rasterFirst s))) ∧
    exec (.fabGet m) s = .next (State.settle (serve 0x0C00 bodyFabGet m (rasterFirst s))) ∧
    exec (.fabCfg m) s = .next (State.settle (serve 0x0C01 bodyFabCfg m (rasterFirst s))) ∧
    exec (.fabPort m) s = .next (State.settle (serve 0x0C02 bodyFabPort m (rasterFirst s))) ∧
    exec (.fabGroup m) s = .next (State.settle (serve 0x0C03 bodyFabGroup m (rasterFirst s))) ∧
    exec (.fabFwd m) s = .next (State.settle (serve 0x0C04 bodyFabFwd m (rasterFirst s))) ∧
    exec (.fabSub m) s = .next (State.settle (serve 0x0C05 bodyFabSub m (rasterFirst s))) ∧
    exec (.fabRediscover m) s = .next (State.settle (serve 0x0C06 bodyFabRediscover m (rasterFirst s))) ∧
    exec (.fabTopo m) s = .next (State.settle (serve 0x0C07 bodyFabTopo m (rasterFirst s))) ∧
    exec (.timeGet m) s = .next (State.settle (serve 0x0D00 bodyTimeGet m (rasterFirst s))) ∧
    exec (.timeSet m) s = .next (State.settle (serve 0x0D01 bodyTimeSet m (rasterFirst s))) ∧
    exec (.timeUtc m) s = .next (State.settle (serve 0x0D02 bodyTimeUtc m (rasterFirst s))) ∧
    exec (.servoCfg m) s = .next (State.settle (serve 0x0D03 bodyServoCfg m (rasterFirst s))) ∧
    exec (.ptpPort m) s = .next (State.settle (serve 0x0D04 bodyPtpPort m (rasterFirst s))) ∧
    exec (.ttArm m) s = .next (State.settle (serve 0x0D05 bodyTtArm m (rasterFirst s))) ∧
    exec (.tcPop m) s = .next (State.settle (serve 0x0D06 bodyTcPop m (rasterFirst s))) ∧
    exec (.sensorGet m) s = .next (State.settle (serve 0x0E00 bodySensorGet m (rasterFirst s))) ∧
    exec (.sensorCfg m) s = .next (State.settle (serve 0x0E01 bodySensorCfg m (rasterFirst s))) ∧
    exec (.calRun m) s = .next (State.settle (serve 0x0E02 bodyCalRun m (rasterFirst s))) ∧
    exec (.calSave m) s = .next (State.settle (serve 0x0E03 bodyCalSave m (rasterFirst s))) ∧
    exec (.crcGet m) s = .next (State.settle (serve 0x0F00 bodyCrcGet m (rasterFirst s))) ∧
    exec (.crcCfg m) s = .next (State.settle (serve 0x0F01 bodyCrcCfg m (rasterFirst s))) ∧
    exec (.crcScan m) s = .next (State.settle (serve 0x0F02 bodyCrcScan m (rasterFirst s))) ∧
    exec (.logRead m) s = .next (State.settle (serve 0x1000 bodyLogRead m (rasterFirst s))) ∧
    exec (.logClear m) s = .next (State.settle (serve 0x1001 bodyLogClear m (rasterFirst s))) ∧
    exec (.fwInfo m) s = .next (State.settle (serve 0x1100 bodyFwInfo m (rasterFirst s))) ∧
    exec (.fwBegin m) s = .next (State.settle (serve 0x1101 bodyFwBegin m (rasterFirst s))) ∧
    exec (.fwData m) s = .next (State.settle (serve 0x1102 bodyFwData m (rasterFirst s))) ∧
    exec (.fwVerify m) s = .next (State.settle (serve 0x1103 bodyFwVerify m (rasterFirst s))) ∧
    exec (.fwCommit m) s = .next (State.settle (serve 0x1104 bodyFwCommit m (rasterFirst s))) ∧
    exec (.fwAbort m) s = .next (State.settle (serve 0x1105 bodyFwAbort m (rasterFirst s))) ∧
    exec (.regRead m) s = .next (State.settle (serve 0x1200 bodyRegRead m (rasterFirst s))) ∧
    exec (.regWrite m) s = .next (State.settle (serve 0x1201 bodyRegWrite m (rasterFirst s))) ∧
    exec (.regRmw m) s = .next (State.settle (serve 0x1202 bodyRegRmw m (rasterFirst s))) ∧
    exec (.laEnter m) s = .next (State.settle (serve 0x0540 bodyLaEnter m (rasterFirst s))) ∧
    exec (.laExit m) s = .next (State.settle (serve 0x0541 bodyLaExit m (rasterFirst s))) ∧
    exec (.laTol m) s = .next (State.settle (serve 0x0542 bodyLaTol m (rasterFirst s))) ∧
    exec (.laStatus m) s = .next (State.settle (serve 0x0543 bodyLaStatus m (rasterFirst s)))

/-- A request to this device (FID 0) whose code has a row is refused, with nothing of it applied, by the first of: RANGE when its class, index
or 0xFFFF is not accepted by the row; RANGE when it is timed and its row has no mark T; STATE when the device is stopped or not yet far
enough started for it; BUSY when it does more than read and its object is busy. A code that no row has is refused with RANGE. A request for
another device that passes the checks of RANGE is forwarded while the device takes part in the fabric, and refused with STATE otherwise.
(Derived: R16, R17, R324, R331, R341, R399, R431.) -/
def Obligations.ServiceChecksComeBeforeTheBody : Prop :=
    (∀ (code : Nat) (body : Ctx → State → State) (m : Msg) (s : State) (r : Svc), svcRow code = some r →
      (m.fid = 0 → targetOk r m = false → serve code body m s = refuse { code := code, m := m } St.range s) ∧
      (m.fid = 0 → targetOk r m = true → m.flags.getLsbD 2 = true → r.tim = false → serve code body m s = refuse { code := code, m := m } St.range s) ∧
      (m.fid = 0 → targetOk r m = true → (m.flags.getLsbD 2 = true → r.tim = true) → stateRefuses s r = true →
        serve code body m s = refuse { code := code, m := m } St.state s) ∧
      (m.fid = 0 → targetOk r m = true → (m.flags.getLsbD 2 = true → r.tim = true) → stateRefuses s r = false → r.rd = false →
        isBusy s code m = true → serve code body m s = refuse { code := code, m := m } St.busy s) ∧
      (m.fid ≠ 0 → m.fid ≠ 0xFFF → m.fid.toNat ≠ s.ownFid → targetOk r m = true → (m.flags.getLsbD 2 = true → r.tim = true) →
        serve code body m s = if fabState s == 4 then forwardReq code m s else refuse { code := code, m := m } St.state s)) ∧
    (∀ (code : Nat) (body : Ctx → State → State) (m : Msg) (s : State), svcRow code = none →
      serve code body m s = refuse { code := code, m := m } St.range s)

/-- With the mailboxes running, the next message dequeued, in the order of R324: an incomplete one has every waiting byte discarded and
BAD_LENGTH answered; one over the limit of its mailbox is consumed and answered BAD_LENGTH; one whose CRC fails BAD_CRC; one that repeats
the ALIVE of its client BAD_ALIVE; one with a reserved flag, RESPONSE or EVENT set RANGE, after its ALIVE is recorded; one denied by level
or rule DENIED. Where no message protection takes part. Where a clause has s = rasterFirst z, s is the state after the raster boundaries due
at the tick (R37). (Derived: R324, R320, R326, R327, R332, R333, R37.) -/
def Obligations.DequeueRefusesAtTheFirstFailingCheck : Prop :=
    ∀ (z s t u : State) (e : Nat × Nat × Nat × Nat) (m : Msg) (code : Nat),
      s = rasterFirst z → m = msgAtHead s e.2.1 e.2.2.2 → code = hdr s e.2.1 0 2 →
      s.bit Reg.MBX_STATUS 0 = false → 3 ≤ stage s → s.pwr.quiesced = false → nextSample s = some e →
      t = (consume e.2.1 (ringSize m.payload.length) s).count (Reg.MBX_MB_CNT_RX e.2.1) → u = aliveSeen m.mb.val m.client m.alive t →
      (inComplete s e.2.1 = false → exec .messageDequeue z = .next (State.settle (mbRefill e.2.1 (discardInbound e.2.1 e.2.2.2 s)))) ∧
      (inComplete s e.2.1 = true →
        (mbLimit e.2.1 < m.payload.length → exec .messageDequeue z = .next (State.settle (refuse { code := code, m := m } St.badLength t))) ∧
        (m.payload.length ≤ mbLimit e.2.1 →
          (headCrcOk s e.2.1 m = false → exec .messageDequeue z = .next (State.settle (refuse { code := code, m := m } St.badCrc t))) ∧
          (headCrcOk s e.2.1 m = true →
            (lastAlive t m.mb.val m.client = some m.alive → exec .messageDequeue z = .next (State.settle (refuse { code := code, m := m } St.badAlive t))) ∧
            (lastAlive t m.mb.val m.client ≠ some m.alive → chanAt u 2 5 m.mb.val = none →
              ((m.flags.toNat / 16 != 0 || m.flags.getLsbD 0 || m.flags.getLsbD 1) = true → exec .messageDequeue z = .next (State.settle (refuse { code := code, m := m } St.range u))) ∧
              ((m.flags.toNat / 16 != 0 || m.flags.getLsbD 0 || m.flags.getLsbD 1) = false → denied u code m = true →
                exec .messageDequeue z = .next (State.settle (refuse { code := code, m := m } St.denied u)))))))

/-- Levels run from PL0 to PL3, those of the mailboxes and the minimum levels of the commands; every code served has one. A message that is
dequeued and passes the checks of CRC, ALIVE and flags, whose command has a minimum level numerically lower than the level of its mailbox,
is answered DENIED, in every state and whatever the rules say; its ALIVE is recorded and nothing of the command is applied. Where a clause
has s = rasterFirst z, s is the state after the raster boundaries due at the tick (R37). (Stated: R332.) -/
def Obligations.ACommandBelowItsLevelIsDenied : Prop :=
    (∀ (s : State) (n : Nat), mbLevel s n ≤ 3) ∧ (∀ (code : Nat) (r : Svc), svcRow code = some r → r.pl ≤ 3) ∧
    ∀ (z s t u : State) (e : Nat × Nat × Nat × Nat) (m : Msg) (code : Nat),
      s = rasterFirst z → m = msgAtHead s e.2.1 e.2.2.2 → code = hdr s e.2.1 0 2 →
      s.bit Reg.MBX_STATUS 0 = false → 3 ≤ stage s → s.pwr.quiesced = false → nextSample s = some e →
      t = (consume e.2.1 (ringSize m.payload.length) s).count (Reg.MBX_MB_CNT_RX e.2.1) → u = aliveSeen m.mb.val m.client m.alive t →
      inComplete s e.2.1 = true → m.payload.length ≤ mbLimit e.2.1 → headCrcOk s e.2.1 m = true → lastAlive t m.mb.val m.client ≠ some m.alive →
      chanAt u 2 5 m.mb.val = none → (m.flags.toNat / 16 != 0 || m.flags.getLsbD 0 || m.flags.getLsbD 1) = false →
      (∃ r, svcRow code = some r ∧ r.pl < mbLevel u m.mb.val) → exec .messageDequeue z = .next (State.settle (refuse { code := code, m := m } St.denied u))

/-- A timed request to this device whose row has mark T, to which neither object, state nor a busy object stands against: shorter than its
16-byte prefix it is answered BAD_LENGTH; with 16 timed commands standing it is answered NOSPACE, one entry missing, none free, UNIT 3;
otherwise it is answered ACCEPTED, and then, when it is late beyond its tolerance, completed TOO_LATE with nothing applied; when its frame
or tick has not come, it is kept with its time, its tolerance and its payload behind the prefix. (Derived: R329, R345, R42, R344.) -/
def Obligations.TimedRequestsAreQueuedRunOrRefused : Prop :=
    ∀ (code : Nat) (body : Ctx → State → State) (m : Msg) (s : State) (r : Svc) (c : Ctx), svcRow code = some r → r.tim = true → m.fid = 0 →
      targetOk r m = true → m.flags.getLsbD 2 = true → stateRefuses s r = false → (r.rd || !(isBusy s code m)) = true →
      c = { code := code, m := { m with payload := m.payload.drop 16 }, light := r.light, timed := true, byTick := code == 0x0301 && !(rasOn s) } →
      (m.payload.length < 16 → serve code body m s = refuse { code := code, m := m } St.badLength s) ∧
      (16 ≤ m.payload.length → 16 ≤ s.mbx.timed.length + s.mbx.compl.length →
        serve code body m s = noSpace { code := code, m := m } 1 0 false 3 s) ∧
      (16 ≤ m.payload.length → s.mbx.timed.length + s.mbx.compl.length < 16 → ∀ t : State, t = respondTo { code := code, m := m } St.accepted [] s →
        (tolerance16 t c (leAt m.payload 8 4) < lateness t c (leAt m.payload 0 8) → serve code body m s = respondTo c St.tooLate [] t) ∧
        (lateness t c (leAt m.payload 0 8) ≤ tolerance16 t c (leAt m.payload 8 4) → timedReady t c (leAt m.payload 0 8) = false →
          serve code body m s =
            timedCounts { t with mbx := { t.mbx with timed := t.mbx.timed ++ [⟨leAt m.payload 0 8, leAt m.payload 8 4, c⟩] } }))

/-- For MISSING and LARGEST below 2^32 and a UNIT of 0 to 4, an answer NOSPACE has a command part of 12 bytes, so that in the response MISSING
stands in bytes 8 to 11, LARGEST in bytes 12 to 15, FRAGMENTED in bit 0 and UNIT in bits 3 to 1 of byte 16, and bytes 17 to 19 are 0.
(Derived: R344, R323.) -/
def Obligations.NospaceAnswersCarryTheirLayout : Prop :=
    ∀ (c : Ctx) (missing largest unit : Nat) (fragmented : Bool) (s : State), missing < 2 ^ 32 → largest < 2 ^ 32 → unit ≤ 4 →
      ∃ part : List Byte, noSpace c missing largest fragmented unit s = respondTo c St.noSpace part s ∧ part.length = 12 ∧
        leAt (statusPart St.noSpace c.lateUs ++ part) 8 4 = missing ∧ leAt (statusPart St.noSpace c.lateUs ++ part) 12 4 = largest ∧
        leAt (statusPart St.noSpace c.lateUs ++ part) 16 1 = (if fragmented then 1 else 0) + 2 * unit ∧
        leAt (statusPart St.noSpace c.lateUs ++ part) 17 3 = 0

/-- While the port answers: a write frame of whole words, within the length of its opcode, whose words exceed what is left of the 256 words of
the write buffer is discarded whole with FULL (code 5), with nothing of it posted; a burst of more than 256 words is discarded whole with
BAD_LENGTH (code 6); and no write frame makes the buffer hold more than 256 words. (Stated: R375.) -/
def Obligations.TheWriteBufferHoldsAtMost256Words : Prop :=
    (∀ (a : BitVec 24) (d : List Byte) (s : State), hostAnswers s = true → d.length % 4 = 0 → d ≠ [] → (hostData d).length ≤ 256 → 256 < hostPosted s + (hostData d).length →
      exec (.hostWriteBurst (some a) d) s = .next (State.settle (wakeBy 3 (hostEnd { opcode := 0x21, addr := a.toNat, words := hostData d } 5 (s.emit (.host [hostStatusByte s])))))) ∧
    (∀ (a : BitVec 24) (d : List Byte) (s : State), hostAnswers s = true → d.length % 4 = 0 → (hostData d).length = 1 → 256 < hostPosted s + 1 →
      exec (.hostWrite32 (some a) d) s = .next (State.settle (wakeBy 3 (hostEnd { opcode := 0x20, addr := a.toNat, words := hostData d } 5 (s.emit (.host [hostStatusByte s])))))) ∧
    (∀ (a : BitVec 24) (d : List Byte) (s : State), hostAnswers s = true → 256 < (hostData d).length →
      exec (.hostWriteBurst (some a) d) s = .next (State.settle (wakeBy 3 (hostEnd { opcode := 0x21, addr := a.toNat, words := hostData d } 6 (s.emit (.host [hostStatusByte s])))))) ∧
    (∀ (f : HFrame) (code : Nat) (s : State), (hostEnd f code s).host.frames = s.host.frames) ∧
    (∀ (op mx : Nat) (a : Option (BitVec 24)) (d : List Byte) (s : State), hostPosted s ≤ 256 → hostAnswers s = true →
      ∃ t : State, hostWrite op mx a d s = wakeBy 3 t ∧ hostPosted t ≤ 256)

/-- A write to SDS.Qq_CFG is applied while every lane of the quad is OFF; any other is discarded and only counted in SDS.CNT_CFG_REJ. QUAD_CFG,
the LINK command that makes such a change, is refused with STATE while a lane of its quad is not OFF. The lanes of quad q are 4q to 4q + 3.
Where a clause has s = rasterFirst z, s is the state after the raster boundaries due at the tick (R37). (Stated: R297.) -/
def Obligations.QuadSettingsChangeOnlyWithTheQuadOff : Prop :=
    (∀ (q : Fin 6) (w : Word) (z s : State), s = rasterFirst z → (∀ l : Fin 24, l.val / 4 = q.val → laneStage s l.val = 0) →
        exec (.quadCfgWrite q w) z = .next (State.settle (macStart (quadShow q.val (s.swWrite (Reg.SDS_Q_CFG q.val) w))))) ∧
    (∀ (q : Fin 6) (w : Word) (z s : State), s = rasterFirst z → (∃ l : Fin 24, l.val / 4 = q.val ∧ laneStage s l.val ≠ 0) →
        exec (.quadCfgWrite q w) z = .next (State.settle (s.count Reg.SDS_CNT_CFG_REJ))) ∧
    (∀ (m : Msg) (z s : State), s = rasterFirst z → served 0x0B04 m s = true → 3 ≤ m.payload.length → leAt m.payload 0 1 ≤ 3 → leAt m.payload 1 1 ≤ 1 → leAt m.payload 2 1 ≤ 6 →
      (∃ l : Fin 24, l.val / 4 = m.index.toNat / 4 ∧ laneStage s l.val ≠ 0) →
      exec (.quadCfg m) z = .next (State.settle (refuse (ctxOf 0x0B04 m) St.state s)))

/-- Arming a periodic output TTn whose settings pass (WIDTH at least 20 ns, P at least 40 ns, WIDTH at most P less 20 ns) with a START that has
passed: its first occurrence is START + k × P for the least k with that instant after the arming tick, and PTP.TTn_SKIP reports k. In every
canonical state. Where a clause has s = rasterFirst z, s is the state after the raster boundaries due at the tick (R37). (Stated: R41.) -/
def Obligations.ArmingAPastPeriodicOutputSkipsPeriods : Prop :=
    ∀ (n : Fin 4) (z s : State) (p w start : Nat), s = rasterFirst z → s.canonical = true → s.bit (Reg.PTP_TT_CFG n.val) 0 = true →
      p = (s.rd (Reg.PTP_TT_PERIOD n.val)).toNat * 65536 + s.fd (Reg.PTP_TT_PERIOD_FRAC n.val) 0 16 → w = (s.rd (Reg.PTP_TT_WIDTH n.val)).toNat →
      start = ((s.rd (Reg.PTP_TT_START_HI n.val)).toNat * 2 ^ 32 + (s.rd (Reg.PTP_TT_START_LO n.val)).toNat) * 65536 →
      20 ≤ w → 40 * 65536 ≤ p → (w + 20) * 65536 ≤ p → start ≤ s.tickNs * 65536 →
      ∃ (t : State) (k : Nat), exec (.ttnArm n) z = .next t.settle ∧ ttNext (tt t n.val) = start + k * p ∧
        s.tickNs * 65536 < start + k * p ∧ (∀ j, s.tickNs * 65536 < start + j * p → k ≤ j) ∧ t.rd (Reg.PTP_TT_SKIP n.val) = BitVec.ofNat 32 k

/-- For a period above 0, the raster armed at a device time waits for the first instant of the grid REF + k × period that lies at least one
period after that time, and before two periods after it, with the frame number that the grid gives it, whether REF lies in the past or in
the future. (Derived: R43, R22.) -/
def Obligations.TheFirstPhase0LiesOnTheGrid : Prop :=
    ∀ s : State, 0 < period16 s →
      (armRaster s).ras.armed = true ∧ (armRaster s).ras.nextFrame = gridFrame s (armRaster s).ras.p0Next ∧
      ((armRaster s).ras.p0Next - refInstant s) % (period16 s : Int) = 0 ∧ s.tick16 + (period16 s : Int) ≤ (armRaster s).ras.p0Next ∧
      (armRaster s).ras.p0Next < s.tick16 + 2 * (period16 s : Int) ∧
      ∀ x : Int, (x - refInstant s) % (period16 s : Int) = 0 → s.tick16 + (period16 s : Int) ≤ x → (armRaster s).ras.p0Next ≤ x

/-- Whatever move of the next phase 0 is wanted: the move planned for the frame in progress shortens blanking to no less than 250 µs (or not at
all when it is shorter already), lengthens it by at most RAS.SLEW_MAX, changes nothing but the next phase 0, and what does not fit is
carried; RAS.STATUS.SLEWING is set while something is carried, and stays set through the frame that takes the last of it. In every canonical
state. (Derived: R34.) -/
def Obligations.SlewingStaysWithinItsBounds : Prop :=
    ∀ (s : State) (want : Int), s.canonical = true →
      (setMove want s).ras.move ≤ slewMax s ∧
      min ((period16 s : Int) - frac16 s (s.fd Reg.RAS_BLANK_EFF 0 24) 24) (ns16 250000) ≤
        (period16 s : Int) - frac16 s (s.fd Reg.RAS_BLANK_EFF 0 24) 24 + (setMove want s).ras.move ∧
      (setMove want s).ras.move + (setMove want s).ras.slewLeft = want ∧
      (setMove want s).ras.p0Next = s.ras.p0At + (period16 s : Int) + (setMove want s).ras.move ∧
      (0 ≤ want → 0 ≤ (setMove want s).ras.move) ∧ (want ≤ 0 → (setMove want s).ras.move ≤ 0) ∧
      (setMove want s).bit Reg.RAS_STATUS 2 = (decide ((setMove want s).ras.slewLeft ≠ 0) || (s.bit Reg.RAS_STATUS 2 && decide ((setMove want s).ras.move ≠ 0)))

/-- For every period of at least 250 µs and every blanking start of 24 bits, the effective blanking start is at most the set one, leaves at
least 250 µs to the end of the frame, and is the greatest phase that does both. (Derived: R24.) -/
def Obligations.BlankingStartIsTheLatestAllowed : Prop :=
    ∀ p blank : Nat, 250000 * 65536 ≤ p → blank < 2 ^ 24 →
      blankEff p blank ≤ blank ∧ 250000 * 65536 * 2 ^ 24 ≤ (2 ^ 24 - blankEff p blank) * p ∧
      ∀ x : Nat, x ≤ blank → 250000 * 65536 * 2 ^ 24 ≤ (2 ^ 24 - x) * p → x ≤ blankEff p blank

/-- For GA and source alpha of 8 bits and coverage 0 or 1, the effective alpha of a layer is GA × SA × cov × 65,535 / 65,025 rounded to nearest
with halves up, and at most 65,535. For 16-bit values below and of the layer, every blend mode gives a 16-bit value; without coverage it
gives the value below; and NORMAL blending at full alpha gives the sample, at alpha 0 the value below. (Derived: R122, R123.) -/
def Obligations.BlendingRoundsAndStaysInRange : Prop :=
    (∀ ga sa cov : Nat, ga ≤ 255 → sa ≤ 255 → cov ≤ 1 →
      2 * 65025 * alpha16 ga sa cov ≤ 2 * (ga * sa * cov * 65535) + 65025 ∧ 2 * (ga * sa * cov * 65535) + 65025 < 2 * 65025 * (alpha16 ga sa cov + 1) ∧
      alpha16 ga sa cov ≤ 65535) ∧
    (∀ mode d x ga sa cov : Nat, d ≤ 65535 → x ≤ 65535 → ga ≤ 255 → sa ≤ 255 → cov ≤ 1 → blend mode d x ga sa cov ≤ 65535) ∧
    (∀ mode d x ga sa : Nat, d ≤ 65535 → blend mode d x ga sa 0 = d) ∧
    (∀ d x : Nat, blend 1 d x 255 255 1 = x) ∧
    (∀ d x sa : Nat, blend 1 d x 0 sa 1 = d)

/-- For every table of 16-bit entries in memory with 2^k steps between entries (pre-blend and post-blend tables k = 4, response curves k = 6):
the value for an input lies between the entry of its place and the next, the last entry standing for the one after it, and equals the entry
where the input falls on it. So no look-up leaves 16 bits. (Derived: R119, R124, R171.) -/
def Obligations.TablesInterpolateBetweenNeighbours : Prop :=
    ∀ (s : State) (base n k e : Nat),
      min (lutEntry s base n (e / 2 ^ k)) (lutEntry s base n (e / 2 ^ k + 1)) ≤ lutValue s base n k e ∧
      lutValue s base n k e ≤ max (lutEntry s base n (e / 2 ^ k)) (lutEntry s base n (e / 2 ^ k + 1)) ∧
      (e % 2 ^ k = 0 → lutValue s base n k e = lutEntry s base n (e / 2 ^ k)) ∧ lutValue s base n k e < 2 ^ 16

/-- In every canonical state, up to 4,096 bytes put into a ring from any count are read back from that count as they were put, across the end of
the ring too, and no byte outside the ring changes. (Derived: R319.) -/
def Obligations.ARingGivesBackWhatWasPut : Prop :=
    ∀ (s : State) (base c : Nat) (l : List Byte), s.canonical = true → l.length ≤ 4096 →
      ringGet (ringPut base c l s) base c l.length = l ∧
      ∀ a : Nat, a < base ∨ base + 4096 ≤ a → (ringPut base c l s).byte a = s.byte a

/-- In every canonical state, counting k more occurrences leaves a counter at its old value plus k, or at the largest 32-bit value where that is
less; it never goes down; and every other register reads as before. (Derived: R378.) -/
def Obligations.CountersHoldAtTheirLargestValue : Prop :=
    ∀ (s : State) (a k : Nat), s.canonical = true →
      ((s.countBy a k).rd a).toNat = min ((s.rd a).toNat + k) 0xFFFFFFFF ∧ (s.rd a).toNat ≤ ((s.count a).rd a).toNat ∧
      ∀ b : Nat, b ≠ a → (s.countBy a k).rd b = s.rd b

/-- In every canonical state a software write of a register leaves every other register as it was; a read-only or write-only register keeps its
word; a counter becomes 0; an ordinary or shadowed register without reserved values takes the written bits where they are writable and keeps
its other bits, so reserved bits keep reading as they did; an offset that no register has changes nothing. (Derived: R378, R7, R385.) -/
def Obligations.ASoftwareWriteRespectsTheAccessCode : Prop :=
    ∀ (s : State) (a : Nat) (w : Word), s.canonical = true →
      (∀ b : Nat, b ≠ a → (s.swWrite a w).rd b = s.rd b) ∧
      (regRow a = none → s.swWrite a w = s) ∧
      ∀ r : RegRow, regRow a = some r →
        (r.access = .ro ∨ r.access = .rol ∨ r.access = .wo → (s.swWrite a w).rd a = s.rd a) ∧
        (r.access = .cnt → (s.swWrite a w).rd a = 0) ∧
        (r.access = .rw ∨ r.access = .rws → r.rules = [] → ∀ i : Nat, i < 32 →
          ((s.swWrite a w).rd a).getLsbD i = if r.wmask.testBit i then w.getLsbD i else (s.rd a).getLsbD i)

/-- While the port answers and nothing is posted, a READ32 of an address that is no multiple of 4 ends with ERROR and ALIGN (3); of one outside
the registers and windows with UNMAPPED (2); of the snowpack window, when the level of MB0 is not PL0, with DENIED (4); of a block that is
off with DOMAIN_OFF (0xD); and with ECC (8) where the word read has an uncorrectable error. Each is counted once, sends the status byte, the
token and the code, and leaves all else but a wake it may begin. That read errors count in TOP.CNT_HOST_ERR is the model's reading (log
entry 63). Where a clause has s = rasterFirst z, s is the state after the raster boundaries due at the tick (R37). (Derived: R369, R370,
R371, R373, 17_host_port_registers.md, R37.) -/
def Obligations.HostReadsThatFailEndWithTheirCode : Prop :=
    ∀ (a : BitVec 24) (z s : State), s = rasterFirst z → hostAnswers s = true → s.host.frames = [] →
      (a.toNat % 4 ≠ 0 → exec (.hostRead32 (some a) false) z = .next (State.settle (wakeBy 3 (hostCount 3 (s.emit (.host [hostStatusByte s, 0x3C, 3])))))) ∧
      (a.toNat % 4 = 0 → mapped a.toNat = false → exec (.hostRead32 (some a) false) z = .next (State.settle (wakeBy 3 (hostCount 2 (s.emit (.host [hostStatusByte s, 0x3C, 2])))))) ∧
      (a.toNat % 4 = 0 → mapped a.toNat = true → inSnowWindow a.toNat = true → s.fd (Reg.MBX_MB_CFG 0) 0 2 ≠ 0 →
        exec (.hostRead32 (some a) false) z = .next (State.settle (wakeBy 3 (hostCount 4 (s.emit (.host [hostStatusByte s, 0x3C, 4])))))) ∧
      (a.toNat % 4 = 0 → mapped a.toNat = true → inSnowWindow a.toNat = false → areaOff s a.toNat = true →
        exec (.hostRead32 (some a) false) z = .next (State.settle (wakeBy 3 (hostCount 0xD (s.emit (.host [hostStatusByte s, 0x3C, 0xD])))))) ∧
      (a.toNat % 4 = 0 → mapped a.toNat = true → inSnowWindow a.toNat = false → areaOff s a.toNat = false →
        exec (.hostRead32 (some a) true) z = .next (State.settle (wakeBy 3 (hostCount 8 (s.emit (.host [hostStatusByte s, 0x3C, 8]))))))

/-- With no levels held, HINT_N is low exactly while TOP.HINT_CAUSE and TOP.HINT_EN have a bit in common; bits 11 to 0 of the cause follow
HLT.FAULTS, bit 16 is set while the outbound count of MB0 differs from the count its client has read, bit 17 the same for MB1, and no other
bit is set. Under pad hold the level held is shown. (Derived: R383, R204, R424.) -/
def Obligations.HintFollowsItsCauses : Prop :=
    ∀ s : State, (s.pins.held = none → ((ballLevels s).hintN = false ↔ hintCause s &&& s.rd Reg.TOP_HINT_EN ≠ 0)) ∧
      (∀ l : Levels, s.pins.held = some l → (ballLevels s).hintN = l.hintN) ∧
      faults s < 2 ^ 12 ∧
      ∀ i : Nat, (hintCause s).getLsbD i = if i < 12 then (faults s).testBit i else
        if i = 16 then decide (s.fd (Reg.MBX_MB_OUT_WR 0) 0 13 ≠ s.fd (Reg.MBX_MB_OUT_SLUICE 0) 0 13) else
        if i = 17 then decide (s.fd (Reg.MBX_MB_OUT_WR 1) 0 13 ≠ s.fd (Reg.MBX_MB_OUT_SLUICE 1) 0 13) else false

/-- From the answer ACCEPTED on, whatever else stands, the objects from lo to hi of the class of the command are busy for every later command on
an object among them, other than a command that only reads and the abort of a snowpack slot; the operation stands in the list until it
completes, with what it needs. (Derived: R17, R328.) -/
def Obligations.AcceptedCommandsKeepTheirObjectBusy : Prop :=
    ∀ (c : Ctx) (cls lo hi : Nat) (d : List Nat) (s : State) (code : Nat) (m : Msg),
      (acceptOp c cls lo hi d s).mbx.ops = s.mbx.ops ++ [⟨c, cls, lo, hi, d⟩] ∧
      (m.cls.toNat = cls → msgLo m ≤ msgHi m → msgLo m ≤ hi → lo ≤ msgHi m → code ≠ 0x0A04 → isBusy (acceptOp c cls lo hi d s) code m = true)

/-- After an orderly stop the state of the device refuses exactly the commands that are not marked R, other than SYS_RESET; and while it is not
stopped, a command that does more than read and needs DRAM is refused exactly before stage 8 of the start. (Derived: R399, R431.) -/
def Obligations.AfterAnOrderlyStopOnlyReadsAndResetAreServed : Prop :=
    ∀ (s : State) (r : Svc),
      (s.pwr.stopped = true → (stateRefuses s r = true ↔ r.rd = false ∧ (r.code ≠ 0x0102 ∨ needsDram r.code = true ∧ stage s < 8))) ∧
      (s.pwr.stopped = false → (stateRefuses s r = true ↔ r.rd = false ∧ needsDram r.code = true ∧ stage s < 8))

/-- While RAS.CTRL.ENABLE is 0, a phase 0 changes nothing but what waits to go out; one that already ran because another command came in its
tick (R37) is not run again; a raster that has not had its first phase 0 has no blanking start; and while the mailboxes pause, or before
they are served, no message is dequeued and no event is sent. (Derived: R453, R43, R337, R429.) -/
def Obligations.NoPhaseWithoutTheRaster : Prop :=
    (∀ s : State, s.bit Reg.RAS_CTRL 0 = false → s.ras.ahead ≠ some s.tickNs → exec .phase0 s = .next s.settle) ∧
    (∀ s : State, s.ras.ahead = some s.tickNs → exec .phase0 s = .next (State.settle { s with ras := { s.ras with ahead := none } })) ∧
    (∀ s : State, s.ras.ran = false → exec .blankingStart s = .next s.settle) ∧
    (∀ z s : State, s = rasterFirst z → s.bit Reg.MBX_STATUS 0 = true ∨ stage s < 3 → exec .messageDequeue z = .next s.settle ∧ s.settle = drainTransports s)

/-- An event raised takes EVSEQ as its number, which then goes up by one modulo 2^32, with the time, the raster frame and the object in TARGET
layout with the own FID, and 12 bytes of detail; it is the last record of the log, which never holds more than 16 MiB of records, and it
waits to be sent; nothing else changes. The record it is sent as has 32 bytes. (Derived: R335.) -/
def Obligations.EventsAreNumberedLoggedAndKept : Prop :=
    ∀ (s : State) (code cls sev ocls idx : Nat) (detail : List Nat), ∃ r : EvRec,
      r.seq = s.mbx.evseq ∧ r.wrap = s.tickWrap ∧ r.code = code ∧ r.cls = cls ∧ r.sev = sev ∧ r.frame = s.ras.frame ∧ r.obj = s.objWord ocls idx ∧
      r.bytes.length = 32 ∧
      (s.event code cls sev ocls idx detail).mbx.log.getLast? = some r ∧ (s.event code cls sev ocls idx detail).mbx.log.length ≤ 524288 ∧
      s.event code cls sev ocls idx detail =
        { s with mbx := { s.mbx with evseq := (s.mbx.evseq + 1) % 2 ^ 32, log := (s.event code cls sev ocls idx detail).mbx.log
                                     evNew := s.mbx.evNew ++ [r] } }

/-- Over the ASCII string 123456789 the stream check gives 0xCBF43926, the check of lists and messages 0xE3069283, the check of segment packets
0x29B1, and the fourth preset 0x4B, with the polynomials, initial values, reflections and final XOR of the spec. (Derived: R93, R143, R56.) -/
def Obligations.TheChecksHaveTheirCheckValues : Prop :=
    crcValue crc32P [0x31, 0x32, 0x33, 0x34, 0x35, 0x36, 0x37, 0x38, 0x39] = 0xCBF43926 ∧
    crc32c [0x31, 0x32, 0x33, 0x34, 0x35, 0x36, 0x37, 0x38, 0x39] = 0xE3069283 ∧
    crcValue crc16P [0x31, 0x32, 0x33, 0x34, 0x35, 0x36, 0x37, 0x38, 0x39] = 0x29B1 ∧
    crcValue crc8P [0x31, 0x32, 0x33, 0x34, 0x35, 0x36, 0x37, 0x38, 0x39] = 0x4B

/-- In every state whose device time is below its wrap, TOTAL equals SECONDS × 10⁹ + NANOSECONDS modulo 2⁶⁴, with NANOSECONDS below 10⁹; WRAPNS
is TOTAL modulo 2³². (Derived: R278, R277.) -/
def Obligations.TotalIsSecondsAndNanoseconds : Prop :=
    ∀ s : State, s.now < timeWrap → s.nowNs = (seconds s * 1000000000 + nanos s) % 2 ^ 64 ∧ nanos s < 1000000000 ∧ s.wrapNs.toNat = s.nowNs % 2 ^ 32

/-- Whatever the level of MB0: a posted word whose address lies in the snowpack window, in the window its frame began in, ends its frame with
DENIED; and a word that fails for any reason ends its frame with its code, the words after it discarded, with no byte of memory, no live
word and no register changed but those of the host port. Where a clause has s = rasterFirst z, s is the state after the raster boundaries
due at the tick (R37). (Derived: R370, R235, R374, R377, R37.) -/
def Obligations.RawWritesNeverReachTheSnowpack : Prop :=
    (∀ (s : State) (first a : Nat), a % 4 = 0 → mapped a = true → sameArea first a = true → inSnowWindow a = true → hostFault s first a true = 4) ∧
    (∀ (z s : State) (f : HFrame) (rest : List HFrame) (code : Nat), s = rasterFirst z → s.canonical = true → s.host.frames = f :: rest →
      code = hostWordCode s f (f.addr + 4 * f.applied) (f.words.getD f.applied 0) → code ≠ 0 →
      ∃ t : State, exec .hostWriteApply z = .next t.settle ∧ t.host.frames = rest ∧ t.host.code = code ∧ t.mem = s.mem ∧ t.live = s.live ∧
        t = { s with regs := t.regs, host := t.host } ∧
        ∀ b : Nat, b ∉ [Reg.TOP_HOST_ERR_ADDR, Reg.TOP_HOST_ERR_INFO, Reg.TOP_CNT_HOST_ERR, Reg.TOP_CNT_HOST_TIMEOUT] → t.rd b = s.rd b)

/-- Each mailbox command that only reads (SYS_INFO, SYS_STATUS, PWR_GET, RAS_GET, LAYER_GET, BEAM_GET, LA_STATUS, CORR_READ, HEALTH_GET,
MAP_READ, SUP_GET, POL_GET, SNOW_GET, LINK_GET, FAB_GET, FAB_TOPO, TIME_GET, SENSOR_GET, CRC_GET, LOG_READ, FW_INFO, REG_READ), once served
and with its parameters in range, answers a next state: the state it met with one OK response carrying the command part of its row, and
nothing else. The layout of parts that the tables leave open is the model's choice (log entries 47 and 51). Where a clause has s =
rasterFirst z, s is the state after the raster boundaries due at the tick (R37). (Derived: R346, R16, R323, 15_command_reference.md, R37.) -/
def Obligations.ReadCommandsAnswerAndChangeNothingElse : Prop :=
    (∀ (m : Msg) (z s : State) (c : Ctx),
      s = rasterFirst z →
      c = ctxOf 0x0100 m →
      served 0x0100 m s = true →
      exec (.sysInfo m) z = .next (State.settle
        (respondTo c St.ok (leBytes 1 (Config.gradeM1.val + 1) ++ [0] ++ leBytes 2 s.ownFid ++ leBytes 8 (ownUid s) ++
          regWords s [Reg.FW_VERSION, Reg.FW_IF_REV] ++ leBytes 4 (dramBytes / 2 ^ 20)) s))) ∧
    (∀ (m : Msg) (z s : State) (c : Ctx),
      s = rasterFirst z →
      c = ctxOf 0x0101 m →
      served 0x0101 m s = true →
      exec (.sysStatus m) z = .next (State.settle
        (respondTo c St.ok (regWords s [Reg.HLT_FAULTS, Reg.RAS_STATUS] ++ leBytes 1 s.pwr.state ++ leBytes 3 0 ++ regWords s [Reg.POL_FB_STATUS]) s))) ∧
    (∀ (m : Msg) (z s : State) (c : Ctx),
      s = rasterFirst z →
      c = ctxOf 0x0200 m →
      served 0x0200 m s = true →
      exec (.pwrGet m) z = .next (State.settle
        (respondTo c St.ok (leBytes 1 s.pwr.state ++ leBytes 1 (s.fd Reg.PMU_WAKE_SRC 0 4) ++ leBytes 1 (b2n s.pins.held.isSome)) s))) ∧
    (∀ (m : Msg) (z s : State) (c : Ctx),
      s = rasterFirst z →
      c = ctxOf 0x0300 m →
      served 0x0300 m s = true →
      exec (.rasGet m) z = .next (State.settle
        (respondTo c St.ok (regWords s [Reg.RAS_STATUS, Reg.RAS_FRAME, Reg.RAS_PHASE] ++ leBytes 4 (s.lrd Reg.RAS_PERIOD).toNat ++
          leBytes 2 (s.lf Reg.RAS_PERIOD_FRAC 0 16) ++ leBytes 2 0 ++ regWords s [Reg.RAS_BLANK_EFF]) s))) ∧
    (∀ (m : Msg) (z s : State) (c : Ctx),
      s = rasterFirst z →
      c = ctxOf 0x0400 m →
      served 0x0400 m s = true →
      exec (.layerGet m) z = .next (State.settle
        (respondTo c St.ok ((objects c).flatMap fun n =>
          wordBytes ((layerRegs n).map s.lrd) ++ wordBytes ((layerRegs n).map s.rd) ++
            regWords s (Reg.CMP_LAYER_STATUS n :: regSpan (Reg.CMP_LAYER_CTRL n + 0xA0) (Reg.CMP_LAYER_CTRL n + 0xBC))) s))) ∧
    (∀ (m : Msg) (z s : State) (c : Ctx),
      s = rasterFirst z →
      c = ctxOf 0x0500 m →
      served 0x0500 m s = true →
      exec (.beamGet m) z = .next (State.settle
        (respondTo c St.ok (regWords s ([Reg.BEAM_STATUS, Reg.BEAM_LAST_LIST, Reg.BEAM_LAST_LIST_TS] ++
          regSpan Reg.BEAM_CNT_LISTS Reg.BEAM_CNT_GRID_LIVE_WR)) s))) ∧
    (∀ (m : Msg) (z s : State) (c : Ctx),
      s = rasterFirst z →
      c = ctxOf 0x0543 m →
      served 0x0543 m s = true →
      exec (.laStatus m) z = .next (State.settle
        (respondTo c St.ok (leBytes 4 (b2n s.beam.la) ++ regWords s [Reg.BEAM_CNT_SQUASH, Reg.BEAM_CNT_REUSE]) s))) ∧
    (∀ (m : Msg) (z s : State) (c : Ctx),
      s = rasterFirst z →
      c = ctxOf 0x0600 m →
      served 0x0600 m s = true →
      8 ≤ m.payload.length →
      arg c 0 1 ≤ 1 →
      arg c 1 1 ≤ 2 →
      1 ≤ arg c 6 2 →
      arg c 6 2 ≤ 1016 →
      arg c 4 2 + arg c 6 2 ≤ 4096 →
      exec (.corrRead m) z = .next (State.settle
        (respondTo c St.ok (s.bytes (recordsAt s (arg c 1 1) (arg c 0 1) m.index.toNat + 4 * arg c 4 2) (4 * arg c 6 2)) s))) ∧
    (∀ (m : Msg) (z s : State) (c : Ctx),
      s = rasterFirst z →
      c = ctxOf 0x0700 m →
      served 0x0700 m s = true →
      m.index ≠ 0xFFFF →
      exec (.healthGet m) z = .next (State.settle
        (respondTo c St.ok (regWords s [Reg.HLT_SEG_COUNT m.index.toNat] ++ leBytes 4 (healthBits s m.index.toNat)) s))) ∧
    (∀ (m : Msg) (z s : State) (c : Ctx),
      s = rasterFirst z →
      c = ctxOf 0x0700 m →
      served 0x0700 m s = true →
      m.index = 0xFFFF →
      exec (.healthGet m) z = .next (State.settle
        (respondTo c St.ok (regWords s [Reg.HLT_TOTAL_OPEN, Reg.HLT_TOTAL_SHORT, Reg.HLT_TOTAL_WEAK, Reg.HLT_FAULTS]) s))) ∧
    (∀ (m : Msg) (z s : State) (c : Ctx),
      s = rasterFirst z →
      c = ctxOf 0x0701 m →
      served 0x0701 m s = true →
      6 ≤ m.payload.length →
      1 ≤ arg c 4 2 →
      arg c 4 2 ≤ 4064 →
      arg c 0 4 + arg c 4 2 ≤ mapBytes →
      exec (.mapRead m) z = .next (State.settle
        (respondTo c St.ok ((List.range (arg c 4 2)).map fun i => mapByte s (arg c 0 4 + i)) s))) ∧
    (∀ (m : Msg) (z s : State) (c : Ctx),
      s = rasterFirst z →
      c = ctxOf 0x0800 m →
      served 0x0800 m s = true →
      exec (.supGet m) z = .next (State.settle
        (respondTo c St.ok (regWords s [Reg.SUP_STATUS, Reg.SUP_VSET, Reg.SUP_HMIN, Reg.SUP_CAPACITY, Reg.SUP_PEAK, Reg.SUP_DERATE_STATUS,
          Reg.SUP_DERATE_LIT]) s))) ∧
    (∀ (m : Msg) (z s : State) (c : Ctx),
      s = rasterFirst z →
      c = ctxOf 0x0900 m →
      served 0x0900 m s = true →
      exec (.polGet m) z = .next (State.settle
        (respondTo c St.ok ((objects c).flatMap fun n =>
          wordBytes ((polGroup n).map s.lrd) ++ regWords s [Reg.POL_P_SIG n] ++
            leBytes 4 (b2n (s.bit (if n < 32 then Reg.POL_MISMATCH_LO else Reg.POL_MISMATCH_HI) (n % 32)) +
              2 * b2n (s.bit (if n < 32 then Reg.POL_SKIP_LO else Reg.POL_SKIP_HI) (n % 32)) +
              4 * b2n (s.bit (if n < 32 then Reg.POL_HOLD_LO else Reg.POL_HOLD_HI) (n % 32)))) s))) ∧
    (∀ (m : Msg) (z s : State) (c : Ctx),
      s = rasterFirst z →
      c = ctxOf 0x0A00 m →
      served 0x0A00 m s = true →
      exec (.snowGet m) z = .next (State.settle
        (respondTo c St.ok (((objects c).flatMap fun k => s.bytes (entryAt snowBase k) 16) ++ wordBytes [s.rd Reg.SNOW_STATUS, s.rd Reg.SNOW_FREE]) s))) ∧
    (∀ (m : Msg) (z s : State) (c : Ctx),
      s = rasterFirst z →
      c = ctxOf 0x0B00 m →
      served 0x0B00 m s = true →
      exec (.linkGet m) z = .next (State.settle
        (respondTo c St.ok ((objects c).flatMap (linkWords s m.cls.toNat)) s))) ∧
    (∀ (m : Msg) (z s : State) (c : Ctx),
      s = rasterFirst z →
      c = ctxOf 0x0C00 m →
      served 0x0C00 m s = true →
      m.cls = 0 →
      exec (.fabGet m) z = .next (State.settle
        (respondTo c St.ok (regWords s (Reg.FAB_STATUS :: regSpan Reg.FAB_CNT_DISCOVERY Reg.FAB_CNT_SEND_CUT)) s))) ∧
    (∀ (m : Msg) (z s : State) (c : Ctx),
      s = rasterFirst z →
      c = ctxOf 0x0C00 m →
      served 0x0C00 m s = true →
      m.cls ≠ 0 →
      exec (.fabGet m) z = .next (State.settle
        (respondTo c St.ok ((objects c).flatMap fun p => regWords s
          ([Reg.FAB_P_STATUS p, Reg.FAB_P_NEIGH_LO p, Reg.FAB_P_NEIGH_HI p] ++ regSpan (Reg.FAB_P_CNT_CRC p) (Reg.FAB_P_CTRL p + 0x5C))) s))) ∧
    (∀ (m : Msg) (z s : State) (c : Ctx),
      s = rasterFirst z →
      c = ctxOf 0x0C07 m →
      served 0x0C07 m s = true →
      4 ≤ m.payload.length →
      1 ≤ arg c 2 2 →
      arg c 2 2 ≤ 100 →
      isRoot s = true →
      exec (.fabTopo m) z = .next (State.settle
        (respondTo c St.ok ((((List.range 4095).filterMap fun f => if arg c 0 2 ≤ f then s.fab.topo.find? (·.fid == f) else none).take (arg c 2 2)).flatMap
          (topoRecord s)) s))) ∧
    (∀ (m : Msg) (z s : State) (c : Ctx),
      s = rasterFirst z →
      c = ctxOf 0x0D00 m →
      served 0x0D00 m s = true →
      exec (.timeGet m) z = .next (State.settle
        (respondTo c St.ok (leBytes 8 s.nowNs ++ leBytes 6 (seconds s) ++ leBytes 2 0 ++ leBytes 4 (nanos s) ++ leBytes 1 (s.fd Reg.PTP_STATUS 0 2) ++
          leBytes 1 0 ++ leBytes 2 (wrapInt 16 s.ptp.utc)) s))) ∧
    (∀ (m : Msg) (z s : State) (c : Ctx),
      s = rasterFirst z →
      c = ctxOf 0x0E00 m →
      served 0x0E00 m s = true →
      exec (.sensorGet m) z = .next (State.settle
        (respondTo c St.ok (regWords s ((objects c).map Reg.HK_CH_VALUE)) s))) ∧
    (∀ (m : Msg) (z s : State) (c : Ctx),
      s = rasterFirst z →
      c = ctxOf 0x0F00 m →
      served 0x0F00 m s = true →
      exec (.crcGet m) z = .next (State.settle
        (respondTo c St.ok ((objects c).flatMap fun n =>
          regWords s (regSpan (Reg.CRC_CH_CTRL n) (Reg.CRC_CH_AUX n) ++ [Reg.CRC_CH_RESULT n]) ++
            leBytes 4 (b2n (s.bit (Reg.CRC_CH_STATUS n) 2))) s))) ∧
    (∀ (m : Msg) (z s : State) (c : Ctx),
      s = rasterFirst z →
      c = ctxOf 0x1000 m →
      served 0x1000 m s = true →
      5 ≤ m.payload.length →
      1 ≤ arg c 4 1 →
      arg c 4 1 ≤ 126 →
      exec (.logRead m) z = .next (State.settle
        (respondTo c St.ok (leBytes 4 ((s.mbx.log.head?.map (·.seq)).getD s.mbx.evseq) ++ leBytes 4 ((s.mbx.evseq + 2 ^ 32 - 1) % 2 ^ 32) ++
          ((s.mbx.log.filter fun r => decide ((r.seq + 2 ^ 32 - arg c 0 4) % 2 ^ 32 < 2 ^ 31)).take (arg c 4 1)).flatMap EvRec.bytes) s))) ∧
    (∀ (m : Msg) (z s : State) (c : Ctx),
      s = rasterFirst z →
      c = ctxOf 0x1100 m →
      served 0x1100 m s = true →
      exec (.fwInfo m) z = .next (State.settle
        (respondTo c St.ok (wordBytes [s.rd Reg.FW_STATE, s.rd Reg.FW_VERSION] ++ (leBytes 4 (fwRec s 0).gen ++ leBytes 4 (fwRec s 0).st) ++
          (leBytes 4 (fwRec s 1).gen ++ leBytes 4 (fwRec s 1).st)) s))) ∧
    (∀ (m : Msg) (z s : State) (c : Ctx),
      s = rasterFirst z →
      c = ctxOf 0x1200 m →
      served 0x1200 m s = true →
      6 ≤ m.payload.length →
      1 ≤ arg c 4 2 →
      arg c 4 2 ≤ 1018 →
      regDenied c s (arg c 0 4) (arg c 4 2) false = (0, []) →
      exec (.regRead m) z = .next (State.settle
        (respondTo c St.ok ((List.range (arg c 4 2)).flatMap fun i => leBytes 4 (spaceRead s (arg c 0 4 + 4 * i)).toNat) s)))

/-- SYS_RESET sets a reset of the kind asked for to follow the response; SYS_PROTECT writes levels and rules; SYS_MBX_CFG writes enable,
severity and event mask; SYS_ALIVE_RESET forgets the alive state of the clients; PWR_ENTER starts the entry or the return; PWR_OFF sets OFF
to follow; PWR_PAD_RELEASE releases the held balls; RAS_TIMING and RAS_EPOCH stage the timing registers and commit them, answering
APPLY_FRAME; RAS_ENABLE enables or disables the raster. Each under the conditions of its row alone. Where a clause has s = rasterFirst z, s
is the state after the raster boundaries due at the tick (R37). (Derived: R346, R334, R326, R46, R22, R43, R347, R424, R37.) -/
def Obligations.SystemPowerAndRasterCommandsTakeEffect : Prop :=
    (∀ (m : Msg) (z s : State) (c : Ctx),
      s = rasterFirst z →
      c = ctxOf 0x0102 m →
      served 0x0102 m s = true →
      1 ≤ m.payload.length →
      arg c 0 1 ≤ 1 →
      exec (.sysReset m) z = .next (State.settle
        (followUp (arg c 0 1) (if m.mb == 5 then 5 else 4) (respondTo c St.ok [] s)))) ∧
    (∀ (m : Msg) (z s : State) (c : Ctx),
      s = rasterFirst z →
      c = ctxOf 0x0103 m →
      served 0x0103 m s = true →
      8 + 8 * (protectRules c).length ≤ m.payload.length →
      ¬((arg c 2 1).testBit 7 = true ∧ arg c 4 2 / 4 ^ 7 % 4 ≠ 0) →
      exec (.sysProtect m) z = .next (State.settle
        (respondTo c St.ok [] (forEach ((List.range 8).filter fun n => (arg c 2 1).testBit n)
          (fun n t => t.wf (Reg.MBX_MB_CFG n) 0 2 (arg c 4 2 / 4 ^ n % 4))
          (forEach (protectRules c) (fun e t =>
            (t.swWrite (Reg.MBX_RULE_MATCH e.1) (BitVec.ofNat 32 (arg c e.2 4))).swWrite (Reg.MBX_RULE_INDEX e.1)
              (BitVec.ofNat 32 (arg c (e.2 + 4) 4))) s))))) ∧
    (∀ (m : Msg) (z s : State) (c : Ctx),
      s = rasterFirst z →
      c = ctxOf 0x0104 m →
      served 0x0104 m s = true →
      8 ≤ m.payload.length →
      arg c 0 1 % 2 = 1 ∨ 7 ∉ objects c →
      exec (.sysMbxCfg m) z = .next (State.settle
        (respondTo c St.ok [] (forEach (objects c) (fun n t =>
          ((t.wf (Reg.MBX_MB_CFG n) 2 1 (arg c 0 1 % 2)).wf (Reg.MBX_MB_CFG n) 3 2 (arg c 0 1 / 2)).swWrite (Reg.MBX_MB_EVT_MASK n)
            (BitVec.ofNat 32 (arg c 4 4))) s)))) ∧
    (∀ (m : Msg) (z s : State) (c : Ctx),
      s = rasterFirst z →
      c = ctxOf 0x0105 m →
      served 0x0105 m s = true →
      exec (.sysAliveReset m) z = .next (State.settle
        (respondTo c St.ok [] (forEach (objects c) (fun n t => { t with mbx := { t.mbx with
          alive := t.mbx.alive.filter fun e => e.1 % 8 != n, mb4 := if n == 4 then [] else t.mbx.mb4 } }) s)))) ∧
    (∀ (m : Msg) (z s : State) (c : Ctx),
      s = rasterFirst z →
      c = ctxOf 0x0201 m →
      served 0x0201 m s = true →
      8 ≤ m.payload.length →
      arg c 0 1 = 0 →
      s.pwr.state ≠ 0 →
      s.pwr.target = 0 →
      (arg c 1 1).testBit 1 = false →
      exec (.pwrEnter m) z = .next (State.settle
        (leaveIdle (acceptOp c clsDevice 0 0 [] s)))) ∧
    (∀ (m : Msg) (z s : State) (c : Ctx),
      s = rasterFirst z →
      c = ctxOf 0x0201 m →
      served 0x0201 m s = true →
      8 ≤ m.payload.length →
      1 ≤ arg c 0 1 →
      arg c 0 1 ≤ 3 →
      s.pwr.state = 0 →
      s.pwr.target = 0 →
      (arg c 1 1).testBit 1 = false →
      (2 ≤ arg c 0 1 → arg c 1 1 % 16 ≠ 0) →
      (arg c 0 1 = 3 → (arg c 1 1 % 16).testBit 3 = false) →
      exec (.pwrEnter m) z = .next (State.settle
        (let t := beginStep 1 (modPwr (fun p => { p with target := arg c 0 1, quiesced := true, wake := none })
          (pmuState 2 ((acceptOp c clsDevice 0 0 [] s).wf Reg.AON_WAKE_CFG 0 4 (arg c 1 1 % 16))))
        if t.pwr.target == arg c 0 1 then beginStep 2 t else t))) ∧
    (∀ (m : Msg) (z s : State) (c : Ctx),
      s = rasterFirst z →
      c = ctxOf 0x0202 m →
      served 0x0202 m s = true →
      exec (.pwrOff m) z = .next (State.settle
        (followUp 2 0 (respondTo c St.ok [] s)))) ∧
    (∀ (m : Msg) (z s : State) (c : Ctx),
      s = rasterFirst z →
      c = ctxOf 0x0203 m →
      served 0x0203 m s = true →
      s.pins.held.isSome = true →
      exec (.pwrPadRelease m) z = .next (State.settle
        (respondTo c St.ok [] (releasePads s)))) ∧
    (∀ (m : Msg) (z s : State) (c : Ctx),
      s = rasterFirst z →
      c = ctxOf 0x0301 m →
      served 0x0301 m s = true →
      12 ≤ m.payload.length →
      arg c 6 1 ≤ 1 ∨ arg c 6 1 = 0xFF →
      arg c 7 1 ≤ 1 →
      arg c 8 4 < 2 ^ 24 →
      periodInRange (arg c 0 4 * 65536 + arg c 4 2) = true →
      layerFit (arg c 0 4 * 65536 + arg c 4 2) ((List.range 8).filter (layerWillBe s)).length = true →
      exec (.rasTiming m) z = .next (State.settle
        (let t := timingCommit (when (arg c 8 4 != 0) (State.wr · Reg.RAS_BLANK_START (BitVec.ofNat 32 (arg c 8 4)))
          ((when (arg c 6 1 != 0xFF) (State.wf · Reg.RAS_SOURCE 0 2 (arg c 6 1))
            (wRas Reg.RAS_PERIOD_FRAC (BitVec.ofNat 32 (arg c 4 2)) (wRas Reg.RAS_PERIOD (BitVec.ofNat 32 (arg c 0 4)) s))).wf Reg.RAS_SOURCE 2 1 (arg c 7 1)))
        respondTo c St.ok (framePart t) t))) ∧
    (∀ (m : Msg) (z s : State) (c : Ctx),
      s = rasterFirst z →
      c = ctxOf 0x0302 m →
      served 0x0302 m s = true →
      8 ≤ m.payload.length →
      exec (.rasEpoch m) z = .next (State.settle
        (let t := timingCommit (wRas Reg.RAS_EPOCH_S_HI (BitVec.ofNat 32 (arg c 0 8 / 1000000000 / 2 ^ 32))
          (wRas Reg.RAS_EPOCH_S_LO (BitVec.ofNat 32 (arg c 0 8 / 1000000000))
            (wRas Reg.RAS_EPOCH_NS (BitVec.ofNat 32 (arg c 0 8 % 1000000000)) s)))
        respondTo c St.ok (framePart t) t))) ∧
    (∀ (m : Msg) (z s : State) (c : Ctx),
      s = rasterFirst z →
      c = ctxOf 0x0303 m →
      served 0x0303 m s = true →
      1 ≤ m.payload.length →
      arg c 0 1 ≤ 1 →
      exec (.rasEnable m) z = .next (State.settle
        (respondTo c St.ok [] (rasEnable (arg c 0 1 == 1) s))))

/-- SURF_CREATE makes the surface at the extent found; SURF_DESTROY removes an unnamed surface; SURF_WRITE writes a buffer of a software
surface; SURF_PUBLISH publishes it, with a free value as SFN; SURF_POOL moves the pool; LUT_LOAD, CURVE_LOAD and CORR_STAGE write exactly
the bytes of their payload at the place their selector gives. Each under the conditions of its row alone. Where a clause has s = rasterFirst
z, s is the state after the raster boundaries due at the tick (R37). (Derived: R100, R102, R103, R104, R106, R109, R125, R171, R343, R346,
R37.) -/
def Obligations.SurfaceAndBulkTableCommandsTakeEffect : Prop :=
    (∀ (m : Msg) (z s : State) (c : Ctx),
      s = rasterFirst z →
      c = ctxOf 0x0410 m →
      served 0x0410 m s = true →
      7 ≤ m.payload.length →
      1 ≤ arg c 0 2 →
      arg c 0 2 ≤ 8192 →
      1 ≤ arg c 2 2 →
      arg c 2 2 ≤ 8192 →
      arg c 4 1 ≤ 6 →
      1 ≤ arg c 5 1 →
      arg c 5 1 ≤ 3 →
      arg c 6 1 ≤ 5 →
      m.index ≠ 0xFFFF →
      surfValid s m.index.toNat = false →
      ∀ u : Nat, findExtent s (arg c 5 1 * bufBytesOf (arg c 0 2) (arg c 2 2) (arg c 4 1) / 65536) = some u →
      exec (.surfCreate m) z = .next (State.settle
        (respondTo c St.ok (leBytes 1 m.index.toNat ++ leBytes 3 0 ++ leBytes 4 u ++ leBytes 4 (pitchOf (arg c 0 2) (arg c 4 1)))
          (makeSurf m.index.toNat (arg c 0 2) (arg c 2 2) (arg c 4 1) (arg c 5 1) (arg c 6 1) u s)))) ∧
    (∀ (m : Msg) (z s : State) (c : Ctx),
      s = rasterFirst z →
      c = ctxOf 0x0411 m →
      served 0x0411 m s = true →
      surfValid s m.index.toNat = true →
      surfNamed s m.index.toNat = false →
      exec (.surfDestroy m) z = .next (State.settle
        (respondTo c St.ok [] (destroySurf m.index.toNat s)))) ∧
    (∀ (m : Msg) (z s : State) (c : Ctx),
      s = rasterFirst z →
      c = ctxOf 0x0412 m →
      served 0x0412 m s = true →
      16 ≤ m.payload.length →
      ¬((bulkOf c).data.length % 4 ≠ 0 ∨ bulkMax c < (bulkOf c).data.length) →
      (bulkOf c).op = 1 →
      softSurf s m.index.toNat = true →
      (bulkOf c).sel < surfBufs s m.index.toNat →
      (bulkOf c).offset + (bulkOf c).data.length ≤ surfBufBytes s m.index.toNat →
      exec (.surfWrite m) z = .next (State.settle
        (respondTo c St.ok [] (when (bufState s m.index.toNat (bulkOf c).sel == bFree) (setBuf m.index.toNat (bulkOf c).sel bWriting)
          (s.putBytes (bufAddr s m.index.toNat (bulkOf c).sel + (bulkOf c).offset) (bulkOf c).data))))) ∧
    (∀ (m : Msg) (z s : State) (c : Ctx),
      s = rasterFirst z →
      c = ctxOf 0x0413 m →
      served 0x0413 m s = true →
      1 ≤ m.payload.length →
      softSurf s m.index.toNat = true →
      arg c 0 1 < surfBufs s m.index.toNat →
      exec (.surfPublish m) z = .next (State.settle
        (respondTo c St.ok [] (publishBuf m.index.toNat (arg c 0 1) s.freeNow s).useFree))) ∧
    (∀ (m : Msg) (z s : State) (c : Ctx),
      s = rasterFirst z →
      c = ctxOf 0x0414 m →
      served 0x0414 m s = true →
      4 ≤ m.payload.length →
      512 ≤ arg c 0 2 →
      64 ≤ arg c 2 2 →
      arg c 0 2 + arg c 2 2 ≤ dramBytes / 2 ^ 20 →
      (List.range 64).any (surfValid s) = false →
      exec (.surfPool m) z = .next (State.settle
        (respondTo c St.ok [] (poolShow ((s.wf Reg.DRAM_SURF_POOL_BASE 0 13 (arg c 0 2)).wf Reg.DRAM_SURF_POOL_SIZE 0 13 (arg c 2 2)))))) ∧
    (∀ (m : Msg) (z s : State) (c : Ctx),
      s = rasterFirst z →
      c = ctxOf 0x0403 m →
      served 0x0403 m s = true →
      16 ≤ m.payload.length →
      ¬((bulkOf c).data.length % 4 ≠ 0 ∨ bulkMax c < (bulkOf c).data.length) →
      (bulkOf c).op = 1 →
      (bulkOf c).sel ≤ 15 →
      2 * (bulkOf c).offset + (bulkOf c).data.length ≤ 8192 →
      bankUsed s Reg.CMP_LUT_BANK (if (bulkOf c).sel % 8 < 4 then (bulkOf c).sel % 8 else 4 + (bulkOf c).sel % 8) ((bulkOf c).sel / 8) = false →
      exec (.lutLoad m) z = .next (State.settle
        (respondTo c St.ok [] (s.putBytes (winBase + (if (bulkOf c).sel % 8 < 4 then 0x400000 + 0x2000 * (2 * ((bulkOf c).sel % 8) + (bulkOf c).sel / 8)
          else 0x410000 + 0x2000 * (2 * ((bulkOf c).sel % 8 - 4) + (bulkOf c).sel / 8)) + 2 * (bulkOf c).offset) (bulkOf c).data)))) ∧
    (∀ (m : Msg) (z s : State) (c : Ctx),
      s = rasterFirst z →
      c = ctxOf 0x0605 m →
      served 0x0605 m s = true →
      16 ≤ m.payload.length →
      ¬((bulkOf c).data.length % 4 ≠ 0 ∨ bulkMax c < (bulkOf c).data.length) →
      (bulkOf c).op = 1 →
      (bulkOf c).sel ≤ 31 →
      2 * (bulkOf c).offset + (bulkOf c).data.length ≤ 2048 →
      bankUsed s Reg.CORR_CURVE_BANK 0 ((bulkOf c).sel / 16) = false →
      exec (.curveLoad m) z = .next (State.settle
        (respondTo c St.ok [] (s.putBytes (winBase + (0x430000 + 0x8000 * ((bulkOf c).sel / 16) + 0x800 * ((bulkOf c).sel % 16)) +
          2 * (bulkOf c).offset) (bulkOf c).data)))) ∧
    (∀ (m : Msg) (z s : State) (c : Ctx),
      s = rasterFirst z →
      c = ctxOf 0x0601 m →
      served 0x0601 m s = true →
      16 ≤ m.payload.length →
      ¬((bulkOf c).data.length % 4 ≠ 0 ∨ bulkMax c < (bulkOf c).data.length) →
      (bulkOf c).op = 1 →
      (bulkOf c).sel ≤ 1 →
      4 * (bulkOf c).offset + (bulkOf c).data.length ≤ 4 * 2 ^ 20 →
      exec (.corrStage m) z = .next (State.settle
        (respondTo c St.ok [] (s.putBytes (stageAt s (bulkOf c).sel 0 + 4 * (bulkOf c).offset) (bulkOf c).data))))

/-- For each command that carries a register set (RAS_SYNC_CFG, LAYER_SET, CANVAS_SET, BEAM_CFG, CORR_CFG, SEG_CFG, HEALTH_CFG, SUP_CFG,
POL_SET, STREAM_CFG, NET_CFG, SERVO_CFG, SENSOR_CFG, CRC_CFG): a served request whose set is complete, lies within the offsets of the row,
holds no reserved value and passes the check of its service has every selected word written, then the COMMIT of its set if it asks for it
and has one, and is answered OK, with APPLY_FRAME when it committed or wrote a shadow register. STREAM_CFG writes CTRL last and CRC_CFG
enables the channel after its other words (log entry 52). Where a clause has s = rasterFirst z, s is the state after the raster boundaries
due at the tick (R37). (Derived: R342, R346, R126, R128, R160, R233, R354, R455, R37.) -/
def Obligations.RegisterSetCommandsWriteTheirWords : Prop :=
    (∀ (m : Msg) (z s : State) (c : Ctx),
      s = rasterFirst z →
      c = ctxOf 0x0304 m →
      served 0x0304 m s = true →
      (setFits c [Reg.RAS_CTRL] (fun o => decide (0x60 ≤ o ∧ o ≤ 0x70)) s = true) →
      exec (.rasSyncCfg m) z = .next (State.settle
        (setAnswer c [Reg.RAS_CTRL] false (writeWords (setWords c [Reg.RAS_CTRL]) s)))) ∧
    (∀ (m : Msg) (z s : State) (c : Ctx),
      s = rasterFirst z →
      c = ctxOf 0x0401 m →
      served 0x0401 m s = true →
      (setFits c [Reg.CMP_LAYER_CTRL m.index.toNat] (fun o => decide (o ≤ 0x30)) s = true) →
      layerCheck m.index.toNat s (setWords c [Reg.CMP_LAYER_CTRL m.index.toNat]) = St.ok →
      exec (.layerSet m) z = .next (State.settle
        (setAnswer c [Reg.CMP_LAYER_CTRL m.index.toNat] (setCommits c) (when (setCommits c) (layerCommit m.index.toNat)
          (writeWords (setWords c [Reg.CMP_LAYER_CTRL m.index.toNat]) s))))) ∧
    (∀ (m : Msg) (z s : State) (c : Ctx),
      s = rasterFirst z →
      c = ctxOf 0x0402 m →
      served 0x0402 m s = true →
      (setFits c [Reg.CMP_CANVAS] (fun o => decide (o ≤ 8)) s = true) →
      exec (.canvasSet m) z = .next (State.settle
        (setAnswer c [Reg.CMP_CANVAS] (setCommits c) (when (setCommits c) globalCommit
          (writeWords (setWords c [Reg.CMP_CANVAS]) s))))) ∧
    (∀ (m : Msg) (z s : State) (c : Ctx),
      s = rasterFirst z →
      c = ctxOf 0x0502 m →
      served 0x0502 m s = true →
      setFits c [Reg.BEAM_CTRL] beamAccepts s = true →
      beamCheck (setCommits c) s (setWords c [Reg.BEAM_CTRL]) = St.ok →
      exec (.beamCfg m) z = .next (State.settle
        (setAnswer c [Reg.BEAM_CTRL] (setCommits c) (when (setCommits c) beamCommit
          (writeWords (setWords c [Reg.BEAM_CTRL]) s))))) ∧
    (∀ (m : Msg) (z s : State) (c : Ctx),
      s = rasterFirst z →
      c = ctxOf 0x0604 m →
      served 0x0604 m s = true →
      (setFits c [Reg.CORR_CTRL] (fun o => decide (o ≤ 0x1FF)) s = true) →
      corrCheck s (setWords c [Reg.CORR_CTRL]) = St.ok →
      exec (.corrCfg m) z = .next (State.settle
        (setAnswer c [Reg.CORR_CTRL] (setCommits c) (when (setCommits c) corrCommit
          (writeWords (setWords c [Reg.CORR_CTRL]) s))))) ∧
    (∀ (m : Msg) (z s : State) (c : Ctx),
      s = rasterFirst z →
      c = ctxOf 0x0606 m →
      served 0x0606 m s = true →
      (setFits c ((objects c).map Reg.SEG_SEG_CFG) (fun o => o == 0 || decide (0x10 ≤ o ∧ o ≤ 0x1C)) s = true) →
      exec (.segCfg m) z = .next (State.settle
        (setAnswer c ((objects c).map Reg.SEG_SEG_CFG) false (writeWords (setWords c ((objects c).map Reg.SEG_SEG_CFG)) s)))) ∧
    (∀ (m : Msg) (z s : State) (c : Ctx),
      s = rasterFirst z →
      c = ctxOf 0x0705 m →
      served 0x0705 m s = true →
      (setFits c [Reg.HLT_CTRL] (fun o => decide (o ≤ 0x24)) s = true) →
      ((fun u l => if basesStand u l then St.ok else St.range) s (setWords c [Reg.HLT_CTRL]) = St.ok) →
      exec (.healthCfg m) z = .next (State.settle
        (setAnswer c [Reg.HLT_CTRL] false (writeWords (setWords c [Reg.HLT_CTRL]) s)))) ∧
    (∀ (m : Msg) (z s : State) (c : Ctx),
      s = rasterFirst z →
      c = ctxOf 0x0801 m →
      served 0x0801 m s = true →
      (setFits c [Reg.SUP_CTRL] (fun o => decide (o ≤ 0x58)) s = true) →
      ((fun u l => if fld (setView u l Reg.SUP_VLED_MAX) 0 11 < fld (setView u l Reg.SUP_VLED_MIN) 0 11 then St.range else St.ok) s (setWords c [Reg.SUP_CTRL]) = St.ok) →
      exec (.supCfg m) z = .next (State.settle
        (setAnswer c [Reg.SUP_CTRL] false (writeWords (setWords c [Reg.SUP_CTRL]) s)))) ∧
    (∀ (m : Msg) (z s : State) (c : Ctx),
      s = rasterFirst z →
      c = ctxOf 0x0901 m →
      served 0x0901 m s = true →
      (setFits c [Reg.POL_P_CFG m.index.toNat] (fun o => decide (o ≤ 0x0C)) s = true) →
      polSetCheck s (setWords c [Reg.POL_P_CFG m.index.toNat]) = St.ok →
      exec (.polSet m) z = .next (State.settle
        (setAnswer c [Reg.POL_P_CFG m.index.toNat] (setCommits c) (when (setCommits c) polCommit
          (writeWords (setWords c [Reg.POL_P_CFG m.index.toNat]) s))))) ∧
    (∀ (m : Msg) (z s : State) (c : Ctx),
      s = rasterFirst z →
      c = ctxOf 0x0B03 m →
      served 0x0B03 m s = true →
      (setFits c [Reg.SDS_STR_CTRL m.index.toNat] (fun o => decide (o ≤ 0x10)) s = true) →
      streamCheck m.index.toNat s (setWords c [Reg.SDS_STR_CTRL m.index.toNat]) = St.ok →
      exec (.streamCfg m) z = .next (State.settle
        (setAnswer c [Reg.SDS_STR_CTRL m.index.toNat] false (streamWrite m.index.toNat (setWords c [Reg.SDS_STR_CTRL m.index.toNat]) s)))) ∧
    (∀ (m : Msg) (z s : State) (c : Ctx),
      s = rasterFirst z →
      c = ctxOf 0x0B06 m →
      served 0x0B06 m s = true →
      (setFits c [if m.index.toNat < 2 then Reg.MAC_CTRL m.index.toNat else Reg.CAN_CTRL (m.index.toNat - 2)] (fun o => decide (o ≤ 0x1C) || decide (0x100 ≤ o ∧ o ≤ 0x4F8)) s = true) →
      exec (.netCfg m) z = .next (State.settle
        (setAnswer c [if m.index.toNat < 2 then Reg.MAC_CTRL m.index.toNat else Reg.CAN_CTRL (m.index.toNat - 2)] false (writeWords (setWords c [if m.index.toNat < 2 then Reg.MAC_CTRL m.index.toNat else Reg.CAN_CTRL (m.index.toNat - 2)]) s)))) ∧
    (∀ (m : Msg) (z s : State) (c : Ctx),
      s = rasterFirst z →
      c = ctxOf 0x0D03 m →
      served 0x0D03 m s = true →
      (setFits c [Reg.PTP_CTRL] (fun o => decide (o ≤ 0x74) && !(decide (0x30 ≤ o ∧ o ≤ 0x40))) s = true) →
      exec (.servoCfg m) z = .next (State.settle
        (setAnswer c [Reg.PTP_CTRL] false (writeWords (setWords c [Reg.PTP_CTRL]) s)))) ∧
    (∀ (m : Msg) (z s : State) (c : Ctx),
      s = rasterFirst z →
      c = ctxOf 0x0E01 m →
      served 0x0E01 m s = true →
      (setFits c [Reg.HK_CH_CFG m.index.toNat] (fun o => decide (o ≤ 0x0C)) s = true) →
      exec (.sensorCfg m) z = .next (State.settle
        (setAnswer c [Reg.HK_CH_CFG m.index.toNat] false (writeWords (setWords c [Reg.HK_CH_CFG m.index.toNat]) s)))) ∧
    (∀ (m : Msg) (z s : State) (c : Ctx),
      s = rasterFirst z →
      c = ctxOf 0x0F01 m →
      served 0x0F01 m s = true →
      (setFits c [Reg.CRC_CH_CTRL m.index.toNat] (fun o => decide (o ≤ 0x2C)) s = true) →
      chCheck m.index.toNat s (setWords c [Reg.CRC_CH_CTRL m.index.toNat]) = St.ok →
      exec (.crcCfg m) z = .next (State.settle
        (setAnswer c [Reg.CRC_CH_CTRL m.index.toNat] false (when (chEnNext m.index.toNat (setWords c [Reg.CRC_CH_CTRL m.index.toNat]) s)
          (crcCtrl m.index.toNat (setFld ((chWritten m.index.toNat (setWords c [Reg.CRC_CH_CTRL m.index.toNat]) s).rd (Reg.CRC_CH_CTRL m.index.toNat)) 0 1 1)) (chWritten m.index.toNat (setWords c [Reg.CRC_CH_CTRL m.index.toNat]) s)))))

/-- CORR_APPLY, CORR_SAVE, VF_CAPTURE, HEALTH_SAVE, CAL_SAVE, CAL_RUN and CRC_SCAN are answered ACCEPTED, keep their object busy and start their
operation; HEALTH_CLEAR clears the lamps named and judges the segment fault again; SUP_RESTART, SUP_LIMIT, FB_RAISE and FB_CLEAR act at once
with their answers; LIST_PUT takes a list that passes its checks and answers the objects dropped; LA_ENTER, LA_EXIT and LA_TOL set the
lookahead and its tolerance; LOG_CLEAR empties the event log and keeps EVSEQ. Each under the conditions of its row alone. Where a clause has
s = rasterFirst z, s is the state after the raster boundaries due at the tick (R37). (Derived: R184, R186, R194, R197, R224, R225, R244,
R248, R145, R350, R404, R355.) -/
def Obligations.CorrectionHealthSupplyListAndCheckCommandsTakeEffect : Prop :=
    (∀ (m : Msg) (z s : State) (c : Ctx),
      s = rasterFirst z →
      c = ctxOf 0x0602 m →
      served 0x0602 m s = true →
      3 ≤ m.payload.length →
      m.index.toNat ≤ arg c 0 1 →
      rangeHeld s clsSegment m.index.toNat (arg c 0 1) = false →
      1 ≤ arg c 1 1 →
      arg c 1 1 ≤ 3 →
      arg c 2 1 ≤ 1 →
      exec (.corrApply m) z = .next (State.settle
        (applyAccept { lo := m.index.toNat, hi := arg c 0 1, tables := arg c 1 1, source := arg c 2 1, ctx := some c }
          (acceptOp c clsSegment m.index.toNat (arg c 0 1) [] s)))) ∧
    (∀ (m : Msg) (z s : State) (c : Ctx),
      s = rasterFirst z →
      c = ctxOf 0x0603 m →
      served 0x0603 m s = true →
      1 ≤ m.payload.length →
      m.index.toNat ≤ arg c 0 1 →
      rangeHeld s clsSegment m.index.toNat (arg c 0 1) = false →
      s.corr.saving = none →
      exec (.corrSave m) z = .next (State.settle
        (let t := acceptOp c clsSegment m.index.toNat (arg c 0 1) [] s
        { t with corr := { t.corr with saving := some (m.index.toNat, false, arg c 0 1, c) } }.wb Reg.CORR_STATUS 1 true))) ∧
    (∀ (m : Msg) (z s : State) (c : Ctx),
      s = rasterFirst z →
      c = ctxOf 0x0702 m →
      served 0x0702 m s = true →
      4 ≤ m.payload.length →
      arg c 2 2 = 0 ∨ arg c 0 2 + arg c 2 2 ≤ 4096 →
      exec (.healthClear m) z = .next (State.settle
        (respondTo c St.ok [] (forEach (objects c) (fun g t => faultEval g
          (forEach ((List.range (if arg c 2 2 = 0 then 4096 else arg c 2 2)).map (g * 4096 + (if arg c 2 2 = 0 then 0 else arg c 0 2) + ·))
            clearLamp t)) s)))) ∧
    (∀ (m : Msg) (z s : State) (c : Ctx),
      s = rasterFirst z →
      c = ctxOf 0x0703 m →
      served 0x0703 m s = true →
      1 ≤ m.payload.length →
      m.index.toNat ≤ arg c 0 1 →
      rangeHeld s clsSegment m.index.toNat (arg c 0 1) = false →
      s.hlt.cap = none →
      exec (.vfCapture m) z = .next (State.settle
        (captureStart c m.index.toNat (arg c 0 1) (acceptOp c clsSegment m.index.toNat (arg c 0 1) [] s)))) ∧
    (∀ (m : Msg) (z s : State) (c : Ctx),
      s = rasterFirst z →
      c = ctxOf 0x0704 m →
      served 0x0704 m s = true →
      1 ≤ m.payload.length →
      exec (.healthSave m) z = .next (State.settle
        (acceptOp c clsDevice 0 0 [arg c 0 1 % 4] s))) ∧
    (∀ (m : Msg) (z s : State) (c : Ctx),
      s = rasterFirst z →
      c = ctxOf 0x0802 m →
      served 0x0802 m s = true →
      exec (.supRestart m) z = .next (State.settle
        (respondTo c St.ok [] (supRestart s)))) ∧
    (∀ (m : Msg) (z s : State) (c : Ctx),
      s = rasterFirst z →
      c = ctxOf 0x0803 m →
      served 0x0803 m s = true →
      1 ≤ m.payload.length →
      arg c 0 1 ≤ 120 →
      exec (.supLimit m) z = .next (State.settle
        (respondTo c St.ok [] (applyWord Reg.SUP_HOST_LIMIT (BitVec.ofNat 32 (arg c 0 1)) s)))) ∧
    (∀ (m : Msg) (z s : State) (c : Ctx),
      s = rasterFirst z →
      c = ctxOf 0x0902 m →
      served 0x0902 m s = true →
      1 ≤ m.payload.length →
      arg c 0 1 ≤ 3 →
      exec (.fbRaise m) z = .next (State.settle
        (respondTo c St.ok (framePart s) (fbRaise 6 0 (arg c 0 1) s)))) ∧
    (∀ (m : Msg) (z s : State) (c : Ctx),
      s = rasterFirst z →
      c = ctxOf 0x0903 m →
      served 0x0903 m s = true →
      clearRefused s = false →
      exec (.fbClear m) z = .next (State.settle
        (respondTo c St.ok (framePart s) (fbClear s)))) ∧
    (∀ (m : Msg) (z s : State) (c : Ctx),
      s = rasterFirst z →
      c = ctxOf 0x0501 m →
      served 0x0501 m s = true →
      s.bit Reg.BEAM_CTRL 6 = true →
      listVerdict s m.payload = 0 →
      exec (.listPut m) z = .next (State.settle
        (respondTo c St.ok (leBytes 4 (leAt m.payload 1 1 - (keptObjs s [] (listRecords m.payload)).length)) (listIn 6 m.payload s)))) ∧
    (∀ (m : Msg) (z s : State) (c : Ctx),
      s = rasterFirst z →
      c = ctxOf 0x0540 m →
      served 0x0540 m s = true →
      1 ≤ m.payload.length →
      s.bit Reg.BEAM_CTRL 0 = true →
      exec (.laEnter m) z = .next (State.settle
        (let t := when (arg c 0 1 != 0) (State.swWrite · Reg.BEAM_LOOKAHEAD (BitVec.ofNat 32 (arg c 0 1))) s
        respondTo c St.ok (framePart s) { t with beam := { t.beam with laPend := some true } }))) ∧
    (∀ (m : Msg) (z s : State) (c : Ctx),
      s = rasterFirst z →
      c = ctxOf 0x0541 m →
      served 0x0541 m s = true →
      exec (.laExit m) z = .next (State.settle
        (respondTo c St.ok (framePart s) { s with beam := { s.beam with laPend := some false } }))) ∧
    (∀ (m : Msg) (z s : State) (c : Ctx),
      s = rasterFirst z →
      c = ctxOf 0x0542 m →
      served 0x0542 m s = true →
      1 ≤ m.payload.length →
      arg c 0 1 ≠ 0 →
      exec (.laTol m) z = .next (State.settle
        (respondTo c St.ok [] (s.swWrite Reg.BEAM_LOOKAHEAD (BitVec.ofNat 32 (arg c 0 1)))))) ∧
    (∀ (m : Msg) (z s : State) (c : Ctx),
      s = rasterFirst z →
      c = ctxOf 0x1001 m →
      served 0x1001 m s = true →
      exec (.logClear m) z = .next (State.settle
        (respondTo c St.ok [] { s with mbx := { s.mbx with log := [] } }))) ∧
    (∀ (m : Msg) (z s : State) (c : Ctx),
      s = rasterFirst z →
      c = ctxOf 0x0E03 m →
      served 0x0E03 m s = true →
      exec (.calSave m) z = .next (State.settle
        (acceptOp c clsDevice 0 0 [] s))) ∧
    (∀ (m : Msg) (z s : State) (c : Ctx),
      s = rasterFirst z →
      c = ctxOf 0x0E02 m →
      served 0x0E02 m s = true →
      4 ≤ m.payload.length →
      ∀ u : Nat, calUnit (arg c 0 1) (arg c 2 2) = some u →
      calHeld s u = false →
      calInService s u = true →
      exec (.calRun m) z = .next (State.settle
        (let t := acceptOp c clsDevice 0 0 [] (calEnqueue u (setCalUser u false s))
        { t with hk := { t.hk with calCtx := t.hk.calCtx ++ [(u, c)] } }))) ∧
    (∀ (m : Msg) (z s : State) (c : Ctx),
      s = rasterFirst z →
      c = ctxOf 0x0F02 m →
      served 0x0F02 m s = true →
      chNamed s m.index.toNat = false →
      chEn s m.index.toNat = true →
      chMode s m.index.toNat = 0 →
      chBusy s m.index.toNat = false →
      scanOk s m.index.toNat = true →
      exec (.crcScan m) z = .next (State.settle
        (chStart m.index.toNat (acceptOp c 11 m.index.toNat m.index.toNat [] s))))

/-- SLOT_BEGIN makes the slot WRITING at the extent found; SLOT_DATA writes run words; SLOT_END, once every word has come, the CRC agrees and
the image is well formed, is accepted for the next phase 0; SLOT_ABORT gives the old image back; SLOT_DELETE, SET_DEFAULT, GAIN_PUT and
LEVELS_PUT are accepted when nothing forbids them; the END of a PAT_LOAD, GLYPH_LOAD, GRID_LOAD or SEG_DEFAULT_LOAD whose bytes all came and
pass their CRC puts the object in place (a segment default is queued to the segment), and a GRID_LOAD BEGIN opens a load. Each under the
conditions of its row alone. Where a clause has s = rasterFirst z, s is the state after the raster boundaries due at the tick (R37).
(Derived: R239, R240, R241, R242, R156, R159, R162, R62, R343, R346, R37.) -/
def Obligations.SnowpackAndStagedLoadCommandsTakeEffect : Prop :=
    (∀ (m : Msg) (z s : State) (c : Ctx),
      s = rasterFirst z →
      c = ctxOf 0x0A01 m →
      served 0x0A01 m s = true →
      12 ≤ m.payload.length →
      snowBusy s = false →
      slotLocked s m.index.toNat = false →
      1 ≤ arg c 0 2 →
      arg c 0 2 ≤ 8064 →
      arg c 2 2 ≤ 8191 →
      arg c 4 2 ≤ 8191 →
      ∀ off : Nat, placeRuns s m.index.toNat (arg c 0 2) = some off →
      exec (.slotBegin m) z = .next (State.settle
        (let o : SnowOp := { code := 0x0A01, slot := m.index.toNat, offset := off, runs := arg c 0 2, wm1 := arg c 2 2, hm1 := arg c 4 2,
                                    sflags := arg c 6 1 % 2, bg := arg c 7 1 % 64, crc := arg c 8 4,
                                    bytes := s.bytes (entryAt snowBase m.index.toNat) 16 }
        holdPolShow (snowShow (respondTo c St.ok (leBytes 2 off) (dirUpdated (setOp (some o)
          (s.putBytes (entryAt snowBase m.index.toNat) (entryBytes 2 o.sflags o.bg off o.runs o.wm1 o.hm1 o.crc))))))))) ∧
    (∀ (m : Msg) (z s : State) (c : Ctx),
      s = rasterFirst z →
      c = ctxOf 0x0A02 m →
      served 0x0A02 m s = true →
      16 ≤ m.payload.length →
      ¬((bulkOf c).data.length % 4 ≠ 0 ∨ bulkMax c < (bulkOf c).data.length) →
      (bulkOf c).op = 1 →
      ∀ o : SnowOp, openWrite s m.index.toNat = some o →
      4 * (bulkOf c).offset + (bulkOf c).data.length ≤ 4 * o.runs →
      exec (.slotData m) z = .next (State.settle
        (respondTo c St.ok [] (modOp (fun x => { x with words := (List.range ((bulkOf c).data.length / 4)).foldl (fun w i =>
            sput (fun _ => none) w ((bulkOf c).offset + i) (some (BitVec.ofNat 32 (leAt (bulkOf c).data (4 * i) 4)))) o.words })
          (s.putBytes (snowBase + 0x200 + 4 * (o.offset + (bulkOf c).offset)) (bulkOf c).data))))) ∧
    (∀ (m : Msg) (z s : State) (c : Ctx),
      s = rasterFirst z →
      c = ctxOf 0x0A03 m →
      served 0x0A03 m s = true →
      ∀ o : SnowOp, openWrite s m.index.toNat = some o →
      ∀ l : List Word, ((List.range o.runs).map (fun i => sget (fun _ => (none : Option Word)) o.words i) = l.map some) →
      l.length = o.runs →
      crc32c (wordBytes l) = o.crc →
      wellFormedRuns (o.wm1 + 1) (o.hm1 + 1) (l.map BitVec.toNat) = true →
      exec (.slotEnd m) z = .next (State.settle
        (snowAccept c o s))) ∧
    (∀ (m : Msg) (z s : State) (c : Ctx),
      s = rasterFirst z →
      c = ctxOf 0x0A04 m →
      served 0x0A04 m s = true →
      ∀ o : SnowOp, openWrite s m.index.toNat = some o →
      exec (.slotAbort m) z = .next (State.settle
        (respondTo c St.ok [] (slotBack o s)))) ∧
    (∀ (m : Msg) (z s : State) (c : Ctx),
      s = rasterFirst z →
      c = ctxOf 0x0A05 m →
      served 0x0A05 m s = true →
      snowBusy s = false →
      slotLocked s m.index.toNat = false →
      slotState s m.index.toNat ≠ 0 →
      slotNamed s m.index.toNat = false →
      exec (.slotDelete m) z = .next (State.settle
        (snowAccept c { code := 0x0A05, slot := m.index.toNat } s))) ∧
    (∀ (m : Msg) (z s : State) (c : Ctx),
      s = rasterFirst z →
      c = ctxOf 0x0A06 m →
      served 0x0A06 m s = true →
      snowBusy s = false →
      slotValid s m.index.toNat = true →
      exec (.setDefault m) z = .next (State.settle
        (snowAccept c { code := 0x0A06, slot := m.index.toNat } s))) ∧
    (∀ (m : Msg) (z s : State) (c : Ctx),
      s = rasterFirst z →
      c = ctxOf 0x0A07 m →
      served 0x0A07 m s = true →
      256 ≤ m.payload.length →
      snowBusy s = false →
      exec (.gainPut m) z = .next (State.settle
        (snowAccept c { code := 0x0A07, slot := 0, bytes := m.payload.take 256 } s))) ∧
    (∀ (m : Msg) (z s : State) (c : Ctx),
      s = rasterFirst z →
      c = ctxOf 0x0A08 m →
      served 0x0A08 m s = true →
      128 ≤ m.payload.length →
      snowBusy s = false →
      exec (.levelsPut m) z = .next (State.settle
        (snowAccept c { code := 0x0A08, slot := 0, bytes := m.payload.take 128 } s))) ∧
    (∀ (m : Msg) (z s : State) (c : Ctx),
      s = rasterFirst z →
      c = ctxOf 0x0503 m →
      served 0x0503 m s = true →
      16 ≤ m.payload.length →
      ¬((bulkOf c).data.length % 4 ≠ 0 ∨ bulkMax c < (bulkOf c).data.length) →
      (bulkOf c).op = 2 →
      (bulkOf c).sel ≤ 15 →
      patSelected s (bulkOf c).sel = false →
      ∀ l : Load, loadOf s 0x503 (bulkOf c).sel = some l →
      ∀ d : List Byte, loadBytes l = some d →
      crc32c d = (bulkOf c).crc →
      exec (.patLoad m) z = .next (State.settle
        (respondTo c St.ok [] (setPat l.obj (some (loadPlace l)) ((dropLoad 0x503 (bulkOf c).sel s).putBytes (loadPlace l).1 d))))) ∧
    (∀ (m : Msg) (z s : State) (c : Ctx),
      s = rasterFirst z →
      c = ctxOf 0x0504 m →
      served 0x0504 m s = true →
      16 ≤ m.payload.length →
      ¬((bulkOf c).data.length % 4 ≠ 0 ∨ bulkMax c < (bulkOf c).data.length) →
      (bulkOf c).op = 2 →
      (bulkOf c).sel ≤ 15 →
      glyphNamed s (bulkOf c).sel = false →
      ∀ l : Load, loadOf s 0x504 (bulkOf c).sel = some l →
      ∀ d : List Byte, loadBytes l = some d →
      crc32c d = (bulkOf c).crc →
      exec (.glyphLoad m) z = .next (State.settle
        (respondTo c St.ok [] (setGlyph l.obj (some (loadPlace l)) ((dropLoad 0x504 (bulkOf c).sel s).putBytes (loadPlace l).1 d))))) ∧
    (∀ (m : Msg) (z s : State) (c : Ctx),
      s = rasterFirst z →
      c = ctxOf 0x0505 m →
      served 0x0505 m s = true →
      16 ≤ m.payload.length →
      ¬((bulkOf c).data.length % 4 ≠ 0 ∨ bulkMax c < (bulkOf c).data.length) →
      (bulkOf c).op = 2 →
      (bulkOf c).sel ≤ 1 →
      bankUsed s Reg.BEAM_GRID_BANK 0 (bulkOf c).sel = false →
      ∀ l : Load, loadOf s 0x505 (bulkOf c).sel = some l →
      ∀ d : List Byte, loadBytes l = some d →
      crc32c d = (bulkOf c).crc →
      exec (.gridLoad m) z = .next (State.settle
        (respondTo c St.ok [] ((dropLoad 0x505 (bulkOf c).sel s).putBytes (winBase + 0x420000 + 0x2000 * l.obj) d)))) ∧
    (∀ (m : Msg) (z s : State) (c : Ctx),
      s = rasterFirst z →
      c = ctxOf 0x0505 m →
      served 0x0505 m s = true →
      16 ≤ m.payload.length →
      ¬((bulkOf c).data.length % 4 ≠ 0 ∨ bulkMax c < (bulkOf c).data.length) →
      (bulkOf c).op = 0 →
      (bulkOf c).sel ≤ 1 →
      bankUsed s Reg.BEAM_GRID_BANK 0 (bulkOf c).sel = false →
      (bulkOf c).size = 4356 →
      exec (.gridLoad m) z = .next (State.settle
        (respondTo c St.ok [] (startLoad { code := 0x505, obj := (bulkOf c).sel, size := 4356, got := [], extra := [] } s)))) ∧
    (∀ (m : Msg) (z s : State) (c : Ctx),
      s = rasterFirst z →
      c = ctxOf 0x0B08 m →
      served 0x0B08 m s = true →
      16 ≤ m.payload.length →
      ¬((bulkOf c).data.length % 4 ≠ 0 ∨ bulkMax c < (bulkOf c).data.length) →
      (bulkOf c).op = 2 →
      ∀ l : Load, loadOf s 0xB08 m.index.toNat = some l →
      ∀ d : List Byte, loadBytes l = some d →
      crc32c d = (bulkOf c).crc →
      segReached (dropLoad 0xB08 m.index.toNat s) m.index.toNat = true →
      exec (.segDefaultLoad m) z = .next (State.settle
        ((acceptOp c clsSegment m.index.toNat m.index.toNat ((List.range 4096).map fun i => leAt d (2 * i) 2) (dropLoad 0xB08 m.index.toNat s)).modLink
          (m.index.toNat / 8) fun x => { x with defQ := x.defQ ++ (List.range 16).map fun k =>
            (m.index.toNat % 8, k, k == 15, (d.drop (512 * k)).take 512) })))

/-- LINK_ENABLE enables or disables a segment link, a stream that passes R89, or a network port; LINK_RETRAIN retrains the links or lane groups
it names that can retrain; QUAD_CFG configures a quad that is off; LANE_TEST writes the test registers of a lane; SEG_BLANK blanks the
segments that can be reached; FAB_CFG, FAB_PORT, FAB_GROUP, FAB_FWD, FAB_SUB and FAB_REDISCOVER act on the fabric; TIME_SET sets or steps
device time, TIME_UTC the UTC offset, PTP_PORT a port, TT_ARM an output and TC_POP a capture FIFO. Each under the conditions of its row
alone. Where a clause has s = rasterFirst z, s is the state after the raster boundaries due at the tick (R37). (Derived: R81, R89, R74,
R297, R310, R61, R256, R261, R271, R278, R288, R290.) -/
def Obligations.LinkFabricAndTimeCommandsTakeEffect : Prop :=
    (∀ (m : Msg) (z s : State) (c : Ctx),
      s = rasterFirst z →
      c = ctxOf 0x0B01 m →
      served 0x0B01 m s = true →
      2 ≤ m.payload.length →
      arg c 0 1 ≤ 1 →
      m.cls = 3 →
      arg c 1 1 ≤ 2 ∨ arg c 1 1 = 0xFF →
      exec (.linkEnable m) z = .next (State.settle
        (respondTo c St.ok [] (linkEn m.index.toNat (arg c 0 1 == 1) (when (arg c 1 1 != 0xFF) (State.wf · (Reg.SLK_LINK_CTRL m.index.toNat) 1 2 (arg c 1 1)) s))))) ∧
    (∀ (m : Msg) (z s : State) (c : Ctx),
      s = rasterFirst z →
      c = ctxOf 0x0B01 m →
      served 0x0B01 m s = true →
      1 ≤ m.payload.length →
      arg c 0 1 ≤ 1 →
      m.cls = 7 →
      arg c 0 1 = 0 ∨ streamAdmit s m.index.toNat = St.ok →
      exec (.linkEnable m) z = .next (State.settle
        (respondTo c St.ok [] (streamEn m.index.toNat (arg c 0 1 == 1) s)))) ∧
    (∀ (m : Msg) (z s : State) (c : Ctx),
      s = rasterFirst z →
      c = ctxOf 0x0B01 m →
      served 0x0B01 m s = true →
      1 ≤ m.payload.length →
      arg c 0 1 ≤ 1 →
      m.cls = 12 →
      exec (.linkEnable m) z = .next (State.settle
        (respondTo c St.ok [] (if m.index.toNat < 2 then macCtrl m.index.toNat (setFld (s.rd (Reg.MAC_CTRL m.index.toNat)) 0 1 (if arg c 0 1 == 1 then 1 else 0)) s
          else canCtrl (s.wb (Reg.CAN_CTRL (m.index.toNat - 2)) 0 (arg c 0 1 == 1)))))) ∧
    (∀ (m : Msg) (z s : State) (c : Ctx),
      s = rasterFirst z →
      c = ctxOf 0x0B02 m →
      served 0x0B02 m s = true →
      m.cls = 3 →
      ((objects c).filter (fun n => linkState s n == 6 || linkState s n == 7) ≠ []) →
      exec (.linkRetrain m) z = .next (State.settle
        (respondTo c St.ok [] (forEach ((objects c).filter fun n => linkState s n == 6 || linkState s n == 7) linkRetrain s)))) ∧
    (∀ (m : Msg) (z s : State) (c : Ctx),
      s = rasterFirst z →
      c = ctxOf 0x0B02 m →
      served 0x0B02 m s = true →
      m.cls ≠ 3 →
      ((namedGroups c s).filter (fun g => !(seriesRuns s g)) ≠ []) →
      exec (.linkRetrain m) z = .next (State.settle
        (respondTo c St.ok [] (forEach ((namedGroups c s).filter fun g => !(seriesRuns s g)) groupRestart s)))) ∧
    (∀ (m : Msg) (z s : State) (c : Ctx),
      s = rasterFirst z →
      c = ctxOf 0x0B04 m →
      served 0x0B04 m s = true →
      3 ≤ m.payload.length →
      arg c 0 1 ≤ 3 →
      arg c 1 1 ≤ 1 →
      arg c 2 1 ≤ 6 →
      quadOff s (m.index.toNat / 4) = true →
      exec (.quadCfg m) z = .next (State.settle
        (respondTo c St.ok [] (quadCfg (m.index.toNat / 4) (BitVec.ofNat 32 (arg c 0 1 + 4 * arg c 1 1 + 16 * arg c 2 1)) s)))) ∧
    (∀ (m : Msg) (z s : State) (c : Ctx),
      s = rasterFirst z →
      c = ctxOf 0x0B05 m →
      served 0x0B05 m s = true →
      8 ≤ m.payload.length →
      reservedWord s (Reg.SDS_LANE_CTRL m.index.toNat) (BitVec.ofNat 32 (arg c 0 4)) = false →
      reservedWord s (Reg.SDS_LANE_TXEQ m.index.toNat) (BitVec.ofNat 32 (arg c 4 4)) = false →
      ¬((BitVec.ofNat 32 (arg c 0 4)).getLsbD 0 = true ∧ s.bit (Reg.SDS_LANE_CTRL m.index.toNat) 0 = false ∧ laneServes s m.index.toNat = true) →
      exec (.laneTest m) z = .next (State.settle
        (respondTo c St.ok [] (applyWord (Reg.SDS_LANE_TXEQ m.index.toNat) (BitVec.ofNat 32 (arg c 4 4))
          (applyWord (Reg.SDS_LANE_CTRL m.index.toNat) (BitVec.ofNat 32 (arg c 0 4)) s))))) ∧
    (∀ (m : Msg) (z s : State) (c : Ctx),
      s = rasterFirst z →
      c = ctxOf 0x0B07 m →
      served 0x0B07 m s = true →
      1 ≤ m.payload.length →
      arg c 0 1 ≤ 2 →
      exec (.segBlank m) z = .next (State.settle
        (respondTo c St.ok [] (forEach ((objects c).filter (segReached s))
          (fun g t => if arg c 0 1 == 0 then segDarkNext g t else segBlankNow g (arg c 0 1) t) s)))) ∧
    (∀ (m : Msg) (z s : State) (c : Ctx),
      s = rasterFirst z →
      c = ctxOf 0x0C01 m →
      served 0x0C01 m s = true →
      4 ≤ m.payload.length →
      arg c 2 2 ≤ 0xFFE →
      ¬((arg c 0 1).testBit 2 = true ∧ arg c 2 2 = 0) →
      exec (.fabCfg m) z = .next (State.settle
        (respondTo c St.ok [] (fabEnable ((arg c 0 1).testBit 0)
          (((s.wf Reg.FAB_CTRL 1 1 (arg c 0 1 / 2)).wf Reg.FAB_CTRL 2 12 (arg c 2 2)).wf Reg.FAB_CTRL 14 1 (arg c 0 1 / 4)))))) ∧
    (∀ (m : Msg) (z s : State) (c : Ctx),
      s = rasterFirst z →
      c = ctxOf 0x0C02 m →
      served 0x0C02 m s = true →
      3 ≤ m.payload.length →
      arg c 0 1 ≤ 1 →
      arg c 1 1 ≤ 2 →
      arg c 2 1 ≤ 23 →
      (arg c 0 1 = 1 → laneChoiceOk s 2 (BitVec.ofNat 32 (arg c 0 1 + 2 * arg c 1 1 + 8 * arg c 2 1)) = true) →
      exec (.fabPort m) z = .next (State.settle
        (respondTo c St.ok [] (regWrite (Reg.FAB_P_CTRL m.index.toNat) (BitVec.ofNat 32 (arg c 0 1 + 2 * arg c 1 1 + 8 * arg c 2 1)) s)))) ∧
    (∀ (m : Msg) (z s : State) (c : Ctx),
      s = rasterFirst z →
      c = ctxOf 0x0C03 m →
      served 0x0C03 m s = true →
      6 + 2 * arg c 4 2 ≤ m.payload.length →
      1 ≤ arg c 4 2 →
      arg c 4 2 ≤ 1024 →
      isRoot s = true →
      exec (.fabGroup m) z = .next (State.settle
        (let t := acceptOp c clsDevice 0 0 [] { s with fab := { s.fab with grp := s.fab.grp.filter (·.1 != arg c 0 1) ++
          [(arg c 0 1, arg c 2 2, (List.range (arg c 4 2)).map fun i => arg c (6 + 2 * i) 2)] } }
        when t.fab.asg.isNone sendRoutes t))) ∧
    (∀ (m : Msg) (z s : State) (c : Ctx),
      s = rasterFirst z →
      c = ctxOf 0x0C04 m →
      served 0x0C04 m s = true →
      12 ≤ m.payload.length →
      arg c 0 1 ≤ 15 →
      reservedWord s (Reg.FAB_FWD_CFG (arg c 0 1)) (BitVec.ofNat 32 (arg c 4 4)) = false →
      reservedWord s (Reg.FAB_FWD_LINES (arg c 0 1)) (BitVec.ofNat 32 (arg c 8 4)) = false →
      exec (.fabFwd m) z = .next (State.settle
        (respondTo c St.ok [] (writeWords [(Reg.FAB_FWD_CFG (arg c 0 1), BitVec.ofNat 32 (arg c 4 4)),
          (Reg.FAB_FWD_LINES (arg c 0 1), BitVec.ofNat 32 (arg c 8 4))] s)))) ∧
    (∀ (m : Msg) (z s : State) (c : Ctx),
      s = rasterFirst z →
      c = ctxOf 0x0C05 m →
      served 0x0C05 m s = true →
      16 ≤ m.payload.length →
      arg c 0 1 ≤ 15 →
      reservedWord s (Reg.FAB_SUB_CFG (arg c 0 1)) (BitVec.ofNat 32 (arg c 4 4)) = false →
      reservedWord s (Reg.FAB_SUB_WIN (arg c 0 1)) (BitVec.ofNat 32 (arg c 8 4)) = false →
      reservedWord s (Reg.FAB_SUB_LOSS_TIMEOUT (arg c 0 1)) (BitVec.ofNat 32 (arg c 12 4)) = false →
      ((BitVec.ofNat 32 (arg c 4 4)).getLsbD 0 = true → surfValid s (fld (BitVec.ofNat 32 (arg c 4 4)) 1 6) = true ∧
        surfSource s (fld (BitVec.ofNat 32 (arg c 4 4)) 1 6) = 5 ∧ surfBufs s (fld (BitVec.ofNat 32 (arg c 4 4)) 1 6) ≠ 1) →
      exec (.fabSub m) z = .next (State.settle
        (respondTo c St.ok [] (writeWords [(Reg.FAB_SUB_CFG (arg c 0 1), BitVec.ofNat 32 (arg c 4 4)),
          (Reg.FAB_SUB_WIN (arg c 0 1), BitVec.ofNat 32 (arg c 8 4)), (Reg.FAB_SUB_LOSS_TIMEOUT (arg c 0 1), BitVec.ofNat 32 (arg c 12 4))] s)))) ∧
    (∀ (m : Msg) (z s : State) (c : Ctx),
      s = rasterFirst z →
      c = ctxOf 0x0C06 m →
      served 0x0C06 m s = true →
      s.bit Reg.FAB_CTRL 0 = true →
      exec (.fabRediscover m) z = .next (State.settle
        (respondTo c St.ok [] (fabDiscover s)))) ∧
    (∀ (m : Msg) (z s : State) (c : Ctx),
      s = rasterFirst z →
      c = ctxOf 0x0D01 m →
      served 0x0D01 m s = true →
      16 ≤ m.payload.length →
      arg c 0 1 = 0 →
      exec (.timeSet m) z = .next (State.settle
        (respondTo c St.ok [] (setTime (arg c 8 8 * 2 ^ 32) s)))) ∧
    (∀ (m : Msg) (z s : State) (c : Ctx),
      s = rasterFirst z →
      c = ctxOf 0x0D01 m →
      served 0x0D01 m s = true →
      16 ≤ m.payload.length →
      arg c 0 1 = 1 →
      exec (.timeSet m) z = .next (State.settle
        (respondTo c St.ok [] (stepTime (ns16 (sext 64 (arg c 8 8))) s)))) ∧
    (∀ (m : Msg) (z s : State) (c : Ctx),
      s = rasterFirst z →
      c = ctxOf 0x0D02 m →
      served 0x0D02 m s = true →
      2 ≤ m.payload.length →
      exec (.timeUtc m) z = .next (State.settle
        (respondTo c St.ok [] { s with ptp := { s.ptp with utc := sext 16 (arg c 0 2) } }))) ∧
    (∀ (m : Msg) (z s : State) (c : Ctx),
      s = rasterFirst z →
      c = ctxOf 0x0D04 m →
      served 0x0D04 m s = true →
      12 ≤ m.payload.length →
      ∀ q : Nat, q = (if m.cls = 5 then m.index.toNat else 4 + m.index.toNat) →
      q ≤ 5 →
      reservedWord s (Reg.PTP_PORT_CFG q) (BitVec.ofNat 32 (arg c 0 4)) = false →
      reservedWord s (Reg.PTP_PORT_EG_ADJ q) (BitVec.ofNat 32 (arg c 4 4)) = false →
      reservedWord s (Reg.PTP_PORT_IG_ADJ q) (BitVec.ofNat 32 (arg c 8 4)) = false →
      ((BitVec.ofNat 32 (arg c 0 4)).getLsbD 0 = true → ptpStamps s q = true) →
      exec (.ptpPort m) z = .next (State.settle
        (respondTo c St.ok [] (writeWords [(Reg.PTP_PORT_CFG q, BitVec.ofNat 32 (arg c 0 4)), (Reg.PTP_PORT_EG_ADJ q, BitVec.ofNat 32 (arg c 4 4)),
          (Reg.PTP_PORT_IG_ADJ q, BitVec.ofNat 32 (arg c 8 4))] s)))) ∧
    (∀ (m : Msg) (z s : State) (c : Ctx),
      s = rasterFirst z →
      c = ctxOf 0x0D05 m →
      served 0x0D05 m s = true →
      28 ≤ m.payload.length →
      arg c 0 1 ≤ 3 →
      (arg c 1 1).testBit 2 = false →
      exec (.ttArm m) z = .next (State.settle
        (let t := ttArm (arg c 0 1) (writeWords
          [(Reg.PTP_TT_START_LO (arg c 0 1), BitVec.ofNat 32 (arg c 8 4)), (Reg.PTP_TT_START_HI (arg c 0 1), BitVec.ofNat 32 (arg c 12 4)),
            (Reg.PTP_TT_PERIOD (arg c 0 1), BitVec.ofNat 32 (arg c 16 4)), (Reg.PTP_TT_PERIOD_FRAC (arg c 0 1), BitVec.ofNat 32 (arg c 20 2)),
            (Reg.PTP_TT_WIDTH (arg c 0 1), BitVec.ofNat 32 (arg c 24 4))] (s.wf (Reg.PTP_TT_CFG (arg c 0 1)) 0 2 (arg c 1 1)))
        respondTo c St.ok (leBytes 1 (ttState t (arg c 0 1)) ++ leBytes 3 0 ++ leBytes 4 (t.rd (Reg.PTP_TT_SKIP (arg c 0 1))).toNat) t))) ∧
    (∀ (m : Msg) (z s : State) (c : Ctx),
      s = rasterFirst z →
      c = ctxOf 0x0D06 m →
      served 0x0D06 m s = true →
      2 ≤ m.payload.length →
      arg c 0 1 ≤ 3 →
      1 ≤ arg c 1 1 →
      arg c 1 1 ≤ 16 →
      exec (.tcPop m) z = .next (State.settle
        (respondTo c St.ok (((tcFifo s (arg c 0 1)).take (arg c 1 1)).flatMap fun e => leBytes 8 e.1 ++ leBytes 4 (b2n e.2))
          (setTc (arg c 0 1) ((tcFifo s (arg c 0 1)).drop (arg c 1 1)) s))))

/-- FW_BEGIN invalidates the inactive bank and takes the update for its client; FW_DATA writes bytes of the image; FW_VERIFY is accepted and
verifies; FW_COMMIT writes a TRIAL record one generation above and sets how many phase 0s the handover waits for, with the raster stopped
the first one after it is enabled (log entry 40); FW_ABORT gives the update up; REG_WRITE writes its words, and REG_RMW the old word with
the masked bits replaced, answering the old word, where nothing denies or locks the access. Each under the conditions of its row alone.
Where a clause has s = rasterFirst z, s is the state after the raster boundaries due at the tick (R37). (Derived: R336, R337, R348, R349,
R346, R37.) -/
def Obligations.FirmwareAndRegisterCommandsTakeEffect : Prop :=
    (∀ (m : Msg) (z s : State) (c : Ctx),
      s = rasterFirst z →
      c = ctxOf 0x1101 m →
      served 0x1101 m s = true →
      4 ≤ m.payload.length →
      fwUpdate s = 0 ∨ fwOwner s c = true →
      fwUpdate s ≤ 3 →
      1 ≤ arg c 0 4 →
      arg c 0 4 ≤ 2097152 →
      exec (.fwBegin m) z = .next (State.settle
        (let t := setFwRec (1 - fwActive s) {} s
        respondTo c St.ok [] (setUpdate 1 { t with fw := { t.fw with owner := some (m.mb.val, m.client), size := arg c 0 4 } })))) ∧
    (∀ (m : Msg) (z s : State) (c : Ctx),
      s = rasterFirst z →
      c = ctxOf 0x1102 m →
      served 0x1102 m s = true →
      16 ≤ m.payload.length →
      ¬((bulkOf c).data.length % 4 ≠ 0 ∨ bulkMax c < (bulkOf c).data.length) →
      (bulkOf c).op = 1 →
      fwOwner s c = true →
      fwUpdate s = 1 ∨ fwUpdate s = 3 →
      (bulkOf c).sel = 0 →
      (bulkOf c).offset + (bulkOf c).data.length ≤ s.fw.size →
      exec (.fwData m) z = .next (State.settle
        (respondTo c St.ok [] (setUpdate 1 (s.putBytes (fwBase (1 - fwActive s) + (bulkOf c).offset) (bulkOf c).data))))) ∧
    (∀ (m : Msg) (z s : State) (c : Ctx),
      s = rasterFirst z →
      c = ctxOf 0x1103 m →
      served 0x1103 m s = true →
      fwOwner s c = true →
      fwUpdate s = 1 ∨ fwUpdate s = 3 →
      exec (.fwVerify m) z = .next (State.settle
        (setUpdate 2 (acceptOp c clsDevice 0 0 [] s)))) ∧
    (∀ (m : Msg) (z s : State) (c : Ctx),
      s = rasterFirst z →
      c = ctxOf 0x1104 m →
      served 0x1104 m s = true →
      fwOwner s c = true →
      fwUpdate s = 3 →
      exec (.fwCommit m) z = .next (State.settle
        (let t := acceptOp c clsDevice 0 0 [] s
        let u := setUpdate 4 (setFwRec (1 - fwActive t) ⟨((t.rd Reg.FW_GEN).toNat + 1) % 2 ^ 32, 1⟩ t)
        { u with fw := { u.fw with commitWait := applyWait u } }))) ∧
    (∀ (m : Msg) (z s : State) (c : Ctx),
      s = rasterFirst z →
      c = ctxOf 0x1105 m →
      served 0x1105 m s = true →
      1 ≤ fwUpdate s →
      fwUpdate s ≤ 3 →
      exec (.fwAbort m) z = .next (State.settle
        (respondTo c St.ok [] (fwAbandon s)))) ∧
    (∀ (m : Msg) (z s : State) (c : Ctx),
      s = rasterFirst z →
      c = ctxOf 0x1201 m →
      served 0x1201 m s = true →
      8 + 4 * arg c 4 2 ≤ m.payload.length →
      1 ≤ arg c 4 2 →
      arg c 4 2 ≤ 1018 →
      ∀ l : List (Nat × Word), (l = (List.range (arg c 4 2)).map (fun i => (arg c 0 4 + 4 * i, BitVec.ofNat 32 (arg c (8 + 4 * i) 4)))) →
      (regDenied c s (arg c 0 4) l.length true).1 = 0 →
      firstLocked s l (arg c 6 1 % 2 == 1) = none →
      exec (.regWrite m) z = .next (State.settle
        (respondTo c St.ok [] (regPut l s)))) ∧
    (∀ (m : Msg) (z s : State) (c : Ctx),
      s = rasterFirst z →
      c = ctxOf 0x1202 m →
      served 0x1202 m s = true →
      13 ≤ m.payload.length →
      ∀ w : Word, w = mergeBits (arg c 4 4) (spaceRead s (arg c 0 4)) (BitVec.ofNat 32 (arg c 8 4)) →
      (regDenied c s (arg c 0 4) 1 true).1 = 0 →
      firstLocked s [(arg c 0 4, w)] (arg c 12 1 % 2 == 1) = none →
      exec (.regRmw m) z = .next (State.settle
        (respondTo c St.ok (leBytes 4 (spaceRead s (arg c 0 4)).toNat) (regPut [(arg c 0 4, w)] s))))

/-- While the port answers: READ32 and READ_BURST without a fault return the status byte, then each word behind its ready byte; WRITE32 and
WRITE_BURST that fit post their words; STATUS returns the status byte; an unknown opcode and a read timeout are counted with their code; the
next posted word is applied, and a posted frame that times out ends with code 0xE. A register write by software is stored as its register
takes it; a window word goes to memory, but counts instead when its LUT bank is in use; a table base that breaks R101 is counted and
discarded; a CAL write marks its field USER; EN of a check channel is taken when its settings pass, and CFG_ERR set when not; the end of a
scan that met no uncorrectable error gives its value; a due time action writes its word and is DONE, or DONE_LATE and counted when its
instant had passed. Where a clause has s = rasterFirst z, s is the state after the raster boundaries due at the tick (R37). (Derived: R366,
R368, R371, R372, R374, R377, R101, R125, R354, R356, R381, R40.) -/
def Obligations.HostFramesAndRegisterWritesTakeEffect : Prop :=
    (∀ (a : BitVec 24) (z s : State),
      s = rasterFirst z →
      hostAnswers s = true →
      s.host.frames = [] →
      ∀ t : State, t = (if hostReadsTime s a.toNat 1 none = true then latchTime s else s) →
      hostFault t a.toNat a.toNat false = 0 →
      exec (.hostRead32 (some a) false) z = .next (State.settle
        (wakeBy 3 (t.emit (.host (hostStatusByte s :: 0xC3 :: leBytes 4 (spaceRead t a.toNat).toNat)))))) ∧
    (∀ (ecc : Bool) (z s : State),
      s = rasterFirst z →
      hostAnswers s = true →
      exec (.hostRead32 none ecc) z = .next (State.settle
        (wakeBy 3 (s.emit (.host [hostStatusByte s]))))) ∧
    (∀ (a : Option (BitVec 24)) (ecc : Bool) (z s : State),
      s = rasterFirst z →
      hostAnswers s = false →
      exec (.hostRead32 a ecc) z = .next (State.settle
        (s))) ∧
    (∀ (a : BitVec 24) (n : Nat) (z s : State),
      s = rasterFirst z →
      hostAnswers s = true →
      n ≤ 256 →
      s.host.frames = [] →
      ∀ t : State, t = (if hostReadsTime s a.toNat n none = true then latchTime s else s) →
      (hostWords t a.toNat none n 0).2 = 0 →
      exec (.hostReadBurst (some a) n none) z = .next (State.settle
        (wakeBy 3 (t.emit (.host (hostStatusByte s :: (hostWords t a.toNat none n 0).1)))))) ∧
    (∀ (a : BitVec 24) (d : List Byte) (s : State),
      hostAnswers s = true →
      d.length = 4 →
      hostPosted s + 1 ≤ 256 →
      exec (.hostWrite32 (some a) d) s = .next (State.settle
        (wakeBy 3 (let t := s.emit (.host [hostStatusByte s])
          { t with host := { t.host with frames := t.host.frames ++ [{ opcode := 0x20, addr := a.toNat, words := hostData d }] } })))) ∧
    (∀ (a : BitVec 24) (d : List Byte) (s : State),
      hostAnswers s = true →
      d.length % 4 = 0 →
      1 ≤ d.length →
      d.length ≤ 1024 →
      hostPosted s + d.length / 4 ≤ 256 →
      exec (.hostWriteBurst (some a) d) s = .next (State.settle
        (wakeBy 3 (let t := s.emit (.host [hostStatusByte s])
          { t with host := { t.host with frames := t.host.frames ++ [{ opcode := 0x21, addr := a.toNat, words := hostData d }] } })))) ∧
    (∀ (n : Nat) (s : State),
      hostAnswers s = true →
      exec (.hostStatus n) s = .next (State.settle
        (wakeBy 3 (s.emit (.host (List.replicate (n + 1) (hostStatusByte s))))))) ∧
    (∀ (op : Byte) (s : State),
      hostAnswers s = true →
      op.toNat ∉ hostOpcodes →
      exec (.badOpcode op) s = .next (State.settle
        (wakeBy 3 (let t := s.emit (.host [hostStatusByte s])
          { t with host := { t.host with code := 1 } }.count Reg.TOP_CNT_HOST_ERR)))) ∧
    (∀ (s : State),
      hostAnswers s = true →
      exec (.hostReadTimeout) s = .next (State.settle
        (wakeBy 3 (((s.emit (.host [hostStatusByte s, 0x3C, 0x0E])).count Reg.TOP_CNT_HOST_ERR).count Reg.TOP_CNT_HOST_TIMEOUT)))) ∧
    (∀ (z s : State),
      s = rasterFirst z →
      ∀ (f : HFrame) (r : List HFrame), s.host.frames = f :: r →
      hostWordCode s f (f.addr + 4 * f.applied) (f.words.getD f.applied 0) = 0 →
      f.applied + 1 < f.words.length →
      exec (.hostWriteApply) z = .next (State.settle
        (let t := applyWord (f.addr + 4 * f.applied) (f.words.getD f.applied 0)
          (when (changesOwned s (f.addr + 4 * f.applied) (f.words.getD f.applied 0)) (overrideEvent (f.addr + 4 * f.applied)) s)
        { t with host := { t.host with frames := { f with applied := f.applied + 1 } :: r } }))) ∧
    (∀ (s : State),
      ∀ (f : HFrame) (r : List HFrame), s.host.frames = f :: r →
      exec (.hostWriteTimeout) s = .next (State.settle
        (hostEnd f 0xE { s with host := { s.host with frames := r } }))) ∧
    (∀ (a : BitVec 22) (w : Word) (z s : State),
      s = rasterFirst z →
      (regRow (a.toNat * 4)).isSome = true →
      movesLookahead s (a.toNat * 4) w = false →
      (changesOwned s (a.toNat * 4) w = true → s.bit Reg.TOP_HOST_CFG 0 = true) →
      exec (.registerWrite a w) z = .next (State.settle
        (when (changesOwned s (a.toNat * 4) w) (overrideEvent (a.toNat * 4)) (regWrite (a.toNat * 4) w s)))) ∧
    (∀ (a : BitVec 22) (w : Word) (z s : State),
      s = rasterFirst z →
      ∀ e : Nat × Nat × Nat, windowOf (a.toNat * 4) = some e →
      (e.2.2 = 0 ∧ a.toNat * 4 < 0x30E000) ∨ (e.2.2 = 3 ∧ bankUsed s Reg.BEAM_GRID_BANK 0 ((a.toNat * 4 - e.1) / 0x2000) = false) →
      exec (.bankWindowWrite a w) z = .next (State.settle
        (s.putLe (winByte (a.toNat * 4)) 4 w.toNat))) ∧
    (∀ (a : BitVec 22) (w : Word) (z s : State),
      s = rasterFirst z →
      ∀ e : Nat × Nat × Nat, windowOf (a.toNat * 4) = some e →
      e.2.2 = 1 →
      bankUsed s Reg.CMP_LUT_BANK ((a.toNat * 4 - e.1) / 0x2000 / 2) ((a.toNat * 4 - e.1) / 0x2000 % 2) = true →
      exec (.bankWindowWrite a w) z = .next (State.settle
        (s.count Reg.CMP_CNT_LUT_LIVE_WR))) ∧
    (∀ (k : Fin 6) (w : Word) (z s : State),
      s = rasterFirst z →
      basesOk (basesWith s (tableBases.getD k.val (0, 0)).1 w) = true →
      exec (.tableBaseWrite k w) z = .next (State.settle
        (s.swWrite (tableBases.getD k.val (0, 0)).1 w))) ∧
    (∀ (k : Fin 6) (w : Word) (z s : State),
      s = rasterFirst z →
      basesOk (basesWith s (tableBases.getD k.val (0, 0)).1 w) = false →
      exec (.tableBaseWrite k w) z = .next (State.settle
        (s.count Reg.DRAM_CNT_MAP_REJ))) ∧
    (∀ (a : BitVec 22) (w : Word) (z s : State),
      s = rasterFirst z →
      isCal (a.toNat * 4) = true →
      exec (.calFieldWrite a w) z = .next (State.settle
        (let t := forEach (unitsAt (a.toNat * 4)) (setCalUser · true) (s.swWrite (a.toNat * 4) w)
        if t.hk.userFields.contains (a.toNat * 4) then t else { t with hk := { t.hk with userFields := t.hk.userFields ++ [a.toNat * 4] } }))) ∧
    (∀ (n : Fin 8) (w : Word) (z s : State),
      s = rasterFirst z →
      (s.rd (Reg.CRC_CH_CTRL n.val)).getLsbD 0 = false →
      w.getLsbD 0 = true →
      chSettingsOk (s.swWrite (Reg.CRC_CH_CTRL n.val) (setFld w 0 1 0)) n.val = true →
      exec (.crcChcEn n w) z = .next (State.settle
        (attShow ((((s.swWrite (Reg.CRC_CH_CTRL n.val) (setFld w 0 1 0)).wb (Reg.CRC_CH_CTRL n.val) 0 true).wf (Reg.CRC_CH_STATUS n.val) 3 2 0).modCrcCh
          n.val fun x => { x with started := false, badRun := 0 })))) ∧
    (∀ (n : Fin 8) (w : Word) (z s : State),
      s = rasterFirst z →
      (s.rd (Reg.CRC_CH_CTRL n.val)).getLsbD 0 = false →
      w.getLsbD 0 = true →
      chSettingsOk (s.swWrite (Reg.CRC_CH_CTRL n.val) (setFld w 0 1 0)) n.val = false →
      exec (.crcChcEn n w) z = .next (State.settle
        (attShow ((s.swWrite (Reg.CRC_CH_CTRL n.val) (setFld w 0 1 0)).wb (Reg.CRC_CH_STATUS n.val) 3 true)))) ∧
    (∀ (n : Fin 8) (s : State),
      chBusy s n.val = true →
      exec (.crcScanEnd n none) s = .next (State.settle
        (scanFinish n.val true s))) ∧
    (∀ (n : Fin 16) (s : State),
      ∀ (t a v : Nat) (late : Option Nat) (u : State), s.pwr.state < 2 →
      (sget (fun _ => none) s.ras.tact n.val = some (t, a, v, late)) →
      u = rasterFirst (s.advanceTo (ns16 (Int.ofNat (late.getD t)))) →
      ((sget (fun _ => none) u.ras.tact n.val).isSome = true) →
      mapped a = true →
      liveOf a = none →
      windowOf a = none →
      areaOff u a = false →
      movesLookahead u a (BitVec.ofNat 32 v) = false →
      exec (.timeActionDue n) s = .next (State.settle
        (let r := { u with ras := { u.ras with tact := sput (fun _ => none) u.ras.tact n.val none } }
        applyWord a (BitVec.ofNat 32 v) (if late.isSome then (setTactState n.val 3 r).count Reg.RAS_CNT_TACT_LATE else setTactState n.val 2 r))))

/-- A sluice write of a complete message queues a sample; an outbound sluice write frees ring space; a dequeue consumes the oldest sample,
counts it, moves the alive state and serves the command once CRC, ALIVE, flags and rules pass; a held response is placed when there is room;
a timed command due in time runs; a forwarded response goes back under its original SEQ; records, assemblies and staged loads that time out
are dropped. A MAC link that comes up sets STAGE 5, counts and raises NET_LINK; an ARP request for the own address is answered; a CAN frame
fills its first matching empty buffer; an error frame sets the error counters and state, bus-off is counted, and recovery or RESTART returns
to error-active. Where a clause has s = rasterFirst z, s is the state after the raster boundaries due at the tick (R37). (Derived: R320,
R327, R324, R330, R42, R331, R321, R343, R312, R314, R315, R37.) -/
def Obligations.MailboxTransportAndNetworkEventsTakeEffect : Prop :=
    (∀ (n : Fin 8) (w : Word) (s : State),
      ∀ t : State, t = s.wf (Reg.MBX_MB_IN_SLUICE n.val) 0 13 (w.toNat % 8192) →
      mbClass n.val ≠ 8 →
      (inAvail t n.val == 0) = false →
      inComplete t n.val = true →
      exec (.mbnInSluice n w) s = .next (State.settle
        ({ t with mbx := { t.mbx with samples := t.mbx.samples ++ [(tickNow t, n.val, inWr t n.val, 0)] } }))) ∧
    (∀ (n : Fin 8) (w : Word) (s : State),
      mbClass n.val ≠ 8 →
      exec (.mbnOutSluice n w) s = .next (State.settle
        (s.wf (Reg.MBX_MB_OUT_SLUICE n.val) 0 13 (w.toNat % 8192)))) ∧
    (∀ (z s : State),
      s = rasterFirst z →
      ∀ (e : Nat × Nat × Nat × Nat) (t u : State) (m : Msg) (code : Nat), m = msgAtHead s e.2.1 e.2.2.2 →
      code = hdr s e.2.1 0 2 →
      s.bit Reg.MBX_STATUS 0 = false →
      3 ≤ stage s →
      s.pwr.quiesced = false →
      nextSample s = some e →
      inComplete s e.2.1 = true →
      m.payload.length ≤ mbLimit e.2.1 →
      headCrcOk s e.2.1 m = true →
      t = (consume e.2.1 (ringSize m.payload.length) s).count (Reg.MBX_MB_CNT_RX e.2.1) →
      lastAlive t m.mb.val m.client ≠ some m.alive →
      u = aliveSeen m.mb.val m.client m.alive t →
      chanAt u 2 5 m.mb.val = none →
      (m.flags.toNat / 16 != 0 || m.flags.getLsbD 0 || m.flags.getLsbD 1) = false →
      denied u code m = false →
      exec (.messageDequeue) z = .next (State.settle
        (serve code (svcBody code) m u))) ∧
    (∀ (n : Fin 8) (s : State),
      ∀ (h : Held) (l : List Held), mbPaused s = false →
      s.mbx.held = h :: l →
      s.mbx.held.filter (·.mb == n.val) = [h] →
      ringSize (h.payload.length + protectExtra s n.val) ≤ outFree s n.val →
      exec (.responseRelease n) s = .next (State.settle
        (placeMsg n.val h.client h.cmd h.flags h.seq h.target h.payload { s with mbx := { s.mbx with held := s.mbx.held.erase h } }))) ∧
    (∀ (n : Fin 16) (s : State),
      ∀ (d : Timed) (t : State), s.mbx.timed[n.val]? = some d →
      s.bit Reg.MBX_STATUS 0 = false →
      s.pwr.quiesced = false →
      t = rasterFirst (if timedOnRaster d.ctx = true then s else s.advanceTo (ns16 (Int.ofNat d.t))) →
      t.mbx.timed[n.val]? = some d →
      t.bit Reg.MBX_STATUS 0 = false →
      timedReady t d.ctx d.t = true →
      t.pwr.stopped = false →
      exec (.timedCommandDue n) s = .next (State.settle
        (timedCounts (runTimed (svcBody d.ctx.code) d.ctx d.t d.tol { t with mbx := { t.mbx with timed := t.mbx.timed.eraseIdx n.val } })))) ∧
    (∀ (fid : BitVec 12) (bytes : List Byte) (s : State),
      ∀ f : Fwd, ((s.mbx.fwd.find? fun x => (x.dest == fid.toNat || x.dest == 0xFFF) && x.seq == leAt bytes 4 2) = some f) →
      ((bytes.drop 16).take (leAt bytes 6 2)).length + protectExtra s f.mb ≤ mbLimit f.mb →
      exec (.forwardedResponse fid bytes) s = .next (State.settle
        (sendMsg f.mb f.client (leAt bytes 0 2) (leAt bytes 2 1) f.origSeq (leAt bytes 8 4) ((bytes.drop 16).take (leAt bytes 6 2)) s))) ∧
    (∀ (n : Nat) (s : State),
      exec (.forwardRecordExpiry n) s = .next (State.settle
        ({ s with mbx := { s.mbx with fwd := s.mbx.fwd.eraseIdx n } }))) ∧
    (∀ (m : Fin 2) (s : State),
      ∀ a : Assembly, mbxAsm s m.val = some a →
      exec (.mbxCanAssyTimeout m) s = .next (State.settle
        (setMbxAsm m.val none (s.advanceTo (ns16 (a.start + s.fd Reg.MBX_CAN_ASSY 0 8 * 1000000 + 1000 : Nat)))))) ∧
    (∀ (m : Fin 2) (s : State),
      ∀ a : Assembly, beamAsm s m.val = some a →
      exec (.beamCanAssyTimeout m) s = .next (State.settle
        ((setBeamAsm m.val none (s.advanceTo (ns16 (a.start + beamAssyNs s + 1000 : Nat)))).count Reg.BEAM_CNT_ASSY))) ∧
    (∀ (code obj : BitVec 16) (s : State),
      ∀ l : Load, loadOf s code.toNat obj.toNat = some l →
      exec (.stagedLoadTimeout code obj) s = .next (State.settle
        (dropLoad code.toNat obj.toNat (s.advanceTo (ns16 (l.last + 10000000000 : Nat)))))) ∧
    (∀ (m : Fin 2) (speed : Fin 4) (a r g : Bool) (s : State),
      macOn s m.val = true →
      s.bit (Reg.SDS_Q_STATUS (macLaneOf s m.val / 4)) 1 = true →
      (anUsed s m.val = true → a = true) →
      ∀ (t : State) (w : Nat), t = (setStage 5 (macLaneOf s m.val) s).wb (Reg.SDS_LANE_STATE (macLaneOf s m.val)) 15 g →
      w = 2 * macSpeed (setStage 5 (macLaneOf s m.val) s) m.val speed.val + (if (anUsed (setStage 5 (macLaneOf s m.val) s) m.val && a) = true then 8 else 0) + (if r = true then 16 else 0) →
      t.bit (Reg.MAC_STATUS m.val) 0 = false →
      exec (.macLinkChange m true speed a r g) s = .next (State.settle
        ((((t.wr (Reg.MAC_STATUS m.val) (BitVec.ofNat 32 (1 + w))).count (Reg.MAC_CNT_LINK_CHG m.val)).event 0x00A3 11 0 12 m.val [1, w / 2 % 4])))) ∧
    (∀ (m : Fin 2) (ps : Nat) (f p : List Byte) (z s : State),
      s = rasterFirst z →
      ∀ t : State, p = f.drop (typeAt f + 2) →
      t = s.count (Reg.MAC_CNT_RX_OK m.val) →
      s.bit (Reg.MAC_CTRL m.val) 0 = true →
      s.bit (Reg.MAC_STATUS m.val) 0 = true →
      60 ≤ f.length →
      f.length ≤ 1518 →
      macAccepts s m.val (beAt f 0 6) = true →
      beAt f (typeAt f) 2 = 0x0806 →
      p.take 8 = [0, 1, 8, 0, 6, 4, 0, 1] →
      beAt p 24 4 = (t.rd (Reg.MAC_IP m.val)).toNat →
      exec (.macFrameRx m ps f true) z = .next (State.settle
        ((t.emit (.eth m.val (beAt p 14 4) 0 0 ([0, 1, 8, 0, 6, 4, 0, 2] ++ beBytes 6 (ownMac t m.val) ++ (p.drop 24).take 4 ++ (p.drop 8).take 10))).count
          (Reg.MAC_CNT_TX_OK m.val)))) ∧
    (∀ (m : Fin 2) (id : BitVec 29) (x : Bool) (fl : Fin 8) (d : List Byte) (z s : State),
      s = rasterFirst z →
      canOn s m.val = true →
      canRefused s m.val fl.val = false →
      ∀ (b : Nat) (t u : State), t = canGoodRx m.val (s.count (Reg.CAN_CNT_RX m.val)) →
      (((List.range 64).find? fun b => canBufMatches t m.val b id.toNat x) = some b) →
      t.bit (Reg.CAN_MB_STATUS m.val b) 0 = false →
      chanAt t 2 (1 + m.val) b = none →
      (u = ({ t with net := { t.net with canBuf := sput (fun _ => []) t.net.canBuf (64 * m.val + b) d } }.wb (Reg.CAN_MB_STATUS m.val b) 0 true).wf
          (Reg.CAN_MB_STATUS m.val b) 2 7 (canDlc d.length + 16 * fl.val)) →
      canIdIs (u.rd (Reg.CAN_MBX_ID_RX m.val)) id.toNat x = false →
      canIdIs (u.rd Reg.BEAM_CAN_ID) id.toNat x = false →
      exec (.canFrameRx m id x fl d) z = .next (State.settle
        (u))) ∧
    (∀ (m : Fin 2) (tec rec : BitVec 9) (s : State),
      canOn s m.val = true →
      tec.toNat ≤ 255 →
      exec (.canErrorFrame m tec rec) s = .next (State.settle
        ((((s.count (Reg.CAN_CNT_ERR m.val)).wf (Reg.CAN_STATUS m.val) 0 2 (if (127 < tec.toNat || 127 < rec.toNat) = true then 1 else 0)).wf (Reg.CAN_STATUS m.val) 8 8 tec.toNat).wf
          (Reg.CAN_STATUS m.val) 16 8 (min rec.toNat 255)))) ∧
    (∀ (m : Fin 2) (tec rec : BitVec 9) (s : State),
      canOn s m.val = true →
      255 < tec.toNat →
      exec (.canErrorFrame m tec rec) s = .next (State.settle
        (((((s.count (Reg.CAN_CNT_ERR m.val)).wf (Reg.CAN_STATUS m.val) 0 2 2).wf (Reg.CAN_STATUS m.val) 8 8 255).wf
          (Reg.CAN_STATUS m.val) 16 8 (min rec.toNat 255)).count (Reg.CAN_CNT_BUSOFF m.val)))) ∧
    (∀ (m : Fin 2) (s : State),
      s.bit (Reg.CAN_CTRL m.val) 4 = false →
      s.fd (Reg.CAN_STATUS m.val) 0 2 = 2 →
      exec (.busOffRecovery m) s = .next (State.settle
        (s.wr (Reg.CAN_STATUS m.val) 0))) ∧
    (∀ (m : Fin 2) (z s : State),
      s = rasterFirst z →
      s.fd (Reg.CAN_STATUS m.val) 0 2 = 2 →
      exec (.canRestart m) z = .next (State.settle
        (s.wr (Reg.CAN_STATUS m.val) 0)))

/-- A phase 0 that its tick has not run yet does, after a reset due by its tick and what blanking start and cutoff still have to do, in this
order what R27 lists, and after an orderly stop only the raster part; blanking start judges polders and cuts, captures and sends what goes
in blanking; the cutoff fixes the list and starts the pass, or under lookahead squashes a table that does not agree; a finished pass is
ready for the next phase 0; a SYNC_IN edge in the window moves the next phase 0 by its error, one outside is counted, any is used while
SYNC_LOST; SYNC_LOST is reported; the first TE_IN edge in the window around a phase 0 latches, its close latches at the fallback time and
counts, and neither latches in a first or halted frame; SYNC_OUT rises and falls; ARM takes time, address and data, CANCEL an armed action
away; a timing commit waits, and is remembered when made after the capture; enabling arms the raster, disabling stops it. s is the state
after the raster boundaries due at the tick (R37). (Derived: R27, R26, R150, R151, R32, R33, R35, R79, R80, R40, R44, R453.) -/
def Obligations.RasterTimeEventsTakeEffect : Prop :=
    (∀ (s : State),
      ∀ r b t : State, s.ras.ahead ≠ some s.tickNs →
      rasOn s = true →
      (s.ras.armed || s.ras.ran) = true →
      r = afterBy (State.tickOf s.ras.p0Next) s →
      rasOn r = true →
      (r.ras.armed || r.ras.ran) = true →
      b = renderCutoff (blankingStart r) →
      (t = rasterP0 (when (!b.ras.ran) captureAll (forEach (List.range 8) (fun c t => if (t.crcCh c).fresh = true then t.modCrcCh c fun x => { x with fresh := false } else t) b))) →
      t.pwr.stopped = true →
      exec (.phase0) s = .next (State.settle
        (t))) ∧
    (∀ (s : State),
      ∀ (r b t u : State) (mute : Bool), s.ras.ahead ≠ some s.tickNs →
      rasOn s = true →
      (s.ras.armed || s.ras.ran) = true →
      r = afterBy (State.tickOf s.ras.p0Next) s →
      rasOn r = true →
      (r.ras.armed || r.ras.ran) = true →
      b = renderCutoff (blankingStart r) →
      (t = rasterP0 (when (!b.ras.ran) captureAll (forEach (List.range 8) (fun c t => if (t.crcCh c).fresh = true then t.modCrcCh c fun x => { x with fresh := false } else t) b))) →
      t.pwr.stopped = false →
      u = forEach (List.range 32) dropSegCmds t →
      mute = (!b.ras.ran || u.pwr.halted) →
      exec (.phase0) s = .next (State.settle
        (let v := when (!mute) latchP0 (teBegin mute u)
        let a := fbEnd (fbApply (applyShadows (forEach (List.range 256) holdP0 (forEach (List.range 32) linkP0 v))))
        let b := beamP0 (supPlan (captureTref (litStep (supLit (healthP0 a)))))
        let c := layersP0 (forEach (List.range 16) stripDeadline (snowApply (corrP0 b)))
        let d := stageP0 (powerP0 (bandsApply (forEach (List.range 4) streamTransmit (stripSend c))))
        handoverP0 (complP0 (composeP0 (showModes d)))))) ∧
    (∀ (s : State),
      ∀ t : State, s.ras.ran = true →
      s.ras.inBlank = false →
      t = (when (decide (cutoffAt s ≤ blankAt s)) renderCutoff s).advanceTo (blankAt s) →
      t.pwr.stopped = true →
      exec (.blankingStart) s = .next (State.settle
        ({ t with ras := { t.ras with inBlank := true } }))) ∧
    (∀ (s : State),
      ∀ t c : State, s.ras.ran = true →
      s.ras.inBlank = false →
      t = (when (decide (cutoffAt s ≤ blankAt s)) renderCutoff s).advanceTo (blankAt s) →
      t.pwr.stopped = false →
      c = captureAll (blankChecks t) →
      exec (.blankingStart) s = .next (State.settle
        (blankSend (forEach (List.range 4) streamCut (when (periodMoves c && c.beam.la && speculative c) (squash true) c))))) ∧
    (∀ (s : State),
      ∀ t u : State, s.ras.ran = true →
      s.beam.cutDone = false →
      t = s.advanceTo (cutoffAt s) →
      u = { t with beam := { t.beam with fixed := t.beam.cur, fresh := false, cutDone := true } } →
      (u.beam.la && speculative u) = false →
      exec (.renderCutoff) s = .next (State.settle
        (startPass false t.beam.cur false u))) ∧
    (∀ (s : State),
      ∀ (t u : State) (r : RTab), s.ras.ran = true →
      s.beam.cutDone = false →
      t = s.advanceTo (cutoffAt s) →
      u = { t with beam := { t.beam with fixed := t.beam.cur, fresh := false, cutDone := true } } →
      (u.beam.la && speculative u) = true →
      ((u.beam.ready.orElse fun _ => u.beam.prep) = some r) →
      exec (.renderCutoff) s = .next (State.settle
        (when (t.beam.fresh && !(tablesAgree u r (renderTab u u.beam.fixed false))) (squash true) u))) ∧
    (∀ (s : State),
      ∀ t : RTab, s.beam.prep = some t →
      exec (.renderPassDone) s = .next (State.settle
        (((({ s with beam := { s.beam with prep := none, ready := some t } }.wb Reg.BEAM_STATUS 2 false).wf Reg.BEAM_STATUS 8 8 t.objs.length).wb Reg.BEAM_STATUS 4 (decide (t.i < t.f)))))) ∧
    (∀ (at10 : Nat) (z s : State),
      s = rasterFirst z →
      ∀ e : Int, onSyncIn s = true →
      syncPolarity s true = true →
      s.ras.ran = true →
      s.bit Reg.RAS_STATUS 3 = false →
      s.ras.edgeUsed = false →
      e = syncError s (ns16 (at10 * 10)) →
      -(syncWin s) ≤ e →
      e ≤ syncWin s →
      exec (.syncInEdge true at10) z = .next (State.settle
        (addMove e { s with ras := { s.ras with edgeUsed := true, syncTarget := some (s.ras.p0Next + e) } }))) ∧
    (∀ (at10 : Nat) (z s : State),
      s = rasterFirst z →
      ∀ e : Int, onSyncIn s = true →
      syncPolarity s false = true →
      s.ras.ran = true →
      s.bit Reg.RAS_STATUS 3 = false →
      e = syncError s (ns16 (at10 * 10)) →
      syncWin s < e ∨ e < -(syncWin s) →
      exec (.syncInEdge false at10) z = .next (State.settle
        (s.count Reg.RAS_CNT_SYNC_OUTWIN))) ∧
    (∀ (r : Bool) (at10 : Nat) (z s : State),
      s = rasterFirst z →
      onSyncIn s = true →
      syncPolarity s r = true →
      s.ras.ran = true →
      s.bit Reg.RAS_STATUS 3 = true →
      exec (.syncInEdge r at10) z = .next (State.settle
        (useEdge (syncError s (ns16 (at10 * 10))) s))) ∧
    (∀ (s : State),
      onSyncIn s = true →
      s.bit Reg.RAS_STATUS 3 = false →
      0 < s.ras.missRun →
      s.fd Reg.RAS_SYNC_LOSS_LIMIT 0 4 ≤ s.ras.missRun →
      exec (.syncLost) s = .next (State.settle
        ((s.wb Reg.RAS_STATUS 3 true).event 0x0030 3 1 clsDevice 0 [0]))) ∧
    (∀ (s : State),
      ∀ t : State, s.bit Reg.RAS_SYNC_OUT 31 = true →
      rasOn s = true →
      s.ras.ran = true →
      s.ras.syncOutDone = false →
      t = syncLevel true (syncRise s) (s.advanceTo (syncRise s)) →
      exec (.syncOutPulse) s = .next (State.settle
        ({ t with ras := { t.ras with syncOutDone := true, syncFall := some (syncRise s + ns16 (max 1 (t.fd Reg.RAS_SYNC_OUT 24 7) * 1000)) } }))) ∧
    (∀ (s : State),
      ∀ t : Int, s.ras.syncFall = some t →
      exec (.syncOutPulseEnd) s = .next (State.settle
        (syncLevel false t { s.advanceTo t with ras := { s.ras with syncFall := none } }))) ∧
    (∀ (r : Bool) (at10 : Nat) (z s : State),
      s = rasterFirst z →
      ∀ (d : Int) (t : State), (r == s.bit Reg.SLK_TE_CFG 16) = false →
      s.ras.ran = true →
      s.pwr.stopped = false →
      s.ras.teDone = false →
      d = ns16 (at10 * 10) - s.ras.p0At →
      0 ≤ d →
      d ≤ teWin s →
      t = s.wr Reg.SLK_TE_OFFSET (BitVec.ofInt 32 (d / 65536)) →
      exec (.teEdge r at10) z = .next (State.settle
        (if t.ras.teMute then { t with ras := { t.ras with teDone := true } }
        else latchTe t.ras.frame (ns16 (at10 * 10) + teLead t) true { t with ras := { t.ras with teDone := true } }))) ∧
    (∀ (r : Bool) (at10 : Nat) (z s : State),
      s = rasterFirst z →
      ∀ (d : Int) (t : State), (r == s.bit Reg.SLK_TE_CFG 16) = false →
      s.ras.ran = true →
      s.pwr.stopped = false →
      s.pwr.halted = false →
      s.ras.teDone = true →
      s.ras.teNext = false →
      d = s.ras.p0Next - ns16 (at10 * 10) →
      0 < d →
      d ≤ teWin s →
      t = { s.wr Reg.SLK_TE_OFFSET (BitVec.ofInt 32 (-(d / 65536))) with ras := { s.ras with teNext := true } } →
      exec (.teEdge r at10) z = .next (State.settle
        (latchTe t.ras.nextFrame (ns16 (at10 * 10) + teLead t) false (forEach (List.range 32) lineNow t)))) ∧
    (∀ (s : State),
      ∀ t : State, s.ras.ran = true →
      s.ras.teDone = false →
      (s.rd Reg.SLK_TE_MASK == 0) = false →
      s.pwr.stopped = false →
      t = (s.advanceTo (s.ras.p0At + teWin s)).count Reg.SLK_CNT_TE_MISS →
      exec (.teWindowClose) s = .next (State.settle
        (if t.ras.teMute then { t with ras := { t.ras with teDone := true } }
        else latchTe t.ras.frame (t.ras.p0At + teWin t + teLead t) true { t with ras := { t.ras with teDone := true } }))) ∧
    (∀ (n : Fin 16) (z s : State),
      s = rasterFirst z →
      ∀ t : Nat, t = (s.rd (Reg.RAS_TACT_TIME_HI n.val)).toNat * 2 ^ 32 + (s.rd (Reg.RAS_TACT_TIME_LO n.val)).toNat →
      exec (.tactArm n) z = .next (State.settle
        (setTactState n.val 1 { s with ras := { s.ras with
          tact := sput (fun _ => none) s.ras.tact n.val (some (t, s.fd (Reg.RAS_TACT_ADDR n.val) 2 22 * 4, (s.rd (Reg.RAS_TACT_DATA n.val)).toNat,
            if t < s.tickNs then some (s.tickNs + 1000) else none)) } }))) ∧
    (∀ (n : Fin 16) (z s : State),
      s = rasterFirst z →
      s.fd (Reg.RAS_TACT_CTRL n.val) 2 3 = 1 →
      exec (.tactCancel n) z = .next (State.settle
        (setTactState n.val 0 { s with ras := { s.ras with tact := sput (fun _ => none) s.ras.tact n.val none } }))) ∧
    (∀ (z s : State),
      s = rasterFirst z →
      s.ras.commitCap = false →
      exec (.rasTimingCommit) z = .next (State.settle
        (s.wb Reg.RAS_STATUS 4 true))) ∧
    (∀ (z s : State),
      s = rasterFirst z →
      s.ras.commitCap = true →
      exec (.rasTimingCommit) z = .next (State.settle
        (setRecommit 4 true (s.wb Reg.RAS_STATUS 4 true)))) ∧
    (∀ (z s : State),
      s = rasterFirst z →
      rasOn s = false →
      exec (.rasCtrlEnable true) z = .next (State.settle
        (timingToAll (armRaster (enablingTiming (s.wb Reg.RAS_CTRL 0 true)))))) ∧
    (∀ (z s : State),
      s = rasterFirst z →
      rasOn s = true →
      exec (.rasCtrlEnable false) z = .next (State.settle
        (stopRaster (s.wb Reg.RAS_CTRL 0 false))))

/-- A commit bit sets its pending flag and clears the error flag of its set, and is remembered when written again after the capture; EN of the
renderer moves its STATE; an underrun is noted once a row and counted; a composed segment takes its codes and sums, counts capped fill,
folds polder signatures and goes to its link; a polder is compared when its footprint is complete, and at blanking skipped when it is not; a
mismatch that lasts acts once, with its event, and raises the fallback when FB is set; FB_CTRL raises a fallback of cause 6 or only counts
and logs it when one shows, and clears it or counts the refusal; a layer that misses MISS frames takes its policy with its event; a buffer
left by its layer is RETIRED with its frame and event. Where a clause has s = rasterFirst z, s is the state after the raster boundaries due
at the tick (R37). (Derived: R127, R160, R233, R134, R70, R234, R235, R244, R245, R248, R133, R136.) -/
def Obligations.CommitCompositionAndFallbackEventsTakeEffect : Prop :=
    (∀ (n : Fin 8) (z s : State),
      s = rasterFirst z →
      exec (.layerCommit n) z = .next (State.settle
        ((s.wb (Reg.CMP_LAYER_STATUS n.val) 1 true).wb (Reg.CMP_LAYER_STATUS n.val) 5 false))) ∧
    (∀ (z s : State),
      s = rasterFirst z →
      s.crd Reg.CMP_CANVAS = none →
      exec (.globalCommit) z = .next (State.settle
        (s.wb Reg.CMP_STATUS 0 true))) ∧
    (∀ (z s : State),
      s = rasterFirst z →
      (s.crd Reg.CMP_CANVAS).isSome = true →
      exec (.globalCommit) z = .next (State.settle
        (setRecommit 0 true (s.wb Reg.CMP_STATUS 0 true)))) ∧
    (∀ (z s : State),
      s = rasterFirst z →
      s.crd Reg.BEAM_PATTERN = none →
      exec (.beamCommit) z = .next (State.settle
        ((s.wb Reg.BEAM_STATUS 5 true).wb Reg.BEAM_STATUS 6 false))) ∧
    (∀ (z s : State),
      s = rasterFirst z →
      (s.crd Reg.BEAM_PATTERN).isSome = true →
      exec (.beamCommit) z = .next (State.settle
        (setRecommit 1 true ((s.wb Reg.BEAM_STATUS 5 true).wb Reg.BEAM_STATUS 6 false)))) ∧
    (∀ (z s : State),
      s = rasterFirst z →
      s.crd Reg.CORR_CLAMP = none →
      exec (.corrCommit) z = .next (State.settle
        (s.wb Reg.CORR_STATUS 3 true))) ∧
    (∀ (z s : State),
      s = rasterFirst z →
      (s.crd Reg.CORR_CLAMP).isSome = true →
      exec (.corrCommit) z = .next (State.settle
        (setRecommit 2 true (s.wb Reg.CORR_STATUS 3 true)))) ∧
    (∀ (z s : State),
      s = rasterFirst z →
      s.crd (Reg.POL_P_CFG 0) = none →
      exec (.polCommit) z = .next (State.settle
        ((s.wb Reg.POL_STATUS 0 true).wb Reg.POL_STATUS 1 false))) ∧
    (∀ (z s : State),
      s = rasterFirst z →
      (s.crd (Reg.POL_P_CFG 0)).isSome = true →
      exec (.polCommit) z = .next (State.settle
        (setRecommit 3 true ((s.wb Reg.POL_STATUS 0 true).wb Reg.POL_STATUS 1 false)))) ∧
    (∀ (v : Bool) (z s : State),
      s = rasterFirst z →
      s.bit Reg.BEAM_CTRL 0 ≠ v →
      exec (.beamCtrlEn v) z = .next (State.settle
        (setBeamState (if v = true then 1 else 0) (s.wb Reg.BEAM_CTRL 0 v)))) ∧
    (∀ (n : Fin 8) (g : Fin 256) (r k : Fin 4096) (s : State),
      layEn s n.val = true →
      (s.layer n.val).hidden = false →
      (s.seg g.val).due = true →
      (s.seg g.val).composed = false →
      (((s.layer n.val).under.any fun e => e.1 == g.val && e.2.1 == r.val) = false) →
      exec (.fetchUnderrun n g r k) s = .next (State.settle
        ((s.modLayer n.val fun x => { x with under := (g.val, r.val, k.val) :: x.under }).count (Reg.CMP_LAYER_CNT_UNDERRUN n.val)))) ∧
    (∀ (g : Fin 256) (s : State),
      ∀ (o : List LampOut) (t u : State), composing s g.val = true →
      o = segOut s g.val →
      t = composedLamps 4096 g.val o (takeCodes g.val o (lineNow (g.val / 8) s)) →
      (u = t.modSeg g.val fun x => { x with composed := true, fbDone := showsFallback s, signed := x.signed || !(showsFallback s), rowsOut := 0, stopped := false }) →
      exec (.segmentComposed g) s = .next (State.settle
        (lineNow (g.val / 8) (u.modLink (g.val / 8) fun l => { l with lineAt := max l.lineAt (now3 u) })))) ∧
    (∀ (n : Fin 64) (s : State),
      polEn s n.val = true →
      (s.polder n.val).checked = false →
      s.bit Reg.POL_FB_STATUS 0 = false →
      s.ras.ran = true →
      s.ras.inBlank = false →
      footComplete s n.val = true →
      footSegs s n.val ≠ [] →
      exec (.polderCheck n) s = .next (State.settle
        (polCompare n.val (s.modPolder n.val fun x => { x with checked := true })))) ∧
    (∀ (n : Nat) (s : State), polEn s n = true → (s.polder n).checked = false → s.bit Reg.POL_FB_STATUS 0 = false → s.ras.ran = true → s.ras.inBlank = false →
      polCheck true n s = (if footComplete s n then polCompare n else polSkip n) (s.modPolder n fun x => { x with checked := true })) ∧
    (∀ (n : Fin 64) (x : Word) (s : State),
      ∀ t u : State, polEn s n.val = true →
      s.lf (Reg.POL_P_CFG n.val) 12 4 ≤ (s.polder n.val).run →
      0 < (s.polder n.val).run →
      (s.polder n.val).acted = false →
      s.bit Reg.POL_FB_STATUS 0 = false →
      (t = (s.modPolder n.val fun x => { x with acted := true }).count (Reg.POL_P_CNT_MISMATCH n.val)) →
      u = t.event 0x0080 9 3 6 n.val (det 4 (t.rd (Reg.POL_P_SIG n.val)).toNat ++ det 4 x.toNat ++ det 4 t.ras.nextFrame.toNat) →
      exec (.polderMismatch n x) s = .next (State.settle
        (when (u.lf (Reg.POL_P_CFG n.val) 3 1 == 1) (fbRaise 1 n.val (u.lf (Reg.POL_P_CFG n.val) 4 2)) u))) ∧
    (∀ (k : Fin 4) (z s : State),
      s = rasterFirst z →
      ∀ t : State, showsFallback s = false →
      t = s.wr Reg.POL_FB_STATUS (BitVec.ofNat 32 (2 + 6 * 256)) →
      exec (.fbCtrlRaise k) z = .next (State.settle
        (fbCompose (fbShow { t with pol := { t.pol with named := k.val, fbWait := fallbackWait t } })))) ∧
    (∀ (k : Fin 4) (z s : State),
      s = rasterFirst z →
      showsFallback s = true →
      exec (.fbCtrlRaise k) z = .next (State.settle
        ((s.count Reg.POL_CNT_FB_EXTRA).event 0x0081 9 3 clsDevice 0 [6, 0, k.val]))) ∧
    (∀ (z s : State),
      s = rasterFirst z →
      clearRefused s = false →
      exec (.fbCtrlClear) z = .next (State.settle
        (fbClear s))) ∧
    (∀ (z s : State),
      s = rasterFirst z →
      clearRefused s = true →
      exec (.fbCtrlClear) z = .next (State.settle
        (s.count Reg.POL_CNT_CLEAR_REJ))) ∧
    (∀ (n : Fin 8) (s : State),
      ∀ (p : Nat) (t u : State), layEn s n.val = true →
      (s.layer n.val).policy = 0 →
      s.bit (Reg.CMP_LAYER_STATUS n.val) 3 = true →
      s.lf (Reg.CMP_LAYER_MISS n.val) 0 8 ≤ s.fd (Reg.CMP_LAYER_STATUS n.val) 8 8 →
      p = layerPolicy s n.val →
      (t = ((s.modLayer n.val fun x => { x with policy := p }).wb (Reg.CMP_LAYER_STATUS n.val) 4 true).count (Reg.CMP_LAYER_CNT_POLICY n.val)) →
      u = t.event 0x0040 4 1 clsLayer n.val [p - 1] →
      exec (.layerMissPolicy n) s = .next (State.settle
        (when (p == 3) (fbRaise 2 n.val (u.lf (Reg.CMP_LAYER_MISS n.val) 14 2)) u))) ∧
    (∀ (n : Fin 8) (s : State),
      ∀ (f b k : Nat) (r : List (Nat × Nat × Nat)) (t u : State), (s.layer n.val).retire = (f, b, k) :: r →
      afterScan s n.val f b = false →
      (t = s.modLayer n.val fun x => { x with retire := r }) →
      u = (t.wr (Reg.CMP_LAYER_RETIRED_BUF n.val) (BitVec.ofNat 32 (f + 256 * b))).wr (Reg.CMP_LAYER_RETIRED_FRAME n.val) (BitVec.ofNat 32 k) →
      exec (.bufferRetired n) s = .next (State.settle
        (readDone f b (u.event 0x0042 4 0 clsLayer n.val ([f, b, 0, 0] ++ det 4 k)))))

/-- Enabling starts a series and disabling a training link enters OFF; RETRAIN retrains or starts a series; a mask bit whose LEAD is shorter
than the path is not set; a heartbeat sends its count and a right echo sets HB_OK, a wrong or missing one counts towards HB_LOST; lock,
TRAIN_RSP, 16 echoes within 2 UI and a passed calibration carry a link through ALIGN, IDENT, DELAY and CAL to CONFIG; a version outside 1.x,
a loss of lock or a state that times out fails the attempt with its REASON; waits end in a new attempt. An acknowledgement settles its
packet, a NAK or timeout resends it; reports in their frames are kept and later ones counted; what cannot be read is counted with its code
errors: without an EOP, with a bad CRC or the wrong length for its type as CRC, and towards retraining, of an unknown type as TYPE; a HOLD
that expires goes to DEFAULT with its event. Where a clause has s = rasterFirst z, s is the state after the raster boundaries due at the
tick (R37). (Derived: R52, R57, R63, R66, R68, R72, R73, R74, R76, R79, R84, R37.) -/
def Obligations.SegmentLinkEventsTakeEffect : Prop :=
    (∀ (n : Fin 32) (z s : State),
      s = rasterFirst z →
      s.bit (Reg.SLK_LINK_CTRL n.val) 0 = false →
      linkState (s.wb (Reg.SLK_LINK_CTRL n.val) 0 true) n.val = 0 →
      exec (.linknCtrlEn n true) z = .next (State.settle
        (linkSeries n.val (s.wb (Reg.SLK_LINK_CTRL n.val) 0 true)))) ∧
    (∀ (n : Fin 32) (z s : State),
      s = rasterFirst z →
      ∀ t : State, s.bit (Reg.SLK_LINK_CTRL n.val) 0 = true →
      t = s.wb (Reg.SLK_LINK_CTRL n.val) 0 false →
      linkState t n.val ≠ 0 →
      linkState t n.val ≠ 6 →
      exec (.linknCtrlEn n false) z = .next (State.settle
        (linkEnter n.val 0 t))) ∧
    (∀ (n : Fin 32) (z s : State),
      s = rasterFirst z →
      linkState s n.val = 6 →
      exec (.linknCtrlRetrain n) z = .next (State.settle
        (retrain n.val s))) ∧
    (∀ (n : Fin 32) (z s : State),
      s = rasterFirst z →
      linkState s n.val = 7 →
      exec (.linknCtrlRetrain n) z = .next (State.settle
        (linkSeries n.val s))) ∧
    (∀ (w : Word) (z s : State),
      s = rasterFirst z →
      exec (.teMaskWrite w) z = .next (State.settle
        (s.wr Reg.SLK_TE_MASK ((List.range 32).foldl (fun a n =>
          if (w.getLsbD n && !((s.rd Reg.SLK_TE_MASK).getLsbD n) && decide (s.fd Reg.SLK_TE_CFG 0 16 < linkPath s n + 100)) = true then setFld a n 1 0 else a) w)))) ∧
    (∀ (n : Fin 32) (s : State),
      hbRuns s n.val = true →
      exec (.heartbeat n) s = .next (State.settle
        (((s.emit (.slkSet n.val 0xB5 (s.link n.val).hbNext.toNat)).wf (Reg.SLK_LINK_HB n.val) 0 8 (s.link n.val).hbNext.toNat).modLink n.val fun l => { l with hbNext := (s.link n.val).hbNext + 1, hbAt := now3 s }))) ∧
    (∀ (n : Fin 32) (c : Byte) (s : State),
      ∀ t : State, echoWatched s n.val = true →
      t = s.wf (Reg.SLK_LINK_HB n.val) 8 8 c.toNat →
      c.toNat = t.fd (Reg.SLK_LINK_HB n.val) 0 8 →
      exec (.heartbeatEcho n c) s = .next (State.settle
        ((t.wb (Reg.SLK_LINK_STATE n.val) 17 true).modLink n.val fun l => { l with hbBad := 0 }))) ∧
    (∀ (n : Fin 32) (c : Byte) (s : State),
      ∀ t : State, echoWatched s n.val = true →
      t = s.wf (Reg.SLK_LINK_HB n.val) 8 8 c.toNat →
      c.toNat ≠ t.fd (Reg.SLK_LINK_HB n.val) 0 8 →
      exec (.heartbeatEcho n c) s = .next (State.settle
        (echoBad n.val t))) ∧
    (∀ (n : Fin 32) (s : State),
      echoWatched s n.val = true →
      exec (.heartbeatEchoTimeout n) s = .next (State.settle
        (echoBad n.val s))) ∧
    (∀ (n : Fin 32) (s : State),
      linkState s n.val = 1 →
      (s.link n.val).waiting = false →
      exec (.upstreamLock n) s = .next (State.settle
        (linkEnter n.val 2 (s.wb (Reg.SLK_LINK_STATE n.val) 16 true)))) ∧
    (∀ (n : Fin 32) (s : State),
      upAsleep s n.val = false →
      s.bit (Reg.SLK_LINK_STATE n.val) 16 = true →
      2 ≤ linkState s n.val →
      linkState s n.val ≤ 5 →
      exec (.upstreamLockLoss n) s = .next (State.settle
        (linkFail n.val 1 (s.wb (Reg.SLK_LINK_STATE n.val) 16 false)))) ∧
    (∀ (n : Fin 32) (s : State),
      upAsleep s n.val = false →
      s.bit (Reg.SLK_LINK_STATE n.val) 16 = true →
      linkState s n.val = 6 →
      exec (.upstreamLockLoss n) s = .next (State.settle
        (autoTrigger n.val (s.wb (Reg.SLK_LINK_STATE n.val) 16 false)))) ∧
    (∀ (n : Fin 32) (s : State),
      linkState s n.val = 2 →
      exec (.trainReq n) s = .next (State.settle
        ((s.emit (slkPacket n.val 6 0 0 ([(s.link n.val).tag, 0x10] ++ leBytes 1 (s.link n.val).rate ++ [0]))).modLink n.val fun l => { l with tag := (s.link n.val).tag + 1 }))) ∧
    (∀ (n : Fin 32) (r : TrainRsp) (s : State),
      ∀ t u : State, linkState s n.val = 2 →
      0x10 ≤ r.protoRev.toNat →
      r.protoRev.toNat ≤ 0x1F →
      t = (((s.wr (Reg.SLK_LINK_CAPS n.val) (0#8 ++ r.caps ++ r.present ++ r.protoRev)).wr (Reg.SLK_LINK_GEOM n.val) r.geom).wr (Reg.SLK_LINK_DRIVER_ID n.val) r.driverId).wr (Reg.SLK_LINK_PARTNER n.val) (r.f ++ r.ta) →
      (t.link n.val).quick = false →
      (u = linkEnter n.val 3 (markSegs n.val r (t.modLink n.val fun l => { l with rtts := [] }))) →
      exec (.trainRsp n r) s = .next (State.settle
        (forEach (List.range 16) (fun i v => v.emit (.slkSet n.val 0x5C i)) u))) ∧
    (∀ (n : Fin 32) (r : TrainRsp) (s : State),
      ∀ t : State, linkState s n.val = 2 →
      r.protoRev.toNat < 0x10 ∨ 0x1F < r.protoRev.toNat →
      t = (((s.wr (Reg.SLK_LINK_CAPS n.val) (0#8 ++ r.caps ++ r.present ++ r.protoRev)).wr (Reg.SLK_LINK_GEOM n.val) r.geom).wr (Reg.SLK_LINK_DRIVER_ID n.val) r.driverId).wr (Reg.SLK_LINK_PARTNER n.val) (r.f ++ r.ta) →
      exec (.trainRsp n r) s = .next (State.settle
        (linkFail n.val 3 t))) ∧
    (∀ (n : Fin 32) (w : BitVec 16) (s : State),
      ∀ t : State, linkState s n.val = 3 →
      (t = s.modLink n.val fun l => { l with rtts := ((l.rtts ++ [w.toNat]).reverse.take 16).reverse }) →
      (t.link n.val).rtts.length = 16 →
      (t.link n.val).rtts.foldl max 0 ≤ (t.link n.val).rtts.foldl min ((t.link n.val).rtts.headD 0) + 2 →
      exec (.probeEcho n w) s = .next (State.settle
        (delayDone n.val t))) ∧
    (∀ (n : Fin 32) (tap : BitVec 7) (eye : Byte) (clean : Bool) (s : State),
      linkState s n.val = 4 →
      (s.link n.val).calAgain = false →
      calCheck s n.val (s.link n.val).heldTap [tap.toNat] eye.toNat clean = 0 →
      exec (.calburstEcho n tap eye clean) s = .next (State.settle
        (enterConfig n.val ((calEnd n.val (s.link n.val).heldTap [tap.toNat] eye.toNat clean s).modLink n.val fun l => { l with heldTap := true })))) ∧
    (∀ (n : Fin 32) (s : State),
      linkTraining s n.val = true →
      (s.link n.val).waiting = false →
      exec (.trainingStateTimeout n) s = .next (State.settle
        (linkFail n.val (trainReason (linkState s n.val)) s))) ∧
    (∀ (n : Fin 32) (s : State),
      linkState s n.val = 1 →
      (s.link n.val).waiting = true →
      exec (.retryWaitExpiry n) s = .next (State.settle
        (alignStart n.val s))) ∧
    (∀ (n : Fin 32) (s : State),
      linkState s n.val = 7 →
      exec (.downAttempt n) s = .next (State.settle
        (alignStart n.val (s.modLink n.val fun l => { l with fromDown := true })))) ∧
    (∀ (n : Fin 32) (tag : Byte) (ty : Fin 16) (sub : Fin 8) (s : State),
      ∀ p : OutPkt, ty.val = 2 →
      answered s n.val tag 2 sub.val = some p →
      exec (.ack n tag ty sub) s = .next (State.settle
        (configCheck n.val (segCmdDone (8 * n.val + sub.val) p.payload (Machine.settle n.val p s))))) ∧
    (∀ (n : Fin 32) (tag : Byte) (ty : Fin 16) (sub : Fin 8) (s : State),
      ∀ p : OutPkt, ty.val = 3 →
      answered s n.val tag 3 sub.val = some p →
      exec (.ack n tag ty sub) s = .next (State.settle
        (configCheck n.val (Machine.settle n.val p s)))) ∧
    (∀ (n : Fin 32) (tag : Byte) (ty : Fin 16) (sub : Fin 8) (reason : Byte) (b : Bool) (s : State),
      ∀ (p : OutPkt) (k : Nat) (t : State), k = (s.link n.val).naks + 1 →
      (t = (s.count (Reg.SLK_LINK_CNT_NAK_RX n.val)).modLink n.val fun l => { l with naks := k }) →
      k ≠ t.fd Reg.SLK_NAK_LIMIT 0 8 + 1 →
      ty.val ≠ 1 →
      answered t n.val tag ty.val sub.val = some p →
      reason.toNat ≠ 3 →
      reason.toNat ≠ 4 →
      exec (.nak n tag ty sub reason b) s = .next (State.settle
        (resend n.val p t))) ∧
    (∀ (n : Fin 32) (tag : Byte) (ty : Fin 16) (sub : Fin 8) (s : State),
      ∀ p : OutPkt, answered s n.val tag ty.val sub.val = some p →
      exec (.ackTimeout n tag ty sub) s = .next (State.settle
        (resend n.val p s))) ∧
    (∀ (g : Fin 256) (fn : Byte) (l : List Byte) (s : State),
      reportsTaken s (g.val / 8) = true →
      (reportSlot s g.val fn).isSome = true →
      exec (.segStatus g fn l) s = .next (State.settle
        (lossEnd g.val (Machine.segStatus g.val fn l s)))) ∧
    (∀ (g : Fin 256) (fn row base : Byte) (l : List Byte) (s : State),
      reportsTaken s (g.val / 8) = true →
      reportSlot s g.val fn = some 0 →
      exec (.vfRow g fn row base l) s = .next (State.settle
        (s.modSeg g.val fun x => { x with vf0 := some (row.toNat, base.toNat, l) }))) ∧
    (∀ (g : Fin 256) (fn : Byte) (mv : BitVec 16) (s : State),
      reportsTaken s (g.val / 8) = true →
      reportSlot s g.val fn = some 0 →
      exec (.headroom g fn mv) s = .next (State.settle
        (s.modSeg g.val fun x => { x with head0 := some mv.toNat }))) ∧
    (∀ (g : Fin 256) (fn : Byte) (mv : BitVec 16) (s : State),
      reportsTaken s (g.val / 8) = true →
      reportSlot s g.val fn = none →
      exec (.headroom g fn mv) s = .next (State.settle
        (s.count (Reg.SLK_LINK_CNT_LATE_RPT (g.val / 8))))) ∧
    (∀ (n : Fin 32) (fn : Byte) (l : List (BitVec 16)) (s : State),
      reportsTaken s n.val = true →
      fn = s.ras.frame.setWidth 8 →
      exec (.segTemp n fn l) s = .next (State.settle
        (forEach (List.range 8) (fun i t =>
          t.modSeg (8 * n.val + i) fun x => { x with temp := if (l.getD i 0x8000#16 == 0x8000#16) = true then none else some (l.getD i 0x8000#16).toInt, tempAge := 0 }) s))) ∧
    (∀ (n : Fin 32) (x : BadFrame) (s : State),
      hbRuns s n.val = true →
      upAsleep s n.val = false →
      (s.link n.val).waiting = false →
      x.frame = [] ∨ upFault x.frame x.eop = 0 →
      exec (.upstreamBadPacket n x) s = .next (State.settle
        (s.countBy (Reg.SLK_LINK_CNT_CODE_ERR n.val) x.codeErrs))) ∧
    (∀ (n : Fin 32) (x : BadFrame) (s : State),
      hbRuns s n.val = true →
      upAsleep s n.val = false →
      (s.link n.val).waiting = false →
      x.frame ≠ [] →
      upFault x.frame x.eop = 2 →
      exec (.upstreamBadPacket n x) s = .next (State.settle
        ((s.countBy (Reg.SLK_LINK_CNT_CODE_ERR n.val) x.codeErrs).count (Reg.SLK_LINK_CNT_TYPE_ERR n.val)))) ∧
    (∀ (n : Fin 32) (x : BadFrame) (s : State),
      ∀ (k : Nat) (t : State), hbRuns s n.val = true →
      upAsleep s n.val = false →
      (s.link n.val).waiting = false →
      x.frame ≠ [] →
      upFault x.frame x.eop = 1 →
      k = ((s.countBy (Reg.SLK_LINK_CNT_CODE_ERR n.val) x.codeErrs).link n.val).crcErr + 1 →
      (t = ((s.countBy (Reg.SLK_LINK_CNT_CODE_ERR n.val) x.codeErrs).count (Reg.SLK_LINK_CNT_CRC_RX n.val)).modLink n.val fun l => { l with crcErr := k }) →
      exec (.upstreamBadPacket n x) s = .next (State.settle
        (when (decide (t.fd Reg.SLK_RETRAIN_CRC 0 8 < k)) (autoTrigger n.val) t))) ∧
    (∀ (f : List Byte) (eop : Bool), (eop = false ∨ slkGood f = false → upFault f eop = 1) ∧
      (eop = true → slkGood f = true → upLength (leAt f 0 1 % 16) = none → upFault f eop = 2) ∧
      (∀ k, eop = true → slkGood f = true → upLength (leAt f 0 1 % 16) = some k → upFault f eop = if f.length = k + 6 then 0 else 1)) ∧
    (∀ (g : Fin 256) (s : State),
      segState s g.val = 3 →
      (s.seg g.val).holdLeft = 0 →
      exec (.holdExpired g) s = .next (State.settle
        (((segToDefault g.val (s.modSeg g.val fun x => { x with defReload := x.reload != 0 })).count (Reg.SLK_LINK_CNT_HOLD_EXP (g.val / 8))).event 0x0093 11 1 clsSegment g.val [])))

/-- VSTART opens a frame on its surface, or is a format error; LINE stores its pixels; VEND with all lines publishes the buffer with its SFN;
META is kept for IDs 0 to 7; a frame timeout drops the frame and a loss is signalled; enabling an admitted stream or port starts a series
and disabling stops it; Qq_CFG is written with the quad off and counted otherwise; TEST takes a lane that no group uses; DETECT, TRAIN, LOCK
and CAPS carry a lane to its group being up, a mismatch or a stage that times out fails the attempt; back-off, probe, RESTART and signal
start again; loss of signal or more than 16 code errors leaves ACTIVE; reference clocks follow; EIOS and FTS move the sleep bits. Where a
clause has s = rasterFirst z, s is the state after the raster boundaries due at the tick (R37). (Derived: R94, R96, R98, R99, R297, R300,
R302, R303, R304, R305, R306, R309.) -/
def Obligations.StreamAndLaneEventsTakeEffect : Prop :=
    (∀ (n : Fin 4) (sfn w h : BitVec 16) (f : Byte) (ts p : Word) (z s : State),
      s = rasterFirst z →
      ∀ (t : State) (x b : Nat), strTakes s n.val = true →
      t = strAbandon n.val s →
      x = strSurf t n.val →
      (!(surfValid t x) || surfW t x != w.toNat || surfH t x != h.toNat || surfFmt t x != f.toNat) = false →
      writeBuf (t.wb (Reg.SDS_STR_STATUS n.val) 3 false) x = some b →
      exec (.vstart n sfn w h f ts p) z = .next (State.settle
        ((takeBuf x b ((t.wb (Reg.SDS_STR_STATUS n.val) 3 false).wb (Reg.SDS_STR_STATUS n.val) 1 true)).modStr n.val fun y => { y with
          skip := false, sfn := sfn.toNat, width := w.toNat, height := h.toNat, fmt := f.toNat, ts := ts, period := p, buf := b, lines := [] }))) ∧
    (∀ (n : Fin 4) (sfn w h : BitVec 16) (f : Byte) (ts p : Word) (z s : State),
      s = rasterFirst z →
      ∀ (t : State) (x : Nat), strTakes s n.val = true →
      t = strAbandon n.val s →
      x = strSurf t n.val →
      (!(surfValid t x) || surfW t x != w.toNat || surfH t x != h.toNat || surfFmt t x != f.toNat) = true →
      exec (.vstart n sfn w h f ts p) z = .next (State.settle
        (((t.count (Reg.SDS_STR_CNT_FMT_ERR n.val)).wb (Reg.SDS_STR_STATUS n.val) 3 true).modStr n.val fun y => { y with skip := true }))) ∧
    (∀ (n : Fin 4) (sfn ln : BitVec 16) (f : Byte) (w : BitVec 16) (px : List Byte) (z s : State),
      s = rasterFirst z →
      strTakes s n.val = true →
      (s.str n.val).skip = false →
      strOpen s n.val = true →
      sfn.toNat = (s.str n.val).sfn →
      f.toNat = (s.str n.val).fmt →
      w.toNat = (s.str n.val).width →
      ln.toNat < (s.str n.val).height →
      px.length = w.toNat * fmtBytes f.toNat →
      exec (.line n sfn ln f w px true) z = .next (State.settle
        ((s.putBytes (pixAddr s (strSurf s n.val) (s.str n.val).buf 0 ln.toNat) px).modStr n.val fun x =>
          { x with lines := if x.lines.contains ln.toNat = true then x.lines else x.lines ++ [ln.toNat] }))) ∧
    (∀ (n : Fin 4) (sfn ln : BitVec 16) (ts : Word) (z s : State),
      s = rasterFirst z →
      ∀ t : State, strTakes s n.val = true →
      (s.str n.val).skip = false →
      strOpen s n.val = true →
      sfn.toNat = (s.str n.val).sfn →
      (s.str n.val).height ≤ (s.str n.val).lines.length →
      t = ((((s.wb (Reg.SDS_STR_STATUS n.val) 1 false).count (Reg.SDS_STR_CNT_FRAMES n.val)).wr (Reg.SDS_STR_LAST_SFN n.val) (BitVec.ofNat 32 sfn.toNat)).wr
          (Reg.SDS_STR_LAST_TS n.val) (s.str n.val).ts).wr (Reg.SDS_STR_LAST_PERIOD n.val) (s.str n.val).period →
      exec (.vend n sfn ln ts) z = .next (State.settle
        (strSignal n.val false (publishBuf (strSurf t n.val) (s.str n.val).buf sfn.toNat t)))) ∧
    (∀ (n : Fin 4) (id : BitVec 16) (d : List Byte) (s : State),
      strTakes s n.val = true →
      id.toNat < 8 →
      d.length ≤ 1024 →
      exec (.metaPacket n id d) s = .next (State.settle
        ((s.count (Reg.SDS_STR_CNT_META n.val)).modStr n.val fun x => { x with metas := sput (fun _ => []) x.metas id.toNat d }))) ∧
    (∀ (n : Fin 4) (s : State),
      strOpen s n.val = true →
      exec (.frameTimeout n) s = .next (State.settle
        ((strDrop n.val (Reg.SDS_STR_CNT_TIMEOUT n.val) s).modStr n.val fun x => { x with skip := true }))) ∧
    (∀ (n : Fin 4) (s : State),
      s.bit (Reg.SDS_STR_CTRL n.val) 0 = true →
      strTx s n.val = false →
      exec (.streamLossTimeout n) s = .next (State.settle
        (strSignal n.val true s))) ∧
    (∀ (n : Fin 4) (z s : State),
      s = rasterFirst z →
      s.bit (Reg.SDS_STR_CTRL n.val) 0 = false →
      streamAdmit s n.val = St.ok →
      exec (.streamEn n true) z = .next (State.settle
        (newSeries n.val (reserveShow n.val (strReserve s (s.rd (Reg.SDS_STR_CTRL n.val))) (s.wb (Reg.SDS_STR_CTRL n.val) 0 true))))) ∧
    (∀ (n : Fin 4) (z s : State),
      s = rasterFirst z →
      s.bit (Reg.SDS_STR_CTRL n.val) 0 = true →
      exec (.streamEn n false) z = .next (State.settle
        (reserveShow n.val 0 (((strAbandon n.val (grpOff n.val s)).wb (Reg.SDS_STR_CTRL n.val) 0 false).wf (Reg.SDS_STR_STATUS n.val) 0 5 0)))) ∧
    (∀ (n : Fin 4) (z s : State),
      s = rasterFirst z →
      s.bit (Reg.FAB_P_CTRL n.val) 0 = false →
      fabPortOk s n.val = true →
      exec (.fabPortEn n true) z = .next (State.settle
        (newSeries (4 + n.val) (s.wb (Reg.FAB_P_CTRL n.val) 0 true)))) ∧
    (∀ (n : Fin 4) (z s : State),
      s = rasterFirst z →
      s.bit (Reg.FAB_P_CTRL n.val) 0 = true →
      exec (.fabPortEn n false) z = .next (State.settle
        ((grpOff (4 + n.val) s).wb (Reg.FAB_P_CTRL n.val) 0 false))) ∧
    (∀ (q : Fin 6) (w : Word) (z s : State),
      s = rasterFirst z →
      quadOff s q.val = true →
      exec (.quadCfgWrite q w) z = .next (State.settle
        (macStart (quadShow q.val (s.swWrite (Reg.SDS_Q_CFG q.val) w))))) ∧
    (∀ (q : Fin 6) (w : Word) (z s : State),
      s = rasterFirst z →
      quadOff s q.val = false →
      exec (.quadCfgWrite q w) z = .next (State.settle
        (s.count Reg.SDS_CNT_CFG_REJ))) ∧
    (∀ (l : Fin 24) (w : Word) (z s : State),
      s = rasterFirst z →
      ∀ t u : State, w.getLsbD 0 = true →
      laneServes s l.val = false →
      t = s.swWrite (Reg.SDS_LANE_CTRL l.val) w →
      t.bit (Reg.SDS_LANE_CTRL l.val) 0 = true →
      (u = when (fld (s.rd (Reg.SDS_LANE_CTRL l.val)) 3 2 != (setStage 7 l.val t).fd (Reg.SDS_LANE_CTRL l.val) 3 2) (modLane l.val fun x => { x with gen := [] }) (setStage 7 l.val t)) →
      exec (.laneTestWrite l w) z = .next (State.settle
        (if fld (s.rd (Reg.SDS_LANE_CTRL l.val)) 5 2 != u.fd (Reg.SDS_LANE_CTRL l.val) 5 2 then
          modLane l.val (fun x => { x with chk := [], run := 0, errs := 0 }) (u.wb (Reg.SDS_LANE_STATE l.val) 18 false) else u))) ∧
    (∀ (l : Fin 24) (w : Word) (z s : State),
      s = rasterFirst z →
      ∀ t : State, w.getLsbD 0 = true →
      (s.rd (Reg.SDS_LANE_CTRL l.val)).getLsbD 0 = false →
      laneServes s l.val = true →
      laneStage s l.val ≠ 7 →
      t = (s.count Reg.SDS_CNT_CFG_REJ).swWrite (Reg.SDS_LANE_CTRL l.val) (setFld w 0 1 0) →
      t.bit (Reg.SDS_LANE_CTRL l.val) 0 = false →
      laneStage t l.val ≠ 7 →
      exec (.laneTestWrite l w) z = .next (State.settle
        (modLane l.val (fun x => { x with chk := [], run := 0, errs := 0 }) ((modLane l.val (fun x => { x with gen := [] }) t).wb (Reg.SDS_LANE_STATE l.val) 18 false)))) ∧
    (∀ (l : Fin 24) (z s : State),
      s = rasterFirst z →
      ∀ g : Nat, grpOf s l.val = some g →
      exec (.laneRestart l) z = .next (State.settle
        (newSeries g (when (grpActive s g) (grpLost g) s)))) ∧
    (∀ (l : Fin 24) (a b : Bool) (s : State),
      ∀ (g : Nat) (t : State), grpOf s l.val = some g →
      laneStage s l.val = 1 →
      (group s g).waiting = false →
      t = sendTs g l.val false ((s.wb (Reg.SDS_LANE_STATE l.val) 15 b).emit (.laneTest l.val)) →
      laneStage t l.val = 1 →
      exec (.detectTest l a b) s = .next (State.settle
        (if a && b then setStage 2 l.val t else t))) ∧
    (∀ (l : Fin 24) (s : State),
      ∀ (g : Nat) (t : State), grpOf s l.val = some g →
      laneStage s l.val = 6 →
      (group s g).probing = true →
      t = sendTs g l.val false ((s.wb (Reg.SDS_LANE_STATE l.val) 15 true).emit (.laneTest l.val)) →
      laneStage t l.val = 6 →
      exec (.detectTest l true true) s = .next (State.settle
        (newSeries g t))) ∧
    (∀ (l : Fin 24) (k r q : Nat) (s : State),
      ∀ g : Nat, grpOf s l.val = some g →
      laneStage s l.val = 2 →
      8 ≤ k →
      8 ≤ r →
      16 ≤ q →
      exec (.trainingSetsReceived l true k r q) s = .next (State.settle
        ((sendTs g l.val true (setStage 3 l.val (sendTs g l.val true s))).emit (.laneSet l.val idleSet 1)))) ∧
    (∀ (l : Fin 24) (a : Bool) (k r q : Nat) (s : State),
      ∀ g : Nat, grpOf s l.val = some g →
      laneStage s l.val = 2 →
      r < 8 ∨ q < 16 ∨ a = false ∨ k < 8 →
      exec (.trainingSetsReceived l a k r q) s = .next (State.settle
        (sendTs g l.val (a && decide (8 ≤ k)) s))) ∧
    (∀ (l : Fin 24) (c : Nat) (s : State),
      ∀ g : Nat, grpOf s l.val = some g →
      laneStage s l.val = 3 →
      4 ≤ c →
      exec (.laneLock l true c) s = .next (State.settle
        (sendCaps g l.val (setStage 4 l.val ((s.wb (Reg.SDS_LANE_STATE l.val) 16 true).wb (Reg.SDS_LANE_STATE l.val) 17 true))))) ∧
    (∀ (l : Fin 24) (c : CapsPkt) (s : State),
      ∀ (g : Nat) (t : State), grpOf s l.val = some g →
      laneStage s l.val = 4 →
      capsBad s g l.val c = false →
      (t = modLane l.val (fun x => { x with seen := true, done := x.done || c.flags.getLsbD 0 }) (capsShow l.val c s)) →
      (((grpLanes t g).all fun k => laneStage t k == 4 && (laneSt t k).done) = true) →
      exec (.caps l c) s = .next (State.settle
        (grpUp g t))) ∧
    (∀ (l : Fin 24) (c : CapsPkt) (s : State),
      ∀ (g : Nat) (t : State), grpOf s l.val = some g →
      laneStage s l.val = 4 →
      capsBad s g l.val c = true →
      (t = modLane l.val (fun x => { x with seen := true, done := x.done || c.flags.getLsbD 0 }) (capsShow l.val c s)) →
      exec (.caps l c) s = .next (State.settle
        (attemptFail g capsMismatch t))) ∧
    (∀ (l : Fin 24) (s : State),
      ∀ g : Nat, grpOf s l.val = some g →
      (group s g).probing = false →
      attempting s g = true →
      1 ≤ laneStage s l.val →
      laneStage s l.val ≤ 4 →
      (laneSt s l.val).done = false →
      exec (.laneStageTimeout l) s = .next (State.settle
        (attemptFail g (stageReason s l.val) s))) ∧
    (∀ (g : Fin 8) (s : State),
      grpEn s g.val = true →
      (group s g.val).waiting = true →
      (group s g.val).held = false →
      exec (.laneBackoffExpiry g) s = .next (State.settle
        (startAttempt g.val (s.advanceTo (ns16 (group s g.val).until_))))) ∧
    (∀ (g : Fin 8) (s : State),
      grpEn s g.val = true →
      grpDown s g.val = true →
      grpClock s g.val = true →
      exec (.laneProbe g) s = .next (State.settle
        (forEach (grpLanes s g.val) (fun l t => sendTs g.val l false (t.emit (.laneTest l))) (modGroup g.val (fun x => { x with probing := true }) s)))) ∧
    (∀ (l : Fin 24) (s : State),
      ∀ (g : Nat) (t u : State), t = s.wb (Reg.SDS_LANE_STATE l.val) 15 true →
      (u = if (laneSt t l.val).eiosOut then modLane l.val (fun x => { x with eiosOut := false, ftsOut := true }) (ftsBurst l.val t) else t) →
      grpOf u l.val = some g →
      grpDown u g = true →
      exec (.laneSignalDetect l) s = .next (State.settle
        (newSeries g u))) ∧
    (∀ (l : Fin 24) (s : State),
      ∀ (g : Nat) (t u : State), t = s.wb (Reg.SDS_LANE_STATE l.val) 15 true →
      (u = if (laneSt t l.val).eiosOut then modLane l.val (fun x => { x with eiosOut := false, ftsOut := true }) (ftsBurst l.val t) else t) →
      grpOf u l.val = some g →
      grpDown u g = false →
      exec (.laneSignalDetect l) s = .next (State.settle
        (u))) ∧
    (∀ (l : Fin 24) (s : State),
      ∀ (g : Nat) (t : State), fld (s.rd (Reg.SDS_LANE_STATE l.val)) 13 2 = 0 →
      (t = modLane l.val (fun x => { x with eiosOut := false }) (s.wf (Reg.SDS_LANE_STATE l.val) 15 3 0)) →
      grpOf t l.val = some g →
      grpActive t g = true →
      exec (.laneSignalLoss l false) s = .next (State.settle
        (leaveActive g (t.count (Reg.SDS_LANE_CNT_LOS l.val))))) ∧
    (∀ (l : Fin 24) (k : Nat) (s : State),
      ∀ g : Nat, grpOf s l.val = some g →
      grpActive s g = true →
      16 < k →
      exec (.laneCodeErrors l k) s = .next (State.settle
        (leaveActive g (s.countBy (Reg.SDS_LANE_CNT_CODE_ERR l.val) k)))) ∧
    (∀ (l : Fin 24) (k : Nat) (s : State),
      ∀ g : Nat, grpOf s l.val = some g →
      grpActive s g = true →
      k ≤ 16 →
      exec (.laneCodeErrors l k) s = .next (State.settle
        (s.countBy (Reg.SDS_LANE_CNT_CODE_ERR l.val) k))) ∧
    (∀ (k : Fin 2) (s : State),
      ∀ t : State, t = forEach (refQuads s k.val) quadShow (s.wb Reg.SDS_REFCLK_STATUS k.val false) →
      exec (.refclkFail k) s = .next (State.settle
        (forEach (refGroups t k.val) (fun g u =>
          if grpActive u g = true then leaveActive g (forEach (grpLanes u g) (fun l v => setReason refclkReason l v) u)
          else if attempting u g = true then attemptFail g refclkReason u else u) t |> macClock k.val))) ∧
    (∀ (k : Fin 2) (b : Bool) (s : State),
      ∀ t u : State, t = (s.wb Reg.SDS_REFCLK_STATUS k.val true).wb Reg.SDS_REFCLK_STATUS (2 + k.val) b →
      u = forEach (refQuads t k.val) quadShow t →
      exec (.refclkPresent k b) s = .next (State.settle
        (forEach (refGroups u k.val) (fun g v => if (group v g).held = true then startAttempt g v else v) u))) ∧
    (∀ (l : Fin 24) (s : State),
      streamLane s l.val = true →
      (laneSt s l.val).eiosOut = true →
      exec (.eios l) s = .next (State.settle
        (eidleIn l.val (modLane l.val (fun x => { x with eiosOut := false }) s)))) ∧
    (∀ (l : Fin 24) (s : State),
      (laneSt s l.val).eiosOut = false →
      eidleFallback s l.val = true →
      eidleAsked s l.val = true ∨ s.bit (Reg.SDS_LANE_PARTNER_X l.val) 8 = false →
      exec (.eios l) s = .next (State.settle
        (eidleIn l.val (s.emit (.laneSet l.val eiosSet 1))))) ∧
    (∀ (l : Fin 24) (s : State),
      streamLane s l.val = true →
      (laneSt s l.val).eiosOut = false →
      eidleFallback s l.val = false →
      s.bit (Reg.SDS_LANE_PARTNER_X l.val) 8 = true →
      exec (.eios l) s = .next (State.settle
        (s.wb (Reg.SDS_LANE_STATE l.val) 13 true))) ∧
    (∀ (l : Fin 24) (s : State),
      (fld (s.rd (Reg.SDS_LANE_STATE l.val)) 13 2 == 0) = false →
      exec (.fts l true) s = .next (State.settle
        (modLane l.val (fun x => { x with ftsOut := false }) (((when (s.bit (Reg.SDS_LANE_STATE l.val) 14 && !(laneSt s l.val).ftsOut) (ftsBurst l.val) s).wf (Reg.SDS_LANE_STATE l.val) 13 2 0).wb (Reg.SDS_LANE_STATE l.val) 15 true)))) ∧
    (∀ (l : Fin 24) (s : State),
      (laneSt s l.val).eiosOut = false →
      exec (.eiosAnswerTimeout l) s = .next (State.settle
        (s))) ∧
    (∀ (l : Fin 24) (s : State),
      (laneSt s l.val).eiosOut = true →
      s.pwr.step ≠ 4 →
      exec (.eiosAnswerTimeout l) s = .next (State.settle
        ((modLane l.val (fun x => { x with eiosOut := false }) s).count (Reg.SDS_LANE_CNT_FTS_FAIL l.val))))

/-- With the renderer LIVE the list timeout enters TIMEOUT at its instant; a lamp whose candidate class is due takes it, is counted and reported
with LAMP_CLASS; a segment that has missed HLT.RPT_LIMIT reports shows report loss and is judged again; a capture of 64 lit frames fills
what it could not take with 0xFFFF and completes its command; a correction copy marks its segment and goes on to the next, or to what waits
when it was the last; START of an enabled scan channel begins its scan, sets CFG_ERR where the range does not pass, and is only counted
while the channel is busy. s is the state after the raster boundaries due at the tick where a host access is the command (R37). (Derived:
R148, R192, R200, R197, R185, R355, R354.) -/
def Obligations.HealthAndCorrectionEventsTakeEffect : Prop :=
    (∀ (s : State),
      beamState s = 2 →
      exec (.listTimeout) s = .next (State.settle
        (setBeamState 3 (s.advanceTo (ns16 ((s.beam.lastTick + listTimeoutNs s : Nat))))))) ∧
    (∀ (l : Fin 1048576) (s : State),
      ∀ t : State, lampDue s l.val = true →
      t = (setClass l.val (s.lamp l.val).cand (s.setLamp l.val { s.lamp l.val with run := 0 })).count Reg.HLT_CNT_CLASS_CHG →
      exec (.lampClass l) s = .next (State.settle
        (t.event 0x0060 7 0 clsSegment (l.val / 4096) (det 4 l.val ++ [mapClass s l.val, (s.lamp l.val).cand, 0, 0] ++ det 4 (t.ras.frame - 2).toNat)))) ∧
    (∀ (g : Fin 256) (s : State),
      0 < (s.seg g.val).noRpt →
      s.fd Reg.HLT_RPT_LIMIT 0 4 ≤ (s.seg g.val).noRpt →
      Machine.reportLoss s g.val = false →
      exec (.reportLoss g) s = .next (State.settle
        (faultEval g.val (s.wb (Reg.HLT_RPT_LOSS (g.val / 32)) (g.val % 32) true)))) ∧
    (∀ (s : State),
      ∀ (k : VfCap) (t : State), s.hlt.cap = some k →
      64 ≤ k.n →
      (t = forEach (((List.range ((k.hi - k.lo + 1) * 4096)).map (k.lo * 4096 + ·)).filter fun p => !(sget (fun _ => false) s.hlt.capDone p)) (fun p t => t.putLe (vfBase t + 2 * p) 2 0xFFFF) s) →
      exec (.vfCaptureDone) s = .next (State.settle
        (completeOps k.ctx.code (fun o => o.ctx == k.ctx) St.ok [] (vfSuspShow ({ t with hlt := { t.hlt with cap := none, capDone := [] } }.wb Reg.HLT_STATUS 0 false))))) ∧
    (∀ (s : State),
      ∀ (a : Apply) (r : List Apply) (t : State), s.corr.copying = a :: r →
      a.lo < a.hi →
      (t = (copySeg a a.lo s).modSeg a.lo fun x => { x with reload := 2 }) →
      exec (.corrCopyDone) s = .next (State.settle
        (reloadShow { t with corr := { t.corr with copying := { a with lo := a.lo + 1 } :: r } }))) ∧
    (∀ (s : State),
      ∀ (a : Apply) (r : List Apply) (t : State), s.corr.copying = a :: r →
      a.hi ≤ a.lo →
      (t = (copySeg a a.lo s).modSeg a.lo fun x => { x with reload := 2 }) →
      exec (.corrCopyDone) s = .next (State.settle
        (reloadShow (reloadBegin { t with corr := { t.corr with copying := r } })))) ∧
    (∀ (c : Fin 8) (z s : State),
      s = rasterFirst z →
      chEn s c.val = true →
      chMode s c.val = 0 →
      chBusy s c.val = false →
      scanOk s c.val = true →
      exec (.crcChcStart c) z = .next (State.settle
        (scanBegin .client c.val s))) ∧
    (∀ (c : Fin 8) (z s : State),
      s = rasterFirst z →
      chEn s c.val = true →
      chMode s c.val = 0 →
      chBusy s c.val = false →
      scanOk s c.val = false →
      exec (.crcChcStart c) z = .next (State.settle
        (s.wb (Reg.CRC_CH_STATUS c.val) 3 true))) ∧
    (∀ (c : Fin 8) (z s : State),
      s = rasterFirst z →
      chEn s c.val = true →
      chMode s c.val = 0 →
      chBusy s c.val = true →
      exec (.crcChcStart c) z = .next (State.settle
        (s.count (Reg.CRC_CH_CNT_START_BUSY c.val))))

/-- Over-voltage stops the stage, sets OV, latches at a second within a second and else waits for its restart, is counted, raises the event
SUPPLY and the fallback of cause 4; undervoltage of a running stage outside soft start sets UV, is counted and reported, and with the raster
off ends one frame period later; a phase in use that is out of balance or whose sense is open is taken off, counted and reported; 10 ms
after an over-voltage that did not latch the stage starts softly; soft start ends; SUP.CTRL.EN starts and stops the stage; SUP.PHASE_EN
takes its word and puts faulty phases back; RESTART clears the latch and starts a stage that does not run. s is the state after the raster
boundaries due at the tick where a host access is the command (R37). (Derived: R224, R206, 09_light_supply.md.) -/
def Obligations.SupplyEventsTakeEffect : Prop :=
    (∀ (s : State),
      ∀ (again : Bool) (t u : State), (again = s.sup.ovLast.any fun t => decide (s.tickNs - t ≤ 1000000000)) →
      t = { s with sup := { s.sup with ovWait := !again, ovLast := some s.tickNs } } →
      u = supStop ((t.wb Reg.SUP_STATUS 3 true).wb Reg.SUP_STATUS 5 (again || t.bit Reg.SUP_STATUS 5)) →
      exec (.vledOvervoltage) s = .next (State.settle
        (fbRaise 4 0 (supSlot u) (supplyEvent 1 0 (u.count Reg.SUP_CNT_OV))))) ∧
    (∀ (s : State),
      supRunning s = true →
      s.bit Reg.SUP_STATUS 1 = false →
      exec (.vledUndervoltage) s = .next (State.settle
        (supplyEvent 2 0 (({ s with sup := { s.sup with uvTrip := true, uvLast := s.tickNs } }.wb Reg.SUP_STATUS 4 true).count Reg.SUP_CNT_UV)))) ∧
    (∀ (s : State),
      s.bit Reg.SUP_STATUS 4 = true →
      rasOn s = false →
      exec (.vledUndervoltageEnd) s = .next (State.settle
        ((s.advanceTo (ns16 s.sup.uvLast + (period16 s : Int))).wb Reg.SUP_STATUS 4 false))) ∧
    (∀ (p : Fin 6) (s : State),
      supRunning s = true →
      p.val ∈ supPhases s →
      exec (.phaseImbalance p) s = .next (State.settle
        (supplyEvent 3 p.val (supShow (({ s with sup := { s.sup with off := s.sup.off + 2 ^ p.val } }).count Reg.SUP_CNT_PHASE_OFF))))) ∧
    (∀ (p : Fin 6) (s : State),
      supRunning s = true →
      p.val ∈ supPhases s →
      exec (.currentSenseOpen p) s = .next (State.settle
        (supplyEvent 4 p.val (supShow (({ s with sup := { s.sup with off := s.sup.off + 2 ^ p.val } }).count Reg.SUP_CNT_PHASE_OFF))))) ∧
    (∀ (s : State),
      ∀ t : State, s.sup.ovWait = true →
      s.bit Reg.SUP_STATUS 5 = false →
      t = s.advanceTo (ns16 (s.sup.ovLast.getD 0 + 10000000 : Nat)) →
      exec (.ovRestart) s = .next (State.settle
        (softStart ({ t with sup := { t.sup with ovWait := false } }.wb Reg.SUP_STATUS 3 false)))) ∧
    (∀ (s : State),
      exec (.softstartDone) s = .next (State.settle
        (s.wb Reg.SUP_STATUS 1 false))) ∧
    (∀ (z s : State),
      s = rasterFirst z →
      s.bit Reg.SUP_CTRL 0 = false →
      exec (.supCtrlEn true) z = .next (State.settle
        (softStart (s.wb Reg.SUP_CTRL 0 true)))) ∧
    (∀ (z s : State),
      s = rasterFirst z →
      s.bit Reg.SUP_CTRL 0 = true →
      exec (.supCtrlEn false) z = .next (State.settle
        (supStop (s.wb Reg.SUP_CTRL 0 false)))) ∧
    (∀ (w : Word) (z s : State),
      s = rasterFirst z →
      ∀ t : State, t = s.swWrite Reg.SUP_PHASE_EN w →
      exec (.supPhaseEn w) z = .next (State.settle
        (supShow { t with sup := { t.sup with off := 0 } }))) ∧
    (∀ (z s : State),
      s = rasterFirst z →
      ∀ t u : State, t = s.wb Reg.SUP_STATUS 5 false →
      u = { t with sup := { t.sup with ovWait := false } } →
      supRunning u = false →
      exec (.supRestartReg) z = .next (State.settle
        (softStart (u.wb Reg.SUP_STATUS 3 false))))

/-- A corrected error of the snowpack is reported and counted, an uncorrectable one puts its part into restoration; a restoration takes the good
mirror copy, counting bad ones, or empties the part when there is none, with its event; a mirror that is done is written and completes its
command; an MRAM record commits: lamp health, one step of saving a segment (scratch copy first, then home, until the last segment completes
the command), calibration, or the event log; ALIVE_OUT toggles at the next half millisecond; an SRAM error raises ECC_ERROR and the fallback
of cause 5, a DRAM error ECC_ERROR and what follows for the table or surface hit. (Derived: R242, R243, R186, R203, R433,
10_polders_snowpack.md.) -/
def Obligations.SnowpackAndMemoryEventsTakeEffect : Prop :=
    (∀ (a : Fin 32768) (s : State),
      exec (.snowEccError a false) s = .next (State.settle
        ((s.event 0x0013 1 2 clsDevice 0 ([3, 1, 0, 0] ++ det 4 a.val)).count Reg.SNOW_CNT_ECC_1))) ∧
    (∀ (a : Fin 32768) (s : State),
      ∀ (p : Nat) (t : State), t = (s.event 0x0013 1 2 clsDevice 0 ([3, 2, 0, 0] ++ det 4 a.val)).count Reg.SNOW_CNT_ECC_2 →
      snowPart t a.val = some p →
      restoring t p = false →
      exec (.snowEccError a true) s = .next (State.settle
        (snowShow { t with snow := { t.snow with restoring := t.snow.restoring ++ [p] } }))) ∧
    (∀ (p : Fin 6) (b0 b1 : Bool) (s : State),
      ∀ (c : Nat) (t u : State), restoring s p.val = true →
      goodCopy s p.val b0 b1 = some c →
      t = s.countBy Reg.SNOW_CNT_MIRROR_FAIL ((if copyBad s p.val b0 b1 0 then 1 else 0) + if copyBad s p.val b0 b1 1 then 1 else 0) →
      u = when (decide (p.val < 4)) (writeLost p.val) { t with snow := { t.snow with restoring := t.snow.restoring.filter (· != p.val) } } →
      exec (.snowRestore p b0 b1) s = .next (State.settle
        (holdPolShow (snowShow (((restoreFrom p.val c (setNewer p.val c u)).count Reg.SNOW_CNT_RESTORE).event 0x0083 10 1
          (if p.val < 4 then 10 else clsDevice) (if p.val < 4 then p.val else 0) [p.val, 1]))))) ∧
    (∀ (p : Fin 6) (b0 b1 : Bool) (s : State),
      ∀ t u : State, restoring s p.val = true →
      goodCopy s p.val b0 b1 = none →
      t = s.countBy Reg.SNOW_CNT_MIRROR_FAIL ((if copyBad s p.val b0 b1 0 then 1 else 0) + if copyBad s p.val b0 b1 1 then 1 else 0) →
      u = when (decide (p.val < 4)) (writeLost p.val) { t with snow := { t.snow with restoring := t.snow.restoring.filter (· != p.val) } } →
      exec (.snowRestore p b0 b1) s = .next (State.settle
        (holdPolShow (snowShow ((emptyPart p.val u).event 0x0083 10 1
          (if p.val < 4 then 10 else clsDevice) (if p.val < 4 then p.val else 0) [p.val, 2]))))) ∧
    (∀ (s : State),
      ∀ (o : SnowOp) (c : Ctx) (t u : State), s.snow.op = some o →
      o.applied = true →
      o.ctx = some c →
      t = (if o.code == 0x0A07 then mirrorPart 5 (snowBase + 0x100) 256 s else mirrorPart 4 snowBase 256 s) →
      u = when (o.code == 0x0A01) (mirrorPart o.slot (snowBase + 0x200 + 4 * o.offset) (4 * o.runs)) t →
      exec (.mirrorDone) s = .next (State.settle
        (completeOps c.code (fun x => x.ctx == c) St.ok (if 0x0A07 ≤ o.code then [] else leBytes 4 o.frame) (snowShow (setOp none (u.wb Reg.SNOW_STATUS 11 false)))))) ∧
    (∀ (s : State),
      ∀ (o : Op) (t u : State), s.pwr.stopDone = false →
      s.pwr.inReset = false →
      s.mbx.ops.find? (·.ctx.code == 0x0704) = some o →
      (t = when ((o.d.headD 0).testBit 0) (fun x => (x.putBytes savedVf (s.bytes (vfBase s) vfBytes)).putLe savedVfCrc 4 (crc32c (s.bytes (vfBase s) vfBytes))) s) →
      (u = when ((o.d.headD 0).testBit 1) (fun x => (x.putBytes savedMap ((List.range mapBytes).map (mapByte t))).putLe savedMapCrc 4 (crc32c ((List.range mapBytes).map (mapByte t)))) t) →
      exec (.mramRecordCommit 0) s = .next (State.settle
        (completeOp o St.ok [] u))) ∧
    (∀ (s : State),
      ∀ o : Op, s.pwr.stopDone = false →
      s.pwr.inReset = false →
      s.mbx.ops.find? (·.ctx.code == 0x0E03) = some o →
      exec (.mramRecordCommit 2) s = .next (State.settle
        (completeOp o St.ok [] { s with hk := { s.hk with saved := some (calRegs.map fun a => (a, s.rd a)) } }))) ∧
    (∀ (s : State),
      s.pwr.stopDone = false →
      s.pwr.inReset = false →
      exec (.mramRecordCommit 3) s = .next (State.settle
        ({ s with mbx := { s.mbx with logSaved := s.mbx.log } }))) ∧
    (∀ (s : State),
      ∀ (g hi : Nat) (c : Ctx) (t : State), s.pwr.stopDone = false →
      s.pwr.inReset = false →
      s.corr.saving = some (g, false, hi, c) →
      t = saveTable 1 g (scratchAt 1) (scratchCrcAt 1) (saveTable 0 g (scratchAt 0) (scratchCrcAt 0) s) →
      exec (.mramRecordCommit 1) s = .next (State.settle
        ({ t.putLe scratchSegAt 4 (g + 1) with corr := { t.corr with saving := some (g, true, hi, c) } }))) ∧
    (∀ (s : State),
      ∀ (g hi : Nat) (c : Ctx) (t : State), s.pwr.stopDone = false →
      s.pwr.inReset = false →
      s.corr.saving = some (g, true, hi, c) →
      t = saveTable 1 g (homeAt 1 g) (homeCrcAt 1 g) (saveTable 0 g (homeAt 0 g) (homeCrcAt 0 g) s) →
      exec (.mramRecordCommit 1) s = .next (State.settle
        (if g < hi then { t with corr := { t.corr with saving := some (g + 1, false, hi, c) } }
        else completeOps c.code (fun o => o.ctx == c) St.ok [] ({ t with corr := { t.corr with saving := none } }.wb Reg.CORR_STATUS 1 false)))) ∧
    (∀ (s : State),
      ∀ t : State, aliveRuns s = true →
      t = s.advanceTo (ns16 ((s.tickNs / 500000 + 1) * 500000 : Nat)) →
      exec (.aliveOutToggle) s = .next (State.settle
        ({ t with pins := { t.pins with aliveOut := !t.pins.aliveOut } }))) ∧
    (∀ (a : Word) (s : State),
      ∀ t : State, t = s.event 0x0013 1 2 clsDevice 0 ([0, 2, 0, 0] ++ det 4 a.toNat) →
      exec (.sramEccError a) s = .next (State.settle
        (fbRaise 5 0 (defaultSlot t) t))) ∧
    (∀ (a : Nat) (s : State),
      ∀ t : State, t = s.event 0x0013 1 2 clsDevice 0 ([1, 2, 0, 0] ++ det 4 a) →
      exec (.dramEccError a none) s = .next (State.settle
        (dramFail (tableAt t a) none t)))

/-- What the three statements HealthAndCorrectionEventsTakeEffect, SupplyEventsTakeEffect and SnowpackAndMemoryEventsTakeEffect say of the
commands of these blocks holds together. (Derived: R148, R192, R200, R203, R185, R355, R224, R206, R249, R242, R243.) -/
def Obligations.HealthSupplySnowAndMemoryEventsTakeEffect : Prop :=
    Obligations.HealthAndCorrectionEventsTakeEffect ∧ Obligations.SupplyEventsTakeEffect ∧
    Obligations.SnowpackAndMemoryEventsTakeEffect

/-- On an active port, a packet of the VC of its type is counted and acts when it is for this device: PIXEL_STRIP goes to its subscriptions,
CONTROL to mailbox MB5 or its sender, TIME to PTP; HELLO updates neighbour and claim; claims lapse; the root is elected, assigns with up to
3 resends and a failure event, takes acknowledgements, stages, commits and switches route banks and answers a refused commit with the image
again; LINK_EVENT reaches the root; FLOW moves the credits and sends what they allow; a waiting packet is counted as delayed; bad packets
are counted and return their credits; deskew errors and losses end what they end. Where a clause has s = rasterFirst z, s is the state after
the raster boundaries due at the tick (R37). (Derived: R255, R256, R257, R258, R260, R261, R265, R266, R267, R268, R272, R253.) -/
def Obligations.FabricPacketAndEventCommandsTakeEffect : Prop :=
    (∀ (z s : State),
      s = rasterFirst z →
      s.bit Reg.FAB_CTRL 0 = false →
      exec (.fabCtrlEn true) z = .next (State.settle
        (fabDiscover (s.wb Reg.FAB_CTRL 0 true)))) ∧
    (∀ (z s : State),
      s = rasterFirst z →
      s.bit Reg.FAB_CTRL 0 = true →
      exec (.fabCtrlEn false) z = .next (State.settle
        ((((setFabState 0 (fabLeave (s.wb Reg.FAB_CTRL 0 false))).wr Reg.FAB_ROOT_UID_LO 0).wr Reg.FAB_ROOT_UID_HI 0).wf Reg.FAB_STATUS 16 6 0))) ∧
    (∀ (p : Fin 4) (h : FabHdr) (d : List Byte) (z s : State),
      s = rasterFirst z →
      ∀ (k : FabPkt) (t : State), k = rxPkt p.val 1 h d →
      fabActive s p.val = true →
      k.vc = 3 →
      k.payload.length ≤ 4096 →
      t = s.count (Reg.FAB_P_VC_CNT_RX p.val k.vc) →
      exec (.pixelStrip p h d) z = .next (State.settle
        ((if k.flags.testBit 0 = true then forEach (subsOf s h) (fun n v => stripTake n h d v) (fabForward (some p.val) k t)
        else if k.dest = 0xFFF then (if offTree t p.val = true then fabDropAt p.val k t else forEach (subsOf s h) (fun n v => stripTake n h d v) (fabForward (some p.val) k t))
        else if k.dest ≠ t.ownFid then fabForward (some p.val) k t
        else forEach (subsOf s h) (fun n v => stripTake n h d v) (if (subsOf s h).isEmpty = true then (fabFree k t).count Reg.FAB_CNT_NOSUB else fabFree k t))))) ∧
    (∀ (p : Fin 4) (h : FabHdr) (d : List Byte) (z s : State),
      s = rasterFirst z →
      ∀ (k : FabPkt) (t : State), k = rxPkt p.val 2 h d →
      fabActive s p.val = true →
      k.vc = 1 ∨ k.vc = 2 →
      k.payload.length ≤ 4096 →
      t = s.count (Reg.FAB_P_VC_CNT_RX p.val k.vc) →
      exec (.control p h d) z = .next (State.settle
        (fabRoute p.val k none (fun s => controlIn (if k.dest = 0xFFF then { k with inPort := none } else k) s) t))) ∧
    (∀ (p : Fin 4) (h : FabHdr) (d : List Byte) (z s : State),
      s = rasterFirst z →
      ∀ (k : FabPkt) (t u : State), k = rxPkt p.val 2 h d →
      fabActive s p.val = true →
      k.vc = 1 ∨ k.vc = 2 →
      k.payload.length ≤ 4096 →
      t = s.count (Reg.FAB_P_VC_CNT_RX p.val k.vc) →
      k.flags.testBit 0 = false →
      k.dest ≠ 0xFFF →
      k.dest = t.ownFid →
      u = seqCheck k t →
      exec (.control p h d) z = .next (State.settle
        (if (d.getD 2 0).getLsbD 0 = true then forwarded k.src d (fabFree k u) else mbArrive ⟨5, k.src, d, some (p.val, k.vc, fabCost d.length)⟩ u))) ∧
    (∀ (p : Fin 4) (h : FabHdr) (ps : Nat) (d : List Byte) (s : State),
      ∀ (k : FabPkt) (t : State), k = rxPkt p.val 3 h d →
      fabActive s p.val = true →
      k.vc = 0 →
      k.payload.length ≤ 4096 →
      t = s.count (Reg.FAB_P_VC_CNT_RX p.val k.vc) →
      exec (.time p h ps d) s = .next (State.settle
        (ptpReceive p.val ps d (fabFree k t)))) ∧
    (∀ (p : Fin 4) (f : HelloPkt) (s : State),
      ∀ (b : Hello) (k : FabPkt) (t u v : State), b = f.body →
      k = rxPkt p.val 4 f.hdr (helloBody b.uid.toNat b.rootUid.toNat b.dist.toNat 0 b.fid.toNat b.port.val) →
      fabActive s p.val = true →
      k.vc = 1 →
      k.payload.length ≤ 4096 →
      t = seqCheck k (fabFree k (s.count (Reg.FAB_P_VC_CNT_RX p.val k.vc))) →
      (s.count (Reg.FAB_P_VC_CNT_RX p.val k.vc)).bit Reg.FAB_CTRL 0 = true →
      u = (t.wr (Reg.FAB_P_NEIGH_LO p.val) (BitVec.ofNat 32 b.uid.toNat)).wr (Reg.FAB_P_NEIGH_HI p.val) (BitVec.ofNat 32 (b.uid.toNat / 2 ^ 32)) →
      (v = updateClaim (modFabPort p.val (fun x => { x with adv := if (b.dist == 0xFF) = true then none else some (b.rootUid.toNat, b.dist.toNat), advId := b.fid.toNat })
          ((u.wf (Reg.FAB_P_STATUS p.val) 4 12 (if b.assigned = true then b.fid.toNat else 0)).wf (Reg.FAB_P_STATUS p.val) 16 2 b.port.val))) →
      isRoot v = false →
      exec (.hello p f) s = .next (State.settle
        (v))) ∧
    (∀ (p : Fin 4) (f : HelloPkt) (s : State),
      ∀ (k : FabPkt) (t : State), k = rxPkt p.val 4 f.hdr (helloBody f.body.uid.toNat f.body.rootUid.toNat f.body.dist.toNat 0 f.body.fid.toNat f.body.port.val) →
      fabActive s p.val = true →
      k.vc = 1 →
      k.payload.length ≤ 4096 →
      t = seqCheck k (fabFree k (s.count (Reg.FAB_P_VC_CNT_RX p.val k.vc))) →
      exec (.hello p f) s = .next (State.settle
        (if (s.count (Reg.FAB_P_VC_CNT_RX p.val k.vc)).bit Reg.FAB_CTRL 0 = true then helloIn p.val f.body t else t))) ∧
    (∀ (s : State),
      s.bit Reg.FAB_CTRL 0 = true →
      exec (.helloSend) s = .next (State.settle
        (forEach ((List.range 4).filter (fabActive s)) Machine.helloSend s))) ∧
    (∀ (s : State),
      s.bit Reg.FAB_CTRL 0 = false →
      exec (.helloSend) s = .next (State.settle
        (s))) ∧
    (∀ (p : Fin 4) (s : State),
      ∀ t : State, (fabPort s p.val).adv.isSome = true →
      (t = modFabPort p.val (fun f => { f with adv := none }) s) →
      exec (.claimLapse p) s = .next (State.settle
        (if (t.bit Reg.FAB_CTRL 0 && (fabState t == 1 || fabState t == 2)) = true then fabDiscover t else updateClaim t))) ∧
    (∀ (p : Fin 4) (s : State),
      (fabPort s p.val).adv = none →
      exec (.claimLapse p) s = .next (State.settle
        (s))) ∧
    (∀ (s : State),
      ∀ (f : Nat) (t : State), s.bit Reg.FAB_CTRL 0 = true →
      s.fab.claim = 1 →
      fabState s = 1 →
      f = (if (prefId s == 0) = true then 1 else prefId s) →
      t = setFabState 2 ((setFid f s).wb Reg.FAB_STATUS 3 true) →
      exec (.rootElected) s = .next (State.settle
        (let u : State := { t with fab := { t.fab with pref := f, rootFid := f } }
        rootNext { u with fab := { u.fab with topo := [ownTopo u], leftOut := [], asg := none } }))) ∧
    (∀ (s : State),
      s.bit Reg.FAB_CTRL 0 = true →
      fabState s = 1 →
      s.fab.claim = 0 →
      exec (.noRoot) s = .next (State.settle
        (setFabState 5 s))) ∧
    (∀ (p : Fin 4) (h : FabHdr) (d : DiscPath) (uid : BitVec 64) (fid : BitVec 12) (q : Fin 4) (s : State),
      ∀ (k : FabPkt) (t : State), k = rxPkt p.val 4 h (discPrefix 2 (pathList d) ++ leBytes 8 uid.toNat ++ leBytes 2 fid.toNat ++ leBytes 1 q.val) →
      fabActive s p.val = true →
      k.vc = 1 →
      k.payload.length ≤ 4096 →
      t = s.count (Reg.FAB_P_VC_CNT_RX p.val k.vc) →
      exec (.assign p h d uid fid q) s = .next (State.settle
        (fabRoute p.val k (some d) (fun s => assignTake p.val h d uid.toNat fid.toNat q.val (fabFree k s))
          (if (k.flags.testBit 2 && k.hops != d.depth.toNat) = true then addTree (pathHop d k.hops) t else t)))) ∧
    (∀ (p : Fin 4) (h : FabHdr) (d : DiscPath) (uid : BitVec 64) (fid : BitVec 12) (q : Fin 4) (s : State),
      ∀ (k : FabPkt) (t u v w x : State), k = rxPkt p.val 4 h (discPrefix 2 (pathList d) ++ leBytes 8 uid.toNat ++ leBytes 2 fid.toNat ++ leBytes 1 q.val) →
      fabActive s p.val = true →
      k.vc = 1 →
      k.payload.length ≤ 4096 →
      t = s.count (Reg.FAB_P_VC_CNT_RX p.val k.vc) →
      k.flags.testBit 2 = true →
      k.hops = d.depth.toNat →
      u = fabFree k (seqCheck k t) →
      uid.toNat = ownUid u →
      u.bit Reg.FAB_CTRL 0 = true →
      v = setTree (Nat.lor (treeMask u) (2 ^ q.val)) (some q.val) (setFid fid.toNat u) →
      w = { v with fab := { v.fab with pref := fid.toNat, rootFid := h.src.toNat, rootPath := backPath p.val d } } →
      x = (if (fabState w == 4) = true then w else setFabState 2 w) →
      exec (.assign p h d uid fid q) s = .next (State.settle
        (srcSend (backPath p.val d) (fabPkt x 4 1 h.src.toNat 4 (discPrefix 3 (backPath p.val d) ++ leBytes 8 uid.toNat ++ leBytes 2 fid.toNat ++
          (ownTopo x).neigh.flatMap fun e => leBytes 8 e.1 ++ leBytes 1 e.2)) x))) ∧
    (∀ (p : Fin 4) (h : FabHdr) (d : DiscPath) (uid : BitVec 64) (fid : BitVec 12) (l : List (BitVec 64 × Fin 4)) (s : State),
      ∀ (n : List (Nat × Nat)) (k : FabPkt) (t : State), (n = l.map (fun e => (e.1.toNat, e.2.val))) →
      (k = rxPkt p.val 4 h (discPrefix 3 (pathList d) ++ leBytes 8 uid.toNat ++ leBytes 2 fid.toNat ++ n.flatMap fun e => leBytes 8 e.1 ++ leBytes 1 e.2)) →
      fabActive s p.val = true →
      k.vc = 1 →
      k.payload.length ≤ 4096 →
      t = s.count (Reg.FAB_P_VC_CNT_RX p.val k.vc) →
      exec (.assignAck p h d uid fid l) s = .next (State.settle
        (fabRoute p.val k (some d) (fun s => ackTake uid.toNat n (fabFree k s)) t))) ∧
    (∀ (p : Fin 4) (h : FabHdr) (d : DiscPath) (uid : BitVec 64) (fid : BitVec 12) (l : List (BitVec 64 × Fin 4)) (s : State),
      ∀ (n : List (Nat × Nat)) (k : FabPkt) (t : State) (a : Asg), (n = l.map (fun e => (e.1.toNat, e.2.val))) →
      (k = rxPkt p.val 4 h (discPrefix 3 (pathList d) ++ leBytes 8 uid.toNat ++ leBytes 2 fid.toNat ++ n.flatMap fun e => leBytes 8 e.1 ++ leBytes 1 e.2)) →
      fabActive s p.val = true →
      k.vc = 1 →
      k.payload.length ≤ 4096 →
      t = fabFree k (seqCheck k (s.count (Reg.FAB_P_VC_CNT_RX p.val k.vc))) →
      k.flags.testBit 2 = true →
      k.hops = d.depth.toNat →
      isRoot t = true →
      t.fab.asg = some a →
      a.uid = uid.toNat →
      exec (.assignAck p h d uid fid l) s = .next (State.settle
        (rootNext { t with fab := { t.fab with asg := none, known := t.fab.known.filter (·.1 != uid.toNat) ++ [(uid.toNat, a.fid)], topo := t.fab.topo ++ [{ uid := uid.toNat, fid := a.fid, path := a.path, parent := a.parent, neigh := n.take 4 }] } }))) ∧
    (∀ (s : State),
      ∀ a : Asg, s.fab.asg = some a →
      a.tries < 3 →
      exec (.assignTimeout) s = .next (State.settle
        (asgSend a { s with fab := { s.fab with asg := some { a with tries := a.tries + 1 } } }))) ∧
    (∀ (s : State),
      ∀ a : Asg, s.fab.asg = some a →
      3 ≤ a.tries →
      exec (.assignTimeout) s = .next (State.settle
        (rootNext ({ s with fab := { s.fab with asg := none, leftOut := s.fab.leftOut ++ [a.uid] } }.event 0x00B1 12 2 clsDevice 0 (det 8 a.uid))))) ∧
    (∀ (p : Fin 4) (h : FabHdr) (d : DiscPath) (id : BitVec 32) (im : List Byte) (s : State),
      ∀ (k : FabPkt) (t : State), k = rxPkt p.val 4 h (discPrefix 4 (pathList d) ++ leBytes 4 id.toNat ++ im) →
      fabActive s p.val = true →
      k.vc = 1 →
      k.payload.length ≤ 4096 →
      t = s.count (Reg.FAB_P_VC_CNT_RX p.val k.vc) →
      exec (.route p h d id im) s = .next (State.settle
        (fabRoute p.val k (some d) (fun s => routeTake p.val h d id.toNat im (fabFree k s)) t))) ∧
    (∀ (p : Fin 4) (h : FabHdr) (d : DiscPath) (id : BitVec 32) (im : List Byte) (s : State),
      ∀ (k : FabPkt) (t u : State), k = rxPkt p.val 4 h (discPrefix 4 (pathList d) ++ leBytes 4 id.toNat ++ im) →
      fabActive s p.val = true →
      k.vc = 1 →
      k.payload.length ≤ 4096 →
      t = s.count (Reg.FAB_P_VC_CNT_RX p.val k.vc) →
      k.flags.testBit 2 = true →
      k.hops = d.depth.toNat →
      im.length = 2180 →
      u = stageImage id.toNat im { fabFree k (seqCheck k t) with fab := { (fabFree k (seqCheck k t)).fab with rootFid := h.src.toNat } } →
      exec (.route p h d id im) s = .next (State.settle
        (toRoot (backPath p.val d) 6 (leBytes 4 id.toNat ++ leBytes 1 0) (if (fabState u == 4) = true then u else setFabState 3 u)))) ∧
    (∀ (p : Fin 4) (h : FabHdr) (id : BitVec 32) (at' : BitVec 64) (s : State),
      ∀ (k : FabPkt) (t : State), k = rxPkt p.val 4 h (discPrefix 5 [] ++ leBytes 4 id.toNat ++ leBytes 8 at'.toNat) →
      fabActive s p.val = true →
      k.vc = 1 →
      k.payload.length ≤ 4096 →
      t = s.count (Reg.FAB_P_VC_CNT_RX p.val k.vc) →
      exec (.routeCommit p h id at') s = .next (State.settle
        (fabRoute p.val k none (fun s => commitTake id.toNat at'.toNat (if (k.dest != 0xFFF) = true then fabFree k s else s)) t))) ∧
    (∀ (p : Fin 4) (h : FabHdr) (id : BitVec 32) (at' : BitVec 64) (s : State),
      ∀ (k : FabPkt) (t u : State), k = rxPkt p.val 4 h (discPrefix 5 [] ++ leBytes 4 id.toNat ++ leBytes 8 at'.toNat) →
      fabActive s p.val = true →
      k.vc = 1 →
      k.payload.length ≤ 4096 →
      t = s.count (Reg.FAB_P_VC_CNT_RX p.val k.vc) →
      k.flags.testBit 0 = false →
      k.dest ≠ 0xFFF →
      k.dest = t.ownFid →
      u = fabFree k (seqCheck k t) →
      exec (.routeCommit p h id at') s = .next (State.settle
        (if u.fab.staged = some id.toNat then { u with fab := { u.fab with commitAt := some at'.toNat } } else toRoot u.fab.rootPath 6 (leBytes 4 id.toNat ++ leBytes 1 1) u))) ∧
    (∀ (s : State),
      ∀ (x st b w : Nat) (t u v : State), s.fab.commitAt = some x →
      s.fab.staged = some st →
      t = s.advanceTo (ns16 x) →
      b = 1 - t.fd Reg.FAB_RT_BANK 0 1 →
      w = t.le (routeBase b + 2176) 4 →
      u = setTree (w % 16) (if w.testBit 6 = true then none else some (w / 16 % 4)) ((t.wf Reg.FAB_RT_BANK 0 1 b).count Reg.FAB_CNT_ROUTE_COMMIT) →
      v = setFabState 4 { u with fab := { u.fab with commitAt := none, staged := none } } →
      exec (.routeBankSwitch) s = .next (State.settle
        (completeOps 0x0C03 (fun _ => true) St.ok [] v))) ∧
    (∀ (s : State),
      s.fab.commitAt = none ∨ s.fab.staged = none →
      exec (.routeBankSwitch) s = .next (State.settle
        (s))) ∧
    (∀ (p : Fin 4) (h : FabHdr) (d : DiscPath) (id : BitVec 32) (st : Byte) (s : State),
      ∀ (k : FabPkt) (t : State), k = rxPkt p.val 4 h (discPrefix 6 (pathList d) ++ leBytes 4 id.toNat ++ leBytes 1 st.toNat) →
      fabActive s p.val = true →
      k.vc = 1 →
      k.payload.length ≤ 4096 →
      t = s.count (Reg.FAB_P_VC_CNT_RX p.val k.vc) →
      exec (.routeAck p h d id st) s = .next (State.settle
        (fabRoute p.val k (some d) (fun s => routeAgain k.src st.toNat (fabFree k s)) t))) ∧
    (∀ (p : Fin 4) (h : FabHdr) (d : DiscPath) (id : BitVec 32) (s : State),
      ∀ (k : FabPkt) (t u : State) (e : TopoDev), k = rxPkt p.val 4 h (discPrefix 6 (pathList d) ++ leBytes 4 id.toNat ++ leBytes 1 1) →
      fabActive s p.val = true →
      k.vc = 1 →
      k.payload.length ≤ 4096 →
      t = s.count (Reg.FAB_P_VC_CNT_RX p.val k.vc) →
      k.flags.testBit 2 = true →
      k.hops = d.depth.toNat →
      u = fabFree k (seqCheck k t) →
      (u.fab.topo.find? (·.fid == k.src)) = some e →
      isRoot u = true →
      exec (.routeAck p h d id 1) s = .next (State.settle
        (commitSend e.fid u.fab.imageId (routeTo u.fab.imageId e u)))) ∧
    (∀ (p : Fin 4) (g : DiscHdr) (uid : BitVec 64) (q : Fin 4) (b : Bool) (nb : BitVec 64) (s : State),
      ∀ (k : FabPkt) (t : State), k = rxPkt p.val 4 g.hdr (discPrefix 7 (pathList g.way) ++ leBytes 8 uid.toNat ++ leBytes 1 q.val ++ leBytes 1 (if b = true then 1 else 0) ++ leBytes 8 nb.toNat) →
      fabActive s p.val = true →
      k.vc = 1 →
      k.payload.length ≤ 4096 →
      t = s.count (Reg.FAB_P_VC_CNT_RX p.val k.vc) →
      exec (.linkEvent p g uid q b nb) s = .next (State.settle
        (fabRoute p.val k (some g.way) (fun s => rootLink uid.toNat q.val b nb.toNat (fabFree k s)) t))) ∧
    (∀ (p : Fin 4) (g : DiscHdr) (uid : BitVec 64) (q : Fin 4) (b : Bool) (nb : BitVec 64) (s : State),
      ∀ (k : FabPkt) (t u : State), k = rxPkt p.val 4 g.hdr (discPrefix 7 (pathList g.way) ++ leBytes 8 uid.toNat ++ leBytes 1 q.val ++ leBytes 1 (if b = true then 1 else 0) ++ leBytes 8 nb.toNat) →
      fabActive s p.val = true →
      k.vc = 1 →
      k.payload.length ≤ 4096 →
      t = s.count (Reg.FAB_P_VC_CNT_RX p.val k.vc) →
      k.flags.testBit 2 = false →
      k.flags.testBit 0 = false →
      k.dest ≠ 0xFFF →
      k.dest = t.ownFid →
      u = fabFree k (seqCheck k t) →
      isRoot u = true →
      exec (.linkEvent p g uid q b nb) s = .next (State.settle
        (rootNext { u with fab := { u.fab with topo := retree (topoLink u.fab.topo uid.toNat q.val b nb.toNat), leftOut := u.fab.leftOut.filter (· != nb.toNat) } }))) ∧
    (∀ (p : Nat) (k : FabPkt) (d : DiscPath) (f : State → State) (s : State),
      (k.flags.testBit 2 = true → k.hops = d.depth.toNat → fabRoute p k (some d) f s = f (seqCheck k s)) ∧
      (k.flags.testBit 2 = true → k.hops ≠ d.depth.toNat → fabRoute p k (some d) f s = fabOut (some p) (pathHop d k.hops) k s) ∧
      (∀ o : Option DiscPath, (k.flags.testBit 2 = false ∨ o = none) →
        (k.flags.testBit 0 = true → fabRoute p k o f s = fabForward (some p) k s) ∧
        (k.flags.testBit 0 = false → k.dest = 0xFFF → fabRoute p k o f s =
          (if offTree s p = true then fabDropAt p k s else f (seqCheck k (fabForward (some p) k s)))) ∧
        (k.flags.testBit 0 = false → k.dest ≠ 0xFFF → fabRoute p k o f s =
          (if k.dest = s.ownFid then f (seqCheck k s) else fabForward (some p) k s)))) ∧
    (∀ (p : Fin 4) (a b c d : BitVec 16) (s : State),
      ∀ l : List (Nat × Nat), fabActive s p.val = true →
      (l = (List.range 4).foldl (fun x v => setCnt x v ([a.toNat, b.toNat, c.toNat, d.toNat].getD v 0)) []) →
      exec (.flow p false a b c d) s = .next (State.settle
        (fabDrain p.val (modFabPort p.val (fun f => { f with freed := l }) (s.count (Reg.FAB_P_VC_CNT_RX p.val 0)))))) ∧
    (∀ (p : Fin 4) (a b c d : BitVec 16) (s : State),
      ∀ l : List (Nat × Nat), fabActive s p.val = true →
      (l = (List.range 4).foldl (fun x v => setCnt x v ([a.toNat, b.toNat, c.toNat, d.toNat].getD v 0)) []) →
      exec (.flow p true a b c d) s = .next (State.settle
        (fabDrain p.val (modFabPort p.val (fun f => { f with size := l }) (s.count (Reg.FAB_P_VC_CNT_RX p.val 0)))))) ∧
    (∀ (p : Fin 4) (s : State),
      ∀ k : FabPkt, fabActive s p.val = true →
      (k = fabPkt s 5 0 0 0 ((List.range 4).flatMap fun v => leBytes 2 (cnt (fabPort s p.val).mine v))) →
      exec (.flowSend p) s = .next (State.settle
        (fabDrain p.val (((fabSeqUsed 0 (modFabPort p.val (fun f => { f with since := 0 }) s)).count (Reg.FAB_P_VC_CNT_TX p.val 0)).emit (.fab p.val k.onWire))))) ∧
    (∀ (p v : Fin 4) (s : State),
      ∀ k : FabPkt, (((fabPort s p.val).q.find? fun k => k.vc == v.val && !k.late) = some k) →
      exec (.fabPacketDelay p v) s = .next (State.settle
        (modFabPort p.val (fun f => { f with q := f.q.map fun x => if (x == k) = true then { x with late := true } else x }) (s.count (Reg.FAB_P_VC_CNT_DELAY p.val v.val))))) ∧
    (∀ (n : Fin 16) (s : State),
      s.bit (Reg.FAB_SUB_CFG n.val) 0 = true →
      exec (.subLossTimeout n) s = .next (State.settle
        (subSignal n.val true s))) ∧
    (∀ (p : Fin 4) (l : List Byte) (b : Bool) (s : State),
      fabActive s p.val = true →
      fabBad l b = true →
      exec (.fabricBadPacket p l b) s = .next (State.settle
        (if leAt l 3 1 % 16 = 5 then s.count (Reg.FAB_P_CNT_CRC p.val) else fabCredit p.val (leAt l 3 1 / 16 % 4) (fabCost (l.length - 20)) (s.count (Reg.FAB_P_CNT_CRC p.val))))) ∧
    (∀ (n : Fin 4) (s : State),
      s.bit (Reg.FAB_P_STATUS n.val) 0 = true →
      exec (.laneDeskewError true n) s = .next (State.settle
        (leaveActive (4 + n.val) s))) ∧
    (∀ (n : Fin 4) (s : State),
      s.bit (Reg.SDS_STR_STATUS n.val) 0 = true →
      exec (.laneDeskewError false n) s = .next (State.settle
        ((strAbandon n.val s).wb (Reg.SDS_STR_STATUS n.val) 4 true)))

/-- A bad PTP message is counted; a good event message is counted and stamped with its ingress time; an event message sent without a stamp is
counted, a one-step Sync carries its egress time; an offset with the servo off is only counted, and else moves integral and adjustment by
their terms where nothing clamps; holdover keeps the integral; LOAD sets the time and STEP moves it; a read of PTP.TIME_NS latches time and
TOTAL; ARM takes START, WIDTH and polarity or fails, CANCEL ends a live trigger, an occurrence raises its pulse and ends DONE or LATE, the
pulse ends WIDTH later; an edge is captured, or counted when the FIFO is full; POP removes the oldest. Where a clause has s = rasterFirst z,
s is the state after the raster boundaries due at the tick (R37). (Derived: R281, R284, R285, R286, R287, R288, R37, R289, R290, R291.) -/
def Obligations.PrecisionTimeCommandsTakeEffect : Prop :=
    (∀ (q : Fin 6) (ps : Nat) (msg : List Byte) (s : State),
      ptpUp s q.val = true →
      ptpGood s q.val msg = false →
      exec (.ptpEventMessage q ps msg) s = .next (State.settle
        (s.count (Reg.PTP_PORT_CNT_BAD q.val)))) ∧
    (∀ (q : Fin 6) (ps : Nat) (msg : List Byte) (s : State),
      ∀ (t : State) (x : Int), ptpUp s q.val = true →
      ptpGood s q.val msg = true →
      t = s.count (Reg.PTP_PORT_CNT_RX q.val) →
      leAt msg 0 1 % 16 < 4 →
      ptpStamps t q.val = true →
      x = psToNs t ((ps : Int) - (ptpConst (ptpRate t q.val)).2 - sext 32 (t.rd (Reg.PTP_PORT_IG_ADJ q.val)).toNat) →
      exec (.ptpEventMessage q ps msg) s = .next (State.settle
        (ptpTake q.val x msg (setRxTs q.val (leAt msg 0 1 % 16) x t.useFree)))) ∧
    (∀ (q : Fin 6) (ps : Nat) (msg : List Byte) (s : State),
      ∀ t : State, ptpUp s q.val = true →
      ptpGood s q.val msg = true →
      t = s.count (Reg.PTP_PORT_CNT_RX q.val) →
      4 ≤ leAt msg 0 1 % 16 →
      exec (.ptpEventMessage q ps msg) s = .next (State.settle
        (ptpTake q.val 0 msg t))) ∧
    (∀ (q : Fin 6) (ps : Nat) (msg : List Byte) (s : State),
      ptpUp s q.val = false →
      exec (.ptpEventMessage q ps msg) s = .next (State.settle
        (s))) ∧
    (∀ (q : Fin 6) (ps : Nat) (b : Bool) (msg : List Byte) (s : State),
      ptpUp s q.val = true →
      ptpSends s q.val (leAt msg 0 1 % 16) = true →
      leAt msg 0 1 % 16 < 4 →
      (b && ptpStamps s q.val) = false →
      exec (.ptpMessageSend q ps b msg) s = .next (State.settle
        (ptpEmit q.val (ptpHead s q.val msg) (setTxTs q.val (leAt msg 0 1 % 16) none (s.count (Reg.PTP_PORT_CNT_TS_MISS q.val)))))) ∧
    (∀ (q : Fin 6) (ps : Nat) (b : Bool) (msg : List Byte) (s : State),
      ptpUp s q.val = false ∨ ptpSends s q.val (leAt msg 0 1 % 16) = false →
      exec (.ptpMessageSend q ps b msg) s = .next (State.settle
        (s))) ∧
    (∀ (q : Fin 6) (ps : Nat) (b : Bool) (msg : List Byte) (s : State),
      ∀ v : Int, ptpUp s q.val = true →
      ptpSends s q.val 8 = true →
      leAt msg 0 1 % 16 = 8 →
      txTs s q.val 0 = some v →
      exec (.ptpMessageSend q ps b msg) s = .next (State.settle
        (ptpEmit q.val (patch (ptpHead s q.val msg) 34 (ptpStamp v)) s))) ∧
    (∀ (q : Fin 6) (ps : Nat) (b : Bool) (msg : List Byte) (s : State),
      ∀ v : Int, ptpUp s q.val = true →
      ptpSends s q.val 10 = true →
      leAt msg 0 1 % 16 = 10 →
      txTs s q.val 3 = some v →
      exec (.ptpMessageSend q ps b msg) s = .next (State.settle
        (ptpEmit q.val (patch (ptpHead s q.val msg) 34 (ptpStamp v)) s))) ∧
    (∀ (q : Fin 6) (ps : Nat) (msg : List Byte) (s : State),
      ∀ x : Int, ptpUp s q.val = true →
      ptpSends s q.val 0 = true →
      leAt msg 0 1 % 16 = 0 →
      ptpStamps s q.val = true →
      twoStep s q.val = false →
      x = psToNs s ((ps : Int) + (ptpConst (ptpRate s q.val)).1 + sext 32 (s.rd (Reg.PTP_PORT_EG_ADJ q.val)).toNat) →
      exec (.ptpMessageSend q ps true msg) s = .next (State.settle
        (ptpEmit q.val (patch (ptpHead s q.val msg) 34 (ptpStamp x)) (setTxTs q.val 0 (some x) s.useFree)))) ∧
    (∀ (w : Word) (s : State),
      s.bit Reg.PTP_CTRL 0 = false →
      (s.count Reg.PTP_CNT_OFFSET).bit Reg.PTP_CTRL 0 = false →
      exec (.servoOffset w) s = .next (State.settle
        (s.count Reg.PTP_CNT_OFFSET))) ∧
    (∀ (w : Word) (s : State),
      ∀ (x i a : Int) (t : State), x = ns16 (sext 32 w.toNat) + s.fd Reg.PTP_SERVO_OFFSET_FRAC 0 16 →
      (s.count Reg.PTP_CNT_OFFSET).bit Reg.PTP_CTRL 0 = true →
      t = (s.count Reg.PTP_CNT_OFFSET).wr Reg.PTP_LAST_OFFSET w →
      t.bit Reg.PTP_CTRL 1 = false →
      i = t.ptp.integ - servoTerm t x (t.fd Reg.PTP_SERVO_CFG 8 5) →
      clampServo i = i →
      a = i - servoTerm t x (t.fd Reg.PTP_SERVO_CFG 0 5) →
      clampServo a = a →
      exec (.servoOffset w) s = .next (State.settle
        (servoLock x (servoShow { t with ptp := { t.ptp with integ := i, adj := a } })))) ∧
    (∀ (s : State),
      s.bit Reg.PTP_CTRL 0 = true →
      s.fd Reg.PTP_STATUS 0 2 = 1 ∨ s.fd Reg.PTP_STATUS 0 2 = 2 →
      exec (.servoHoldover) s = .next (State.settle
        (servoShow ({ setServo 3 s with ptp := { (setServo 3 s).ptp with adj := s.ptp.integ } }.count Reg.PTP_CNT_HOLDOVER)))) ∧
    (∀ (z s : State),
      s = rasterFirst z →
      exec (.setCtrlLoad) z = .next (State.settle
        (setTime (((s.fd Reg.PTP_SET_S_HI 0 16 * 2 ^ 32 + (s.rd Reg.PTP_SET_S_LO).toNat) * 1000000000 + s.fd Reg.PTP_SET_NS 0 30) * 2 ^ 32) s))) ∧
    (∀ (z s : State),
      s = rasterFirst z →
      exec (.setCtrlStep) z = .next (State.settle
        (stepTime (ns16 (sext 32 (s.rd Reg.PTP_STEP_VAL).toNat)) s))) ∧
    (∀ (s : State),
      exec (.timeNsRead) s = .next (State.settle
        ((((((s.wr Reg.PTP_TIME_NS (BitVec.ofNat 32 (nanos s))).wr Reg.PTP_TIME_S_LO (BitVec.ofNat 32 (seconds s))).wr Reg.PTP_TIME_S_HI
          (BitVec.ofNat 32 (seconds s / 2 ^ 32))).wr Reg.PTP_TIME_FRAC (BitVec.ofNat 32 (fracNs s))).wr Reg.PTP_TOTAL_LO (BitVec.ofNat 32 s.nowNs)).wr
          Reg.PTP_TOTAL_HI (BitVec.ofNat 32 (s.nowNs / 2 ^ 32))))) ∧
    (∀ (n : Fin 4) (z s : State),
      s = rasterFirst z →
      ∀ (w x : Nat), s.bit (Reg.PTP_TT_CFG n.val) 0 = false →
      w = (s.rd (Reg.PTP_TT_WIDTH n.val)).toNat →
      20 ≤ w →
      x = ((s.rd (Reg.PTP_TT_START_HI n.val)).toNat * 2 ^ 32 + (s.rd (Reg.PTP_TT_START_LO n.val)).toNat) * 65536 →
      exec (.ttnArm n) z = .next (State.settle
        (let t := modTt n.val (fun t => { start := x, period := 0, width := w, periodic := false, pol := s.bit (Reg.PTP_TT_CFG n.val) 1, n := 0, fall := t.fall, late := if x < s.tickNs * 65536 then some (s.tickNs + 1000) else none }) s
        ttShow n.val ((setTtState n.val 1 t).wr (Reg.PTP_TT_SKIP n.val) (BitVec.ofNat 32 0))))) ∧
    (∀ (n : Fin 4) (z s : State),
      s = rasterFirst z →
      (s.rd (Reg.PTP_TT_WIDTH n.val)).toNat < 20 →
      exec (.ttnArm n) z = .next (State.settle
        (setTtState n.val 4 s))) ∧
    (∀ (n : Fin 4) (z s : State),
      s = rasterFirst z →
      ttLive s n.val = true →
      exec (.ttnCancel n) z = .next (State.settle
        (setTtState n.val 0 s))) ∧
    (∀ (n : Fin 4) (z s : State),
      s = rasterFirst z →
      ∀ (w p x k : Nat), s.bit (Reg.PTP_TT_CFG n.val) 0 = true →
      w = (s.rd (Reg.PTP_TT_WIDTH n.val)).toNat →
      p = (s.rd (Reg.PTP_TT_PERIOD n.val)).toNat * 65536 + s.fd (Reg.PTP_TT_PERIOD_FRAC n.val) 0 16 →
      20 ≤ w →
      40 * 65536 ≤ p →
      (w + 20) * 65536 ≤ p →
      x = ((s.rd (Reg.PTP_TT_START_HI n.val)).toNat * 2 ^ 32 + (s.rd (Reg.PTP_TT_START_LO n.val)).toNat) * 65536 →
      k = (if x ≤ s.tickNs * 65536 then (s.tickNs * 65536 - x) / p + 1 else 0) →
      exec (.ttnArm n) z = .next (State.settle
        (let t := modTt n.val (fun t => { start := x, period := p, width := w, periodic := true, pol := s.bit (Reg.PTP_TT_CFG n.val) 1, n := k, fall := t.fall, late := none }) s
        ttShow n.val ((setTtState n.val 1 t).wr (Reg.PTP_TT_SKIP n.val) (BitVec.ofNat 32 k))))) ∧
    (∀ (n : Fin 4) (s : State),
      ∀ (r : Int) (t : State), ttLive s n.val = true →
      s.pwr.state < 2 →
      (tt s n.val).periodic = false →
      (tt s n.val).late = none →
      r = nearNs (ttNext (tt s n.val)) →
      t = (s.advanceTo r).emit (.edge (1 + n.val) (true != (s.advanceTo r).bit (Reg.PTP_TT_CFG n.val) 1) r) →
      exec (.ttOccurrence n) s = .next (State.settle
        (modTt n.val (fun x => { x with fall := some (nearNs (r + x.width * 65536)), late := none, n := if x.periodic = true then x.n + 1 else x.n }) (setTtState n.val 2 t)))) ∧
    (∀ (n : Fin 4) (s : State),
      ∀ (k : Nat) (t : State), ttLive s n.val = true →
      s.pwr.state < 2 →
      (tt s n.val).periodic = false →
      (tt s n.val).late = some k →
      t = (s.advanceTo (ns16 k)).emit (.edge (1 + n.val) (true != (s.advanceTo (ns16 k)).bit (Reg.PTP_TT_CFG n.val) 1) (ns16 k)) →
      exec (.ttOccurrence n) s = .next (State.settle
        (modTt n.val (fun x => { x with fall := some (nearNs (ns16 k + x.width * 65536)), late := none, n := if x.periodic = true then x.n + 1 else x.n }) ((setTtState n.val 3 t).count Reg.RAS_CNT_TACT_LATE)))) ∧
    (∀ (n : Fin 4) (s : State),
      ∀ (r : Int) (t : State), ttLive s n.val = true →
      s.pwr.state < 2 →
      (tt s n.val).periodic = true →
      (tt s n.val).late = none →
      r = nearNs (ttNext (tt s n.val)) →
      t = (s.advanceTo r).emit (.edge (1 + n.val) (true != (s.advanceTo r).bit (Reg.PTP_TT_CFG n.val) 1) r) →
      exec (.ttOccurrence n) s = .next (State.settle
        (ttShow n.val (modTt n.val (fun x => { x with fall := some (nearNs (r + x.width * 65536)), late := none, n := if x.periodic = true then x.n + 1 else x.n }) (setTtState n.val 5 t))))) ∧
    (∀ (n : Fin 4) (s : State),
      2 ≤ s.pwr.state →
      exec (.ttOccurrence n) s = .next (State.settle
        (s))) ∧
    (∀ (n : Fin 4) (s : State),
      ∀ r : Int, (tt s n.val).fall = some r →
      exec (.ttPulseEnd n) s = .next (State.settle
        (modTt n.val (fun t => { t with fall := none }) ((s.advanceTo r).emit (.edge (1 + n.val) (false != (s.advanceTo r).bit (Reg.PTP_TT_CFG n.val) 1) r))))) ∧
    (∀ (n : Fin 4) (b : Bool) (x : Nat) (s : State),
      ∀ t : State, t = tcLevel n.val (!b) s →
      t.bit (Reg.PTP_TC_CFG n.val) 0 = true →
      (t.fd (Reg.PTP_TC_CFG n.val) 1 2).testBit (if b = true then 1 else 0) = true →
      (tcFifo t n.val).length < 16 →
      exec (.captureEdge n b x) s = .next (State.settle
        (setTc n.val (tcFifo t n.val ++ [(x % 2 ^ 64, b)]) t))) ∧
    (∀ (n : Fin 4) (b : Bool) (x : Nat) (s : State),
      ∀ t : State, t = tcLevel n.val (!b) s →
      t.bit (Reg.PTP_TC_CFG n.val) 0 = true →
      (t.fd (Reg.PTP_TC_CFG n.val) 1 2).testBit (if b = true then 1 else 0) = true →
      16 ≤ (tcFifo t n.val).length →
      exec (.captureEdge n b x) s = .next (State.settle
        (t.count (Reg.PTP_TC_CNT_OVF n.val)))) ∧
    (∀ (n : Fin 4) (b : Bool) (x : Nat) (s : State),
      ∀ t : State, t = tcLevel n.val (!b) s →
      t.bit (Reg.PTP_TC_CFG n.val) 0 = false ∨ (t.fd (Reg.PTP_TC_CFG n.val) 1 2).testBit (if b = true then 1 else 0) = false →
      exec (.captureEdge n b x) s = .next (State.settle
        (t))) ∧
    (∀ (n : Fin 4) (z s : State),
      s = rasterFirst z →
      exec (.tcnPop n) z = .next (State.settle
        (setTc n.val (tcFifo s n.val).tail s)))

/-- A housekeeping slot stores its value with the plausibility of its kind, a round evaluates sensors, bands, triggers and the array and counts;
a calibration run ends with its checks; the prewarn stops the raster in order and keeps the log, its release performs a reset held back;
shutdown holds reset; power steps end in IDLE, sleep or a refusal; wake sources wake; THAW steps follow; VIN, POR and RESET_N, watchdog,
lockstep and clock failures reset with their causes; bank supplies, crystal and boot stages are shown; the ROM takes its bank, light starts,
DRAM comes up or fails; firmware resumes, is confirmed, verified or abandoned; the last events count or send what they count or send. Where
a clause has s = rasterFirst z, s is the state after the raster boundaries due at the tick (R37). (Derived: R387, R394, R398, R400, R406,
R413, R414, R421, R423, R426, R428, R429.) -/
def Obligations.PowerHousekeepingResetAndBootEventsTakeEffect : Prop :=
    (∀ (ch : Fin 48) (v : Int) (s : State),
      s.bit Reg.HK_CTRL 0 = true →
      roleOff s ch.val = false →
      18 ≤ ch.val →
      ch.val < 42 →
      exec (.hkSlotEnd ch (.value v)) s = .next (State.settle
        (chResult ch.val (max 0 (min 65535 v)) false s))) ∧
    (∀ (ch : Fin 48) (v : Int) (s : State),
      s.bit Reg.HK_CTRL 0 = true →
      roleOff s ch.val = false →
      12 ≤ ch.val →
      ch.val < 18 →
      exec (.hkSlotEnd ch (.value v)) s = .next (State.settle
        (chResult ch.val (clamp16 v) (tempOut v) s))) ∧
    (∀ (ch : Fin 48) (c : Fin 4096) (s : State),
      ∀ f : Int × Int, s.bit Reg.HK_CTRL 0 = true →
      roleOff s ch.val = false →
      4 ≤ ch.val →
      ch.val < 12 →
      thermistorTemp (s.fd (Reg.HK_CH_CFG ch.val) 16 16) c.val = some f →
      exec (.hkSlotEnd ch (.code c)) s = .next (State.settle
        (chResult ch.val (clamp16 (tempStep s f.1 f.2)) (decide (c.val < 41 ∨ 4054 < c.val)) s.useFree))) ∧
    (∀ (z s : State),
      s = rasterFirst z →
      ∀ (l : List (Nat × Bool)) (t : State), s.bit Reg.HK_CTRL 0 = true →
      (l = (roundSensors s).map (fun k => (k, brokenNow s k))) →
      (t = forEach l (fun e u => brokenEval e.1 e.2 u) s) →
      exec (.hkRoundEnd) z = .next (State.settle
        (let u := (calTriggers (arrayEval (forEach (roundSensors t) bandEval t))).count Reg.HK_CNT_ROUND
        if u.bit Reg.RAS_STATUS 0 = true then u else bandsApply u))) ∧
    (∀ (u : Fin 97) (l : List Nat) (e : Byte) (m : BitVec 10) (b : Bool) (s : State),
      ∀ t : State, s.hk.calRun = some u.val →
      t = { s with hk := { s.hk with calRun := none, calQueue := s.hk.calQueue.erase u.val } } →
      exec (.calibrationRunEnd u l e m b) s = .next (State.settle
        (calComplete u.val e.toNat (calEnd u.val true l e.toNat b (dramEye u.val e.toNat m.toNat ((t.wb Reg.HK_STATUS 3 false).wf Reg.HK_STATUS 4 7 0)))))) ∧
    (∀ (s : State),
      s.pwr.inReset = true ∨ s.pwr.stopped = true →
      exec (.prewarnTrip) s = .next (State.settle
        (s.wb Reg.HK_STATUS 1 true))) ∧
    (∀ (s : State),
      ∀ t u v : State, s.pwr.inReset = false →
      s.pwr.stopped = false →
      t = s.wb Reg.HK_STATUS 1 true →
      u = t.event 0x0022 14 2 13 12 [0, 12] →
      v = { u with mbx := { u.mbx with evNew := t.mbx.evNew, logSaved := u.mbx.log } } →
      u.hk.calRun = none →
      exec (.prewarnTrip) s = .next (State.settle
        (let w := modPwr (fun p => { p with stopped := true, halted := true, pipe := 0, target := 0, step := 0, thaw := 0, stopAt := v.tickNs, stopEv := v.mbx.log.drop (v.mbx.log.length - 1) }) v
        forEach (linksOn w) (linkEn · false) w))) ∧
    (∀ (s : State),
      (s.wb Reg.HK_STATUS 1 false).pwr.resetHeld = none →
      exec (.prewarnRelease) s = .next (State.settle
        (s.wb Reg.HK_STATUS 1 false))) ∧
    (∀ (s : State),
      ∀ k c : Nat, (s.wb Reg.HK_STATUS 1 false).pwr.resetHeld = some (k, c) →
      exec (.prewarnRelease) s = .next (State.settle
        (modPwr (fun p => { p with inReset := p.resetLow }) (resetNow (k == 1) c (s.wb Reg.HK_STATUS 1 false))))) ∧
    (∀ (s : State),
      exec (.shutdown) s = .next (State.settle
        (modPwr (fun p => { p with inReset := true, shut := true }) (blank true (aonStart (s.event 0x0022 14 2 13 12 [1, 12])))))) ∧
    (∀ (s : State),
      s.pwr.target = 1 →
      s.pwr.step = 4 →
      exec (.stopStepDone) s = .next (State.settle
        (idleReached s))) ∧
    (∀ (s : State),
      s.pwr.target = 2 →
      s.pwr.step = 6 →
      exec (.stopStepDone) s = .next (State.settle
        (asleep s))) ∧
    (∀ (s : State),
      1 ≤ s.pwr.target →
      s.pwr.target ≤ 3 →
      3 ≤ s.pwr.step →
      exec (.stopStepTimeout) s = .next (State.settle
        (enterRefuse s.pwr.step s.pwr.step 5 0xFFFF s))) ∧
    (∀ (s : State),
      s.pwr.state ≠ 4 →
      exec (.wake true) s = .next (State.settle
        (wakeBy 3 s))) ∧
    (∀ (s : State),
      s.bit Reg.AON_WAKE_CFG 5 = true →
      exec (.aonTimerWake) s = .next (State.settle
        (wakeBy 1 (s.advanceTo (ns16 (Int.ofNat ((s.rd Reg.AON_TIMER_HI).toNat * 2 ^ 32 + (s.rd Reg.AON_TIMER_LO).toNat))))))) ∧
    (∀ (s : State),
      exec (.tempWake) s = .next (State.settle
        (wakeBy 2 (s.wb Reg.AON_STATUS 3 true)))) ∧
    (∀ (s : State),
      ∀ t : State, s.pwr.thaw = 6 →
      t = s.advanceTo (ns16 (Int.ofNat (s.pwr.since + thawAt (s.pwr.state == 3) 6 * 1000))) →
      exec (.thawStepEnd) s = .next (State.settle
        (thawEnd (thawFinish 6 t)))) ∧
    (∀ (s : State),
      ∀ (k : Nat) (t : State), s.pwr.thaw = k →
      1 ≤ k →
      k ≠ 6 →
      t = thawFinish k (s.advanceTo (ns16 (Int.ofNat (s.pwr.since + thawAt (s.pwr.state == 3) k * 1000)))) →
      (k == 2 && t.pwr.state == 2) = false →
      exec (.thawStepEnd) s = .next (State.settle
        (thawBegin (k + 1) (pmuStep (k + 1) (modPwr (fun p => { p with thaw := k + 1 }) t))))) ∧
    (∀ (mv : BitVec 16) (s : State),
      ∀ t : State, t = (s.event 0x0021 2 2 clsDevice 0 ([0, 0] ++ det 2 mv.toNat)).wb Reg.AON_STATUS 1 false →
      exec (.vinUndervoltage mv) s = .next (State.settle
        (forEach (List.range 256) (fun g u => if segLive u g = true then segToDefault g u else u) { t with hlt := { t.hlt with vinUnder := true } }))) ∧
    (∀ (s : State),
      ∀ t : State, t = s.wb Reg.AON_STATUS 1 true →
      exec (.vinUndervoltageEnd) s = .next (State.settle
        ({ t with hlt := { t.hlt with vinUnder := false } }))) ∧
    (∀ (mv : BitVec 16) (s : State),
      ∀ t : State, t = s.event 0x0021 2 2 clsDevice 0 ([1, 0] ++ det 2 mv.toNat) →
      exec (.vinOvervoltage true mv) s = .next (State.settle
        ({ t with hlt := { t.hlt with vinOver := true } }))) ∧
    (∀ (k : Fin 8) (s : State),
      ∀ t : State, s.pwr.vinLow = true →
      (t = (resetNow true 1 ((modPwr (fun p => { p with vinLow := false }) s).wr Reg.PMU_STRAPS (BitVec.ofNat 32 (if s.pins.lost.testBit 0 = true then 0 else k.val)))).wb Reg.AON_STATUS 1 true) →
      exec (.por true k) s = .next (State.settle
        (modPwr (fun p => { p with inReset := p.resetLow }) { t with hlt := { t.hlt with vinUnder := false } }))) ∧
    (∀ (k : Fin 8) (s : State),
      exec (.por false k) s = .next (State.settle
        (modPwr (fun p => { p with vinLow := true }) ((switchOff s).wb Reg.AON_STATUS 1 false)))) ∧
    (∀ (s : State),
      ∀ t : State, (t = modPwr (fun p => { p with resetLow := true }) s) →
      t.pwr.shut = false →
      t.pwr.vinLow = false →
      t.pwr.state ≠ 4 →
      t.bit Reg.HK_STATUS 1 = false →
      exec (.resetN true) s = .next (State.settle
        (aonStart (modPwr (fun p => { p with inReset := true }) (resetNow true 2 t))))) ∧
    (∀ (s : State),
      ∀ t : State, (t = modPwr (fun p => { p with resetLow := false }) s) →
      t.pwr.shut = false →
      t.pwr.vinLow = false →
      t.pwr.state ≠ 4 →
      exec (.resetN false) s = .next (State.settle
        (if t.pwr.inReset = true then modPwr (fun p => { p with inReset := false }) (aonLoad t) else t))) ∧
    (∀ (s : State),
      s.pwr.shut = false →
      s.pwr.vinLow = false →
      s.pwr.state ≠ 4 →
      s.bit Reg.HK_STATUS 1 = false →
      exec (.watchdog) s = .next (State.settle
        (resetNow false 3 s))) ∧
    (∀ (s : State),
      ∀ t : State, t = s.event 0x0011 1 3 clsDevice 0 [] →
      t.pwr.shut = false →
      t.pwr.vinLow = false →
      t.pwr.state ≠ 4 →
      t.bit Reg.HK_STATUS 1 = false →
      exec (.lockstep) s = .next (State.settle
        (resetNow false 6 t))) ∧
    (∀ (s : State),
      ∀ t : State, t = s.event 0x0012 1 2 clsDevice 0 [2] →
      t.pwr.shut = false →
      t.pwr.vinLow = false →
      t.pwr.state ≠ 4 →
      t.bit Reg.HK_STATUS 1 = false →
      exec (.clockFail) s = .next (State.settle
        (resetNow false 7 t))) ∧
    (∀ (s : State),
      ∀ t : State, t = switchOff s →
      exec (.aonLoss) s = .next (State.settle
        (modPwr (fun p => { p with vinLow := true, aon := { lost := true } }) { t with regs := t.regs.filter (fun e => e.1 / 0x10000 != 2 && e.1 != Reg.PMU_CNT_COLD), now := 0 }))) ∧
    (∀ (b : Fin 2) (s : State),
      ∀ t : State, s.pins.lost.testBit b.val = false →
      t = { s with pins := { s.pins with lost := s.pins.lost + 2 ^ b.val } } →
      exec (.vioLoss b) s = .next (State.settle
        ((t.wb Reg.GPIO_BANK b.val false).count Reg.GPIO_CNT_BANK_LOSS))) ∧
    (∀ (b : Fin 2) (v : Bool) (s : State),
      ∀ t : State, s.pins.lost.testBit b.val = true →
      t = { s with pins := { s.pins with lost := s.pins.lost - 2 ^ b.val } } →
      exec (.vioReturn b v) s = .next (State.settle
        ((t.wb Reg.GPIO_BANK b.val true).wb Reg.GPIO_BANK (2 + b.val) v))) ∧
    (∀ (s : State),
      exec (.xtalOk) s = .next (State.settle
        (s.wb Reg.AON_STATUS 2 true))) ∧
    (∀ (x y : Bool) (s : State),
      s.pwr.inReset = false →
      stage s < 3 →
      bootBank s x y = none →
      exec (.bootRomVerify x y) s = .next (State.settle
        (bootStage 1 s))) ∧
    (∀ (x y : Bool) (s : State),
      ∀ (b : Nat) (t : State), s.pwr.inReset = false →
      stage s < 3 →
      bootBank s x y = some b →
      t = ((s.wf Reg.FW_STATE 0 1 b).wr Reg.FW_GEN (BitVec.ofNat 32 (fwRec s b).gen)).wr Reg.FW_VERSION (Config.fwVersion (fwRec s b).gen) →
      t.bit Reg.PMU_RESET_CAUSE 4 = true →
      exec (.bootRomVerify x y) s = .next (State.settle
        ((bootStage 3 t).event 0x0010 1 0 clsDevice 0 [t.fd Reg.PMU_RESET_CAUSE 0 4]))) ∧
    (∀ (s : State),
      stage s = 3 →
      (bootStage 4 s).bit Reg.PMU_STRAPS 0 = true →
      exec (.lightStart) s = .next (State.settle
        (forEach (List.range 32) (linkEn · true) (bootStage 4 s)))) ∧
    (∀ (s : State),
      4 ≤ stage s →
      stage s < 7 →
      s.bit Reg.PMU_STATE 13 = false →
      exec (.dramReady false) s = .next (State.settle
        ((s.wb Reg.PMU_STATE 13 true).event 0x0013 1 2 clsDevice 0 [1]))) ∧
    (∀ (s : State),
      ∀ t : State, 4 ≤ stage s →
      stage s < 7 →
      s.bit Reg.PMU_STATE 13 = false →
      (t = bootStage 7 (modPwr (fun p => { p with dramReady := true }) s)) →
      exec (.dramReady true) s = .next (State.settle
        (applyAccept { lo := 0, hi := 255, tables := 3, source := 1 } (vfSuspShow (seedMap (mapWrite (loadVf t))))))) ∧
    (∀ (s : State),
      mbPaused s = true →
      exec (.fwResume) s = .next (State.settle
        (forEach (List.range 8) (fun n t => mbRefill n (releaseHeld n t)) (completeOps 0x1104 (fun _ => true) St.ok (leBytes 4 (s.rd Reg.FW_VERSION).toNat) (s.wb Reg.MBX_STATUS 0 false))))) ∧
    (∀ (s : State),
      ∀ t : State, fwUpdate s = 5 →
      t = setFwRec (fwActive s) { fwRec s (fwActive s) with st := 2 } s →
      exec (.fwConfirm) s = .next (State.settle
        (setUpdate 0 { t with fw := { t.fw with owner := none, size := 0 } }))) ∧
    (∀ (s : State),
      1 ≤ fwUpdate s →
      fwUpdate s ≤ 3 →
      exec (.fwUpdateTimeout) s = .next (State.settle
        (fwAbandon s))) ∧
    (∀ (s : State),
      fwUpdate s = 2 →
      exec (.fwVerifyDone true) s = .next (State.settle
        (completeOps 0x1103 (fun _ => true) St.ok [] (setUpdate 3 s)))) ∧
    (∀ (s : State),
      stage s = 7 →
      exec (.startupReady) s = .next (State.settle
        (bootStage 8 s))) ∧
    (∀ (n : Fin 4) (x : RxFrame) (s : State),
      strTakes s n.val = true →
      strFault x.frame x.eop = 1 →
      exec (.badStreamPacket n x) s = .next (State.settle
        (s.count (Reg.SDS_STR_CNT_CRC n.val)))) ∧
    (∀ (n : Fin 4) (x : RxFrame) (s : State),
      strTakes s n.val = true →
      strFault x.frame x.eop = 2 →
      exec (.badStreamPacket n x) s = .next (State.settle
        (s.count (Reg.SDS_STR_CNT_SEQ_ERR n.val)))) ∧
    (∀ (n : Fin 4) (x : RxFrame) (s : State),
      strTakes s n.val = false ∨ strFault x.frame x.eop = 0 →
      exec (.badStreamPacket n x) s = .next (State.settle
        (s))) ∧
    (∀ (n : Fin 4) (s : State),
      ∀ t : State, (s.str n.val).sending = true →
      t = s.emit (.stream n.val (strFrame 3 (s.str n.val).sfn (leBytes 2 (s.str n.val).height ++ leBytes 2 0 ++ leBytes 4 s.wrapNs.toNat))) →
      exec (.streamSendFinish n) s = .next (State.settle
        ((forEach (strLaneList t n.val) (fun l u => if maySleep u l = true then txSleep l true u else u) t).modStr n.val fun x => { x with sending := false }))) ∧
    (∀ (l : Fin 24) (n b : Nat) (s : State),
      ∀ (c : Word) (x g rx tx : List Bool) (t : State), laneStage s l.val = 7 →
      c = s.rd (Reg.SDS_LANE_CTRL l.val) →
      x = (List.range n).map b.testBit →
      g = (prbsGenerate s l.val n).1 →
      rx = (if fld c 1 2 = 1 then g.map (· != c.getLsbD 7) else x).map (· != c.getLsbD 8) →
      tx = (if fld c 1 2 = 1 then [] else if fld c 1 2 = 3 then rx.map (· != c.getLsbD 7) else g.map (· != c.getLsbD 7)) →
      (t = modLane l.val (fun y => { y with gen := (prbsGenerate s l.val n).2 }) s) →
      exec (.prbsLock l n b) s = .next (State.settle
        (if fld c 5 2 = 0 then (if (!tx.isEmpty) = true then t.emit (.laneBits l.val tx) else t) else forEach rx (prbsBit l.val (fld c 5 2)) (if (!tx.isEmpty) = true then t.emit (.laneBits l.val tx) else t)))) ∧
    (∀ (l : Fin 24) (n b : Nat) (s : State),
      laneStage s l.val ≠ 7 →
      exec (.prbsLock l n b) s = .next (State.settle
        (s)))

/-- A packet of a segment link of any TYPE, SUB and FLAGS with a payload of at most 8,192 bytes, laid out with its header word, payload and
CRC-16 low byte first, has the LENGTH and CRC that a receiver accepts. A stream packet VSTART, LINE, VEND or META whose payload has the
length of its type, laid out with header, payload and CRC-32, has no fault. A fabric packet of a TYPE on a VC it is allowed, with at most
4,096 bytes of payload, whatever its HOPS, is not bad: its CRC is over the header with HOPS taken as 0. A bad fabric packet other than FLOW
is counted and frees the credits of the bytes received (which credits it frees is log entry 130). (Derived: R55, R56, R92, R93, R253, R254,
R255.) -/
def Obligations.PacketsSentAreGoodAtTheirReceiver : Prop :=
    (∀ (ty sub flags : Nat) (l : List Byte), l.length ≤ 8192 → slkGood (slkFrame ty sub flags l) = true) ∧
    (∀ (sfn : Nat) (l : List Byte), l.length < 65536 →
      (l.length = 16 → strFault (strFrame 1 sfn l) true = 0) ∧
      (l.length = 8 + leAt l 4 2 * fmtBytes (leAt l 2 1) → strFault (strFrame 2 sfn l) true = 0) ∧
      (l.length = 8 → strFault (strFrame 3 sfn l) true = 0) ∧
      (4 ≤ l.length → l.length ≤ 1028 → strFault (strFrame 4 sfn l) true = 0)) ∧
    (∀ k : FabPkt, k.ty < 16 → k.vc < 4 → (fabVcs k.ty).contains k.vc = true → k.payload.length ≤ 4096 →
      fabBad k.onWire true = false) ∧
    (∀ (p : Nat) (k : FabPkt) (b : List Byte) (s : State), fabActive s p = true → fabBad b true = true →
      leAt b 3 1 % 16 ≠ 5 → badPacket p b true s = fabCredit p (leAt b 3 1 / 16 % 4) (fabCost (b.length - 20)) (s.count (Reg.FAB_P_CNT_CRC p)))

/-- VOUT_3V3 (Machine.vout3v3) is off after the shutdown comparator trips, after VIN falls below 4.0 V or below 4.5 V, and in OFF, in every
state; when VIN is at 4.5 V again it is on unless the device is OFF, shut down or below its power-on threshold; and a cold or warm reset in
any state but OFF and shutdown leaves it as it is. (Derived: R441, R400, R428.) -/
def Obligations.VoutStaysOnThroughResetsAndGoesWithVin : Prop :=
    (∀ s : State, ∃ t, exec .shutdown s = .next t ∧ vout3v3 t = false) ∧
    (∀ (s : State) (k : Fin 8), ∃ t, exec (.por false k) s = .next t ∧ vout3v3 t = false) ∧
    (∀ (s : State) (mv : BitVec 16), ∃ t, exec (.vinUndervoltage mv) s = .next t ∧ vout3v3 t = false) ∧
    (∀ s : State, ∃ t, exec .vinUndervoltageEnd s = .next t ∧ vout3v3 t = (!s.pwr.vinLow && s.pwr.state != 4 && !s.pwr.shut)) ∧
    (∀ s : State, vout3v3 (switchOff s) = false) ∧
    (∀ (b : Bool) (s : State) (c : Nat), s.pwr.state ≠ 4 → s.pwr.shut = false → vout3v3 (resetNow b c s) = vout3v3 s)

/-- A 12-byte payload protected by an APPEND channel with an 8-bit counter and CRC-16 takes 16 bytes: bytes 0 to 11 are the payload, byte 12 is
PAD, byte 13 the counter, bytes 14 and 15 the check value over what precedes it, low byte first. In every state and for every channel, a
payload whose protected form fits CAN FD takes one of the CAN FD data lengths, never shorter than payload, counter and check. (Derived:
R360, R358, R352.) -/
def Obligations.TheAppendedFormFollowsTheExampleOfR360 : Prop :=
    (∀ (s : State) (c : Nat) (l : List Byte), l.length = 12 → checkBytes s c = 2 →
      (protect s c (canPadded s c l)).length = 16 ∧ (protect s c (canPadded s c l)).take 12 = l ∧
      (protect s c (canPadded s c l))[12]? = some (BitVec.ofNat 8 (s.fd (Reg.CRC_CH_AUX c) 16 8)) ∧
      (protect s c (canPadded s c l))[13]? = some (BitVec.ofNat 8 (appendCtr s c)) ∧
      (protect s c (canPadded s c l)).drop 14 =
        leBytes 2 (protValue s c (l ++ [BitVec.ofNat 8 (s.fd (Reg.CRC_CH_AUX c) 16 8), BitVec.ofNat 8 (appendCtr s c)]))) ∧
    (∀ (s : State) (c : Nat) (l : List Byte), l.length + 1 + checkBytes s c ≤ 64 →
      (protect s c (canPadded s c l)).length ∈ [0, 1, 2, 3, 4, 5, 6, 7, 8, 12, 16, 20, 24, 32, 48, 64] ∧
      l.length + 1 + checkBytes s c ≤ (protect s c (canPadded s c l)).length)

/-- Machine.rasterFirst carries out what of the raster is due at the current tick: a blanking start, a render cutoff, a phase 0, in that order;
with nothing due, or with the raster disabled, it changes nothing, and a phase 0 that it runs is marked so that its own event in the same
tick does not run it again. A SYNC_IN edge in the tick of a phase 0 is measured after it. Where a clause has s = rasterFirst z, s is the
state after the raster boundaries due at the tick (R37). (Derived: R37, R38, R32.) -/
def Obligations.RasterBoundariesOfATickGoFirst : Prop :=
    (∀ s : State, blankDue s = false → cutDue s = false → p0Due s = false → rasterFirst s = s) ∧
    (∀ s : State, blankDue s = false → cutDue s = false → p0Due s = true →
      rasterFirst s = { phase0 s with ras := { (phase0 s).ras with ahead := some (phase0 s).tickNs } }) ∧
    (∀ s t u : State, t = (if blankDue s = true then blankingStart s else s) → u = (if cutDue s = true then renderCutoff t else t) →
      p0Due u = false → rasterFirst s = u) ∧
    (∀ s : State, s.bit Reg.RAS_CTRL 0 = false → rasterFirst s = s) ∧
    (∀ (b : Bool) (at10 : Nat) (s : State), s.bit Reg.RAS_CTRL 0 = true → s.ras.ran = true → blankDue s = false → cutDue s = false → p0Due s = true →
      exec (.syncInEdge b at10) s = .next (State.settle (syncEdge b at10 { phase0 s with ras := { (phase0 s).ras with ahead := some (phase0 s).tickNs } })))
end

