-- ==== Sys2Proof/Laws/Store.lean ====
section
/-! SUPPORT. Laws of sparse stores: read after write, writes elsewhere, and the canonical form that every write keeps. -/
namespace Sys2Proof.Machine

variable {α : Type}

theorem sRising_mono {lo hi : Nat} {st : Store α} (h : sRising hi st = true) (le : lo ≤ hi) : sRising lo st = true := by
  cases st with
  | nil => rfl
  | cons e r =>
    obtain ⟨i, v⟩ := e
    simp only [sRising, Bool.and_eq_true, decide_eq_true_eq] at h ⊢
    exact ⟨by omega, h.2⟩

/-- Below its least index a store reads as the default. -/
theorem sget_below {d : Nat → α} {lo k : Nat} {st : Store α} (h : sRising lo st = true) (lt : k < lo) : sget d st k = d k := by
  cases st with
  | nil => rfl
  | cons e r =>
    obtain ⟨i, v⟩ := e
    simp only [sRising, Bool.and_eq_true, decide_eq_true_eq] at h
    simp only [sget]
    rw [if_neg (by omega), if_pos (by omega)]

theorem sget_sinsert_same (d : Nat → α) (st : Store α) (k : Nat) (v : α) : sget d (sinsert st k v) k = v := by
  induction st with
  | nil => simp [sinsert, sget]
  | cons e r ih =>
    obtain ⟨i, w⟩ := e
    simp only [sinsert]
    split
    · simp [sget]
    · split
      · simp [sget]
      · simp only [sget]
        rw [if_neg ‹_›, if_neg ‹_›, ih]

theorem sget_sinsert_other {d : Nat → α} {st : Store α} {lo j k : Nat} {v : α} (h : sRising lo st = true) (ne : j ≠ k) :
    sget d (sinsert st k v) j = sget d st j := by
  induction st generalizing lo with
  | nil => simp only [sinsert, sget]; rw [if_neg (Ne.symm ne)]; split <;> rfl
  | cons e r ih =>
    obtain ⟨i, w⟩ := e
    simp only [sRising, Bool.and_eq_true, decide_eq_true_eq] at h
    simp only [sinsert]
    split
    · rename_i hk
      subst hk
      simp only [sget]
      rw [if_neg (Ne.symm ne), if_neg (Ne.symm ne)]
    · split
      · simp only [sget]
        rw [if_neg (Ne.symm ne)]
        split
        · rename_i hlt
          rw [if_neg (by omega), if_pos (by omega)]
        · rfl
      · simp only [sget]
        rw [ih h.2]

theorem sget_sdrop_same {d : Nat → α} {st : Store α} {lo k : Nat} (h : sRising lo st = true) : sget d (sdrop st k) k = d k := by
  induction st generalizing lo with
  | nil => rfl
  | cons e r ih =>
    obtain ⟨i, w⟩ := e
    simp only [sRising, Bool.and_eq_true, decide_eq_true_eq] at h
    simp only [sdrop]
    split
    · exact sget_below h.2 (by omega)
    · split
      · simp only [sget]
        rw [if_neg ‹_›, if_pos ‹_›]
      · simp only [sget]
        rw [if_neg ‹_›, if_neg ‹_›, ih h.2]

theorem sget_sdrop_other {d : Nat → α} {st : Store α} {lo j k : Nat} (h : sRising lo st = true) (ne : j ≠ k) :
    sget d (sdrop st k) j = sget d st j := by
  induction st generalizing lo with
  | nil => rfl
  | cons e r ih =>
    obtain ⟨i, w⟩ := e
    simp only [sRising, Bool.and_eq_true, decide_eq_true_eq] at h
    simp only [sdrop]
    split
    · rename_i hk
      subst hk
      simp only [sget]
      rw [if_neg (Ne.symm ne)]
      split
      · exact sget_below h.2 (by omega)
      · rfl
    · split
      · rfl
      · simp only [sget]
        rw [ih h.2]

/-- A store in canonical form reads what was last written at an index. -/
theorem sget_sput_same [DecidableEq α] {d : Nat → α} {st : Store α} {k : Nat} {v : α} (h : sWf d st = true) :
    sget d (sput d st k v) k = v := by
  simp only [sWf, Bool.and_eq_true] at h
  unfold sput
  split
  · rename_i hv; rw [sget_sdrop_same h.1, hv]
  · exact sget_sinsert_same d st k v

/-- A write leaves every other index alone. -/
theorem sget_sput_other [DecidableEq α] {d : Nat → α} {st : Store α} {j k : Nat} {v : α} (h : sWf d st = true) (ne : j ≠ k) :
    sget d (sput d st k v) j = sget d st j := by
  simp only [sWf, Bool.and_eq_true] at h
  unfold sput
  split
  · exact sget_sdrop_other h.1 ne
  · exact sget_sinsert_other h.1 ne

theorem sRising_sdrop {st : Store α} {lo k : Nat} (h : sRising lo st = true) : sRising lo (sdrop st k) = true := by
  induction st generalizing lo with
  | nil => rfl
  | cons e r ih =>
    obtain ⟨i, w⟩ := e
    have h' := h
    simp only [sRising, Bool.and_eq_true, decide_eq_true_eq] at h
    simp only [sdrop]
    split
    · exact sRising_mono h.2 (by omega)
    · split
      · exact h'
      · simp only [sRising, Bool.and_eq_true, decide_eq_true_eq]
        exact ⟨h.1, ih h.2⟩

theorem sRising_sinsert {st : Store α} {lo k : Nat} {v : α} (h : sRising lo st = true) (le : lo ≤ k) :
    sRising lo (sinsert st k v) = true := by
  induction st generalizing lo with
  | nil => simp [sinsert, sRising, le]
  | cons e r ih =>
    obtain ⟨i, w⟩ := e
    simp only [sRising, Bool.and_eq_true, decide_eq_true_eq] at h
    simp only [sinsert]
    split
    · rename_i hk
      subst hk
      simp only [sRising, Bool.and_eq_true, decide_eq_true_eq]
      exact h
    · split
      · simp only [sRising, Bool.and_eq_true, decide_eq_true_eq]
        exact ⟨le, by omega, h.2⟩
      · simp only [sRising, Bool.and_eq_true, decide_eq_true_eq]
        exact ⟨h.1, ih h.2 (by omega)⟩

theorem sLean_sdrop [DecidableEq α] {d : Nat → α} {st : Store α} {k : Nat} (h : sLean d st = true) :
    sLean d (sdrop st k) = true := by
  induction st with
  | nil => rfl
  | cons e r ih =>
    obtain ⟨i, w⟩ := e
    have h' := h
    simp only [sLean, List.all_cons, Bool.and_eq_true] at h
    simp only [sdrop]
    split
    · exact h.2
    · split
      · exact h'
      · simp only [sLean, List.all_cons, Bool.and_eq_true]
        exact ⟨h.1, ih h.2⟩

theorem sLean_sinsert [DecidableEq α] {d : Nat → α} {st : Store α} {k : Nat} {v : α} (h : sLean d st = true) (ne : v ≠ d k) :
    sLean d (sinsert st k v) = true := by
  induction st with
  | nil => simp [sinsert, sLean, ne]
  | cons e r ih =>
    obtain ⟨i, w⟩ := e
    have h' := h
    simp only [sLean, List.all_cons, Bool.and_eq_true] at h
    simp only [sinsert]
    split
    · simp only [sLean, List.all_cons, Bool.and_eq_true, decide_eq_true_eq]
      exact ⟨ne, h.2⟩
    · split
      · simp only [sLean, List.all_cons, Bool.and_eq_true, decide_eq_true_eq] at h' ⊢
        exact ⟨ne, h'⟩
      · simp only [sLean, List.all_cons, Bool.and_eq_true]
        exact ⟨h.1, ih h.2⟩

/-- A write keeps the canonical form. -/
theorem sWf_sput [DecidableEq α] {d : Nat → α} {st : Store α} {k : Nat} {v : α} (h : sWf d st = true) :
    sWf d (sput d st k v) = true := by
  simp only [sWf, Bool.and_eq_true] at h ⊢
  unfold sput
  split
  · exact ⟨sRising_sdrop h.1, sLean_sdrop h.2⟩
  · exact ⟨sRising_sinsert h.1 (Nat.zero_le k), sLean_sinsert h.2 ‹_›⟩

theorem sRising_filter {st : Store α} {lo : Nat} (p : Nat × α → Bool) (h : sRising lo st = true) :
    sRising lo (st.filter p) = true := by
  induction st generalizing lo with
  | nil => rfl
  | cons e r ih =>
    obtain ⟨i, w⟩ := e
    simp only [sRising, Bool.and_eq_true, decide_eq_true_eq] at h
    simp only [List.filter_cons]
    split
    · simp only [sRising, Bool.and_eq_true, decide_eq_true_eq]
      exact ⟨h.1, ih h.2⟩
    · exact ih (sRising_mono h.2 (by omega))

/-- Dropping entries keeps the canonical form. -/
theorem sWf_filter [DecidableEq α] {d : Nat → α} {st : Store α} (p : Nat × α → Bool) (h : sWf d st = true) :
    sWf d (st.filter p) = true := by
  simp only [sWf, sLean, Bool.and_eq_true] at h ⊢
  refine ⟨sRising_filter p h.1, ?_⟩
  rw [List.all_eq_true] at h ⊢
  exact fun e he => h.2 e (List.mem_of_mem_filter he)

@[simp] theorem sget_nil (d : Nat → α) (k : Nat) : sget d [] k = d k := rfl

end Sys2Proof.Machine
end

