-- ==== Sys2Proof/Laws/State.lean ====
section
/-! SUPPORT. What each named update leaves of each field of the state, so that no proof unfolds a record update; and what registers and
memory read as after a write. -/
namespace Sys2Proof.Machine
namespace State

variable (s : State)

/-! ### wr -/
@[simp] theorem wr_live (a : Nat) (v : Word) : (s.wr a v).live = s.live := rfl
@[simp] theorem wr_cap (a : Nat) (v : Word) : (s.wr a v).cap = s.cap := rfl
@[simp] theorem wr_mem (a : Nat) (v : Word) : (s.wr a v).mem = s.mem := rfl
@[simp] theorem wr_now (a : Nat) (v : Word) : (s.wr a v).now = s.now := rfl
@[simp] theorem wr_ras (a : Nat) (v : Word) : (s.wr a v).ras = s.ras := rfl
@[simp] theorem wr_links (a : Nat) (v : Word) : (s.wr a v).links = s.links := rfl
@[simp] theorem wr_segs (a : Nat) (v : Word) : (s.wr a v).segs = s.segs := rfl
@[simp] theorem wr_layers (a : Nat) (v : Word) : (s.wr a v).layers = s.layers := rfl
@[simp] theorem wr_surfs (a : Nat) (v : Word) : (s.wr a v).surfs = s.surfs := rfl
@[simp] theorem wr_strs (a : Nat) (v : Word) : (s.wr a v).strs = s.strs := rfl
@[simp] theorem wr_beam (a : Nat) (v : Word) : (s.wr a v).beam = s.beam := rfl
@[simp] theorem wr_corr (a : Nat) (v : Word) : (s.wr a v).corr = s.corr := rfl
@[simp] theorem wr_hlt (a : Nat) (v : Word) : (s.wr a v).hlt = s.hlt := rfl
@[simp] theorem wr_sup (a : Nat) (v : Word) : (s.wr a v).sup = s.sup := rfl
@[simp] theorem wr_pol (a : Nat) (v : Word) : (s.wr a v).pol = s.pol := rfl
@[simp] theorem wr_snow (a : Nat) (v : Word) : (s.wr a v).snow = s.snow := rfl
@[simp] theorem wr_crc (a : Nat) (v : Word) : (s.wr a v).crc = s.crc := rfl
@[simp] theorem wr_mbx (a : Nat) (v : Word) : (s.wr a v).mbx = s.mbx := rfl
@[simp] theorem wr_loads (a : Nat) (v : Word) : (s.wr a v).loads = s.loads := rfl
@[simp] theorem wr_host (a : Nat) (v : Word) : (s.wr a v).host = s.host := rfl
@[simp] theorem wr_fab (a : Nat) (v : Word) : (s.wr a v).fab = s.fab := rfl
@[simp] theorem wr_ptp (a : Nat) (v : Word) : (s.wr a v).ptp = s.ptp := rfl
@[simp] theorem wr_lanes (a : Nat) (v : Word) : (s.wr a v).lanes = s.lanes := rfl
@[simp] theorem wr_groups (a : Nat) (v : Word) : (s.wr a v).groups = s.groups := rfl
@[simp] theorem wr_net (a : Nat) (v : Word) : (s.wr a v).net = s.net := rfl
@[simp] theorem wr_hk (a : Nat) (v : Word) : (s.wr a v).hk = s.hk := rfl
@[simp] theorem wr_fw (a : Nat) (v : Word) : (s.wr a v).fw = s.fw := rfl
@[simp] theorem wr_pwr (a : Nat) (v : Word) : (s.wr a v).pwr = s.pwr := rfl
@[simp] theorem wr_pins (a : Nat) (v : Word) : (s.wr a v).pins = s.pins := rfl
@[simp] theorem wr_out (a : Nat) (v : Word) : (s.wr a v).out = s.out := rfl
@[simp] theorem wr_free (a : Nat) (v : Word) : (s.wr a v).free = s.free := rfl
@[simp] theorem wr_pending (a : Nat) (v : Word) : (s.wr a v).pending = s.pending := rfl
@[simp] theorem lrd_wr (a : Nat) (v : Word) (k : Nat) : (s.wr a v).lrd k = s.lrd k := rfl
@[simp] theorem byte_wr (a : Nat) (v : Word) (k : Nat) : (s.wr a v).byte k = s.byte k := rfl

/-! ### wf -/
@[simp] theorem wf_live (a lo len v : Nat) : (s.wf a lo len v).live = s.live := rfl
@[simp] theorem wf_cap (a lo len v : Nat) : (s.wf a lo len v).cap = s.cap := rfl
@[simp] theorem wf_mem (a lo len v : Nat) : (s.wf a lo len v).mem = s.mem := rfl
@[simp] theorem wf_now (a lo len v : Nat) : (s.wf a lo len v).now = s.now := rfl
@[simp] theorem wf_ras (a lo len v : Nat) : (s.wf a lo len v).ras = s.ras := rfl
@[simp] theorem wf_links (a lo len v : Nat) : (s.wf a lo len v).links = s.links := rfl
@[simp] theorem wf_segs (a lo len v : Nat) : (s.wf a lo len v).segs = s.segs := rfl
@[simp] theorem wf_layers (a lo len v : Nat) : (s.wf a lo len v).layers = s.layers := rfl
@[simp] theorem wf_surfs (a lo len v : Nat) : (s.wf a lo len v).surfs = s.surfs := rfl
@[simp] theorem wf_strs (a lo len v : Nat) : (s.wf a lo len v).strs = s.strs := rfl
@[simp] theorem wf_beam (a lo len v : Nat) : (s.wf a lo len v).beam = s.beam := rfl
@[simp] theorem wf_corr (a lo len v : Nat) : (s.wf a lo len v).corr = s.corr := rfl
@[simp] theorem wf_hlt (a lo len v : Nat) : (s.wf a lo len v).hlt = s.hlt := rfl
@[simp] theorem wf_sup (a lo len v : Nat) : (s.wf a lo len v).sup = s.sup := rfl
@[simp] theorem wf_pol (a lo len v : Nat) : (s.wf a lo len v).pol = s.pol := rfl
@[simp] theorem wf_snow (a lo len v : Nat) : (s.wf a lo len v).snow = s.snow := rfl
@[simp] theorem wf_crc (a lo len v : Nat) : (s.wf a lo len v).crc = s.crc := rfl
@[simp] theorem wf_mbx (a lo len v : Nat) : (s.wf a lo len v).mbx = s.mbx := rfl
@[simp] theorem wf_loads (a lo len v : Nat) : (s.wf a lo len v).loads = s.loads := rfl
@[simp] theorem wf_host (a lo len v : Nat) : (s.wf a lo len v).host = s.host := rfl
@[simp] theorem wf_fab (a lo len v : Nat) : (s.wf a lo len v).fab = s.fab := rfl
@[simp] theorem wf_ptp (a lo len v : Nat) : (s.wf a lo len v).ptp = s.ptp := rfl
@[simp] theorem wf_lanes (a lo len v : Nat) : (s.wf a lo len v).lanes = s.lanes := rfl
@[simp] theorem wf_groups (a lo len v : Nat) : (s.wf a lo len v).groups = s.groups := rfl
@[simp] theorem wf_net (a lo len v : Nat) : (s.wf a lo len v).net = s.net := rfl
@[simp] theorem wf_hk (a lo len v : Nat) : (s.wf a lo len v).hk = s.hk := rfl
@[simp] theorem wf_fw (a lo len v : Nat) : (s.wf a lo len v).fw = s.fw := rfl
@[simp] theorem wf_pwr (a lo len v : Nat) : (s.wf a lo len v).pwr = s.pwr := rfl
@[simp] theorem wf_pins (a lo len v : Nat) : (s.wf a lo len v).pins = s.pins := rfl
@[simp] theorem wf_out (a lo len v : Nat) : (s.wf a lo len v).out = s.out := rfl
@[simp] theorem wf_free (a lo len v : Nat) : (s.wf a lo len v).free = s.free := rfl
@[simp] theorem wf_pending (a lo len v : Nat) : (s.wf a lo len v).pending = s.pending := rfl
@[simp] theorem lrd_wf (a lo len v : Nat) (k : Nat) : (s.wf a lo len v).lrd k = s.lrd k := rfl
@[simp] theorem byte_wf (a lo len v : Nat) (k : Nat) : (s.wf a lo len v).byte k = s.byte k := rfl

/-! ### wb -/
@[simp] theorem wb_live (a lo : Nat) (b : Bool) : (s.wb a lo b).live = s.live := rfl
@[simp] theorem wb_cap (a lo : Nat) (b : Bool) : (s.wb a lo b).cap = s.cap := rfl
@[simp] theorem wb_mem (a lo : Nat) (b : Bool) : (s.wb a lo b).mem = s.mem := rfl
@[simp] theorem wb_now (a lo : Nat) (b : Bool) : (s.wb a lo b).now = s.now := rfl
@[simp] theorem wb_ras (a lo : Nat) (b : Bool) : (s.wb a lo b).ras = s.ras := rfl
@[simp] theorem wb_links (a lo : Nat) (b : Bool) : (s.wb a lo b).links = s.links := rfl
@[simp] theorem wb_segs (a lo : Nat) (b : Bool) : (s.wb a lo b).segs = s.segs := rfl
@[simp] theorem wb_layers (a lo : Nat) (b : Bool) : (s.wb a lo b).layers = s.layers := rfl
@[simp] theorem wb_surfs (a lo : Nat) (b : Bool) : (s.wb a lo b).surfs = s.surfs := rfl
@[simp] theorem wb_strs (a lo : Nat) (b : Bool) : (s.wb a lo b).strs = s.strs := rfl
@[simp] theorem wb_beam (a lo : Nat) (b : Bool) : (s.wb a lo b).beam = s.beam := rfl
@[simp] theorem wb_corr (a lo : Nat) (b : Bool) : (s.wb a lo b).corr = s.corr := rfl
@[simp] theorem wb_hlt (a lo : Nat) (b : Bool) : (s.wb a lo b).hlt = s.hlt := rfl
@[simp] theorem wb_sup (a lo : Nat) (b : Bool) : (s.wb a lo b).sup = s.sup := rfl
@[simp] theorem wb_pol (a lo : Nat) (b : Bool) : (s.wb a lo b).pol = s.pol := rfl
@[simp] theorem wb_snow (a lo : Nat) (b : Bool) : (s.wb a lo b).snow = s.snow := rfl
@[simp] theorem wb_crc (a lo : Nat) (b : Bool) : (s.wb a lo b).crc = s.crc := rfl
@[simp] theorem wb_mbx (a lo : Nat) (b : Bool) : (s.wb a lo b).mbx = s.mbx := rfl
@[simp] theorem wb_loads (a lo : Nat) (b : Bool) : (s.wb a lo b).loads = s.loads := rfl
@[simp] theorem wb_host (a lo : Nat) (b : Bool) : (s.wb a lo b).host = s.host := rfl
@[simp] theorem wb_fab (a lo : Nat) (b : Bool) : (s.wb a lo b).fab = s.fab := rfl
@[simp] theorem wb_ptp (a lo : Nat) (b : Bool) : (s.wb a lo b).ptp = s.ptp := rfl
@[simp] theorem wb_lanes (a lo : Nat) (b : Bool) : (s.wb a lo b).lanes = s.lanes := rfl
@[simp] theorem wb_groups (a lo : Nat) (b : Bool) : (s.wb a lo b).groups = s.groups := rfl
@[simp] theorem wb_net (a lo : Nat) (b : Bool) : (s.wb a lo b).net = s.net := rfl
@[simp] theorem wb_hk (a lo : Nat) (b : Bool) : (s.wb a lo b).hk = s.hk := rfl
@[simp] theorem wb_fw (a lo : Nat) (b : Bool) : (s.wb a lo b).fw = s.fw := rfl
@[simp] theorem wb_pwr (a lo : Nat) (b : Bool) : (s.wb a lo b).pwr = s.pwr := rfl
@[simp] theorem wb_pins (a lo : Nat) (b : Bool) : (s.wb a lo b).pins = s.pins := rfl
@[simp] theorem wb_out (a lo : Nat) (b : Bool) : (s.wb a lo b).out = s.out := rfl
@[simp] theorem wb_free (a lo : Nat) (b : Bool) : (s.wb a lo b).free = s.free := rfl
@[simp] theorem wb_pending (a lo : Nat) (b : Bool) : (s.wb a lo b).pending = s.pending := rfl
@[simp] theorem lrd_wb (a lo : Nat) (b : Bool) (k : Nat) : (s.wb a lo b).lrd k = s.lrd k := rfl
@[simp] theorem byte_wb (a lo : Nat) (b : Bool) (k : Nat) : (s.wb a lo b).byte k = s.byte k := rfl

/-! ### countBy -/
@[simp] theorem countBy_live (a n : Nat) : (s.countBy a n).live = s.live := rfl
@[simp] theorem countBy_cap (a n : Nat) : (s.countBy a n).cap = s.cap := rfl
@[simp] theorem countBy_mem (a n : Nat) : (s.countBy a n).mem = s.mem := rfl
@[simp] theorem countBy_now (a n : Nat) : (s.countBy a n).now = s.now := rfl
@[simp] theorem countBy_ras (a n : Nat) : (s.countBy a n).ras = s.ras := rfl
@[simp] theorem countBy_links (a n : Nat) : (s.countBy a n).links = s.links := rfl
@[simp] theorem countBy_segs (a n : Nat) : (s.countBy a n).segs = s.segs := rfl
@[simp] theorem countBy_layers (a n : Nat) : (s.countBy a n).layers = s.layers := rfl
@[simp] theorem countBy_surfs (a n : Nat) : (s.countBy a n).surfs = s.surfs := rfl
@[simp] theorem countBy_strs (a n : Nat) : (s.countBy a n).strs = s.strs := rfl
@[simp] theorem countBy_beam (a n : Nat) : (s.countBy a n).beam = s.beam := rfl
@[simp] theorem countBy_corr (a n : Nat) : (s.countBy a n).corr = s.corr := rfl
@[simp] theorem countBy_hlt (a n : Nat) : (s.countBy a n).hlt = s.hlt := rfl
@[simp] theorem countBy_sup (a n : Nat) : (s.countBy a n).sup = s.sup := rfl
@[simp] theorem countBy_pol (a n : Nat) : (s.countBy a n).pol = s.pol := rfl
@[simp] theorem countBy_snow (a n : Nat) : (s.countBy a n).snow = s.snow := rfl
@[simp] theorem countBy_crc (a n : Nat) : (s.countBy a n).crc = s.crc := rfl
@[simp] theorem countBy_mbx (a n : Nat) : (s.countBy a n).mbx = s.mbx := rfl
@[simp] theorem countBy_loads (a n : Nat) : (s.countBy a n).loads = s.loads := rfl
@[simp] theorem countBy_host (a n : Nat) : (s.countBy a n).host = s.host := rfl
@[simp] theorem countBy_fab (a n : Nat) : (s.countBy a n).fab = s.fab := rfl
@[simp] theorem countBy_ptp (a n : Nat) : (s.countBy a n).ptp = s.ptp := rfl
@[simp] theorem countBy_lanes (a n : Nat) : (s.countBy a n).lanes = s.lanes := rfl
@[simp] theorem countBy_groups (a n : Nat) : (s.countBy a n).groups = s.groups := rfl
@[simp] theorem countBy_net (a n : Nat) : (s.countBy a n).net = s.net := rfl
@[simp] theorem countBy_hk (a n : Nat) : (s.countBy a n).hk = s.hk := rfl
@[simp] theorem countBy_fw (a n : Nat) : (s.countBy a n).fw = s.fw := rfl
@[simp] theorem countBy_pwr (a n : Nat) : (s.countBy a n).pwr = s.pwr := rfl
@[simp] theorem countBy_pins (a n : Nat) : (s.countBy a n).pins = s.pins := rfl
@[simp] theorem countBy_out (a n : Nat) : (s.countBy a n).out = s.out := rfl
@[simp] theorem countBy_free (a n : Nat) : (s.countBy a n).free = s.free := rfl
@[simp] theorem countBy_pending (a n : Nat) : (s.countBy a n).pending = s.pending := rfl
@[simp] theorem lrd_countBy (a n : Nat) (k : Nat) : (s.countBy a n).lrd k = s.lrd k := rfl
@[simp] theorem byte_countBy (a n : Nat) (k : Nat) : (s.countBy a n).byte k = s.byte k := rfl

/-! ### count -/
@[simp] theorem count_live (a : Nat) : (s.count a).live = s.live := rfl
@[simp] theorem count_cap (a : Nat) : (s.count a).cap = s.cap := rfl
@[simp] theorem count_mem (a : Nat) : (s.count a).mem = s.mem := rfl
@[simp] theorem count_now (a : Nat) : (s.count a).now = s.now := rfl
@[simp] theorem count_ras (a : Nat) : (s.count a).ras = s.ras := rfl
@[simp] theorem count_links (a : Nat) : (s.count a).links = s.links := rfl
@[simp] theorem count_segs (a : Nat) : (s.count a).segs = s.segs := rfl
@[simp] theorem count_layers (a : Nat) : (s.count a).layers = s.layers := rfl
@[simp] theorem count_surfs (a : Nat) : (s.count a).surfs = s.surfs := rfl
@[simp] theorem count_strs (a : Nat) : (s.count a).strs = s.strs := rfl
@[simp] theorem count_beam (a : Nat) : (s.count a).beam = s.beam := rfl
@[simp] theorem count_corr (a : Nat) : (s.count a).corr = s.corr := rfl
@[simp] theorem count_hlt (a : Nat) : (s.count a).hlt = s.hlt := rfl
@[simp] theorem count_sup (a : Nat) : (s.count a).sup = s.sup := rfl
@[simp] theorem count_pol (a : Nat) : (s.count a).pol = s.pol := rfl
@[simp] theorem count_snow (a : Nat) : (s.count a).snow = s.snow := rfl
@[simp] theorem count_crc (a : Nat) : (s.count a).crc = s.crc := rfl
@[simp] theorem count_mbx (a : Nat) : (s.count a).mbx = s.mbx := rfl
@[simp] theorem count_loads (a : Nat) : (s.count a).loads = s.loads := rfl
@[simp] theorem count_host (a : Nat) : (s.count a).host = s.host := rfl
@[simp] theorem count_fab (a : Nat) : (s.count a).fab = s.fab := rfl
@[simp] theorem count_ptp (a : Nat) : (s.count a).ptp = s.ptp := rfl
@[simp] theorem count_lanes (a : Nat) : (s.count a).lanes = s.lanes := rfl
@[simp] theorem count_groups (a : Nat) : (s.count a).groups = s.groups := rfl
@[simp] theorem count_net (a : Nat) : (s.count a).net = s.net := rfl
@[simp] theorem count_hk (a : Nat) : (s.count a).hk = s.hk := rfl
@[simp] theorem count_fw (a : Nat) : (s.count a).fw = s.fw := rfl
@[simp] theorem count_pwr (a : Nat) : (s.count a).pwr = s.pwr := rfl
@[simp] theorem count_pins (a : Nat) : (s.count a).pins = s.pins := rfl
@[simp] theorem count_out (a : Nat) : (s.count a).out = s.out := rfl
@[simp] theorem count_free (a : Nat) : (s.count a).free = s.free := rfl
@[simp] theorem count_pending (a : Nat) : (s.count a).pending = s.pending := rfl
@[simp] theorem lrd_count (a : Nat) (k : Nat) : (s.count a).lrd k = s.lrd k := rfl
@[simp] theorem byte_count (a : Nat) (k : Nat) : (s.count a).byte k = s.byte k := rfl

/-! ### lwr -/
@[simp] theorem lwr_regs (a : Nat) (v : Word) : (s.lwr a v).regs = s.regs := rfl
@[simp] theorem lwr_cap (a : Nat) (v : Word) : (s.lwr a v).cap = s.cap := rfl
@[simp] theorem lwr_mem (a : Nat) (v : Word) : (s.lwr a v).mem = s.mem := rfl
@[simp] theorem lwr_now (a : Nat) (v : Word) : (s.lwr a v).now = s.now := rfl
@[simp] theorem lwr_ras (a : Nat) (v : Word) : (s.lwr a v).ras = s.ras := rfl
@[simp] theorem lwr_links (a : Nat) (v : Word) : (s.lwr a v).links = s.links := rfl
@[simp] theorem lwr_segs (a : Nat) (v : Word) : (s.lwr a v).segs = s.segs := rfl
@[simp] theorem lwr_layers (a : Nat) (v : Word) : (s.lwr a v).layers = s.layers := rfl
@[simp] theorem lwr_surfs (a : Nat) (v : Word) : (s.lwr a v).surfs = s.surfs := rfl
@[simp] theorem lwr_strs (a : Nat) (v : Word) : (s.lwr a v).strs = s.strs := rfl
@[simp] theorem lwr_beam (a : Nat) (v : Word) : (s.lwr a v).beam = s.beam := rfl
@[simp] theorem lwr_corr (a : Nat) (v : Word) : (s.lwr a v).corr = s.corr := rfl
@[simp] theorem lwr_hlt (a : Nat) (v : Word) : (s.lwr a v).hlt = s.hlt := rfl
@[simp] theorem lwr_sup (a : Nat) (v : Word) : (s.lwr a v).sup = s.sup := rfl
@[simp] theorem lwr_pol (a : Nat) (v : Word) : (s.lwr a v).pol = s.pol := rfl
@[simp] theorem lwr_snow (a : Nat) (v : Word) : (s.lwr a v).snow = s.snow := rfl
@[simp] theorem lwr_crc (a : Nat) (v : Word) : (s.lwr a v).crc = s.crc := rfl
@[simp] theorem lwr_mbx (a : Nat) (v : Word) : (s.lwr a v).mbx = s.mbx := rfl
@[simp] theorem lwr_loads (a : Nat) (v : Word) : (s.lwr a v).loads = s.loads := rfl
@[simp] theorem lwr_host (a : Nat) (v : Word) : (s.lwr a v).host = s.host := rfl
@[simp] theorem lwr_fab (a : Nat) (v : Word) : (s.lwr a v).fab = s.fab := rfl
@[simp] theorem lwr_ptp (a : Nat) (v : Word) : (s.lwr a v).ptp = s.ptp := rfl
@[simp] theorem lwr_lanes (a : Nat) (v : Word) : (s.lwr a v).lanes = s.lanes := rfl
@[simp] theorem lwr_groups (a : Nat) (v : Word) : (s.lwr a v).groups = s.groups := rfl
@[simp] theorem lwr_net (a : Nat) (v : Word) : (s.lwr a v).net = s.net := rfl
@[simp] theorem lwr_hk (a : Nat) (v : Word) : (s.lwr a v).hk = s.hk := rfl
@[simp] theorem lwr_fw (a : Nat) (v : Word) : (s.lwr a v).fw = s.fw := rfl
@[simp] theorem lwr_pwr (a : Nat) (v : Word) : (s.lwr a v).pwr = s.pwr := rfl
@[simp] theorem lwr_pins (a : Nat) (v : Word) : (s.lwr a v).pins = s.pins := rfl
@[simp] theorem lwr_out (a : Nat) (v : Word) : (s.lwr a v).out = s.out := rfl
@[simp] theorem lwr_free (a : Nat) (v : Word) : (s.lwr a v).free = s.free := rfl
@[simp] theorem lwr_pending (a : Nat) (v : Word) : (s.lwr a v).pending = s.pending := rfl
@[simp] theorem rd_lwr (a : Nat) (v : Word) (k : Nat) : (s.lwr a v).rd k = s.rd k := rfl
@[simp] theorem fd_lwr (a : Nat) (v : Word) (k lo' len' : Nat) : (s.lwr a v).fd k lo' len' = s.fd k lo' len' := rfl
@[simp] theorem byte_lwr (a : Nat) (v : Word) (k : Nat) : (s.lwr a v).byte k = s.byte k := rfl

/-! ### capture -/
@[simp] theorem capture_regs (l : List Nat) : (s.capture l).regs = s.regs := rfl
@[simp] theorem capture_live (l : List Nat) : (s.capture l).live = s.live := rfl
@[simp] theorem capture_mem (l : List Nat) : (s.capture l).mem = s.mem := rfl
@[simp] theorem capture_now (l : List Nat) : (s.capture l).now = s.now := rfl
@[simp] theorem capture_ras (l : List Nat) : (s.capture l).ras = s.ras := rfl
@[simp] theorem capture_links (l : List Nat) : (s.capture l).links = s.links := rfl
@[simp] theorem capture_segs (l : List Nat) : (s.capture l).segs = s.segs := rfl
@[simp] theorem capture_layers (l : List Nat) : (s.capture l).layers = s.layers := rfl
@[simp] theorem capture_surfs (l : List Nat) : (s.capture l).surfs = s.surfs := rfl
@[simp] theorem capture_strs (l : List Nat) : (s.capture l).strs = s.strs := rfl
@[simp] theorem capture_beam (l : List Nat) : (s.capture l).beam = s.beam := rfl
@[simp] theorem capture_corr (l : List Nat) : (s.capture l).corr = s.corr := rfl
@[simp] theorem capture_hlt (l : List Nat) : (s.capture l).hlt = s.hlt := rfl
@[simp] theorem capture_sup (l : List Nat) : (s.capture l).sup = s.sup := rfl
@[simp] theorem capture_pol (l : List Nat) : (s.capture l).pol = s.pol := rfl
@[simp] theorem capture_snow (l : List Nat) : (s.capture l).snow = s.snow := rfl
@[simp] theorem capture_crc (l : List Nat) : (s.capture l).crc = s.crc := rfl
@[simp] theorem capture_mbx (l : List Nat) : (s.capture l).mbx = s.mbx := rfl
@[simp] theorem capture_loads (l : List Nat) : (s.capture l).loads = s.loads := rfl
@[simp] theorem capture_host (l : List Nat) : (s.capture l).host = s.host := rfl
@[simp] theorem capture_fab (l : List Nat) : (s.capture l).fab = s.fab := rfl
@[simp] theorem capture_ptp (l : List Nat) : (s.capture l).ptp = s.ptp := rfl
@[simp] theorem capture_lanes (l : List Nat) : (s.capture l).lanes = s.lanes := rfl
@[simp] theorem capture_groups (l : List Nat) : (s.capture l).groups = s.groups := rfl
@[simp] theorem capture_net (l : List Nat) : (s.capture l).net = s.net := rfl
@[simp] theorem capture_hk (l : List Nat) : (s.capture l).hk = s.hk := rfl
@[simp] theorem capture_fw (l : List Nat) : (s.capture l).fw = s.fw := rfl
@[simp] theorem capture_pwr (l : List Nat) : (s.capture l).pwr = s.pwr := rfl
@[simp] theorem capture_pins (l : List Nat) : (s.capture l).pins = s.pins := rfl
@[simp] theorem capture_out (l : List Nat) : (s.capture l).out = s.out := rfl
@[simp] theorem capture_free (l : List Nat) : (s.capture l).free = s.free := rfl
@[simp] theorem capture_pending (l : List Nat) : (s.capture l).pending = s.pending := rfl
@[simp] theorem rd_capture (l : List Nat) (k : Nat) : (s.capture l).rd k = s.rd k := rfl
@[simp] theorem fd_capture (l : List Nat) (k lo' len' : Nat) : (s.capture l).fd k lo' len' = s.fd k lo' len' := rfl
@[simp] theorem lrd_capture (l : List Nat) (k : Nat) : (s.capture l).lrd k = s.lrd k := rfl
@[simp] theorem byte_capture (l : List Nat) (k : Nat) : (s.capture l).byte k = s.byte k := rfl

/-! ### uncapture -/
@[simp] theorem uncapture_regs (l : List Nat) : (s.uncapture l).regs = s.regs := rfl
@[simp] theorem uncapture_live (l : List Nat) : (s.uncapture l).live = s.live := rfl
@[simp] theorem uncapture_mem (l : List Nat) : (s.uncapture l).mem = s.mem := rfl
@[simp] theorem uncapture_now (l : List Nat) : (s.uncapture l).now = s.now := rfl
@[simp] theorem uncapture_ras (l : List Nat) : (s.uncapture l).ras = s.ras := rfl
@[simp] theorem uncapture_links (l : List Nat) : (s.uncapture l).links = s.links := rfl
@[simp] theorem uncapture_segs (l : List Nat) : (s.uncapture l).segs = s.segs := rfl
@[simp] theorem uncapture_layers (l : List Nat) : (s.uncapture l).layers = s.layers := rfl
@[simp] theorem uncapture_surfs (l : List Nat) : (s.uncapture l).surfs = s.surfs := rfl
@[simp] theorem uncapture_strs (l : List Nat) : (s.uncapture l).strs = s.strs := rfl
@[simp] theorem uncapture_beam (l : List Nat) : (s.uncapture l).beam = s.beam := rfl
@[simp] theorem uncapture_corr (l : List Nat) : (s.uncapture l).corr = s.corr := rfl
@[simp] theorem uncapture_hlt (l : List Nat) : (s.uncapture l).hlt = s.hlt := rfl
@[simp] theorem uncapture_sup (l : List Nat) : (s.uncapture l).sup = s.sup := rfl
@[simp] theorem uncapture_pol (l : List Nat) : (s.uncapture l).pol = s.pol := rfl
@[simp] theorem uncapture_snow (l : List Nat) : (s.uncapture l).snow = s.snow := rfl
@[simp] theorem uncapture_crc (l : List Nat) : (s.uncapture l).crc = s.crc := rfl
@[simp] theorem uncapture_mbx (l : List Nat) : (s.uncapture l).mbx = s.mbx := rfl
@[simp] theorem uncapture_loads (l : List Nat) : (s.uncapture l).loads = s.loads := rfl
@[simp] theorem uncapture_host (l : List Nat) : (s.uncapture l).host = s.host := rfl
@[simp] theorem uncapture_fab (l : List Nat) : (s.uncapture l).fab = s.fab := rfl
@[simp] theorem uncapture_ptp (l : List Nat) : (s.uncapture l).ptp = s.ptp := rfl
@[simp] theorem uncapture_lanes (l : List Nat) : (s.uncapture l).lanes = s.lanes := rfl
@[simp] theorem uncapture_groups (l : List Nat) : (s.uncapture l).groups = s.groups := rfl
@[simp] theorem uncapture_net (l : List Nat) : (s.uncapture l).net = s.net := rfl
@[simp] theorem uncapture_hk (l : List Nat) : (s.uncapture l).hk = s.hk := rfl
@[simp] theorem uncapture_fw (l : List Nat) : (s.uncapture l).fw = s.fw := rfl
@[simp] theorem uncapture_pwr (l : List Nat) : (s.uncapture l).pwr = s.pwr := rfl
@[simp] theorem uncapture_pins (l : List Nat) : (s.uncapture l).pins = s.pins := rfl
@[simp] theorem uncapture_out (l : List Nat) : (s.uncapture l).out = s.out := rfl
@[simp] theorem uncapture_free (l : List Nat) : (s.uncapture l).free = s.free := rfl
@[simp] theorem uncapture_pending (l : List Nat) : (s.uncapture l).pending = s.pending := rfl
@[simp] theorem rd_uncapture (l : List Nat) (k : Nat) : (s.uncapture l).rd k = s.rd k := rfl
@[simp] theorem fd_uncapture (l : List Nat) (k lo' len' : Nat) : (s.uncapture l).fd k lo' len' = s.fd k lo' len' := rfl
@[simp] theorem lrd_uncapture (l : List Nat) (k : Nat) : (s.uncapture l).lrd k = s.lrd k := rfl
@[simp] theorem byte_uncapture (l : List Nat) (k : Nat) : (s.uncapture l).byte k = s.byte k := rfl

/-! ### applyCaps -/
@[simp] theorem applyCaps_regs : (s.applyCaps).regs = s.regs := rfl
@[simp] theorem applyCaps_mem : (s.applyCaps).mem = s.mem := rfl
@[simp] theorem applyCaps_now : (s.applyCaps).now = s.now := rfl
@[simp] theorem applyCaps_ras : (s.applyCaps).ras = s.ras := rfl
@[simp] theorem applyCaps_links : (s.applyCaps).links = s.links := rfl
@[simp] theorem applyCaps_segs : (s.applyCaps).segs = s.segs := rfl
@[simp] theorem applyCaps_layers : (s.applyCaps).layers = s.layers := rfl
@[simp] theorem applyCaps_surfs : (s.applyCaps).surfs = s.surfs := rfl
@[simp] theorem applyCaps_strs : (s.applyCaps).strs = s.strs := rfl
@[simp] theorem applyCaps_beam : (s.applyCaps).beam = s.beam := rfl
@[simp] theorem applyCaps_corr : (s.applyCaps).corr = s.corr := rfl
@[simp] theorem applyCaps_hlt : (s.applyCaps).hlt = s.hlt := rfl
@[simp] theorem applyCaps_sup : (s.applyCaps).sup = s.sup := rfl
@[simp] theorem applyCaps_pol : (s.applyCaps).pol = s.pol := rfl
@[simp] theorem applyCaps_snow : (s.applyCaps).snow = s.snow := rfl
@[simp] theorem applyCaps_crc : (s.applyCaps).crc = s.crc := rfl
@[simp] theorem applyCaps_mbx : (s.applyCaps).mbx = s.mbx := rfl
@[simp] theorem applyCaps_loads : (s.applyCaps).loads = s.loads := rfl
@[simp] theorem applyCaps_host : (s.applyCaps).host = s.host := rfl
@[simp] theorem applyCaps_fab : (s.applyCaps).fab = s.fab := rfl
@[simp] theorem applyCaps_ptp : (s.applyCaps).ptp = s.ptp := rfl
@[simp] theorem applyCaps_lanes : (s.applyCaps).lanes = s.lanes := rfl
@[simp] theorem applyCaps_groups : (s.applyCaps).groups = s.groups := rfl
@[simp] theorem applyCaps_net : (s.applyCaps).net = s.net := rfl
@[simp] theorem applyCaps_hk : (s.applyCaps).hk = s.hk := rfl
@[simp] theorem applyCaps_fw : (s.applyCaps).fw = s.fw := rfl
@[simp] theorem applyCaps_pwr : (s.applyCaps).pwr = s.pwr := rfl
@[simp] theorem applyCaps_pins : (s.applyCaps).pins = s.pins := rfl
@[simp] theorem applyCaps_out : (s.applyCaps).out = s.out := rfl
@[simp] theorem applyCaps_free : (s.applyCaps).free = s.free := rfl
@[simp] theorem applyCaps_pending : (s.applyCaps).pending = s.pending := rfl
@[simp] theorem rd_applyCaps (k : Nat) : (s.applyCaps).rd k = s.rd k := rfl
@[simp] theorem fd_applyCaps (k lo' len' : Nat) : (s.applyCaps).fd k lo' len' = s.fd k lo' len' := rfl
@[simp] theorem byte_applyCaps (k : Nat) : (s.applyCaps).byte k = s.byte k := rfl

/-! ### putByte -/
@[simp] theorem putByte_regs (a : Nat) (v : Byte) : (s.putByte a v).regs = s.regs := by simp only [putByte]
@[simp] theorem putByte_live (a : Nat) (v : Byte) : (s.putByte a v).live = s.live := by simp only [putByte]
@[simp] theorem putByte_cap (a : Nat) (v : Byte) : (s.putByte a v).cap = s.cap := by simp only [putByte]
@[simp] theorem putByte_now (a : Nat) (v : Byte) : (s.putByte a v).now = s.now := by simp only [putByte]
@[simp] theorem putByte_ras (a : Nat) (v : Byte) : (s.putByte a v).ras = s.ras := by simp only [putByte]
@[simp] theorem putByte_links (a : Nat) (v : Byte) : (s.putByte a v).links = s.links := by simp only [putByte]
@[simp] theorem putByte_segs (a : Nat) (v : Byte) : (s.putByte a v).segs = s.segs := by simp only [putByte]
@[simp] theorem putByte_layers (a : Nat) (v : Byte) : (s.putByte a v).layers = s.layers := by simp only [putByte]
@[simp] theorem putByte_surfs (a : Nat) (v : Byte) : (s.putByte a v).surfs = s.surfs := by simp only [putByte]
@[simp] theorem putByte_strs (a : Nat) (v : Byte) : (s.putByte a v).strs = s.strs := by simp only [putByte]
@[simp] theorem putByte_beam (a : Nat) (v : Byte) : (s.putByte a v).beam = s.beam := by simp only [putByte]
@[simp] theorem putByte_corr (a : Nat) (v : Byte) : (s.putByte a v).corr = s.corr := by simp only [putByte]
@[simp] theorem putByte_hlt (a : Nat) (v : Byte) : (s.putByte a v).hlt = s.hlt := by simp only [putByte]
@[simp] theorem putByte_sup (a : Nat) (v : Byte) : (s.putByte a v).sup = s.sup := by simp only [putByte]
@[simp] theorem putByte_pol (a : Nat) (v : Byte) : (s.putByte a v).pol = s.pol := by simp only [putByte]
@[simp] theorem putByte_snow (a : Nat) (v : Byte) : (s.putByte a v).snow = s.snow := by simp only [putByte]
@[simp] theorem putByte_crc (a : Nat) (v : Byte) : (s.putByte a v).crc = s.crc := by simp only [putByte]
@[simp] theorem putByte_mbx (a : Nat) (v : Byte) : (s.putByte a v).mbx = s.mbx := by simp only [putByte]
@[simp] theorem putByte_loads (a : Nat) (v : Byte) : (s.putByte a v).loads = s.loads := by simp only [putByte]
@[simp] theorem putByte_host (a : Nat) (v : Byte) : (s.putByte a v).host = s.host := by simp only [putByte]
@[simp] theorem putByte_fab (a : Nat) (v : Byte) : (s.putByte a v).fab = s.fab := by simp only [putByte]
@[simp] theorem putByte_ptp (a : Nat) (v : Byte) : (s.putByte a v).ptp = s.ptp := by simp only [putByte]
@[simp] theorem putByte_lanes (a : Nat) (v : Byte) : (s.putByte a v).lanes = s.lanes := by simp only [putByte]
@[simp] theorem putByte_groups (a : Nat) (v : Byte) : (s.putByte a v).groups = s.groups := by simp only [putByte]
@[simp] theorem putByte_net (a : Nat) (v : Byte) : (s.putByte a v).net = s.net := by simp only [putByte]
@[simp] theorem putByte_hk (a : Nat) (v : Byte) : (s.putByte a v).hk = s.hk := by simp only [putByte]
@[simp] theorem putByte_fw (a : Nat) (v : Byte) : (s.putByte a v).fw = s.fw := by simp only [putByte]
@[simp] theorem putByte_pwr (a : Nat) (v : Byte) : (s.putByte a v).pwr = s.pwr := by simp only [putByte]
@[simp] theorem putByte_pins (a : Nat) (v : Byte) : (s.putByte a v).pins = s.pins := by simp only [putByte]
@[simp] theorem putByte_out (a : Nat) (v : Byte) : (s.putByte a v).out = s.out := by simp only [putByte]
@[simp] theorem putByte_free (a : Nat) (v : Byte) : (s.putByte a v).free = s.free := by simp only [putByte]
@[simp] theorem putByte_pending (a : Nat) (v : Byte) : (s.putByte a v).pending = s.pending := by simp only [putByte]
@[simp] theorem rd_putByte (a : Nat) (v : Byte) (k : Nat) : (s.putByte a v).rd k = s.rd k := by simp only [rd, putByte_regs]
@[simp] theorem fd_putByte (a : Nat) (v : Byte) (k lo' len' : Nat) : (s.putByte a v).fd k lo' len' = s.fd k lo' len' := by simp only [fd, rd, putByte_regs]
@[simp] theorem lrd_putByte (a : Nat) (v : Byte) (k : Nat) : (s.putByte a v).lrd k = s.lrd k := by simp only [lrd, putByte_live]

/-! ### setLink -/
@[simp] theorem setLink_regs (n : Nat) (l : LinkSt) : (s.setLink n l).regs = s.regs := rfl
@[simp] theorem setLink_live (n : Nat) (l : LinkSt) : (s.setLink n l).live = s.live := rfl
@[simp] theorem setLink_cap (n : Nat) (l : LinkSt) : (s.setLink n l).cap = s.cap := rfl
@[simp] theorem setLink_mem (n : Nat) (l : LinkSt) : (s.setLink n l).mem = s.mem := rfl
@[simp] theorem setLink_now (n : Nat) (l : LinkSt) : (s.setLink n l).now = s.now := rfl
@[simp] theorem setLink_ras (n : Nat) (l : LinkSt) : (s.setLink n l).ras = s.ras := rfl
@[simp] theorem setLink_segs (n : Nat) (l : LinkSt) : (s.setLink n l).segs = s.segs := rfl
@[simp] theorem setLink_layers (n : Nat) (l : LinkSt) : (s.setLink n l).layers = s.layers := rfl
@[simp] theorem setLink_surfs (n : Nat) (l : LinkSt) : (s.setLink n l).surfs = s.surfs := rfl
@[simp] theorem setLink_strs (n : Nat) (l : LinkSt) : (s.setLink n l).strs = s.strs := rfl
@[simp] theorem setLink_beam (n : Nat) (l : LinkSt) : (s.setLink n l).beam = s.beam := rfl
@[simp] theorem setLink_corr (n : Nat) (l : LinkSt) : (s.setLink n l).corr = s.corr := rfl
@[simp] theorem setLink_hlt (n : Nat) (l : LinkSt) : (s.setLink n l).hlt = s.hlt := rfl
@[simp] theorem setLink_sup (n : Nat) (l : LinkSt) : (s.setLink n l).sup = s.sup := rfl
@[simp] theorem setLink_pol (n : Nat) (l : LinkSt) : (s.setLink n l).pol = s.pol := rfl
@[simp] theorem setLink_snow (n : Nat) (l : LinkSt) : (s.setLink n l).snow = s.snow := rfl
@[simp] theorem setLink_crc (n : Nat) (l : LinkSt) : (s.setLink n l).crc = s.crc := rfl
@[simp] theorem setLink_mbx (n : Nat) (l : LinkSt) : (s.setLink n l).mbx = s.mbx := rfl
@[simp] theorem setLink_loads (n : Nat) (l : LinkSt) : (s.setLink n l).loads = s.loads := rfl
@[simp] theorem setLink_host (n : Nat) (l : LinkSt) : (s.setLink n l).host = s.host := rfl
@[simp] theorem setLink_fab (n : Nat) (l : LinkSt) : (s.setLink n l).fab = s.fab := rfl
@[simp] theorem setLink_ptp (n : Nat) (l : LinkSt) : (s.setLink n l).ptp = s.ptp := rfl
@[simp] theorem setLink_lanes (n : Nat) (l : LinkSt) : (s.setLink n l).lanes = s.lanes := rfl
@[simp] theorem setLink_groups (n : Nat) (l : LinkSt) : (s.setLink n l).groups = s.groups := rfl
@[simp] theorem setLink_net (n : Nat) (l : LinkSt) : (s.setLink n l).net = s.net := rfl
@[simp] theorem setLink_hk (n : Nat) (l : LinkSt) : (s.setLink n l).hk = s.hk := rfl
@[simp] theorem setLink_fw (n : Nat) (l : LinkSt) : (s.setLink n l).fw = s.fw := rfl
@[simp] theorem setLink_pwr (n : Nat) (l : LinkSt) : (s.setLink n l).pwr = s.pwr := rfl
@[simp] theorem setLink_pins (n : Nat) (l : LinkSt) : (s.setLink n l).pins = s.pins := rfl
@[simp] theorem setLink_out (n : Nat) (l : LinkSt) : (s.setLink n l).out = s.out := rfl
@[simp] theorem setLink_free (n : Nat) (l : LinkSt) : (s.setLink n l).free = s.free := rfl
@[simp] theorem setLink_pending (n : Nat) (l : LinkSt) : (s.setLink n l).pending = s.pending := rfl
@[simp] theorem rd_setLink (n : Nat) (l : LinkSt) (k : Nat) : (s.setLink n l).rd k = s.rd k := rfl
@[simp] theorem fd_setLink (n : Nat) (l : LinkSt) (k lo' len' : Nat) : (s.setLink n l).fd k lo' len' = s.fd k lo' len' := rfl
@[simp] theorem lrd_setLink (n : Nat) (l : LinkSt) (k : Nat) : (s.setLink n l).lrd k = s.lrd k := rfl
@[simp] theorem byte_setLink (n : Nat) (l : LinkSt) (k : Nat) : (s.setLink n l).byte k = s.byte k := rfl

/-! ### modLink -/
@[simp] theorem modLink_regs (n : Nat) (f : LinkSt → LinkSt) : (s.modLink n f).regs = s.regs := rfl
@[simp] theorem modLink_live (n : Nat) (f : LinkSt → LinkSt) : (s.modLink n f).live = s.live := rfl
@[simp] theorem modLink_cap (n : Nat) (f : LinkSt → LinkSt) : (s.modLink n f).cap = s.cap := rfl
@[simp] theorem modLink_mem (n : Nat) (f : LinkSt → LinkSt) : (s.modLink n f).mem = s.mem := rfl
@[simp] theorem modLink_now (n : Nat) (f : LinkSt → LinkSt) : (s.modLink n f).now = s.now := rfl
@[simp] theorem modLink_ras (n : Nat) (f : LinkSt → LinkSt) : (s.modLink n f).ras = s.ras := rfl
@[simp] theorem modLink_segs (n : Nat) (f : LinkSt → LinkSt) : (s.modLink n f).segs = s.segs := rfl
@[simp] theorem modLink_layers (n : Nat) (f : LinkSt → LinkSt) : (s.modLink n f).layers = s.layers := rfl
@[simp] theorem modLink_surfs (n : Nat) (f : LinkSt → LinkSt) : (s.modLink n f).surfs = s.surfs := rfl
@[simp] theorem modLink_strs (n : Nat) (f : LinkSt → LinkSt) : (s.modLink n f).strs = s.strs := rfl
@[simp] theorem modLink_beam (n : Nat) (f : LinkSt → LinkSt) : (s.modLink n f).beam = s.beam := rfl
@[simp] theorem modLink_corr (n : Nat) (f : LinkSt → LinkSt) : (s.modLink n f).corr = s.corr := rfl
@[simp] theorem modLink_hlt (n : Nat) (f : LinkSt → LinkSt) : (s.modLink n f).hlt = s.hlt := rfl
@[simp] theorem modLink_sup (n : Nat) (f : LinkSt → LinkSt) : (s.modLink n f).sup = s.sup := rfl
@[simp] theorem modLink_pol (n : Nat) (f : LinkSt → LinkSt) : (s.modLink n f).pol = s.pol := rfl
@[simp] theorem modLink_snow (n : Nat) (f : LinkSt → LinkSt) : (s.modLink n f).snow = s.snow := rfl
@[simp] theorem modLink_crc (n : Nat) (f : LinkSt → LinkSt) : (s.modLink n f).crc = s.crc := rfl
@[simp] theorem modLink_mbx (n : Nat) (f : LinkSt → LinkSt) : (s.modLink n f).mbx = s.mbx := rfl
@[simp] theorem modLink_loads (n : Nat) (f : LinkSt → LinkSt) : (s.modLink n f).loads = s.loads := rfl
@[simp] theorem modLink_host (n : Nat) (f : LinkSt → LinkSt) : (s.modLink n f).host = s.host := rfl
@[simp] theorem modLink_fab (n : Nat) (f : LinkSt → LinkSt) : (s.modLink n f).fab = s.fab := rfl
@[simp] theorem modLink_ptp (n : Nat) (f : LinkSt → LinkSt) : (s.modLink n f).ptp = s.ptp := rfl
@[simp] theorem modLink_lanes (n : Nat) (f : LinkSt → LinkSt) : (s.modLink n f).lanes = s.lanes := rfl
@[simp] theorem modLink_groups (n : Nat) (f : LinkSt → LinkSt) : (s.modLink n f).groups = s.groups := rfl
@[simp] theorem modLink_net (n : Nat) (f : LinkSt → LinkSt) : (s.modLink n f).net = s.net := rfl
@[simp] theorem modLink_hk (n : Nat) (f : LinkSt → LinkSt) : (s.modLink n f).hk = s.hk := rfl
@[simp] theorem modLink_fw (n : Nat) (f : LinkSt → LinkSt) : (s.modLink n f).fw = s.fw := rfl
@[simp] theorem modLink_pwr (n : Nat) (f : LinkSt → LinkSt) : (s.modLink n f).pwr = s.pwr := rfl
@[simp] theorem modLink_pins (n : Nat) (f : LinkSt → LinkSt) : (s.modLink n f).pins = s.pins := rfl
@[simp] theorem modLink_out (n : Nat) (f : LinkSt → LinkSt) : (s.modLink n f).out = s.out := rfl
@[simp] theorem modLink_free (n : Nat) (f : LinkSt → LinkSt) : (s.modLink n f).free = s.free := rfl
@[simp] theorem modLink_pending (n : Nat) (f : LinkSt → LinkSt) : (s.modLink n f).pending = s.pending := rfl
@[simp] theorem rd_modLink (n : Nat) (f : LinkSt → LinkSt) (k : Nat) : (s.modLink n f).rd k = s.rd k := rfl
@[simp] theorem fd_modLink (n : Nat) (f : LinkSt → LinkSt) (k lo' len' : Nat) : (s.modLink n f).fd k lo' len' = s.fd k lo' len' := rfl
@[simp] theorem lrd_modLink (n : Nat) (f : LinkSt → LinkSt) (k : Nat) : (s.modLink n f).lrd k = s.lrd k := rfl
@[simp] theorem byte_modLink (n : Nat) (f : LinkSt → LinkSt) (k : Nat) : (s.modLink n f).byte k = s.byte k := rfl

/-! ### setSeg -/
@[simp] theorem setSeg_regs (n : Nat) (g : SegSt) : (s.setSeg n g).regs = s.regs := rfl
@[simp] theorem setSeg_live (n : Nat) (g : SegSt) : (s.setSeg n g).live = s.live := rfl
@[simp] theorem setSeg_cap (n : Nat) (g : SegSt) : (s.setSeg n g).cap = s.cap := rfl
@[simp] theorem setSeg_mem (n : Nat) (g : SegSt) : (s.setSeg n g).mem = s.mem := rfl
@[simp] theorem setSeg_now (n : Nat) (g : SegSt) : (s.setSeg n g).now = s.now := rfl
@[simp] theorem setSeg_ras (n : Nat) (g : SegSt) : (s.setSeg n g).ras = s.ras := rfl
@[simp] theorem setSeg_links (n : Nat) (g : SegSt) : (s.setSeg n g).links = s.links := rfl
@[simp] theorem setSeg_layers (n : Nat) (g : SegSt) : (s.setSeg n g).layers = s.layers := rfl
@[simp] theorem setSeg_surfs (n : Nat) (g : SegSt) : (s.setSeg n g).surfs = s.surfs := rfl
@[simp] theorem setSeg_strs (n : Nat) (g : SegSt) : (s.setSeg n g).strs = s.strs := rfl
@[simp] theorem setSeg_beam (n : Nat) (g : SegSt) : (s.setSeg n g).beam = s.beam := rfl
@[simp] theorem setSeg_corr (n : Nat) (g : SegSt) : (s.setSeg n g).corr = s.corr := rfl
@[simp] theorem setSeg_hlt (n : Nat) (g : SegSt) : (s.setSeg n g).hlt = s.hlt := rfl
@[simp] theorem setSeg_sup (n : Nat) (g : SegSt) : (s.setSeg n g).sup = s.sup := rfl
@[simp] theorem setSeg_pol (n : Nat) (g : SegSt) : (s.setSeg n g).pol = s.pol := rfl
@[simp] theorem setSeg_snow (n : Nat) (g : SegSt) : (s.setSeg n g).snow = s.snow := rfl
@[simp] theorem setSeg_crc (n : Nat) (g : SegSt) : (s.setSeg n g).crc = s.crc := rfl
@[simp] theorem setSeg_mbx (n : Nat) (g : SegSt) : (s.setSeg n g).mbx = s.mbx := rfl
@[simp] theorem setSeg_loads (n : Nat) (g : SegSt) : (s.setSeg n g).loads = s.loads := rfl
@[simp] theorem setSeg_host (n : Nat) (g : SegSt) : (s.setSeg n g).host = s.host := rfl
@[simp] theorem setSeg_fab (n : Nat) (g : SegSt) : (s.setSeg n g).fab = s.fab := rfl
@[simp] theorem setSeg_ptp (n : Nat) (g : SegSt) : (s.setSeg n g).ptp = s.ptp := rfl
@[simp] theorem setSeg_lanes (n : Nat) (g : SegSt) : (s.setSeg n g).lanes = s.lanes := rfl
@[simp] theorem setSeg_groups (n : Nat) (g : SegSt) : (s.setSeg n g).groups = s.groups := rfl
@[simp] theorem setSeg_net (n : Nat) (g : SegSt) : (s.setSeg n g).net = s.net := rfl
@[simp] theorem setSeg_hk (n : Nat) (g : SegSt) : (s.setSeg n g).hk = s.hk := rfl
@[simp] theorem setSeg_fw (n : Nat) (g : SegSt) : (s.setSeg n g).fw = s.fw := rfl
@[simp] theorem setSeg_pwr (n : Nat) (g : SegSt) : (s.setSeg n g).pwr = s.pwr := rfl
@[simp] theorem setSeg_pins (n : Nat) (g : SegSt) : (s.setSeg n g).pins = s.pins := rfl
@[simp] theorem setSeg_out (n : Nat) (g : SegSt) : (s.setSeg n g).out = s.out := rfl
@[simp] theorem setSeg_free (n : Nat) (g : SegSt) : (s.setSeg n g).free = s.free := rfl
@[simp] theorem setSeg_pending (n : Nat) (g : SegSt) : (s.setSeg n g).pending = s.pending := rfl
@[simp] theorem rd_setSeg (n : Nat) (g : SegSt) (k : Nat) : (s.setSeg n g).rd k = s.rd k := rfl
@[simp] theorem fd_setSeg (n : Nat) (g : SegSt) (k lo' len' : Nat) : (s.setSeg n g).fd k lo' len' = s.fd k lo' len' := rfl
@[simp] theorem lrd_setSeg (n : Nat) (g : SegSt) (k : Nat) : (s.setSeg n g).lrd k = s.lrd k := rfl
@[simp] theorem byte_setSeg (n : Nat) (g : SegSt) (k : Nat) : (s.setSeg n g).byte k = s.byte k := rfl

/-! ### modSeg -/
@[simp] theorem modSeg_regs (n : Nat) (f : SegSt → SegSt) : (s.modSeg n f).regs = s.regs := rfl
@[simp] theorem modSeg_live (n : Nat) (f : SegSt → SegSt) : (s.modSeg n f).live = s.live := rfl
@[simp] theorem modSeg_cap (n : Nat) (f : SegSt → SegSt) : (s.modSeg n f).cap = s.cap := rfl
@[simp] theorem modSeg_mem (n : Nat) (f : SegSt → SegSt) : (s.modSeg n f).mem = s.mem := rfl
@[simp] theorem modSeg_now (n : Nat) (f : SegSt → SegSt) : (s.modSeg n f).now = s.now := rfl
@[simp] theorem modSeg_ras (n : Nat) (f : SegSt → SegSt) : (s.modSeg n f).ras = s.ras := rfl
@[simp] theorem modSeg_links (n : Nat) (f : SegSt → SegSt) : (s.modSeg n f).links = s.links := rfl
@[simp] theorem modSeg_layers (n : Nat) (f : SegSt → SegSt) : (s.modSeg n f).layers = s.layers := rfl
@[simp] theorem modSeg_surfs (n : Nat) (f : SegSt → SegSt) : (s.modSeg n f).surfs = s.surfs := rfl
@[simp] theorem modSeg_strs (n : Nat) (f : SegSt → SegSt) : (s.modSeg n f).strs = s.strs := rfl
@[simp] theorem modSeg_beam (n : Nat) (f : SegSt → SegSt) : (s.modSeg n f).beam = s.beam := rfl
@[simp] theorem modSeg_corr (n : Nat) (f : SegSt → SegSt) : (s.modSeg n f).corr = s.corr := rfl
@[simp] theorem modSeg_hlt (n : Nat) (f : SegSt → SegSt) : (s.modSeg n f).hlt = s.hlt := rfl
@[simp] theorem modSeg_sup (n : Nat) (f : SegSt → SegSt) : (s.modSeg n f).sup = s.sup := rfl
@[simp] theorem modSeg_pol (n : Nat) (f : SegSt → SegSt) : (s.modSeg n f).pol = s.pol := rfl
@[simp] theorem modSeg_snow (n : Nat) (f : SegSt → SegSt) : (s.modSeg n f).snow = s.snow := rfl
@[simp] theorem modSeg_crc (n : Nat) (f : SegSt → SegSt) : (s.modSeg n f).crc = s.crc := rfl
@[simp] theorem modSeg_mbx (n : Nat) (f : SegSt → SegSt) : (s.modSeg n f).mbx = s.mbx := rfl
@[simp] theorem modSeg_loads (n : Nat) (f : SegSt → SegSt) : (s.modSeg n f).loads = s.loads := rfl
@[simp] theorem modSeg_host (n : Nat) (f : SegSt → SegSt) : (s.modSeg n f).host = s.host := rfl
@[simp] theorem modSeg_fab (n : Nat) (f : SegSt → SegSt) : (s.modSeg n f).fab = s.fab := rfl
@[simp] theorem modSeg_ptp (n : Nat) (f : SegSt → SegSt) : (s.modSeg n f).ptp = s.ptp := rfl
@[simp] theorem modSeg_lanes (n : Nat) (f : SegSt → SegSt) : (s.modSeg n f).lanes = s.lanes := rfl
@[simp] theorem modSeg_groups (n : Nat) (f : SegSt → SegSt) : (s.modSeg n f).groups = s.groups := rfl
@[simp] theorem modSeg_net (n : Nat) (f : SegSt → SegSt) : (s.modSeg n f).net = s.net := rfl
@[simp] theorem modSeg_hk (n : Nat) (f : SegSt → SegSt) : (s.modSeg n f).hk = s.hk := rfl
@[simp] theorem modSeg_fw (n : Nat) (f : SegSt → SegSt) : (s.modSeg n f).fw = s.fw := rfl
@[simp] theorem modSeg_pwr (n : Nat) (f : SegSt → SegSt) : (s.modSeg n f).pwr = s.pwr := rfl
@[simp] theorem modSeg_pins (n : Nat) (f : SegSt → SegSt) : (s.modSeg n f).pins = s.pins := rfl
@[simp] theorem modSeg_out (n : Nat) (f : SegSt → SegSt) : (s.modSeg n f).out = s.out := rfl
@[simp] theorem modSeg_free (n : Nat) (f : SegSt → SegSt) : (s.modSeg n f).free = s.free := rfl
@[simp] theorem modSeg_pending (n : Nat) (f : SegSt → SegSt) : (s.modSeg n f).pending = s.pending := rfl
@[simp] theorem rd_modSeg (n : Nat) (f : SegSt → SegSt) (k : Nat) : (s.modSeg n f).rd k = s.rd k := rfl
@[simp] theorem fd_modSeg (n : Nat) (f : SegSt → SegSt) (k lo' len' : Nat) : (s.modSeg n f).fd k lo' len' = s.fd k lo' len' := rfl
@[simp] theorem lrd_modSeg (n : Nat) (f : SegSt → SegSt) (k : Nat) : (s.modSeg n f).lrd k = s.lrd k := rfl
@[simp] theorem byte_modSeg (n : Nat) (f : SegSt → SegSt) (k : Nat) : (s.modSeg n f).byte k = s.byte k := rfl

/-! ### modLayer -/
@[simp] theorem modLayer_regs (n : Nat) (f : LayerSt → LayerSt) : (s.modLayer n f).regs = s.regs := rfl
@[simp] theorem modLayer_live (n : Nat) (f : LayerSt → LayerSt) : (s.modLayer n f).live = s.live := rfl
@[simp] theorem modLayer_cap (n : Nat) (f : LayerSt → LayerSt) : (s.modLayer n f).cap = s.cap := rfl
@[simp] theorem modLayer_mem (n : Nat) (f : LayerSt → LayerSt) : (s.modLayer n f).mem = s.mem := rfl
@[simp] theorem modLayer_now (n : Nat) (f : LayerSt → LayerSt) : (s.modLayer n f).now = s.now := rfl
@[simp] theorem modLayer_ras (n : Nat) (f : LayerSt → LayerSt) : (s.modLayer n f).ras = s.ras := rfl
@[simp] theorem modLayer_links (n : Nat) (f : LayerSt → LayerSt) : (s.modLayer n f).links = s.links := rfl
@[simp] theorem modLayer_segs (n : Nat) (f : LayerSt → LayerSt) : (s.modLayer n f).segs = s.segs := rfl
@[simp] theorem modLayer_surfs (n : Nat) (f : LayerSt → LayerSt) : (s.modLayer n f).surfs = s.surfs := rfl
@[simp] theorem modLayer_strs (n : Nat) (f : LayerSt → LayerSt) : (s.modLayer n f).strs = s.strs := rfl
@[simp] theorem modLayer_beam (n : Nat) (f : LayerSt → LayerSt) : (s.modLayer n f).beam = s.beam := rfl
@[simp] theorem modLayer_corr (n : Nat) (f : LayerSt → LayerSt) : (s.modLayer n f).corr = s.corr := rfl
@[simp] theorem modLayer_hlt (n : Nat) (f : LayerSt → LayerSt) : (s.modLayer n f).hlt = s.hlt := rfl
@[simp] theorem modLayer_sup (n : Nat) (f : LayerSt → LayerSt) : (s.modLayer n f).sup = s.sup := rfl
@[simp] theorem modLayer_pol (n : Nat) (f : LayerSt → LayerSt) : (s.modLayer n f).pol = s.pol := rfl
@[simp] theorem modLayer_snow (n : Nat) (f : LayerSt → LayerSt) : (s.modLayer n f).snow = s.snow := rfl
@[simp] theorem modLayer_crc (n : Nat) (f : LayerSt → LayerSt) : (s.modLayer n f).crc = s.crc := rfl
@[simp] theorem modLayer_mbx (n : Nat) (f : LayerSt → LayerSt) : (s.modLayer n f).mbx = s.mbx := rfl
@[simp] theorem modLayer_loads (n : Nat) (f : LayerSt → LayerSt) : (s.modLayer n f).loads = s.loads := rfl
@[simp] theorem modLayer_host (n : Nat) (f : LayerSt → LayerSt) : (s.modLayer n f).host = s.host := rfl
@[simp] theorem modLayer_fab (n : Nat) (f : LayerSt → LayerSt) : (s.modLayer n f).fab = s.fab := rfl
@[simp] theorem modLayer_ptp (n : Nat) (f : LayerSt → LayerSt) : (s.modLayer n f).ptp = s.ptp := rfl
@[simp] theorem modLayer_lanes (n : Nat) (f : LayerSt → LayerSt) : (s.modLayer n f).lanes = s.lanes := rfl
@[simp] theorem modLayer_groups (n : Nat) (f : LayerSt → LayerSt) : (s.modLayer n f).groups = s.groups := rfl
@[simp] theorem modLayer_net (n : Nat) (f : LayerSt → LayerSt) : (s.modLayer n f).net = s.net := rfl
@[simp] theorem modLayer_hk (n : Nat) (f : LayerSt → LayerSt) : (s.modLayer n f).hk = s.hk := rfl
@[simp] theorem modLayer_fw (n : Nat) (f : LayerSt → LayerSt) : (s.modLayer n f).fw = s.fw := rfl
@[simp] theorem modLayer_pwr (n : Nat) (f : LayerSt → LayerSt) : (s.modLayer n f).pwr = s.pwr := rfl
@[simp] theorem modLayer_pins (n : Nat) (f : LayerSt → LayerSt) : (s.modLayer n f).pins = s.pins := rfl
@[simp] theorem modLayer_out (n : Nat) (f : LayerSt → LayerSt) : (s.modLayer n f).out = s.out := rfl
@[simp] theorem modLayer_free (n : Nat) (f : LayerSt → LayerSt) : (s.modLayer n f).free = s.free := rfl
@[simp] theorem modLayer_pending (n : Nat) (f : LayerSt → LayerSt) : (s.modLayer n f).pending = s.pending := rfl
@[simp] theorem rd_modLayer (n : Nat) (f : LayerSt → LayerSt) (k : Nat) : (s.modLayer n f).rd k = s.rd k := rfl
@[simp] theorem fd_modLayer (n : Nat) (f : LayerSt → LayerSt) (k lo' len' : Nat) : (s.modLayer n f).fd k lo' len' = s.fd k lo' len' := rfl
@[simp] theorem lrd_modLayer (n : Nat) (f : LayerSt → LayerSt) (k : Nat) : (s.modLayer n f).lrd k = s.lrd k := rfl
@[simp] theorem byte_modLayer (n : Nat) (f : LayerSt → LayerSt) (k : Nat) : (s.modLayer n f).byte k = s.byte k := rfl

/-! ### modSurf -/
@[simp] theorem modSurf_regs (n : Nat) (f : SurfSt → SurfSt) : (s.modSurf n f).regs = s.regs := rfl
@[simp] theorem modSurf_live (n : Nat) (f : SurfSt → SurfSt) : (s.modSurf n f).live = s.live := rfl
@[simp] theorem modSurf_cap (n : Nat) (f : SurfSt → SurfSt) : (s.modSurf n f).cap = s.cap := rfl
@[simp] theorem modSurf_mem (n : Nat) (f : SurfSt → SurfSt) : (s.modSurf n f).mem = s.mem := rfl
@[simp] theorem modSurf_now (n : Nat) (f : SurfSt → SurfSt) : (s.modSurf n f).now = s.now := rfl
@[simp] theorem modSurf_ras (n : Nat) (f : SurfSt → SurfSt) : (s.modSurf n f).ras = s.ras := rfl
@[simp] theorem modSurf_links (n : Nat) (f : SurfSt → SurfSt) : (s.modSurf n f).links = s.links := rfl
@[simp] theorem modSurf_segs (n : Nat) (f : SurfSt → SurfSt) : (s.modSurf n f).segs = s.segs := rfl
@[simp] theorem modSurf_layers (n : Nat) (f : SurfSt → SurfSt) : (s.modSurf n f).layers = s.layers := rfl
@[simp] theorem modSurf_strs (n : Nat) (f : SurfSt → SurfSt) : (s.modSurf n f).strs = s.strs := rfl
@[simp] theorem modSurf_beam (n : Nat) (f : SurfSt → SurfSt) : (s.modSurf n f).beam = s.beam := rfl
@[simp] theorem modSurf_corr (n : Nat) (f : SurfSt → SurfSt) : (s.modSurf n f).corr = s.corr := rfl
@[simp] theorem modSurf_hlt (n : Nat) (f : SurfSt → SurfSt) : (s.modSurf n f).hlt = s.hlt := rfl
@[simp] theorem modSurf_sup (n : Nat) (f : SurfSt → SurfSt) : (s.modSurf n f).sup = s.sup := rfl
@[simp] theorem modSurf_pol (n : Nat) (f : SurfSt → SurfSt) : (s.modSurf n f).pol = s.pol := rfl
@[simp] theorem modSurf_snow (n : Nat) (f : SurfSt → SurfSt) : (s.modSurf n f).snow = s.snow := rfl
@[simp] theorem modSurf_crc (n : Nat) (f : SurfSt → SurfSt) : (s.modSurf n f).crc = s.crc := rfl
@[simp] theorem modSurf_mbx (n : Nat) (f : SurfSt → SurfSt) : (s.modSurf n f).mbx = s.mbx := rfl
@[simp] theorem modSurf_loads (n : Nat) (f : SurfSt → SurfSt) : (s.modSurf n f).loads = s.loads := rfl
@[simp] theorem modSurf_host (n : Nat) (f : SurfSt → SurfSt) : (s.modSurf n f).host = s.host := rfl
@[simp] theorem modSurf_fab (n : Nat) (f : SurfSt → SurfSt) : (s.modSurf n f).fab = s.fab := rfl
@[simp] theorem modSurf_ptp (n : Nat) (f : SurfSt → SurfSt) : (s.modSurf n f).ptp = s.ptp := rfl
@[simp] theorem modSurf_lanes (n : Nat) (f : SurfSt → SurfSt) : (s.modSurf n f).lanes = s.lanes := rfl
@[simp] theorem modSurf_groups (n : Nat) (f : SurfSt → SurfSt) : (s.modSurf n f).groups = s.groups := rfl
@[simp] theorem modSurf_net (n : Nat) (f : SurfSt → SurfSt) : (s.modSurf n f).net = s.net := rfl
@[simp] theorem modSurf_hk (n : Nat) (f : SurfSt → SurfSt) : (s.modSurf n f).hk = s.hk := rfl
@[simp] theorem modSurf_fw (n : Nat) (f : SurfSt → SurfSt) : (s.modSurf n f).fw = s.fw := rfl
@[simp] theorem modSurf_pwr (n : Nat) (f : SurfSt → SurfSt) : (s.modSurf n f).pwr = s.pwr := rfl
@[simp] theorem modSurf_pins (n : Nat) (f : SurfSt → SurfSt) : (s.modSurf n f).pins = s.pins := rfl
@[simp] theorem modSurf_out (n : Nat) (f : SurfSt → SurfSt) : (s.modSurf n f).out = s.out := rfl
@[simp] theorem modSurf_free (n : Nat) (f : SurfSt → SurfSt) : (s.modSurf n f).free = s.free := rfl
@[simp] theorem modSurf_pending (n : Nat) (f : SurfSt → SurfSt) : (s.modSurf n f).pending = s.pending := rfl
@[simp] theorem rd_modSurf (n : Nat) (f : SurfSt → SurfSt) (k : Nat) : (s.modSurf n f).rd k = s.rd k := rfl
@[simp] theorem fd_modSurf (n : Nat) (f : SurfSt → SurfSt) (k lo' len' : Nat) : (s.modSurf n f).fd k lo' len' = s.fd k lo' len' := rfl
@[simp] theorem lrd_modSurf (n : Nat) (f : SurfSt → SurfSt) (k : Nat) : (s.modSurf n f).lrd k = s.lrd k := rfl
@[simp] theorem byte_modSurf (n : Nat) (f : SurfSt → SurfSt) (k : Nat) : (s.modSurf n f).byte k = s.byte k := rfl

/-! ### modStr -/
@[simp] theorem modStr_regs (n : Nat) (f : StrSt → StrSt) : (s.modStr n f).regs = s.regs := rfl
@[simp] theorem modStr_live (n : Nat) (f : StrSt → StrSt) : (s.modStr n f).live = s.live := rfl
@[simp] theorem modStr_cap (n : Nat) (f : StrSt → StrSt) : (s.modStr n f).cap = s.cap := rfl
@[simp] theorem modStr_mem (n : Nat) (f : StrSt → StrSt) : (s.modStr n f).mem = s.mem := rfl
@[simp] theorem modStr_now (n : Nat) (f : StrSt → StrSt) : (s.modStr n f).now = s.now := rfl
@[simp] theorem modStr_ras (n : Nat) (f : StrSt → StrSt) : (s.modStr n f).ras = s.ras := rfl
@[simp] theorem modStr_links (n : Nat) (f : StrSt → StrSt) : (s.modStr n f).links = s.links := rfl
@[simp] theorem modStr_segs (n : Nat) (f : StrSt → StrSt) : (s.modStr n f).segs = s.segs := rfl
@[simp] theorem modStr_layers (n : Nat) (f : StrSt → StrSt) : (s.modStr n f).layers = s.layers := rfl
@[simp] theorem modStr_surfs (n : Nat) (f : StrSt → StrSt) : (s.modStr n f).surfs = s.surfs := rfl
@[simp] theorem modStr_beam (n : Nat) (f : StrSt → StrSt) : (s.modStr n f).beam = s.beam := rfl
@[simp] theorem modStr_corr (n : Nat) (f : StrSt → StrSt) : (s.modStr n f).corr = s.corr := rfl
@[simp] theorem modStr_hlt (n : Nat) (f : StrSt → StrSt) : (s.modStr n f).hlt = s.hlt := rfl
@[simp] theorem modStr_sup (n : Nat) (f : StrSt → StrSt) : (s.modStr n f).sup = s.sup := rfl
@[simp] theorem modStr_pol (n : Nat) (f : StrSt → StrSt) : (s.modStr n f).pol = s.pol := rfl
@[simp] theorem modStr_snow (n : Nat) (f : StrSt → StrSt) : (s.modStr n f).snow = s.snow := rfl
@[simp] theorem modStr_crc (n : Nat) (f : StrSt → StrSt) : (s.modStr n f).crc = s.crc := rfl
@[simp] theorem modStr_mbx (n : Nat) (f : StrSt → StrSt) : (s.modStr n f).mbx = s.mbx := rfl
@[simp] theorem modStr_loads (n : Nat) (f : StrSt → StrSt) : (s.modStr n f).loads = s.loads := rfl
@[simp] theorem modStr_host (n : Nat) (f : StrSt → StrSt) : (s.modStr n f).host = s.host := rfl
@[simp] theorem modStr_fab (n : Nat) (f : StrSt → StrSt) : (s.modStr n f).fab = s.fab := rfl
@[simp] theorem modStr_ptp (n : Nat) (f : StrSt → StrSt) : (s.modStr n f).ptp = s.ptp := rfl
@[simp] theorem modStr_lanes (n : Nat) (f : StrSt → StrSt) : (s.modStr n f).lanes = s.lanes := rfl
@[simp] theorem modStr_groups (n : Nat) (f : StrSt → StrSt) : (s.modStr n f).groups = s.groups := rfl
@[simp] theorem modStr_net (n : Nat) (f : StrSt → StrSt) : (s.modStr n f).net = s.net := rfl
@[simp] theorem modStr_hk (n : Nat) (f : StrSt → StrSt) : (s.modStr n f).hk = s.hk := rfl
@[simp] theorem modStr_fw (n : Nat) (f : StrSt → StrSt) : (s.modStr n f).fw = s.fw := rfl
@[simp] theorem modStr_pwr (n : Nat) (f : StrSt → StrSt) : (s.modStr n f).pwr = s.pwr := rfl
@[simp] theorem modStr_pins (n : Nat) (f : StrSt → StrSt) : (s.modStr n f).pins = s.pins := rfl
@[simp] theorem modStr_out (n : Nat) (f : StrSt → StrSt) : (s.modStr n f).out = s.out := rfl
@[simp] theorem modStr_free (n : Nat) (f : StrSt → StrSt) : (s.modStr n f).free = s.free := rfl
@[simp] theorem modStr_pending (n : Nat) (f : StrSt → StrSt) : (s.modStr n f).pending = s.pending := rfl
@[simp] theorem rd_modStr (n : Nat) (f : StrSt → StrSt) (k : Nat) : (s.modStr n f).rd k = s.rd k := rfl
@[simp] theorem fd_modStr (n : Nat) (f : StrSt → StrSt) (k lo' len' : Nat) : (s.modStr n f).fd k lo' len' = s.fd k lo' len' := rfl
@[simp] theorem lrd_modStr (n : Nat) (f : StrSt → StrSt) (k : Nat) : (s.modStr n f).lrd k = s.lrd k := rfl
@[simp] theorem byte_modStr (n : Nat) (f : StrSt → StrSt) (k : Nat) : (s.modStr n f).byte k = s.byte k := rfl

/-! ### setLamp -/
@[simp] theorem setLamp_regs (n : Nat) (l : Lamp) : (s.setLamp n l).regs = s.regs := rfl
@[simp] theorem setLamp_live (n : Nat) (l : Lamp) : (s.setLamp n l).live = s.live := rfl
@[simp] theorem setLamp_cap (n : Nat) (l : Lamp) : (s.setLamp n l).cap = s.cap := rfl
@[simp] theorem setLamp_mem (n : Nat) (l : Lamp) : (s.setLamp n l).mem = s.mem := rfl
@[simp] theorem setLamp_now (n : Nat) (l : Lamp) : (s.setLamp n l).now = s.now := rfl
@[simp] theorem setLamp_ras (n : Nat) (l : Lamp) : (s.setLamp n l).ras = s.ras := rfl
@[simp] theorem setLamp_links (n : Nat) (l : Lamp) : (s.setLamp n l).links = s.links := rfl
@[simp] theorem setLamp_segs (n : Nat) (l : Lamp) : (s.setLamp n l).segs = s.segs := rfl
@[simp] theorem setLamp_layers (n : Nat) (l : Lamp) : (s.setLamp n l).layers = s.layers := rfl
@[simp] theorem setLamp_surfs (n : Nat) (l : Lamp) : (s.setLamp n l).surfs = s.surfs := rfl
@[simp] theorem setLamp_strs (n : Nat) (l : Lamp) : (s.setLamp n l).strs = s.strs := rfl
@[simp] theorem setLamp_beam (n : Nat) (l : Lamp) : (s.setLamp n l).beam = s.beam := rfl
@[simp] theorem setLamp_corr (n : Nat) (l : Lamp) : (s.setLamp n l).corr = s.corr := rfl
@[simp] theorem setLamp_sup (n : Nat) (l : Lamp) : (s.setLamp n l).sup = s.sup := rfl
@[simp] theorem setLamp_pol (n : Nat) (l : Lamp) : (s.setLamp n l).pol = s.pol := rfl
@[simp] theorem setLamp_snow (n : Nat) (l : Lamp) : (s.setLamp n l).snow = s.snow := rfl
@[simp] theorem setLamp_crc (n : Nat) (l : Lamp) : (s.setLamp n l).crc = s.crc := rfl
@[simp] theorem setLamp_mbx (n : Nat) (l : Lamp) : (s.setLamp n l).mbx = s.mbx := rfl
@[simp] theorem setLamp_loads (n : Nat) (l : Lamp) : (s.setLamp n l).loads = s.loads := rfl
@[simp] theorem setLamp_host (n : Nat) (l : Lamp) : (s.setLamp n l).host = s.host := rfl
@[simp] theorem setLamp_fab (n : Nat) (l : Lamp) : (s.setLamp n l).fab = s.fab := rfl
@[simp] theorem setLamp_ptp (n : Nat) (l : Lamp) : (s.setLamp n l).ptp = s.ptp := rfl
@[simp] theorem setLamp_lanes (n : Nat) (l : Lamp) : (s.setLamp n l).lanes = s.lanes := rfl
@[simp] theorem setLamp_groups (n : Nat) (l : Lamp) : (s.setLamp n l).groups = s.groups := rfl
@[simp] theorem setLamp_net (n : Nat) (l : Lamp) : (s.setLamp n l).net = s.net := rfl
@[simp] theorem setLamp_hk (n : Nat) (l : Lamp) : (s.setLamp n l).hk = s.hk := rfl
@[simp] theorem setLamp_fw (n : Nat) (l : Lamp) : (s.setLamp n l).fw = s.fw := rfl
@[simp] theorem setLamp_pwr (n : Nat) (l : Lamp) : (s.setLamp n l).pwr = s.pwr := rfl
@[simp] theorem setLamp_pins (n : Nat) (l : Lamp) : (s.setLamp n l).pins = s.pins := rfl
@[simp] theorem setLamp_out (n : Nat) (l : Lamp) : (s.setLamp n l).out = s.out := rfl
@[simp] theorem setLamp_free (n : Nat) (l : Lamp) : (s.setLamp n l).free = s.free := rfl
@[simp] theorem setLamp_pending (n : Nat) (l : Lamp) : (s.setLamp n l).pending = s.pending := rfl
@[simp] theorem rd_setLamp (n : Nat) (l : Lamp) (k : Nat) : (s.setLamp n l).rd k = s.rd k := rfl
@[simp] theorem fd_setLamp (n : Nat) (l : Lamp) (k lo' len' : Nat) : (s.setLamp n l).fd k lo' len' = s.fd k lo' len' := rfl
@[simp] theorem lrd_setLamp (n : Nat) (l : Lamp) (k : Nat) : (s.setLamp n l).lrd k = s.lrd k := rfl
@[simp] theorem byte_setLamp (n : Nat) (l : Lamp) (k : Nat) : (s.setLamp n l).byte k = s.byte k := rfl

/-! ### modPolder -/
@[simp] theorem modPolder_regs (n : Nat) (f : PolSt → PolSt) : (s.modPolder n f).regs = s.regs := rfl
@[simp] theorem modPolder_live (n : Nat) (f : PolSt → PolSt) : (s.modPolder n f).live = s.live := rfl
@[simp] theorem modPolder_cap (n : Nat) (f : PolSt → PolSt) : (s.modPolder n f).cap = s.cap := rfl
@[simp] theorem modPolder_mem (n : Nat) (f : PolSt → PolSt) : (s.modPolder n f).mem = s.mem := rfl
@[simp] theorem modPolder_now (n : Nat) (f : PolSt → PolSt) : (s.modPolder n f).now = s.now := rfl
@[simp] theorem modPolder_ras (n : Nat) (f : PolSt → PolSt) : (s.modPolder n f).ras = s.ras := rfl
@[simp] theorem modPolder_links (n : Nat) (f : PolSt → PolSt) : (s.modPolder n f).links = s.links := rfl
@[simp] theorem modPolder_segs (n : Nat) (f : PolSt → PolSt) : (s.modPolder n f).segs = s.segs := rfl
@[simp] theorem modPolder_layers (n : Nat) (f : PolSt → PolSt) : (s.modPolder n f).layers = s.layers := rfl
@[simp] theorem modPolder_surfs (n : Nat) (f : PolSt → PolSt) : (s.modPolder n f).surfs = s.surfs := rfl
@[simp] theorem modPolder_strs (n : Nat) (f : PolSt → PolSt) : (s.modPolder n f).strs = s.strs := rfl
@[simp] theorem modPolder_beam (n : Nat) (f : PolSt → PolSt) : (s.modPolder n f).beam = s.beam := rfl
@[simp] theorem modPolder_corr (n : Nat) (f : PolSt → PolSt) : (s.modPolder n f).corr = s.corr := rfl
@[simp] theorem modPolder_hlt (n : Nat) (f : PolSt → PolSt) : (s.modPolder n f).hlt = s.hlt := rfl
@[simp] theorem modPolder_sup (n : Nat) (f : PolSt → PolSt) : (s.modPolder n f).sup = s.sup := rfl
@[simp] theorem modPolder_snow (n : Nat) (f : PolSt → PolSt) : (s.modPolder n f).snow = s.snow := rfl
@[simp] theorem modPolder_crc (n : Nat) (f : PolSt → PolSt) : (s.modPolder n f).crc = s.crc := rfl
@[simp] theorem modPolder_mbx (n : Nat) (f : PolSt → PolSt) : (s.modPolder n f).mbx = s.mbx := rfl
@[simp] theorem modPolder_loads (n : Nat) (f : PolSt → PolSt) : (s.modPolder n f).loads = s.loads := rfl
@[simp] theorem modPolder_host (n : Nat) (f : PolSt → PolSt) : (s.modPolder n f).host = s.host := rfl
@[simp] theorem modPolder_fab (n : Nat) (f : PolSt → PolSt) : (s.modPolder n f).fab = s.fab := rfl
@[simp] theorem modPolder_ptp (n : Nat) (f : PolSt → PolSt) : (s.modPolder n f).ptp = s.ptp := rfl
@[simp] theorem modPolder_lanes (n : Nat) (f : PolSt → PolSt) : (s.modPolder n f).lanes = s.lanes := rfl
@[simp] theorem modPolder_groups (n : Nat) (f : PolSt → PolSt) : (s.modPolder n f).groups = s.groups := rfl
@[simp] theorem modPolder_net (n : Nat) (f : PolSt → PolSt) : (s.modPolder n f).net = s.net := rfl
@[simp] theorem modPolder_hk (n : Nat) (f : PolSt → PolSt) : (s.modPolder n f).hk = s.hk := rfl
@[simp] theorem modPolder_fw (n : Nat) (f : PolSt → PolSt) : (s.modPolder n f).fw = s.fw := rfl
@[simp] theorem modPolder_pwr (n : Nat) (f : PolSt → PolSt) : (s.modPolder n f).pwr = s.pwr := rfl
@[simp] theorem modPolder_pins (n : Nat) (f : PolSt → PolSt) : (s.modPolder n f).pins = s.pins := rfl
@[simp] theorem modPolder_out (n : Nat) (f : PolSt → PolSt) : (s.modPolder n f).out = s.out := rfl
@[simp] theorem modPolder_free (n : Nat) (f : PolSt → PolSt) : (s.modPolder n f).free = s.free := rfl
@[simp] theorem modPolder_pending (n : Nat) (f : PolSt → PolSt) : (s.modPolder n f).pending = s.pending := rfl
@[simp] theorem rd_modPolder (n : Nat) (f : PolSt → PolSt) (k : Nat) : (s.modPolder n f).rd k = s.rd k := rfl
@[simp] theorem fd_modPolder (n : Nat) (f : PolSt → PolSt) (k lo' len' : Nat) : (s.modPolder n f).fd k lo' len' = s.fd k lo' len' := rfl
@[simp] theorem lrd_modPolder (n : Nat) (f : PolSt → PolSt) (k : Nat) : (s.modPolder n f).lrd k = s.lrd k := rfl
@[simp] theorem byte_modPolder (n : Nat) (f : PolSt → PolSt) (k : Nat) : (s.modPolder n f).byte k = s.byte k := rfl

/-! ### modCrcCh -/
@[simp] theorem modCrcCh_regs (n : Nat) (f : CrcSt → CrcSt) : (s.modCrcCh n f).regs = s.regs := rfl
@[simp] theorem modCrcCh_live (n : Nat) (f : CrcSt → CrcSt) : (s.modCrcCh n f).live = s.live := rfl
@[simp] theorem modCrcCh_cap (n : Nat) (f : CrcSt → CrcSt) : (s.modCrcCh n f).cap = s.cap := rfl
@[simp] theorem modCrcCh_mem (n : Nat) (f : CrcSt → CrcSt) : (s.modCrcCh n f).mem = s.mem := rfl
@[simp] theorem modCrcCh_now (n : Nat) (f : CrcSt → CrcSt) : (s.modCrcCh n f).now = s.now := rfl
@[simp] theorem modCrcCh_ras (n : Nat) (f : CrcSt → CrcSt) : (s.modCrcCh n f).ras = s.ras := rfl
@[simp] theorem modCrcCh_links (n : Nat) (f : CrcSt → CrcSt) : (s.modCrcCh n f).links = s.links := rfl
@[simp] theorem modCrcCh_segs (n : Nat) (f : CrcSt → CrcSt) : (s.modCrcCh n f).segs = s.segs := rfl
@[simp] theorem modCrcCh_layers (n : Nat) (f : CrcSt → CrcSt) : (s.modCrcCh n f).layers = s.layers := rfl
@[simp] theorem modCrcCh_surfs (n : Nat) (f : CrcSt → CrcSt) : (s.modCrcCh n f).surfs = s.surfs := rfl
@[simp] theorem modCrcCh_strs (n : Nat) (f : CrcSt → CrcSt) : (s.modCrcCh n f).strs = s.strs := rfl
@[simp] theorem modCrcCh_beam (n : Nat) (f : CrcSt → CrcSt) : (s.modCrcCh n f).beam = s.beam := rfl
@[simp] theorem modCrcCh_corr (n : Nat) (f : CrcSt → CrcSt) : (s.modCrcCh n f).corr = s.corr := rfl
@[simp] theorem modCrcCh_hlt (n : Nat) (f : CrcSt → CrcSt) : (s.modCrcCh n f).hlt = s.hlt := rfl
@[simp] theorem modCrcCh_sup (n : Nat) (f : CrcSt → CrcSt) : (s.modCrcCh n f).sup = s.sup := rfl
@[simp] theorem modCrcCh_pol (n : Nat) (f : CrcSt → CrcSt) : (s.modCrcCh n f).pol = s.pol := rfl
@[simp] theorem modCrcCh_snow (n : Nat) (f : CrcSt → CrcSt) : (s.modCrcCh n f).snow = s.snow := rfl
@[simp] theorem modCrcCh_mbx (n : Nat) (f : CrcSt → CrcSt) : (s.modCrcCh n f).mbx = s.mbx := rfl
@[simp] theorem modCrcCh_loads (n : Nat) (f : CrcSt → CrcSt) : (s.modCrcCh n f).loads = s.loads := rfl
@[simp] theorem modCrcCh_host (n : Nat) (f : CrcSt → CrcSt) : (s.modCrcCh n f).host = s.host := rfl
@[simp] theorem modCrcCh_fab (n : Nat) (f : CrcSt → CrcSt) : (s.modCrcCh n f).fab = s.fab := rfl
@[simp] theorem modCrcCh_ptp (n : Nat) (f : CrcSt → CrcSt) : (s.modCrcCh n f).ptp = s.ptp := rfl
@[simp] theorem modCrcCh_lanes (n : Nat) (f : CrcSt → CrcSt) : (s.modCrcCh n f).lanes = s.lanes := rfl
@[simp] theorem modCrcCh_groups (n : Nat) (f : CrcSt → CrcSt) : (s.modCrcCh n f).groups = s.groups := rfl
@[simp] theorem modCrcCh_net (n : Nat) (f : CrcSt → CrcSt) : (s.modCrcCh n f).net = s.net := rfl
@[simp] theorem modCrcCh_hk (n : Nat) (f : CrcSt → CrcSt) : (s.modCrcCh n f).hk = s.hk := rfl
@[simp] theorem modCrcCh_fw (n : Nat) (f : CrcSt → CrcSt) : (s.modCrcCh n f).fw = s.fw := rfl
@[simp] theorem modCrcCh_pwr (n : Nat) (f : CrcSt → CrcSt) : (s.modCrcCh n f).pwr = s.pwr := rfl
@[simp] theorem modCrcCh_pins (n : Nat) (f : CrcSt → CrcSt) : (s.modCrcCh n f).pins = s.pins := rfl
@[simp] theorem modCrcCh_out (n : Nat) (f : CrcSt → CrcSt) : (s.modCrcCh n f).out = s.out := rfl
@[simp] theorem modCrcCh_free (n : Nat) (f : CrcSt → CrcSt) : (s.modCrcCh n f).free = s.free := rfl
@[simp] theorem modCrcCh_pending (n : Nat) (f : CrcSt → CrcSt) : (s.modCrcCh n f).pending = s.pending := rfl
@[simp] theorem rd_modCrcCh (n : Nat) (f : CrcSt → CrcSt) (k : Nat) : (s.modCrcCh n f).rd k = s.rd k := rfl
@[simp] theorem fd_modCrcCh (n : Nat) (f : CrcSt → CrcSt) (k lo' len' : Nat) : (s.modCrcCh n f).fd k lo' len' = s.fd k lo' len' := rfl
@[simp] theorem lrd_modCrcCh (n : Nat) (f : CrcSt → CrcSt) (k : Nat) : (s.modCrcCh n f).lrd k = s.lrd k := rfl
@[simp] theorem byte_modCrcCh (n : Nat) (f : CrcSt → CrcSt) (k : Nat) : (s.modCrcCh n f).byte k = s.byte k := rfl

/-! ### advanceTo -/
@[simp] theorem advanceTo_regs (t : Int) : (s.advanceTo t).regs = s.regs := rfl
@[simp] theorem advanceTo_live (t : Int) : (s.advanceTo t).live = s.live := rfl
@[simp] theorem advanceTo_cap (t : Int) : (s.advanceTo t).cap = s.cap := rfl
@[simp] theorem advanceTo_mem (t : Int) : (s.advanceTo t).mem = s.mem := rfl
@[simp] theorem advanceTo_ras (t : Int) : (s.advanceTo t).ras = s.ras := rfl
@[simp] theorem advanceTo_links (t : Int) : (s.advanceTo t).links = s.links := rfl
@[simp] theorem advanceTo_segs (t : Int) : (s.advanceTo t).segs = s.segs := rfl
@[simp] theorem advanceTo_layers (t : Int) : (s.advanceTo t).layers = s.layers := rfl
@[simp] theorem advanceTo_surfs (t : Int) : (s.advanceTo t).surfs = s.surfs := rfl
@[simp] theorem advanceTo_strs (t : Int) : (s.advanceTo t).strs = s.strs := rfl
@[simp] theorem advanceTo_beam (t : Int) : (s.advanceTo t).beam = s.beam := rfl
@[simp] theorem advanceTo_corr (t : Int) : (s.advanceTo t).corr = s.corr := rfl
@[simp] theorem advanceTo_hlt (t : Int) : (s.advanceTo t).hlt = s.hlt := rfl
@[simp] theorem advanceTo_sup (t : Int) : (s.advanceTo t).sup = s.sup := rfl
@[simp] theorem advanceTo_pol (t : Int) : (s.advanceTo t).pol = s.pol := rfl
@[simp] theorem advanceTo_snow (t : Int) : (s.advanceTo t).snow = s.snow := rfl
@[simp] theorem advanceTo_crc (t : Int) : (s.advanceTo t).crc = s.crc := rfl
@[simp] theorem advanceTo_mbx (t : Int) : (s.advanceTo t).mbx = s.mbx := rfl
@[simp] theorem advanceTo_loads (t : Int) : (s.advanceTo t).loads = s.loads := rfl
@[simp] theorem advanceTo_host (t : Int) : (s.advanceTo t).host = s.host := rfl
@[simp] theorem advanceTo_fab (t : Int) : (s.advanceTo t).fab = s.fab := rfl
@[simp] theorem advanceTo_ptp (t : Int) : (s.advanceTo t).ptp = s.ptp := rfl
@[simp] theorem advanceTo_lanes (t : Int) : (s.advanceTo t).lanes = s.lanes := rfl
@[simp] theorem advanceTo_groups (t : Int) : (s.advanceTo t).groups = s.groups := rfl
@[simp] theorem advanceTo_net (t : Int) : (s.advanceTo t).net = s.net := rfl
@[simp] theorem advanceTo_hk (t : Int) : (s.advanceTo t).hk = s.hk := rfl
@[simp] theorem advanceTo_fw (t : Int) : (s.advanceTo t).fw = s.fw := rfl
@[simp] theorem advanceTo_pwr (t : Int) : (s.advanceTo t).pwr = s.pwr := rfl
@[simp] theorem advanceTo_pins (t : Int) : (s.advanceTo t).pins = s.pins := rfl
@[simp] theorem advanceTo_out (t : Int) : (s.advanceTo t).out = s.out := rfl
@[simp] theorem advanceTo_free (t : Int) : (s.advanceTo t).free = s.free := rfl
@[simp] theorem advanceTo_pending (t : Int) : (s.advanceTo t).pending = s.pending := rfl
@[simp] theorem rd_advanceTo (t : Int) (k : Nat) : (s.advanceTo t).rd k = s.rd k := rfl
@[simp] theorem fd_advanceTo (t : Int) (k lo' len' : Nat) : (s.advanceTo t).fd k lo' len' = s.fd k lo' len' := rfl
@[simp] theorem lrd_advanceTo (t : Int) (k : Nat) : (s.advanceTo t).lrd k = s.lrd k := rfl
@[simp] theorem byte_advanceTo (t : Int) (k : Nat) : (s.advanceTo t).byte k = s.byte k := rfl

/-! ### emit -/
@[simp] theorem emit_regs (o : Output) : (s.emit o).regs = s.regs := rfl
@[simp] theorem emit_live (o : Output) : (s.emit o).live = s.live := rfl
@[simp] theorem emit_cap (o : Output) : (s.emit o).cap = s.cap := rfl
@[simp] theorem emit_mem (o : Output) : (s.emit o).mem = s.mem := rfl
@[simp] theorem emit_now (o : Output) : (s.emit o).now = s.now := rfl
@[simp] theorem emit_ras (o : Output) : (s.emit o).ras = s.ras := rfl
@[simp] theorem emit_links (o : Output) : (s.emit o).links = s.links := rfl
@[simp] theorem emit_segs (o : Output) : (s.emit o).segs = s.segs := rfl
@[simp] theorem emit_layers (o : Output) : (s.emit o).layers = s.layers := rfl
@[simp] theorem emit_surfs (o : Output) : (s.emit o).surfs = s.surfs := rfl
@[simp] theorem emit_strs (o : Output) : (s.emit o).strs = s.strs := rfl
@[simp] theorem emit_beam (o : Output) : (s.emit o).beam = s.beam := rfl
@[simp] theorem emit_corr (o : Output) : (s.emit o).corr = s.corr := rfl
@[simp] theorem emit_hlt (o : Output) : (s.emit o).hlt = s.hlt := rfl
@[simp] theorem emit_sup (o : Output) : (s.emit o).sup = s.sup := rfl
@[simp] theorem emit_pol (o : Output) : (s.emit o).pol = s.pol := rfl
@[simp] theorem emit_snow (o : Output) : (s.emit o).snow = s.snow := rfl
@[simp] theorem emit_crc (o : Output) : (s.emit o).crc = s.crc := rfl
@[simp] theorem emit_mbx (o : Output) : (s.emit o).mbx = s.mbx := rfl
@[simp] theorem emit_loads (o : Output) : (s.emit o).loads = s.loads := rfl
@[simp] theorem emit_host (o : Output) : (s.emit o).host = s.host := rfl
@[simp] theorem emit_fab (o : Output) : (s.emit o).fab = s.fab := rfl
@[simp] theorem emit_ptp (o : Output) : (s.emit o).ptp = s.ptp := rfl
@[simp] theorem emit_lanes (o : Output) : (s.emit o).lanes = s.lanes := rfl
@[simp] theorem emit_groups (o : Output) : (s.emit o).groups = s.groups := rfl
@[simp] theorem emit_net (o : Output) : (s.emit o).net = s.net := rfl
@[simp] theorem emit_hk (o : Output) : (s.emit o).hk = s.hk := rfl
@[simp] theorem emit_fw (o : Output) : (s.emit o).fw = s.fw := rfl
@[simp] theorem emit_pwr (o : Output) : (s.emit o).pwr = s.pwr := rfl
@[simp] theorem emit_pins (o : Output) : (s.emit o).pins = s.pins := rfl
@[simp] theorem emit_free (o : Output) : (s.emit o).free = s.free := rfl
@[simp] theorem emit_pending (o : Output) : (s.emit o).pending = s.pending := rfl
@[simp] theorem rd_emit (o : Output) (k : Nat) : (s.emit o).rd k = s.rd k := rfl
@[simp] theorem fd_emit (o : Output) (k lo' len' : Nat) : (s.emit o).fd k lo' len' = s.fd k lo' len' := rfl
@[simp] theorem lrd_emit (o : Output) (k : Nat) : (s.emit o).lrd k = s.lrd k := rfl
@[simp] theorem byte_emit (o : Output) (k : Nat) : (s.emit o).byte k = s.byte k := rfl

/-! ### useFree -/
@[simp] theorem useFree_regs : (s.useFree).regs = s.regs := rfl
@[simp] theorem useFree_live : (s.useFree).live = s.live := rfl
@[simp] theorem useFree_cap : (s.useFree).cap = s.cap := rfl
@[simp] theorem useFree_mem : (s.useFree).mem = s.mem := rfl
@[simp] theorem useFree_now : (s.useFree).now = s.now := rfl
@[simp] theorem useFree_ras : (s.useFree).ras = s.ras := rfl
@[simp] theorem useFree_links : (s.useFree).links = s.links := rfl
@[simp] theorem useFree_segs : (s.useFree).segs = s.segs := rfl
@[simp] theorem useFree_layers : (s.useFree).layers = s.layers := rfl
@[simp] theorem useFree_surfs : (s.useFree).surfs = s.surfs := rfl
@[simp] theorem useFree_strs : (s.useFree).strs = s.strs := rfl
@[simp] theorem useFree_beam : (s.useFree).beam = s.beam := rfl
@[simp] theorem useFree_corr : (s.useFree).corr = s.corr := rfl
@[simp] theorem useFree_hlt : (s.useFree).hlt = s.hlt := rfl
@[simp] theorem useFree_sup : (s.useFree).sup = s.sup := rfl
@[simp] theorem useFree_pol : (s.useFree).pol = s.pol := rfl
@[simp] theorem useFree_snow : (s.useFree).snow = s.snow := rfl
@[simp] theorem useFree_crc : (s.useFree).crc = s.crc := rfl
@[simp] theorem useFree_mbx : (s.useFree).mbx = s.mbx := rfl
@[simp] theorem useFree_loads : (s.useFree).loads = s.loads := rfl
@[simp] theorem useFree_host : (s.useFree).host = s.host := rfl
@[simp] theorem useFree_fab : (s.useFree).fab = s.fab := rfl
@[simp] theorem useFree_ptp : (s.useFree).ptp = s.ptp := rfl
@[simp] theorem useFree_lanes : (s.useFree).lanes = s.lanes := rfl
@[simp] theorem useFree_groups : (s.useFree).groups = s.groups := rfl
@[simp] theorem useFree_net : (s.useFree).net = s.net := rfl
@[simp] theorem useFree_hk : (s.useFree).hk = s.hk := rfl
@[simp] theorem useFree_fw : (s.useFree).fw = s.fw := rfl
@[simp] theorem useFree_pwr : (s.useFree).pwr = s.pwr := rfl
@[simp] theorem useFree_pins : (s.useFree).pins = s.pins := rfl
@[simp] theorem useFree_out : (s.useFree).out = s.out := rfl
@[simp] theorem useFree_pending : (s.useFree).pending = s.pending := rfl
@[simp] theorem rd_useFree (k : Nat) : (s.useFree).rd k = s.rd k := rfl
@[simp] theorem fd_useFree (k lo' len' : Nat) : (s.useFree).fd k lo' len' = s.fd k lo' len' := rfl
@[simp] theorem lrd_useFree (k : Nat) : (s.useFree).lrd k = s.lrd k := rfl
@[simp] theorem byte_useFree (k : Nat) : (s.useFree).byte k = s.byte k := rfl

/-! ### event -/
@[simp] theorem event_regs (code cls sev ocls idx : Nat) (d : List Nat) : (s.event code cls sev ocls idx d).regs = s.regs := rfl
@[simp] theorem event_live (code cls sev ocls idx : Nat) (d : List Nat) : (s.event code cls sev ocls idx d).live = s.live := rfl
@[simp] theorem event_cap (code cls sev ocls idx : Nat) (d : List Nat) : (s.event code cls sev ocls idx d).cap = s.cap := rfl
@[simp] theorem event_mem (code cls sev ocls idx : Nat) (d : List Nat) : (s.event code cls sev ocls idx d).mem = s.mem := rfl
@[simp] theorem event_now (code cls sev ocls idx : Nat) (d : List Nat) : (s.event code cls sev ocls idx d).now = s.now := rfl
@[simp] theorem event_ras (code cls sev ocls idx : Nat) (d : List Nat) : (s.event code cls sev ocls idx d).ras = s.ras := rfl
@[simp] theorem event_links (code cls sev ocls idx : Nat) (d : List Nat) : (s.event code cls sev ocls idx d).links = s.links := rfl
@[simp] theorem event_segs (code cls sev ocls idx : Nat) (d : List Nat) : (s.event code cls sev ocls idx d).segs = s.segs := rfl
@[simp] theorem event_layers (code cls sev ocls idx : Nat) (d : List Nat) : (s.event code cls sev ocls idx d).layers = s.layers := rfl
@[simp] theorem event_surfs (code cls sev ocls idx : Nat) (d : List Nat) : (s.event code cls sev ocls idx d).surfs = s.surfs := rfl
@[simp] theorem event_strs (code cls sev ocls idx : Nat) (d : List Nat) : (s.event code cls sev ocls idx d).strs = s.strs := rfl
@[simp] theorem event_beam (code cls sev ocls idx : Nat) (d : List Nat) : (s.event code cls sev ocls idx d).beam = s.beam := rfl
@[simp] theorem event_corr (code cls sev ocls idx : Nat) (d : List Nat) : (s.event code cls sev ocls idx d).corr = s.corr := rfl
@[simp] theorem event_hlt (code cls sev ocls idx : Nat) (d : List Nat) : (s.event code cls sev ocls idx d).hlt = s.hlt := rfl
@[simp] theorem event_sup (code cls sev ocls idx : Nat) (d : List Nat) : (s.event code cls sev ocls idx d).sup = s.sup := rfl
@[simp] theorem event_pol (code cls sev ocls idx : Nat) (d : List Nat) : (s.event code cls sev ocls idx d).pol = s.pol := rfl
@[simp] theorem event_snow (code cls sev ocls idx : Nat) (d : List Nat) : (s.event code cls sev ocls idx d).snow = s.snow := rfl
@[simp] theorem event_crc (code cls sev ocls idx : Nat) (d : List Nat) : (s.event code cls sev ocls idx d).crc = s.crc := rfl
@[simp] theorem event_loads (code cls sev ocls idx : Nat) (d : List Nat) : (s.event code cls sev ocls idx d).loads = s.loads := rfl
@[simp] theorem event_host (code cls sev ocls idx : Nat) (d : List Nat) : (s.event code cls sev ocls idx d).host = s.host := rfl
@[simp] theorem event_fab (code cls sev ocls idx : Nat) (d : List Nat) : (s.event code cls sev ocls idx d).fab = s.fab := rfl
@[simp] theorem event_ptp (code cls sev ocls idx : Nat) (d : List Nat) : (s.event code cls sev ocls idx d).ptp = s.ptp := rfl
@[simp] theorem event_lanes (code cls sev ocls idx : Nat) (d : List Nat) : (s.event code cls sev ocls idx d).lanes = s.lanes := rfl
@[simp] theorem event_groups (code cls sev ocls idx : Nat) (d : List Nat) : (s.event code cls sev ocls idx d).groups = s.groups := rfl
@[simp] theorem event_net (code cls sev ocls idx : Nat) (d : List Nat) : (s.event code cls sev ocls idx d).net = s.net := rfl
@[simp] theorem event_hk (code cls sev ocls idx : Nat) (d : List Nat) : (s.event code cls sev ocls idx d).hk = s.hk := rfl
@[simp] theorem event_fw (code cls sev ocls idx : Nat) (d : List Nat) : (s.event code cls sev ocls idx d).fw = s.fw := rfl
@[simp] theorem event_pwr (code cls sev ocls idx : Nat) (d : List Nat) : (s.event code cls sev ocls idx d).pwr = s.pwr := rfl
@[simp] theorem event_pins (code cls sev ocls idx : Nat) (d : List Nat) : (s.event code cls sev ocls idx d).pins = s.pins := rfl
@[simp] theorem event_out (code cls sev ocls idx : Nat) (d : List Nat) : (s.event code cls sev ocls idx d).out = s.out := rfl
@[simp] theorem event_free (code cls sev ocls idx : Nat) (d : List Nat) : (s.event code cls sev ocls idx d).free = s.free := rfl
@[simp] theorem event_pending (code cls sev ocls idx : Nat) (d : List Nat) : (s.event code cls sev ocls idx d).pending = s.pending := rfl
@[simp] theorem rd_event (code cls sev ocls idx : Nat) (d : List Nat) (k : Nat) : (s.event code cls sev ocls idx d).rd k = s.rd k := rfl
@[simp] theorem fd_event (code cls sev ocls idx : Nat) (d : List Nat) (k lo' len' : Nat) : (s.event code cls sev ocls idx d).fd k lo' len' = s.fd k lo' len' := rfl
@[simp] theorem lrd_event (code cls sev ocls idx : Nat) (d : List Nat) (k : Nat) : (s.event code cls sev ocls idx d).lrd k = s.lrd k := rfl
@[simp] theorem byte_event (code cls sev ocls idx : Nat) (d : List Nat) (k : Nat) : (s.event code cls sev ocls idx d).byte k = s.byte k := rfl

/-! ### Reading what was written -/

@[simp] theorem emit_out (o : Output) : (s.emit o).out = s.out ++ [o] := rfl
@[simp] theorem useFree_free : s.useFree.free = s.free + 1 := rfl
@[simp] theorem applyCaps_cap : s.applyCaps.cap = [] := rfl

variable {s}

theorem rd_wr_same (h : sWf regDefault s.regs = true) (a : Nat) (v : Word) : (s.wr a v).rd a = v := sget_sput_same h

theorem rd_wr_other (h : sWf regDefault s.regs = true) {a k : Nat} (v : Word) (ne : k ≠ a) : (s.wr a v).rd k = s.rd k :=
  sget_sput_other h ne

theorem rd_wf_other (h : sWf regDefault s.regs = true) {a k : Nat} (lo len v : Nat) (ne : k ≠ a) : (s.wf a lo len v).rd k = s.rd k :=
  rd_wr_other h _ ne

theorem rd_wb_other (h : sWf regDefault s.regs = true) {a k : Nat} (lo : Nat) (b : Bool) (ne : k ≠ a) : (s.wb a lo b).rd k = s.rd k :=
  rd_wr_other h _ ne

theorem rd_countBy_other (h : sWf regDefault s.regs = true) {a k : Nat} (n : Nat) (ne : k ≠ a) : (s.countBy a n).rd k = s.rd k :=
  rd_wr_other h _ ne

theorem rd_count_same (h : sWf regDefault s.regs = true) (a : Nat) :
    (s.count a).rd a = BitVec.ofNat 32 (min ((s.rd a).toNat + 1) 0xFFFFFFFF) := rd_wr_same h a _

theorem lrd_lwr_same (h : sWf regDefault s.live = true) (a : Nat) (v : Word) : (s.lwr a v).lrd a = v := sget_sput_same h

theorem lrd_lwr_other (h : sWf regDefault s.live = true) {a k : Nat} (v : Word) (ne : k ≠ a) : (s.lwr a v).lrd k = s.lrd k :=
  sget_sput_other h ne

theorem byte_putByte_same (h : Memory.wf s.mem = true) (a : Nat) (v : Byte) : (s.putByte a v).byte a = v := sget_sput_same h

theorem byte_putByte_other (h : Memory.wf s.mem = true) {a k : Nat} (v : Byte) (ne : k ≠ a) : (s.putByte a v).byte k = s.byte k :=
  sget_sput_other h ne

/-- Writing a byte keeps the canonical form of memory. -/
theorem putByte_wf (h : Memory.wf s.mem = true) {a : Nat} {v : Byte} : Memory.wf (s.putByte a v).mem = true := sWf_sput h

/-- Writing bytes changes memory alone. -/
theorem putBytes_frame (s : State) (a : Nat) (l : List Byte) : s.putBytes a l = { s with mem := (s.putBytes a l).mem } := by
  induction l generalizing s a with
  | nil => rfl
  | cons b r ih =>
    rw [State.putBytes, ih]
    simp only [State.putByte]

/-- Writing bytes keeps the canonical form of memory. -/
theorem putBytes_wf (s : State) (a : Nat) (l : List Byte) (h : Memory.wf s.mem = true) : Memory.wf (s.putBytes a l).mem = true := by
  induction l generalizing s a with
  | nil => exact h
  | cons b r ih => exact ih _ _ (putByte_wf h)

/-- Bytes outside those written read as before. -/
theorem byte_putBytes_other (s : State) (a : Nat) (l : List Byte) (h : Memory.wf s.mem = true) {k : Nat}
    (out : k < a ∨ a + l.length ≤ k) : (s.putBytes a l).byte k = s.byte k := by
  induction l generalizing s a with
  | nil => rfl
  | cons b r ih =>
    simp only [List.length_cons] at out
    rw [State.putBytes, ih _ _ (putByte_wf h) (by omega)]
    exact byte_putByte_other h b (by omega)

end State

/-! ### Fields of words -/

/-- The two-byte split of a field update: a word without a field, plus the new value of the field, stays below 2^32. -/
theorem setFld_lt (w : Word) (lo len v : Nat) (hb : lo + len ≤ 32) :
    w.toNat - fld w lo len * 2 ^ lo + v % 2 ^ len * 2 ^ lo < 2 ^ 32 := by
  have hw : w.toNat < 2 ^ 32 := w.isLt
  have hd := Nat.div_add_mod w.toNat (2 ^ lo)
  have hm := Nat.div_add_mod (w.toNat / 2 ^ lo) (2 ^ len)
  have hq : w.toNat / 2 ^ lo / 2 ^ len = w.toNat / 2 ^ (lo + len) := by rw [Nat.div_div_eq_div_mul, Nat.pow_add]
  have hq' : w.toNat / 2 ^ (lo + len) < 2 ^ (32 - (lo + len)) := by
    rw [Nat.div_lt_iff_lt_mul (Nat.two_pow_pos _), ← Nat.pow_add]
    simpa [Nat.sub_add_cancel hb] using hw
  have hl := Nat.mod_lt w.toNat (Nat.two_pow_pos lo)
  have hv := Nat.mod_lt v (Nat.two_pow_pos len)
  simp only [fld, Nat.shiftRight_eq_div_pow]
  rw [hq] at hm
  generalize hA : w.toNat / 2 ^ (lo + len) = A at *
  generalize hF : w.toNat / 2 ^ lo % 2 ^ len = F at *
  generalize hR : w.toNat % 2 ^ lo = R at *
  generalize hV : v % 2 ^ len = V at *
  rw [← hm] at hd
  have e : (2:Nat) ^ 32 = 2 ^ lo * (2 ^ len * 2 ^ (32 - (lo + len))) := by rw [← Nat.pow_add, ← Nat.pow_add]; congr 1; omega
  have h1 : 2 ^ len * A + V + 1 ≤ 2 ^ len * 2 ^ (32 - (lo + len)) := by
    have := Nat.mul_le_mul_left (2 ^ len) hq'
    rw [Nat.mul_succ] at this
    omega
  have h2 := Nat.mul_le_mul_left (2 ^ lo) h1
  have h3 : 2 ^ lo * (2 ^ len * A + V + 1) = 2 ^ lo * (2 ^ len * A) + V * 2 ^ lo + 2 ^ lo := by ring
  have h4 : 2 ^ lo * (2 ^ len * A + F) = 2 ^ lo * (2 ^ len * A) + F * 2 ^ lo := by ring
  omega

end Sys2Proof.Machine
end

