-- ==== Sys2Proof/Laws/Keeps.lean ====
section
/-! SUPPORT. What every writer of the model keeps: the canonical form of registers, live words, captures and memory, and the queue of
waiting commands. `Keeps s t` says it of a state `t` reached from `s`; each function of the model has one lemma, in this file or in
those beside it, that carries it over one call. -/
namespace Sys2Proof.Machine

/-- `t` follows `s` with its stores canonical if those of `s` are, and with the same queue. -/
structure Keeps (s t : State) : Prop where
  canon : s.canonical = true → t.canonical = true
  queue : t.pending = s.pending

theorem canonical_iff (s : State) :
    s.canonical = true ↔
      sWf regDefault s.regs = true ∧ sWf regDefault s.live = true ∧ sWf (fun _ => none) s.cap = true ∧ Memory.wf s.mem = true := by
  simp only [State.canonical, Bool.and_eq_true, and_assoc]

theorem keeps_refl (s : State) : Keeps s s := ⟨id, rfl⟩

theorem keeps_trans {s t u : State} (h : Keeps s t) (g : Keeps t u) : Keeps s u := ⟨fun c => g.canon (h.canon c), g.queue.trans h.queue⟩

/-- The stores are all that the canonical form depends on. -/
theorem keeps_of {s t u : State} (h : Keeps s t)
    (hr : sWf regDefault t.regs = true → sWf regDefault u.regs = true) (hl : sWf regDefault t.live = true → sWf regDefault u.live = true)
    (hc : sWf (fun _ => none) t.cap = true → sWf (fun _ => none) u.cap = true) (hm : Memory.wf t.mem = true → Memory.wf u.mem = true)
    (hq : u.pending = t.pending) : Keeps s u := by
  refine ⟨fun c => ?_, hq.trans h.queue⟩
  have c := (canonical_iff t).mp (h.canon c)
  exact (canonical_iff u).mpr ⟨hr c.1, hl c.2.1, hc c.2.2.1, hm c.2.2.2⟩

/-- Any update that leaves the four stores and the queue alone. -/
theorem keeps_mk {s t : State} {now ras links segs layers surfs strs beam corr hlt sup pol snow crc mbx loads host fab ptp lanes groups net
    hk fw pwr pins out free} (h : Keeps s t) :
    Keeps s ⟨t.regs, t.live, t.cap, t.mem, now, ras, links, segs, layers, surfs, strs, beam, corr, hlt, sup, pol, snow, crc, mbx, loads,
      host, fab, ptp, lanes, groups, net, hk, fw, pwr, pins, out, free, t.pending⟩ := keeps_of h id id id id rfl

theorem keeps_ite {s a b : State} {c : Prop} [Decidable c] (ha : Keeps s a) (hb : Keeps s b) : Keeps s (if c then a else b) := by
  split <;> assumption

theorem keeps_dite {s : State} {c : Prop} [Decidable c] {a : c → State} {b : ¬c → State} (ha : ∀ h, Keeps s (a h))
    (hb : ∀ h, Keeps s (b h)) : Keeps s (if h : c then a h else b h) := by
  split
  · exact ha _
  · exact hb _

theorem keeps_foldl {α : Type} {s t : State} {l : List α} {f : State → α → State} (hf : ∀ t' a, Keeps s t' → Keeps s (f t' a))
    (h : Keeps s t) : Keeps s (l.foldl f t) := by
  induction l generalizing t with
  | nil => exact h
  | cons a r ih => exact ih (hf t a h)

theorem keeps_wr {s t : State} {a : Nat} {v : Word} (h : Keeps s t) : Keeps s (t.wr a v) := keeps_of h sWf_sput id id id rfl

theorem keeps_lwr {s t : State} {a : Nat} {v : Word} (h : Keeps s t) : Keeps s (t.lwr a v) := keeps_of h id sWf_sput id id rfl

theorem keeps_putByte {s t : State} {a : Nat} {v : Byte} (h : Keeps s t) : Keeps s (t.putByte a v) :=
  keeps_of h id id id (fun w => State.putByte_wf w) rfl

/-- Folding writes into a store keeps its canonical form. -/
theorem sWf_foldl {α β : Type} [DecidableEq α] {d : Nat → α} {f : Store α → β → Store α} (hf : ∀ st e, sWf d st = true → sWf d (f st e) = true)
    (l : List β) {st : Store α} (h : sWf d st = true) : sWf d (l.foldl f st) = true := by
  induction l generalizing st with
  | nil => exact h
  | cons e r ih => exact ih (hf st e h)

theorem keeps_capture {s t : State} {l : List Nat} (h : Keeps s t) : Keeps s (t.capture l) :=
  keeps_of h id id (sWf_foldl (fun _ _ => sWf_sput) l) id rfl

theorem keeps_uncapture {s t : State} {l : List Nat} (h : Keeps s t) : Keeps s (t.uncapture l) :=
  keeps_of h id id (sWf_foldl (fun _ _ => sWf_sput) l) id rfl

theorem keeps_applyCaps {s t : State} (h : Keeps s t) : Keeps s t.applyCaps :=
  keeps_of h id
    (sWf_foldl (fun _ e w => by
      split
      · exact sWf_sput w
      · exact w) t.cap)
    (fun _ => rfl) id rfl

theorem keeps_putBytes {s t : State} {a : Nat} {l : List Byte} (h : Keeps s t) : Keeps s (t.putBytes a l) := by
  induction l generalizing t a with
  | nil => exact h
  | cons b r ih => exact ih (keeps_putByte h)

theorem keeps_ringPut {s t : State} {base c : Nat} {l : List Byte} (h : Keeps s t) : Keeps s (ringPut base c l t) := by
  induction l generalizing t c with
  | nil => exact h
  | cons b r ih => exact ih (keeps_putByte h)

theorem keeps_forEach {α : Type} {s t : State} {l : List α} {f : α → State → State} (hf : ∀ a t', Keeps s t' → Keeps s (f a t'))
    (h : Keeps s t) : Keeps s (forEach l f t) := keeps_foldl (fun t' a => hf a t') h

theorem keeps_when {s t : State} {c : Bool} {f : State → State} (hf : ∀ t', Keeps s t' → Keeps s (f t')) (h : Keeps s t) :
    Keeps s (when c f t) := by
  unfold when
  exact keeps_ite (hf t h) h

theorem keeps_saveLost {s t : State} (h : Keeps s t) : Keeps s (saveLost t) := by
  unfold saveLost
  split
  · exact h
  · exact keeps_mk (keeps_putBytes (keeps_putBytes h))

/-- Power-on contents are canonical: a reset keeps some registers and some of memory, and nothing else is listed. -/
theorem keeps_blank {s t : State} {cold : Bool} (h : Keeps s t) : Keeps s (blank cold t) :=
  keeps_of (keeps_saveLost h) (sWf_filter _) (fun _ => rfl) (fun _ => rfl) (sWf_filter _) rfl

end Sys2Proof.Machine
end

