-- ==== Sys2Proof/Laws/Mailbox.lean ====
section
/-! SUPPORT. What a request that is served comes to: the body of its service; what `done` answers; what an untimed reply is. -/
namespace Sys2Proof.Machine

@[simp] theorem done_eq (s : State) : done s = .next s.settle := rfl

/-- The code of a served request has a row. -/
theorem served_row {code : Nat} {m : Msg} {s : State} (h : served code m s = true) : ∃ r, svcRow code = some r := by
  unfold served at h
  split at h
  · cases h
  · exact ⟨_, ‹_›⟩

/-- A request that passes every check before its body is answered by its body. -/
theorem serve_served {code : Nat} {body : Ctx → State → State} {m : Msg} {s : State} (h : served code m s = true) :
    serve code body m s = body (ctxOf code m) s := by
  unfold served at h
  split at h
  · cases h
  · rename_i r hr
    simp only [Bool.and_eq_true, Bool.not_eq_true', Bool.or_eq_true, beq_iff_eq] at h
    obtain ⟨⟨⟨⟨hf, ht⟩, hm⟩, hs⟩, hb⟩ := h
    unfold serve
    simp only [hm]
    rcases hb with hb | hb <;> simp [hr, ht, hs, hf, hb, ctxOf]

/-- An untimed command is answered at once. -/
theorem reply_untimed {c : Ctx} {status : Nat} {part : List Byte} {s : State} (h : c.timed = false) :
    reply c status part s = respondTo c status part s := by
  unfold reply
  simp [h]

@[simp] theorem ctxOf_timed (code : Nat) (m : Msg) : (ctxOf code m).timed = false := rfl
@[simp] theorem ctxOf_m (code : Nat) (m : Msg) : (ctxOf code m).m = m := rfl
@[simp] theorem ctxOf_code (code : Nat) (m : Msg) : (ctxOf code m).code = code := rfl

/-- A payload that is long enough is handed on. -/
theorem need_enough {n : Nat} {c : Ctx} {f : State → State} {s : State} (h : n ≤ c.m.payload.length) : need n c f s = f s := by
  unfold need
  rw [if_neg (by omega)]

/-- A register set that fits and passes the check of its service is written, committed when it asks for that, and answered OK. -/
theorem regSetWith_fits {deny : Nat → List (Nat × Word) → State → State} {write : List (Nat × Word) → State → State} {c : Ctx}
    {bases : List Nat} {accepts : Nat → Bool} {check : State → List (Nat × Word) → Nat} {commit : Option (State → State)} {s : State}
    (hc : c.timed = false) (hf : setFits c bases accepts s = true) (hk : check s (setWords c bases) = St.ok) :
    regSetWith deny write c bases accepts check commit s =
      setAnswer c bases (setCommits c && commit.isSome)
        (when (setCommits c && commit.isSome) (commit.getD id) (write (setWords c bases) s)) := by
  simp only [setFits, Bool.and_eq_true, decide_eq_true_eq] at hf
  obtain ⟨⟨hl, ha⟩, hr⟩ := hf
  have ha' : (setOffsets c).any (fun e => !(accepts e.1)) = false := by
    rw [List.any_eq_false]; rw [List.all_eq_true] at ha; intro e he; simp [ha e he]
  have hr' : (setWords c bases).any (fun e => reservedWord s e.1 e.2) = false := by
    rw [List.any_eq_false]; rw [List.all_eq_true] at hr; intro e he; have := hr e he; simpa using this
  unfold regSetWith
  rw [need_enough (by split <;> omega)]
  change (if ((setOffsets c).any (fun e => !(accepts e.1)) || (setWords c bases).any (fun e => reservedWord s e.1 e.2)) = true then _
    else if (check s (setWords c bases) != St.ok) = true then _ else _) = _
  rw [ha', hr', hk]
  simp only [Bool.false_or, Bool.false_eq_true, if_false, bne_self_eq_false, reply_untimed hc]
  rfl

end Sys2Proof.Machine
end

