-- ==== Sys2Proof/Laws/Answer.lean ====
section
/-! SUPPORT. What an answer changes, on a mailbox that its client empties by itself. -/
namespace Sys2Proof.Machine

theorem onlyAnswered_refl (s : State) (mb : Nat) : s.onlyAnswered s mb := ⟨rfl, fun _ _ => rfl, fun _ _ => rfl⟩

/-- A register keeps its word when another is written. -/
theorem rd_wr_other {s : State} {a b : Nat} {v : Word} (h : s.canonical = true) (ne : a ≠ b) : (s.wr b v).rd a = s.rd a :=
  sget_sput_other ((canonical_iff s).mp h).1 ne

/-- A register holds what was written to it last. -/
theorem rd_wr_same {s : State} {a : Nat} {v : Word} (h : s.canonical = true) : (s.wr a v).rd a = v :=
  sget_sput_same ((canonical_iff s).mp h).1

/-- A byte keeps its value when another is written. -/
theorem byte_putByte_other {s : State} {a b : Nat} {v : Byte} (h : s.canonical = true) (ne : a ≠ b) : (s.putByte b v).byte a = s.byte a :=
  sget_sput_other ((canonical_iff s).mp h).2.2.2 ne

/-- A byte holds what was written to it last. -/
theorem byte_putByte_same {s : State} {a : Nat} {v : Byte} (h : s.canonical = true) : (s.putByte a v).byte a = v :=
  sget_sput_same ((canonical_iff s).mp h).2.2.2

theorem canonical_wr {s : State} {a : Nat} {v : Word} (h : s.canonical = true) : (s.wr a v).canonical = true :=
  (keeps_wr (keeps_refl s)).canon h

theorem canonical_putByte {s : State} {a : Nat} {v : Byte} (h : s.canonical = true) : (s.putByte a v).canonical = true :=
  (keeps_putByte (keeps_refl s)).canon h

/-- A message put into a ring changes memory alone. -/
theorem ringPut_mem (l : List Byte) (base c : Nat) (s : State) : ringPut base c l s = { s with mem := (ringPut base c l s).mem } := by
  induction l generalizing c s with
  | nil => rfl
  | cons b r ih =>
    simp only [ringPut]
    rw [ih]
    rfl

/-- A message put into a ring changes the bytes of that ring alone. -/
theorem byte_ringPut_other {l : List Byte} {base c a : Nat} {s : State} (h : s.canonical = true) (ha : a < base ∨ base + 4096 ≤ a) :
    (ringPut base c l s).byte a = s.byte a := by
  induction l generalizing c s with
  | nil => rfl
  | cons b r ih =>
    simp only [ringPut]
    rw [ih (canonical_putByte h), byte_putByte_other h (by omega)]

/-- Registers other than one keep their words when it is counted. -/
theorem rd_count_other {s : State} {a b : Nat} (h : s.canonical = true) (ne : a ≠ b) : (s.count b).rd a = s.rd a := rd_wr_other h ne

/-- The counter of a refusal changes registers alone, and those of its mailbox. -/
theorem countStatus_eq (mb st : Nat) (s : State) : countStatus mb st s = { s with regs := (countStatus mb st s).regs } := by
  unfold countStatus
  repeat' split
  all_goals rfl

theorem rd_countStatus_other {mb st a : Nat} {s : State} (h : s.canonical = true)
    (ha : a ∉ [Reg.MBX_MB_CNT_BAD_LENGTH mb, Reg.MBX_MB_CNT_BAD_CRC mb, Reg.MBX_MB_CNT_BAD_ALIVE mb, Reg.MBX_MB_CNT_DENIED mb]) :
    (countStatus mb st s).rd a = s.rd a := by
  simp only [List.mem_cons, List.not_mem_nil, or_false, not_or] at ha
  unfold countStatus
  repeat' split
  all_goals first | rfl | exact rd_count_other h (by tauto)

theorem canonical_countStatus {mb st : Nat} {s : State} (h : s.canonical = true) : (countStatus mb st s).canonical = true := by
  unfold countStatus
  repeat' split
  all_goals first | exact h | exact canonical_wr h

/-- A search depends on its test at the places it looks at. -/
theorem find_congr {α : Type} {l : List α} {p q : α → Bool} (h : ∀ c ∈ l, p c = q c) : l.find? p = l.find? q := by
  induction l with
  | nil => rfl
  | cons a r ih =>
    simp only [List.find?_cons]
    rw [h a (by simp), ih fun c hc => h c (by simp [hc])]

/-- A search depends on its test at the places it looks at. -/
theorem find_eq {α : Type} {l : List α} {p q : α → Bool} (h : ∀ c ∈ l, p c = q c) : l.find? p = l.find? q := by
  induction l with
  | nil => rfl
  | cons a r ih =>
    simp only [List.find?_cons]
    rw [h a (by simp), ih fun c hc => h c (by simp [hc])]

/-- The channel at a place depends on the registers of the check units alone. -/
theorem chanAt_congr {s t : State} {mode kind n : Nat} (h : ∀ a, a / 0x10000 = 0x1D → t.rd a = s.rd a) :
    chanAt t mode kind n = chanAt s mode kind n := by
  unfold chanAt
  refine find_eq fun c hc => ?_
  have hc : c < 8 := List.mem_range.mp hc
  simp only [State.fd]
  rw [h (Reg.CRC_CH_CTRL c) (by simp only [Reg.CRC_CH_CTRL]; omega), h (Reg.CRC_CH_ATTACH c) (by simp only [Reg.CRC_CH_ATTACH]; omega)]

/-- A message placed in the ring of a quiet mailbox. -/
theorem placeMsg_onlyAnswered {mb : Fin 8} {client cmd flags seq target : Nat} {payload : List Byte} {s : State} (h : s.canonical = true)
    (hq : quietBox s mb.val = true) : s.onlyAnswered (placeMsg mb.val client cmd flags seq target payload s) mb.val := by
  simp only [quietBox, Bool.and_eq_true, beq_iff_eq, Option.isNone_iff_eq_none, List.isEmpty_iff] at hq
  obtain ⟨⟨⟨h9, hc⟩, ho⟩, he⟩ := hq
  unfold placeMsg
  simp only [appendForm, appendDone, hc, h9]
  refine ⟨?_, ?_, ?_⟩
  · rw [ringPut_mem]
    simp [State.wf, State.wr, ho]
  · intro a ha
    simp only [List.mem_cons, List.not_mem_nil, or_false, not_or] at ha
    generalize hr : ringPut _ _ _ s = r
    have hcan : r.canonical = true := by rw [← hr]; exact (keeps_ringPut (keeps_refl s)).canon h
    have hrd : r.rd a = s.rd a := by rw [← hr, ringPut_mem]; rfl
    exact (rd_wr_other hcan ha.1).trans hrd
  · intro a ha
    exact byte_ringPut_other h ha

theorem onlyAnswered_trans {s t u : State} {mb : Nat} (h : s.onlyAnswered t mb) (g : t.onlyAnswered u mb) : s.onlyAnswered u mb := by
  obtain ⟨h1, h2, h3⟩ := h
  obtain ⟨g1, g2, g3⟩ := g
  refine ⟨?_, fun a ha => (g2 a ha).trans (h2 a ha), fun a ha => (g3 a ha).trans (h3 a ha)⟩
  rw [g1, h1]

/-- A message sent on a quiet mailbox, placed or held. -/
theorem sendMsg_onlyAnswered {mb : Fin 8} {client cmd flags seq target : Nat} {payload : List Byte} {s : State} (h : s.canonical = true)
    (hq : quietBox s mb.val = true) : s.onlyAnswered (sendMsg mb.val client cmd flags seq target payload s) mb.val := by
  unfold sendMsg
  split
  · exact ⟨rfl, fun _ _ => rfl, fun _ _ => rfl⟩
  · exact placeMsg_onlyAnswered h hq

/-- The counter of a refusal belongs to its mailbox, which stays quiet. -/
theorem countStatus_onlyAnswered {mb : Fin 8} {st : Nat} {s : State} (h : s.canonical = true) (hq : quietBox s mb.val = true) :
    s.onlyAnswered (countStatus mb.val st s) mb.val ∧ quietBox (countStatus mb.val st s) mb.val = true := by
  have hrd : ∀ a, a ∉ [Reg.MBX_MB_OUT_WR mb.val, Reg.MBX_MB_CNT_BAD_LENGTH mb.val, Reg.MBX_MB_CNT_BAD_CRC mb.val,
      Reg.MBX_MB_CNT_BAD_ALIVE mb.val, Reg.MBX_MB_CNT_DENIED mb.val] → (countStatus mb.val st s).rd a = s.rd a := fun a ha => by
    simp only [List.mem_cons, List.not_mem_nil, or_false, not_or] at ha
    exact rd_countStatus_other h (by simp; tauto)
  refine ⟨⟨by rw [countStatus_eq], hrd, fun a _ => by rw [countStatus_eq]; rfl⟩, ?_⟩
  have hb : mb.val < 8 := mb.isLt
  simp only [quietBox] at hq ⊢
  rw [chanAt_congr (s := s) fun a ha => hrd a (by
    simp only [Reg.MBX_MB_OUT_WR, Reg.MBX_MB_CNT_BAD_LENGTH, Reg.MBX_MB_CNT_BAD_CRC, Reg.MBX_MB_CNT_BAD_ALIVE, Reg.MBX_MB_CNT_DENIED,
      List.mem_cons, List.not_mem_nil, or_false, not_or]
    omega)]
  rw [countStatus_eq]
  exact hq

/-- A response on a quiet mailbox, placed or held. -/
theorem respondTo_onlyAnswered {c : Ctx} {status : Nat} {part : List Byte} {s : State} (h : s.canonical = true)
    (hq : quietBox s c.m.mb.val = true) : s.onlyAnswered (respondTo c status part s) c.m.mb.val := by
  have k := fun st => countStatus_onlyAnswered (st := st) h hq
  unfold respondTo respond
  exact onlyAnswered_trans (k _).1 (sendMsg_onlyAnswered (canonical_countStatus h) (k _).2)

/-- With no message of a transport and no event waiting, nothing goes out after a command. -/
theorem settle_idle {s : State} (ho : s.mbx.outq = []) (he : s.mbx.evNew = []) : s.settle = s := by
  have hf : flushEvents s = s := by simp [flushEvents, he, sendOver]
  unfold State.settle
  rw [hf]
  simp [drainTransports, ho, forEach]

/-- A command that ends by answering a quiet mailbox changes nothing else. -/
theorem settle_respondTo {c : Ctx} {status : Nat} {part : List Byte} {s : State} (h : s.canonical = true)
    (hq : quietBox s c.m.mb.val = true) : s.onlyAnswered (respondTo c status part s).settle c.m.mb.val := by
  have k := respondTo_onlyAnswered (status := status) (part := part) h hq
  simp only [quietBox, Bool.and_eq_true, List.isEmpty_iff] at hq
  rw [settle_idle]
  · exact k
  · rw [k.1]; exact hq.1.2
  · rw [k.1]; exact hq.2

end Sys2Proof.Machine
end

