-- ==== Sys2Proof/Laws/Bytes.lean ====
section
/-! SUPPORT. Laws of little-endian fields and of the cyclic checks (R6, R352). -/
namespace Sys2Proof.Machine

@[simp] theorem leBytes_length (n v : Nat) : (leBytes n v).length = n := by
  induction n generalizing v with
  | zero => rfl
  | succ n ih => simp [leBytes, ih]

/-- A field gives back the value put into it, modulo its width. -/
theorem leNat_leBytes (n v : Nat) : leNat (leBytes n v) = v % 256 ^ n := by
  induction n generalizing v with
  | zero => simp [leBytes, leNat, Nat.mod_one]
  | succ n ih =>
    have e : (BitVec.ofNat 8 v).toNat = v % 256 := by simp
    rw [leBytes, leNat, ih, e, Nat.pow_succ, Nat.mul_comm (256 ^ n) 256, Nat.mod_mul]

/-- A field inside the first part of a list. -/
theorem leAt_append_left {a b : List Byte} {i n : Nat} (h : i + n ≤ a.length) : leAt (a ++ b) i n = leAt a i n := by
  unfold leAt
  rw [List.drop_append_of_le_length (by omega), List.take_append_of_le_length (by simp; omega)]

/-- A field inside the second part of a list. -/
theorem leAt_append_right {a b : List Byte} {i n : Nat} (h : a.length ≤ i) : leAt (a ++ b) i n = leAt b (i - a.length) n := by
  unfold leAt
  rw [List.drop_append]
  simp [List.drop_eq_nil_of_le h]

/-- The whole of a field. -/
theorem leAt_leBytes (n v : Nat) : leAt (leBytes n v) 0 n = v % 256 ^ n := by
  unfold leAt
  rw [List.drop_zero, List.take_of_length_le (by simp), leNat_leBytes]

/-- A check value fits its width (R352). -/
theorem crcValue_lt (p : CrcParam) (l : List Byte) : crcValue p l < 2 ^ p.width := by
  unfold crcValue crcFinal
  exact Nat.mod_lt _ (Nat.two_pow_pos _)

end Sys2Proof.Machine
end

