-- ==== Sys2Proof/Laws/Fabric.lean ====
section
/-! SUPPORT. What receiving and routing a fabric packet comes to (R255, R259, R262, R263): the lemmas that the provers cite instead of
unfolding `fabReceive` and `fabRoute`. -/
namespace Sys2Proof.Laws
open Sys2Proof.Machine

/-- A packet on an ACTIVE port, of a VC its TYPE allows and not too long, is counted and taken. -/
theorem fabReceive_taken {p : Nat} {k : FabPkt} {vcs : List Nat} {next : State → State} {s : State}
    (ha : fabActive s p = true) (hv : vcs.contains k.vc = true) (hl : k.payload.length ≤ 4096) :
    fabReceive p k vcs next s = next (s.count (Reg.FAB_P_VC_CNT_RX p k.vc)) := by
  unfold fabReceive
  rw [if_neg (by simp [ha]), if_neg (by simp only [hv, Bool.not_true, Bool.false_or, decide_eq_true_eq]; omega)]

/-- A packet of a VC its TYPE does not allow, or of more than 4,096 bytes, is counted as bad and frees its credits. -/
theorem fabReceive_bad {p : Nat} {k : FabPkt} {vcs : List Nat} {next : State → State} {s : State}
    (ha : fabActive s p = true) (hb : vcs.contains k.vc = false ∨ 4096 < k.payload.length) :
    fabReceive p k vcs next s = fabFree k (s.count (Reg.FAB_P_CNT_CRC p)) := by
  unfold fabReceive
  rw [if_neg (by simp [ha]), if_pos (by rcases hb with h | h <;> simp only [h] <;> simp)]

/-- A source-routed packet at the end of its path is delivered. -/
theorem fabRoute_pathEnd {p : Nat} {k : FabPkt} {d : DiscPath} {f : State → State} {s : State}
    (hf : k.flags.testBit 2 = true) (hh : k.hops = d.depth.toNat) : fabRoute p k (some d) f s = f (seqCheck k s) := by
  simp [fabRoute, hf, hh]

/-- A source-routed packet short of the end of its path is sent on by the next hop. -/
theorem fabRoute_pathHop {p : Nat} {k : FabPkt} {d : DiscPath} {f : State → State} {s : State}
    (hf : k.flags.testBit 2 = true) (hh : k.hops ≠ d.depth.toNat) : fabRoute p k (some d) f s = srcForward p d k s := by
  simp [fabRoute, hf, hh]

/-- A multicast packet without a path is only forwarded. -/
theorem fabRoute_multicast {p : Nat} {k : FabPkt} {o : Option DiscPath} {f : State → State} {s : State}
    (ho : k.flags.testBit 2 = false ∨ o = none) (hm : k.flags.testBit 0 = true) :
    fabRoute p k o f s = fabForward (some p) k s := by
  unfold fabRoute
  rcases ho with h | h <;> simp [h, hm]

/-- A broadcast from a tree port is forwarded and delivered; from another port it is discarded. -/
theorem fabRoute_broadcast {p : Nat} {k : FabPkt} {o : Option DiscPath} {f : State → State} {s : State}
    (ho : k.flags.testBit 2 = false ∨ o = none) (hm : k.flags.testBit 0 = false) (hd : k.dest = 0xFFF) :
    fabRoute p k o f s = if offTree s p then fabDropAt p k s else f (seqCheck k (fabForward (some p) k s)) := by
  unfold fabRoute
  rcases ho with h | h <;> simp [h, hm, hd]

/-- A unicast packet without a path is delivered to its destination, and elsewhere forwarded by its route. -/
theorem fabRoute_unicast {p : Nat} {k : FabPkt} {o : Option DiscPath} {f : State → State} {s : State}
    (ho : k.flags.testBit 2 = false ∨ o = none) (hm : k.flags.testBit 0 = false) (hd : k.dest ≠ 0xFFF) :
    fabRoute p k o f s = if k.dest = s.ownFid then f (seqCheck k s) else fabForward (some p) k s := by
  unfold fabRoute
  rcases ho with h | h <;> simp [h, hm, hd]

end Sys2Proof.Laws
end

