-- ==== Sys2Proof/Laws/Keeps1.lean ====
section
/-! SUPPORT. What the functions of these files of Machine/ keep (`Keeps`): Ops, FabPort, CrcUnit, Mailbox, Raster, Beam, Snow, RegWrite, Inbound, Surface, Time, Fabric. -/
namespace Sys2Proof.Machine

/-! ### Ops -/

theorem keeps_wf {s t : State} {a2 : Nat} {a3 : Nat} {a4 : Nat} {a5 : Nat} (h : Keeps s t) : Keeps s (State.wf t a2 a3 a4 a5) := by
  unfold State.wf
  exact keeps_wr h

theorem keeps_wb {s t : State} {a2 : Nat} {a3 : Nat} {a4 : Bool} (h : Keeps s t) : Keeps s (State.wb t a2 a3 a4) := by
  unfold State.wb
  exact keeps_wf h

theorem keeps_countBy {s t : State} {a2 : Nat} {a3 : Nat} (h : Keeps s t) : Keeps s (State.countBy t a2 a3) := by
  unfold State.countBy
  exact keeps_wr h

theorem keeps_count {s t : State} {a2 : Nat} (h : Keeps s t) : Keeps s (State.count t a2) := by
  unfold State.count
  exact keeps_countBy h

theorem keeps_putLe {s t : State} {a2 : Nat} {a3 : Nat} {a4 : Nat} (h : Keeps s t) : Keeps s (State.putLe t a2 a3 a4) := by
  unfold State.putLe
  exact keeps_putBytes h

theorem keeps_copyBytes {s t : State} {a2 : Nat} {a3 : Nat} {a4 : Nat} (h : Keeps s t) : Keeps s (State.copyBytes t a2 a3 a4) := by
  unfold State.copyBytes
  exact keeps_putBytes h

theorem keeps_setLink {s t : State} {a2 : Nat} {a3 : LinkSt} (h : Keeps s t) : Keeps s (State.setLink t a2 a3) := by
  unfold State.setLink
  exact keeps_mk h

theorem keeps_modLink {s t : State} {a2 : Nat} {a3 : LinkSt → LinkSt} (h : Keeps s t) : Keeps s (State.modLink t a2 a3) := by
  unfold State.modLink
  exact keeps_setLink h

theorem keeps_setSeg {s t : State} {a2 : Nat} {a3 : SegSt} (h : Keeps s t) : Keeps s (State.setSeg t a2 a3) := by
  unfold State.setSeg
  exact keeps_mk h

theorem keeps_modSeg {s t : State} {a2 : Nat} {a3 : SegSt → SegSt} (h : Keeps s t) : Keeps s (State.modSeg t a2 a3) := by
  unfold State.modSeg
  exact keeps_setSeg h

theorem keeps_modLayer {s t : State} {a2 : Nat} {a3 : LayerSt → LayerSt} (h : Keeps s t) : Keeps s (State.modLayer t a2 a3) := by
  unfold State.modLayer
  exact keeps_mk h

theorem keeps_modSurf {s t : State} {a2 : Nat} {a3 : SurfSt → SurfSt} (h : Keeps s t) : Keeps s (State.modSurf t a2 a3) := by
  unfold State.modSurf
  exact keeps_mk h

theorem keeps_modStr {s t : State} {a2 : Nat} {a3 : StrSt → StrSt} (h : Keeps s t) : Keeps s (State.modStr t a2 a3) := by
  unfold State.modStr
  exact keeps_mk h

theorem keeps_setLamp {s t : State} {a2 : Nat} {a3 : Lamp} (h : Keeps s t) : Keeps s (State.setLamp t a2 a3) := by
  unfold State.setLamp
  exact keeps_mk h

theorem keeps_modPolder {s t : State} {a2 : Nat} {a3 : PolSt → PolSt} (h : Keeps s t) : Keeps s (State.modPolder t a2 a3) := by
  unfold State.modPolder
  exact keeps_mk h

theorem keeps_modCrcCh {s t : State} {a2 : Nat} {a3 : CrcSt → CrcSt} (h : Keeps s t) : Keeps s (State.modCrcCh t a2 a3) := by
  unfold State.modCrcCh
  exact keeps_mk h

theorem keeps_advanceTo {s t : State} {a2 : Int} (h : Keeps s t) : Keeps s (State.advanceTo t a2) := by
  unfold State.advanceTo
  extract_lets -merge -underBinder +onlyGivenNames x0
  (try clear_value x0)
  exact keeps_mk h

theorem keeps_emit {s t : State} {a2 : Output} (h : Keeps s t) : Keeps s (State.emit t a2) := by
  unfold State.emit
  exact keeps_mk h

theorem keeps_useFree {s t : State} (h : Keeps s t) : Keeps s (State.useFree t) := by
  unfold State.useFree
  exact keeps_mk h

theorem keeps_event {s t : State} {a2 : Nat} {a3 : Nat} {a4 : Nat} {a5 : Nat} {a6 : Nat} {a7 : List Nat} (h : Keeps s t) : Keeps s (State.event t a2 a3 a4 a5 a6 a7) := by
  unfold State.event
  extract_lets -merge -underBinder +onlyGivenNames x0 x1
  (try clear_value x0 x1)
  exact keeps_mk h

/-! ### FabPort -/

theorem keeps_modFabPort {s t : State} {a1 : Nat} {a2 : FabPort → FabPort} (h : Keeps s t) : Keeps s (modFabPort a1 a2 t) := by
  unfold modFabPort
  exact keeps_mk h

theorem keeps_fabFill {s t : State} {a1 : Nat} (h : Keeps s t) : Keeps s (fabFill a1 t) := by
  unfold fabFill
  extract_lets -merge -underBinder +onlyGivenNames x0 x1
  (try clear_value x0 x1)
  exact keeps_modFabPort h

theorem keeps_fabSeqUsed {s t : State} {a1 : Nat} (h : Keeps s t) : Keeps s (fabSeqUsed a1 t) := by
  unfold fabSeqUsed
  exact keeps_mk h

theorem keeps_flowOut {s t : State} {a1 : Nat} {a2 : Bool} {a3 : List Nat} (h : Keeps s t) : Keeps s (flowOut a1 a2 a3 t) := by
  unfold flowOut
  extract_lets -merge -underBinder +onlyGivenNames x0
  (try clear_value x0)
  exact keeps_emit (keeps_count (keeps_fabSeqUsed (keeps_modFabPort h)))

theorem keeps_flowFreed {s t : State} {a1 : Nat} (h : Keeps s t) : Keeps s (flowFreed a1 t) := by
  unfold flowFreed
  exact keeps_flowOut h

theorem keeps_fabCredit {s t : State} {a1 : Nat} {a2 : Nat} {a3 : Nat} (h : Keeps s t) : Keeps s (fabCredit a1 a2 a3 t) := by
  unfold fabCredit
  extract_lets -merge -underBinder +onlyGivenNames x0
  have k1 : Keeps s x0 := (keeps_modFabPort h)
  exact keeps_when (fun _ h2 => (keeps_flowFreed h2)) k1

theorem keeps_fabFree {s t : State} {a1 : FabPkt} (h : Keeps s t) : Keeps s (fabFree a1 t) := by
  unfold fabFree
  split
  exacts [h, (keeps_fabCredit h)]

theorem keeps_fabSendHead {s t : State} {a1 : Nat} {a2 : Nat} (h : Keeps s t) : Keeps s (fabSendHead a1 a2 t) := by
  unfold fabSendHead
  split
  exacts [h, (by extract_lets -merge -underBinder +onlyGivenNames x0; have k1 : Keeps s x0 := (keeps_modFabPort h); exact (keeps_fabFree (keeps_emit (keeps_count k1))))]

theorem keeps_fabSendOne {s t : State} {a1 : Nat} (h : Keeps s t) : Keeps s (fabSendOne a1 t) := by
  unfold fabSendOne
  split
  exacts [(keeps_fabSendHead h), (by split; exacts [(keeps_fabSendHead h), (by extract_lets -merge -underBinder +onlyGivenNames x0; (try clear_value x0); exact (by split; exacts [h, (keeps_fabSendHead (keeps_modFabPort h))]))])]

theorem keeps_fabPurge {s t : State} {a1 : Nat} (h : Keeps s t) : Keeps s (fabPurge a1 t) := by
  unfold fabPurge
  extract_lets -merge -underBinder +onlyGivenNames x0 x1
  (try clear_value x0)
  have k2 : Keeps s x1 := (keeps_modFabPort h)
  exact keeps_forEach (fun _ _ h3 => (keeps_fabFree (keeps_count h3))) k2

theorem keeps_fabDrain {s t : State} {a1 : Nat} (h : Keeps s t) : Keeps s (fabDrain a1 t) := by
  unfold fabDrain
  extract_lets -merge -underBinder +onlyGivenNames x0
  have k1 : Keeps s x0 := (keeps_fabPurge (keeps_fabFill h))
  exact keeps_forEach (fun _ _ h2 => (keeps_ite (keeps_fabSendOne h2) h2)) k1

theorem keeps_fabQueue {s t : State} {a1 : Nat} {a2 : FabPkt} (h : Keeps s t) : Keeps s (fabQueue a1 a2 t) := by
  unfold fabQueue
  exact keeps_fabDrain (keeps_modFabPort h)

theorem keeps_fabDropAt {s t : State} {a1 : Nat} {a2 : FabPkt} (h : Keeps s t) : Keeps s (fabDropAt a1 a2 t) := by
  unfold fabDropAt
  exact keeps_fabFree (keeps_count h)

theorem keeps_fabOut {s t : State} {a1 : Option Nat} {a2 : Nat} {a3 : FabPkt} (h : Keeps s t) : Keeps s (fabOut a1 a2 a3 t) := by
  unfold fabOut
  exact keeps_ite (keeps_fabDropAt h) (keeps_ite (keeps_fabDropAt (keeps_count h)) (keeps_fabQueue h))

theorem keeps_fabOutMany {s t : State} {a1 : Option Nat} {a2 : List Nat} {a3 : FabPkt} (h : Keeps s t) : Keeps s (fabOutMany a1 a2 a3 t) := by
  unfold fabOutMany
  split
  exacts [(keeps_fabFree h), (keeps_fabOut (keeps_forEach (fun _ _ h0 => (keeps_fabOut h0)) h))]

theorem keeps_fabForward {s t : State} {a1 : Option Nat} {a2 : FabPkt} (h : Keeps s t) : Keeps s (fabForward a1 a2 t) := by
  unfold fabForward
  exact (keeps_ite (keeps_fabOutMany h) (keeps_ite (keeps_fabOutMany h) (by extract_lets -merge -underBinder +onlyGivenNames x0; (try clear_value x0); exact (keeps_ite (keeps_fabOut h) (keeps_fabDropAt h)))))

theorem keeps_fabSend {s t : State} {a1 : Nat} {a2 : Nat} {a3 : Nat} {a4 : Nat} {a5 : List Byte} (h : Keeps s t) : Keeps s (fabSend a1 a2 a3 a4 a5 t) := by
  unfold fabSend
  exact keeps_fabSeqUsed (keeps_fabForward h)

theorem keeps_fabControl {s t : State} {a1 : Nat} {a2 : List Byte} (h : Keeps s t) : Keeps s (fabControl a1 a2 t) := by
  unfold fabControl
  exact keeps_fabSend h

/-! ### CrcUnit -/

theorem keeps_protectDone {s t : State} {a1 : Nat} (h : Keeps s t) : Keeps s (protectDone a1 t) := by
  unfold protectDone
  exact keeps_count (keeps_modCrcCh (keeps_wf h))

theorem keeps_appendDone {s t : State} {a1 : Nat} {a2 : Nat} (h : Keeps s t) : Keeps s (appendDone a1 a2 t) := by
  unfold appendDone
  split
  exacts [(keeps_protectDone h), h]

theorem keeps_stripDone {s t : State} {a1 : Nat} {a2 : List Byte} (h : Keeps s t) : Keeps s (stripDone a1 a2 t) := by
  unfold stripDone
  extract_lets -merge -underBinder +onlyGivenNames x0 x1
  (try clear_value x0 x1)
  exact (keeps_ite (keeps_modCrcCh (keeps_wb (keeps_wf (keeps_count (keeps_when (fun _ h2 => (keeps_count h2)) h))))) (keeps_ite (keeps_modCrcCh (keeps_count h)) (by extract_lets -merge -underBinder +onlyGivenNames x3; have k4 : Keeps s x3 := (keeps_count h); exact (keeps_ite (keeps_modCrcCh (keeps_count (keeps_wb k4))) (keeps_modCrcCh k4)))))

/-! ### Mailbox -/

theorem keeps_placeMsg {s t : State} {a1 : Nat} {a2 : Nat} {a3 : Nat} {a4 : Nat} {a5 : Nat} {a6 : Nat} {a7 : List Byte} (h : Keeps s t) : Keeps s (placeMsg a1 a2 a3 a4 a5 a6 a7 t) := by
  unfold placeMsg
  extract_lets -merge -underBinder +onlyGivenNames x0 x1 x3 x4 x5 x6 x7 x9
  (try clear_value x0 x3 x4 x5 x6)
  have k2 : Keeps s x1 := (keeps_appendDone h)
  have k8 : Keeps s x7 := (keeps_ringPut k2)
  have k10 : Keeps s x9 := (keeps_wf k8)
  exact keeps_mk k10

theorem keeps_countStatus {s t : State} {a1 : Nat} {a2 : Nat} (h : Keeps s t) : Keeps s (countStatus a1 a2 t) := by
  unfold countStatus
  exact (keeps_ite (keeps_count h) (keeps_ite (keeps_count h) (keeps_ite (keeps_count h) (keeps_ite (keeps_count h) h))))

theorem keeps_sendMsg {s t : State} {a1 : Nat} {a2 : Nat} {a3 : Nat} {a4 : Nat} {a5 : Nat} {a6 : Nat} {a7 : List Byte} (h : Keeps s t) : Keeps s (sendMsg a1 a2 a3 a4 a5 a6 a7 t) := by
  unfold sendMsg
  exact keeps_ite (keeps_mk h) (keeps_placeMsg h)

theorem keeps_respond {s t : State} {a1 : Nat} {a2 : Nat} {a3 : Nat} {a4 : Nat} {a5 : Nat} {a6 : Nat} {a7 : Option Nat} {a8 : List Byte} (h : Keeps s t) : Keeps s (respond a1 a2 a3 a4 a5 a6 a7 a8 t) := by
  unfold respond
  extract_lets -merge -underBinder +onlyGivenNames x0 x1 x2
  (try clear_value x0 x1 x2)
  exact keeps_sendMsg (keeps_countStatus h)

theorem keeps_respondTo {s t : State} {a1 : Ctx} {a2 : Nat} {a3 : List Byte} (h : Keeps s t) : Keeps s (respondTo a1 a2 a3 t) := by
  unfold respondTo
  exact keeps_respond h

theorem keeps_reply {s t : State} {a1 : Ctx} {a2 : Nat} {a3 : List Byte} (h : Keeps s t) : Keeps s (reply a1 a2 a3 t) := by
  unfold reply
  exact keeps_ite (keeps_mk h) (keeps_respondTo h)

theorem keeps_refuse {s t : State} {a1 : Ctx} {a2 : Nat} (h : Keeps s t) : Keeps s (refuse a1 a2 t) := by
  unfold refuse
  exact keeps_respondTo h

theorem keeps_noSpace {s t : State} {a1 : Ctx} {a2 : Nat} {a3 : Nat} {a4 : Bool} {a5 : Nat} (h : Keeps s t) : Keeps s (noSpace a1 a2 a3 a4 a5 t) := by
  unfold noSpace
  exact keeps_respondTo h

theorem keeps_acceptOp {s t : State} {a1 : Ctx} {a2 : Nat} {a3 : Nat} {a4 : Nat} {a5 : List Nat} (h : Keeps s t) : Keeps s (acceptOp a1 a2 a3 a4 a5 t) := by
  unfold acceptOp
  extract_lets -merge -underBinder +onlyGivenNames x0
  have k1 : Keeps s x0 := (keeps_ite h (keeps_respondTo h))
  exact keeps_mk k1

theorem keeps_completeOp {s t : State} {a1 : Op} {a2 : Nat} {a3 : List Byte} (h : Keeps s t) : Keeps s (completeOp a1 a2 a3 t) := by
  unfold completeOp
  exact keeps_respondTo (keeps_mk h)

theorem keeps_completeOps {s t : State} {a1 : Nat} {a2 : Op → Bool} {a3 : Nat} {a4 : List Byte} (h : Keeps s t) : Keeps s (completeOps a1 a2 a3 a4 t) := by
  unfold completeOps
  exact keeps_forEach (fun _ _ h0 => (keeps_completeOp h0)) h

theorem keeps_forwardReq {s t : State} {a1 : Nat} {a2 : Msg} (h : Keeps s t) : Keeps s (forwardReq a1 a2 t) := by
  unfold forwardReq
  extract_lets -merge -underBinder +onlyGivenNames x0 x1 x2 x3 x4
  (try clear_value x0 x1 x2 x3)
  have k5 : Keeps s x4 := (keeps_mk h)
  exact keeps_fabControl k5

theorem keeps_runTimed {s t : State} {a1 : Ctx → State → State} {a2 : Ctx} {a3 : Nat} {a4 : Nat} (g1 : ∀ b1 t', Keeps s t' → Keeps s (a1 b1 t')) (h : Keeps s t) : Keeps s (runTimed a1 a2 a3 a4 t) := by
  unfold runTimed
  extract_lets -merge -underBinder +onlyGivenNames x0 x1
  (try clear_value x0 x1)
  exact keeps_ite (g1 _ _ h) (keeps_ite (keeps_respondTo h) (g1 _ _ h))

theorem keeps_timedCounts {s t : State} (h : Keeps s t) : Keeps s (timedCounts t) := by
  unfold timedCounts
  exact keeps_wb (keeps_wf h)

theorem keeps_acceptTimed {s t : State} {a1 : Ctx → State → State} {a2 : Ctx} (g1 : ∀ b1 t', Keeps s t' → Keeps s (a1 b1 t')) (h : Keeps s t) : Keeps s (acceptTimed a1 a2 t) := by
  unfold acceptTimed
  extract_lets -merge -underBinder +onlyGivenNames x0 x1 x2 x3 x4
  (try clear_value x0 x1 x2 x3 x4)
  exact (keeps_ite (keeps_refuse h) (keeps_ite (keeps_noSpace h) (by extract_lets -merge -underBinder +onlyGivenNames x5; have k6 : Keeps s x5 := (keeps_respondTo h); exact (keeps_ite (keeps_respondTo k6) (keeps_ite (keeps_timedCounts (keeps_runTimed g1 k6)) (keeps_timedCounts (keeps_mk k6)))))))

theorem keeps_serve {s t : State} {a1 : Nat} {a2 : Ctx → State → State} {a3 : Msg} (g2 : ∀ b1 t', Keeps s t' → Keeps s (a2 b1 t')) (h : Keeps s t) : Keeps s (serve a1 a2 a3 t) := by
  unfold serve
  extract_lets -merge -underBinder +onlyGivenNames x0
  (try clear_value x0)
  exact (by split; exacts [(keeps_refuse h), (by extract_lets -merge -underBinder +onlyGivenNames x1 x2 x3; (try clear_value x1 x2 x3); exact (keeps_ite (keeps_refuse h) (keeps_ite (keeps_ite (keeps_forwardReq h) (keeps_refuse h)) (by extract_lets -merge -underBinder +onlyGivenNames x4; have k5 : Keeps s x4 := (keeps_ite (keeps_forwardReq h) h); exact (keeps_ite (keeps_refuse k5) (keeps_ite (keeps_refuse k5) (keeps_ite (keeps_acceptTimed g2 k5) (g2 _ _ k5))))))))])

theorem keeps_canGoodTx {s t : State} {a1 : Nat} (h : Keeps s t) : Keeps s (canGoodTx a1 t) := by
  unfold canGoodTx
  extract_lets -merge -underBinder +onlyGivenNames x0
  (try clear_value x0)
  exact keeps_wf (keeps_wf h)

theorem keeps_canSend {s t : State} {a1 : Nat} {a2 : List Byte} (h : Keeps s t) : Keeps s (canSend a1 a2 t) := by
  unfold canSend
  exact keeps_canGoodTx (keeps_count (keeps_emit h))

theorem keeps_ethSend {s t : State} {a1 : Nat} {a2 : Nat} {a3 : Nat} {a4 : List Byte} (h : Keeps s t) : Keeps s (ethSend a1 a2 a3 a4 t) := by
  unfold ethSend
  exact keeps_count (keeps_emit h)

theorem keeps_transportTake {s t : State} {a1 : Nat × Nat × Nat} (h : Keeps s t) : Keeps s (transportTake a1 t) := by
  unfold transportTake
  extract_lets -merge -underBinder +onlyGivenNames x0 x1 x2 x3 x4 x5
  (try clear_value x0 x1 x2 x3 x4)
  have k6 : Keeps s x5 := (keeps_emit (keeps_wf h))
  exact (by split; exacts [(by extract_lets -merge -underBinder +onlyGivenNames x7 x8; (try clear_value x7 x8); exact (keeps_appendDone (keeps_ethSend k6))), (keeps_fabControl k6), (by extract_lets -merge -underBinder +onlyGivenNames x9; (try clear_value x9); exact (keeps_forEach (fun _ _ h10 => (keeps_canSend h10)) k6))])

theorem keeps_drainTransports {s t : State} (h : Keeps s t) : Keeps s (drainTransports t) := by
  unfold drainTransports
  exact (keeps_forEach (fun _ _ h0 => (keeps_ite (keeps_ite (keeps_transportTake (keeps_mk h0)) h0) h0)) h)

theorem keeps_sendEvents {s t : State} {a1 : Nat} {a2 : List EvRec} (h : Keeps s t) : Keeps s (sendEvents a1 a2 t) := by
  unfold sendEvents
  extract_lets -merge -underBinder +onlyGivenNames x0
  (try clear_value x0)
  exact keeps_ite (keeps_countBy h) (by extract_lets -merge -underBinder +onlyGivenNames x1; (try clear_value x1); exact (keeps_placeMsg (keeps_mk h)))

theorem keeps_sendTick {s t : State} {a1 : List EvRec} (h : Keeps s t) : Keeps s (sendTick a1 t) := by
  unfold sendTick
  exact (keeps_forEach (fun _ _ h0 => (by extract_lets -merge -underBinder +onlyGivenNames x1; (try clear_value x1); exact (keeps_forEach (fun _ _ h2 => (keeps_sendEvents h2)) h0))) h)

theorem keeps_sendOver {s t : State} {n : Nat} (h : Keeps s t) : Keeps s (sendOver n t) := by
  induction n generalizing t with
  | zero => exact h
  | succ n ih =>
    unfold sendOver
    split
    · exact h
    · exact keeps_ite h (ih (keeps_sendTick (keeps_mk h)))

theorem keeps_flushEvents {s t : State} (h : Keeps s t) : Keeps s (flushEvents t) := by
  unfold flushEvents
  exact keeps_ite h (keeps_sendOver h)

theorem keeps_done {s t u : State} (h : Keeps s u) (e : done u = .next t) : Keeps s t := by
  unfold done at e
  injection e with e
  subst e
  exact keeps_drainTransports (keeps_flushEvents h)

/-! ### Raster -/

theorem keeps_setRef {s t : State} {a1 : Int} {a2 : BitVec 32} (h : Keeps s t) : Keeps s (setRef a1 a2 t) := by
  unfold setRef
  extract_lets -merge -underBinder +onlyGivenNames x0 x1 x2
  (try clear_value x0 x1)
  have k3 : Keeps s x2 := (keeps_mk h)
  exact keeps_wr (keeps_wr (keeps_wr (keeps_wr k3)))

theorem keeps_setBlankEff {s t : State} (h : Keeps s t) : Keeps s (setBlankEff t) := by
  unfold setBlankEff
  exact keeps_wr h

theorem keeps_setMove {s t : State} {a1 : Int} (h : Keeps s t) : Keeps s (setMove a1 t) := by
  unfold setMove
  extract_lets -merge -underBinder +onlyGivenNames x0 x1 x2
  (try clear_value x0 x1)
  have k3 : Keeps s x2 := (keeps_mk h)
  exact keeps_wb k3

theorem keeps_addMove {s t : State} {a1 : Int} (h : Keeps s t) : Keeps s (addMove a1 t) := by
  unfold addMove
  exact keeps_setMove h

theorem keeps_realign {s t : State} (h : Keeps s t) : Keeps s (realign t) := by
  unfold realign
  exact keeps_ite (by extract_lets -merge -underBinder +onlyGivenNames x0 x1 x2 x3 x4; (try clear_value x0 x1 x2 x3); have k5 : Keeps s x4 := (keeps_mk h); exact (keeps_setMove k5)) h

theorem keeps_armRaster {s t : State} (h : Keeps s t) : Keeps s (armRaster t) := by
  unfold armRaster
  extract_lets -merge -underBinder +onlyGivenNames x0
  (try clear_value x0)
  exact keeps_mk h

theorem keeps_setRecommit {s t : State} {a1 : Nat} {a2 : Bool} (h : Keeps s t) : Keeps s (setRecommit a1 a2 t) := by
  unfold setRecommit
  exact keeps_mk h

theorem keeps_uncaptureLayer {s t : State} {a1 : Nat} (h : Keeps s t) : Keeps s (uncaptureLayer a1 t) := by
  unfold uncaptureLayer
  exact keeps_ite (keeps_wb (keeps_wb h)) h

theorem keeps_epochBack {s t : State} (h : Keeps s t) : Keeps s (epochBack t) := by
  unfold epochBack
  exact keeps_mk h

theorem keeps_waitFirst {s t : State} (h : Keeps s t) : Keeps s (waitFirst t) := by
  unfold waitFirst
  exact keeps_mk h

theorem keeps_stopRaster {s t : State} (h : Keeps s t) : Keeps s (stopRaster t) := by
  unfold stopRaster
  extract_lets -merge -underBinder +onlyGivenNames x0 x1
  have k0 : Keeps s x0 := keeps_waitFirst (keeps_epochBack (keeps_wb (keeps_wb h)))
  have k1 : Keeps s x1 := keeps_forEach (fun _ _ g => keeps_uncaptureLayer g) k0
  clear_value x1
  exact keeps_of k1 id id (fun _ => rfl) id rfl

theorem keeps_tactPassed {s t : State} {a1 : Nat → Bool} (h : Keeps s t) : Keeps s (tactPassed a1 t) := by
  unfold tactPassed
  exact keeps_mk h

theorem keeps_rasterStepped {s t : State} {a1 : Int} {a2 : Nat} (h : Keeps s t) : Keeps s (rasterStepped a1 a2 t) := by
  unfold rasterStepped
  extract_lets -merge -underBinder +onlyGivenNames x0 x2 x3
  (try clear_value x2)
  have k1 : Keeps s x0 := (keeps_tactPassed h)
  have k4 : Keeps s x3 := (keeps_mk k1)
  exact keeps_ite (keeps_armRaster k4) (keeps_ite (keeps_realign (keeps_mk k4)) k4)

theorem keeps_useEdge {s t : State} {a1 : Int} (h : Keeps s t) : Keeps s (useEdge a1 t) := by
  unfold useEdge
  exact keeps_addMove (keeps_mk h)

theorem keeps_syncEdge {s t : State} {a1 : Bool} {a2 : Nat} (h : Keeps s t) : Keeps s (syncEdge a1 a2 t) := by
  unfold syncEdge
  exact (keeps_ite h (by extract_lets -merge -underBinder +onlyGivenNames x0; (try clear_value x0); exact (keeps_ite (keeps_useEdge h) (keeps_ite (keeps_useEdge h) (keeps_count h)))))

theorem keeps_syncLost {s t : State} (h : Keeps s t) : Keeps s (syncLost t) := by
  unfold syncLost
  exact keeps_ite (keeps_event (keeps_wb h)) h

theorem keeps_execSyncLost {s t : State} (h : execSyncLost s = .next t) : Keeps s t := by
  unfold execSyncLost at h
  exact keeps_done (keeps_syncLost (keeps_refl s)) h

theorem keeps_syncKeep {s t : State} (h : Keeps s t) : Keeps s (syncKeep t) := by
  unfold syncKeep
  exact keeps_ite (keeps_mk h) h

theorem keeps_syncFrameEnd {s t : State} (h : Keeps s t) : Keeps s (syncFrameEnd t) := by
  unfold syncFrameEnd
  exact (keeps_ite (keeps_mk h) (by extract_lets -merge -underBinder +onlyGivenNames x0 x1 x2 x4; (try clear_value x0 x1 x4); have k3 : Keeps s x2 := (keeps_ite (keeps_mk h) (keeps_count (keeps_mk h))); exact (keeps_syncKeep (keeps_ite (keeps_ite (keeps_event (keeps_wb (keeps_mk k3))) k3) (keeps_syncLost k3)))))

theorem keeps_takeTiming {s t : State} (h : Keeps s t) : Keeps s (takeTiming t) := by
  unfold takeTiming
  extract_lets -merge -underBinder +onlyGivenNames x0
  have k1 : Keeps s x0 := (keeps_capture h)
  exact keeps_mk k1

theorem keeps_rejectTiming {s t : State} (h : Keeps s t) : Keeps s (rejectTiming t) := by
  unfold rejectTiming
  extract_lets -merge -underBinder +onlyGivenNames x0 x2
  have k1 : Keeps s x0 := (keeps_epochBack (keeps_wb (keeps_wb h)))
  have k3 : Keeps s x2 := (keeps_uncapture k1)
  exact keeps_mk k3

theorem keeps_periodWritten {s t : State} {a1 : Nat} (h : Keeps s t) : Keeps s (periodWritten a1 t) := by
  unfold periodWritten
  extract_lets -merge -underBinder +onlyGivenNames x0 x1 x2
  (try clear_value x0 x1)
  have k3 : Keeps s x2 := (keeps_mk h)
  exact keeps_ite (keeps_wb k3) k3

theorem keeps_applyTiming {s t : State} {a1 : Bool} {a2 : Int} {a3 : BitVec 32} (h : Keeps s t) : Keeps s (applyTiming a1 a2 a3 t) := by
  unfold applyTiming
  extract_lets -merge -underBinder +onlyGivenNames x0 x1 x2 x3 x6 x8 x9 x12 x15 x17 x18 x20 x21 x22
  (try clear_value x0 x1 x2 x8 x17 x20 x21)
  have k4 : Keeps s x3 := (keeps_forEach (fun _ _ h5 => (by split; exacts [(keeps_lwr h5), h5])) h)
  have k7 : Keeps s x6 := (keeps_uncapture k4)
  have k10 : Keeps s x9 := (keeps_when (fun _ h11 => (keeps_setRef h11)) k7)
  have k13 : Keeps s x12 := (keeps_when (fun _ h14 => (keeps_event (keeps_count h14))) k10)
  have k16 : Keeps s x15 := (keeps_setBlankEff k13)
  have k19 : Keeps s x18 := (keeps_mk k16)
  have k23 : Keeps s x22 := (keeps_ite (keeps_setRef (keeps_mk k19)) k19)
  exact keeps_wb (keeps_setRecommit (keeps_wb k23))

theorem keeps_planNext {s t : State} {a1 : Bool} (h : Keeps s t) : Keeps s (planNext a1 t) := by
  unfold planNext
  extract_lets -merge -underBinder +onlyGivenNames x0 x1 x2 x4
  (try clear_value x0 x1)
  have k3 : Keeps s x2 := (keeps_mk h)
  have k5 : Keeps s x4 := (keeps_ite (keeps_realign k3) (keeps_setMove k3))
  exact keeps_mk k5

theorem keeps_rasterP0 {s t : State} (h : Keeps s t) : Keeps s (rasterP0 t) := by
  unfold rasterP0
  extract_lets -merge -underBinder +onlyGivenNames x0 x1 x3 x5 x8 x9 x11 x13 x14
  (try clear_value x0 x8 x13)
  have k2 : Keeps s x1 := (keeps_advanceTo h)
  have k4 : Keeps s x3 := (keeps_syncFrameEnd k2)
  have k6 : Keeps s x5 := (keeps_when (fun _ h7 => (keeps_count h7)) k4)
  have k10 : Keeps s x9 := (keeps_mk k6)
  have k12 : Keeps s x11 := (keeps_wr (keeps_wb k10))
  have k15 : Keeps s x14 := (keeps_ite (keeps_applyTiming k12) k12)
  exact keeps_planNext k15

theorem keeps_syncLevel {s t : State} {a1 : Bool} {a2 : Int} (h : Keeps s t) : Keeps s (syncLevel a1 a2 t) := by
  unfold syncLevel
  exact keeps_emit (keeps_mk h)

theorem keeps_syncPulse {s t : State} (h : Keeps s t) : Keeps s (syncPulse t) := by
  unfold syncPulse
  exact keeps_ite (by extract_lets -merge -underBinder +onlyGivenNames x0 x1; (try clear_value x0); have k2 : Keeps s x1 := (keeps_syncLevel (keeps_advanceTo h)); exact (keeps_mk k2)) h

theorem keeps_execSyncOutPulse {s t : State} (h : execSyncOutPulse s = .next t) : Keeps s t := by
  unfold execSyncOutPulse at h
  exact keeps_done (keeps_syncPulse (keeps_refl s)) h

theorem keeps_syncPulseEnd {s t : State} (h : Keeps s t) : Keeps s (syncPulseEnd t) := by
  unfold syncPulseEnd
  split
  exacts [h, (keeps_syncLevel (by extract_lets -merge -underBinder +onlyGivenNames x0; have k1 : Keeps s x0 := (keeps_advanceTo h); exact (keeps_mk k1)))]

theorem keeps_syncOutOff {s t : State} (h : Keeps s t) : Keeps s (syncOutOff t) := by
  unfold syncOutOff
  exact keeps_ite h (keeps_syncLevel (keeps_mk h))

theorem keeps_execSyncOutPulseEnd {s t : State} (h : execSyncOutPulseEnd s = .next t) : Keeps s t := by
  unfold execSyncOutPulseEnd at h
  exact keeps_done (keeps_syncPulseEnd (keeps_refl s)) h

theorem keeps_setTactState {s t : State} {a1 : Nat} {a2 : Nat} (h : Keeps s t) : Keeps s (setTactState a1 a2 t) := by
  unfold setTactState
  exact keeps_wf h

theorem keeps_tactArm {s t : State} {a1 : Nat} (h : Keeps s t) : Keeps s (tactArm a1 t) := by
  unfold tactArm
  extract_lets -merge -underBinder +onlyGivenNames x0
  (try clear_value x0)
  exact keeps_setTactState (keeps_mk h)

theorem keeps_tactCancel {s t : State} {a1 : Nat} (h : Keeps s t) : Keeps s (tactCancel a1 t) := by
  unfold tactCancel
  exact keeps_ite (keeps_setTactState (keeps_mk h)) h

theorem keeps_timingCommit {s t : State} (h : Keeps s t) : Keeps s (timingCommit t) := by
  unfold timingCommit
  exact keeps_when (fun _ h0 => (keeps_setRecommit h0)) (keeps_wb h)

/-! ### Beam -/

theorem keeps_stepFade {s t : State} {a1 : Bool} (h : Keeps s t) : Keeps s (stepFade a1 t) := by
  unfold stepFade
  extract_lets -merge -underBinder +onlyGivenNames x0 x1 x2 x3
  (try clear_value x0 x1 x2 x3)
  exact keeps_mk h

theorem keeps_startPass {s t : State} {a1 : Bool} {a2 : List Obj} {a3 : Bool} (h : Keeps s t) : Keeps s (startPass a1 a2 a3 t) := by
  unfold startPass
  extract_lets -merge -underBinder +onlyGivenNames x0 x2
  (try clear_value x2)
  have k1 : Keeps s x0 := (keeps_stepFade h)
  exact keeps_wb (keeps_wb (keeps_mk k1))

theorem keeps_squash {s t : State} {a1 : Bool} (h : Keeps s t) : Keeps s (squash a1 t) := by
  unfold squash
  extract_lets -merge -underBinder +onlyGivenNames x0
  have k1 : Keeps s x0 := (keeps_when (fun _ h2 => (keeps_count h2)) h)
  exact keeps_startPass (keeps_mk k1)

theorem keeps_setBeamState {s t : State} {a1 : Nat} (h : Keeps s t) : Keeps s (setBeamState a1 t) := by
  unfold setBeamState
  extract_lets -merge -underBinder +onlyGivenNames x0
  (try clear_value x0)
  exact (keeps_ite h (by extract_lets -merge -underBinder +onlyGivenNames x1 x3 x6 x7; (try clear_value x6); have k2 : Keeps s x1 := (keeps_event (keeps_wf h)); have k4 : Keeps s x3 := (keeps_when (fun _ h5 => (keeps_count h5)) k2); have k8 : Keeps s x7 := (keeps_mk k4); exact (keeps_when (fun _ h9 => (keeps_squash h9)) k8)))

theorem keeps_listExpire {s t : State} (h : Keeps s t) : Keeps s (listExpire t) := by
  unfold listExpire
  exact keeps_ite (keeps_setBeamState (keeps_advanceTo h)) h

theorem keeps_execListTimeout {s t : State} (h : execListTimeout s = .next t) : Keeps s t := by
  unfold execListTimeout at h
  exact keeps_done (keeps_listExpire (keeps_refl s)) h

theorem keeps_beamEn {s t : State} {a1 : Bool} (h : Keeps s t) : Keeps s (beamEn a1 t) := by
  unfold beamEn
  extract_lets -merge -underBinder +onlyGivenNames x0 x1
  (try clear_value x0)
  have k2 : Keeps s x1 := (keeps_wb h)
  exact keeps_ite k2 (keeps_setBeamState k2)

theorem keeps_acceptList {s t : State} {a1 : List Byte} (h : Keeps s t) : Keeps s (acceptList a1 t) := by
  unfold acceptList
  extract_lets -merge -underBinder +onlyGivenNames x0 x1 x3 x4 x5 x8 x10 x12 x13 x14
  (try clear_value x0 x3 x4 x12 x13)
  have k2 : Keeps s x1 := (keeps_ite (keeps_listExpire h) h)
  have k6 : Keeps s x5 := (keeps_when (fun _ h7 => (keeps_count h7)) k2)
  have k9 : Keeps s x8 := (keeps_countBy (keeps_count k6))
  have k11 : Keeps s x10 := (keeps_wr (keeps_wr k9))
  have k15 : Keeps s x14 := (keeps_mk k11)
  exact keeps_ite (keeps_setBeamState k15) k15

theorem keeps_listIn {s t : State} {a1 : Nat} {a2 : List Byte} (h : Keeps s t) : Keeps s (listIn a1 a2 t) := by
  unfold listIn
  exact keeps_ite (keeps_count h) (by split; exacts [(keeps_acceptList h), (keeps_count h), (keeps_count h), (keeps_count h), (keeps_count h)])

theorem keeps_setBeamAsm {s t : State} {a1 : Nat} {a2 : Option Assembly} (h : Keeps s t) : Keeps s (setBeamAsm a1 a2 t) := by
  unfold setBeamAsm
  exact keeps_mk h

theorem keeps_beamCanFrame {s t : State} {a1 : Nat} {a2 : List Byte} (h : Keeps s t) : Keeps s (beamCanFrame a1 a2 t) := by
  unfold beamCanFrame
  extract_lets -merge -underBinder +onlyGivenNames x0 x1
  have k2 : Keeps s x1 := (keeps_when (fun _ h3 => (keeps_count h3)) (keeps_setBeamAsm h))
  exact by split; exacts [(keeps_listIn k2), k2]

theorem keeps_beamAsmTimeout {s t : State} {a1 : Nat} (h : Keeps s t) : Keeps s (beamAsmTimeout a1 t) := by
  unfold beamAsmTimeout
  split
  exacts [(keeps_count (keeps_setBeamAsm (keeps_advanceTo h))), h]

theorem keeps_execBeamCanAssyTimeout {s t : State} {a1 : Fin 2} (h : execBeamCanAssyTimeout a1 s = .next t) : Keeps s t := by
  unfold execBeamCanAssyTimeout at h
  exact keeps_done (keeps_beamAsmTimeout (keeps_refl s)) h

theorem keeps_countHorizons {s t : State} {a1 : Nat} (h : Keeps s t) : Keeps s (countHorizons a1 t) := by
  unfold countHorizons
  split
  exacts [h, (by extract_lets -merge -underBinder +onlyGivenNames x0 x1; (try clear_value x0 x1); exact (keeps_countBy (keeps_mk h)))]

theorem keeps_renderCutoff {s t : State} (h : Keeps s t) : Keeps s (renderCutoff t) := by
  unfold renderCutoff
  exact (keeps_ite h (by extract_lets -merge -underBinder +onlyGivenNames x0 x2 x3 x4; (try clear_value x2 x3); have k1 : Keeps s x0 := (keeps_advanceTo h); have k5 : Keeps s x4 := (keeps_mk k1); exact (keeps_ite (by split; exacts [(keeps_ite (keeps_squash k5) k5), k5]) (keeps_startPass k5))))

theorem keeps_execRenderCutoff {s t : State} (h : execRenderCutoff s = .next t) : Keeps s t := by
  unfold execRenderCutoff at h
  exact keeps_done (keeps_renderCutoff (keeps_refl s)) h

theorem keeps_renderDone {s t : State} (h : Keeps s t) : Keeps s (renderDone t) := by
  unfold renderDone
  split
  exacts [h, (keeps_wb (keeps_wf (keeps_wb (keeps_mk h))))]

theorem keeps_execRenderPassDone {s t : State} (h : execRenderPassDone s = .next t) : Keeps s t := by
  unfold execRenderPassDone at h
  exact keeps_done (keeps_renderDone (keeps_refl s)) h

theorem keeps_renderBound {s t : State} (h : Keeps s t) : Keeps s (renderBound t) := by
  unfold renderBound
  split
  exacts [(keeps_ite (keeps_renderDone h) h), h]

theorem keeps_beamP0 {s t : State} (h : Keeps s t) : Keeps s (beamP0 t) := by
  unfold beamP0
  extract_lets -merge -underBinder +onlyGivenNames x0 x2 x3 x4 x6 x9 x10 x11 x12 x14 x16 x18
  (try clear_value x2 x3 x9 x10 x11)
  have k1 : Keeps s x0 := (keeps_renderBound h)
  have k5 : Keeps s x4 := (keeps_ite (keeps_count k1) k1)
  have k7 : Keeps s x6 := (keeps_when (fun _ h8 => (keeps_wb (keeps_mk h8))) k5)
  have k13 : Keeps s x12 := (keeps_mk k7)
  have k15 : Keeps s x14 := (by unfold x14; split; exacts [(keeps_wb k13), k13])
  have k17 : Keeps s x16 := (by unfold x16; split; exacts [(keeps_wf k15), k15])
  have k19 : Keeps s x18 := (keeps_wb k17)
  exact keeps_ite (keeps_startPass (keeps_mk k19)) k19

theorem keeps_beamCommit {s t : State} (h : Keeps s t) : Keeps s (beamCommit t) := by
  unfold beamCommit
  exact keeps_when (fun _ h0 => (keeps_setRecommit h0)) (keeps_wb (keeps_wb h))

/-! ### Snow -/

theorem keeps_setNewer {s t : State} {a1 : Nat} {a2 : Nat} (h : Keeps s t) : Keeps s (setNewer a1 a2 t) := by
  unfold setNewer
  exact keeps_mk h

theorem keeps_dirUpdated {s t : State} (h : Keeps s t) : Keeps s (dirUpdated t) := by
  unfold dirUpdated
  extract_lets -merge -underBinder +onlyGivenNames x0
  have k1 : Keeps s x0 := (keeps_putLe h)
  exact keeps_putLe k1

theorem keeps_fbShow {s t : State} (h : Keeps s t) : Keeps s (fbShow t) := by
  unfold fbShow
  exact (keeps_ite h (by extract_lets -merge -underBinder +onlyGivenNames x0 x1; (try clear_value x0 x1); exact (keeps_wb (keeps_wb (keeps_wf h)))))

theorem keeps_snowShow {s t : State} (h : Keeps s t) : Keeps s (snowShow t) := by
  unfold snowShow
  extract_lets -merge -underBinder +onlyGivenNames x0 x2 x4 x6
  have k1 : Keeps s x0 := (keeps_fbShow h)
  have k3 : Keeps s x2 := (keeps_wf k1)
  have k5 : Keeps s x4 := (keeps_wr k3)
  have k7 : Keeps s x6 := (keeps_wr k5)
  exact (keeps_forEach (fun _ _ h8 => (by extract_lets -merge -underBinder +onlyGivenNames x9; (try clear_value x9); exact (keeps_wr (keeps_wr (keeps_wr h8))))) k7)

/-! ### RegWrite -/

theorem keeps_swWrite {s t : State} {a2 : Nat} {a3 : Word} (h : Keeps s t) : Keeps s (State.swWrite t a2 a3) := by
  unfold State.swWrite
  split
  exacts [h, (keeps_wr h)]

/-! ### Inbound -/

theorem keeps_discardInbound {s t : State} {a1 : Nat} {a2 : Nat} (h : Keeps s t) : Keeps s (discardInbound a1 a2 t) := by
  unfold discardInbound
  extract_lets -merge -underBinder +onlyGivenNames x0 x3 x4 x6
  (try clear_value x3)
  have k1 : ∀ t', Keeps s t' → Keeps s (x0 t') := (by unfold x0; exact (fun _ h2 => (keeps_respond h2)))
  have k5 : Keeps s x4 := (k1 _ h)
  have k7 : Keeps s x6 := (keeps_wf k5)
  exact keeps_mk k7

theorem keeps_sampleInbound {s t : State} {a1 : Nat} {a2 : Nat} (h : Keeps s t) : Keeps s (sampleInbound a1 a2 t) := by
  unfold sampleInbound
  extract_lets -merge -underBinder +onlyGivenNames x0
  (try clear_value x0)
  exact keeps_ite h (keeps_ite (keeps_discardInbound h) (keeps_mk h))

theorem keeps_inSluice {s t : State} {a1 : Nat} {a2 : Word} (h : Keeps s t) : Keeps s (inSluice a1 a2 t) := by
  unfold inSluice
  exact keeps_ite h (keeps_sampleInbound (keeps_wf h))

theorem keeps_execMbnInSluice {s t : State} {a1 : Fin 8} {a2 : Word} (h : execMbnInSluice a1 a2 s = .next t) : Keeps s t := by
  unfold execMbnInSluice at h
  exact keeps_done (keeps_inSluice (keeps_refl s)) h

theorem keeps_releaseHeld {s t : State} {a1 : Nat} (h : Keeps s t) : Keeps s (releaseHeld a1 t) := by
  unfold releaseHeld
  exact (keeps_forEach (fun _ _ h0 => (keeps_ite (keeps_placeMsg (keeps_mk h0)) h0)) h)

theorem keeps_outSluice {s t : State} {a1 : Nat} {a2 : Word} (h : Keeps s t) : Keeps s (outSluice a1 a2 t) := by
  unfold outSluice
  exact keeps_ite h (keeps_wf h)

theorem keeps_execMbnOutSluice {s t : State} {a1 : Fin 8} {a2 : Word} (h : execMbnOutSluice a1 a2 s = .next t) : Keeps s t := by
  unfold execMbnOutSluice at h
  exact keeps_done (keeps_outSluice (keeps_refl s)) h

theorem keeps_execResponseRelease {s t : State} {a1 : Fin 8} (h : execResponseRelease a1 s = .next t) : Keeps s t := by
  unfold execResponseRelease at h
  exact keeps_done (keeps_releaseHeld (keeps_refl s)) h

theorem keeps_mbPut {s t : State} {a1 : Nat} {a2 : Nat} {a3 : List Byte} (h : Keeps s t) : Keeps s (mbPut a1 a2 a3 t) := by
  unfold mbPut
  extract_lets -merge -underBinder +onlyGivenNames x0 x1
  (try clear_value x0)
  have k2 : Keeps s x1 := (keeps_ringPut h)
  exact keeps_sampleInbound (keeps_wf k2)

theorem keeps_freeCredit {s t : State} {a1 : Arrived} (h : Keeps s t) : Keeps s (freeCredit a1 t) := by
  unfold freeCredit
  split
  exacts [(keeps_fabCredit h), h]

theorem keeps_mbRefill {s t : State} {a1 : Nat} (h : Keeps s t) : Keeps s (mbRefill a1 t) := by
  unfold mbRefill
  exact (keeps_forEach (fun _ _ h0 => (by extract_lets -merge -underBinder +onlyGivenNames x1 x2; (try clear_value x1); have k3 : Keeps s x2 := (keeps_mk h0); exact (keeps_ite (keeps_ite h0 (keeps_respond (keeps_freeCredit k3))) (keeps_ite (keeps_mbPut (keeps_freeCredit k3)) h0)))) h)

theorem keeps_mbArrive {s t : State} {a1 : Arrived} (h : Keeps s t) : Keeps s (mbArrive a1 t) := by
  unfold mbArrive
  exact keeps_mbRefill (keeps_mk h)

theorem keeps_forwarded {s t : State} {a1 : Nat} {a2 : List Byte} (h : Keeps s t) : Keeps s (forwarded a1 a2 t) := by
  unfold forwarded
  split
  exacts [h, (by extract_lets -merge -underBinder +onlyGivenNames x0; (try clear_value x0); exact (keeps_ite (keeps_respond h) (keeps_sendMsg h)))]

theorem keeps_execForwardedResponse {s t : State} {a1 : BitVec 12} {a2 : List Byte} (h : execForwardedResponse a1 a2 s = .next t) : Keeps s t := by
  unfold execForwardedResponse at h
  exact keeps_done (keeps_forwarded (keeps_refl s)) h

theorem keeps_forwardExpiry {s t : State} {a1 : Nat} (h : Keeps s t) : Keeps s (forwardExpiry a1 t) := by
  unfold forwardExpiry
  exact keeps_mk h

theorem keeps_execForwardRecordExpiry {s t : State} {a1 : Nat} (h : execForwardRecordExpiry a1 s = .next t) : Keeps s t := by
  unfold execForwardRecordExpiry at h
  exact keeps_done (keeps_forwardExpiry (keeps_refl s)) h

theorem keeps_consume {s t : State} {a1 : Nat} {a2 : Nat} (h : Keeps s t) : Keeps s (consume a1 a2 t) := by
  unfold consume
  extract_lets -merge -underBinder +onlyGivenNames x0 x2
  (try clear_value x2)
  have k1 : Keeps s x0 := (keeps_wf h)
  exact keeps_mbRefill (keeps_mk k1)

theorem keeps_aliveSeen {s t : State} {a1 : Nat} {a2 : Nat} {a3 : Byte} (h : Keeps s t) : Keeps s (aliveSeen a1 a2 a3 t) := by
  unfold aliveSeen
  extract_lets -merge -underBinder +onlyGivenNames x0 x1 x4 x6 x9 x11 x12
  (try clear_value x0 x11)
  have k2 : Keeps s x1 := (keeps_when (fun _ h3 => (keeps_count h3)) h)
  have k5 : Keeps s x4 := (keeps_wf k2)
  have k7 : ∀ b1 b2 t', Keeps s t' → Keeps s (x6 b1 b2 t') := (by unfold x6; exact (fun _ _ _ h8 => (keeps_mk h8)))
  have k10 : Keeps s x9 := (k7 _ _ _ k5)
  have k13 : Keeps s x12 := (keeps_mk k10)
  exact (keeps_ite (by extract_lets -merge -underBinder +onlyGivenNames x14; (try clear_value x14); exact (keeps_ite (k7 _ _ _ (keeps_mk k13)) (keeps_mk k13))) k13)

theorem keeps_judge {s t : State} {a1 : Nat → Msg → State → State} {a2 : Nat} {a3 : Msg} (g1 : ∀ b1 b2 t', Keeps s t' → Keeps s (a1 b1 b2 t')) (h : Keeps s t) : Keeps s (judge a1 a2 a3 t) := by
  unfold judge
  extract_lets -merge -underBinder +onlyGivenNames x0 x1
  (try clear_value x0)
  have k2 : ∀ b1 t', Keeps s t' → Keeps s (x1 b1 t') := (by unfold x1; exact (fun _ _ h3 => (keeps_refuse h3)))
  exact (keeps_ite (k2 _ _ h) (by extract_lets -merge -underBinder +onlyGivenNames x4 x6 x7 x8 x9; (try clear_value x6 x7 x8); have k5 : Keeps s x4 := (keeps_aliveSeen h); have k10 : Keeps s x9 := (by unfold x9; split; exacts [(keeps_stripDone k5), k5]); exact (keeps_ite (k2 _ _ k10) (keeps_ite (k2 _ _ k10) (keeps_ite (k2 _ _ k10) (keeps_ite (k2 _ _ k10) (g1 _ _ _ k10)))))))

theorem keeps_dequeue {s t : State} {a1 : Nat → Msg → State → State} (g1 : ∀ b1 b2 t', Keeps s t' → Keeps s (a1 b1 b2 t')) (h : Keeps s t) : Keeps s (dequeue a1 t) := by
  unfold dequeue
  exact (keeps_ite h (by split; exacts [h, (by extract_lets -merge -underBinder +onlyGivenNames x0; (try clear_value x0); exact (keeps_ite (keeps_mbRefill (keeps_discardInbound h)) (by extract_lets -merge -underBinder +onlyGivenNames x1 x2 x3 x4 x5; (try clear_value x1 x2 x3 x4); have k6 : Keeps s x5 := (keeps_count (keeps_consume h)); exact (keeps_ite (keeps_refuse k6) (keeps_ite (keeps_refuse k6) (keeps_judge g1 k6))))))]))

/-! ### Surface -/

theorem keeps_poolShow {s t : State} (h : Keeps s t) : Keeps s (poolShow t) := by
  unfold poolShow
  extract_lets -merge -underBinder +onlyGivenNames x0
  (try clear_value x0)
  exact keeps_wr (keeps_wr (keeps_wr (keeps_wr h)))

theorem keeps_setBuf {s t : State} {a1 : Nat} {a2 : Nat} {a3 : Nat} (h : Keeps s t) : Keeps s (setBuf a1 a2 a3 t) := by
  unfold setBuf
  exact keeps_wf h

theorem keeps_countDropped {s t : State} {a1 : Nat} (h : Keeps s t) : Keeps s (countDropped a1 t) := by
  unfold countDropped
  exact keeps_ite (keeps_count h) h

theorem keeps_takeBuf {s t : State} {a1 : Nat} {a2 : Nat} (h : Keeps s t) : Keeps s (takeBuf a1 a2 t) := by
  unfold takeBuf
  exact (keeps_ite h (keeps_setBuf (keeps_when (fun _ h0 => (keeps_countDropped h0)) h)))

theorem keeps_publishBuf {s t : State} {a1 : Nat} {a2 : Nat} {a3 : Nat} (h : Keeps s t) : Keeps s (publishBuf a1 a2 a3 t) := by
  unfold publishBuf
  extract_lets -merge -underBinder +onlyGivenNames x0 x3
  have k1 : Keeps s x0 := (keeps_forEach (fun _ _ h2 => (keeps_countDropped (keeps_setBuf h2))) h)
  have k4 : Keeps s x3 := (keeps_wf (keeps_setBuf k1))
  exact keeps_modSurf (keeps_wf k4)

theorem keeps_dropBuf {s t : State} {a1 : Nat} {a2 : Nat} (h : Keeps s t) : Keeps s (dropBuf a1 a2 t) := by
  unfold dropBuf
  exact keeps_modSurf (keeps_when (fun _ h0 => (keeps_setBuf h0)) h)

theorem keeps_promote {s t : State} {a1 : Nat} (h : Keeps s t) : Keeps s (promote a1 t) := by
  unfold promote
  split
  exacts [h, (by extract_lets -merge -underBinder +onlyGivenNames x0 x1 x3; (try clear_value x0); have k2 : Keeps s x1 := (keeps_setBuf h); have k4 : Keeps s x3 := (by unfold x3; split; exacts [k2, (keeps_ite k2 (keeps_ite (keeps_modSurf k2) (keeps_setBuf k2)))]); exact (keeps_modSurf k4))]

theorem keeps_readDone {s t : State} {a1 : Nat} {a2 : Nat} (h : Keeps s t) : Keeps s (readDone a1 a2 t) := by
  unfold readDone
  exact (keeps_ite (keeps_modSurf (keeps_when (fun _ h0 => (keeps_setBuf h0)) h)) h)

theorem keeps_destroySurf {s t : State} {a1 : Nat} (h : Keeps s t) : Keeps s (destroySurf a1 t) := by
  unfold destroySurf
  exact (keeps_poolShow (keeps_modSurf (keeps_wr (keeps_wr (keeps_wr h)))))

/-! ### Time -/

theorem keeps_modTt {s t : State} {a1 : Nat} {a2 : TtSt → TtSt} (h : Keeps s t) : Keeps s (modTt a1 a2 t) := by
  unfold modTt
  exact keeps_mk h

theorem keeps_setTtState {s t : State} {a1 : Nat} {a2 : Nat} (h : Keeps s t) : Keeps s (setTtState a1 a2 t) := by
  unfold setTtState
  exact keeps_wf h

theorem keeps_ttShow {s t : State} {a1 : Nat} (h : Keeps s t) : Keeps s (ttShow a1 t) := by
  unfold ttShow
  exact keeps_wr h

theorem keeps_ttStepped {s t : State} {a1 : Nat} (h : Keeps s t) : Keeps s (ttStepped a1 t) := by
  unfold ttStepped
  extract_lets -merge -underBinder +onlyGivenNames x0 x1
  (try clear_value x0 x1)
  exact (keeps_ite h (keeps_ite (keeps_modTt h) (by extract_lets -merge -underBinder +onlyGivenNames x2; (try clear_value x2); exact (keeps_ttShow (keeps_wr (keeps_modTt h))))))

theorem keeps_setServo {s t : State} {a1 : Nat} (h : Keeps s t) : Keeps s (setServo a1 t) := by
  unfold setServo
  extract_lets -merge -underBinder +onlyGivenNames x0
  (try clear_value x0)
  exact keeps_ite h (by extract_lets -merge -underBinder +onlyGivenNames x1 x3 x4; (try clear_value x3); have k2 : Keeps s x1 := (keeps_event (keeps_wf h)); have k5 : Keeps s x4 := (keeps_mk k2); exact (keeps_ite (keeps_wb k5) k5))

theorem keeps_setTime {s t : State} {a1 : Nat} (h : Keeps s t) : Keeps s (setTime a1 t) := by
  unfold setTime
  extract_lets -merge -underBinder +onlyGivenNames x0 x1 x2 x4
  (try clear_value x0 x1)
  have k3 : Keeps s x2 := (keeps_rasterStepped (keeps_mk h))
  have k5 : Keeps s x4 := (keeps_forEach (fun _ _ h6 => (keeps_ttStepped h6)) k3)
  exact keeps_when (fun _ h7 => (keeps_setServo (keeps_mk h7))) k5

theorem keeps_stepTime {s t : State} {a1 : Int} (h : Keeps s t) : Keeps s (stepTime a1 t) := by
  unfold stepTime
  exact keeps_setTime h

theorem keeps_timeLoad {s t : State} (h : Keeps s t) : Keeps s (timeLoad t) := by
  unfold timeLoad
  exact keeps_setTime h

theorem keeps_timeStep {s t : State} (h : Keeps s t) : Keeps s (timeStep t) := by
  unfold timeStep
  exact keeps_stepTime h

theorem keeps_latchTime {s t : State} (h : Keeps s t) : Keeps s (latchTime t) := by
  unfold latchTime
  exact (keeps_wr (keeps_wr (keeps_wr (keeps_wr (keeps_wr (keeps_wr h))))))

theorem keeps_execTimeNsRead {s t : State} (h : execTimeNsRead s = .next t) : Keeps s t := by
  unfold execTimeNsRead at h
  exact keeps_done (keeps_latchTime (keeps_refl s)) h

theorem keeps_servoShow {s t : State} (h : Keeps s t) : Keeps s (servoShow t) := by
  unfold servoShow
  extract_lets -merge -underBinder +onlyGivenNames x0 x1
  (try clear_value x0 x1)
  exact keeps_wr (keeps_wr (keeps_useFree h))

theorem keeps_servoLock {s t : State} {a1 : Int} (h : Keeps s t) : Keeps s (servoLock a1 t) := by
  unfold servoLock
  extract_lets -merge -underBinder +onlyGivenNames x0 x1
  (try clear_value x0)
  have k2 : Keeps s x1 := (keeps_when (fun _ h3 => (keeps_setServo h3)) h)
  exact (keeps_ite (keeps_when (fun _ h4 => (keeps_setServo h4)) k2) (by extract_lets -merge -underBinder +onlyGivenNames x5 x6 x7; (try clear_value x5 x6); have k8 : Keeps s x7 := (keeps_mk k2); exact (keeps_when (fun _ h9 => (keeps_setServo h9)) k8)))

theorem keeps_servoOffset {s t : State} {a1 : Word} (h : Keeps s t) : Keeps s (servoOffset a1 t) := by
  unfold servoOffset
  extract_lets -merge -underBinder +onlyGivenNames x0 x1
  (try clear_value x0)
  have k2 : Keeps s x1 := (keeps_count h)
  exact (keeps_ite k2 (by extract_lets -merge -underBinder +onlyGivenNames x3 x5; (try clear_value x5); have k4 : Keeps s x3 := (keeps_wr k2); exact (keeps_ite (keeps_stepTime (keeps_count k4)) (by extract_lets -merge -underBinder +onlyGivenNames x6 x7 x8 x9 x10 x13; (try clear_value x6 x7 x8 x9); have k11 : Keeps s x10 := (keeps_when (fun _ h12 => (keeps_count h12)) k4); have k14 : Keeps s x13 := (keeps_when (fun _ h15 => (keeps_count h15)) k11); exact (keeps_servoLock (keeps_servoShow (keeps_mk k14)))))))

theorem keeps_execServoOffset {s t : State} {a1 : Word} (h : execServoOffset a1 s = .next t) : Keeps s t := by
  unfold execServoOffset at h
  exact keeps_done (keeps_servoOffset (keeps_refl s)) h

theorem keeps_servoHoldover {s t : State} (h : Keeps s t) : Keeps s (servoHoldover t) := by
  unfold servoHoldover
  exact (keeps_ite (keeps_servoShow (keeps_count (by extract_lets -merge -underBinder +onlyGivenNames x0; have k1 : Keeps s x0 := (keeps_setServo h); exact (keeps_mk k1)))) h)

theorem keeps_execServoHoldover {s t : State} (h : execServoHoldover s = .next t) : Keeps s t := by
  unfold execServoHoldover at h
  exact keeps_done (keeps_servoHoldover (keeps_refl s)) h

theorem keeps_servoEnable {s t : State} (h : Keeps s t) : Keeps s (servoEnable t) := by
  unfold servoEnable
  exact keeps_ite (keeps_when (fun _ h0 => (keeps_setServo h0)) h) (keeps_setServo h)

theorem keeps_setRxTs {s t : State} {a1 : Nat} {a2 : Nat} {a3 : Int} (h : Keeps s t) : Keeps s (setRxTs a1 a2 a3 t) := by
  unfold setRxTs
  exact keeps_mk h

theorem keeps_setTxTs {s t : State} {a1 : Nat} {a2 : Nat} {a3 : Option Int} (h : Keeps s t) : Keeps s (setTxTs a1 a2 a3 t) := by
  unfold setTxTs
  exact keeps_mk h

theorem keeps_setDelay {s t : State} {a1 : Nat} {a2 : Int} (h : Keeps s t) : Keeps s (setDelay a1 a2 t) := by
  unfold setDelay
  exact keeps_wr h

theorem keeps_peerDelay {s t : State} {a1 : Nat} {a2 : Int} {a3 : Int} (h : Keeps s t) : Keeps s (peerDelay a1 a2 a3 t) := by
  unfold peerDelay
  split
  exacts [h, (by extract_lets -merge -underBinder +onlyGivenNames x0; have k1 : Keeps s x0 := (keeps_setDelay h); exact (keeps_mk k1))]

theorem keeps_rateRatio {s t : State} {a1 : Nat} {a2 : Int} {a3 : Int} (h : Keeps s t) : Keeps s (rateRatio a1 a2 a3 t) := by
  unfold rateRatio
  extract_lets -merge -underBinder +onlyGivenNames x0 x1
  (try clear_value x0)
  have k2 : Keeps s x1 := (keeps_mk h)
  exact by split; exacts [(keeps_ite (keeps_wr k2) k2), k2]

theorem keeps_ptpTake {s t : State} {a1 : Nat} {a2 : Int} {a3 : List Byte} (h : Keeps s t) : Keeps s (ptpTake a1 a2 a3 t) := by
  unfold ptpTake
  split
  exacts [(keeps_mk h), (keeps_mk h), (keeps_ite h (keeps_ite (keeps_mk h) (keeps_peerDelay h))), (by split; exacts [(keeps_ite (keeps_when (fun _ h0 => (keeps_rateRatio h0)) (keeps_peerDelay h)) h), h]), (by split; exacts [(keeps_ite h (keeps_setDelay h)), h]), (keeps_mk h), h]

theorem keeps_ptpReceive {s t : State} {a1 : Nat} {a2 : Nat} {a3 : List Byte} (h : Keeps s t) : Keeps s (ptpReceive a1 a2 a3 t) := by
  unfold ptpReceive
  exact (keeps_ite h (keeps_ite (keeps_count h) (by extract_lets -merge -underBinder +onlyGivenNames x0 x2; (try clear_value x2); have k1 : Keeps s x0 := (keeps_count h); exact (keeps_ite (by extract_lets -merge -underBinder +onlyGivenNames x3 x4; (try clear_value x3 x4); exact (keeps_ptpTake (keeps_setRxTs (keeps_useFree k1)))) (keeps_ite k1 (keeps_ptpTake k1))))))

theorem keeps_execPtpEventMessage {s t : State} {a1 : Fin 6} {a2 : Nat} {a3 : List Byte} (h : execPtpEventMessage a1 a2 a3 s = .next t) : Keeps s t := by
  unfold execPtpEventMessage at h
  exact keeps_done (keeps_ptpReceive (keeps_refl s)) h

theorem keeps_ptpEmit {s t : State} {a1 : Nat} {a2 : List Byte} (h : Keeps s t) : Keeps s (ptpEmit a1 a2 t) := by
  unfold ptpEmit
  extract_lets -merge -underBinder +onlyGivenNames x0 x2
  have k1 : Keeps s x0 := (keeps_count h)
  have k3 : Keeps s x2 := (by unfold x2; split; exacts [(keeps_appendDone (keeps_emit k1)), (keeps_emit k1)])
  exact keeps_ite (keeps_fabSeqUsed (keeps_fabQueue k3)) (keeps_count k3)

theorem keeps_ptpEvent {s t : State} {a1 : Nat} {a2 : Nat} {a3 : Int} {a4 : List Byte} (h : Keeps s t) : Keeps s (ptpEvent a1 a2 a3 a4 t) := by
  unfold ptpEvent
  extract_lets -merge -underBinder +onlyGivenNames x0
  have k1 : Keeps s x0 := (keeps_setTxTs (keeps_useFree h))
  exact by split <;> exact (keeps_ptpEmit k1)

theorem keeps_ptpFollow {s t : State} {a1 : Nat} {a2 : Nat} {a3 : List Byte} (h : Keeps s t) : Keeps s (ptpFollow a1 a2 a3 t) := by
  unfold ptpFollow
  split
  exacts [h, (keeps_ptpEmit h)]

theorem keeps_ptpSend {s t : State} {a1 : Nat} {a2 : Nat} {a3 : Bool} {a4 : List Byte} (h : Keeps s t) : Keeps s (ptpSend a1 a2 a3 a4 t) := by
  unfold ptpSend
  extract_lets -merge -underBinder +onlyGivenNames x0 x1 x2 x3
  (try clear_value x0 x1 x2 x3)
  exact (keeps_ite h (keeps_ite (keeps_ptpEmit (keeps_setTxTs (keeps_count h))) (by split; exacts [(keeps_ptpFollow h), (keeps_ptpFollow h), (keeps_ptpEmit h), (keeps_ite (keeps_ptpEvent h) (keeps_ptpEmit h))])))

theorem keeps_execPtpMessageSend {s t : State} {a1 : Fin 6} {a2 : Nat} {a3 : Bool} {a4 : List Byte} (h : execPtpMessageSend a1 a2 a3 a4 s = .next t) : Keeps s t := by
  unfold execPtpMessageSend at h
  exact keeps_done (keeps_ptpSend (keeps_refl s)) h

theorem keeps_ttArm {s t : State} {a1 : Nat} (h : Keeps s t) : Keeps s (ttArm a1 t) := by
  unfold ttArm
  extract_lets -merge -underBinder +onlyGivenNames x0 x1 x2 x3 x4
  (try clear_value x0 x1 x2 x3 x4)
  exact (keeps_ite (keeps_setTtState h) (by extract_lets -merge -underBinder +onlyGivenNames x5 x6; (try clear_value x5); have k7 : Keeps s x6 := (keeps_modTt h); exact (keeps_ttShow (keeps_wr (keeps_setTtState k7)))))

theorem keeps_ttCancel {s t : State} {a1 : Nat} (h : Keeps s t) : Keeps s (ttCancel a1 t) := by
  unfold ttCancel
  exact keeps_ite (keeps_setTtState h) h

theorem keeps_ttEdge {s t : State} {a1 : Nat} {a2 : Bool} {a3 : Int} (h : Keeps s t) : Keeps s (ttEdge a1 a2 a3 t) := by
  unfold ttEdge
  exact keeps_emit h

theorem keeps_ttOccur {s t : State} {a1 : Nat} (h : Keeps s t) : Keeps s (ttOccur a1 t) := by
  unfold ttOccur
  exact (keeps_ite h (by extract_lets -merge -underBinder +onlyGivenNames x0 x1 x2 x4 x6 x9; (try clear_value x0 x1); have k3 : Keeps s x2 := (keeps_ttEdge (keeps_advanceTo h)); have k5 : Keeps s x4 := (keeps_setTtState k3); have k7 : Keeps s x6 := (keeps_when (fun _ h8 => (keeps_count h8)) k5); have k10 : Keeps s x9 := (keeps_modTt k7); exact (keeps_ite (keeps_ttShow k10) k10)))

theorem keeps_execTtOccurrence {s t : State} {a1 : Fin 4} (h : execTtOccurrence a1 s = .next t) : Keeps s t := by
  unfold execTtOccurrence at h
  exact keeps_done (keeps_ttOccur (keeps_refl s)) h

theorem keeps_ttPulseEnd {s t : State} {a1 : Nat} (h : Keeps s t) : Keeps s (ttPulseEnd a1 t) := by
  unfold ttPulseEnd
  split
  exacts [h, (keeps_modTt (keeps_ttEdge (keeps_advanceTo h)))]

theorem keeps_execTtPulseEnd {s t : State} {a1 : Fin 4} (h : execTtPulseEnd a1 s = .next t) : Keeps s t := by
  unfold execTtPulseEnd at h
  exact keeps_done (keeps_ttPulseEnd (keeps_refl s)) h

theorem keeps_setTc {s t : State} {a1 : Nat} {a2 : List (Nat × Bool)} (h : Keeps s t) : Keeps s (setTc a1 a2 t) := by
  unfold setTc
  exact keeps_mk h

theorem keeps_tcLevel {s t : State} {a1 : Nat} {a2 : Bool} (h : Keeps s t) : Keeps s (tcLevel a1 a2 t) := by
  unfold tcLevel
  extract_lets -merge -underBinder +onlyGivenNames x0
  (try clear_value x0)
  exact keeps_mk h

theorem keeps_tcEdge {s t : State} {a1 : Nat} {a2 : Bool} {a3 : Nat} (h : Keeps s t) : Keeps s (tcEdge a1 a2 a3 t) := by
  unfold tcEdge
  extract_lets -merge -underBinder +onlyGivenNames x0 x2
  (try clear_value x2)
  have k1 : Keeps s x0 := (keeps_tcLevel h)
  exact keeps_ite k1 (keeps_ite (keeps_count k1) (keeps_setTc k1))

theorem keeps_execCaptureEdge {s t : State} {a1 : Fin 4} {a2 : Bool} {a3 : Nat} (h : execCaptureEdge a1 a2 a3 s = .next t) : Keeps s t := by
  unfold execCaptureEdge at h
  exact keeps_done (keeps_tcEdge (keeps_refl s)) h

theorem keeps_tcPop {s t : State} {a1 : Nat} (h : Keeps s t) : Keeps s (tcPop a1 t) := by
  unfold tcPop
  exact keeps_setTc h

/-! ### Fabric -/

theorem keeps_setFabState {s t : State} {a1 : Nat} (h : Keeps s t) : Keeps s (setFabState a1 t) := by
  unfold setFabState
  exact keeps_ite h (keeps_event (keeps_wf h))

theorem keeps_setFid {s t : State} {a1 : Nat} (h : Keeps s t) : Keeps s (setFid a1 t) := by
  unfold setFid
  exact keeps_wf h

theorem keeps_updateClaim {s t : State} (h : Keeps s t) : Keeps s (updateClaim t) := by
  unfold updateClaim
  exact (keeps_ite h (by extract_lets -merge -underBinder +onlyGivenNames x0 x1 x2 x3 x4; (try clear_value x1 x2 x3); have k5 : Keeps s x4 := (keeps_wf (keeps_wr (keeps_wr (keeps_mk h)))); exact (keeps_ite k5 (keeps_ite (keeps_setFabState (keeps_wb k5)) (keeps_ite (keeps_setFabState k5) k5)))))

theorem keeps_setTree {s t : State} {a1 : Nat} {a2 : Option Nat} (h : Keeps s t) : Keeps s (setTree a1 a2 t) := by
  unfold setTree
  extract_lets -merge -underBinder +onlyGivenNames x0
  have k1 : Keeps s x0 := (keeps_wf (keeps_wf h))
  exact keeps_forEach (fun _ _ h2 => (keeps_wb (keeps_wb h2))) k1

theorem keeps_addTree {s t : State} {a1 : Nat} (h : Keeps s t) : Keeps s (addTree a1 t) := by
  unfold addTree
  exact keeps_setTree h

theorem keeps_fabLeave {s t : State} (h : Keeps s t) : Keeps s (fabLeave t) := by
  unfold fabLeave
  extract_lets -merge -underBinder +onlyGivenNames x0 x1
  (try clear_value x0)
  have k2 : Keeps s x1 := (keeps_setTree (keeps_wb (keeps_setFid h)))
  exact keeps_mk k2

theorem keeps_fabDiscover {s t : State} (h : Keeps s t) : Keeps s (fabDiscover t) := by
  unfold fabDiscover
  extract_lets -merge -underBinder +onlyGivenNames x0
  have k1 : Keeps s x0 := (keeps_forEach (fun _ _ h2 => (keeps_modFabPort h2)) h)
  exact keeps_updateClaim (keeps_setFabState (keeps_count (keeps_fabLeave k1)))

theorem keeps_fabLost {s t : State} (h : Keeps s t) : Keeps s (fabLost t) := by
  unfold fabLost
  exact keeps_ite (keeps_fabDiscover h) (keeps_updateClaim h)

theorem keeps_fabEnable {s t : State} {a1 : Bool} (h : Keeps s t) : Keeps s (fabEnable a1 t) := by
  unfold fabEnable
  extract_lets -merge -underBinder +onlyGivenNames x0 x1
  (try clear_value x0)
  have k2 : Keeps s x1 := (keeps_wb h)
  exact (keeps_ite (keeps_fabDiscover k2) (keeps_ite (by extract_lets -merge -underBinder +onlyGivenNames x3; have k4 : Keeps s x3 := (keeps_setFabState (keeps_fabLeave k2)); exact (keeps_wf (keeps_wr (keeps_wr k4)))) k2))

theorem keeps_srcSend {s t : State} {a1 : List Nat} {a2 : FabPkt} (h : Keeps s t) : Keeps s (srcSend a1 a2 t) := by
  unfold srcSend
  split
  exacts [h, (keeps_fabSeqUsed (keeps_fabOut h))]

theorem keeps_srcForward {s t : State} {a1 : Nat} {a2 : DiscPath} {a3 : FabPkt} (h : Keeps s t) : Keeps s (srcForward a1 a2 a3 t) := by
  unfold srcForward
  exact keeps_fabOut h

theorem keeps_fabReceive {s t : State} {a1 : Nat} {a2 : FabPkt} {a3 : List Nat} {a4 : State → State} (g4 : ∀ t', Keeps s t' → Keeps s (a4 t')) (h : Keeps s t) : Keeps s (fabReceive a1 a2 a3 a4 t) := by
  unfold fabReceive
  exact keeps_ite h (keeps_ite (keeps_fabFree (keeps_count h)) (g4 _ (keeps_count h)))

theorem keeps_badPacket {s t : State} {a1 : Nat} {a2 : List Byte} {a3 : Bool} (h : Keeps s t) : Keeps s (badPacket a1 a2 a3 t) := by
  unfold badPacket
  exact keeps_ite h (by extract_lets -merge -underBinder +onlyGivenNames x0; have k1 : Keeps s x0 := (keeps_count h); exact (keeps_ite k1 (keeps_fabCredit k1)))

theorem keeps_execFabricBadPacket {s t : State} {a1 : Fin 4} {a2 : List Byte} {a3 : Bool} (h : execFabricBadPacket a1 a2 a3 s = .next t) : Keeps s t := by
  unfold execFabricBadPacket at h
  exact keeps_done (keeps_badPacket (keeps_refl s)) h

theorem keeps_seqCheck {s t : State} {a1 : FabPkt} (h : Keeps s t) : Keeps s (seqCheck a1 t) := by
  unfold seqCheck
  exact (keeps_ite h (by extract_lets -merge -underBinder +onlyGivenNames x0 x1 x2; (try clear_value x0 x1); have k3 : Keeps s x2 := (keeps_when (fun _ h4 => (keeps_count h4)) h); exact (keeps_mk k3)))

theorem keeps_fabRoute {s t : State} {a1 : Nat} {a2 : FabPkt} {a3 : Option DiscPath} {a4 : State → State} (g4 : ∀ t', Keeps s t' → Keeps s (a4 t')) (h : Keeps s t) : Keeps s (fabRoute a1 a2 a3 a4 t) := by
  unfold fabRoute
  split
  exacts [(keeps_ite (g4 _ (keeps_seqCheck h)) (keeps_srcForward h)), (keeps_ite (keeps_fabForward h) (keeps_ite (keeps_ite (keeps_fabDropAt h) (g4 _ (keeps_seqCheck (keeps_fabForward h)))) (keeps_ite (g4 _ (keeps_seqCheck h)) (keeps_fabForward h))))]

theorem keeps_helloSend {s t : State} {a1 : Nat} (h : Keeps s t) : Keeps s (helloSend a1 t) := by
  unfold helloSend
  extract_lets -merge -underBinder +onlyGivenNames x0 x1 x2 x3
  (try clear_value x0 x1 x2 x3)
  exact keeps_fabSeqUsed (keeps_fabQueue h)

theorem keeps_execHelloSend {s t : State} (h : execHelloSend s = .next t) : Keeps s t := by
  unfold execHelloSend at h
  exact keeps_done (keeps_ite (keeps_forEach (fun _ _ h0 => (keeps_helloSend h0)) (keeps_refl s)) (keeps_refl s)) h

theorem keeps_asgSend {s t : State} {a1 : Asg} (h : Keeps s t) : Keeps s (asgSend a1 t) := by
  unfold asgSend
  extract_lets -merge -underBinder +onlyGivenNames x0
  have k1 : Keeps s x0 := (keeps_addTree h)
  exact keeps_srcSend k1

theorem keeps_stageImage {s t : State} {a1 : Nat} {a2 : List Byte} (h : Keeps s t) : Keeps s (stageImage a1 a2 t) := by
  unfold stageImage
  extract_lets -merge -underBinder +onlyGivenNames x0
  have k1 : Keeps s x0 := (keeps_putBytes h)
  exact keeps_mk k1

theorem keeps_routeTo {s t : State} {a1 : Nat} {a2 : TopoDev} (h : Keeps s t) : Keeps s (routeTo a1 a2 t) := by
  unfold routeTo
  exact keeps_ite (keeps_stageImage h) (keeps_srcSend h)

theorem keeps_commitSend {s t : State} {a1 : Nat} {a2 : Nat} (h : Keeps s t) : Keeps s (commitSend a1 a2 t) := by
  unfold commitSend
  extract_lets -merge -underBinder +onlyGivenNames x0 x1 x2
  (try clear_value x0 x1)
  have k3 : Keeps s x2 := (keeps_ite (keeps_mk h) h)
  exact keeps_fabSend k3

theorem keeps_sendRoutes {s t : State} (h : Keeps s t) : Keeps s (sendRoutes t) := by
  unfold sendRoutes
  extract_lets -merge -underBinder +onlyGivenNames x0 x1 x2 x4
  (try clear_value x0 x1)
  have k3 : Keeps s x2 := (keeps_mk h)
  have k5 : Keeps s x4 := (keeps_ite k3 (keeps_setFabState k3))
  exact keeps_commitSend (keeps_forEach (fun _ _ h6 => (keeps_routeTo h6)) k5)

theorem keeps_rootNext {s t : State} (h : Keeps s t) : Keeps s (rootNext t) := by
  unfold rootNext
  exact (keeps_ite h (by split; exacts [(by extract_lets -merge -underBinder +onlyGivenNames x0; (try clear_value x0); exact (keeps_asgSend (keeps_mk h))), (keeps_sendRoutes h)]))

theorem keeps_becomeRoot {s t : State} (h : Keeps s t) : Keeps s (becomeRoot t) := by
  unfold becomeRoot
  exact (keeps_ite (by extract_lets -merge -underBinder +onlyGivenNames x0 x1 x3 x4; (try clear_value x0 x3); have k2 : Keeps s x1 := (keeps_setFabState (keeps_wb (keeps_setFid h))); have k5 : Keeps s x4 := (keeps_mk k2); exact (keeps_rootNext (keeps_mk k5))) h)

theorem keeps_execRootElected {s t : State} (h : execRootElected s = .next t) : Keeps s t := by
  unfold execRootElected at h
  exact keeps_done (keeps_becomeRoot (keeps_refl s)) h

theorem keeps_execNoRoot {s t : State} (h : execNoRoot s = .next t) : Keeps s t := by
  unfold execNoRoot at h
  exact keeps_done (keeps_ite (keeps_setFabState (keeps_refl s)) (keeps_refl s)) h

theorem keeps_claimLapse {s t : State} {a1 : Nat} (h : Keeps s t) : Keeps s (claimLapse a1 t) := by
  unfold claimLapse
  exact keeps_ite h (keeps_fabLost (keeps_modFabPort h))

theorem keeps_execClaimLapse {s t : State} {a1 : Fin 4} (h : execClaimLapse a1 s = .next t) : Keeps s t := by
  unfold execClaimLapse at h
  exact keeps_done (keeps_claimLapse (keeps_refl s)) h

theorem keeps_helloIn {s t : State} {a1 : Nat} {a2 : Hello} (h : Keeps s t) : Keeps s (helloIn a1 a2 t) := by
  unfold helloIn
  extract_lets -merge -underBinder +onlyGivenNames x0 x2 x4
  have k1 : Keeps s x0 := (keeps_wr (keeps_wr h))
  have k3 : Keeps s x2 := (keeps_wf (keeps_wf k1))
  have k5 : Keeps s x4 := (keeps_updateClaim (keeps_modFabPort k3))
  exact keeps_ite (by extract_lets -merge -underBinder +onlyGivenNames x6; (try clear_value x6); exact (keeps_rootNext (keeps_mk k5))) k5

theorem keeps_hello {s t : State} {a1 : Nat} {a2 : FabHdr} {a3 : Hello} (h : Keeps s t) : Keeps s (hello a1 a2 a3 t) := by
  unfold hello
  extract_lets -merge -underBinder +onlyGivenNames x0
  (try clear_value x0)
  exact (keeps_fabReceive (fun _ h1 => (keeps_when (fun _ h2 => (keeps_helloIn h2)) (keeps_seqCheck (keeps_fabFree h1)))) h)

theorem keeps_execHello {s t : State} {a1 : Fin 4} {a2 : HelloPkt} (h : execHello a1 a2 s = .next t) : Keeps s t := by
  unfold execHello at h
  exact keeps_done (keeps_hello (keeps_refl s)) h

theorem keeps_assignTake {s t : State} {a1 : Nat} {a2 : FabHdr} {a3 : DiscPath} {a4 : Nat} {a5 : Nat} {a6 : Nat} (h : Keeps s t) : Keeps s (assignTake a1 a2 a3 a4 a5 a6 t) := by
  unfold assignTake
  exact keeps_ite h (by extract_lets -merge -underBinder +onlyGivenNames x0 x2 x3 x5; (try clear_value x2); have k1 : Keeps s x0 := (keeps_setTree (keeps_setFid h)); have k4 : Keeps s x3 := (keeps_mk k1); have k6 : Keeps s x5 := (keeps_ite k4 (keeps_setFabState k4)); exact (keeps_srcSend k6))

theorem keeps_assign {s t : State} {a1 : Nat} {a2 : FabHdr} {a3 : DiscPath} {a4 : Nat} {a5 : Nat} {a6 : Nat} (h : Keeps s t) : Keeps s (assign a1 a2 a3 a4 a5 a6 t) := by
  unfold assign
  extract_lets -merge -underBinder +onlyGivenNames x0
  (try clear_value x0)
  exact (keeps_fabReceive (fun _ h1 => (keeps_fabRoute (fun _ h2 => (keeps_assignTake (keeps_fabFree h2))) (keeps_when (fun _ h3 => (keeps_addTree h3)) h1))) h)

theorem keeps_execAssign {s t : State} {a1 : Fin 4} {a2 : FabHdr} {a3 : DiscPath} {a4 : BitVec 64} {a5 : BitVec 12} {a6 : Fin 4} (h : execAssign a1 a2 a3 a4 a5 a6 s = .next t) : Keeps s t := by
  unfold execAssign at h
  exact keeps_done (keeps_assign (keeps_refl s)) h

theorem keeps_ackTake {s t : State} {a1 : Nat} {a2 : List (Nat × Nat)} (h : Keeps s t) : Keeps s (ackTake a1 a2 t) := by
  unfold ackTake
  exact (keeps_ite h (by split; exacts [(keeps_ite (keeps_rootNext (keeps_mk h)) h), (keeps_rootNext (keeps_mk h))]))

theorem keeps_assignAck {s t : State} {a1 : Nat} {a2 : FabHdr} {a3 : DiscPath} {a4 : Nat} {a5 : Nat} {a6 : List (Nat × Nat)} (h : Keeps s t) : Keeps s (assignAck a1 a2 a3 a4 a5 a6 t) := by
  unfold assignAck
  extract_lets -merge -underBinder +onlyGivenNames x0
  (try clear_value x0)
  exact (keeps_fabReceive (fun _ h1 => (keeps_fabRoute (fun _ h2 => (keeps_ackTake (keeps_fabFree h2))) h1)) h)

theorem keeps_execAssignAck {s t : State} {a1 : Fin 4} {a2 : FabHdr} {a3 : DiscPath} {a4 : BitVec 64} {a5 : BitVec 12} {a6 : List (BitVec 64 × Fin 4)} (h : execAssignAck a1 a2 a3 a4 a5 a6 s = .next t) : Keeps s t := by
  unfold execAssignAck at h
  exact keeps_done (keeps_assignAck (keeps_refl s)) h

theorem keeps_assignTimeout {s t : State} (h : Keeps s t) : Keeps s (assignTimeout t) := by
  unfold assignTimeout
  split
  exacts [h, (keeps_ite (keeps_asgSend (keeps_mk h)) (keeps_rootNext (keeps_event (keeps_mk h))))]

theorem keeps_execAssignTimeout {s t : State} (h : execAssignTimeout s = .next t) : Keeps s t := by
  unfold execAssignTimeout at h
  exact keeps_done (keeps_assignTimeout (keeps_refl s)) h

theorem keeps_toRoot {s t : State} {a1 : List Nat} {a2 : Nat} {a3 : List Byte} (h : Keeps s t) : Keeps s (toRoot a1 a2 a3 t) := by
  unfold toRoot
  exact keeps_ite (keeps_fabSend h) (keeps_srcSend h)

theorem keeps_routeTake {s t : State} {a1 : Nat} {a2 : FabHdr} {a3 : DiscPath} {a4 : Nat} {a5 : List Byte} (h : Keeps s t) : Keeps s (routeTake a1 a2 a3 a4 a5 t) := by
  unfold routeTake
  extract_lets -merge -underBinder +onlyGivenNames x0 x1
  (try clear_value x0)
  have k2 : Keeps s x1 := (keeps_mk h)
  exact keeps_ite (by extract_lets -merge -underBinder +onlyGivenNames x3 x5; have k4 : Keeps s x3 := (keeps_stageImage k2); have k6 : Keeps s x5 := (keeps_ite k4 (keeps_setFabState k4)); exact (keeps_toRoot k6)) (keeps_toRoot k2)

theorem keeps_route {s t : State} {a1 : Nat} {a2 : FabHdr} {a3 : DiscPath} {a4 : Nat} {a5 : List Byte} (h : Keeps s t) : Keeps s (route a1 a2 a3 a4 a5 t) := by
  unfold route
  extract_lets -merge -underBinder +onlyGivenNames x0
  (try clear_value x0)
  exact (keeps_fabReceive (fun _ h1 => (keeps_fabRoute (fun _ h2 => (keeps_routeTake (keeps_fabFree h2))) h1)) h)

theorem keeps_execRoute {s t : State} {a1 : Fin 4} {a2 : FabHdr} {a3 : DiscPath} {a4 : BitVec 32} {a5 : List Byte} (h : execRoute a1 a2 a3 a4 a5 s = .next t) : Keeps s t := by
  unfold execRoute at h
  exact keeps_done (keeps_route (keeps_refl s)) h

theorem keeps_commitTake {s t : State} {a1 : Nat} {a2 : Nat} (h : Keeps s t) : Keeps s (commitTake a1 a2 t) := by
  unfold commitTake
  exact keeps_ite (keeps_mk h) (keeps_toRoot h)

theorem keeps_routeCommit {s t : State} {a1 : Nat} {a2 : FabHdr} {a3 : Nat} {a4 : Nat} (h : Keeps s t) : Keeps s (routeCommit a1 a2 a3 a4 t) := by
  unfold routeCommit
  extract_lets -merge -underBinder +onlyGivenNames x0
  (try clear_value x0)
  exact (keeps_fabReceive (fun _ h1 => (keeps_fabRoute (fun _ h2 => (keeps_commitTake (keeps_when (fun _ h3 => (keeps_fabFree h3)) h2))) h1)) h)

theorem keeps_execRouteCommit {s t : State} {a1 : Fin 4} {a2 : FabHdr} {a3 : BitVec 32} {a4 : BitVec 64} (h : execRouteCommit a1 a2 a3 a4 s = .next t) : Keeps s t := by
  unfold execRouteCommit at h
  exact keeps_done (keeps_routeCommit (keeps_refl s)) h

theorem keeps_bankSwitch {s t : State} (h : Keeps s t) : Keeps s (bankSwitch t) := by
  unfold bankSwitch
  split
  exacts [(by extract_lets -merge -underBinder +onlyGivenNames x0 x2 x3 x4 x6 x8 x9; (try clear_value x2 x3 x8); have k1 : Keeps s x0 := (keeps_advanceTo h); have k5 : Keeps s x4 := (keeps_count (keeps_wf k1)); have k7 : Keeps s x6 := (keeps_setTree k5); have k10 : Keeps s x9 := (keeps_setFabState (keeps_mk k7)); exact (keeps_completeOps k10)), h]

theorem keeps_execRouteBankSwitch {s t : State} (h : execRouteBankSwitch s = .next t) : Keeps s t := by
  unfold execRouteBankSwitch at h
  exact keeps_done (keeps_bankSwitch (keeps_refl s)) h

theorem keeps_routeAgain {s t : State} {a1 : Nat} {a2 : Nat} (h : Keeps s t) : Keeps s (routeAgain a1 a2 t) := by
  unfold routeAgain
  split
  exacts [(keeps_ite (keeps_commitSend (keeps_routeTo h)) h), h]

theorem keeps_routeAck {s t : State} {a1 : Nat} {a2 : FabHdr} {a3 : DiscPath} {a4 : Nat} {a5 : Nat} (h : Keeps s t) : Keeps s (routeAck a1 a2 a3 a4 a5 t) := by
  unfold routeAck
  extract_lets -merge -underBinder +onlyGivenNames x0
  (try clear_value x0)
  exact (keeps_fabReceive (fun _ h1 => (keeps_fabRoute (fun _ h2 => (keeps_routeAgain (keeps_fabFree h2))) h1)) h)

theorem keeps_execRouteAck {s t : State} {a1 : Fin 4} {a2 : FabHdr} {a3 : DiscPath} {a4 : BitVec 32} {a5 : Byte} (h : execRouteAck a1 a2 a3 a4 a5 s = .next t) : Keeps s t := by
  unfold execRouteAck at h
  exact keeps_done (keeps_routeAck (keeps_refl s)) h

theorem keeps_rootLink {s t : State} {a1 : Nat} {a2 : Nat} {a3 : Bool} {a4 : Nat} (h : Keeps s t) : Keeps s (rootLink a1 a2 a3 a4 t) := by
  unfold rootLink
  exact keeps_ite (keeps_rootNext (keeps_mk h)) h

theorem keeps_linkEvent {s t : State} {a1 : Nat} {a2 : FabHdr} {a3 : DiscPath} {a4 : Nat} {a5 : Nat} {a6 : Bool} {a7 : Nat} (h : Keeps s t) : Keeps s (linkEvent a1 a2 a3 a4 a5 a6 a7 t) := by
  unfold linkEvent
  extract_lets -merge -underBinder +onlyGivenNames x0
  (try clear_value x0)
  exact (keeps_fabReceive (fun _ h1 => (keeps_fabRoute (fun _ h2 => (keeps_rootLink (keeps_fabFree h2))) h1)) h)

theorem keeps_execLinkEvent {s t : State} {a1 : Fin 4} {a2 : DiscHdr} {a3 : BitVec 64} {a4 : Fin 4} {a5 : Bool} {a6 : BitVec 64} (h : execLinkEvent a1 a2 a3 a4 a5 a6 s = .next t) : Keeps s t := by
  unfold execLinkEvent at h
  exact keeps_done (keeps_linkEvent (keeps_refl s)) h

theorem keeps_reportLink {s t : State} {a1 : Nat} {a2 : Bool} {a3 : Nat} (h : Keeps s t) : Keeps s (reportLink a1 a2 a3 t) := by
  unfold reportLink
  exact keeps_ite (keeps_rootLink h) (keeps_ite (keeps_toRoot h) h)

theorem keeps_fabPortUp {s t : State} {a1 : Nat} {a2 : Nat} (h : Keeps s t) : Keeps s (fabPortUp a1 a2 t) := by
  unfold fabPortUp
  extract_lets -merge -underBinder +onlyGivenNames x0 x2 x5 x7 x8
  (try clear_value x7)
  have k1 : Keeps s x0 := (keeps_wb h)
  have k3 : Keeps s x2 := (keeps_forEach (fun _ _ h4 => (keeps_modFabPort h4)) k1)
  have k6 : Keeps s x5 := (keeps_modFabPort k3)
  have k9 : Keeps s x8 := (keeps_mk k6)
  exact keeps_reportLink (keeps_flowOut k9)

theorem keeps_fabPortDown {s t : State} {a1 : Nat} (h : Keeps s t) : Keeps s (fabPortDown a1 t) := by
  unfold fabPortDown
  exact (keeps_ite h (by extract_lets -merge -underBinder +onlyGivenNames x0 x1 x4 x6 x8; (try clear_value x0); have k2 : Keeps s x1 := (keeps_forEach (fun _ _ h3 => (keeps_fabDropAt h3)) h); have k5 : Keeps s x4 := (keeps_modFabPort k2); have k7 : Keeps s x6 := (keeps_count (keeps_wb k5)); have k9 : Keeps s x8 := (keeps_wr (keeps_wr k7)); exact (keeps_fabLost (keeps_reportLink k9))))

theorem keeps_flow {s t : State} {a1 : Nat} {a2 : Bool} {a3 : List Nat} (h : Keeps s t) : Keeps s (flow a1 a2 a3 t) := by
  unfold flow
  exact (keeps_ite h (by extract_lets -merge -underBinder +onlyGivenNames x0; (try clear_value x0); exact (keeps_fabDrain (keeps_modFabPort (keeps_count h)))))

theorem keeps_execFlow {s t : State} {a1 : Fin 4} {a2 : Bool} {a3 : BitVec 16} {a4 : BitVec 16} {a5 : BitVec 16} {a6 : BitVec 16} (h : execFlow a1 a2 a3 a4 a5 a6 s = .next t) : Keeps s t := by
  unfold execFlow at h
  exact keeps_done (keeps_flow (keeps_refl s)) h

theorem keeps_flowSend {s t : State} {a1 : Nat} (h : Keeps s t) : Keeps s (flowSend a1 t) := by
  unfold flowSend
  exact keeps_ite (keeps_fabDrain (keeps_flowFreed h)) h

theorem keeps_execFlowSend {s t : State} {a1 : Fin 4} (h : execFlowSend a1 s = .next t) : Keeps s t := by
  unfold execFlowSend at h
  exact keeps_done (keeps_flowSend (keeps_refl s)) h

theorem keeps_packetDelay {s t : State} {a1 : Nat} {a2 : Nat} (h : Keeps s t) : Keeps s (packetDelay a1 a2 t) := by
  unfold packetDelay
  split
  exacts [h, (keeps_modFabPort (keeps_count h))]

theorem keeps_execFabPacketDelay {s t : State} {a1 : Fin 4} {a2 : Fin 4} (h : execFabPacketDelay a1 a2 s = .next t) : Keeps s t := by
  unfold execFabPacketDelay at h
  exact keeps_done (keeps_packetDelay (keeps_refl s)) h

theorem keeps_controlIn {s t : State} {a1 : FabPkt} (h : Keeps s t) : Keeps s (controlIn a1 t) := by
  unfold controlIn
  exact keeps_ite (keeps_forwarded (keeps_fabFree h)) (keeps_mbArrive h)

theorem keeps_control {s t : State} {a1 : Nat} {a2 : FabHdr} {a3 : List Byte} (h : Keeps s t) : Keeps s (control a1 a2 a3 t) := by
  unfold control
  extract_lets -merge -underBinder +onlyGivenNames x0
  (try clear_value x0)
  exact (keeps_fabReceive (fun _ h1 => (keeps_fabRoute (fun _ h2 => (keeps_controlIn h2)) h1)) h)

theorem keeps_timePacket {s t : State} {a1 : Nat} {a2 : FabHdr} {a3 : Nat} {a4 : List Byte} (h : Keeps s t) : Keeps s (timePacket a1 a2 a3 a4 t) := by
  unfold timePacket
  extract_lets -merge -underBinder +onlyGivenNames x0
  (try clear_value x0)
  exact keeps_fabReceive (fun _ h1 => (keeps_ptpReceive (keeps_fabFree h1))) h

theorem keeps_execTime {s t : State} {a1 : Fin 4} {a2 : FabHdr} {a3 : Nat} {a4 : List Byte} (h : execTime a1 a2 a3 a4 s = .next t) : Keeps s t := by
  unfold execTime at h
  exact keeps_done (keeps_timePacket (keeps_refl s)) h

end Sys2Proof.Machine
end

