-- ==== Sys2Proof/Laws/Keeps2.lean ====
section
/-! SUPPORT. What the functions of these files of Machine/ keep (`Keeps`): Strip, CalUnit, Link, Compose, Polder, Scan, Layer. -/
namespace Sys2Proof.Machine

/-! ### Strip -/

theorem keeps_modSub {s t : State} {a1 : Nat} {a2 : SubSt → SubSt} (h : Keeps s t) : Keeps s (modSub a1 a2 t) := by
  unfold modSub
  exact keeps_mk h

theorem keeps_stripSend {s t : State} (h : Keeps s t) : Keeps s (stripSend t) := by
  unfold stripSend
  extract_lets -merge -underBinder +onlyGivenNames x0 x2
  have k1 : Keeps s x0 := (keeps_countBy h)
  have k3 : Keeps s x2 := (keeps_forEach (fun _ _ h4 => (keeps_modFabPort h4)) k1)
  exact (keeps_forEach (fun _ _ h5 => (keeps_forEach (fun _ _ h6 => (keeps_fabSeqUsed (keeps_fabForward h6))) h5)) k3)

theorem keeps_subSignal {s t : State} {a1 : Nat} {a2 : Bool} (h : Keeps s t) : Keeps s (subSignal a1 a2 t) := by
  unfold subSignal
  exact keeps_ite h (keeps_event (keeps_wb h))

theorem keeps_stripWrite {s t : State} {a1 : Nat} {a2 : Nat} {a3 : Nat} {a4 : Nat} {a5 : List Byte} (h : Keeps s t) : Keeps s (stripWrite a1 a2 a3 a4 a5 t) := by
  unfold stripWrite
  extract_lets -merge -underBinder +onlyGivenNames x0 x1 x2
  (try clear_value x0 x1 x2)
  exact keeps_ite h (by extract_lets -merge -underBinder +onlyGivenNames x3 x4; (try clear_value x3 x4); exact (keeps_ite h (keeps_putBytes h)))

theorem keeps_stripTake {s t : State} {a1 : Nat} {a2 : FabHdr} {a3 : List Byte} (h : Keeps s t) : Keeps s (stripTake a1 a2 a3 t) := by
  unfold stripTake
  extract_lets -merge -underBinder +onlyGivenNames x0 x1 x2 x3 x4 x5 x6 x7
  (try clear_value x0 x1 x2 x3 x4 x5 x6)
  have k8 : ∀ b1 t', Keeps s t' → Keeps s (x7 b1 t') := (by unfold x7; exact (fun _ _ h9 => (keeps_modSub (keeps_stripWrite h9))))
  exact (keeps_ite (keeps_count h) (keeps_ite (keeps_count h) (by split; exacts [(keeps_ite (k8 _ _ h) (keeps_ite (keeps_count h) (keeps_count h))), (keeps_ite h (by split; exacts [h, (k8 _ _ (keeps_modSub (keeps_wb (keeps_takeBuf h))))]))])))

theorem keeps_pixelStrip {s t : State} {a1 : Nat} {a2 : FabHdr} {a3 : List Byte} (h : Keeps s t) : Keeps s (pixelStrip a1 a2 a3 t) := by
  unfold pixelStrip
  extract_lets -merge -underBinder +onlyGivenNames x0 x1 x2
  (try clear_value x0 x1)
  have k3 : ∀ t', Keeps s t' → Keeps s (x2 t') := (by unfold x2; exact (fun _ h4 => (keeps_forEach (fun _ _ h5 => (keeps_stripTake h5)) h4)))
  exact (keeps_fabReceive (fun _ h6 => (keeps_ite (k3 _ (keeps_fabForward h6)) (keeps_ite (keeps_ite (keeps_fabDropAt h6) (k3 _ (keeps_fabForward h6))) (keeps_ite (keeps_fabForward h6) (k3 _ (keeps_when (fun _ h7 => (keeps_count h7)) (keeps_fabFree h6))))))) h)

theorem keeps_subCfg {s t : State} {a1 : Nat} {a2 : Word} (h : Keeps s t) : Keeps s (subCfg a1 a2 t) := by
  unfold subCfg
  extract_lets -merge -underBinder +onlyGivenNames x0
  (try clear_value x0)
  exact (keeps_ite h (by extract_lets -merge -underBinder +onlyGivenNames x1; have k2 : Keeps s x1 := (by unfold x1; split; exacts [(keeps_dropBuf h), h]); exact (keeps_swWrite (keeps_modSub (keeps_wb k2)))))

theorem keeps_stripCopy {s t : State} {a1 : Nat} {a2 : Nat} {a3 : Nat} (h : Keeps s t) : Keeps s (stripCopy a1 a2 a3 t) := by
  unfold stripCopy
  extract_lets -merge -underBinder +onlyGivenNames x0 x1
  (try clear_value x0)
  have k2 : Keeps s x1 := (keeps_count h)
  exact by split; exacts [k2, (keeps_forEach (fun _ _ h3 => (keeps_copyBytes h3)) k2)]

theorem keeps_stripDeadline {s t : State} {a1 : Nat} (h : Keeps s t) : Keeps s (stripDeadline a1 t) := by
  unfold stripDeadline
  exact (keeps_ite h (by extract_lets -merge -underBinder +onlyGivenNames x0; (try clear_value x0); exact (by split; exacts [(by extract_lets -merge -underBinder +onlyGivenNames x1 x4 x6; have k2 : Keeps s x1 := (keeps_forEach (fun _ _ h3 => (keeps_stripCopy h3)) h); have k5 : Keeps s x4 := (keeps_publishBuf k2); have k7 : Keeps s x6 := (keeps_count (keeps_wb (keeps_wf k5))); exact (keeps_subSignal (keeps_modSub k7))), (keeps_when (fun _ h8 => (keeps_countBy h8)) h)])))

theorem keeps_subLoss {s t : State} {a1 : Nat} (h : Keeps s t) : Keeps s (subLoss a1 t) := by
  unfold subLoss
  exact keeps_ite (keeps_subSignal h) h

theorem keeps_execSubLossTimeout {s t : State} {a1 : Fin 16} (h : execSubLossTimeout a1 s = .next t) : Keeps s t := by
  unfold execSubLossTimeout at h
  exact keeps_done (keeps_subLoss (keeps_refl s)) h

/-! ### CalUnit -/

theorem keeps_modSens {s t : State} {a1 : Nat} {a2 : Sensor → Sensor} (h : Keeps s t) : Keeps s (modSens a1 a2 t) := by
  unfold modSens
  exact keeps_mk h

theorem keeps_setCalUser {s t : State} {a1 : Nat} {a2 : Bool} (h : Keeps s t) : Keeps s (setCalUser a1 a2 t) := by
  unfold setCalUser
  exact keeps_wb h

theorem keeps_keepCalTemp {s t : State} {a1 : Nat} (h : Keeps s t) : Keeps s (keepCalTemp a1 t) := by
  unfold keepCalTemp
  exact keeps_mk h

theorem keeps_calApply {s t : State} {a1 : Nat} {a2 : List Nat} {a3 : Nat} (h : Keeps s t) : Keeps s (calApply a1 a2 a3 t) := by
  unfold calApply
  extract_lets -merge -underBinder +onlyGivenNames x0
  have k1 : Keeps s x0 := (keeps_forEach (fun _ _ h2 => (by split <;> exact (keeps_wf h2))) h)
  exact keeps_ite (keeps_wf k1) (keeps_ite (keeps_wf k1) k1)

theorem keeps_calLast {s t : State} {a1 : Nat} {a2 : Nat} {a3 : Nat} {a4 : Int} (h : Keeps s t) : Keeps s (calLast a1 a2 a3 a4 t) := by
  unfold calLast
  exact keeps_wr h

theorem keeps_calEnd {s t : State} {a1 : Nat} {a2 : Bool} {a3 : List Nat} {a4 : Nat} {a5 : Bool} (h : Keeps s t) : Keeps s (calEnd a1 a2 a3 a4 a5 t) := by
  unfold calEnd
  extract_lets -merge -underBinder +onlyGivenNames x0 x1 x2 x4
  (try clear_value x0 x1)
  have k3 : Keeps s x2 := (keeps_ite (keeps_calApply h) h)
  have k5 : Keeps s x4 := (keeps_count (keeps_calLast (keeps_keepCalTemp k3)))
  exact keeps_ite (keeps_event (keeps_count k5)) k5

theorem keeps_calAbort {s t : State} {a1 : Nat} (h : Keeps s t) : Keeps s (calAbort a1 t) := by
  unfold calAbort
  exact (keeps_ite (by extract_lets -merge -underBinder +onlyGivenNames x0 x1; (try clear_value x0); have k2 : Keeps s x1 := (keeps_mk h); exact (keeps_count (keeps_calLast (keeps_wf (keeps_wb k2))))) h)

/-! ### Link -/

theorem keeps_holdShow {s t : State} {a1 : Nat} (h : Keeps s t) : Keeps s (holdShow a1 t) := by
  unfold holdShow
  extract_lets -merge -underBinder +onlyGivenNames x0
  (try clear_value x0)
  exact keeps_wf (keeps_wb h)

theorem keeps_setSegState {s t : State} {a1 : Nat} {a2 : Nat} (h : Keeps s t) : Keeps s (setSegState a1 a2 t) := by
  unfold setSegState
  exact keeps_holdShow (keeps_wf h)

theorem keeps_slkSend {s t : State} {a1 : Nat} {a2 : Nat} {a3 : Nat} {a4 : Nat} {a5 : List Byte} (h : Keeps s t) : Keeps s (slkSend a1 a2 a3 a4 a5 t) := by
  unfold slkSend
  extract_lets -merge -underBinder +onlyGivenNames x0 x1
  (try clear_value x0 x1)
  exact keeps_modLink (keeps_emit h)

theorem keeps_linePacket {s t : State} {a1 : Nat} {a2 : Nat} (h : Keeps s t) : Keeps s (linePacket a1 a2 t) := by
  unfold linePacket
  extract_lets -merge -underBinder +onlyGivenNames x0 x1 x2
  (try clear_value x0 x2)
  exact (keeps_ite (by extract_lets -merge -underBinder +onlyGivenNames x3; (try clear_value x3); exact (keeps_modSeg (keeps_modLink (keeps_emit h)))) (keeps_modSeg h))

theorem keeps_lineRun {s t : State} {n k : Nat} {i : Int} (h : Keeps s t) : Keeps s (lineRun n i k t) := by
  induction k generalizing t with
  | zero => exact h
  | succ k ih =>
    unfold lineRun
    split
    · exact h
    · exact keeps_ite h (ih (keeps_linePacket h))

theorem keeps_lineNow {s t : State} {a1 : Nat} (h : Keeps s t) : Keeps s (lineNow a1 t) := by
  unfold lineNow
  exact keeps_ite (keeps_lineRun h) h

theorem keeps_lineTake {s t : State} {a1 : Nat} {a2 : Nat} (h : Keeps s t) : Keeps s (lineTake a1 a2 t) := by
  unfold lineTake
  extract_lets -merge -underBinder +onlyGivenNames x0
  have k1 : Keeps s x0 := (keeps_lineNow h)
  exact keeps_modLink k1

theorem keeps_blankCmd {s t : State} {a1 : Nat} {a2 : Nat} {a3 : Nat} {a4 : Nat} {a5 : Bool} (h : Keeps s t) : Keeps s (blankCmd a1 a2 a3 a4 a5 t) := by
  unfold blankCmd
  exact keeps_slkSend h

theorem keeps_blankNow {s t : State} {a1 : Nat} {a2 : Nat} {a3 : Nat} {a4 : Nat} {a5 : Bool} (h : Keeps s t) : Keeps s (blankNow a1 a2 a3 a4 a5 t) := by
  unfold blankNow
  exact keeps_blankCmd (keeps_lineTake h)

theorem keeps_wakeCmd {s t : State} {a1 : Nat} (h : Keeps s t) : Keeps s (wakeCmd a1 t) := by
  unfold wakeCmd
  extract_lets -merge -underBinder +onlyGivenNames x0
  (try clear_value x0)
  exact keeps_modLink (keeps_emit h)

theorem keeps_blankShown {s t : State} {a1 : Nat} {a2 : Nat} (h : Keeps s t) : Keeps s (blankShown a1 a2 t) := by
  unfold blankShown
  exact keeps_modSeg h

theorem keeps_segBlankNow {s t : State} {a1 : Nat} {a2 : Nat} (h : Keeps s t) : Keeps s (segBlankNow a1 a2 t) := by
  unfold segBlankNow
  exact keeps_blankShown (keeps_blankNow h)

theorem keeps_segToDefault {s t : State} {a1 : Nat} (h : Keeps s t) : Keeps s (segToDefault a1 t) := by
  unfold segToDefault
  extract_lets -merge -underBinder +onlyGivenNames x0
  have k1 : Keeps s x0 := (keeps_when (fun _ h2 => (keeps_segBlankNow h2)) h)
  exact keeps_setSegState k1

theorem keeps_sendTiming {s t : State} {a1 : Nat} {a2 : Nat} (h : Keeps s t) : Keeps s (sendTiming a1 a2 t) := by
  unfold sendTiming
  exact keeps_slkSend h

theorem keeps_segCmdDone {s t : State} {a1 : Nat} {a2 : List Byte} (h : Keeps s t) : Keeps s (segCmdDone a1 a2 t) := by
  unfold segCmdDone
  exact keeps_modSeg (keeps_wf h)

theorem keeps_segCmd {s t : State} {a1 : Nat} {a2 : Nat} (h : Keeps s t) : Keeps s (segCmd a1 a2 t) := by
  unfold segCmd
  extract_lets -merge -underBinder +onlyGivenNames x0
  (try clear_value x0)
  exact keeps_when (fun _ h1 => (keeps_segCmdDone h1)) (keeps_slkSend h)

theorem keeps_linkEnter {s t : State} {a1 : Nat} {a2 : Nat} (h : Keeps s t) : Keeps s (linkEnter a1 a2 t) := by
  unfold linkEnter
  extract_lets -merge -underBinder +onlyGivenNames x0 x2
  have k1 : Keeps s x0 := (keeps_wf h)
  have k3 : Keeps s x2 := (keeps_when (fun _ h4 => (keeps_event h4)) k1)
  exact keeps_ite (by extract_lets -merge -underBinder +onlyGivenNames x5 x7; have k6 : Keeps s x5 := (keeps_wr (keeps_wf k3)); have k8 : Keeps s x7 := (keeps_completeOps k6); exact (keeps_holdShow (keeps_modLink k8))) k3

theorem keeps_alignStart {s t : State} {a1 : Nat} (h : Keeps s t) : Keeps s (alignStart a1 t) := by
  unfold alignStart
  extract_lets -merge -underBinder +onlyGivenNames x0 x1
  (try clear_value x0)
  have k2 : Keeps s x1 := (keeps_modLink h)
  exact keeps_linkEnter (keeps_wb (keeps_wb k2))

theorem keeps_linkSeries {s t : State} {a1 : Nat} (h : Keeps s t) : Keeps s (linkSeries a1 t) := by
  unfold linkSeries
  exact keeps_alignStart (keeps_modLink h)

theorem keeps_linkFail {s t : State} {a1 : Nat} {a2 : Nat} (h : Keeps s t) : Keeps s (linkFail a1 a2 t) := by
  unfold linkFail
  extract_lets -merge -underBinder +onlyGivenNames x0 x2 x4
  (try clear_value x4)
  have k1 : Keeps s x0 := (keeps_wf h)
  have k3 : Keeps s x2 := (keeps_wf k1)
  exact keeps_ite (keeps_linkEnter k3) (keeps_linkEnter (keeps_modLink (keeps_wb k3)))

theorem keeps_linkActive {s t : State} {a1 : Nat} (h : Keeps s t) : Keeps s (linkActive a1 t) := by
  unfold linkActive
  extract_lets -merge -underBinder +onlyGivenNames x0
  have k1 : Keeps s x0 := (keeps_linkEnter (keeps_modLink (keeps_wf h)))
  exact (keeps_forEach (fun _ _ h2 => (keeps_ite h2 (keeps_ite (by extract_lets -merge -underBinder +onlyGivenNames x3; have k4 : Keeps s x3 := (keeps_setSegState (keeps_modSeg h2)); exact (keeps_ite (keeps_segToDefault (keeps_modSeg k4)) k4)) (keeps_setSegState h2)))) (keeps_when (fun _ h5 => (keeps_modLink h5)) k1))

theorem keeps_configCheck {s t : State} {a1 : Nat} (h : Keeps s t) : Keeps s (configCheck a1 t) := by
  unfold configCheck
  exact keeps_ite (keeps_linkActive h) h

theorem keeps_enterConfig {s t : State} {a1 : Nat} (h : Keeps s t) : Keeps s (enterConfig a1 t) := by
  unfold enterConfig
  extract_lets -merge -underBinder +onlyGivenNames x0 x2
  have k1 : Keeps s x0 := (keeps_sendTiming (keeps_linkEnter h))
  have k3 : Keeps s x2 := (keeps_forEach (fun _ _ h4 => (keeps_ite (keeps_segBlankNow h4) (keeps_ite (keeps_segCmd h4) h4))) k1)
  exact keeps_configCheck k3

theorem keeps_retrain {s t : State} {a1 : Nat} (h : Keeps s t) : Keeps s (retrain a1 t) := by
  unfold retrain
  exact keeps_ite (keeps_modLink (keeps_blankNow h)) h

theorem keeps_retrainAlign {s t : State} {a1 : Nat} (h : Keeps s t) : Keeps s (retrainAlign a1 t) := by
  unfold retrainAlign
  extract_lets -merge -underBinder +onlyGivenNames x0 x1 x4
  (try clear_value x0)
  have k2 : Keeps s x1 := (keeps_forEach (fun _ _ h3 => (keeps_ite (keeps_setSegState (keeps_modSeg h3)) (keeps_ite (keeps_holdShow (keeps_modSeg h3)) h3))) h)
  have k5 : Keeps s x4 := (keeps_calAbort (keeps_calAbort k2))
  exact keeps_linkSeries (keeps_count k5)

theorem keeps_autoTrigger {s t : State} {a1 : Nat} (h : Keeps s t) : Keeps s (autoTrigger a1 t) := by
  unfold autoTrigger
  exact keeps_ite (keeps_retrain h) h

theorem keeps_linkEn {s t : State} {a1 : Nat} {a2 : Bool} (h : Keeps s t) : Keeps s (linkEn a1 a2 t) := by
  unfold linkEn
  extract_lets -merge -underBinder +onlyGivenNames x0 x1
  (try clear_value x0)
  have k2 : Keeps s x1 := (keeps_wb h)
  exact (keeps_ite k2 (keeps_ite (keeps_ite (keeps_linkSeries k2) k2) (keeps_ite (by extract_lets -merge -underBinder +onlyGivenNames x3 x4 x6 x8; (try clear_value x3); have k5 : Keeps s x4 := (keeps_modLink k2); have k7 : Keeps s x6 := (keeps_blankNow k5); have k9 : Keeps s x8 := (keeps_forEach (fun _ _ h10 => (keeps_ite (keeps_blankShown h10) h10)) k7); exact (keeps_ite (keeps_linkEnter k9) (keeps_modLink k9))) (keeps_linkEnter k2))))

theorem keeps_closeLink {s t : State} {a1 : Nat} (h : Keeps s t) : Keeps s (closeLink a1 t) := by
  unfold closeLink
  extract_lets -merge -underBinder +onlyGivenNames x0
  have k1 : Keeps s x0 := (keeps_linkEnter h)
  exact keeps_ite (keeps_linkSeries k1) k1

theorem keeps_linkRetrain {s t : State} {a1 : Nat} (h : Keeps s t) : Keeps s (linkRetrain a1 t) := by
  unfold linkRetrain
  exact keeps_ite (keeps_retrain h) (keeps_ite (keeps_linkSeries h) h)

theorem keeps_teMask {s t : State} {a1 : Word} (h : Keeps s t) : Keeps s (teMask a1 t) := by
  unfold teMask
  extract_lets -merge -underBinder +onlyGivenNames x0 x1
  (try clear_value x0 x1)
  exact keeps_wr h

theorem keeps_heartbeat {s t : State} {a1 : Nat} (h : Keeps s t) : Keeps s (heartbeat a1 t) := by
  unfold heartbeat
  exact (keeps_ite (by extract_lets -merge -underBinder +onlyGivenNames x0; (try clear_value x0); exact (keeps_modLink (keeps_wf (keeps_emit h)))) h)

theorem keeps_execHeartbeat {s t : State} {a1 : Fin 32} (h : execHeartbeat a1 s = .next t) : Keeps s t := by
  unfold execHeartbeat at h
  exact keeps_done (keeps_heartbeat (keeps_refl s)) h

theorem keeps_echoBad {s t : State} {a1 : Nat} (h : Keeps s t) : Keeps s (echoBad a1 t) := by
  unfold echoBad
  extract_lets -merge -underBinder +onlyGivenNames x0 x1
  (try clear_value x0)
  have k2 : Keeps s x1 := (keeps_modLink h)
  exact (keeps_ite (by extract_lets -merge -underBinder +onlyGivenNames x3 x4; (try clear_value x3); have k5 : Keeps s x4 := (keeps_count (keeps_wb k2)); exact (keeps_when (fun _ h6 => (keeps_autoTrigger h6)) k5)) k2)

theorem keeps_heartbeatEcho {s t : State} {a1 : Nat} {a2 : Byte} (h : Keeps s t) : Keeps s (heartbeatEcho a1 a2 t) := by
  unfold heartbeatEcho
  exact (keeps_ite (by extract_lets -merge -underBinder +onlyGivenNames x0; have k1 : Keeps s x0 := (keeps_wf h); exact (keeps_ite (keeps_modLink (keeps_wb k1)) (keeps_echoBad k1))) h)

theorem keeps_execHeartbeatEcho {s t : State} {a1 : Fin 32} {a2 : Byte} (h : execHeartbeatEcho a1 a2 s = .next t) : Keeps s t := by
  unfold execHeartbeatEcho at h
  exact keeps_done (keeps_heartbeatEcho (keeps_refl s)) h

theorem keeps_echoMissing {s t : State} {a1 : Nat} (h : Keeps s t) : Keeps s (echoMissing a1 t) := by
  unfold echoMissing
  exact keeps_ite (keeps_echoBad h) h

theorem keeps_execHeartbeatEchoTimeout {s t : State} {a1 : Fin 32} (h : execHeartbeatEchoTimeout a1 s = .next t) : Keeps s t := by
  unfold execHeartbeatEchoTimeout at h
  exact keeps_done (keeps_echoMissing (keeps_refl s)) h

theorem keeps_upLock {s t : State} {a1 : Nat} (h : Keeps s t) : Keeps s (upLock a1 t) := by
  unfold upLock
  exact keeps_ite (keeps_linkEnter (keeps_wb h)) (keeps_ite (keeps_wb h) h)

theorem keeps_execUpstreamLock {s t : State} {a1 : Fin 32} (h : execUpstreamLock a1 s = .next t) : Keeps s t := by
  unfold execUpstreamLock at h
  exact keeps_done (keeps_upLock (keeps_refl s)) h

theorem keeps_upLockLoss {s t : State} {a1 : Nat} (h : Keeps s t) : Keeps s (upLockLoss a1 t) := by
  unfold upLockLoss
  extract_lets -merge -underBinder +onlyGivenNames x0
  (try clear_value x0)
  exact (keeps_ite h (by extract_lets -merge -underBinder +onlyGivenNames x1; have k2 : Keeps s x1 := (keeps_wb h); exact (keeps_ite (keeps_linkFail k2) (keeps_ite (keeps_autoTrigger k2) k2))))

theorem keeps_execUpstreamLockLoss {s t : State} {a1 : Fin 32} (h : execUpstreamLockLoss a1 s = .next t) : Keeps s t := by
  unfold execUpstreamLockLoss at h
  exact keeps_done (keeps_upLockLoss (keeps_refl s)) h

theorem keeps_sendTrainReq {s t : State} {a1 : Nat} (h : Keeps s t) : Keeps s (sendTrainReq a1 t) := by
  unfold sendTrainReq
  exact keeps_ite (by extract_lets -merge -underBinder +onlyGivenNames x0; (try clear_value x0); exact (keeps_modLink (keeps_emit h))) h

theorem keeps_execTrainReq {s t : State} {a1 : Fin 32} (h : execTrainReq a1 s = .next t) : Keeps s t := by
  unfold execTrainReq at h
  exact keeps_done (keeps_sendTrainReq (keeps_refl s)) h

theorem keeps_markSegs {s t : State} {a1 : Nat} {a2 : TrainRsp} (h : Keeps s t) : Keeps s (markSegs a1 a2 t) := by
  unfold markSegs
  exact (keeps_forEach (fun _ _ h0 => (by extract_lets -merge -underBinder +onlyGivenNames x1 x2 x3 x4 x5 x6 x9; (try clear_value x1 x2 x3 x4 x5); have k7 : Keeps s x6 := (keeps_when (fun _ h8 => (keeps_wf h8)) h0); have k10 : Keeps s x9 := (keeps_modSeg k7); exact (keeps_ite (keeps_setSegState k10) (keeps_ite (keeps_event (keeps_setSegState k10)) (keeps_ite (keeps_setSegState k10) k10))))) h)

theorem keeps_trainRsp {s t : State} {a1 : Nat} {a2 : TrainRsp} (h : Keeps s t) : Keeps s (trainRsp a1 a2 t) := by
  unfold trainRsp
  exact (keeps_ite h (by extract_lets -merge -underBinder +onlyGivenNames x0 x2 x4; have k1 : Keeps s x0 := (keeps_wr h); have k3 : Keeps s x2 := (keeps_wr (keeps_wr k1)); have k5 : Keeps s x4 := (keeps_wr k3); exact (keeps_ite (keeps_linkFail k5) (keeps_ite (keeps_enterConfig (keeps_markSegs (keeps_modLink k5))) (by extract_lets -merge -underBinder +onlyGivenNames x6; have k7 : Keeps s x6 := (keeps_linkEnter (keeps_markSegs (keeps_modLink k5))); exact (keeps_forEach (fun _ _ h8 => (keeps_emit h8)) k7))))))

theorem keeps_execTrainRsp {s t : State} {a1 : Fin 32} {a2 : TrainRsp} (h : execTrainRsp a1 a2 s = .next t) : Keeps s t := by
  unfold execTrainRsp at h
  exact keeps_done (keeps_trainRsp (keeps_refl s)) h

theorem keeps_delayDone {s t : State} {a1 : Nat} (h : Keeps s t) : Keeps s (delayDone a1 t) := by
  unfold delayDone
  extract_lets -merge -underBinder +onlyGivenNames x0 x1 x2 x3 x5
  (try clear_value x0 x1 x2)
  have k4 : Keeps s x3 := (keeps_ite h (keeps_wf h))
  have k6 : Keeps s x5 := (keeps_ite k4 (keeps_wf k4))
  exact keeps_emit (keeps_linkEnter k6)

theorem keeps_probeEcho {s t : State} {a1 : Nat} {a2 : Nat} (h : Keeps s t) : Keeps s (probeEcho a1 a2 t) := by
  unfold probeEcho
  exact keeps_ite h (by extract_lets -merge -underBinder +onlyGivenNames x0 x2; (try clear_value x2); have k1 : Keeps s x0 := (keeps_modLink h); exact (keeps_ite (keeps_delayDone k1) k1))

theorem keeps_execProbeEcho {s t : State} {a1 : Fin 32} {a2 : BitVec 16} (h : execProbeEcho a1 a2 s = .next t) : Keeps s t := by
  unfold execProbeEcho at h
  exact keeps_done (keeps_probeEcho (keeps_refl s)) h

theorem keeps_calburstEcho {s t : State} {a1 : Nat} {a2 : Nat} {a3 : Nat} {a4 : Bool} (h : Keeps s t) : Keeps s (calburstEcho a1 a2 a3 a4 t) := by
  unfold calburstEcho
  exact (keeps_ite h (by extract_lets -merge -underBinder +onlyGivenNames x0; (try clear_value x0); exact (keeps_ite (keeps_ite (keeps_enterConfig h) (keeps_linkFail h)) (by extract_lets -merge -underBinder +onlyGivenNames x1 x2; (try clear_value x1); have k3 : Keeps s x2 := (keeps_calEnd h); exact (keeps_ite (keeps_enterConfig (keeps_modLink k3)) (keeps_ite (keeps_emit (keeps_modLink k3)) (keeps_linkFail k3)))))))

theorem keeps_execCalburstEcho {s t : State} {a1 : Fin 32} {a2 : BitVec 7} {a3 : Byte} {a4 : Bool} (h : execCalburstEcho a1 a2 a3 a4 s = .next t) : Keeps s t := by
  unfold execCalburstEcho at h
  exact keeps_done (keeps_calburstEcho (keeps_refl s)) h

theorem keeps_trainTimeoutL {s t : State} {a1 : Nat} (h : Keeps s t) : Keeps s (trainTimeoutL a1 t) := by
  unfold trainTimeoutL
  exact keeps_ite (keeps_linkFail h) h

theorem keeps_execTrainingStateTimeout {s t : State} {a1 : Fin 32} (h : execTrainingStateTimeout a1 s = .next t) : Keeps s t := by
  unfold execTrainingStateTimeout at h
  exact keeps_done (keeps_trainTimeoutL (keeps_refl s)) h

theorem keeps_retryWait {s t : State} {a1 : Nat} (h : Keeps s t) : Keeps s (retryWait a1 t) := by
  unfold retryWait
  exact keeps_ite (keeps_alignStart h) h

theorem keeps_execRetryWaitExpiry {s t : State} {a1 : Fin 32} (h : execRetryWaitExpiry a1 s = .next t) : Keeps s t := by
  unfold execRetryWaitExpiry at h
  exact keeps_done (keeps_retryWait (keeps_refl s)) h

theorem keeps_downAttempt {s t : State} {a1 : Nat} (h : Keeps s t) : Keeps s (downAttempt a1 t) := by
  unfold downAttempt
  exact keeps_ite (keeps_alignStart (keeps_modLink h)) h

theorem keeps_execDownAttempt {s t : State} {a1 : Fin 32} (h : execDownAttempt a1 s = .next t) : Keeps s t := by
  unfold execDownAttempt at h
  exact keeps_done (keeps_downAttempt (keeps_refl s)) h

theorem keeps_settle {s t : State} {a1 : Nat} {a2 : OutPkt} (h : Keeps s t) : Keeps s (settle a1 a2 t) := by
  unfold settle
  exact keeps_modLink h

theorem keeps_blankEnd {s t : State} {a1 : Nat} {a2 : OutPkt} (h : Keeps s t) : Keeps s (blankEnd a1 a2 t) := by
  unfold blankEnd
  exact keeps_ite (keeps_closeLink h) (keeps_ite (keeps_retrainAlign h) h)

theorem keeps_ackIn {s t : State} {a1 : Nat} {a2 : Byte} {a3 : Nat} {a4 : Nat} (h : Keeps s t) : Keeps s (ackIn a1 a2 a3 a4 t) := by
  unfold ackIn
  split
  exacts [h, (by extract_lets -merge -underBinder +onlyGivenNames x0; have k1 : Keeps s x0 := (keeps_settle h); exact (by split; exacts [(keeps_configCheck (keeps_segCmdDone k1)), (keeps_configCheck k1), (keeps_ite (keeps_modLink (keeps_wb k1)) (keeps_blankEnd k1)), (keeps_ite (by extract_lets -merge -underBinder +onlyGivenNames x2 x3; (try clear_value x2); have k4 : Keeps s x3 := (by unfold x3; split; exacts [(keeps_modSeg k1), k1]); exact (keeps_completeOps k4)) k1), k1]))]

theorem keeps_execAck {s t : State} {a1 : Fin 32} {a2 : Byte} {a3 : Fin 16} {a4 : Fin 8} (h : execAck a1 a2 a3 a4 s = .next t) : Keeps s t := by
  unfold execAck at h
  exact keeps_done (keeps_ackIn (keeps_refl s)) h

theorem keeps_noAck {s t : State} {a1 : Nat} {a2 : OutPkt} (h : Keeps s t) : Keeps s (noAck a1 a2 t) := by
  unfold noAck
  extract_lets -merge -underBinder +onlyGivenNames x0 x2
  have k1 : Keeps s x0 := (keeps_settle h)
  have k3 : Keeps s x2 := (keeps_when (fun _ h4 => (keeps_modSeg h4)) k1)
  exact keeps_when (fun _ h5 => (keeps_modLink h5)) k3

theorem keeps_ackFailed {s t : State} {a1 : Nat} {a2 : OutPkt} (h : Keeps s t) : Keeps s (ackFailed a1 a2 t) := by
  unfold ackFailed
  extract_lets -merge -underBinder +onlyGivenNames x0 x2
  have k1 : Keeps s x0 := (keeps_count (keeps_noAck h))
  have k3 : Keeps s x2 := (keeps_when (fun _ h4 => (keeps_completeOps h4)) k1)
  exact keeps_ite (keeps_closeLink k3) (keeps_autoTrigger k3)

theorem keeps_resend {s t : State} {a1 : Nat} {a2 : OutPkt} (h : Keeps s t) : Keeps s (resend a1 a2 t) := by
  unfold resend
  exact (keeps_ite (keeps_retrainAlign (keeps_settle h)) (keeps_ite (keeps_modLink (keeps_count (keeps_emit h))) (keeps_ackFailed h)))

theorem keeps_dataAgain {s t : State} {a1 : Nat} {a2 : Nat} {a3 : Nat} (h : Keeps s t) : Keeps s (dataAgain a1 a2 a3 t) := by
  unfold dataAgain
  extract_lets -merge -underBinder +onlyGivenNames x0 x2 x3
  (try clear_value x3)
  have k1 : Keeps s x0 := (keeps_lineNow h)
  exact keeps_ite (keeps_modLink (keeps_count (keeps_emit k1))) k1

theorem keeps_nakIn {s t : State} {a1 : Nat} {a2 : Byte} {a3 : Nat} {a4 : Nat} {a5 : Nat} {a6 : Bool} (h : Keeps s t) : Keeps s (nakIn a1 a2 a3 a4 a5 a6 t) := by
  unfold nakIn
  extract_lets -merge -underBinder +onlyGivenNames x0 x1 x3
  (try clear_value x0)
  have k2 : Keeps s x1 := (keeps_modLink (keeps_count h))
  have k4 : Keeps s x3 := (keeps_when (fun _ h5 => (keeps_event h5)) k2)
  exact (keeps_ite (keeps_ite (keeps_dataAgain k4) k4) (by split; exacts [k4, (keeps_ite (by extract_lets -merge -underBinder +onlyGivenNames x6 x8; have k7 : Keeps s x6 := (keeps_event (keeps_noAck k4)); have k9 : Keeps s x8 := (keeps_when (fun _ h10 => (keeps_completeOps h10)) k7); exact (keeps_blankEnd k9)) (keeps_resend k4))]))

theorem keeps_execNak {s t : State} {a1 : Fin 32} {a2 : Byte} {a3 : Fin 16} {a4 : Fin 8} {a5 : Byte} {a6 : Bool} (h : execNak a1 a2 a3 a4 a5 a6 s = .next t) : Keeps s t := by
  unfold execNak at h
  exact keeps_done (keeps_nakIn (keeps_refl s)) h

theorem keeps_ackTimeoutL {s t : State} {a1 : Nat} {a2 : Byte} {a3 : Nat} {a4 : Nat} (h : Keeps s t) : Keeps s (ackTimeoutL a1 a2 a3 a4 t) := by
  unfold ackTimeoutL
  split
  exacts [h, (keeps_resend h)]

theorem keeps_execAckTimeout {s t : State} {a1 : Fin 32} {a2 : Byte} {a3 : Fin 16} {a4 : Fin 8} (h : execAckTimeout a1 a2 a3 a4 s = .next t) : Keeps s t := by
  unfold execAckTimeout at h
  exact keeps_done (keeps_ackTimeoutL (keeps_refl s)) h

theorem keeps_segStatus {s t : State} {a1 : Nat} {a2 : Byte} {a3 : List Byte} (h : Keeps s t) : Keeps s (segStatus a1 a2 a3 t) := by
  unfold segStatus
  exact keeps_ite h (by split; exacts [(keeps_count h), (keeps_modSeg h), (keeps_modSeg h)])

theorem keeps_headroom {s t : State} {a1 : Nat} {a2 : Byte} {a3 : Nat} (h : Keeps s t) : Keeps s (headroom a1 a2 a3 t) := by
  unfold headroom
  exact keeps_ite h (by split; exacts [(keeps_count h), (keeps_modSeg h), (keeps_modSeg h)])

theorem keeps_execHeadroom {s t : State} {a1 : Fin 256} {a2 : Byte} {a3 : BitVec 16} (h : execHeadroom a1 a2 a3 s = .next t) : Keeps s t := by
  unfold execHeadroom at h
  exact keeps_done (keeps_headroom (keeps_refl s)) h

theorem keeps_segTemp {s t : State} {a1 : Nat} {a2 : Byte} {a3 : List (BitVec 16)} (h : Keeps s t) : Keeps s (segTemp a1 a2 a3 t) := by
  unfold segTemp
  exact (keeps_ite h (keeps_ite (keeps_forEach (fun _ _ h0 => (by extract_lets -merge -underBinder +onlyGivenNames x1; (try clear_value x1); exact (keeps_modSeg h0))) h) (keeps_count h)))

theorem keeps_execSegTemp {s t : State} {a1 : Fin 32} {a2 : Byte} {a3 : List (BitVec 16)} (h : execSegTemp a1 a2 a3 s = .next t) : Keeps s t := by
  unfold execSegTemp at h
  exact keeps_done (keeps_segTemp (keeps_refl s)) h

theorem keeps_upstreamBad {s t : State} {a1 : Nat} {a2 : List Byte} {a3 : Bool} {a4 : Nat} (h : Keeps s t) : Keeps s (upstreamBad a1 a2 a3 a4 t) := by
  unfold upstreamBad
  exact (keeps_ite h (by extract_lets -merge -underBinder +onlyGivenNames x0; have k1 : Keeps s x0 := (keeps_countBy h); exact (keeps_ite k1 (keeps_ite (keeps_count k1) (by extract_lets -merge -underBinder +onlyGivenNames x2 x3; (try clear_value x2); have k4 : Keeps s x3 := (keeps_modLink (keeps_count k1)); exact (keeps_ite (keeps_autoTrigger k4) k4))))))

theorem keeps_execUpstreamBadPacket {s t : State} {a1 : Fin 32} {a2 : BadFrame} (h : execUpstreamBadPacket a1 a2 s = .next t) : Keeps s t := by
  unfold execUpstreamBadPacket at h
  exact keeps_done (keeps_upstreamBad (keeps_refl s)) h

theorem keeps_holdExpired {s t : State} {a1 : Nat} (h : Keeps s t) : Keeps s (holdExpired a1 t) := by
  unfold holdExpired
  exact (keeps_ite (by extract_lets -merge -underBinder +onlyGivenNames x0; have k1 : Keeps s x0 := (keeps_modSeg h); exact (keeps_event (keeps_count (keeps_segToDefault k1)))) h)

theorem keeps_execHoldExpired {s t : State} {a1 : Fin 256} (h : execHoldExpired a1 s = .next t) : Keeps s t := by
  unfold execHoldExpired at h
  exact keeps_done (keeps_holdExpired (keeps_refl s)) h

theorem keeps_segLatch {s t : State} {a1 : Nat} {a2 : Option (List Nat × List Nat × Bool)} (h : Keeps s t) : Keeps s (segLatch a1 a2 t) := by
  unfold segLatch
  extract_lets -merge -underBinder +onlyGivenNames x0 x1 x2 x3 x4 x5 x6
  (try clear_value x0 x1 x2 x3 x4 x5)
  have k7 : Keeps s x6 := (keeps_setSeg h)
  exact keeps_ite (keeps_setSegState (keeps_modSeg k7)) k7

theorem keeps_latchLink {s t : State} {a1 : BitVec 32} {a2 : Int} {a3 : Bool} {a4 : Nat} (h : Keeps s t) : Keeps s (latchLink a1 a2 a3 a4 t) := by
  unfold latchLink
  exact (keeps_ite (by extract_lets -merge -underBinder +onlyGivenNames x0; have k1 : Keeps s x0 := (keeps_emit h); exact (keeps_ite k1 (keeps_forEach (fun _ _ h2 => (keeps_ite (keeps_ite (keeps_modSeg (keeps_segLatch h2)) (keeps_segLatch h2)) h2)) k1))) h)

theorem keeps_upSleep {s t : State} {a1 : Nat} (h : Keeps s t) : Keeps s (upSleep a1 t) := by
  unfold upSleep
  exact keeps_ite (keeps_modLink (keeps_blankCmd h)) h

theorem keeps_upWake {s t : State} {a1 : Nat} (h : Keeps s t) : Keeps s (upWake a1 t) := by
  unfold upWake
  exact keeps_ite (keeps_linkSeries (keeps_wakeCmd h)) h

/-! ### Compose -/

theorem keeps_showMode {s t : State} {a1 : Nat} (h : Keeps s t) : Keeps s (showMode a1 t) := by
  unfold showMode
  exact keeps_wf h

theorem keeps_fillLatch {s t : State} (h : Keeps s t) : Keeps s (fillLatch t) := by
  unfold fillLatch
  extract_lets -merge -underBinder +onlyGivenNames x0
  (try clear_value x0)
  exact keeps_mk h

/-! ### Polder -/

theorem keeps_fbCompose {s t : State} (h : Keeps s t) : Keeps s (fbCompose t) := by
  unfold fbCompose
  exact (keeps_ite h (keeps_forEach (fun _ _ h0 => (by extract_lets -merge -underBinder +onlyGivenNames x1; (try clear_value x1); exact (keeps_ite (keeps_modSeg h0) h0))) (keeps_forEach (fun _ _ h2 => (keeps_lineNow h2)) h)))

theorem keeps_fbRaise {s t : State} {a1 : Nat} {a2 : Nat} {a3 : Nat} (h : Keeps s t) : Keeps s (fbRaise a1 a2 a3 t) := by
  unfold fbRaise
  exact (keeps_ite (keeps_event (keeps_count h)) (by extract_lets -merge -underBinder +onlyGivenNames x0; have k1 : Keeps s x0 := (keeps_wr h); exact (keeps_fbCompose (keeps_fbShow (keeps_mk k1)))))

theorem keeps_fbClear {s t : State} (h : Keeps s t) : Keeps s (fbClear t) := by
  unfold fbClear
  exact keeps_mk h

theorem keeps_clearRuns {s t : State} (h : Keeps s t) : Keeps s (clearRuns t) := by
  unfold clearRuns
  exact keeps_mk h

theorem keeps_showModes {s t : State} (h : Keeps s t) : Keeps s (showModes t) := by
  unfold showModes
  exact keeps_forEach (fun _ _ h0 => (keeps_ite h0 (keeps_showMode h0))) h

theorem keeps_fbApply {s t : State} (h : Keeps s t) : Keeps s (fbApply t) := by
  unfold fbApply
  exact (keeps_ite h (by extract_lets -merge -underBinder +onlyGivenNames x0 x1 x2; (try clear_value x0 x1); have k3 : Keeps s x2 := (keeps_mk h); exact (keeps_ite k3 (by extract_lets -merge -underBinder +onlyGivenNames x4 x5; (try clear_value x4); have k6 : Keeps s x5 := (keeps_wr (keeps_count (keeps_wf k3))); exact (keeps_clearRuns (keeps_event k6))))))

theorem keeps_fbEnd {s t : State} (h : Keeps s t) : Keeps s (fbEnd t) := by
  unfold fbEnd
  exact (keeps_ite h (by extract_lets -merge -underBinder +onlyGivenNames x0 x1; (try clear_value x0); have k2 : Keeps s x1 := (keeps_mk h); exact (keeps_ite k2 (by extract_lets -merge -underBinder +onlyGivenNames x3 x5; have k4 : Keeps s x3 := (keeps_event (keeps_clearRuns (keeps_wr k2))); have k6 : Keeps s x5 := (keeps_forEach (fun _ _ h7 => (keeps_ite (keeps_modLayer (keeps_wb h7)) h7)) k4); exact (keeps_forEach (fun _ _ h8 => (keeps_ite (keeps_segToDefault (keeps_modSeg h8)) h8)) k6)))))

theorem keeps_footprint {s t : State} {a1 : Nat} {a2 : Nat} {a3 : Nat} (h : Keeps s t) : Keeps s (footprint a1 a2 a3 t) := by
  unfold footprint
  extract_lets -merge -underBinder +onlyGivenNames x0
  (try clear_value x0)
  exact keeps_modPolder h

theorem keeps_takeCodes {s t : State} {a1 : Nat} {a2 : List LampOut} (h : Keeps s t) : Keeps s (takeCodes a1 a2 t) := by
  unfold takeCodes
  extract_lets -merge -underBinder +onlyGivenNames x0
  (try clear_value x0)
  exact keeps_modSeg h

theorem keeps_composedLamps {s t : State} {a1 : Nat} {a2 : Nat} {a3 : List LampOut} (h : Keeps s t) : Keeps s (composedLamps a1 a2 a3 t) := by
  unfold composedLamps
  extract_lets -merge -underBinder +onlyGivenNames x0 x1 x3 x4
  (try clear_value x0 x3)
  have k2 : Keeps s x1 := (keeps_countBy h)
  have k5 : Keeps s x4 := (keeps_mk k2)
  exact keeps_ite k5 (keeps_forEach (fun _ _ h6 => (keeps_footprint h6)) (keeps_countHorizons k5))

theorem keeps_segComposed {s t : State} {a1 : Nat} (h : Keeps s t) : Keeps s (segComposed a1 t) := by
  unfold segComposed
  exact (keeps_ite h (by extract_lets -merge -underBinder +onlyGivenNames x0 x1 x2 x4; (try clear_value x0 x1); have k3 : Keeps s x2 := (keeps_composedLamps (keeps_takeCodes (keeps_lineNow h))); have k5 : Keeps s x4 := (keeps_modSeg k3); exact (keeps_lineNow (keeps_modLink k5))))

theorem keeps_composedPart {s t : State} {a1 : Nat} (h : Keeps s t) : Keeps s (composedPart a1 t) := by
  unfold composedPart
  exact (keeps_ite h (by extract_lets -merge -underBinder +onlyGivenNames x0 x1 x2 x3 x4 x6; (try clear_value x0 x1 x2 x3); have k5 : Keeps s x4 := (keeps_composedLamps (keeps_takeCodes (keeps_useFree h))); have k7 : Keeps s x6 := (keeps_forEach (fun _ _ h8 => (by extract_lets -merge -underBinder +onlyGivenNames x9; exact (keeps_emit h8))) k5); exact (keeps_modSeg k7)))

theorem keeps_execSegmentComposed {s t : State} {a1 : Fin 256} (h : execSegmentComposed a1 s = .next t) : Keeps s t := by
  unfold execSegmentComposed at h
  exact keeps_done (keeps_segComposed (keeps_refl s)) h

theorem keeps_fetchUnderrun {s t : State} {a1 : Nat} {a2 : Nat} {a3 : Nat} {a4 : Nat} (h : Keeps s t) : Keeps s (fetchUnderrun a1 a2 a3 a4 t) := by
  unfold fetchUnderrun
  exact keeps_ite h (keeps_ite h (keeps_count (keeps_modLayer h)))

theorem keeps_execFetchUnderrun {s t : State} {a1 : Fin 8} {a2 : Fin 256} {a3 : Fin 4096} {a4 : Fin 4096} (h : execFetchUnderrun a1 a2 a3 a4 s = .next t) : Keeps s t := by
  unfold execFetchUnderrun at h
  exact keeps_done (keeps_fetchUnderrun (keeps_refl s)) h

theorem keeps_holdPolShow {s t : State} (h : Keeps s t) : Keeps s (holdPolShow t) := by
  unfold holdPolShow
  extract_lets -merge -underBinder +onlyGivenNames x0
  (try clear_value x0)
  exact keeps_wr (keeps_wr h)

theorem keeps_polResult {s t : State} {a1 : Nat} {a2 : Bool} {a3 : Bool} (h : Keeps s t) : Keeps s (polResult a1 a2 a3 t) := by
  unfold polResult
  extract_lets -merge -underBinder +onlyGivenNames x0
  exact keeps_wb (keeps_wb h)

theorem keeps_polSkip {s t : State} {a1 : Nat} (h : Keeps s t) : Keeps s (polSkip a1 t) := by
  unfold polSkip
  exact keeps_count (keeps_polResult h)

theorem keeps_polMismatch {s t : State} {a1 : Nat} {a2 : Word} (h : Keeps s t) : Keeps s (polMismatch a1 a2 t) := by
  unfold polMismatch
  exact (keeps_ite (by extract_lets -merge -underBinder +onlyGivenNames x0 x2; have k1 : Keeps s x0 := (keeps_count (keeps_modPolder h)); have k3 : Keeps s x2 := (keeps_event k1); exact (keeps_when (fun _ h4 => (keeps_fbRaise h4)) k3)) h)

theorem keeps_execPolderMismatch {s t : State} {a1 : Fin 64} {a2 : Word} (h : execPolderMismatch a1 a2 s = .next t) : Keeps s t := by
  unfold execPolderMismatch at h
  exact keeps_done (keeps_polMismatch (keeps_refl s)) h

theorem keeps_polJudge {s t : State} {a1 : Nat} {a2 : Bool} {a3 : Word} (h : Keeps s t) : Keeps s (polJudge a1 a2 a3 t) := by
  unfold polJudge
  extract_lets -merge -underBinder +onlyGivenNames x0
  have k1 : Keeps s x0 := (keeps_polResult h)
  exact keeps_ite (keeps_modPolder k1) (keeps_polMismatch (keeps_modPolder k1))

theorem keeps_polCompare {s t : State} {a1 : Nat} (h : Keeps s t) : Keeps s (polCompare a1 t) := by
  unfold polCompare
  extract_lets -merge -underBinder +onlyGivenNames x0 x1 x2 x3 x4 x5 x8 x9
  (try clear_value x0 x1 x2 x3 x4 x8)
  have k6 : Keeps s x5 := (keeps_when (fun _ h7 => (keeps_wb h7)) h)
  have k10 : Keeps s x9 := (keeps_modPolder (keeps_wr k6))
  exact (keeps_ite (keeps_polSkip k10) (by split; exacts [(keeps_polResult k10), (keeps_polJudge k10), (keeps_ite (keeps_polJudge k10) (by extract_lets -merge -underBinder +onlyGivenNames x11; (try clear_value x11); exact (keeps_polJudge (keeps_when (fun _ h12 => (keeps_modPolder h12)) k10)))), (keeps_polJudge k10)]))

theorem keeps_polCheck {s t : State} {a1 : Bool} {a2 : Nat} (h : Keeps s t) : Keeps s (polCheck a1 a2 t) := by
  unfold polCheck
  exact (keeps_ite h (keeps_ite (keeps_polCompare (keeps_modPolder h)) (keeps_ite (keeps_polSkip (keeps_modPolder h)) h)))

theorem keeps_execPolderCheck {s t : State} {a1 : Fin 64} (h : execPolderCheck a1 s = .next t) : Keeps s t := by
  unfold execPolderCheck at h
  exact keeps_done (keeps_polCheck (keeps_refl s)) h

theorem keeps_polCommit {s t : State} (h : Keeps s t) : Keeps s (polCommit t) := by
  unfold polCommit
  exact keeps_when (fun _ h0 => (keeps_setRecommit h0)) (keeps_wb (keeps_wb h))

/-! ### Scan -/

theorem keeps_attShow {s t : State} (h : Keeps s t) : Keeps s (attShow t) := by
  unfold attShow
  exact keeps_forEach (fun _ _ h0 => (keeps_wb h0)) h

theorem keeps_scanInvalid {s t : State} {a1 : Nat} (h : Keeps s t) : Keeps s (scanInvalid a1 t) := by
  unfold scanInvalid
  extract_lets -merge -underBinder +onlyGivenNames x0
  have k1 : Keeps s x0 := (keeps_useFree (keeps_wr h))
  exact keeps_count (keeps_wb (keeps_wb (keeps_wb k1)))

theorem keeps_scanBegin {s t : State} {a1 : ScanUser} {a2 : Nat} (h : Keeps s t) : Keeps s (scanBegin a1 a2 t) := by
  unfold scanBegin
  extract_lets -merge -underBinder +onlyGivenNames x0
  have k1 : Keeps s x0 := (keeps_wf h)
  exact keeps_modCrcCh k1

theorem keeps_chStart {s t : State} {a1 : Nat} (h : Keeps s t) : Keeps s (chStart a1 t) := by
  unfold chStart
  exact keeps_ite h (keeps_ite (keeps_count h) (keeps_ite (keeps_scanBegin h) (keeps_wb h)))

theorem keeps_scanExtent {s t : State} {a1 : ScanUser} {a2 : Nat} {a3 : Nat} {a4 : Nat} (h : Keeps s t) : Keeps s (scanExtent a1 a2 a3 a4 t) := by
  unfold scanExtent
  exact (keeps_ite (keeps_modCrcCh h) (by extract_lets -merge -underBinder +onlyGivenNames x0; have k1 : Keeps s x0 := (keeps_wr (keeps_wr (keeps_wr (keeps_wr (keeps_wr h))))); exact (keeps_scanBegin k1)))

theorem keeps_bufScan {s t : State} {a1 : Nat} {a2 : Nat} {a3 : Nat} {a4 : Option Word} (h : Keeps s t) : Keeps s (bufScan a1 a2 a3 a4 t) := by
  unfold bufScan
  extract_lets -merge -underBinder +onlyGivenNames x0
  (try clear_value x0)
  exact (keeps_ite h (keeps_ite (by split; exacts [(keeps_scanExtent h), (keeps_modLayer (keeps_scanExtent h))]) (keeps_count h)))

/-! ### Layer -/

theorem keeps_layerCommit {s t : State} {a1 : Nat} (h : Keeps s t) : Keeps s (layerCommit a1 t) := by
  unfold layerCommit
  exact keeps_wb (keeps_wb h)

theorem keeps_globalCommit {s t : State} (h : Keeps s t) : Keeps s (globalCommit t) := by
  unfold globalCommit
  exact keeps_when (fun _ h0 => (keeps_setRecommit h0)) (keeps_wb h)

theorem keeps_commitRejected {s t : State} {a1 : Nat} {a2 : Nat} {a3 : Nat} {a4 : Nat} {a5 : Nat} (h : Keeps s t) : Keeps s (commitRejected a1 a2 a3 a4 a5 t) := by
  unfold commitRejected
  exact keeps_event h

theorem keeps_rejectLayer {s t : State} {a1 : Nat} {a2 : Nat} (h : Keeps s t) : Keeps s (rejectLayer a1 a2 t) := by
  unfold rejectLayer
  extract_lets -merge -underBinder +onlyGivenNames x0
  have k1 : Keeps s x0 := (keeps_count (keeps_wb (keeps_wb (keeps_wb (keeps_uncapture h)))))
  exact keeps_commitRejected k1

theorem keeps_captureLayer {s t : State} {a1 : Nat} (h : Keeps s t) : Keeps s (captureLayer a1 t) := by
  unfold captureLayer
  exact (keeps_ite h (by extract_lets -merge -underBinder +onlyGivenNames x0; (try clear_value x0); exact (keeps_ite (keeps_rejectLayer h) (keeps_wb (keeps_wb (keeps_capture h))))))

theorem keeps_fitLayers {s t : State} {p k : Nat} (h : Keeps s t) : Keeps s (fitLayers p k t) := by
  induction k generalizing t with
  | zero => exact h
  | succ k ih =>
    unfold fitLayers
    refine keeps_ite h ?_
    split
    · exact h
    · exact ih (keeps_rejectLayer h)

theorem keeps_captureLimit {s t : State} (h : Keeps s t) : Keeps s (captureLimit t) := by
  unfold captureLimit
  extract_lets -merge -underBinder +onlyGivenNames x0 x1 x2 x3 x4
  (try clear_value x0 x1 x2 x3)
  have k5 : Keeps s x4 := (keeps_ite (keeps_rejectTiming h) h)
  exact keeps_fitLayers k5

theorem keeps_captureLayers {s t : State} (h : Keeps s t) : Keeps s (captureLayers t) := by
  unfold captureLayers
  extract_lets -merge -underBinder +onlyGivenNames x0
  have k1 : Keeps s x0 := (keeps_forEach (fun _ _ h2 => (keeps_captureLayer h2)) h)
  exact keeps_when (fun _ h3 => (keeps_capture h3)) k1

theorem keeps_cmpShow {s t : State} (h : Keeps s t) : Keeps s (cmpShow t) := by
  unfold cmpShow
  extract_lets -merge -underBinder +onlyGivenNames x0 x1 x3
  (try clear_value x0)
  have k2 : Keeps s x1 := (keeps_wf (keeps_wf h))
  have k4 : Keeps s x3 := (keeps_forEach (fun _ _ h5 => (keeps_wb h5)) k2)
  exact keeps_wr k4

theorem keeps_applyLayerMarks {s t : State} (h : Keeps s t) : Keeps s (applyLayerMarks t) := by
  unfold applyLayerMarks
  extract_lets -merge -underBinder +onlyGivenNames x0
  have k1 : Keeps s x0 := (keeps_forEach (fun _ _ h2 => (keeps_ite (keeps_count (keeps_wb h2)) h2)) h)
  exact keeps_ite (keeps_count (keeps_setRecommit (keeps_wb k1))) k1

theorem keeps_missPolicy {s t : State} {a1 : Nat} (h : Keeps s t) : Keeps s (missPolicy a1 t) := by
  unfold missPolicy
  exact (keeps_ite (by extract_lets -merge -underBinder +onlyGivenNames x0 x1 x3; (try clear_value x0); have k2 : Keeps s x1 := (keeps_count (keeps_wb (keeps_modLayer h))); have k4 : Keeps s x3 := (keeps_event k2); exact (keeps_when (fun _ h5 => (keeps_fbRaise h5)) k4)) h)

theorem keeps_execLayerMissPolicy {s t : State} {a1 : Fin 8} (h : execLayerMissPolicy a1 s = .next t) : Keeps s t := by
  unfold execLayerMissPolicy at h
  exact keeps_done (keeps_missPolicy (keeps_refl s)) h

theorem keeps_lateLayer {s t : State} {a1 : Nat} (h : Keeps s t) : Keeps s (lateLayer a1 t) := by
  unfold lateLayer
  extract_lets -merge -underBinder +onlyGivenNames x0 x2
  have k1 : Keeps s x0 := (keeps_count h)
  have k3 : Keeps s x2 := (keeps_wf k1)
  exact keeps_missPolicy (keeps_wb k3)

theorem keeps_readyLayer {s t : State} {a1 : Nat} (h : Keeps s t) : Keeps s (readyLayer a1 t) := by
  unfold readyLayer
  extract_lets -merge -underBinder +onlyGivenNames x0 x1 x3
  (try clear_value x0)
  have k2 : Keeps s x1 := (keeps_wb (keeps_wf h))
  have k4 : Keeps s x3 := (keeps_ite (keeps_event k2) k2)
  exact keeps_ite (keeps_modLayer (keeps_wb k4)) (keeps_modLayer k4)

theorem keeps_decideLayer {s t : State} {a1 : Nat} (h : Keeps s t) : Keeps s (decideLayer a1 t) := by
  unfold decideLayer
  exact keeps_ite (keeps_modLayer (keeps_wf (keeps_wf h))) (keeps_ite (keeps_modLayer (keeps_lateLayer h)) (keeps_readyLayer h))

theorem keeps_countWriting {s t : State} {a1 : Nat} (h : Keeps s t) : Keeps s (countWriting a1 t) := by
  unfold countWriting
  extract_lets -merge -underBinder +onlyGivenNames x0 x1
  (try clear_value x0 x1)
  exact keeps_ite h (keeps_modSurf h)

theorem keeps_readLayer {s t : State} {a1 : Nat} (h : Keeps s t) : Keeps s (readLayer a1 t) := by
  unfold readLayer
  extract_lets -merge -underBinder +onlyGivenNames x0 x1 x2
  (try clear_value x0 x1)
  have k3 : Keeps s x2 := (keeps_modLayer h)
  exact (keeps_ite k3 (by extract_lets -merge -underBinder +onlyGivenNames x4 x9; have k5 : Keeps s x4 := (by unfold x4; split; exacts [k3, (by extract_lets -merge -underBinder +onlyGivenNames x6; have k7 : Keeps s x6 := (keeps_ite (keeps_count k3) (keeps_when (fun _ h8 => (keeps_bufScan h8)) k3)); exact (keeps_modLayer k7))]); have k10 : Keeps s x9 := (keeps_modLayer k5); exact (by split; exacts [k10, (keeps_wf (keeps_bufScan k10))])))

theorem keeps_bufferRetired {s t : State} {a1 : Nat} (h : Keeps s t) : Keeps s (bufferRetired a1 t) := by
  unfold bufferRetired
  split
  exacts [h, (keeps_ite h (by extract_lets -merge -underBinder +onlyGivenNames x0 x2; have k1 : Keeps s x0 := (keeps_modLayer h); have k3 : Keeps s x2 := (keeps_wr (keeps_wr k1)); exact (keeps_readDone (keeps_event k3))))]

theorem keeps_execBufferRetired {s t : State} {a1 : Fin 8} (h : execBufferRetired a1 s = .next t) : Keeps s t := by
  unfold execBufferRetired at h
  exact keeps_done (keeps_bufferRetired (keeps_refl s)) h

theorem keeps_discardPrefetch {s t : State} {a1 : Nat} (h : Keeps s t) : Keeps s (discardPrefetch a1 t) := by
  unfold discardPrefetch
  exact keeps_ite (keeps_useFree (keeps_countBy h)) h

theorem keeps_layersP0 {s t : State} (h : Keeps s t) : Keeps s (layersP0 t) := by
  unfold layersP0
  extract_lets -merge -underBinder +onlyGivenNames x0 x3 x6 x9
  have k1 : Keeps s x0 := (keeps_forEach (fun _ _ h2 => (keeps_discardPrefetch h2)) h)
  have k4 : Keeps s x3 := (keeps_forEach (fun _ _ h5 => (keeps_countWriting h5)) k1)
  have k7 : Keeps s x6 := (keeps_forEach (fun _ _ h8 => (keeps_decideLayer h8)) k4)
  have k10 : Keeps s x9 := (keeps_forEach (fun _ _ h11 => (keeps_promote h11)) k7)
  exact keeps_forEach (fun _ _ h12 => (keeps_readLayer h12)) k10

end Sys2Proof.Machine
end

