-- ==== Sys2Proof/Laws/Keeps3.lean ====
section
/-! SUPPORT. What the functions of these files of Machine/ keep (`Keeps`): RasCtl, Thermal, Stream, Lanes, Housekeeping, Net, Supply, Health. -/
namespace Sys2Proof.Machine

/-! ### RasCtl -/

theorem keeps_enablingTiming {s t : State} (h : Keeps s t) : Keeps s (enablingTiming t) := by
  unfold enablingTiming
  exact keeps_ite h (keeps_ite (keeps_applyTiming (keeps_takeTiming h)) (keeps_rejectTiming h))

theorem keeps_timingToAll {s t : State} (h : Keeps s t) : Keeps s (timingToAll t) := by
  unfold timingToAll
  exact keeps_forEach (fun _ _ h0 => (keeps_ite (keeps_sendTiming h0) h0)) h

theorem keeps_rasEnable {s t : State} {a1 : Bool} (h : Keeps s t) : Keeps s (rasEnable a1 t) := by
  unfold rasEnable
  extract_lets -merge -underBinder +onlyGivenNames x0 x1
  (try clear_value x0)
  have k2 : Keeps s x1 := (keeps_wb h)
  exact (keeps_ite k2 (keeps_ite (keeps_timingToAll (keeps_armRaster (keeps_enablingTiming k2))) (keeps_stopRaster k2)))

/-! ### Thermal -/

theorem keeps_thermShow {s t : State} {a1 : Nat} (h : Keeps s t) : Keeps s (thermShow a1 t) := by
  unfold thermShow
  extract_lets -merge -underBinder +onlyGivenNames x0 x1 x2 x3
  (try clear_value x0 x1 x2)
  have k4 : Keeps s x3 := (keeps_when (fun _ h5 => (keeps_count h5)) h)
  exact keeps_ite k4 (keeps_wf (keeps_wb k4))

theorem keeps_thermShowAll {s t : State} (h : Keeps s t) : Keeps s (thermShowAll t) := by
  unfold thermShowAll
  exact keeps_forEach (fun _ _ h0 => (keeps_thermShow h0)) h

/-! ### Stream -/

theorem keeps_strDrop {s t : State} {a1 : Nat} {a2 : Nat} (h : Keeps s t) : Keeps s (strDrop a1 a2 t) := by
  unfold strDrop
  exact keeps_ite (keeps_dropBuf (keeps_count (keeps_wb h))) h

theorem keeps_strAbandon {s t : State} {a1 : Nat} (h : Keeps s t) : Keeps s (strAbandon a1 t) := by
  unfold strAbandon
  exact keeps_strDrop h

theorem keeps_vstart {s t : State} {a1 : Nat} {a2 : Nat} {a3 : Nat} {a4 : Nat} {a5 : Nat} {a6 : Word} {a7 : Word} (h : Keeps s t) : Keeps s (vstart a1 a2 a3 a4 a5 a6 a7 t) := by
  unfold vstart
  exact (keeps_ite h (by extract_lets -merge -underBinder +onlyGivenNames x0 x2; (try clear_value x2); have k1 : Keeps s x0 := (keeps_strAbandon h); exact (keeps_ite (keeps_modStr (keeps_wb (keeps_count k1))) (by extract_lets -merge -underBinder +onlyGivenNames x3; have k4 : Keeps s x3 := (keeps_wb k1); exact (by split; exacts [(keeps_modStr k4), (keeps_modStr (keeps_takeBuf (keeps_wb k4)))])))))

theorem keeps_lineIn {s t : State} {a1 : Nat} {a2 : Nat} {a3 : Nat} {a4 : Nat} {a5 : Nat} {a6 : List Byte} {a7 : Bool} (h : Keeps s t) : Keeps s (lineIn a1 a2 a3 a4 a5 a6 a7 t) := by
  unfold lineIn
  extract_lets -merge -underBinder +onlyGivenNames x0
  (try clear_value x0)
  exact (keeps_ite h (keeps_ite (keeps_count h) (keeps_ite (keeps_count h) (keeps_ite (keeps_count h) (keeps_ite (keeps_count h) (keeps_modStr (keeps_putBytes h)))))))

theorem keeps_strSignal {s t : State} {a1 : Nat} {a2 : Bool} (h : Keeps s t) : Keeps s (strSignal a1 a2 t) := by
  unfold strSignal
  exact keeps_ite h (keeps_event (keeps_wb h))

theorem keeps_vend {s t : State} {a1 : Nat} {a2 : Nat} (h : Keeps s t) : Keeps s (vend a1 a2 t) := by
  unfold vend
  extract_lets -merge -underBinder +onlyGivenNames x0
  (try clear_value x0)
  exact (keeps_ite h (keeps_ite (keeps_count h) (keeps_ite (keeps_strDrop h) (by extract_lets -merge -underBinder +onlyGivenNames x1 x3; have k2 : Keeps s x1 := (keeps_count (keeps_wb h)); have k4 : Keeps s x3 := (keeps_wr (keeps_wr (keeps_wr k2))); exact (keeps_strSignal (keeps_publishBuf k4))))))

theorem keeps_metaIn {s t : State} {a1 : Nat} {a2 : Nat} {a3 : List Byte} (h : Keeps s t) : Keeps s (metaIn a1 a2 a3 t) := by
  unfold metaIn
  exact keeps_ite h (keeps_ite (keeps_count h) (keeps_modStr (keeps_count h)))

theorem keeps_execMeta {s t : State} {a1 : Fin 4} {a2 : BitVec 16} {a3 : List Byte} (h : execMeta a1 a2 a3 s = .next t) : Keeps s t := by
  unfold execMeta at h
  exact keeps_done (keeps_metaIn (keeps_refl s)) h

theorem keeps_frameTimeout {s t : State} {a1 : Nat} (h : Keeps s t) : Keeps s (frameTimeout a1 t) := by
  unfold frameTimeout
  exact keeps_ite (keeps_modStr (keeps_strDrop h)) h

theorem keeps_execFrameTimeout {s t : State} {a1 : Fin 4} (h : execFrameTimeout a1 s = .next t) : Keeps s t := by
  unfold execFrameTimeout at h
  exact keeps_done (keeps_frameTimeout (keeps_refl s)) h

theorem keeps_streamLoss {s t : State} {a1 : Nat} (h : Keeps s t) : Keeps s (streamLoss a1 t) := by
  unfold streamLoss
  exact keeps_ite (keeps_strSignal h) h

theorem keeps_execStreamLossTimeout {s t : State} {a1 : Fin 4} (h : execStreamLossTimeout a1 s = .next t) : Keeps s t := by
  unfold execStreamLossTimeout at h
  exact keeps_done (keeps_streamLoss (keeps_refl s)) h

theorem keeps_badStreamPacket {s t : State} {a1 : Nat} {a2 : List Byte} {a3 : Bool} (h : Keeps s t) : Keeps s (badStreamPacket a1 a2 a3 t) := by
  unfold badStreamPacket
  exact keeps_ite (by split; exacts [h, (keeps_count h), (keeps_count h)]) h

theorem keeps_execBadStreamPacket {s t : State} {a1 : Fin 4} {a2 : RxFrame} (h : execBadStreamPacket a1 a2 s = .next t) : Keeps s t := by
  unfold execBadStreamPacket at h
  exact keeps_done (keeps_badStreamPacket (keeps_refl s)) h

theorem keeps_ftsBurst {s t : State} {a1 : Nat} (h : Keeps s t) : Keeps s (ftsBurst a1 t) := by
  unfold ftsBurst
  exact keeps_emit (keeps_emit h)

theorem keeps_txSleep {s t : State} {a1 : Nat} {a2 : Bool} (h : Keeps s t) : Keeps s (txSleep a1 a2 t) := by
  unfold txSleep
  exact (keeps_ite h (by extract_lets -merge -underBinder +onlyGivenNames x0; have k1 : Keeps s x0 := (keeps_wb h); exact (keeps_ite (keeps_count (keeps_emit k1)) (keeps_ftsBurst k1))))

theorem keeps_streamTransmit {s t : State} {a1 : Nat} (h : Keeps s t) : Keeps s (streamTransmit a1 t) := by
  unfold streamTransmit
  extract_lets -merge -underBinder +onlyGivenNames x0
  (try clear_value x0)
  exact (keeps_ite h (by extract_lets -merge -underBinder +onlyGivenNames x1; have k2 : Keeps s x1 := (keeps_forEach (fun _ _ h3 => (keeps_txSleep h3)) h); exact (by split; exacts [k2, (by extract_lets -merge -underBinder +onlyGivenNames x4 x5 x6 x7 x8 x10; (try clear_value x4 x5 x6 x7); have k9 : Keeps s x8 := (keeps_emit k2); have k11 : Keeps s x10 := (keeps_forEach (fun _ _ h12 => (keeps_emit h12)) k9); exact (keeps_modStr k11))])))

theorem keeps_streamFinish {s t : State} {a1 : Nat} (h : Keeps s t) : Keeps s (streamFinish a1 t) := by
  unfold streamFinish
  extract_lets -merge -underBinder +onlyGivenNames x0
  (try clear_value x0)
  exact (keeps_ite h (by extract_lets -merge -underBinder +onlyGivenNames x1 x3; have k2 : Keeps s x1 := (keeps_emit h); have k4 : Keeps s x3 := (keeps_forEach (fun _ _ h5 => (keeps_ite (keeps_txSleep h5) h5)) k2); exact (keeps_modStr k4)))

theorem keeps_execStreamSendFinish {s t : State} {a1 : Fin 4} (h : execStreamSendFinish a1 s = .next t) : Keeps s t := by
  unfold execStreamSendFinish at h
  exact keeps_done (keeps_streamFinish (keeps_refl s)) h

theorem keeps_streamCut {s t : State} {a1 : Nat} (h : Keeps s t) : Keeps s (streamCut a1 t) := by
  unfold streamCut
  exact (keeps_ite (by extract_lets -merge -underBinder +onlyGivenNames x0; have k1 : Keeps s x0 := (keeps_modStr (keeps_count h)); exact (keeps_forEach (fun _ _ h2 => (keeps_ite (keeps_txSleep h2) h2)) k1)) h)

/-! ### Lanes -/

theorem keeps_modLane {s t : State} {a1 : Nat} {a2 : LaneSt → LaneSt} (h : Keeps s t) : Keeps s (modLane a1 a2 t) := by
  unfold modLane
  exact keeps_mk h

theorem keeps_modGroup {s t : State} {a1 : Nat} {a2 : GroupSt → GroupSt} (h : Keeps s t) : Keeps s (modGroup a1 a2 t) := by
  unfold modGroup
  exact keeps_mk h

theorem keeps_setStage {s t : State} {a1 : Nat} {a2 : Nat} (h : Keeps s t) : Keeps s (setStage a1 a2 t) := by
  unfold setStage
  exact keeps_wf h

theorem keeps_setReason {s t : State} {a1 : Nat} {a2 : Nat} (h : Keeps s t) : Keeps s (setReason a1 a2 t) := by
  unfold setReason
  exact keeps_wf h

theorem keeps_grpEvent {s t : State} {a1 : Nat} {a2 : Nat} {a3 : Nat} {a4 : List Nat} (h : Keeps s t) : Keeps s (grpEvent a1 a2 a3 a4 t) := by
  unfold grpEvent
  exact keeps_ite (keeps_event h) (keeps_event h)

theorem keeps_grpStage {s t : State} {a1 : Nat} {a2 : Nat} (h : Keeps s t) : Keeps s (grpStage a1 a2 t) := by
  unfold grpStage
  exact keeps_forEach (fun _ _ h0 => (keeps_ite h0 (keeps_setStage h0))) h

theorem keeps_sendTs {s t : State} {a1 : Nat} {a2 : Nat} {a3 : Bool} (h : Keeps s t) : Keeps s (sendTs a1 a2 a3 t) := by
  unfold sendTs
  exact keeps_emit h

theorem keeps_sendCaps {s t : State} {a1 : Nat} {a2 : Nat} (h : Keeps s t) : Keeps s (sendCaps a1 a2 t) := by
  unfold sendCaps
  exact keeps_modLane (keeps_emit h)

theorem keeps_grpUnlock {s t : State} {a1 : Nat} (h : Keeps s t) : Keeps s (grpUnlock a1 t) := by
  unfold grpUnlock
  exact keeps_forEach (fun _ _ h0 => (keeps_wf h0)) h

theorem keeps_startAttempt {s t : State} {a1 : Nat} (h : Keeps s t) : Keeps s (startAttempt a1 t) := by
  unfold startAttempt
  extract_lets -merge -underBinder +onlyGivenNames x0
  have k1 : Keeps s x0 := (keeps_grpStage (keeps_grpUnlock h))
  exact (keeps_ite (keeps_modGroup k1) (by extract_lets -merge -underBinder +onlyGivenNames x2 x4; (try clear_value x4); have k3 : Keeps s x2 := (keeps_modGroup k1); exact (keeps_forEach (fun _ _ h5 => (keeps_modLane (keeps_count (keeps_wf h5)))) k3)))

theorem keeps_newSeries {s t : State} {a1 : Nat} (h : Keeps s t) : Keeps s (newSeries a1 t) := by
  unfold newSeries
  exact keeps_grpEvent (keeps_startAttempt (keeps_modGroup h))

theorem keeps_attemptFail {s t : State} {a1 : Nat} {a2 : Nat} (h : Keeps s t) : Keeps s (attemptFail a1 a2 t) := by
  unfold attemptFail
  extract_lets -merge -underBinder +onlyGivenNames x0 x1 x4
  (try clear_value x0 x4)
  have k2 : Keeps s x1 := (keeps_forEach (fun _ _ h3 => (keeps_setReason h3)) (keeps_grpUnlock h))
  exact (keeps_ite (by extract_lets -merge -underBinder +onlyGivenNames x5; have k6 : Keeps s x5 := (keeps_forEach (fun _ _ h7 => (keeps_count (keeps_wf h7))) (keeps_grpStage k2)); exact (keeps_grpEvent (keeps_modGroup k6))) (keeps_forEach (fun _ _ h8 => (keeps_sendTs h8)) (keeps_modGroup (keeps_grpStage k2))))

theorem keeps_eidleAsk {s t : State} {a1 : Nat} (h : Keeps s t) : Keeps s (eidleAsk a1 t) := by
  unfold eidleAsk
  exact keeps_ite (keeps_modLane (keeps_emit h)) h

theorem keeps_grpUp {s t : State} {a1 : Nat} (h : Keeps s t) : Keeps s (grpUp a1 t) := by
  unfold grpUp
  extract_lets -merge -underBinder +onlyGivenNames x0 x1 x4
  (try clear_value x0)
  have k2 : Keeps s x1 := (keeps_forEach (fun _ _ h3 => (keeps_modLane (keeps_wf (keeps_setStage h3)))) (keeps_modGroup h))
  have k5 : Keeps s x4 := (keeps_grpEvent k2)
  exact keeps_ite (keeps_forEach (fun _ _ h6 => (keeps_eidleAsk h6)) (keeps_wb (keeps_wb k5))) (keeps_fabPortUp k5)

theorem keeps_grpLost {s t : State} {a1 : Nat} (h : Keeps s t) : Keeps s (grpLost a1 t) := by
  unfold grpLost
  extract_lets -merge -underBinder +onlyGivenNames x0
  have k1 : Keeps s x0 := (keeps_forEach (fun _ _ h2 => (keeps_modLane (keeps_wr h2))) h)
  exact keeps_ite (keeps_wb (keeps_strAbandon (keeps_streamCut k1))) (keeps_fabPortDown k1)

theorem keeps_leaveActive {s t : State} {a1 : Nat} (h : Keeps s t) : Keeps s (leaveActive a1 t) := by
  unfold leaveActive
  exact keeps_newSeries (keeps_grpLost h)

theorem keeps_grpOff {s t : State} {a1 : Nat} (h : Keeps s t) : Keeps s (grpOff a1 t) := by
  unfold grpOff
  extract_lets -merge -underBinder +onlyGivenNames x0 x3
  have k1 : Keeps s x0 := (keeps_when (fun _ h2 => (keeps_grpLost h2)) h)
  have k4 : Keeps s x3 := (keeps_forEach (fun _ _ h5 => (keeps_modLane (keeps_wf (keeps_wf h5)))) (keeps_grpStage k1))
  exact keeps_modGroup k4

theorem keeps_reserveShow {s t : State} {a1 : Nat} {a2 : Nat} (h : Keeps s t) : Keeps s (reserveShow a1 a2 t) := by
  unfold reserveShow
  extract_lets -merge -underBinder +onlyGivenNames x0
  have k1 : Keeps s x0 := (keeps_wb (keeps_wr h))
  exact keeps_wr k1

theorem keeps_streamEn {s t : State} {a1 : Nat} {a2 : Bool} (h : Keeps s t) : Keeps s (streamEn a1 a2 t) := by
  unfold streamEn
  exact (keeps_ite h (keeps_ite (keeps_ite h (by extract_lets -merge -underBinder +onlyGivenNames x0; (try clear_value x0); exact (keeps_newSeries (keeps_reserveShow (keeps_wb h))))) (by extract_lets -merge -underBinder +onlyGivenNames x1 x3; have k2 : Keeps s x1 := (keeps_strAbandon (keeps_grpOff h)); have k4 : Keeps s x3 := (keeps_wf (keeps_wb k2)); exact (keeps_reserveShow k4))))

theorem keeps_fabPortEn {s t : State} {a1 : Nat} {a2 : Bool} (h : Keeps s t) : Keeps s (fabPortEn a1 a2 t) := by
  unfold fabPortEn
  exact (keeps_ite h (keeps_ite (keeps_ite (keeps_newSeries (keeps_wb h)) h) (keeps_wb (keeps_grpOff h))))

theorem keeps_quadShow {s t : State} {a1 : Nat} (h : Keeps s t) : Keeps s (quadShow a1 t) := by
  unfold quadShow
  extract_lets -merge -underBinder +onlyGivenNames x0
  (try clear_value x0)
  exact keeps_wb (keeps_wb h)

theorem keeps_macStart {s t : State} (h : Keeps s t) : Keeps s (macStart t) := by
  unfold macStart
  exact (keeps_forEach (fun _ _ h0 => (keeps_when (fun _ h1 => (keeps_setStage h1)) h0)) h)

theorem keeps_quadCfg {s t : State} {a1 : Nat} {a2 : Word} (h : Keeps s t) : Keeps s (quadCfg a1 a2 t) := by
  unfold quadCfg
  exact keeps_ite (keeps_macStart (keeps_quadShow (keeps_swWrite h))) (keeps_count h)

theorem keeps_laneCtrl {s t : State} {a1 : Nat} {a2 : Word} (h : Keeps s t) : Keeps s (laneCtrl a1 a2 t) := by
  unfold laneCtrl
  extract_lets -merge -underBinder +onlyGivenNames x0 x1 x2 x3 x6 x8 x9 x11
  (try clear_value x0 x1 x2 x8)
  have k4 : Keeps s x3 := (keeps_when (fun _ h5 => (keeps_count h5)) h)
  have k7 : Keeps s x6 := (keeps_swWrite k4)
  have k10 : Keeps s x9 := (keeps_ite (keeps_setStage k7) (keeps_ite (keeps_macStart (keeps_setStage k7)) k7))
  have k12 : Keeps s x11 := (keeps_when (fun _ h13 => (keeps_modLane h13)) k10)
  exact keeps_ite (keeps_modLane (keeps_wb k12)) k12

theorem keeps_laneRestart {s t : State} {a1 : Nat} (h : Keeps s t) : Keeps s (laneRestart a1 t) := by
  unfold laneRestart
  split
  exacts [(keeps_newSeries (keeps_when (fun _ h0 => (keeps_grpLost h0)) h)), h]

theorem keeps_detectTest {s t : State} {a1 : Nat} {a2 : Bool} {a3 : Bool} (h : Keeps s t) : Keeps s (detectTest a1 a2 a3 t) := by
  unfold detectTest
  split
  exacts [h, (keeps_ite (by extract_lets -merge -underBinder +onlyGivenNames x0; have k1 : Keeps s x0 := (keeps_sendTs (keeps_emit (keeps_wb h))); exact (keeps_ite k1 (keeps_ite (keeps_setStage k1) (keeps_newSeries k1)))) h)]

theorem keeps_execDetectTest {s t : State} {a1 : Fin 24} {a2 : Bool} {a3 : Bool} (h : execDetectTest a1 a2 a3 s = .next t) : Keeps s t := by
  unfold execDetectTest at h
  exact keeps_done (keeps_detectTest (keeps_refl s)) h

theorem keeps_trainingSets {s t : State} {a1 : Nat} {a2 : Bool} {a3 : Nat} {a4 : Nat} {a5 : Nat} (h : Keeps s t) : Keeps s (trainingSets a1 a2 a3 a4 a5 t) := by
  unfold trainingSets
  split
  exacts [h, (keeps_ite (by extract_lets -merge -underBinder +onlyGivenNames x0 x1; (try clear_value x0); have k2 : Keeps s x1 := (keeps_sendTs h); exact (keeps_ite (keeps_emit (keeps_sendTs (keeps_setStage k2))) k2)) h)]

theorem keeps_execTrainingSetsReceived {s t : State} {a1 : Fin 24} {a2 : Bool} {a3 : Nat} {a4 : Nat} {a5 : Nat} (h : execTrainingSetsReceived a1 a2 a3 a4 a5 s = .next t) : Keeps s t := by
  unfold execTrainingSetsReceived at h
  exact keeps_done (keeps_trainingSets (keeps_refl s)) h

theorem keeps_laneLock {s t : State} {a1 : Nat} {a2 : Bool} {a3 : Nat} (h : Keeps s t) : Keeps s (laneLock a1 a2 a3 t) := by
  unfold laneLock
  split
  exacts [h, (keeps_ite (by extract_lets -merge -underBinder +onlyGivenNames x0 x1; (try clear_value x0); have k2 : Keeps s x1 := (keeps_wb (keeps_wb h)); exact (keeps_ite (keeps_sendCaps (keeps_setStage k2)) k2)) h)]

theorem keeps_execLaneLock {s t : State} {a1 : Fin 24} {a2 : Bool} {a3 : Nat} (h : execLaneLock a1 a2 a3 s = .next t) : Keeps s t := by
  unfold execLaneLock at h
  exact keeps_done (keeps_laneLock (keeps_refl s)) h

theorem keeps_capsShow {s t : State} {a1 : Nat} {a2 : CapsPkt} (h : Keeps s t) : Keeps s (capsShow a1 a2 t) := by
  unfold capsShow
  exact keeps_wr (keeps_wr (keeps_wr (keeps_wr h)))

theorem keeps_capsIn {s t : State} {a1 : Nat} {a2 : CapsPkt} (h : Keeps s t) : Keeps s (capsIn a1 a2 t) := by
  unfold capsIn
  split
  exacts [h, (keeps_ite h (by extract_lets -merge -underBinder +onlyGivenNames x0 x1; (try clear_value x0); have k2 : Keeps s x1 := (keeps_modLane (keeps_capsShow h)); exact (keeps_ite (keeps_attemptFail k2) (keeps_ite (keeps_grpUp k2) k2))))]

theorem keeps_execCaps {s t : State} {a1 : Fin 24} {a2 : CapsPkt} (h : execCaps a1 a2 s = .next t) : Keeps s t := by
  unfold execCaps at h
  exact keeps_done (keeps_capsIn (keeps_refl s)) h

theorem keeps_stageTimeout {s t : State} {a1 : Nat} (h : Keeps s t) : Keeps s (stageTimeout a1 t) := by
  unfold stageTimeout
  split
  exacts [h, (keeps_ite (keeps_modGroup h) (keeps_ite (keeps_attemptFail h) h))]

theorem keeps_execLaneStageTimeout {s t : State} {a1 : Fin 24} (h : execLaneStageTimeout a1 s = .next t) : Keeps s t := by
  unfold execLaneStageTimeout at h
  exact keeps_done (keeps_stageTimeout (keeps_refl s)) h

theorem keeps_backoffEnd {s t : State} {a1 : Nat} (h : Keeps s t) : Keeps s (backoffEnd a1 t) := by
  unfold backoffEnd
  exact keeps_ite (keeps_startAttempt (keeps_advanceTo h)) h

theorem keeps_execLaneBackoffExpiry {s t : State} {a1 : Fin 8} (h : execLaneBackoffExpiry a1 s = .next t) : Keeps s t := by
  unfold execLaneBackoffExpiry at h
  exact keeps_done (keeps_backoffEnd (keeps_refl s)) h

theorem keeps_laneProbe {s t : State} {a1 : Nat} (h : Keeps s t) : Keeps s (laneProbe a1 t) := by
  unfold laneProbe
  exact (keeps_ite (keeps_forEach (fun _ _ h0 => (keeps_sendTs (keeps_emit h0))) (keeps_modGroup h)) h)

theorem keeps_execLaneProbe {s t : State} {a1 : Fin 8} (h : execLaneProbe a1 s = .next t) : Keeps s t := by
  unfold execLaneProbe at h
  exact keeps_done (keeps_laneProbe (keeps_refl s)) h

theorem keeps_signalDetect {s t : State} {a1 : Nat} (h : Keeps s t) : Keeps s (signalDetect a1 t) := by
  unfold signalDetect
  extract_lets -merge -underBinder +onlyGivenNames x0 x2
  have k1 : Keeps s x0 := (keeps_wb h)
  have k3 : Keeps s x2 := (keeps_ite (keeps_modLane (keeps_ftsBurst k1)) k1)
  exact by split; exacts [(keeps_ite (keeps_newSeries k3) k3), k3]

theorem keeps_execLaneSignalDetect {s t : State} {a1 : Fin 24} (h : execLaneSignalDetect a1 s = .next t) : Keeps s t := by
  unfold execLaneSignalDetect at h
  exact keeps_done (keeps_signalDetect (keeps_refl s)) h

theorem keeps_signalLoss {s t : State} {a1 : Nat} {a2 : Bool} (h : Keeps s t) : Keeps s (signalLoss a1 a2 t) := by
  unfold signalLoss
  extract_lets -merge -underBinder +onlyGivenNames x0
  (try clear_value x0)
  exact (keeps_ite (keeps_ite h (keeps_wb h)) (by extract_lets -merge -underBinder +onlyGivenNames x1 x3; have k2 : Keeps s x1 := (keeps_ite (keeps_wb h) (keeps_wf h)); have k4 : Keeps s x3 := (keeps_modLane k2); exact (by split; exacts [k4, (keeps_ite (keeps_leaveActive (keeps_count k4)) (keeps_ite (keeps_attemptFail k4) k4))])))

theorem keeps_execLaneSignalLoss {s t : State} {a1 : Fin 24} {a2 : Bool} (h : execLaneSignalLoss a1 a2 s = .next t) : Keeps s t := by
  unfold execLaneSignalLoss at h
  exact keeps_done (keeps_signalLoss (keeps_refl s)) h

theorem keeps_codeErrors {s t : State} {a1 : Nat} {a2 : Nat} (h : Keeps s t) : Keeps s (codeErrors a1 a2 t) := by
  unfold codeErrors
  split
  exacts [h, (keeps_ite (by extract_lets -merge -underBinder +onlyGivenNames x0; have k1 : Keeps s x0 := (keeps_countBy h); exact (keeps_ite (keeps_leaveActive k1) k1)) h)]

theorem keeps_execLaneCodeErrors {s t : State} {a1 : Fin 24} {a2 : Nat} (h : execLaneCodeErrors a1 a2 s = .next t) : Keeps s t := by
  unfold execLaneCodeErrors at h
  exact keeps_done (keeps_codeErrors (keeps_refl s)) h

theorem keeps_refclkFail {s t : State} {a1 : Nat} (h : Keeps s t) : Keeps s (refclkFail a1 t) := by
  unfold refclkFail
  extract_lets -merge -underBinder +onlyGivenNames x0
  have k1 : Keeps s x0 := (keeps_forEach (fun _ _ h2 => (keeps_quadShow h2)) (keeps_wb h))
  exact (keeps_forEach (fun _ _ h3 => (keeps_ite (keeps_leaveActive (keeps_forEach (fun _ _ h4 => (keeps_setReason h4)) h3)) (keeps_ite (keeps_attemptFail h3) h3))) k1)

theorem keeps_refclkPresent {s t : State} {a1 : Nat} {a2 : Bool} (h : Keeps s t) : Keeps s (refclkPresent a1 a2 t) := by
  unfold refclkPresent
  extract_lets -merge -underBinder +onlyGivenNames x0 x2
  have k1 : Keeps s x0 := (keeps_wb (keeps_wb h))
  have k3 : Keeps s x2 := (keeps_forEach (fun _ _ h4 => (keeps_quadShow h4)) k1)
  exact keeps_forEach (fun _ _ h5 => (keeps_ite (keeps_startAttempt h5) h5)) k3

theorem keeps_execRefclkPresent {s t : State} {a1 : Fin 2} {a2 : Bool} (h : execRefclkPresent a1 a2 s = .next t) : Keeps s t := by
  unfold execRefclkPresent at h
  exact keeps_done (keeps_refclkPresent (keeps_refl s)) h

theorem keeps_eidleLeave {s t : State} {a1 : Nat} (h : Keeps s t) : Keeps s (eidleLeave a1 t) := by
  unfold eidleLeave
  extract_lets -merge -underBinder +onlyGivenNames x0
  have k1 : Keeps s x0 := (keeps_modLane h)
  exact keeps_ite (keeps_modLane (keeps_ftsBurst k1)) k1

theorem keeps_eidleTurn {s t : State} {a1 : Bool} {a2 : Nat} (h : Keeps s t) : Keeps s (eidleTurn a1 a2 t) := by
  unfold eidleTurn
  exact keeps_ite h (keeps_ite (keeps_eidleLeave h) (keeps_eidleAsk h))

theorem keeps_eidleRequest {s t : State} {a1 : Nat} {a2 : Bool} (h : Keeps s t) : Keeps s (eidleRequest a1 a2 t) := by
  unfold eidleRequest
  exact keeps_eidleTurn (keeps_wb h)

theorem keeps_eidleIn {s t : State} {a1 : Nat} (h : Keeps s t) : Keeps s (eidleIn a1 t) := by
  unfold eidleIn
  exact keeps_count (keeps_wb h)

theorem keeps_eiosIn {s t : State} {a1 : Nat} (h : Keeps s t) : Keeps s (eiosIn a1 t) := by
  unfold eiosIn
  exact (keeps_ite h (keeps_ite (keeps_eidleIn (keeps_modLane h)) (keeps_ite (keeps_eidleIn (keeps_emit h)) (keeps_ite (keeps_wb h) h))))

theorem keeps_execEios {s t : State} {a1 : Fin 24} (h : execEios a1 s = .next t) : Keeps s t := by
  unfold execEios at h
  exact keeps_done (keeps_eiosIn (keeps_refl s)) h

theorem keeps_ftsIn {s t : State} {a1 : Nat} {a2 : Bool} (h : Keeps s t) : Keeps s (ftsIn a1 a2 t) := by
  unfold ftsIn
  extract_lets -merge -underBinder +onlyGivenNames x0
  (try clear_value x0)
  exact (keeps_ite h (by extract_lets -merge -underBinder +onlyGivenNames x1 x4; have k2 : Keeps s x1 := (keeps_when (fun _ h3 => (keeps_ftsBurst h3)) h); have k5 : Keeps s x4 := (keeps_modLane (keeps_wb (keeps_wf k2))); exact (keeps_ite k5 (by extract_lets -merge -underBinder +onlyGivenNames x6; have k7 : Keeps s x6 := (keeps_count k5); exact (by split; exacts [(keeps_leaveActive k7), k7])))))

theorem keeps_execFts {s t : State} {a1 : Fin 24} {a2 : Bool} (h : execFts a1 a2 s = .next t) : Keeps s t := by
  unfold execFts at h
  exact keeps_done (keeps_ftsIn (keeps_refl s)) h

theorem keeps_eiosTimeout {s t : State} {a1 : Nat} (h : Keeps s t) : Keeps s (eiosTimeout a1 t) := by
  unfold eiosTimeout
  exact keeps_ite (keeps_count (keeps_modLane h)) h

theorem keeps_prbsBit {s t : State} {a1 : Nat} {a2 : Nat} {a3 : Bool} (h : Keeps s t) : Keeps s (prbsBit a1 a2 a3 t) := by
  unfold prbsBit
  extract_lets -merge -underBinder +onlyGivenNames x0 x1
  (try clear_value x0 x1)
  exact (keeps_ite (by extract_lets -merge -underBinder +onlyGivenNames x2 x3 x6; (try clear_value x2 x6); have k4 : Keeps s x3 := (keeps_when (fun _ h5 => (keeps_count h5)) h); exact (keeps_ite (keeps_modLane k4) (keeps_ite (keeps_modLane k4) (keeps_modLane (keeps_wb k4))))) (by extract_lets -merge -underBinder +onlyGivenNames x7 x8 x9 x10; (try clear_value x7 x8 x9); have k11 : Keeps s x10 := (keeps_modLane h); exact (keeps_when (fun _ h12 => (keeps_wb h12)) k11)))

theorem keeps_prbsBits {s t : State} {a1 : Nat} {a2 : List Bool} (h : Keeps s t) : Keeps s (prbsBits a1 a2 t) := by
  unfold prbsBits
  extract_lets -merge -underBinder +onlyGivenNames x0 x1 x2
  (try clear_value x0 x1 x2)
  exact (keeps_ite h (by extract_lets -merge -underBinder +onlyGivenNames x3 x4 x5 x6; (try clear_value x4 x5); have k7 : Keeps s x6 := (keeps_when (fun _ h8 => (keeps_emit h8)) (keeps_modLane h)); exact (keeps_ite k7 (keeps_forEach (fun _ _ h9 => (keeps_prbsBit h9)) k7))))

theorem keeps_execPrbsLock {s t : State} {a1 : Fin 24} {a2 : Nat} {a3 : Nat} (h : execPrbsLock a1 a2 a3 s = .next t) : Keeps s t := by
  unfold execPrbsLock at h
  exact keeps_done (keeps_prbsBits (keeps_refl s)) h

theorem keeps_laneTick {s t : State} {a1 : Nat} (h : Keeps s t) : Keeps s (laneTick a1 t) := by
  unfold laneTick
  exact (keeps_ite (by split; exacts [(keeps_when (fun _ h0 => (keeps_sendCaps h0)) h), h]) (keeps_ite (by split; exacts [(keeps_when (fun _ h1 => (keeps_txSleep h1)) h), h]) h))

theorem keeps_deskewError {s t : State} {a1 : Bool} {a2 : Nat} (h : Keeps s t) : Keeps s (deskewError a1 a2 t) := by
  unfold deskewError
  exact keeps_ite (keeps_ite (keeps_leaveActive h) h) (keeps_ite (keeps_wb (keeps_strAbandon h)) h)

theorem keeps_execLaneDeskewError {s t : State} {a1 : Bool} {a2 : Fin 4} (h : execLaneDeskewError a1 a2 s = .next t) : Keeps s t := by
  unfold execLaneDeskewError at h
  exact keeps_done (keeps_deskewError (keeps_refl s)) h

/-! ### Housekeeping -/

theorem keeps_chResult {s t : State} {a1 : Nat} {a2 : Int} {a3 : Bool} (h : Keeps s t) : Keeps s (chResult a1 a2 a3 t) := by
  unfold chResult
  exact keeps_modSens (keeps_wf h)

theorem keeps_slotEnd {s t : State} {a1 : Nat} {a2 : HkRaw} (h : Keeps s t) : Keeps s (slotEnd a1 a2 t) := by
  unfold slotEnd
  exact (keeps_ite h (keeps_ite (keeps_chResult h) (by split; exacts [(keeps_ite h (by extract_lets -merge -underBinder +onlyGivenNames x0 x1; (try clear_value x1); exact (keeps_chResult (keeps_useFree h)))), (keeps_ite h (by extract_lets -merge -underBinder +onlyGivenNames x2; (try clear_value x2); exact (keeps_chResult (keeps_useFree h)))), (keeps_ite h (keeps_ite (keeps_chResult h) (keeps_chResult h)))])))

theorem keeps_execHkSlotEnd {s t : State} {a1 : Fin 48} {a2 : HkRaw} (h : execHkSlotEnd a1 a2 s = .next t) : Keeps s t := by
  unfold execHkSlotEnd at h
  exact keeps_done (keeps_slotEnd (keeps_refl s)) h

theorem keeps_sensorEvent {s t : State} {a1 : Nat} {a2 : Nat} (h : Keeps s t) : Keeps s (sensorEvent a1 a2 t) := by
  unfold sensorEvent
  exact keeps_event h

theorem keeps_brokenEval {s t : State} {a1 : Nat} {a2 : Bool} (h : Keeps s t) : Keeps s (brokenEval a1 a2 t) := by
  unfold brokenEval
  extract_lets -merge -underBinder +onlyGivenNames x0
  (try clear_value x0)
  exact (keeps_ite (by extract_lets -merge -underBinder +onlyGivenNames x1; have k2 : Keeps s x1 := (keeps_modSens h); exact (keeps_ite k2 (keeps_sensorEvent (keeps_count k2)))) (keeps_ite (keeps_ite (keeps_sensorEvent (keeps_modSens h)) (keeps_modSens h)) h))

theorem keeps_arrayEval {s t : State} (h : Keeps s t) : Keeps s (arrayEval t) := by
  unfold arrayEval
  extract_lets -merge -underBinder +onlyGivenNames x0 x1 x2 x3
  (try clear_value x0 x1 x2)
  have k4 : Keeps s x3 := (keeps_wb h)
  exact keeps_ite (keeps_event k4) (keeps_ite (keeps_event k4) k4)

theorem keeps_bandEval {s t : State} {a1 : Nat} (h : Keeps s t) : Keeps s (bandEval a1 t) := by
  unfold bandEval
  extract_lets -merge -underBinder +onlyGivenNames x0 x1 x2 x3 x4
  (try clear_value x0 x1 x2 x3 x4)
  exact (keeps_ite h (keeps_ite (keeps_modSens h) (by extract_lets -merge -underBinder +onlyGivenNames x5 x6 x7 x8 x9; (try clear_value x5 x6 x7 x8 x9); exact (keeps_ite (by extract_lets -merge -underBinder +onlyGivenNames x10; have k11 : Keeps s x10 := (keeps_modSens h); exact (keeps_event (keeps_count k11))) (keeps_modSens h)))))

theorem keeps_bandsShow {s t : State} (h : Keeps s t) : Keeps s (bandsShow t) := by
  unfold bandsShow
  extract_lets -merge -underBinder +onlyGivenNames x0 x1 x2 x4 x5
  (try clear_value x0 x1 x4)
  have k3 : Keeps s x2 := (keeps_wr h)
  have k6 : Keeps s x5 := (keeps_forEach (fun _ _ h7 => (keeps_wr h7)) k3)
  exact keeps_thermShowAll k6

theorem keeps_bandsApply {s t : State} (h : Keeps s t) : Keeps s (bandsApply t) := by
  unfold bandsApply
  exact keeps_bandsShow (keeps_forEach (fun _ _ h0 => (keeps_modSens h0)) h)

theorem keeps_calEnqueue {s t : State} {a1 : Nat} (h : Keeps s t) : Keeps s (calEnqueue a1 t) := by
  unfold calEnqueue
  exact keeps_ite h (keeps_mk h)

theorem keeps_calTriggers {s t : State} (h : Keeps s t) : Keeps s (calTriggers t) := by
  unfold calTriggers
  exact keeps_ite h (keeps_forEach (fun _ _ h0 => (keeps_calEnqueue h0)) h)

theorem keeps_roundEnd {s t : State} (h : Keeps s t) : Keeps s (roundEnd t) := by
  unfold roundEnd
  exact (keeps_ite h (by extract_lets -merge -underBinder +onlyGivenNames x0 x1 x4 x7 x9; (try clear_value x0); have k2 : Keeps s x1 := (keeps_forEach (fun _ _ h3 => (keeps_brokenEval h3)) h); have k5 : Keeps s x4 := (keeps_forEach (fun _ _ h6 => (keeps_bandEval h6)) k2); have k8 : Keeps s x7 := (keeps_calTriggers (keeps_arrayEval k5)); have k10 : Keeps s x9 := (keeps_count k8); exact (keeps_ite k10 (keeps_bandsApply k10))))

theorem keeps_calStart {s t : State} {a1 : Nat → Nat} (h : Keeps s t) : Keeps s (calStart a1 t) := by
  unfold calStart
  exact (keeps_ite h (by split; exacts [h, (by extract_lets -merge -underBinder +onlyGivenNames x0 x1; (try clear_value x0); have k2 : Keeps s x1 := (keeps_wf (keeps_wb (keeps_mk h))); exact (keeps_when (fun _ h3 => (keeps_emit h3)) k2))]))

theorem keeps_calComplete {s t : State} {a1 : Nat} {a2 : Nat} (h : Keeps s t) : Keeps s (calComplete a1 a2 t) := by
  unfold calComplete
  extract_lets -merge -underBinder +onlyGivenNames x0 x1 x2 x4
  (try clear_value x0 x1 x4)
  have k3 : Keeps s x2 := (keeps_mk h)
  exact keeps_forEach (fun _ _ h5 => (keeps_completeOps h5)) k3

theorem keeps_dramEye {s t : State} {a1 : Nat} {a2 : Nat} {a3 : Nat} (h : Keeps s t) : Keeps s (dramEye a1 a2 a3 t) := by
  unfold dramEye
  exact keeps_ite (by extract_lets -merge -underBinder +onlyGivenNames x0; (try clear_value x0); exact (keeps_useFree (keeps_wr h))) h

theorem keeps_runEnd {s t : State} {a1 : Nat} {a2 : List Nat} {a3 : Nat} {a4 : Nat} {a5 : Bool} (h : Keeps s t) : Keeps s (runEnd a1 a2 a3 a4 a5 t) := by
  unfold runEnd
  exact (keeps_ite (by extract_lets -merge -underBinder +onlyGivenNames x0 x1 x3; (try clear_value x0); have k2 : Keeps s x1 := (keeps_mk h); have k4 : Keeps s x3 := (keeps_wf (keeps_wb k2)); exact (keeps_calComplete (keeps_calEnd (keeps_dramEye k4)))) (keeps_ite (keeps_calEnd (keeps_dramEye h)) h))

theorem keeps_execCalibrationRunEnd {s t : State} {a1 : Fin 97} {a2 : List Nat} {a3 : Byte} {a4 : BitVec 10} {a5 : Bool} (h : execCalibrationRunEnd a1 a2 a3 a4 a5 s = .next t) : Keeps s t := by
  unfold execCalibrationRunEnd at h
  exact keeps_done (keeps_runEnd (keeps_refl s)) h

/-! ### Net -/

theorem keeps_macShow {s t : State} {a1 : Nat} {a2 : Bool} {a3 : Nat} (h : Keeps s t) : Keeps s (macShow a1 a2 a3 t) := by
  unfold macShow
  extract_lets -merge -underBinder +onlyGivenNames x0 x1
  (try clear_value x0)
  have k2 : Keeps s x1 := (keeps_wr h)
  exact keeps_ite k2 (keeps_event (keeps_count k2))

theorem keeps_macLink {s t : State} {a1 : Nat} {a2 : Bool} {a3 : Nat} {a4 : Bool} {a5 : Bool} {a6 : Bool} (h : Keeps s t) : Keeps s (macLink a1 a2 a3 a4 a5 a6 t) := by
  unfold macLink
  extract_lets -merge -underBinder +onlyGivenNames x0
  (try clear_value x0)
  exact (keeps_ite h (by extract_lets -merge -underBinder +onlyGivenNames x1 x2 x4; (try clear_value x1); have k3 : Keeps s x2 := (keeps_setStage h); have k5 : Keeps s x4 := (keeps_ite (keeps_setStage h) (keeps_ite (keeps_setReason k3) (keeps_when (fun _ h6 => (keeps_setReason h6)) k3))); exact (keeps_macShow (keeps_wb k5))))

theorem keeps_execMacLinkChange {s t : State} {a1 : Fin 2} {a2 : Bool} {a3 : Fin 4} {a4 : Bool} {a5 : Bool} {a6 : Bool} (h : execMacLinkChange a1 a2 a3 a4 a5 a6 s = .next t) : Keeps s t := by
  unfold execMacLinkChange at h
  exact keeps_done (keeps_macLink (keeps_refl s)) h

theorem keeps_macDown {s t : State} {a1 : Nat} {a2 : Nat} (h : Keeps s t) : Keeps s (macDown a1 a2 t) := by
  unfold macDown
  exact keeps_macShow (keeps_when (fun _ h0 => (keeps_setStage h0)) h)

theorem keeps_macCtrl {s t : State} {a1 : Nat} {a2 : Word} (h : Keeps s t) : Keeps s (macCtrl a1 a2 t) := by
  unfold macCtrl
  extract_lets -merge -underBinder +onlyGivenNames x0 x1 x2
  (try clear_value x0 x1)
  have k3 : Keeps s x2 := (keeps_swWrite h)
  exact keeps_ite k3 (by extract_lets -merge -underBinder +onlyGivenNames x4; have k5 : Keeps s x4 := (keeps_swWrite (keeps_macDown h)); exact (keeps_macStart k5))

theorem keeps_macClock {s t : State} {a1 : Nat} (h : Keeps s t) : Keeps s (macClock a1 t) := by
  unfold macClock
  exact keeps_forEach (fun _ _ h0 => (keeps_setReason (keeps_macDown h0))) h

theorem keeps_execRefclkFail {s t : State} {a1 : Fin 2} (h : execRefclkFail a1 s = .next t) : Keeps s t := by
  unfold execRefclkFail at h
  exact keeps_done (keeps_macClock (keeps_refclkFail (keeps_refl s))) h

theorem keeps_udpMailbox {s t : State} {a1 : Nat} {a2 : List Byte} (h : Keeps s t) : Keeps s (udpMailbox a1 a2 t) := by
  unfold udpMailbox
  exact keeps_mbArrive h

theorem keeps_stripAt {s t : State} {a1 : Nat} {a2 : Nat} {a3 : List Byte} {a4 : List Byte → State → State} (g4 : ∀ b1 t', Keeps s t' → Keeps s (a4 b1 t')) (h : Keeps s t) : Keeps s (stripAt a1 a2 a3 a4 t) := by
  unfold stripAt
  split
  exacts [(g4 _ _ h), (by extract_lets -merge -underBinder +onlyGivenNames x0 x1 x2; (try clear_value x0 x1); have k3 : Keeps s x2 := (keeps_stripDone h); exact (keeps_ite (g4 _ _ k3) k3))]

theorem keeps_udpIn {s t : State} {a1 : Nat} {a2 : Nat} {a3 : Nat} {a4 : List Byte} (h : Keeps s t) : Keeps s (udpIn a1 a2 a3 a4 t) := by
  unfold udpIn
  extract_lets -merge -underBinder +onlyGivenNames x0 x1
  (try clear_value x0 x1)
  exact (keeps_stripAt (fun _ _ h2 => (keeps_ite (keeps_udpMailbox h2) (keeps_ite (keeps_listIn h2) (keeps_ite (keeps_ptpReceive h2) (keeps_count h2))))) h)

theorem keeps_ipIn {s t : State} {a1 : Nat} {a2 : Nat} {a3 : List Byte} (h : Keeps s t) : Keeps s (ipIn a1 a2 a3 t) := by
  unfold ipIn
  extract_lets -merge -underBinder +onlyGivenNames x0 x1 x2 x3
  (try clear_value x0 x1 x2 x3)
  exact (keeps_ite h (keeps_ite (keeps_count h) (keeps_ite h (by split; exacts [(keeps_ite (by extract_lets -merge -underBinder +onlyGivenNames x4; (try clear_value x4); exact (keeps_ethSend h)) h), (keeps_ite (keeps_udpIn h) h), h]))))

theorem keeps_arpIn {s t : State} {a1 : Nat} {a2 : List Byte} (h : Keeps s t) : Keeps s (arpIn a1 a2 t) := by
  unfold arpIn
  exact keeps_ite (keeps_count (keeps_emit h)) h

theorem keeps_frameIn {s t : State} {a1 : Nat} {a2 : Nat} {a3 : List Byte} {a4 : Bool} (h : Keeps s t) : Keeps s (frameIn a1 a2 a3 a4 t) := by
  unfold frameIn
  exact (keeps_ite h (keeps_ite (keeps_count h) (keeps_ite (keeps_count h) (keeps_ite (keeps_count h) (by extract_lets -merge -underBinder +onlyGivenNames x0 x2; (try clear_value x2); have k1 : Keeps s x0 := (keeps_count h); exact (by split; exacts [(keeps_ipIn k1), (keeps_arpIn k1), (keeps_ptpReceive k1), k1]))))))

theorem keeps_canStbShow {s t : State} (h : Keeps s t) : Keeps s (canStbShow t) := by
  unfold canStbShow
  exact keeps_mk h

theorem keeps_canBuffer {s t : State} {a1 : Nat} {a2 : Nat} {a3 : Bool} {a4 : Nat} {a5 : List Byte} (h : Keeps s t) : Keeps s (canBuffer a1 a2 a3 a4 a5 t) := by
  unfold canBuffer
  split
  exacts [h, (keeps_ite (keeps_count h) (keeps_stripAt (fun _ _ h0 => (keeps_wf (keeps_wb (keeps_mk h0)))) h))]

theorem keeps_setMbxAsm {s t : State} {a1 : Nat} {a2 : Option Assembly} (h : Keeps s t) : Keeps s (setMbxAsm a1 a2 t) := by
  unfold setMbxAsm
  exact keeps_mk h

theorem keeps_mbxCanFrame {s t : State} {a1 : Nat} {a2 : List Byte} (h : Keeps s t) : Keeps s (mbxCanFrame a1 a2 t) := by
  unfold mbxCanFrame
  extract_lets -merge -underBinder +onlyGivenNames x0 x1
  have k2 : Keeps s x1 := (keeps_setMbxAsm h)
  exact by split; exacts [(keeps_ite (keeps_mbArrive k2) k2), k2]

theorem keeps_canErrors {s t : State} {a1 : Nat} {a2 : Nat} {a3 : Nat} (h : Keeps s t) : Keeps s (canErrors a1 a2 a3 t) := by
  unfold canErrors
  extract_lets -merge -underBinder +onlyGivenNames x0
  (try clear_value x0)
  exact keeps_wf (keeps_wf (keeps_wf h))

theorem keeps_canGoodRx {s t : State} {a1 : Nat} (h : Keeps s t) : Keeps s (canGoodRx a1 t) := by
  unfold canGoodRx
  extract_lets -merge -underBinder +onlyGivenNames x0 x1
  (try clear_value x0 x1)
  exact keeps_ite (keeps_canErrors (keeps_useFree h)) (keeps_canErrors h)

theorem keeps_canIn {s t : State} {a1 : Nat} {a2 : Nat} {a3 : Bool} {a4 : Nat} {a5 : List Byte} (h : Keeps s t) : Keeps s (canIn a1 a2 a3 a4 a5 t) := by
  unfold canIn
  exact (keeps_ite h (by extract_lets -merge -underBinder +onlyGivenNames x0 x2; have k1 : Keeps s x0 := (keeps_canBuffer (keeps_canGoodRx (keeps_count h))); have k3 : Keeps s x2 := (keeps_when (fun _ h4 => (keeps_mbxCanFrame h4)) k1); exact (keeps_when (fun _ h5 => (keeps_beamCanFrame h5)) k3)))

theorem keeps_mbxAsmTimeout {s t : State} {a1 : Nat} (h : Keeps s t) : Keeps s (mbxAsmTimeout a1 t) := by
  unfold mbxAsmTimeout
  split
  exacts [(keeps_setMbxAsm (keeps_advanceTo h)), h]

theorem keeps_execMbxCanAssyTimeout {s t : State} {a1 : Fin 2} (h : execMbxCanAssyTimeout a1 s = .next t) : Keeps s t := by
  unfold execMbxCanAssyTimeout at h
  exact keeps_done (keeps_mbxAsmTimeout (keeps_refl s)) h

theorem keeps_canError {s t : State} {a1 : Nat} {a2 : Nat} {a3 : Nat} (h : Keeps s t) : Keeps s (canError a1 a2 a3 t) := by
  unfold canError
  exact keeps_ite h (keeps_when (fun _ h0 => (keeps_count h0)) (keeps_canErrors (keeps_count h)))

theorem keeps_execCanErrorFrame {s t : State} {a1 : Fin 2} {a2 : BitVec 9} {a3 : BitVec 9} (h : execCanErrorFrame a1 a2 a3 s = .next t) : Keeps s t := by
  unfold execCanErrorFrame at h
  exact keeps_done (keeps_canError (keeps_refl s)) h

theorem keeps_canBufCfg {s t : State} {a1 : Nat} {a2 : Nat} {a3 : Word} (h : Keeps s t) : Keeps s (canBufCfg a1 a2 a3 t) := by
  unfold canBufCfg
  exact keeps_swWrite (keeps_wr (keeps_mk h))

theorem keeps_canBack {s t : State} {a1 : Nat} (h : Keeps s t) : Keeps s (canBack a1 t) := by
  unfold canBack
  exact keeps_ite (keeps_wr h) h

theorem keeps_busOffRecovery {s t : State} {a1 : Nat} (h : Keeps s t) : Keeps s (busOffRecovery a1 t) := by
  unfold busOffRecovery
  exact keeps_ite h (keeps_canBack h)

theorem keeps_execBusOffRecovery {s t : State} {a1 : Fin 2} (h : execBusOffRecovery a1 s = .next t) : Keeps s t := by
  unfold execBusOffRecovery at h
  exact keeps_done (keeps_busOffRecovery (keeps_refl s)) h

theorem keeps_canCtrl {s t : State} (h : Keeps s t) : Keeps s (canCtrl t) := by
  unfold canCtrl
  exact keeps_canStbShow h

/-! ### Supply -/

theorem keeps_supShow {s t : State} (h : Keeps s t) : Keeps s (supShow t) := by
  unfold supShow
  exact keeps_wf h

theorem keeps_vsetShow {s t : State} (h : Keeps s t) : Keeps s (vsetShow t) := by
  unfold vsetShow
  extract_lets -merge -underBinder +onlyGivenNames x0
  (try clear_value x0)
  exact keeps_useFree (keeps_wr h)

theorem keeps_softStart {s t : State} (h : Keeps s t) : Keeps s (softStart t) := by
  unfold softStart
  exact (keeps_ite h (by extract_lets -merge -underBinder +onlyGivenNames x0 x1; (try clear_value x0); have k2 : Keeps s x1 := (keeps_mk h); exact (keeps_supShow (keeps_vsetShow (keeps_wb (keeps_wb (keeps_wb k2)))))))

theorem keeps_supStop {s t : State} (h : Keeps s t) : Keeps s (supStop t) := by
  unfold supStop
  exact keeps_supShow (keeps_wb (keeps_wb h))

theorem keeps_supEnable {s t : State} {a1 : Bool} (h : Keeps s t) : Keeps s (supEnable a1 t) := by
  unfold supEnable
  extract_lets -merge -underBinder +onlyGivenNames x0 x1
  (try clear_value x0)
  have k2 : Keeps s x1 := (keeps_wb h)
  exact keeps_ite k2 (keeps_ite (keeps_softStart k2) (keeps_supStop k2))

theorem keeps_supPhaseEn {s t : State} {a1 : Word} (h : Keeps s t) : Keeps s (supPhaseEn a1 t) := by
  unfold supPhaseEn
  extract_lets -merge -underBinder +onlyGivenNames x0
  have k1 : Keeps s x0 := (keeps_swWrite h)
  exact keeps_supShow (keeps_mk k1)

theorem keeps_supRestart {s t : State} (h : Keeps s t) : Keeps s (supRestart t) := by
  unfold supRestart
  extract_lets -merge -underBinder +onlyGivenNames x0 x2 x3
  (try clear_value x2)
  have k1 : Keeps s x0 := (keeps_wb h)
  have k4 : Keeps s x3 := (keeps_mk k1)
  exact keeps_ite k4 (keeps_softStart (keeps_wb k4))

theorem keeps_softDone {s t : State} (h : Keeps s t) : Keeps s (softDone t) := by
  unfold softDone
  exact keeps_wb h

theorem keeps_execSoftstartDone {s t : State} (h : execSoftstartDone s = .next t) : Keeps s t := by
  unfold execSoftstartDone at h
  exact keeps_done (keeps_softDone (keeps_refl s)) h

theorem keeps_supplyEvent {s t : State} {a1 : Nat} {a2 : Nat} (h : Keeps s t) : Keeps s (supplyEvent a1 a2 t) := by
  unfold supplyEvent
  exact keeps_event h

theorem keeps_overvoltage {s t : State} (h : Keeps s t) : Keeps s (overvoltage t) := by
  unfold overvoltage
  extract_lets -merge -underBinder +onlyGivenNames x0 x1 x2 x4
  (try clear_value x0 x1)
  have k3 : Keeps s x2 := (keeps_mk h)
  have k5 : Keeps s x4 := (keeps_supStop (keeps_wb (keeps_wb k3)))
  exact keeps_fbRaise (keeps_supplyEvent (keeps_count k5))

theorem keeps_execVledOvervoltage {s t : State} (h : execVledOvervoltage s = .next t) : Keeps s t := by
  unfold execVledOvervoltage at h
  exact keeps_done (keeps_overvoltage (keeps_refl s)) h

theorem keeps_ovRestart {s t : State} (h : Keeps s t) : Keeps s (ovRestart t) := by
  unfold ovRestart
  exact (keeps_ite (by extract_lets -merge -underBinder +onlyGivenNames x0; have k1 : Keeps s x0 := (keeps_advanceTo h); exact (keeps_softStart (keeps_wb (keeps_mk k1)))) h)

theorem keeps_execOvRestart {s t : State} (h : execOvRestart s = .next t) : Keeps s t := by
  unfold execOvRestart at h
  exact keeps_done (keeps_ovRestart (keeps_refl s)) h

theorem keeps_undervoltage {s t : State} (h : Keeps s t) : Keeps s (undervoltage t) := by
  unfold undervoltage
  exact (keeps_ite (by extract_lets -merge -underBinder +onlyGivenNames x0 x1; (try clear_value x0); have k2 : Keeps s x1 := (keeps_mk h); exact (keeps_supplyEvent (keeps_count (keeps_wb k2)))) h)

theorem keeps_execVledUndervoltage {s t : State} (h : execVledUndervoltage s = .next t) : Keeps s t := by
  unfold execVledUndervoltage at h
  exact keeps_done (keeps_undervoltage (keeps_refl s)) h

theorem keeps_undervoltageEnd {s t : State} (h : Keeps s t) : Keeps s (undervoltageEnd t) := by
  unfold undervoltageEnd
  exact keeps_ite (keeps_wb (keeps_advanceTo h)) h

theorem keeps_execVledUndervoltageEnd {s t : State} (h : execVledUndervoltageEnd s = .next t) : Keeps s t := by
  unfold execVledUndervoltageEnd at h
  exact keeps_done (keeps_undervoltageEnd (keeps_refl s)) h

theorem keeps_phaseOff {s t : State} {a1 : Nat} {a2 : Nat} (h : Keeps s t) : Keeps s (phaseOff a1 a2 t) := by
  unfold phaseOff
  exact (keeps_ite (by extract_lets -merge -underBinder +onlyGivenNames x0 x1; (try clear_value x0); have k2 : Keeps s x1 := (keeps_mk h); exact (keeps_supplyEvent (keeps_supShow (keeps_count k2)))) h)

theorem keeps_execPhaseImbalance {s t : State} {a1 : Fin 6} (h : execPhaseImbalance a1 s = .next t) : Keeps s t := by
  unfold execPhaseImbalance at h
  exact keeps_done (keeps_phaseOff (keeps_refl s)) h

theorem keeps_execCurrentSenseOpen {s t : State} {a1 : Fin 6} (h : execCurrentSenseOpen a1 s = .next t) : Keeps s t := by
  unfold execCurrentSenseOpen at h
  exact keeps_done (keeps_phaseOff (keeps_refl s)) h

theorem keeps_capShow {s t : State} (h : Keeps s t) : Keeps s (capShow t) := by
  unfold capShow
  exact keeps_useFree (keeps_wf h)

theorem keeps_planShow {s t : State} {a1 : Nat} (h : Keeps s t) : Keeps s (planShow a1 t) := by
  unfold planShow
  extract_lets -merge -underBinder +onlyGivenNames x0 x1
  (try clear_value x0 x1)
  exact keeps_ite h (keeps_wr h)

theorem keeps_makePlan {s t : State} (h : Keeps s t) : Keeps s (makePlan t) := by
  unfold makePlan
  extract_lets -merge -underBinder +onlyGivenNames x0 x1 x2 x3 x4 x5 x6 x8 x9 x10 x11 x14
  (try clear_value x0 x1 x2 x3 x4 x5 x8 x9 x10 x14)
  have k7 : Keeps s x6 := (keeps_mk h)
  have k12 : Keeps s x11 := (keeps_when (fun _ h13 => (keeps_count h13)) k7)
  exact (keeps_forEach (fun _ _ h15 => (keeps_planShow (keeps_ite h15 (keeps_modSeg h15)))) k12)

theorem keeps_class0Over {s t : State} {a1 : Bool} (h : Keeps s t) : Keeps s (class0Over a1 t) := by
  unfold class0Over
  extract_lets -merge -underBinder +onlyGivenNames x0 x1
  (try clear_value x0)
  have k2 : Keeps s x1 := (keeps_wb h)
  exact (keeps_ite k2 (by extract_lets -merge -underBinder +onlyGivenNames x3; have k4 : Keeps s x3 := (keeps_count k2); exact (keeps_ite k4 (keeps_fbRaise (keeps_supplyEvent k4)))))

theorem keeps_derate {s t : State} (h : Keeps s t) : Keeps s (derate t) := by
  unfold derate
  extract_lets -merge -underBinder +onlyGivenNames x0 x1 x2 x3 x4 x5 x6 x8 x10 x12 x13 x14 x15
  (try clear_value x0 x1 x2 x3 x4 x12 x13 x14)
  have k7 : Keeps s x6 := (keeps_class0Over (keeps_capShow h))
  have k9 : Keeps s x8 := (keeps_useFree (keeps_wf k7))
  have k11 : Keeps s x10 := (keeps_wr k9)
  have k16 : Keeps s x15 := (keeps_mk k11)
  exact keeps_ite (by extract_lets -merge -underBinder +onlyGivenNames x17; have k18 : Keeps s x17 := (keeps_count k16); exact (keeps_ite k18 (keeps_event k18))) (keeps_ite (keeps_event k16) k16)

theorem keeps_track {s t : State} (h : Keeps s t) : Keeps s (track t) := by
  unfold track
  exact (keeps_ite h (by split; exacts [(keeps_wb h), (by extract_lets -merge -underBinder +onlyGivenNames x0 x1 x2 x3 x4 x5 x7 x8; (try clear_value x0 x1 x2 x3 x4 x7); have k6 : Keeps s x5 := (keeps_vsetShow (keeps_mk h)); have k9 : Keeps s x8 := (keeps_wr k6); exact (keeps_wb (keeps_when (fun _ h10 => (keeps_count h10)) k9)))]))

theorem keeps_supMeasure {s t : State} (h : Keeps s t) : Keeps s (supMeasure t) := by
  unfold supMeasure
  exact (keeps_ite h (by extract_lets -merge -underBinder +onlyGivenNames x0; have k1 : Keeps s x0 := (keeps_useFree (keeps_wf h)); exact (keeps_forEach (fun _ _ h2 => (keeps_useFree (keeps_wf h2))) k1)))

theorem keeps_supLit {s t : State} (h : Keeps s t) : Keeps s (supLit t) := by
  unfold supLit
  extract_lets -merge -underBinder +onlyGivenNames x0 x2 x3 x5 x7 x9
  (try clear_value x2)
  have k1 : Keeps s x0 := (keeps_ite h (keeps_wb h))
  have k4 : Keeps s x3 := (keeps_mk k1)
  have k6 : Keeps s x5 := (by unfold x5; split; exacts [(keeps_vsetShow (keeps_mk k4)), k4])
  have k8 : Keeps s x7 := (keeps_wr k6)
  have k10 : Keeps s x9 := (keeps_forEach (fun _ _ h11 => (by extract_lets -merge -underBinder +onlyGivenNames x12 x13; (try clear_value x12); have k14 : Keeps s x13 := (keeps_ite h11 (keeps_wb h11)); exact (keeps_ite (keeps_modSeg k14) k14))) k8)
  exact keeps_supMeasure (keeps_track k10)

theorem keeps_supPlan {s t : State} (h : Keeps s t) : Keeps s (supPlan t) := by
  unfold supPlan
  extract_lets -merge -underBinder +onlyGivenNames x0
  have k1 : Keeps s x0 := (keeps_derate (keeps_makePlan h))
  exact keeps_mk k1

theorem keeps_lateTrim {s t : State} (h : Keeps s t) : Keeps s (lateTrim t).2 := by
  unfold lateTrim
  extract_lets +onlyGivenNames x0 x1 x2 x3 x4
  split
  · exact h
  · extract_lets +onlyGivenNames y0
    have k0 : Keeps s y0 := keeps_class0Over (keeps_capShow h)
    split
    · exact k0
    · extract_lets +onlyGivenNames z0 z1 z2 z3 z4
      have k2 : Keeps s z2 := keeps_count k0
      have k3 : Keeps s z3 := keeps_forEach (fun _ _ g => keeps_ite (keeps_modSeg g) g) k2
      exact keeps_ite (keeps_supplyEvent (keeps_count k3)) k3

theorem keeps_feedForward {s t : State} {a1 : Nat × Nat} (h : Keeps s t) : Keeps s (feedForward a1 t) := by
  unfold feedForward
  extract_lets -merge -underBinder +onlyGivenNames x0 x1 x2 x3 x5 x6 x8 x9 x10
  (try clear_value x0 x1 x2 x5 x8 x9)
  have k4 : Keeps s x3 := (keeps_useFree (keeps_wf h))
  have k7 : Keeps s x6 := (keeps_mk k4)
  have k11 : Keeps s x10 := (keeps_mk k7)
  exact keeps_ite (keeps_vsetShow k11) (keeps_mk k7)

/-! ### Health -/

theorem keeps_clearBytes {s t : State} {a1 : Nat} {a2 : Nat} (h : Keeps s t) : Keeps s (clearBytes a1 a2 t) := by
  unfold clearBytes
  exact keeps_forEach (fun _ _ h0 => (keeps_putByte h0)) h

theorem keeps_mapWrite {s t : State} (h : Keeps s t) : Keeps s (mapWrite t) := by
  unfold mapWrite
  exact keeps_ite h (keeps_forEach (fun _ _ h0 => (keeps_putByte h0)) (keeps_clearBytes h))

theorem keeps_setClass {s t : State} {a1 : Nat} {a2 : Nat} (h : Keeps s t) : Keeps s (setClass a1 a2 t) := by
  unfold setClass
  extract_lets -merge -underBinder +onlyGivenNames x0 x1 x2 x4 x7 x10 x11 x13 x15 x17
  (try clear_value x0 x1 x10)
  have k3 : Keeps s x2 := (keeps_setLamp h)
  have k5 : Keeps s x4 := (keeps_when (fun _ h6 => (keeps_putByte h6)) k3)
  have k8 : ∀ b1 b2 b3 b4 b5 t', Keeps s t' → Keeps s (x7 b1 b2 b3 b4 b5 t') := (by unfold x7; exact (fun _ _ _ _ _ _ h9 => (keeps_ite h9 (keeps_wf h9))))
  have k12 : Keeps s x11 := (k8 _ _ _ _ _ _ k5)
  have k14 : Keeps s x13 := (k8 _ _ _ _ _ _ k12)
  have k16 : Keeps s x15 := (k8 _ _ _ _ _ _ k14)
  have k18 : Keeps s x17 := (k8 _ _ _ _ _ _ k16)
  exact k8 _ _ _ _ _ _ k18

theorem keeps_recountMap {s t : State} (h : Keeps s t) : Keeps s (recountMap t) := by
  unfold recountMap
  extract_lets -merge -underBinder +onlyGivenNames x0 x1 x2 x5
  (try clear_value x0 x1 x5)
  have k3 : Keeps s x2 := (keeps_forEach (fun _ _ h4 => (keeps_wr h4)) h)
  exact keeps_wr (keeps_wr (keeps_wr k3))

theorem keeps_lampChange {s t : State} {a1 : Bool} {a2 : Nat} (h : Keeps s t) : Keeps s (lampChange a1 a2 t) := by
  unfold lampChange
  exact (keeps_ite h (by extract_lets -merge -underBinder +onlyGivenNames x0 x1 x2 x3; (try clear_value x0 x1 x2); have k4 : Keeps s x3 := (keeps_count (keeps_setClass (keeps_setLamp h))); exact (keeps_when (fun _ h5 => (keeps_event h5)) k4)))

theorem keeps_execLampClass {s t : State} {a1 : Fin 1048576} (h : execLampClass a1 s = .next t) : Keeps s t := by
  unfold execLampClass at h
  exact keeps_done (keeps_lampChange (keeps_refl s)) h

theorem keeps_lampObserve {s t : State} {a1 : Nat} {a2 : Nat} (h : Keeps s t) : Keeps s (lampObserve a1 a2 t) := by
  unfold lampObserve
  extract_lets -merge -underBinder +onlyGivenNames x0 x1
  (try clear_value x0 x1)
  exact keeps_ite h (keeps_setLamp h)

theorem keeps_unclass {s t : State} {a1 : Nat} (h : Keeps s t) : Keeps s (unclass a1 t) := by
  unfold unclass
  exact keeps_forEach (fun _ _ h0 => (keeps_setLamp (keeps_setClass h0))) h

theorem keeps_classify {s t : State} {a1 : Nat} {a2 : List Byte} (h : Keeps s t) : Keeps s (classify a1 a2 t) := by
  unfold classify
  extract_lets -merge -underBinder +onlyGivenNames x0 x1 x4 x5 x6 x7 x8 x9
  (try clear_value x0 x4 x5 x6 x7 x8)
  have k2 : Keeps s x1 := (keeps_forEach (fun _ _ h3 => (keeps_lampObserve h3)) h)
  have k10 : Keeps s x9 := (keeps_forEach (fun _ _ h11 => (keeps_lampChange h11)) k2)
  exact (keeps_ite k10 (by extract_lets -merge -underBinder +onlyGivenNames x12; have k13 : Keeps s x12 := (keeps_forEach (fun _ _ h14 => (keeps_lampChange h14)) k10); exact (keeps_count (keeps_event k13))))

theorem keeps_vfSuspShow {s t : State} (h : Keeps s t) : Keeps s (vfSuspShow t) := by
  unfold vfSuspShow
  exact keeps_forEach (fun _ _ h0 => (keeps_wr h0)) h

theorem keeps_vfSample {s t : State} {a1 : Bool} {a2 : Nat} {a3 : Nat} {a4 : Byte} (h : Keeps s t) : Keeps s (vfSample a1 a2 a3 a4 t) := by
  unfold vfSample
  exact (keeps_ite (keeps_when (fun _ h0 => (keeps_count h0)) h) (keeps_ite h (by split; exacts [h, (by extract_lets -merge -underBinder +onlyGivenNames x1; (try clear_value x1); exact (keeps_ite h (keeps_setLamp h)))])))

theorem keeps_vfEvaluate {s t : State} {a1 : Nat} {a2 : Nat × Nat × List Byte} {a3 : Bool} (h : Keeps s t) : Keeps s (vfEvaluate a1 a2 a3 t) := by
  unfold vfEvaluate
  extract_lets -merge -underBinder +onlyGivenNames x0 x1 x6
  (try clear_value x0 x6)
  have k2 : Keeps s x1 := (keeps_ite (keeps_forEach (fun _ _ h3 => (keeps_ite h3 (by extract_lets -merge -underBinder +onlyGivenNames x4; have k5 : Keeps s x4 := (keeps_putLe h3); exact (keeps_mk k5)))) h) h)
  exact keeps_forEach (fun _ _ h7 => (keeps_vfSample h7)) k2

theorem keeps_captureStart {s t : State} {a1 : Ctx} {a2 : Nat} {a3 : Nat} (h : Keeps s t) : Keeps s (captureStart a1 a2 a3 t) := by
  unfold captureStart
  extract_lets -merge -underBinder +onlyGivenNames x0 x1
  (try clear_value x0)
  have k2 : Keeps s x1 := (keeps_mk h)
  exact keeps_vfSuspShow (keeps_wr (keeps_wb k2))

theorem keeps_captureRecord {s t : State} {a1 : Nat} (h : Keeps s t) : Keeps s (captureRecord a1 t) := by
  unfold captureRecord
  extract_lets -merge -underBinder +onlyGivenNames x0 x1
  (try clear_value x0 x1)
  exact keeps_useFree (keeps_putBytes h)

theorem keeps_captureDone {s t : State} (h : Keeps s t) : Keeps s (captureDone t) := by
  unfold captureDone
  split
  exacts [h, (keeps_ite h (by extract_lets -merge -underBinder +onlyGivenNames x0 x1 x4 x5 x7; (try clear_value x0 x4); have k2 : Keeps s x1 := (keeps_forEach (fun _ _ h3 => (keeps_putLe h3)) h); have k6 : Keeps s x5 := (keeps_mk k2); have k8 : Keeps s x7 := (keeps_vfSuspShow (keeps_wb k6)); exact (keeps_completeOps k8)))]

theorem keeps_execVfCaptureDone {s t : State} (h : execVfCaptureDone s = .next t) : Keeps s t := by
  unfold execVfCaptureDone at h
  exact keeps_done (keeps_captureDone (keeps_refl s)) h

theorem keeps_setCap {s t : State} {a1 : VfCap} (h : Keeps s t) : Keeps s (setCap a1 t) := by
  unfold setCap
  exact keeps_mk h

theorem keeps_captureFrame {s t : State} (h : Keeps s t) : Keeps s (captureFrame t) := by
  unfold captureFrame
  split
  exacts [h, (keeps_ite (keeps_setCap h) (keeps_ite h (keeps_captureDone (keeps_wf (keeps_setCap h)))))]

theorem keeps_captureTref {s t : State} (h : Keeps s t) : Keeps s (captureTref t) := by
  unfold captureTref
  split
  exacts [h, (keeps_ite h (keeps_setCap (keeps_forEach (fun _ _ h0 => (keeps_captureRecord h0)) h)))]

theorem keeps_vfRow {s t : State} {a1 : Nat} {a2 : Byte} {a3 : Nat} {a4 : Nat} {a5 : List Byte} (h : Keeps s t) : Keeps s (vfRow a1 a2 a3 a4 a5 t) := by
  unfold vfRow
  exact keeps_ite h (by split; exacts [(keeps_count h), (keeps_modSeg h), (keeps_modSeg h)])

theorem keeps_execVfRow {s t : State} {a1 : Fin 256} {a2 : Byte} {a3 : Byte} {a4 : Byte} {a5 : List Byte} (h : execVfRow a1 a2 a3 a4 a5 s = .next t) : Keeps s t := by
  unfold execVfRow at h
  exact keeps_done (keeps_vfRow (keeps_refl s)) h

theorem keeps_faultEval {s t : State} {a1 : Nat} (h : Keeps s t) : Keeps s (faultEval a1 t) := by
  unfold faultEval
  extract_lets -merge -underBinder +onlyGivenNames x0
  (try clear_value x0)
  exact (keeps_ite h (by extract_lets -merge -underBinder +onlyGivenNames x1; have k2 : Keeps s x1 := (keeps_wb h); exact (keeps_ite (keeps_modSeg k2) (by extract_lets -merge -underBinder +onlyGivenNames x3; have k4 : Keeps s x3 := (keeps_event (keeps_count k2)); exact (by split; exacts [(by extract_lets -merge -underBinder +onlyGivenNames x5; have k6 : Keeps s x5 := (keeps_modSeg k4); exact (keeps_when (fun _ h7 => (keeps_segToDefault h7)) k6)), (keeps_fbRaise k4), k4])))))

theorem keeps_lossEval {s t : State} {a1 : Nat} (h : Keeps s t) : Keeps s (lossEval a1 t) := by
  unfold lossEval
  exact keeps_ite (keeps_faultEval (keeps_wb h)) h

theorem keeps_execReportLoss {s t : State} {a1 : Fin 256} (h : execReportLoss a1 s = .next t) : Keeps s t := by
  unfold execReportLoss at h
  exact keeps_done (keeps_lossEval (keeps_refl s)) h

theorem keeps_lossEnd {s t : State} {a1 : Nat} (h : Keeps s t) : Keeps s (lossEnd a1 t) := by
  unfold lossEnd
  exact keeps_ite (keeps_faultEval (keeps_wb (keeps_modSeg h))) h

theorem keeps_statusIn {s t : State} {a1 : Nat} {a2 : Byte} {a3 : List Byte} (h : Keeps s t) : Keeps s (statusIn a1 a2 a3 t) := by
  unfold statusIn
  extract_lets -merge -underBinder +onlyGivenNames x0
  (try clear_value x0)
  exact keeps_when (fun _ h1 => (keeps_lossEnd h1)) (keeps_segStatus h)

theorem keeps_execSegStatus {s t : State} {a1 : Fin 256} {a2 : Byte} {a3 : List Byte} (h : execSegStatus a1 a2 a3 s = .next t) : Keeps s t := by
  unfold execSegStatus at h
  exact keeps_done (keeps_statusIn (keeps_refl s)) h

theorem keeps_evaluateSeg {s t : State} {a1 : Nat} (h : Keeps s t) : Keeps s (evaluateSeg a1 t) := by
  unfold evaluateSeg
  extract_lets -merge -underBinder +onlyGivenNames x0 x1 x2
  (try clear_value x0 x1)
  have k3 : Keeps s x2 := (by unfold x2; split; exacts [(keeps_ite h (keeps_vfEvaluate h)), h])
  exact (by split; exacts [(keeps_lossEval (keeps_count (keeps_modSeg k3))), (by extract_lets -merge -underBinder +onlyGivenNames x4; have k5 : Keeps s x4 := (keeps_ite k3 (keeps_modSeg k3)); exact (keeps_when (fun _ h6 => (keeps_classify (keeps_unclass h6))) k5)), k3])

theorem keeps_healthP0 {s t : State} (h : Keeps s t) : Keeps s (healthP0 t) := by
  unfold healthP0
  extract_lets -merge -underBinder +onlyGivenNames x0 x3 x6
  have k1 : Keeps s x0 := (keeps_forEach (fun _ _ h2 => (keeps_evaluateSeg h2)) h)
  have k4 : Keeps s x3 := (keeps_captureFrame (keeps_when (fun _ h5 => (keeps_mapWrite h5)) k1))
  have k7 : Keeps s x6 := (keeps_forEach (fun _ _ h8 => (keeps_faultEval h8)) k4)
  exact keeps_vfSuspShow k7

theorem keeps_litStep {s t : State} (h : Keeps s t) : Keeps s (litStep t) := by
  unfold litStep
  exact (keeps_forEach (fun _ _ h0 => (by extract_lets -merge -underBinder +onlyGivenNames x1 x2; (try clear_value x1 x2); exact (keeps_ite h0 (keeps_setSeg h0)))) h)

end Sys2Proof.Machine
end

