-- ==== Sys2Proof/Laws/Keeps4.lean ====
section
/-! SUPPORT. What the functions of these files of Machine/ keep (`Keeps`): Corr, Service, SnowOps, Power, Reset, Firmware. -/
namespace Sys2Proof.Machine

/-! ### Corr -/

theorem keeps_corrCommit {s t : State} (h : Keeps s t) : Keeps s (corrCommit t) := by
  unfold corrCommit
  exact keeps_when (fun _ h0 => (keeps_setRecommit h0)) (keeps_wb h)

theorem keeps_corrCapture {s t : State} (h : Keeps s t) : Keeps s (corrCapture t) := by
  unfold corrCapture
  exact keeps_when (fun _ h0 => (keeps_capture h0)) h

theorem keeps_corrMark {s t : State} (h : Keeps s t) : Keeps s (corrMark t) := by
  unfold corrMark
  exact keeps_ite (keeps_setRecommit (keeps_wb h)) h

theorem keeps_safeShow {s t : State} {a1 : Nat} (h : Keeps s t) : Keeps s (safeShow a1 t) := by
  unfold safeShow
  exact keeps_wf h

theorem keeps_unmapSeg {s t : State} {a1 : Nat} (h : Keeps s t) : Keeps s (unmapSeg a1 t) := by
  unfold unmapSeg
  extract_lets -merge -underBinder +onlyGivenNames x0 x1
  (try clear_value x0)
  have k2 : Keeps s x1 := (keeps_modSeg h)
  exact keeps_ite (keeps_segToDefault k2) k2

theorem keeps_tableFailed {s t : State} {a1 : Nat} {a2 : Nat} (h : Keeps s t) : Keeps s (tableFailed a1 a2 t) := by
  unfold tableFailed
  extract_lets -merge -underBinder +onlyGivenNames x0
  have k1 : Keeps s x0 := (keeps_modSeg h)
  exact (keeps_ite k1 (by extract_lets -merge -underBinder +onlyGivenNames x2; have k3 : Keeps s x2 := (keeps_showMode k1); exact (keeps_when (fun _ h4 => (keeps_unmapSeg h4)) k3)))

theorem keeps_applyAccept {s t : State} {a1 : Apply} (h : Keeps s t) : Keeps s (applyAccept a1 t) := by
  unfold applyAccept
  exact keeps_mk h

theorem keeps_captureApplies {s t : State} (h : Keeps s t) : Keeps s (captureApplies t) := by
  unfold captureApplies
  exact keeps_mk h

theorem keeps_reloadSeg {s t : State} {a1 : Nat} (h : Keeps s t) : Keeps s (reloadSeg a1 t) := by
  unfold reloadSeg
  extract_lets -merge -underBinder +onlyGivenNames x0 x1
  (try clear_value x0)
  have k2 : Keeps s x1 := (keeps_showMode (keeps_modSeg h))
  exact keeps_ite (keeps_setSegState (keeps_modSeg k2)) k2

theorem keeps_reloadShow {s t : State} (h : Keeps s t) : Keeps s (reloadShow t) := by
  unfold reloadShow
  split
  exacts [(keeps_wb h), (keeps_wb (keeps_wf h))]

theorem keeps_reloadBegin {s t : State} (h : Keeps s t) : Keeps s (reloadBegin t) := by
  unfold reloadBegin
  split
  exacts [h, (keeps_wr h)]

theorem keeps_applyBegin {s t : State} {a1 : Apply} (h : Keeps s t) : Keeps s (applyBegin a1 t) := by
  unfold applyBegin
  extract_lets -merge -underBinder +onlyGivenNames x0 x1 x4 x5 x6
  (try clear_value x0 x4 x5)
  have k2 : Keeps s x1 := (keeps_forEach (fun _ _ h3 => (keeps_wb (keeps_reloadSeg h3))) h)
  have k7 : Keeps s x6 := (keeps_mk k2)
  exact keeps_reloadShow (keeps_when (fun _ h8 => (keeps_reloadBegin h8)) k7)

theorem keeps_copyTable {s t : State} {a1 : Nat} {a2 : Nat} {a3 : Nat} (h : Keeps s t) : Keeps s (copyTable a1 a2 a3 t) := by
  unfold copyTable
  split
  exacts [(by extract_lets -merge -underBinder +onlyGivenNames x0; have k1 : Keeps s x0 := (keeps_modSeg h); exact (keeps_event (keeps_count k1))), (by extract_lets -merge -underBinder +onlyGivenNames x2 x4 x5; (try clear_value x4); have k3 : Keeps s x2 := (keeps_copyBytes h); have k6 : Keeps s x5 := (keeps_modSeg k3); exact (keeps_when (fun _ h7 => (keeps_unclass (keeps_safeShow h7))) (keeps_count k6)))]

theorem keeps_copySeg {s t : State} {a1 : Apply} {a2 : Nat} (h : Keeps s t) : Keeps s (copySeg a1 a2 t) := by
  unfold copySeg
  extract_lets -merge -underBinder +onlyGivenNames x0
  have k1 : Keeps s x0 := (keeps_when (fun _ h2 => (keeps_copyTable h2)) h)
  exact keeps_when (fun _ h3 => (keeps_copyTable h3)) k1

theorem keeps_copyNext {s t : State} (h : Keeps s t) : Keeps s (copyNext t) := by
  unfold copyNext
  split
  exacts [h, (by extract_lets -merge -underBinder +onlyGivenNames x0; have k1 : Keeps s x0 := (keeps_modSeg (keeps_copySeg h)); exact (keeps_ite (keeps_reloadShow (keeps_mk k1)) (keeps_reloadShow (keeps_reloadBegin (keeps_mk k1)))))]

theorem keeps_execCorrCopyDone {s t : State} (h : execCorrCopyDone s = .next t) : Keeps s t := by
  unfold execCorrCopyDone at h
  exact keeps_done (keeps_copyNext (keeps_refl s)) h

theorem keeps_reloadEnd {s t : State} {a1 : Nat} (h : Keeps s t) : Keeps s (reloadEnd a1 t) := by
  unfold reloadEnd
  exact keeps_ite h (by extract_lets -merge -underBinder +onlyGivenNames x0; have k1 : Keeps s x0 := (keeps_showMode (keeps_modSeg h)); exact (keeps_ite (keeps_unmapSeg k1) k1))

theorem keeps_applyComplete {s t : State} (h : Keeps s t) : Keeps s (applyComplete t) := by
  unfold applyComplete
  exact (keeps_forEach (fun _ _ h0 => (by extract_lets -merge -underBinder +onlyGivenNames x1; (try clear_value x1); exact (keeps_ite h0 (by extract_lets -merge -underBinder +onlyGivenNames x2; (try clear_value x2); exact (keeps_completeOp (keeps_when (fun _ h3 => (keeps_useFree h3)) h0)))))) h)

theorem keeps_saveTable {s t : State} {a1 : Nat} {a2 : Nat} {a3 : Nat} {a4 : Nat} (h : Keeps s t) : Keeps s (saveTable a1 a2 a3 a4 t) := by
  unfold saveTable
  extract_lets -merge -underBinder +onlyGivenNames x0
  (try clear_value x0)
  exact keeps_putLe (keeps_putBytes h)

theorem keeps_saveNext {s t : State} (h : Keeps s t) : Keeps s (saveNext t) := by
  unfold saveNext
  split
  exacts [h, (by extract_lets -merge -underBinder +onlyGivenNames x0 x2; have k1 : Keeps s x0 := (keeps_saveTable (keeps_saveTable h)); have k3 : Keeps s x2 := (keeps_putLe k1); exact (keeps_mk k3)), (by extract_lets -merge -underBinder +onlyGivenNames x4; have k5 : Keeps s x4 := (keeps_saveTable (keeps_saveTable h)); exact (keeps_ite (keeps_mk k5) (keeps_completeOps (keeps_wb (keeps_mk k5)))))]

theorem keeps_scanP0 {s t : State} (h : Keeps s t) : Keeps s (scanP0 t) := by
  unfold scanP0
  extract_lets -merge -underBinder +onlyGivenNames x0
  (try clear_value x0)
  exact (keeps_ite h (by split; exacts [h, (by extract_lets -merge -underBinder +onlyGivenNames x1 x2; (try clear_value x1); have k3 : Keeps s x2 := (keeps_mk h); exact (keeps_ite k3 (by extract_lets -merge -underBinder +onlyGivenNames x4; have k5 : Keeps s x4 := (keeps_scanExtent (keeps_scanExtent k3)); exact (keeps_wb k5))))]))

theorem keeps_scanJudge {s t : State} {a1 : Nat} {a2 : Word} (h : Keeps s t) : Keeps s (scanJudge a1 a2 t) := by
  unfold scanJudge
  extract_lets -merge -underBinder +onlyGivenNames x0 x1 x2 x4 x7
  (try clear_value x0 x1 x7)
  have k3 : Keeps s x2 := (keeps_wf h)
  have k5 : Keeps s x4 := (keeps_when (fun _ h6 => (keeps_wb h6)) k3)
  exact (keeps_ite k5 (by extract_lets -merge -underBinder +onlyGivenNames x8 x10; have k9 : Keeps s x8 := (keeps_event (keeps_count (keeps_wb k5))); have k11 : Keeps s x10 := (keeps_tableFailed k9); exact (keeps_when (fun _ h12 => (keeps_applyAccept h12)) k11)))

theorem keeps_corrP0 {s t : State} (h : Keeps s t) : Keeps s (corrP0 t) := by
  unfold corrP0
  extract_lets -merge -underBinder +onlyGivenNames x0 x3 x5 x6 x7 x9 x12 x14 x15
  (try clear_value x5 x6 x14)
  have k1 : Keeps s x0 := (keeps_forEach (fun _ _ h2 => (keeps_reloadEnd h2)) h)
  have k4 : Keeps s x3 := (keeps_applyComplete k1)
  have k8 : Keeps s x7 := (keeps_mk k4)
  have k10 : Keeps s x9 := (keeps_forEach (fun _ _ h11 => (keeps_applyBegin h11)) k8)
  have k13 : Keeps s x12 := (keeps_wr k10)
  have k16 : Keeps s x15 := (keeps_mk k13)
  exact keeps_scanP0 k16

/-! ### Service -/

theorem keeps_need {s t : State} {a1 : Nat} {a2 : Ctx} {a3 : State → State} (g3 : ∀ t', Keeps s t' → Keeps s (a3 t')) (h : Keeps s t) : Keeps s (need a1 a2 a3 t) := by
  unfold need
  exact keeps_ite (keeps_refuse h) (g3 _ h)

theorem keeps_withBulk {s t : State} {a1 : Ctx} {a2 : Bulk → State → State} (g2 : ∀ b1 t', Keeps s t' → Keeps s (a2 b1 t')) (h : Keeps s t) : Keeps s (withBulk a1 a2 t) := by
  unfold withBulk
  extract_lets -merge -underBinder +onlyGivenNames x0
  (try clear_value x0)
  exact (keeps_need (fun _ h1 => (keeps_ite (keeps_refuse h1) (keeps_ite (keeps_refuse h1) (g2 _ _ h1)))) h)

theorem keeps_withData {s t : State} {a1 : Ctx} {a2 : Bulk → State → State} (g2 : ∀ b1 t', Keeps s t' → Keeps s (a2 b1 t')) (h : Keeps s t) : Keeps s (withData a1 a2 t) := by
  unfold withData
  exact keeps_withBulk (fun _ _ h0 => (keeps_ite (keeps_refuse h0) (g2 _ _ h0))) h

theorem keeps_dropLoad {s t : State} {a1 : Nat} {a2 : Nat} (h : Keeps s t) : Keeps s (dropLoad a1 a2 t) := by
  unfold dropLoad
  exact keeps_mk h

theorem keeps_startLoad {s t : State} {a1 : Load} (h : Keeps s t) : Keeps s (startLoad a1 t) := by
  unfold startLoad
  extract_lets -merge -underBinder +onlyGivenNames x0
  have k1 : Keeps s x0 := (keeps_dropLoad h)
  exact keeps_mk k1

theorem keeps_loadData {s t : State} {a1 : Ctx} {a2 : Nat} {a3 : Bulk} (h : Keeps s t) : Keeps s (loadData a1 a2 a3 t) := by
  unfold loadData
  split
  exacts [(keeps_refuse h), (keeps_ite (keeps_refuse h) (by extract_lets -merge -underBinder +onlyGivenNames x0; (try clear_value x0); exact (keeps_respondTo (keeps_mk h))))]

theorem keeps_loadEnd {s t : State} {a1 : Ctx} {a2 : Nat} {a3 : Bulk} {a4 : Load → List Byte → State → State} (g4 : ∀ b1 b2 t', Keeps s t' → Keeps s (a4 b1 b2 t')) (h : Keeps s t) : Keeps s (loadEnd a1 a2 a3 a4 t) := by
  unfold loadEnd
  split
  exacts [(keeps_refuse h), (by extract_lets -merge -underBinder +onlyGivenNames x0; have k1 : Keeps s x0 := (keeps_dropLoad h); exact (by split; exacts [(keeps_refuse k1), (keeps_ite (g4 _ _ _ k1) (keeps_refuse k1))]))]

theorem keeps_staged {s t : State} {a1 : Ctx} {a2 : Nat} {a3 : Bulk → State → State} {a4 : Load → List Byte → State → State} {a5 : Bulk} (g3 : ∀ b1 t', Keeps s t' → Keeps s (a3 b1 t')) (g4 : ∀ b1 b2 t', Keeps s t' → Keeps s (a4 b1 b2 t')) (h : Keeps s t) : Keeps s (staged a1 a2 a3 a4 a5 t) := by
  unfold staged
  split
  exacts [(g3 _ _ h), (keeps_loadData h), (keeps_loadEnd g4 h)]

/-! ### SnowOps -/

theorem keeps_setOp {s t : State} {a1 : Option SnowOp} (h : Keeps s t) : Keeps s (setOp a1 t) := by
  unfold setOp
  exact keeps_mk h

theorem keeps_modOp {s t : State} {a1 : SnowOp → SnowOp} (h : Keeps s t) : Keeps s (modOp a1 t) := by
  unfold modOp
  exact keeps_mk h

theorem keeps_freshRuns {s t : State} {a1 : Nat} (h : Keeps s t) : Keeps s (freshRuns a1 t) := by
  unfold freshRuns
  exact keeps_forEach (fun _ _ h0 => (keeps_modPolder h0)) h

theorem keeps_firstDefault {s t : State} {a1 : Nat} (h : Keeps s t) : Keeps s (firstDefault a1 t) := by
  unfold firstDefault
  exact keeps_ite h (keeps_putByte h)

theorem keeps_snowCapture {s t : State} (h : Keeps s t) : Keeps s (snowCapture t) := by
  unfold snowCapture
  exact keeps_modOp h

theorem keeps_snowApply {s t : State} (h : Keeps s t) : Keeps s (snowApply t) := by
  unfold snowApply
  split
  exacts [h, (keeps_ite h (by extract_lets -merge -underBinder +onlyGivenNames x0 x6; have k1 : Keeps s x0 := (by unfold x0; split; exacts [(by extract_lets -merge -underBinder +onlyGivenNames x2 x4; have k3 : Keeps s x2 := (keeps_firstDefault h); have k5 : Keeps s x4 := (keeps_putBytes k3); exact (keeps_freshRuns (keeps_dirUpdated (keeps_count k5)))), (keeps_dirUpdated (keeps_putBytes h)), (keeps_dirUpdated (keeps_putByte h)), (keeps_putBytes h), (keeps_dirUpdated (keeps_putBytes h))]); have k7 : Keeps s x6 := (keeps_modOp k1); exact (keeps_holdPolShow (keeps_snowShow (keeps_wb k7)))))]

theorem keeps_mirrorPart {s t : State} {a1 : Nat} {a2 : Nat} {a3 : Nat} (h : Keeps s t) : Keeps s (mirrorPart a1 a2 a3 t) := by
  unfold mirrorPart
  extract_lets -merge -underBinder +onlyGivenNames x0 x1 x2
  (try clear_value x0 x1)
  have k3 : Keeps s x2 := (keeps_putLe (keeps_putLe (keeps_copyBytes h)))
  exact keeps_setNewer (keeps_putLe k3)

theorem keeps_mirrorDone {s t : State} (h : Keeps s t) : Keeps s (mirrorDone t) := by
  unfold mirrorDone
  split
  exacts [h, (keeps_ite h (by extract_lets -merge -underBinder +onlyGivenNames x0 x2 x5; have k1 : Keeps s x0 := (keeps_ite (keeps_mirrorPart h) (keeps_mirrorPart h)); have k3 : Keeps s x2 := (keeps_when (fun _ h4 => (keeps_mirrorPart h4)) k1); have k6 : Keeps s x5 := (keeps_snowShow (keeps_setOp (keeps_wb k3))); exact (by split; exacts [(keeps_completeOps k6), k6])))]

theorem keeps_execMirrorDone {s t : State} (h : execMirrorDone s = .next t) : Keeps s t := by
  unfold execMirrorDone at h
  exact keeps_done (keeps_mirrorDone (keeps_refl s)) h

theorem keeps_snowEcc {s t : State} {a1 : Nat} {a2 : Bool} (h : Keeps s t) : Keeps s (snowEcc a1 a2 t) := by
  unfold snowEcc
  extract_lets -merge -underBinder +onlyGivenNames x0
  have k1 : Keeps s x0 := (keeps_event h)
  exact (keeps_ite (keeps_count k1) (by extract_lets -merge -underBinder +onlyGivenNames x2; have k3 : Keeps s x2 := (keeps_count k1); exact (by split; exacts [k3, (keeps_ite k3 (keeps_snowShow (keeps_mk k3)))])))

theorem keeps_execSnowEccError {s t : State} {a1 : Fin 32768} {a2 : Bool} (h : execSnowEccError a1 a2 s = .next t) : Keeps s t := by
  unfold execSnowEccError at h
  exact keeps_done (keeps_snowEcc (keeps_refl s)) h

theorem keeps_writingEntry {s t : State} (h : Keeps s t) : Keeps s (writingEntry t) := by
  unfold writingEntry
  split
  exacts [(keeps_ite (keeps_dirUpdated (keeps_putBytes h)) h), h]

theorem keeps_restoreSlot {s t : State} {a1 : Nat} {a2 : Nat} (h : Keeps s t) : Keeps s (restoreSlot a1 a2 t) := by
  unfold restoreSlot
  extract_lets -merge -underBinder +onlyGivenNames x0 x1 x2 x3 x4 x5 x6
  (try clear_value x0 x1 x2 x3 x4 x5)
  have k7 : Keeps s x6 := (keeps_ite (keeps_putBytes h) (keeps_copyBytes (keeps_copyBytes h)))
  exact keeps_ite k7 (keeps_dirUpdated k7)

theorem keeps_restoreFrom {s t : State} {a1 : Nat} {a2 : Nat} (h : Keeps s t) : Keeps s (restoreFrom a1 a2 t) := by
  unfold restoreFrom
  split
  exacts [(keeps_writingEntry (keeps_copyBytes h)), (keeps_copyBytes h), (keeps_restoreSlot h)]

theorem keeps_emptyPart {s t : State} {a1 : Nat} (h : Keeps s t) : Keeps s (emptyPart a1 t) := by
  unfold emptyPart
  split
  exacts [(keeps_writingEntry (keeps_dirUpdated (keeps_putBytes h))), (keeps_putBytes h), (keeps_dirUpdated (keeps_putBytes h))]

theorem keeps_writeLost {s t : State} {a1 : Nat} (h : Keeps s t) : Keeps s (writeLost a1 t) := by
  unfold writeLost
  split
  exacts [h, (by extract_lets -merge -underBinder +onlyGivenNames x0; have k1 : Keeps s x0 := (keeps_setOp h); exact (by split; exacts [(keeps_completeOps k1), k1]))]

theorem keeps_snowRestore {s t : State} {a1 : Nat} {a2 : Bool} {a3 : Bool} (h : Keeps s t) : Keeps s (snowRestore a1 a2 a3 t) := by
  unfold snowRestore
  exact (keeps_ite h (by extract_lets -merge -underBinder +onlyGivenNames x0 x1 x3 x4 x6 x9; (try clear_value x0 x3); have k2 : Keeps s x1 := (keeps_countBy h); have k5 : Keeps s x4 := (keeps_mk k2); have k7 : Keeps s x6 := (keeps_when (fun _ h8 => (keeps_writeLost h8)) k5); have k10 : Keeps s x9 := (by unfold x9; split; exacts [(keeps_count (keeps_restoreFrom (keeps_setNewer k7))), (keeps_emptyPart k7)]); exact (keeps_holdPolShow (keeps_snowShow (keeps_event k10)))))

theorem keeps_snowReset {s t : State} {a1 : Option SnowOp} (h : Keeps s t) : Keeps s (snowReset a1 t) := by
  unfold snowReset
  extract_lets -merge -underBinder +onlyGivenNames x0
  have k1 : Keeps s x0 := (by unfold x0; split; exacts [h, (keeps_ite (keeps_restoreFrom (keeps_ite (keeps_restoreFrom h) h)) (keeps_ite h (keeps_restoreFrom h)))])
  exact keeps_snowShow k1

theorem keeps_execSnowRestore {s t : State} {a1 : Fin 6} {a2 : Bool} {a3 : Bool} (h : execSnowRestore a1 a2 a3 s = .next t) : Keeps s t := by
  unfold execSnowRestore at h
  exact keeps_done (keeps_snowRestore (keeps_refl s)) h

theorem keeps_aliveToggle {s t : State} (h : Keeps s t) : Keeps s (aliveToggle t) := by
  unfold aliveToggle
  exact keeps_ite (by extract_lets -merge -underBinder +onlyGivenNames x0; have k1 : Keeps s x0 := (keeps_advanceTo h); exact (keeps_mk k1)) h

theorem keeps_execAliveOutToggle {s t : State} (h : execAliveOutToggle s = .next t) : Keeps s t := by
  unfold execAliveOutToggle at h
  exact keeps_done (keeps_aliveToggle (keeps_refl s)) h

theorem keeps_snowAccept {s t : State} {a1 : Ctx} {a2 : SnowOp} (h : Keeps s t) : Keeps s (snowAccept a1 a2 t) := by
  unfold snowAccept
  extract_lets -merge -underBinder +onlyGivenNames x0 x1
  (try clear_value x0)
  have k2 : Keeps s x1 := (keeps_setOp h)
  exact keeps_snowShow (keeps_acceptOp k2)

theorem keeps_bodySnowGet {s t : State} {a1 : Ctx} (h : Keeps s t) : Keeps s (bodySnowGet a1 t) := by
  unfold bodySnowGet
  exact keeps_respondTo h

theorem keeps_bodySlotBegin {s t : State} {a1 : Ctx} (h : Keeps s t) : Keeps s (bodySlotBegin a1 t) := by
  unfold bodySlotBegin
  extract_lets -merge -underBinder +onlyGivenNames x0 x1
  (try clear_value x0 x1)
  exact (keeps_need (fun _ h2 => (keeps_ite (keeps_refuse h2) (keeps_ite (keeps_refuse h2) (keeps_ite (keeps_refuse h2) (by split; exacts [(by extract_lets -merge -underBinder +onlyGivenNames x3; (try clear_value x3); exact (keeps_noSpace h2)), (by extract_lets -merge -underBinder +onlyGivenNames x4 x5; (try clear_value x4); have k6 : Keeps s x5 := (keeps_setOp (keeps_putBytes h2)); exact (keeps_holdPolShow (keeps_snowShow (keeps_respondTo (keeps_dirUpdated k6)))))]))))) h)

theorem keeps_bodySlotData {s t : State} {a1 : Ctx} (h : Keeps s t) : Keeps s (bodySlotData a1 t) := by
  unfold bodySlotData
  exact (keeps_withData (fun _ _ h0 => (by split; exacts [(keeps_refuse h0), (keeps_ite (keeps_refuse h0) (by extract_lets -merge -underBinder +onlyGivenNames x1 x2 x4; (try clear_value x1 x4); have k3 : Keeps s x2 := (keeps_putBytes h0); exact (keeps_respondTo (keeps_modOp k3))))])) h)

theorem keeps_slotBack {s t : State} {a1 : SnowOp} (h : Keeps s t) : Keeps s (slotBack a1 t) := by
  unfold slotBack
  extract_lets -merge -underBinder +onlyGivenNames x0 x2
  have k1 : Keeps s x0 := (keeps_putBytes h)
  have k3 : Keeps s x2 := (keeps_copyBytes k1)
  exact keeps_holdPolShow (keeps_snowShow (keeps_setOp (keeps_dirUpdated k3)))

theorem keeps_bodySlotEnd {s t : State} {a1 : Ctx} (h : Keeps s t) : Keeps s (bodySlotEnd a1 t) := by
  unfold bodySlotEnd
  split
  exacts [(keeps_refuse h), (by extract_lets -merge -underBinder +onlyGivenNames x0 x1; (try clear_value x0 x1); exact (keeps_ite (keeps_refuse (keeps_slotBack h)) (keeps_ite (keeps_refuse (keeps_slotBack h)) (keeps_snowAccept h))))]

theorem keeps_bodySlotAbort {s t : State} {a1 : Ctx} (h : Keeps s t) : Keeps s (bodySlotAbort a1 t) := by
  unfold bodySlotAbort
  split
  exacts [(keeps_refuse h), (keeps_respondTo (keeps_slotBack h))]

theorem keeps_bodySlotDelete {s t : State} {a1 : Ctx} (h : Keeps s t) : Keeps s (bodySlotDelete a1 t) := by
  unfold bodySlotDelete
  extract_lets -merge -underBinder +onlyGivenNames x0
  (try clear_value x0)
  exact keeps_ite (keeps_refuse h) (keeps_ite (keeps_refuse h) (keeps_ite (keeps_refuse h) (keeps_snowAccept h)))

theorem keeps_bodySetDefault {s t : State} {a1 : Ctx} (h : Keeps s t) : Keeps s (bodySetDefault a1 t) := by
  unfold bodySetDefault
  extract_lets -merge -underBinder +onlyGivenNames x0
  (try clear_value x0)
  exact keeps_ite (keeps_refuse h) (keeps_ite (keeps_refuse h) (keeps_snowAccept h))

theorem keeps_bodyTable {s t : State} {a1 : Nat} {a2 : Nat} {a3 : Ctx} (h : Keeps s t) : Keeps s (bodyTable a1 a2 a3 t) := by
  unfold bodyTable
  exact keeps_need (fun _ h0 => (keeps_ite (keeps_refuse h0) (keeps_snowAccept h0))) h

theorem keeps_bodyGainPut {s t : State} {a1 : Ctx} (h : Keeps s t) : Keeps s (bodyGainPut a1 t) := by
  unfold bodyGainPut
  exact keeps_bodyTable h

theorem keeps_bodyLevelsPut {s t : State} {a1 : Ctx} (h : Keeps s t) : Keeps s (bodyLevelsPut a1 t) := by
  unfold bodyLevelsPut
  exact keeps_bodyTable h

/-! ### Power -/

theorem keeps_modPwr {s t : State} {a1 : Pwr → Pwr} (h : Keeps s t) : Keeps s (modPwr a1 t) := by
  unfold modPwr
  exact keeps_mk h

theorem keeps_pmuState {s t : State} {a1 : Nat} (h : Keeps s t) : Keeps s (pmuState a1 t) := by
  unfold pmuState
  exact keeps_wf h

theorem keeps_pmuStep {s t : State} {a1 : Nat} (h : Keeps s t) : Keeps s (pmuStep a1 t) := by
  unfold pmuStep
  exact keeps_wf h

theorem keeps_holdPads {s t : State} (h : Keeps s t) : Keeps s (holdPads t) := by
  unfold holdPads
  extract_lets -merge -underBinder +onlyGivenNames x0 x1
  (try clear_value x0 x1)
  exact keeps_wb (keeps_mk h)

theorem keeps_releasePads {s t : State} (h : Keeps s t) : Keeps s (releasePads t) := by
  unfold releasePads
  extract_lets -merge -underBinder +onlyGivenNames x0 x1
  (try clear_value x0)
  have k2 : Keeps s x1 := (keeps_wb (keeps_mk h))
  exact keeps_when (fun _ h3 => (keeps_softStart h3)) k2

theorem keeps_enterComplete {s t : State} {a1 : Nat} {a2 : List Byte} (h : Keeps s t) : Keeps s (enterComplete a1 a2 t) := by
  unfold enterComplete
  exact keeps_completeOps h

theorem keeps_powerEvent {s t : State} {a1 : Nat} {a2 : Nat} {a3 : Nat} (h : Keeps s t) : Keeps s (powerEvent a1 a2 a3 t) := by
  unfold powerEvent
  exact keeps_event h

theorem keeps_sleepCmd {s t : State} {a1 : Nat} {a2 : Nat} (h : Keeps s t) : Keeps s (sleepCmd a1 a2 t) := by
  unfold sleepCmd
  exact keeps_ite (keeps_modLink h) (keeps_ite (keeps_upSleep h) (keeps_upWake h))

theorem keeps_linkSleep {s t : State} {a1 : Nat} (h : Keeps s t) : Keeps s (linkSleep a1 t) := by
  unfold linkSleep
  exact keeps_ite (keeps_sleepCmd h) h

theorem keeps_linkWake {s t : State} {a1 : Nat} (h : Keeps s t) : Keeps s (linkWake a1 t) := by
  unfold linkWake
  exact keeps_ite (keeps_modLink h) (keeps_ite (keeps_sleepCmd h) h)

theorem keeps_stopPipeline {s t : State} (h : Keeps s t) : Keeps s (stopPipeline t) := by
  unfold stopPipeline
  exact keeps_ite (keeps_modPwr h) (keeps_modPwr h)

theorem keeps_stopLinks {s t : State} {a1 : Nat} (h : Keeps s t) : Keeps s (stopLinks a1 t) := by
  unfold stopLinks
  exact (keeps_ite (keeps_forEach (fun _ _ h0 => (keeps_linkSleep h0)) h) (by extract_lets -merge -underBinder +onlyGivenNames x1 x2; (try clear_value x1); have k3 : Keeps s x2 := (keeps_modPwr h); exact (keeps_supEnable (keeps_forEach (fun _ _ h4 => (keeps_linkEn h4)) k3))))

theorem keeps_stopLanes {s t : State} {a1 : Nat} (h : Keeps s t) : Keeps s (stopLanes a1 t) := by
  unfold stopLanes
  exact (keeps_ite (keeps_forEach (fun _ _ h0 => (keeps_eidleRequest h0)) h) (by extract_lets -merge -underBinder +onlyGivenNames x1; have k2 : Keeps s x1 := (keeps_forEach (fun _ _ h3 => (keeps_grpOff h3)) h); exact (keeps_mk k2)))

theorem keeps_undoStep {s t : State} {a1 : Nat} {a2 : Nat} (h : Keeps s t) : Keeps s (undoStep a1 a2 t) := by
  unfold undoStep
  split
  exacts [(keeps_when (fun _ h0 => (keeps_wb (keeps_mk h0))) h), (by extract_lets -merge -underBinder +onlyGivenNames x1 x2; (try clear_value x1); have k3 : Keeps s x2 := (keeps_wb (keeps_mk h)); exact (keeps_when (fun _ h4 => (keeps_timingToAll (keeps_armRaster h4))) k3)), (keeps_modPwr h), (keeps_ite (keeps_forEach (fun _ _ h5 => (keeps_eidleRequest h5)) h) (keeps_canStbShow (keeps_forEach (fun _ _ h6 => (keeps_newSeries h6)) h))), (keeps_ite (keeps_forEach (fun _ _ h7 => (keeps_linkWake h7)) h) (by extract_lets -merge -underBinder +onlyGivenNames x8; have k9 : Keeps s x8 := (keeps_forEach (fun _ _ h10 => (keeps_linkEn h10)) h); exact (keeps_supEnable k9))), h]

theorem keeps_undoFrom {s t : State} {target k : Nat} (h : Keeps s t) : Keeps s (undoFrom target k t) := by
  induction k generalizing t with
  | zero => exact h
  | succ k ih => exact ih (keeps_undoStep h)

theorem keeps_restartEnd {s t : State} (h : Keeps s t) : Keeps s (restartEnd t) := by
  unfold restartEnd
  extract_lets -merge -underBinder +onlyGivenNames x0 x1 x2 x3 x8
  (try clear_value x0 x1 x2)
  have k4 : Keeps s x3 := (keeps_when (fun _ h5 => (keeps_forEach (fun _ _ h6 => (keeps_eidleRequest h6)) (keeps_forEach (fun _ _ h7 => (keeps_linkSleep h7)) h5))) h)
  have k9 : Keeps s x8 := (keeps_modPwr k4)
  exact keeps_enterComplete (keeps_pmuStep (keeps_pmuState k9))

theorem keeps_enterRefuse {s t : State} {a1 : Nat} {a2 : Nat} {a3 : Nat} {a4 : Nat} (h : Keeps s t) : Keeps s (enterRefuse a1 a2 a3 a4 t) := by
  unfold enterRefuse
  extract_lets -merge -underBinder +onlyGivenNames x0 x1 x3 x4 x6
  (try clear_value x0 x3)
  have k2 : Keeps s x1 := (keeps_count (keeps_wr h))
  have k5 : Keeps s x4 := (keeps_undoFrom k2)
  have k7 : Keeps s x6 := (keeps_modPwr (keeps_pmuState k5))
  exact keeps_ite (keeps_restartEnd k7) k7

theorem keeps_aonStart {s t : State} (h : Keeps s t) : Keeps s (aonStart t) := by
  unfold aonStart
  exact keeps_ite h (keeps_modPwr (keeps_mk h))

theorem keeps_aonLoad {s t : State} (h : Keeps s t) : Keeps s (aonLoad t) := by
  unfold aonLoad
  exact keeps_modPwr (keeps_mk h)

theorem keeps_idleReached {s t : State} (h : Keeps s t) : Keeps s (idleReached t) := by
  unfold idleReached
  extract_lets -merge -underBinder +onlyGivenNames x0
  have k1 : Keeps s x0 := (keeps_modPwr h)
  exact (keeps_enterComplete (keeps_powerEvent (keeps_count (keeps_pmuStep (keeps_pmuState k1)))))

theorem keeps_startThaw {s t : State} {a1 : Nat} (h : Keeps s t) : Keeps s (startThaw a1 t) := by
  unfold startThaw
  extract_lets -merge -underBinder +onlyGivenNames x0 x1 x3
  (try clear_value x0)
  have k2 : Keeps s x1 := (keeps_wb (keeps_wr (keeps_wf h)))
  have k4 : Keeps s x3 := (keeps_modPwr k2)
  exact keeps_pmuStep (keeps_pmuState (keeps_count k4))

theorem keeps_asleep {s t : State} (h : Keeps s t) : Keeps s (asleep t) := by
  unfold asleep
  extract_lets -merge -underBinder +onlyGivenNames x0 x1 x2 x4
  (try clear_value x0 x1)
  have k3 : Keeps s x2 := (keeps_modPwr h)
  have k5 : Keeps s x4 := (keeps_aonStart (keeps_powerEvent (keeps_count (keeps_pmuStep k3))))
  exact by split; exacts [(keeps_startThaw k5), k5]

theorem keeps_beginStep {s t : State} {a1 : Nat} (h : Keeps s t) : Keeps s (beginStep a1 t) := by
  unfold beginStep
  extract_lets -merge -underBinder +onlyGivenNames x0 x1
  (try clear_value x0)
  have k2 : Keeps s x1 := (keeps_pmuStep (keeps_modPwr h))
  exact (by split; exacts [(keeps_ite (keeps_enterRefuse k2) k2), (keeps_stopPipeline k2), (by extract_lets -merge -underBinder +onlyGivenNames x3; have k4 : Keeps s x3 := (keeps_when (fun _ h5 => (keeps_modPwr h5)) k2); exact (by split; exacts [(keeps_enterRefuse k4), (keeps_stopLinks k4)])), (keeps_ite (keeps_enterRefuse k2) (keeps_stopLanes k2)), (keeps_modPwr k2), (by extract_lets -merge -underBinder +onlyGivenNames x6; have k7 : Keeps s x6 := (keeps_stopRaster k2); exact (keeps_when (fun _ h8 => (keeps_holdPads h8)) k7)), (keeps_ite (keeps_enterRefuse k2) (keeps_holdPads k2))])

theorem keeps_stepDone {s t : State} (h : Keeps s t) : Keeps s (stepDone t) := by
  unfold stepDone
  extract_lets -merge -underBinder +onlyGivenNames x0 x1
  (try clear_value x0 x1)
  exact keeps_ite h (keeps_ite (keeps_idleReached h) (keeps_ite (keeps_asleep h) (keeps_beginStep h)))

theorem keeps_execStopStepDone {s t : State} (h : execStopStepDone s = .next t) : Keeps s t := by
  unfold execStopStepDone at h
  exact keeps_done (keeps_stepDone (keeps_refl s)) h

theorem keeps_stepTimeout {s t : State} (h : Keeps s t) : Keeps s (stepTimeout t) := by
  unfold stepTimeout
  extract_lets -merge -underBinder +onlyGivenNames x0
  (try clear_value x0)
  exact keeps_ite h (keeps_enterRefuse h)

theorem keeps_execStopStepTimeout {s t : State} (h : execStopStepTimeout s = .next t) : Keeps s t := by
  unfold execStopStepTimeout at h
  exact keeps_done (keeps_stepTimeout (keeps_refl s)) h

theorem keeps_eiosUnanswered {s t : State} {a1 : Nat} (h : Keeps s t) : Keeps s (eiosUnanswered a1 t) := by
  unfold eiosUnanswered
  extract_lets -merge -underBinder +onlyGivenNames x0 x1
  (try clear_value x0)
  have k2 : Keeps s x1 := (keeps_eiosTimeout h)
  exact keeps_ite (keeps_enterRefuse k2) k2

theorem keeps_execEiosAnswerTimeout {s t : State} {a1 : Fin 24} (h : execEiosAnswerTimeout a1 s = .next t) : Keeps s t := by
  unfold execEiosAnswerTimeout at h
  exact keeps_done (keeps_eiosUnanswered (keeps_refl s)) h

theorem keeps_leaveIdle {s t : State} (h : Keeps s t) : Keeps s (leaveIdle t) := by
  unfold leaveIdle
  extract_lets -merge -underBinder +onlyGivenNames x0
  have k1 : Keeps s x0 := (keeps_modPwr h)
  exact keeps_forEach (fun _ _ h2 => (keeps_linkWake h2)) (keeps_forEach (fun _ _ h3 => (keeps_eidleRequest h3)) k1)

theorem keeps_bodyPwrEnter {s t : State} {a1 : Ctx} (h : Keeps s t) : Keeps s (bodyPwrEnter a1 t) := by
  unfold bodyPwrEnter
  exact (keeps_need (fun _ h0 => (by extract_lets -merge -underBinder +onlyGivenNames x1 x2; (try clear_value x1 x2); exact (keeps_ite (keeps_refuse h0) (keeps_ite (keeps_refuse h0) (keeps_ite (keeps_refuse h0) (keeps_ite (keeps_refuse h0) (by extract_lets -merge -underBinder +onlyGivenNames x3; have k4 : Keeps s x3 := (keeps_acceptOp h0); exact (keeps_ite (keeps_leaveIdle k4) (by extract_lets -merge -underBinder +onlyGivenNames x5 x7 x9 x11; have k6 : Keeps s x5 := (keeps_wf k4); have k8 : Keeps s x7 := (keeps_ite (keeps_wb (keeps_wr (keeps_wr k6))) k6); have k10 : Keeps s x9 := (keeps_modPwr (keeps_pmuState k8)); have k12 : Keeps s x11 := (keeps_beginStep k10); exact (keeps_ite (keeps_beginStep k12) k12)))))))))) h)

theorem keeps_bodyPwrPadRelease {s t : State} {a1 : Ctx} (h : Keeps s t) : Keeps s (bodyPwrPadRelease a1 t) := by
  unfold bodyPwrPadRelease
  exact keeps_ite (keeps_refuse h) (keeps_refuse (keeps_releasePads h))

theorem keeps_powerBlank {s t : State} (h : Keeps s t) : Keeps s (powerBlank t) := by
  unfold powerBlank
  exact (keeps_ite (by extract_lets -merge -underBinder +onlyGivenNames x0; have k1 : Keeps s x0 := (keeps_forEach (fun _ _ h2 => (keeps_ite (keeps_modLink h2) h2)) h); exact (keeps_modPwr k1)) (keeps_ite (keeps_modPwr h) h))

theorem keeps_runResumed {s t : State} (h : Keeps s t) : Keeps s (runResumed t) := by
  unfold runResumed
  extract_lets -merge -underBinder +onlyGivenNames x0
  have k1 : Keeps s x0 := (keeps_modPwr h)
  exact keeps_enterComplete (keeps_powerEvent (keeps_pmuState k1))

theorem keeps_powerP0 {s t : State} (h : Keeps s t) : Keeps s (powerP0 t) := by
  unfold powerP0
  exact keeps_ite (keeps_modPwr h) (keeps_ite (keeps_runResumed h) (keeps_ite (keeps_restartEnd h) h))

theorem keeps_thawBegin {s t : State} {a1 : Nat} (h : Keeps s t) : Keeps s (thawBegin a1 t) := by
  unfold thawBegin
  split
  exacts [(by extract_lets -merge -underBinder +onlyGivenNames x0 x1 x4; (try clear_value x0); have k2 : Keeps s x1 := (keeps_forEach (fun _ _ h3 => (keeps_linkEn (keeps_modLink h3))) h); have k5 : Keeps s x4 := (keeps_forEach (fun _ _ h6 => (keeps_newSeries h6)) k2); exact (keeps_wb k5)), (by extract_lets -merge -underBinder +onlyGivenNames x7 x9; have k8 : Keeps s x7 := (keeps_aonLoad h); have k10 : Keeps s x9 := (keeps_when (fun _ h11 => (keeps_setServo h11)) k8); exact (keeps_wb k10)), h]

theorem keeps_thawFinish {s t : State} {a1 : Nat} (h : Keeps s t) : Keeps s (thawFinish a1 t) := by
  unfold thawFinish
  split
  exacts [(keeps_modPwr h), h]

theorem keeps_thawEnd {s t : State} (h : Keeps s t) : Keeps s (thawEnd t) := by
  unfold thawEnd
  extract_lets -merge -underBinder +onlyGivenNames x0 x1 x2 x3 x5 x7 x9
  (try clear_value x0 x1 x2)
  have k4 : Keeps s x3 := (keeps_wr h)
  have k6 : Keeps s x5 := (keeps_modPwr k4)
  have k8 : Keeps s x7 := (keeps_timingToAll (keeps_armRaster (keeps_wb k6)))
  have k10 : Keeps s x9 := (keeps_canStbShow (keeps_forEach (fun _ _ h11 => (keeps_ttStepped h11)) (keeps_tactPassed k8)))
  exact keeps_enterComplete (keeps_powerEvent (keeps_pmuStep (keeps_pmuState k10)))

theorem keeps_thawStep {s t : State} (h : Keeps s t) : Keeps s (thawStep t) := by
  unfold thawStep
  extract_lets -merge -underBinder +onlyGivenNames x0
  (try clear_value x0)
  exact (keeps_ite h (by extract_lets -merge -underBinder +onlyGivenNames x1 x3; have k2 : Keeps s x1 := (keeps_advanceTo h); have k4 : Keeps s x3 := (keeps_thawFinish k2); exact (keeps_ite (keeps_thawEnd k4) (by extract_lets -merge -underBinder +onlyGivenNames x5; (try clear_value x5); exact (keeps_thawBegin (keeps_pmuStep (keeps_modPwr k4)))))))

theorem keeps_execThawStepEnd {s t : State} (h : execThawStepEnd s = .next t) : Keeps s t := by
  unfold execThawStepEnd at h
  exact keeps_done (keeps_thawStep (keeps_refl s)) h

theorem keeps_wakeBy {s t : State} {a1 : Nat} (h : Keeps s t) : Keeps s (wakeBy a1 t) := by
  unfold wakeBy
  extract_lets -merge -underBinder +onlyGivenNames x0 x1
  (try clear_value x0 x1)
  exact (keeps_ite h (keeps_ite (keeps_modPwr h) (keeps_ite h (keeps_ite (keeps_startThaw h) (keeps_ite (keeps_wf h) h)))))

theorem keeps_timerWake {s t : State} (h : Keeps s t) : Keeps s (timerWake t) := by
  unfold timerWake
  exact keeps_ite (by extract_lets -merge -underBinder +onlyGivenNames x0; (try clear_value x0); exact (keeps_wakeBy (keeps_advanceTo h))) h

theorem keeps_execAonTimerWake {s t : State} (h : execAonTimerWake s = .next t) : Keeps s t := by
  unfold execAonTimerWake at h
  exact keeps_done (keeps_timerWake (keeps_refl s)) h

theorem keeps_execTempWake {s t : State} (h : execTempWake s = .next t) : Keeps s t := by
  unfold execTempWake at h
  exact keeps_done (keeps_wakeBy (keeps_wb (keeps_refl s))) h

/-! ### Reset -/

theorem keeps_strapsApply {s t : State} (h : Keeps s t) : Keeps s (strapsApply t) := by
  unfold strapsApply
  extract_lets -merge -underBinder +onlyGivenNames x0
  have k1 : Keeps s x0 := (keeps_when (fun _ h2 => (keeps_wb h2)) h)
  exact (keeps_when (fun _ h3 => (keeps_forEach (fun _ _ h4 => (keeps_wf h4)) h3)) k1)

theorem keeps_resetNow {s t : State} {a1 : Bool} {a2 : Nat} (h : Keeps s t) : Keeps s (resetNow a1 a2 t) := by
  unfold resetNow
  extract_lets -merge -underBinder +onlyGivenNames x0 x1 x4 x6
  (try clear_value x0)
  have k2 : Keeps s x1 := (keeps_when (fun _ h3 => (keeps_aonLoad h3)) (keeps_strapsApply (keeps_blank h)))
  have k5 : Keeps s x4 := (keeps_wr k2)
  have k7 : Keeps s x6 := (keeps_ite (keeps_count k5) (keeps_when (fun _ h8 => (keeps_count h8)) k5))
  exact keeps_when (fun _ h9 => (keeps_snowReset (keeps_servoShow h9))) k7

theorem keeps_resetReq {s t : State} {a1 : Bool} {a2 : Nat} (h : Keeps s t) : Keeps s (resetReq a1 a2 t) := by
  unfold resetReq
  exact keeps_ite h (keeps_ite (keeps_modPwr h) (keeps_resetNow h))

theorem keeps_switchOff {s t : State} (h : Keeps s t) : Keeps s (switchOff t) := by
  unfold switchOff
  exact keeps_modPwr (keeps_blank (keeps_aonStart h))

theorem keeps_porEdge {s t : State} {a1 : Bool} {a2 : Nat} (h : Keeps s t) : Keeps s (porEdge a1 a2 t) := by
  unfold porEdge
  exact (keeps_ite (keeps_ite h (by extract_lets -merge -underBinder +onlyGivenNames x0 x1 x3 x5 x6; (try clear_value x0 x5); have k2 : Keeps s x1 := (keeps_wr (keeps_modPwr h)); have k4 : Keeps s x3 := (keeps_wb (keeps_resetNow k2)); have k7 : Keeps s x6 := (keeps_mk k4); exact (keeps_modPwr k7))) (by extract_lets -merge -underBinder +onlyGivenNames x8; have k9 : Keeps s x8 := (keeps_wb (keeps_switchOff h)); exact (keeps_modPwr k9)))

theorem keeps_execPor {s t : State} {a1 : Bool} {a2 : Fin 8} (h : execPor a1 a2 s = .next t) : Keeps s t := by
  unfold execPor at h
  exact keeps_done (keeps_porEdge (keeps_refl s)) h

theorem keeps_resetPin {s t : State} {a1 : Bool} (h : Keeps s t) : Keeps s (resetPin a1 t) := by
  unfold resetPin
  extract_lets -merge -underBinder +onlyGivenNames x0
  have k1 : Keeps s x0 := (keeps_modPwr h)
  exact (keeps_ite k1 (keeps_ite (keeps_ite (keeps_resetReq k1) (keeps_aonStart (keeps_modPwr (keeps_resetNow k1)))) (keeps_when (fun _ h2 => (keeps_modPwr (keeps_aonLoad h2))) k1)))

theorem keeps_execResetN {s t : State} {a1 : Bool} (h : execResetN a1 s = .next t) : Keeps s t := by
  unfold execResetN at h
  exact keeps_done (keeps_resetPin (keeps_refl s)) h

theorem keeps_execWatchdog {s t : State} (h : execWatchdog s = .next t) : Keeps s t := by
  unfold execWatchdog at h
  exact keeps_done (keeps_resetReq (keeps_refl s)) h

theorem keeps_execLockstep {s t : State} (h : execLockstep s = .next t) : Keeps s t := by
  unfold execLockstep at h
  exact keeps_done (keeps_resetReq (keeps_event (keeps_refl s))) h

theorem keeps_execClockFail {s t : State} (h : execClockFail s = .next t) : Keeps s t := by
  unfold execClockFail at h
  exact keeps_done (keeps_resetReq (keeps_event (keeps_refl s))) h

theorem keeps_aonLoss {s t : State} (h : Keeps s t) : Keeps s (aonLoss t) := by
  unfold aonLoss
  exact keeps_modPwr (keeps_of (keeps_switchOff h) (sWf_filter _) id id id rfl)

theorem keeps_execAonLoss {s t : State} (h : execAonLoss s = .next t) : Keeps s t := by
  unfold execAonLoss at h
  exact keeps_done (keeps_aonLoss (keeps_refl s)) h

theorem keeps_vinUnder {s t : State} {a1 : Nat} (h : Keeps s t) : Keeps s (vinUnder a1 t) := by
  unfold vinUnder
  extract_lets -merge -underBinder +onlyGivenNames x0 x2 x3
  (try clear_value x2)
  have k1 : Keeps s x0 := (keeps_wb (keeps_event h))
  have k4 : Keeps s x3 := (keeps_mk k1)
  exact keeps_forEach (fun _ _ h5 => (keeps_ite (keeps_segToDefault h5) h5)) k4

theorem keeps_execVinUndervoltage {s t : State} {a1 : BitVec 16} (h : execVinUndervoltage a1 s = .next t) : Keeps s t := by
  unfold execVinUndervoltage at h
  exact keeps_done (keeps_vinUnder (keeps_refl s)) h

theorem keeps_vinUnderEnd {s t : State} (h : Keeps s t) : Keeps s (vinUnderEnd t) := by
  unfold vinUnderEnd
  extract_lets -merge -underBinder +onlyGivenNames x0
  have k1 : Keeps s x0 := (keeps_wb h)
  exact keeps_mk k1

theorem keeps_execVinUndervoltageEnd {s t : State} (h : execVinUndervoltageEnd s = .next t) : Keeps s t := by
  unfold execVinUndervoltageEnd at h
  exact keeps_done (keeps_vinUnderEnd (keeps_refl s)) h

theorem keeps_vinOver {s t : State} {a1 : Bool} {a2 : Nat} (h : Keeps s t) : Keeps s (vinOver a1 a2 t) := by
  unfold vinOver
  extract_lets -merge -underBinder +onlyGivenNames x0
  have k1 : Keeps s x0 := (keeps_when (fun _ h2 => (keeps_event h2)) h)
  exact keeps_mk k1

theorem keeps_execVinOvervoltage {s t : State} {a1 : Bool} {a2 : BitVec 16} (h : execVinOvervoltage a1 a2 s = .next t) : Keeps s t := by
  unfold execVinOvervoltage at h
  exact keeps_done (keeps_vinOver (keeps_refl s)) h

theorem keeps_wakeBall {s t : State} {a1 : Bool} (h : Keeps s t) : Keeps s (wakeBall a1 t) := by
  unfold wakeBall
  extract_lets -merge -underBinder +onlyGivenNames x0
  have k1 : Keeps s x0 := (keeps_when (fun _ h2 => (keeps_wb h2)) h)
  exact (keeps_ite (keeps_ite k1 (by extract_lets -merge -underBinder +onlyGivenNames x3; have k4 : Keeps s x3 := (keeps_wb (keeps_resetNow k1)); exact (keeps_modPwr k4))) (keeps_wakeBy k1))

theorem keeps_execWake {s t : State} {a1 : Bool} (h : execWake a1 s = .next t) : Keeps s t := by
  unfold execWake at h
  exact keeps_done (keeps_wakeBall (keeps_refl s)) h

theorem keeps_prewarn {s t : State} (h : Keeps s t) : Keeps s (prewarn t) := by
  unfold prewarn
  exact (keeps_ite (keeps_wb h) (by extract_lets -merge -underBinder +onlyGivenNames x0 x2 x3 x5 x6 x8 x10; (try clear_value x2 x5); have k1 : Keeps s x0 := (keeps_wb h); have k4 : Keeps s x3 := (keeps_event k1); have k7 : Keeps s x6 := (keeps_mk k4); have k9 : Keeps s x8 := (by unfold x8; split; exacts [(keeps_calAbort k7), k7]); have k11 : Keeps s x10 := (keeps_modPwr k9); exact (keeps_forEach (fun _ _ h12 => (keeps_linkEn h12)) k11)))

theorem keeps_execPrewarnTrip {s t : State} (h : execPrewarnTrip s = .next t) : Keeps s t := by
  unfold execPrewarnTrip at h
  exact keeps_done (keeps_prewarn (keeps_refl s)) h

theorem keeps_stopFinish {s t : State} (h : Keeps s t) : Keeps s (stopFinish t) := by
  unfold stopFinish
  exact (keeps_ite (by extract_lets -merge -underBinder +onlyGivenNames x0 x3 x4 x6 x8; (try clear_value x3); have k1 : Keeps s x0 := (keeps_forEach (fun _ _ h2 => (keeps_grpOff h2)) h); have k5 : Keeps s x4 := (keeps_mk k1); have k7 : Keeps s x6 := (keeps_stopRaster k5); have k9 : Keeps s x8 := (keeps_modPwr k7); exact (keeps_pmuState (keeps_wb k9))) h)

theorem keeps_prewarnEnd {s t : State} (h : Keeps s t) : Keeps s (prewarnEnd t) := by
  unfold prewarnEnd
  extract_lets -merge -underBinder +onlyGivenNames x0
  have k1 : Keeps s x0 := (keeps_wb h)
  exact by split; exacts [(by extract_lets -merge -underBinder +onlyGivenNames x2; have k3 : Keeps s x2 := (keeps_resetNow k1); exact (keeps_modPwr k3)), k1]

theorem keeps_execPrewarnRelease {s t : State} (h : execPrewarnRelease s = .next t) : Keeps s t := by
  unfold execPrewarnRelease at h
  exact keeps_done (keeps_prewarnEnd (keeps_refl s)) h

theorem keeps_shutdown {s t : State} (h : Keeps s t) : Keeps s (shutdown t) := by
  unfold shutdown
  extract_lets -merge -underBinder +onlyGivenNames x0
  have k1 : Keeps s x0 := (keeps_event h)
  exact keeps_modPwr (keeps_blank (keeps_aonStart k1))

theorem keeps_execShutdown {s t : State} (h : execShutdown s = .next t) : Keeps s t := by
  unfold execShutdown at h
  exact keeps_done (keeps_shutdown (keeps_refl s)) h

theorem keeps_vioLoss {s t : State} {a1 : Nat} (h : Keeps s t) : Keeps s (vioLoss a1 t) := by
  unfold vioLoss
  extract_lets -merge -underBinder +onlyGivenNames x0 x1 x2
  (try clear_value x0 x1)
  have k3 : Keeps s x2 := (keeps_mk h)
  exact keeps_count (keeps_wb k3)

theorem keeps_execVioLoss {s t : State} {a1 : Fin 2} (h : execVioLoss a1 s = .next t) : Keeps s t := by
  unfold execVioLoss at h
  exact keeps_done (keeps_vioLoss (keeps_refl s)) h

theorem keeps_vioReturn {s t : State} {a1 : Nat} {a2 : Bool} (h : Keeps s t) : Keeps s (vioReturn a1 a2 t) := by
  unfold vioReturn
  extract_lets -merge -underBinder +onlyGivenNames x0 x1 x2
  (try clear_value x0 x1)
  have k3 : Keeps s x2 := (keeps_mk h)
  exact keeps_wb (keeps_wb k3)

theorem keeps_execVioReturn {s t : State} {a1 : Fin 2} {a2 : Bool} (h : execVioReturn a1 a2 s = .next t) : Keeps s t := by
  unfold execVioReturn at h
  exact keeps_done (keeps_vioReturn (keeps_refl s)) h

theorem keeps_execXtalOk {s t : State} (h : execXtalOk s = .next t) : Keeps s t := by
  unfold execXtalOk at h
  exact keeps_done (keeps_wb (keeps_refl s)) h

theorem keeps_afterBy {s t : State} {a1 : Nat} (h : Keeps s t) : Keeps s (afterBy a1 t) := by
  unfold afterBy
  split
  exacts [(keeps_ite (by extract_lets -merge -underBinder +onlyGivenNames x0; have k1 : Keeps s x0 := (keeps_modPwr (keeps_advanceTo h)); exact (keeps_ite (keeps_switchOff k1) (keeps_resetReq k1))) h), h]

theorem keeps_afterDue {s t : State} (h : Keeps s t) : Keeps s (afterDue t) := by
  unfold afterDue
  exact keeps_afterBy h

/-! ### Firmware -/

theorem keeps_setFwRec {s t : State} {a1 : Nat} {a2 : FwRec} (h : Keeps s t) : Keeps s (setFwRec a1 a2 t) := by
  unfold setFwRec
  exact keeps_mk h

theorem keeps_setUpdate {s t : State} {a1 : Nat} (h : Keeps s t) : Keeps s (setUpdate a1 t) := by
  unfold setUpdate
  exact keeps_ite h (keeps_event (keeps_wb (keeps_wf h)))

theorem keeps_fwAbandon {s t : State} (h : Keeps s t) : Keeps s (fwAbandon t) := by
  unfold fwAbandon
  extract_lets -merge -underBinder +onlyGivenNames x0
  have k1 : Keeps s x0 := (keeps_completeOps h)
  exact keeps_setUpdate (keeps_mk k1)

theorem keeps_bodyFwBegin {s t : State} {a1 : Ctx} (h : Keeps s t) : Keeps s (bodyFwBegin a1 t) := by
  unfold bodyFwBegin
  exact (keeps_need (fun _ h0 => (by extract_lets -merge -underBinder +onlyGivenNames x1; (try clear_value x1); exact (keeps_ite (keeps_refuse h0) (keeps_ite (keeps_refuse h0) (keeps_ite (keeps_refuse h0) (by extract_lets -merge -underBinder +onlyGivenNames x2; have k3 : Keeps s x2 := (keeps_setFwRec h0); exact (keeps_refuse (keeps_setUpdate (keeps_mk k3))))))))) h)

theorem keeps_bodyFwData {s t : State} {a1 : Ctx} (h : Keeps s t) : Keeps s (bodyFwData a1 t) := by
  unfold bodyFwData
  exact (keeps_withData (fun _ _ h0 => (keeps_ite (keeps_refuse h0) (keeps_ite (keeps_refuse h0) (keeps_refuse (keeps_setUpdate (keeps_putBytes h0)))))) h)

theorem keeps_bodyFwVerify {s t : State} {a1 : Ctx} (h : Keeps s t) : Keeps s (bodyFwVerify a1 t) := by
  unfold bodyFwVerify
  exact keeps_ite (keeps_refuse h) (keeps_setUpdate (keeps_acceptOp h))

theorem keeps_verifyDone {s t : State} {a1 : Bool} (h : Keeps s t) : Keeps s (verifyDone a1 t) := by
  unfold verifyDone
  exact keeps_ite h (keeps_completeOps (keeps_setUpdate h))

theorem keeps_execFwVerifyDone {s t : State} {a1 : Bool} (h : execFwVerifyDone a1 s = .next t) : Keeps s t := by
  unfold execFwVerifyDone at h
  exact keeps_done (keeps_verifyDone (keeps_refl s)) h

theorem keeps_handover {s t : State} (h : Keeps s t) : Keeps s (handover t) := by
  unfold handover
  extract_lets -merge -underBinder +onlyGivenNames x0 x1 x2
  (try clear_value x0 x1)
  have k3 : Keeps s x2 := (keeps_wr (keeps_wr (keeps_wf h)))
  exact keeps_setUpdate (keeps_wb k3)

theorem keeps_bodyFwCommit {s t : State} {a1 : Ctx} (h : Keeps s t) : Keeps s (bodyFwCommit a1 t) := by
  unfold bodyFwCommit
  exact keeps_ite (keeps_refuse h) (by extract_lets -merge -underBinder +onlyGivenNames x0 x2 x4; have k1 : Keeps s x0 := (keeps_acceptOp h); have k3 : Keeps s x2 := (keeps_setFwRec k1); have k5 : Keeps s x4 := (keeps_setUpdate k3); exact (keeps_mk k5))

theorem keeps_handoverP0 {s t : State} (h : Keeps s t) : Keeps s (handoverP0 t) := by
  unfold handoverP0
  split
  exacts [h, (keeps_handover (keeps_mk h)), (keeps_mk h)]

theorem keeps_fwResume {s t : State} (h : Keeps s t) : Keeps s (fwResume t) := by
  unfold fwResume
  exact (keeps_ite h (by extract_lets -merge -underBinder +onlyGivenNames x0; have k1 : Keeps s x0 := (keeps_completeOps (keeps_wb h)); exact (keeps_forEach (fun _ _ h2 => (keeps_mbRefill (keeps_releaseHeld h2))) k1)))

theorem keeps_execFwResume {s t : State} (h : execFwResume s = .next t) : Keeps s t := by
  unfold execFwResume at h
  exact keeps_done (keeps_fwResume (keeps_refl s)) h

theorem keeps_fwConfirm {s t : State} (h : Keeps s t) : Keeps s (fwConfirm t) := by
  unfold fwConfirm
  exact keeps_ite h (by extract_lets -merge -underBinder +onlyGivenNames x0 x1 x2; (try clear_value x0 x1); have k3 : Keeps s x2 := (keeps_setFwRec h); exact (keeps_setUpdate (keeps_mk k3)))

theorem keeps_execFwConfirm {s t : State} (h : execFwConfirm s = .next t) : Keeps s t := by
  unfold execFwConfirm at h
  exact keeps_done (keeps_fwConfirm (keeps_refl s)) h

theorem keeps_fwTimeout {s t : State} (h : Keeps s t) : Keeps s (fwTimeout t) := by
  unfold fwTimeout
  exact keeps_ite (keeps_fwAbandon h) h

theorem keeps_execFwUpdateTimeout {s t : State} (h : execFwUpdateTimeout s = .next t) : Keeps s t := by
  unfold execFwUpdateTimeout at h
  exact keeps_done (keeps_fwTimeout (keeps_refl s)) h

theorem keeps_bodyFwAbort {s t : State} {a1 : Ctx} (h : Keeps s t) : Keeps s (bodyFwAbort a1 t) := by
  unfold bodyFwAbort
  exact keeps_ite (keeps_refuse (keeps_fwAbandon h)) (keeps_refuse h)

theorem keeps_bodyFwInfo {s t : State} {a1 : Ctx} (h : Keeps s t) : Keeps s (bodyFwInfo a1 t) := by
  unfold bodyFwInfo
  extract_lets -merge -underBinder +onlyGivenNames x0
  (try clear_value x0)
  exact keeps_respondTo h

theorem keeps_bootStage {s t : State} {a1 : Nat} (h : Keeps s t) : Keeps s (bootStage a1 t) := by
  unfold bootStage
  exact keeps_wf h

theorem keeps_loadSaved {s t : State} (h : Keeps s t) : Keeps s (loadSaved t) := by
  unfold loadSaved
  split
  exacts [(keeps_forEach (fun _ _ h0 => (keeps_wr h0)) h), h]

theorem keeps_bootVerify {s t : State} {a1 : Bool} {a2 : Bool} (h : Keeps s t) : Keeps s (bootVerify a1 a2 t) := by
  unfold bootVerify
  exact (keeps_ite h (by split; exacts [(keeps_bootStage h), (by extract_lets -merge -underBinder +onlyGivenNames x0 x1 x3 x4; (try clear_value x0 x3); have k2 : Keeps s x1 := (keeps_wr (keeps_wr (keeps_wf h))); have k5 : Keeps s x4 := (keeps_when (fun _ h6 => (keeps_loadSaved (keeps_mk h6))) k2); exact (keeps_event (keeps_bootStage k5)))]))

theorem keeps_execBootRomVerify {s t : State} {a1 : Bool} {a2 : Bool} (h : execBootRomVerify a1 a2 s = .next t) : Keeps s t := by
  unfold execBootRomVerify at h
  exact keeps_done (keeps_bootVerify (keeps_refl s)) h

theorem keeps_lightStart {s t : State} (h : Keeps s t) : Keeps s (lightStart t) := by
  unfold lightStart
  exact (keeps_ite h (by extract_lets -merge -underBinder +onlyGivenNames x0 x2 x4 x6 x8; have k1 : Keeps s x0 := (keeps_bootStage h); have k3 : Keeps s x2 := (keeps_wb k1); have k5 : Keeps s x4 := (keeps_timingCommit (keeps_wr (keeps_wr k3))); have k7 : Keeps s x6 := (keeps_rasEnable k5); have k9 : Keeps s x8 := (keeps_ite k1 (keeps_supEnable (keeps_fbRaise k7))); exact (keeps_forEach (fun _ _ h10 => (keeps_linkEn h10)) k9)))

theorem keeps_execLightStart {s t : State} (h : execLightStart s = .next t) : Keeps s t := by
  unfold execLightStart at h
  exact keeps_done (keeps_lightStart (keeps_refl s)) h

theorem keeps_stageP0 {s t : State} (h : Keeps s t) : Keeps s (stageP0 t) := by
  unfold stageP0
  extract_lets -merge -underBinder +onlyGivenNames x0
  have k1 : Keeps s x0 := (keeps_ite (keeps_bootStage h) h)
  exact keeps_ite (keeps_bootStage k1) k1

theorem keeps_seedMap {s t : State} (h : Keeps s t) : Keeps s (seedMap t) := by
  unfold seedMap
  exact (keeps_ite h (keeps_ite (by extract_lets -merge -underBinder +onlyGivenNames x0 x1 x2 x4; (try clear_value x0 x1); have k3 : Keeps s x2 := (keeps_mk h); have k5 : Keeps s x4 := (keeps_forEach (fun _ _ h6 => (keeps_forEach (fun _ _ h7 => (keeps_setLamp h7)) h6)) k3); exact (keeps_recountMap (keeps_mapWrite (keeps_wb k5)))) (keeps_event (keeps_wb h))))

theorem keeps_loadVf {s t : State} (h : Keeps s t) : Keeps s (loadVf t) := by
  unfold loadVf
  exact keeps_ite (keeps_copyBytes h) (keeps_putBytes h)

theorem keeps_dramReady {s t : State} {a1 : Bool} (h : Keeps s t) : Keeps s (dramReady a1 t) := by
  unfold dramReady
  exact (keeps_ite h (keeps_ite (by extract_lets -merge -underBinder +onlyGivenNames x0 x2; have k1 : Keeps s x0 := (keeps_bootStage (keeps_modPwr h)); have k3 : Keeps s x2 := (keeps_vfSuspShow (keeps_seedMap (keeps_mapWrite (keeps_loadVf k1)))); exact (keeps_applyAccept k3)) (keeps_event (keeps_wb h))))

theorem keeps_execDramReady {s t : State} {a1 : Bool} (h : execDramReady a1 s = .next t) : Keeps s t := by
  unfold execDramReady at h
  exact keeps_done (keeps_dramReady (keeps_refl s)) h

theorem keeps_startupReady {s t : State} (h : Keeps s t) : Keeps s (startupReady t) := by
  unfold startupReady
  exact keeps_ite (keeps_bootStage h) h

theorem keeps_execStartupReady {s t : State} (h : execStartupReady s = .next t) : Keeps s t := by
  unfold execStartupReady at h
  exact keeps_done (keeps_startupReady (keeps_refl s)) h

end Sys2Proof.Machine
end

