-- ==== Sys2Proof/Laws/Keeps5.lean ====
section
/-! SUPPORT. What the functions of these files of Machine/ keep (`Keeps`): Blanking, Phase, RegAccess, HostPort, Mram, CmdBase, CmdSys, CmdLayer, CmdBeam, CmdCorr. -/
namespace Sys2Proof.Machine

/-! ### Blanking -/

theorem keeps_captureBeam {s t : State} (h : Keeps s t) : Keeps s (captureBeam t) := by
  unfold captureBeam
  exact (keeps_ite h (by extract_lets -merge -underBinder +onlyGivenNames x0; (try clear_value x0); exact (keeps_ite (keeps_capture h) (keeps_commitRejected (keeps_wb (keeps_wb h))))))

theorem keeps_capturePol {s t : State} (h : Keeps s t) : Keeps s (capturePol t) := by
  unfold capturePol
  exact (keeps_ite h (by extract_lets -merge -underBinder +onlyGivenNames x0; (try clear_value x0); exact (keeps_ite (keeps_capture h) (keeps_commitRejected (keeps_wb (keeps_wb h))))))

theorem keeps_captureTiming {s t : State} (h : Keeps s t) : Keeps s (captureTiming t) := by
  unfold captureTiming
  exact keeps_ite (keeps_takeTiming h) h

theorem keeps_captureAll {s t : State} (h : Keeps s t) : Keeps s (captureAll t) := by
  unfold captureAll
  extract_lets -merge -underBinder +onlyGivenNames x0 x2 x4 x6 x8
  have k1 : Keeps s x0 := (keeps_capture h)
  have k3 : Keeps s x2 := (keeps_captureTiming k1)
  have k5 : Keeps s x4 := (keeps_captureLimit (keeps_captureLayers k3))
  have k7 : Keeps s x6 := (keeps_capturePol (keeps_captureBeam (keeps_corrCapture k5)))
  have k9 : Keeps s x8 := (keeps_snowCapture (keeps_captureApplies k7))
  exact keeps_mk k9

theorem keeps_timingAhead {s t : State} {a1 : Nat} (h : Keeps s t) : Keeps s (timingAhead a1 t) := by
  unfold timingAhead
  extract_lets -merge -underBinder +onlyGivenNames x0 x1 x2
  (try clear_value x0 x1 x2)
  exact keeps_slkSend h

theorem keeps_blankOut {s t : State} {a1 : Nat} {a2 : Nat × Nat × Nat} (h : Keeps s t) : Keeps s (blankOut a1 a2 t) := by
  unfold blankOut
  extract_lets -merge -underBinder +onlyGivenNames x0
  (try clear_value x0)
  exact by split; exacts [(keeps_upSleep h), (keeps_upWake h), (keeps_forEach (fun _ _ h1 => (keeps_modSeg h1)) (keeps_blankCmd h)), (keeps_blankCmd h)]

theorem keeps_chunksOut {s t : State} {n left : Nat} {l : List (Nat × Nat × Bool × List Byte)} (h : Keeps s t) :
    Keeps s (chunksOut n left l t) := by
  induction l generalizing t left with
  | nil => exact h
  | cons e r ih =>
    unfold chunksOut
    exact keeps_ite (keeps_modLink h) (ih (keeps_slkSend (keeps_modLink h)))

theorem keeps_linkBlank {s t : State} {a1 : Nat × Nat} {a2 : Nat} (h : Keeps s t) : Keeps s (linkBlank a1 a2 t) := by
  unfold linkBlank
  exact (keeps_ite h (by extract_lets -merge -underBinder +onlyGivenNames x0 x3 x6; (try clear_value x6); have k1 : Keeps s x0 := (keeps_when (fun _ h2 => (keeps_timingAhead h2)) (keeps_emit h)); have k4 : Keeps s x3 := (keeps_forEach (fun _ _ h5 => (keeps_segCmd h5)) k1); exact (keeps_forEach (fun _ _ h7 => (keeps_blankOut h7)) (keeps_modLink k4))))

theorem keeps_linkChunks {s t : State} {a1 : Nat → Nat} {a2 : Nat} (h : Keeps s t) : Keeps s (linkChunks a1 a2 t) := by
  unfold linkChunks
  exact keeps_ite h (by extract_lets -merge -underBinder +onlyGivenNames x0; (try clear_value x0); exact (keeps_chunksOut h))

theorem keeps_blankPackets {s t : State} {a1 : Nat × Nat} (h : Keeps s t) : Keeps s (blankPackets a1 t) := by
  unfold blankPackets
  extract_lets -merge -underBinder +onlyGivenNames x0
  (try clear_value x0)
  exact (keeps_forEach (fun _ _ h1 => (keeps_linkChunks h1)) (keeps_calStart (keeps_forEach (fun _ _ h2 => (keeps_linkBlank h2)) h)))

theorem keeps_cutSeg {s t : State} {a1 : Nat} (h : Keeps s t) : Keeps s (cutSeg a1 t) := by
  unfold cutSeg
  extract_lets -merge -underBinder +onlyGivenNames x0
  (try clear_value x0)
  exact keeps_ite h (by extract_lets -merge -underBinder +onlyGivenNames x1 x2; (try clear_value x1); have k3 : Keeps s x2 := (keeps_modSeg h); exact (keeps_count (keeps_count k3)))

theorem keeps_fbDark {s t : State} {a1 : Nat} (h : Keeps s t) : Keeps s (fbDark a1 t) := by
  unfold fbDark
  extract_lets -merge -underBinder +onlyGivenNames x0
  (try clear_value x0)
  exact keeps_ite h (by extract_lets -merge -underBinder +onlyGivenNames x1; have k2 : Keeps s x1 := (keeps_modLink (keeps_modSeg h)); exact (keeps_count k2))

theorem keeps_blankChecks {s t : State} (h : Keeps s t) : Keeps s (blankChecks t) := by
  unfold blankChecks
  extract_lets -merge -underBinder +onlyGivenNames x0 x4 x7 x9 x10
  (try clear_value x9)
  have k1 : Keeps s x0 := (keeps_forEach (fun _ _ h2 => (keeps_composedPart h2)) (keeps_forEach (fun _ _ h3 => (keeps_lineNow h3)) h))
  have k5 : Keeps s x4 := (keeps_forEach (fun _ _ h6 => (keeps_polCheck h6)) k1)
  have k8 : Keeps s x7 := (keeps_wb k5)
  have k11 : Keeps s x10 := (keeps_forEach (fun _ _ h12 => (keeps_cutSeg h12)) (keeps_mk k8))
  exact (keeps_when (fun _ h13 => (keeps_forEach (fun _ _ h14 => (keeps_fbDark h14)) h13)) k11)

theorem keeps_blankSend {s t : State} (h : Keeps s t) : Keeps s (blankSend t) := by
  unfold blankSend
  exact keeps_blankPackets (keeps_powerBlank (keeps_feedForward (keeps_lateTrim h)))

theorem keeps_blankingStart {s t : State} (h : Keeps s t) : Keeps s (blankingStart t) := by
  unfold blankingStart
  exact (keeps_ite h (by extract_lets -merge -underBinder +onlyGivenNames x0; have k1 : Keeps s x0 := (keeps_advanceTo (keeps_when (fun _ h2 => (keeps_renderCutoff h2)) h)); exact (keeps_ite (keeps_mk k1) (by extract_lets -merge -underBinder +onlyGivenNames x3 x5; have k4 : Keeps s x3 := (keeps_captureAll (keeps_blankChecks k1)); have k6 : Keeps s x5 := (keeps_when (fun _ h7 => (keeps_squash h7)) k4); exact (keeps_blankSend (keeps_forEach (fun _ _ h8 => (keeps_streamCut h8)) k6))))))

theorem keeps_execBlankingStart {s t : State} (h : execBlankingStart s = .next t) : Keeps s t := by
  unfold execBlankingStart at h
  exact keeps_done (keeps_blankingStart (keeps_refl s)) h

/-! ### Phase -/

theorem keeps_teBegin {s t : State} {a1 : Bool} (h : Keeps s t) : Keeps s (teBegin a1 t) := by
  unfold teBegin
  exact keeps_mk h

theorem keeps_latchP0 {s t : State} (h : Keeps s t) : Keeps s (latchP0 t) := by
  unfold latchP0
  exact (keeps_forEach (fun _ _ h0 => (keeps_ite (keeps_latchLink h0) (keeps_ite h0 (keeps_forEach (fun _ _ h1 => (by split; exacts [(keeps_modSeg h1), h1])) h0)))) h)

theorem keeps_latchTe {s t : State} {a1 : BitVec 32} {a2 : Int} {a3 : Bool} (h : Keeps s t) : Keeps s (latchTe a1 a2 a3 t) := by
  unfold latchTe
  exact keeps_forEach (fun _ _ h0 => (keeps_latchLink h0)) h

theorem keeps_teEdge {s t : State} {a1 : Bool} {a2 : Nat} (h : Keeps s t) : Keeps s (teEdge a1 a2 t) := by
  unfold teEdge
  extract_lets -merge -underBinder +onlyGivenNames x0
  (try clear_value x0)
  exact (keeps_ite h (keeps_ite (by extract_lets -merge -underBinder +onlyGivenNames x1 x3 x4; (try clear_value x3); have k2 : Keeps s x1 := (keeps_wr h); have k5 : Keeps s x4 := (keeps_mk k2); exact (keeps_ite k5 (keeps_latchTe k5))) (keeps_ite (by extract_lets -merge -underBinder +onlyGivenNames x6 x8 x9; (try clear_value x8); have k7 : Keeps s x6 := (keeps_wr h); have k10 : Keeps s x9 := (keeps_mk k7); exact (keeps_ite k10 (keeps_latchTe (keeps_forEach (fun _ _ h11 => (keeps_lineNow h11)) k10)))) h)))

theorem keeps_teClose {s t : State} (h : Keeps s t) : Keeps s (teClose t) := by
  unfold teClose
  exact keeps_ite h (by extract_lets -merge -underBinder +onlyGivenNames x0 x2 x3; (try clear_value x2); have k1 : Keeps s x0 := (keeps_count (keeps_advanceTo h)); have k4 : Keeps s x3 := (keeps_mk k1); exact (keeps_ite k4 (keeps_latchTe k4)))

theorem keeps_execTeWindowClose {s t : State} (h : execTeWindowClose s = .next t) : Keeps s t := by
  unfold execTeWindowClose at h
  exact keeps_done (keeps_teClose (keeps_refl s)) h

theorem keeps_dropSegCmds {s t : State} {a1 : Nat} (h : Keeps s t) : Keeps s (dropSegCmds a1 t) := by
  unfold dropSegCmds
  exact (keeps_ite h (by extract_lets -merge -underBinder +onlyGivenNames x0 x1; (try clear_value x0); have k2 : Keeps s x1 := (keeps_modLink h); exact (keeps_ite k2 (keeps_forEach (fun _ _ h3 => (keeps_modSeg (keeps_count h3))) k2))))

theorem keeps_linkP0 {s t : State} {a1 : Nat} (h : Keeps s t) : Keeps s (linkP0 a1 t) := by
  unfold linkP0
  extract_lets -merge -underBinder +onlyGivenNames x0 x1 x2
  (try clear_value x0 x1 x2)
  exact keeps_ite h (keeps_setLink h)

theorem keeps_holdP0 {s t : State} {a1 : Nat} (h : Keeps s t) : Keeps s (holdP0 a1 t) := by
  unfold holdP0
  exact keeps_ite h (keeps_holdExpired (keeps_holdShow (keeps_modSeg h)))

theorem keeps_applyShadows {s t : State} (h : Keeps s t) : Keeps s (applyShadows t) := by
  unfold applyShadows
  extract_lets -merge -underBinder +onlyGivenNames x0 x2 x5 x6 x8
  (try clear_value x5)
  have k1 : Keeps s x0 := (keeps_corrMark (keeps_applyLayerMarks h))
  have k3 : Keeps s x2 := (keeps_when (fun _ h4 => (keeps_setRecommit (keeps_wb h4))) k1)
  have k7 : Keeps s x6 := (keeps_setRecommit (keeps_wb k3))
  have k9 : Keeps s x8 := (keeps_ite (keeps_forEach (fun _ _ h10 => (keeps_modPolder h10)) k7) k3)
  exact keeps_holdPolShow (keeps_cmpShow (keeps_setBlankEff (keeps_applyCaps k9)))

theorem keeps_composeP0 {s t : State} (h : Keeps s t) : Keeps s (composeP0 t) := by
  unfold composeP0
  extract_lets -merge -underBinder +onlyGivenNames x0 x5
  have k1 : Keeps s x0 := (keeps_forEach (fun _ _ h2 => (by extract_lets -merge -underBinder +onlyGivenNames x3 x4; (try clear_value x3 x4); exact (keeps_ite h2 (keeps_setSeg h2)))) h)
  have k6 : Keeps s x5 := (keeps_fillLatch k1)
  exact keeps_mk k6

theorem keeps_complP0 {s t : State} (h : Keeps s t) : Keeps s (complP0 t) := by
  unfold complP0
  extract_lets -merge -underBinder +onlyGivenNames x0 x1 x2
  (try clear_value x0 x1)
  have k3 : Keeps s x2 := (keeps_mk h)
  exact keeps_timedCounts (keeps_forEach (fun _ _ h4 => (keeps_respondTo h4)) k3)

theorem keeps_phase0 {s t : State} (h : Keeps s t) : Keeps s (phase0 t) := by
  unfold phase0
  extract_lets -merge -underBinder +onlyGivenNames x0
  have k1 : Keeps s x0 := (keeps_when (fun _ h2 => (keeps_afterBy h2)) h)
  exact (keeps_ite k1 (by extract_lets -merge -underBinder +onlyGivenNames x3 x5 x6 x9 x12; (try clear_value x5); have k4 : Keeps s x3 := (keeps_renderCutoff (keeps_blankingStart k1)); have k7 : Keeps s x6 := (keeps_forEach (fun _ _ h8 => (keeps_ite (keeps_modCrcCh h8) h8)) k4); have k10 : Keeps s x9 := (keeps_when (fun _ h11 => (keeps_captureAll h11)) k7); have k13 : Keeps s x12 := (keeps_rasterP0 k10); exact (keeps_ite k13 (by extract_lets -merge -underBinder +onlyGivenNames x14 x17 x18 x21 x24 x27 x29 x31 x33 x35 x37 x40 x42 x45 x47 x49; (try clear_value x17); have k15 : Keeps s x14 := (keeps_forEach (fun _ _ h16 => (keeps_dropSegCmds h16)) k13); have k19 : Keeps s x18 := (keeps_when (fun _ h20 => (keeps_latchP0 h20)) (keeps_teBegin k15)); have k22 : Keeps s x21 := (keeps_forEach (fun _ _ h23 => (keeps_linkP0 h23)) k19); have k25 : Keeps s x24 := (keeps_forEach (fun _ _ h26 => (keeps_holdP0 h26)) k22); have k28 : Keeps s x27 := (keeps_fbEnd (keeps_fbApply (keeps_applyShadows k25))); have k30 : Keeps s x29 := (keeps_supLit (keeps_healthP0 k28)); have k32 : Keeps s x31 := (keeps_supPlan (keeps_captureTref (keeps_litStep k30))); have k34 : Keeps s x33 := (keeps_beamP0 k32); have k36 : Keeps s x35 := (keeps_snowApply (keeps_corrP0 k34)); have k38 : Keeps s x37 := (keeps_forEach (fun _ _ h39 => (keeps_stripDeadline h39)) k36); have k41 : Keeps s x40 := (keeps_layersP0 k38); have k43 : Keeps s x42 := (keeps_forEach (fun _ _ h44 => (keeps_streamTransmit h44)) (keeps_stripSend k41)); have k46 : Keeps s x45 := (keeps_bandsApply k43); have k48 : Keeps s x47 := (keeps_stageP0 (keeps_powerP0 k46)); have k50 : Keeps s x49 := (keeps_composeP0 (keeps_showModes k48)); exact (keeps_handoverP0 (keeps_complP0 k50))))))

theorem keeps_phase0Event {s t : State} (h : Keeps s t) : Keeps s (phase0Event t) := by
  unfold phase0Event
  exact keeps_ite (keeps_mk h) (keeps_phase0 h)

theorem keeps_execPhase0 {s t : State} (h : execPhase0 s = .next t) : Keeps s t := by
  unfold execPhase0 at h
  exact keeps_done (keeps_phase0Event (keeps_refl s)) h

theorem keeps_rasterFirst {s t : State} (h : Keeps s t) : Keeps s (rasterFirst t) := by
  unfold rasterFirst
  extract_lets -merge -underBinder +onlyGivenNames x0
  have k1 : Keeps s x0 := (keeps_when (fun _ h2 => (keeps_renderCutoff h2)) (keeps_when (fun _ h3 => (keeps_blankingStart h3)) h))
  exact keeps_ite (by extract_lets -merge -underBinder +onlyGivenNames x4; have k5 : Keeps s x4 := (keeps_phase0 k1); exact (keeps_mk k5)) k1

/-! ### RegAccess -/

theorem keeps_scanServe {s t : State} {a1 : Nat} {a2 : ScanUser} {a3 : Option Word} (h : Keeps s t) : Keeps s (scanServe a1 a2 a3 t) := by
  unfold scanServe
  split
  exacts [(keeps_completeOps h), (keeps_ite (by extract_lets -merge -underBinder +onlyGivenNames x0; have k1 : Keeps s x0 := (keeps_modLayer h); exact (keeps_when (fun _ h2 => (keeps_count h2)) k1)) h), (by split; exacts [(keeps_ite h (keeps_event (keeps_count h))), (keeps_count h)]), (by split; exacts [(keeps_scanJudge h), (keeps_when (fun _ h3 => (keeps_wb h3)) h)])]

theorem keeps_scanFinish {s t : State} {a1 : Nat} {a2 : Bool} (h : Keeps s t) : Keeps s (scanFinish a1 a2 t) := by
  unfold scanFinish
  extract_lets -merge -underBinder +onlyGivenNames x0 x1 x2 x4 x6
  (try clear_value x0 x1)
  have k3 : Keeps s x2 := (keeps_ite (keeps_wf (keeps_wr h)) (keeps_scanInvalid h))
  have k5 : Keeps s x4 := (keeps_modCrcCh k3)
  have k7 : Keeps s x6 := (keeps_scanServe k5)
  exact (by split; exacts [k7, (keeps_ite (keeps_scanExtent k7) (keeps_forEach (fun _ _ h8 => (keeps_scanServe h8)) (keeps_modCrcCh k7)))])

theorem keeps_crcScanEnd {s t : State} {a1 : Nat} {a2 : Option Nat} (h : Keeps s t) : Keeps s (crcScanEnd a1 a2 t) := by
  unfold crcScanEnd
  exact (keeps_ite h (by split; exacts [(keeps_scanFinish h), (by extract_lets -merge -underBinder +onlyGivenNames x0; (try clear_value x0); exact (keeps_scanFinish (keeps_event h)))]))

theorem keeps_execCrcScanEnd {s t : State} {a1 : Fin 8} {a2 : Option (BitVec 32)} (h : execCrcScanEnd a1 a2 s = .next t) : Keeps s t := by
  unfold execCrcScanEnd at h
  exact keeps_done (keeps_crcScanEnd (keeps_refl s)) h

theorem keeps_crcCtrl {s t : State} {a1 : Nat} {a2 : Word} (h : Keeps s t) : Keeps s (crcCtrl a1 a2 t) := by
  unfold crcCtrl
  extract_lets -merge -underBinder +onlyGivenNames x0 x1
  (try clear_value x0 x1)
  exact (keeps_ite (by extract_lets -merge -underBinder +onlyGivenNames x2; have k3 : Keeps s x2 := (keeps_when (fun _ h4 => (keeps_count h4)) h); exact (keeps_ite k3 (by extract_lets -merge -underBinder +onlyGivenNames x5; have k6 : Keeps s x5 := (keeps_wb k3); exact (keeps_attShow (keeps_ite (keeps_scanFinish k6) k6))))) (by extract_lets -merge -underBinder +onlyGivenNames x7; have k8 : Keeps s x7 := (keeps_swWrite h); exact (keeps_ite (keeps_attShow k8) (keeps_ite (by extract_lets -merge -underBinder +onlyGivenNames x9; have k10 : Keeps s x9 := (keeps_modCrcCh (keeps_wf (keeps_wb k8))); exact (keeps_attShow k10)) (keeps_attShow (keeps_wb k8))))))

theorem keeps_execCrcChcEn {s t : State} {a1 : Fin 8} {a2 : Word} (h : execCrcChcEn a1 a2 s = .next t) : Keeps s t := by
  unfold execCrcChcEn at h
  exact keeps_done (keeps_crcCtrl (keeps_rasterFirst (keeps_refl s))) h

theorem keeps_baseWrite {s t : State} {a1 : Nat} {a2 : Word} (h : Keeps s t) : Keeps s (baseWrite a1 a2 t) := by
  unfold baseWrite
  exact keeps_ite (keeps_swWrite h) (keeps_count h)

theorem keeps_execTableBaseWrite {s t : State} {a1 : Fin 6} {a2 : Word} (h : execTableBaseWrite a1 a2 s = .next t) : Keeps s t := by
  unfold execTableBaseWrite at h
  exact keeps_done (keeps_baseWrite (keeps_rasterFirst (keeps_refl s))) h

theorem keeps_windowWrite {s t : State} {a1 : Nat} {a2 : Word} (h : Keeps s t) : Keeps s (windowWrite a1 a2 t) := by
  unfold windowWrite
  extract_lets -merge -underBinder +onlyGivenNames x0
  have k1 : Keeps s x0 := (keeps_putLe h)
  exact (by split; exacts [h, (by split; exacts [(keeps_ite h k1), (by extract_lets -merge -underBinder +onlyGivenNames x2; (try clear_value x2); exact (keeps_ite (keeps_count h) k1)), (by extract_lets -merge -underBinder +onlyGivenNames x3; (try clear_value x3); exact (keeps_ite (keeps_count h) k1)), (keeps_ite (keeps_count h) k1), (keeps_ite (keeps_count h) k1), h])])

theorem keeps_execBankWindowWrite {s t : State} {a1 : BitVec 22} {a2 : Word} (h : execBankWindowWrite a1 a2 s = .next t) : Keeps s t := by
  unfold execBankWindowWrite at h
  exact keeps_done (keeps_windowWrite (keeps_rasterFirst (keeps_refl s))) h

theorem keeps_calWrite {s t : State} {a1 : Nat} {a2 : Word} (h : Keeps s t) : Keeps s (calWrite a1 a2 t) := by
  unfold calWrite
  extract_lets -merge -underBinder +onlyGivenNames x0
  have k1 : Keeps s x0 := (keeps_forEach (fun _ _ h2 => (keeps_setCalUser h2)) (keeps_swWrite h))
  exact keeps_ite k1 (keeps_mk k1)

theorem keeps_execCalFieldWrite {s t : State} {a1 : BitVec 22} {a2 : Word} (h : execCalFieldWrite a1 a2 s = .next t) : Keeps s t := by
  unfold execCalFieldWrite at h
  exact keeps_done (keeps_when (fun _ h0 => (keeps_calWrite h0)) (keeps_rasterFirst (keeps_refl s))) h

theorem keeps_writeKeep {s t : State} {a1 : Nat} {a2 : Nat} {a3 : Word} (h : Keeps s t) : Keeps s (writeKeep a1 a2 a3 t) := by
  unfold writeKeep
  exact keeps_swWrite h

theorem keeps_groupCtrl {s t : State} {a1 : Nat} {a2 : Bool → State → State} {a3 : Word} (g2 : ∀ b1 t', Keeps s t' → Keeps s (a2 b1 t')) (h : Keeps s t) : Keeps s (groupCtrl a1 a2 a3 t) := by
  unfold groupCtrl
  extract_lets -merge -underBinder +onlyGivenNames x0 x2
  have k1 : Keeps s x0 := (keeps_ite (g2 _ _ h) h)
  have k3 : Keeps s x2 := (keeps_writeKeep k1)
  exact keeps_when (fun _ h4 => (g2 _ _ h4)) k3

theorem keeps_wRas {s t : State} {a1 : Nat} {a2 : Word} (h : Keeps s t) : Keeps s (wRas a1 a2 t) := by
  unfold wRas
  exact (keeps_ite (keeps_rasEnable h) (keeps_ite (keeps_when (fun _ h0 => (keeps_timingCommit h0)) h) (keeps_ite (keeps_periodWritten (keeps_swWrite h)) (keeps_ite (keeps_periodWritten (keeps_swWrite h)) (keeps_ite (keeps_syncOutOff (keeps_swWrite h)) (keeps_ite (by extract_lets -merge -underBinder +onlyGivenNames x1; have k2 : Keeps s x1 := (keeps_swWrite h); exact (keeps_mk k2)) (by split; exacts [(keeps_when (fun _ h3 => (keeps_tactCancel h3)) (keeps_when (fun _ h4 => (keeps_tactArm h4)) h)), (keeps_swWrite h)])))))))

theorem keeps_wSlk {s t : State} {a1 : Nat} {a2 : Word} (h : Keeps s t) : Keeps s (wSlk a1 a2 t) := by
  unfold wSlk
  exact (keeps_ite (keeps_teMask h) (by split; exacts [(keeps_when (fun _ h0 => (keeps_linkRetrain h0)) (keeps_linkEn (keeps_writeKeep h))), (keeps_swWrite h)]))

theorem keeps_wCmp {s t : State} {a1 : Nat} {a2 : Word} (h : Keeps s t) : Keeps s (wCmp a1 a2 t) := by
  unfold wCmp
  exact (keeps_ite (keeps_when (fun _ h0 => (keeps_globalCommit h0)) h) (by split; exacts [(keeps_when (fun _ h1 => (keeps_layerCommit h1)) h), (keeps_swWrite h)]))

theorem keeps_wBeam {s t : State} {a1 : Nat} {a2 : Word} (h : Keeps s t) : Keeps s (wBeam a1 a2 t) := by
  unfold wBeam
  exact keeps_ite (keeps_when (fun _ h0 => (keeps_beamCommit h0)) h) (keeps_ite (keeps_beamEn (keeps_writeKeep h)) (keeps_swWrite h))

theorem keeps_wSup {s t : State} {a1 : Nat} {a2 : Word} (h : Keeps s t) : Keeps s (wSup a1 a2 t) := by
  unfold wSup
  exact (keeps_ite (keeps_when (fun _ h0 => (keeps_supRestart h0)) h) (keeps_ite (keeps_supEnable (keeps_writeKeep h)) (keeps_ite (keeps_supPhaseEn h) (keeps_ite (keeps_vsetShow (keeps_swWrite h)) (keeps_swWrite h)))))

theorem keeps_wPol {s t : State} {a1 : Nat} {a2 : Word} (h : Keeps s t) : Keeps s (wPol a1 a2 t) := by
  unfold wPol
  exact (keeps_ite (keeps_when (fun _ h0 => (keeps_polCommit h0)) h) (keeps_ite (by extract_lets -merge -underBinder +onlyGivenNames x1; have k2 : Keeps s x1 := (keeps_ite (keeps_ite (keeps_count h) (keeps_fbClear h)) h); exact (keeps_when (fun _ h3 => (keeps_fbRaise h3)) k2)) (keeps_swWrite h)))

theorem keeps_wPtp {s t : State} {a1 : Nat} {a2 : Word} (h : Keeps s t) : Keeps s (wPtp a1 a2 t) := by
  unfold wPtp
  exact (keeps_ite (keeps_when (fun _ h0 => (keeps_timeStep h0)) (keeps_when (fun _ h1 => (keeps_timeLoad h1)) h)) (keeps_ite (keeps_servoOffset h) (keeps_ite (keeps_servoEnable (keeps_swWrite h)) (by split; exacts [(keeps_when (fun _ h2 => (keeps_ttCancel h2)) (keeps_when (fun _ h3 => (keeps_ttArm h3)) h)), (keeps_when (fun _ h4 => (keeps_tcPop h4)) h), (keeps_swWrite h)]))))

theorem keeps_lanePwr {s t : State} {a1 : Nat} {a2 : Word} (h : Keeps s t) : Keeps s (lanePwr a1 a2 t) := by
  unfold lanePwr
  extract_lets -merge -underBinder +onlyGivenNames x0 x1 x2
  (try clear_value x0 x1)
  have k3 : Keeps s x2 := (keeps_eidleTurn (keeps_swWrite h))
  exact (by split; exacts [(keeps_ite (keeps_txSleep k3) (keeps_when (fun _ h4 => (keeps_txSleep h4)) k3)), k3])

theorem keeps_wSds {s t : State} {a1 : Nat} {a2 : Word} (h : Keeps s t) : Keeps s (wSds a1 a2 t) := by
  unfold wSds
  split
  exacts [(keeps_groupCtrl (fun _ _ h0 => (keeps_streamEn h0)) h), (keeps_quadCfg h), (keeps_ite (keeps_laneCtrl h) (keeps_ite (keeps_lanePwr h) (keeps_when (fun _ h1 => (keeps_laneRestart h1)) h))), (keeps_swWrite h)]

theorem keeps_wFab {s t : State} {a1 : Nat} {a2 : Word} (h : Keeps s t) : Keeps s (wFab a1 a2 t) := by
  unfold wFab
  exact (keeps_ite (keeps_fabEnable (keeps_writeKeep h)) (by split; exacts [(keeps_groupCtrl (fun _ _ h0 => (keeps_fabPortEn h0)) h), (keeps_subCfg h), (keeps_swWrite h)]))

theorem keeps_wNet {s t : State} {a1 : Nat} {a2 : Word} (h : Keeps s t) : Keeps s (wNet a1 a2 t) := by
  unfold wNet
  split
  exacts [(keeps_ite (keeps_when (fun _ h0 => (keeps_canBack h0)) h) (keeps_ite (keeps_canCtrl (keeps_swWrite h)) (keeps_macCtrl h))), (by split; exacts [(keeps_canBufCfg h), (keeps_swWrite h)])]

theorem keeps_wCrc {s t : State} {a1 : Nat} {a2 : Word} (h : Keeps s t) : Keeps s (wCrc a1 a2 t) := by
  unfold wCrc
  extract_lets -merge -underBinder +onlyGivenNames x0 x1
  (try clear_value x0 x1)
  exact (keeps_ite (keeps_swWrite h) (keeps_ite (keeps_crcCtrl h) (keeps_ite (keeps_when (fun _ h2 => (keeps_chStart h2)) h) (keeps_ite (keeps_count h) (keeps_swWrite h)))))

theorem keeps_wMbx {s t : State} {a1 : Nat} {a2 : Word} (h : Keeps s t) : Keeps s (wMbx a1 a2 t) := by
  unfold wMbx
  split
  exacts [(keeps_ite h (keeps_inSluice h)), (keeps_ite h (keeps_outSluice h)), (keeps_swWrite h)]

theorem keeps_poolWrite {s t : State} {a1 : Nat} {a2 : Word} (h : Keeps s t) : Keeps s (poolWrite a1 a2 t) := by
  unfold poolWrite
  extract_lets -merge -underBinder +onlyGivenNames x0 x2 x3
  (try clear_value x2 x3)
  have k1 : Keeps s x0 := (keeps_swWrite h)
  exact keeps_ite h k1

theorem keeps_wDram {s t : State} {a1 : Nat} {a2 : Word} (h : Keeps s t) : Keeps s (wDram a1 a2 t) := by
  unfold wDram
  exact keeps_poolShow (keeps_ite (keeps_poolWrite h) (keeps_swWrite h))

theorem keeps_regWrite {s t : State} {a1 : Nat} {a2 : Word} (h : Keeps s t) : Keeps s (regWrite a1 a2 t) := by
  unfold regWrite
  exact (keeps_ite (keeps_calWrite h) (by split; exacts [(keeps_wSup h), (keeps_wRas h), (keeps_wCmp h), (keeps_wBeam h), (keeps_ite (keeps_when (fun _ h0 => (keeps_corrCommit h0)) h) (keeps_ite (keeps_baseWrite h) (keeps_swWrite h))), (keeps_ite (keeps_baseWrite h) (keeps_swWrite h)), (keeps_wPol h), (keeps_wSlk h), (keeps_wSlk h), (keeps_wSds h), (keeps_wSds h), (keeps_wFab h), (keeps_wNet h), (keeps_wNet h), (keeps_wPtp h), (keeps_wNet h), (keeps_wNet h), (keeps_wCrc h), (keeps_wMbx h), (keeps_wDram h), (keeps_swWrite h)]))

theorem keeps_applyWord {s t : State} {a1 : Nat} {a2 : Word} (h : Keeps s t) : Keeps s (applyWord a1 a2 t) := by
  unfold applyWord
  exact keeps_ite (keeps_windowWrite h) (keeps_regWrite h)

theorem keeps_overrideEvent {s t : State} {a1 : Nat} (h : Keeps s t) : Keeps s (overrideEvent a1 t) := by
  unfold overrideEvent
  exact keeps_event h

theorem keeps_registerWrite {s t : State} {a1 : Nat} {a2 : Word} (h : Keeps s t) : Keeps s (registerWrite a1 a2 t) := by
  unfold registerWrite
  exact keeps_ite h (keeps_when (fun _ h0 => (keeps_overrideEvent h0)) (keeps_regWrite h))

theorem keeps_execRegisterWrite {s t : State} {a1 : BitVec 22} {a2 : Word} (h : execRegisterWrite a1 a2 s = .next t) : Keeps s t := by
  unfold execRegisterWrite at h
  exact keeps_done (keeps_registerWrite (keeps_rasterFirst (keeps_refl s))) h

theorem keeps_tactDue {s t : State} {a1 : Nat} (h : Keeps s t) : Keeps s (tactDue a1 t) := by
  unfold tactDue
  split
  exacts [h, (by extract_lets -merge -underBinder +onlyGivenNames x0; have k1 : Keeps s x0 := (keeps_rasterFirst (keeps_advanceTo h)); exact (keeps_ite k1 (by extract_lets -merge -underBinder +onlyGivenNames x2 x3 x4 x5; (try clear_value x2 x3 x4); have k6 : Keeps s x5 := (keeps_mk k1); exact (keeps_ite (keeps_setTactState k6) (keeps_applyWord (keeps_ite (keeps_count (keeps_setTactState k6)) (keeps_setTactState k6)))))))]

theorem keeps_execTimeActionDue {s t : State} {a1 : Fin 16} (h : execTimeActionDue a1 s = .next t) : Keeps s t := by
  unfold execTimeActionDue at h
  exact keeps_done (keeps_tactDue (keeps_refl s)) h

/-! ### HostPort -/

theorem keeps_hostCount {s t : State} {a1 : Nat} (h : Keeps s t) : Keeps s (hostCount a1 t) := by
  unfold hostCount
  exact keeps_when (fun _ h0 => (keeps_count h0)) (keeps_count h)

theorem keeps_hostEnd {s t : State} {a1 : HFrame} {a2 : Nat} (h : Keeps s t) : Keeps s (hostEnd a1 a2 t) := by
  unfold hostEnd
  extract_lets -merge -underBinder +onlyGivenNames x0 x1
  (try clear_value x0)
  have k2 : Keeps s x1 := (keeps_mk h)
  exact keeps_ite k2 (keeps_hostCount (keeps_wr (keeps_wr k2)))

theorem keeps_hostDrop {s t : State} {a1 : Nat} (h : Keeps s t) : Keeps s (hostDrop a1 t) := by
  unfold hostDrop
  split
  exacts [h, (keeps_hostEnd (keeps_mk h))]

theorem keeps_hostApply {s t : State} (h : Keeps s t) : Keeps s (hostApply t) := by
  unfold hostApply
  split
  exacts [h, (by extract_lets -merge -underBinder +onlyGivenNames x0 x1 x2; (try clear_value x0 x1 x2); exact (keeps_ite (keeps_hostDrop h) (by extract_lets -merge -underBinder +onlyGivenNames x3 x6 x7 x8; (try clear_value x6 x7); have k4 : Keeps s x3 := (keeps_applyWord (keeps_when (fun _ h5 => (keeps_overrideEvent h5)) h)); have k9 : Keeps s x8 := (keeps_mk k4); exact (keeps_ite (keeps_hostDrop k9) k9))))]

theorem keeps_execHostWriteApply {s t : State} (h : execHostWriteApply s = .next t) : Keeps s t := by
  unfold execHostWriteApply at h
  exact keeps_done (keeps_hostApply (keeps_rasterFirst (keeps_refl s))) h

theorem keeps_execHostWriteTimeout {s t : State} (h : execHostWriteTimeout s = .next t) : Keeps s t := by
  unfold execHostWriteTimeout at h
  exact keeps_done (keeps_hostDrop (keeps_refl s)) h

theorem keeps_hostDrain {s t : State} {n : Nat} (h : Keeps s t) : Keeps s (hostDrain n t) := by
  induction n generalizing t with
  | zero => exact h
  | succ n ih =>
    unfold hostDrain
    exact keeps_ite h (ih (keeps_hostApply h))

theorem keeps_hostFrame {s t : State} {a1 : Byte → State → State} (g1 : ∀ b1 t', Keeps s t' → Keeps s (a1 b1 t')) (h : Keeps s t) : Keeps s (hostFrame a1 t) := by
  unfold hostFrame
  exact keeps_ite (keeps_wakeBy (g1 _ _ h)) h

theorem keeps_hostRead {s t : State} {a1 : Option (BitVec 24)} {a2 : Nat} {a3 : Option Nat} (h : Keeps s t) : Keeps s (hostRead a1 a2 a3 t) := by
  unfold hostRead
  exact (keeps_hostFrame (fun _ _ h0 => (by split; exacts [(keeps_emit h0), (by extract_lets -merge -underBinder +onlyGivenNames x1 x2 x4 x7; (try clear_value x1); have k3 : Keeps s x2 := (keeps_hostDrain h0); have k5 : Keeps s x4 := (keeps_when (fun _ h6 => (keeps_latchTime h6)) k3); exact (keeps_when (fun _ h8 => (keeps_hostCount h8)) (keeps_emit k5)))])) h)

theorem keeps_execHostRead32 {s t : State} {a1 : Option (BitVec 24)} {a2 : Bool} (h : execHostRead32 a1 a2 s = .next t) : Keeps s t := by
  unfold execHostRead32 at h
  exact keeps_done (keeps_hostRead (keeps_rasterFirst (keeps_refl s))) h

theorem keeps_execHostReadBurst {s t : State} {a1 : Option (BitVec 24)} {a2 : Nat} {a3 : Option Nat} (h : execHostReadBurst a1 a2 a3 s = .next t) : Keeps s t := by
  unfold execHostReadBurst at h
  exact keeps_done (keeps_hostRead (keeps_rasterFirst (keeps_refl s))) h

theorem keeps_execHostReadTimeout {s t : State} (h : execHostReadTimeout s = .next t) : Keeps s t := by
  unfold execHostReadTimeout at h
  exact keeps_done (keeps_hostFrame (fun _ _ h0 => (keeps_hostCount (keeps_emit h0))) (keeps_refl s)) h

theorem keeps_hostWrite {s t : State} {a1 : Nat} {a2 : Nat} {a3 : Option (BitVec 24)} {a4 : List Byte} (h : Keeps s t) : Keeps s (hostWrite a1 a2 a3 a4 t) := by
  unfold hostWrite
  exact (keeps_hostFrame (fun _ _ h0 => (by extract_lets -merge -underBinder +onlyGivenNames x1; have k2 : Keeps s x1 := (keeps_emit h0); exact (by split; exacts [k2, (by extract_lets -merge -underBinder +onlyGivenNames x3; (try clear_value x3); exact (keeps_ite (keeps_hostEnd k2) (keeps_ite (keeps_hostEnd k2) (keeps_mk k2))))]))) h)

theorem keeps_execHostWrite32 {s t : State} {a1 : Option (BitVec 24)} {a2 : List Byte} (h : execHostWrite32 a1 a2 s = .next t) : Keeps s t := by
  unfold execHostWrite32 at h
  exact keeps_done (keeps_hostWrite (keeps_refl s)) h

theorem keeps_execHostWriteBurst {s t : State} {a1 : Option (BitVec 24)} {a2 : List Byte} (h : execHostWriteBurst a1 a2 s = .next t) : Keeps s t := by
  unfold execHostWriteBurst at h
  exact keeps_done (keeps_hostWrite (keeps_refl s)) h

theorem keeps_execHostStatus {s t : State} {a1 : Nat} (h : execHostStatus a1 s = .next t) : Keeps s t := by
  unfold execHostStatus at h
  exact keeps_done (keeps_hostFrame (fun _ _ h0 => (keeps_emit h0)) (keeps_refl s)) h

theorem keeps_hostOpcode {s t : State} {a1 : Nat} (h : Keeps s t) : Keeps s (hostOpcode a1 t) := by
  unfold hostOpcode
  exact (keeps_hostFrame (fun _ _ h0 => (by extract_lets -merge -underBinder +onlyGivenNames x1; have k2 : Keeps s x1 := (keeps_emit h0); exact (keeps_ite k2 (keeps_hostCount (keeps_mk k2))))) h)

theorem keeps_execBadOpcode {s t : State} {a1 : Byte} (h : execBadOpcode a1 s = .next t) : Keeps s t := by
  unfold execBadOpcode at h
  exact keeps_done (keeps_hostOpcode (keeps_refl s)) h

/-! ### Mram -/

theorem keeps_healthSaved {s t : State} (h : Keeps s t) : Keeps s (healthSaved t) := by
  unfold healthSaved
  split
  exacts [h, (by extract_lets -merge -underBinder +onlyGivenNames x0 x1 x4 x7; (try clear_value x0); have k2 : ∀ b1 b2 b3 t', Keeps s t' → Keeps s (x1 b1 b2 b3 t') := (by unfold x1; exact (fun _ _ _ _ h3 => (keeps_putLe (keeps_putBytes h3)))); have k5 : Keeps s x4 := (keeps_when (fun _ h6 => (k2 _ _ _ _ h6)) h); have k8 : Keeps s x7 := (keeps_when (fun _ h9 => (k2 _ _ _ _ h9)) k5); exact (keeps_completeOp k8))]

theorem keeps_calSaved {s t : State} (h : Keeps s t) : Keeps s (calSaved t) := by
  unfold calSaved
  split
  exacts [h, (keeps_completeOp (keeps_mk h))]

theorem keeps_mramCommit {s t : State} {a1 : Nat} (h : Keeps s t) : Keeps s (mramCommit a1 t) := by
  unfold mramCommit
  exact keeps_ite h (by split; exacts [(keeps_healthSaved h), (keeps_saveNext h), (keeps_calSaved h), (keeps_mk h)])

theorem keeps_execMramRecordCommit {s t : State} {a1 : Fin 4} (h : execMramRecordCommit a1 s = .next t) : Keeps s t := by
  unfold execMramRecordCommit at h
  exact keeps_done (keeps_mramCommit (keeps_refl s)) h

theorem keeps_dramFail {s t : State} {a1 : Option (Nat × Nat)} {a2 : Option (Nat × Nat × Nat × Nat)} (h : Keeps s t) : Keeps s (dramFail a1 a2 t) := by
  unfold dramFail
  split
  exacts [(keeps_when (fun _ h0 => (keeps_applyAccept h0)) (keeps_tableFailed h)), (by split; exacts [(keeps_fetchUnderrun h), h])]

theorem keeps_dramEcc {s t : State} {a1 : Nat} {a2 : Option (Nat × Nat × Nat × Nat)} (h : Keeps s t) : Keeps s (dramEcc a1 a2 t) := by
  unfold dramEcc
  extract_lets -merge -underBinder +onlyGivenNames x0
  have k1 : Keeps s x0 := (keeps_event h)
  exact keeps_dramFail k1

theorem keeps_execDramEccError {s t : State} {a1 : Nat} {a2 : Option (Fin 8 × Fin 256 × Fin 4096 × Fin 4096)} (h : execDramEccError a1 a2 s = .next t) : Keeps s t := by
  unfold execDramEccError at h
  exact keeps_done (keeps_dramEcc (keeps_refl s)) h

theorem keeps_sramEcc {s t : State} {a1 : Nat} (h : Keeps s t) : Keeps s (sramEcc a1 t) := by
  unfold sramEcc
  exact keeps_fbRaise (keeps_event h)

theorem keeps_execSramEccError {s t : State} {a1 : BitVec 32} (h : execSramEccError a1 s = .next t) : Keeps s t := by
  unfold execSramEccError at h
  exact keeps_done (keeps_sramEcc (keeps_refl s)) h

/-! ### CmdBase -/

theorem keeps_regSetWith {s t : State} {a1 : Nat → List (Nat × Word) → State → State} {a2 : List (Nat × Word) → State → State} {a3 : Ctx} {a4 : List Nat} {a5 : Nat → Bool} {a6 : State → List (Nat × Word) → Nat} {a7 : Option (State → State)} (g1 : ∀ b1 b2 t', Keeps s t' → Keeps s (a1 b1 b2 t')) (g2 : ∀ b1 t', Keeps s t' → Keeps s (a2 b1 t')) (g7 : ∀ t', Keeps s t' → Keeps s (a7.getD id t')) (h : Keeps s t) : Keeps s (regSetWith a1 a2 a3 a4 a5 a6 a7 t) := by
  unfold regSetWith
  extract_lets -merge -underBinder +onlyGivenNames x0 x1
  (try clear_value x0 x1)
  exact (keeps_need (fun _ h2 => (keeps_ite (keeps_refuse h2) (keeps_ite (g1 _ _ _ h2) (by extract_lets -merge -underBinder +onlyGivenNames x3 x4 x6; (try clear_value x3); have k5 : Keeps s x4 := (g2 _ _ h2); have k7 : Keeps s x6 := (keeps_when (fun _ h8 => (g7 _ h8)) k5); exact (keeps_reply k7))))) h)

theorem keeps_writeWords {s t : State} {a1 : List (Nat × Word)} (h : Keeps s t) : Keeps s (writeWords a1 t) := by
  unfold writeWords
  exact keeps_forEach (fun _ _ h0 => (keeps_applyWord h0)) h

theorem keeps_regSet {s t : State} {a1 : Ctx} {a2 : List Nat} {a3 : Nat → Bool} {a4 : State → List (Nat × Word) → Nat} {a5 : Option (State → State)} (g5 : ∀ t', Keeps s t' → Keeps s (a5.getD id t')) (h : Keeps s t) : Keeps s (regSet a1 a2 a3 a4 a5 t) := by
  unfold regSet
  exact keeps_regSetWith (fun _ _ _ h0 => (keeps_refuse h0)) (fun _ _ h1 => (keeps_writeWords h1)) g5 h

theorem keeps_readBack {s t : State} {a1 : Ctx} {a2 : List Byte} (h : Keeps s t) : Keeps s (readBack a1 a2 t) := by
  unfold readBack
  exact keeps_respondTo h

/-! ### CmdSys -/

theorem keeps_bodySysInfo {s t : State} {a1 : Ctx} (h : Keeps s t) : Keeps s (bodySysInfo a1 t) := by
  unfold bodySysInfo
  exact keeps_readBack h

theorem keeps_bodySysStatus {s t : State} {a1 : Ctx} (h : Keeps s t) : Keeps s (bodySysStatus a1 t) := by
  unfold bodySysStatus
  exact keeps_readBack h

theorem keeps_followUp {s t : State} {a1 : Nat} {a2 : Nat} (h : Keeps s t) : Keeps s (followUp a1 a2 t) := by
  unfold followUp
  exact keeps_modPwr h

theorem keeps_bodySysReset {s t : State} {a1 : Ctx} (h : Keeps s t) : Keeps s (bodySysReset a1 t) := by
  unfold bodySysReset
  exact (keeps_need (fun _ h0 => (keeps_ite (keeps_refuse h0) (keeps_followUp (keeps_respondTo h0)))) h)

theorem keeps_bodySysProtect {s t : State} {a1 : Ctx} (h : Keeps s t) : Keeps s (bodySysProtect a1 t) := by
  unfold bodySysProtect
  exact (keeps_need (fun _ h0 => (keeps_need (fun _ h1 => (by extract_lets -merge -underBinder +onlyGivenNames x2 x3; (try clear_value x2 x3); exact (keeps_ite (keeps_refuse h1) (by extract_lets -merge -underBinder +onlyGivenNames x4; have k5 : Keeps s x4 := (keeps_forEach (fun _ _ h6 => (keeps_swWrite (keeps_swWrite h6))) h1); exact (keeps_respondTo (keeps_forEach (fun _ _ h7 => (keeps_wf h7)) k5)))))) h0)) h)

theorem keeps_bodySysMbxCfg {s t : State} {a1 : Ctx} (h : Keeps s t) : Keeps s (bodySysMbxCfg a1 t) := by
  unfold bodySysMbxCfg
  exact (keeps_need (fun _ h0 => (by extract_lets -merge -underBinder +onlyGivenNames x1; (try clear_value x1); exact (keeps_ite (keeps_refuse h0) (keeps_respondTo (keeps_forEach (fun _ _ h2 => (keeps_swWrite (keeps_wf (keeps_wf h2)))) h0))))) h)

theorem keeps_aliveReset {s t : State} {a1 : Nat} (h : Keeps s t) : Keeps s (aliveReset a1 t) := by
  unfold aliveReset
  exact keeps_mk h

theorem keeps_bodySysAliveReset {s t : State} {a1 : Ctx} (h : Keeps s t) : Keeps s (bodySysAliveReset a1 t) := by
  unfold bodySysAliveReset
  exact keeps_respondTo (keeps_forEach (fun _ _ h0 => (keeps_aliveReset h0)) h)

theorem keeps_bodyPwrGet {s t : State} {a1 : Ctx} (h : Keeps s t) : Keeps s (bodyPwrGet a1 t) := by
  unfold bodyPwrGet
  exact keeps_readBack h

theorem keeps_bodyPwrOff {s t : State} {a1 : Ctx} (h : Keeps s t) : Keeps s (bodyPwrOff a1 t) := by
  unfold bodyPwrOff
  exact keeps_followUp (keeps_respondTo h)

theorem keeps_bodyRasGet {s t : State} {a1 : Ctx} (h : Keeps s t) : Keeps s (bodyRasGet a1 t) := by
  unfold bodyRasGet
  exact keeps_readBack h

theorem keeps_bodyRasTiming {s t : State} {a1 : Ctx} (h : Keeps s t) : Keeps s (bodyRasTiming a1 t) := by
  unfold bodyRasTiming
  exact (keeps_need (fun _ h0 => (by extract_lets -merge -underBinder +onlyGivenNames x1 x2; (try clear_value x1 x2); exact (keeps_ite (keeps_refuse h0) (keeps_ite (keeps_refuse h0) (by extract_lets -merge -underBinder +onlyGivenNames x3 x5 x8 x10 x13; have k4 : Keeps s x3 := (keeps_wRas (keeps_wRas h0)); have k6 : Keeps s x5 := (keeps_when (fun _ h7 => (keeps_wf h7)) k4); have k9 : Keeps s x8 := (keeps_wf k6); have k11 : Keeps s x10 := (keeps_when (fun _ h12 => (keeps_wr h12)) k9); have k14 : Keeps s x13 := (keeps_timingCommit k11); exact (keeps_reply k14)))))) h)

theorem keeps_bodyRasEpoch {s t : State} {a1 : Ctx} (h : Keeps s t) : Keeps s (bodyRasEpoch a1 t) := by
  unfold bodyRasEpoch
  exact (keeps_need (fun _ h0 => (by extract_lets -merge -underBinder +onlyGivenNames x1 x2 x3 x5 x7; (try clear_value x1 x2); have k4 : Keeps s x3 := (keeps_wRas h0); have k6 : Keeps s x5 := (keeps_wRas (keeps_wRas k4)); have k8 : Keeps s x7 := (keeps_timingCommit k6); exact (keeps_reply k8))) h)

theorem keeps_bodyRasEnable {s t : State} {a1 : Ctx} (h : Keeps s t) : Keeps s (bodyRasEnable a1 t) := by
  unfold bodyRasEnable
  exact (keeps_need (fun _ h0 => (keeps_ite (keeps_refuse h0) (keeps_respondTo (keeps_rasEnable h0)))) h)

theorem keeps_bodyRasSyncCfg {s t : State} {a1 : Ctx} (h : Keeps s t) : Keeps s (bodyRasSyncCfg a1 t) := by
  unfold bodyRasSyncCfg
  exact keeps_regSet (fun _ h => h) h

theorem keeps_execSysInfo {s t : State} {a1 : Msg} (h : execSysInfo a1 s = .next t) : Keeps s t := by
  unfold execSysInfo at h
  exact keeps_done (keeps_serve (fun _ _ h0 => (keeps_bodySysInfo h0)) (keeps_rasterFirst (keeps_refl s))) h

theorem keeps_execSysStatus {s t : State} {a1 : Msg} (h : execSysStatus a1 s = .next t) : Keeps s t := by
  unfold execSysStatus at h
  exact keeps_done (keeps_serve (fun _ _ h0 => (keeps_bodySysStatus h0)) (keeps_rasterFirst (keeps_refl s))) h

theorem keeps_execSysReset {s t : State} {a1 : Msg} (h : execSysReset a1 s = .next t) : Keeps s t := by
  unfold execSysReset at h
  exact keeps_done (keeps_serve (fun _ _ h0 => (keeps_bodySysReset h0)) (keeps_rasterFirst (keeps_refl s))) h

theorem keeps_execSysProtect {s t : State} {a1 : Msg} (h : execSysProtect a1 s = .next t) : Keeps s t := by
  unfold execSysProtect at h
  exact keeps_done (keeps_serve (fun _ _ h0 => (keeps_bodySysProtect h0)) (keeps_rasterFirst (keeps_refl s))) h

theorem keeps_execSysMbxCfg {s t : State} {a1 : Msg} (h : execSysMbxCfg a1 s = .next t) : Keeps s t := by
  unfold execSysMbxCfg at h
  exact keeps_done (keeps_serve (fun _ _ h0 => (keeps_bodySysMbxCfg h0)) (keeps_rasterFirst (keeps_refl s))) h

theorem keeps_execSysAliveReset {s t : State} {a1 : Msg} (h : execSysAliveReset a1 s = .next t) : Keeps s t := by
  unfold execSysAliveReset at h
  exact keeps_done (keeps_serve (fun _ _ h0 => (keeps_bodySysAliveReset h0)) (keeps_rasterFirst (keeps_refl s))) h

theorem keeps_execPwrGet {s t : State} {a1 : Msg} (h : execPwrGet a1 s = .next t) : Keeps s t := by
  unfold execPwrGet at h
  exact keeps_done (keeps_serve (fun _ _ h0 => (keeps_bodyPwrGet h0)) (keeps_rasterFirst (keeps_refl s))) h

theorem keeps_execPwrOff {s t : State} {a1 : Msg} (h : execPwrOff a1 s = .next t) : Keeps s t := by
  unfold execPwrOff at h
  exact keeps_done (keeps_serve (fun _ _ h0 => (keeps_bodyPwrOff h0)) (keeps_rasterFirst (keeps_refl s))) h

theorem keeps_execRasGet {s t : State} {a1 : Msg} (h : execRasGet a1 s = .next t) : Keeps s t := by
  unfold execRasGet at h
  exact keeps_done (keeps_serve (fun _ _ h0 => (keeps_bodyRasGet h0)) (keeps_rasterFirst (keeps_refl s))) h

theorem keeps_execRasTiming {s t : State} {a1 : Msg} (h : execRasTiming a1 s = .next t) : Keeps s t := by
  unfold execRasTiming at h
  exact keeps_done (keeps_serve (fun _ _ h0 => (keeps_bodyRasTiming h0)) (keeps_rasterFirst (keeps_refl s))) h

theorem keeps_execRasEpoch {s t : State} {a1 : Msg} (h : execRasEpoch a1 s = .next t) : Keeps s t := by
  unfold execRasEpoch at h
  exact keeps_done (keeps_serve (fun _ _ h0 => (keeps_bodyRasEpoch h0)) (keeps_rasterFirst (keeps_refl s))) h

theorem keeps_execRasEnable {s t : State} {a1 : Msg} (h : execRasEnable a1 s = .next t) : Keeps s t := by
  unfold execRasEnable at h
  exact keeps_done (keeps_serve (fun _ _ h0 => (keeps_bodyRasEnable h0)) (keeps_rasterFirst (keeps_refl s))) h

theorem keeps_execRasSyncCfg {s t : State} {a1 : Msg} (h : execRasSyncCfg a1 s = .next t) : Keeps s t := by
  unfold execRasSyncCfg at h
  exact keeps_done (keeps_serve (fun _ _ h0 => (keeps_bodyRasSyncCfg h0)) (keeps_rasterFirst (keeps_refl s))) h

/-! ### CmdLayer -/

theorem keeps_bodyLayerGet {s t : State} {a1 : Ctx} (h : Keeps s t) : Keeps s (bodyLayerGet a1 t) := by
  unfold bodyLayerGet
  exact keeps_readBack h

theorem keeps_bodyLayerSet {s t : State} {a1 : Ctx} (h : Keeps s t) : Keeps s (bodyLayerSet a1 t) := by
  unfold bodyLayerSet
  extract_lets -merge -underBinder +onlyGivenNames x0
  (try clear_value x0)
  exact keeps_regSet (fun _ h1 => (keeps_layerCommit h1)) h

theorem keeps_bodyCanvasSet {s t : State} {a1 : Ctx} (h : Keeps s t) : Keeps s (bodyCanvasSet a1 t) := by
  unfold bodyCanvasSet
  exact keeps_regSet (fun _ h0 => (keeps_globalCommit h0)) h

theorem keeps_bankLoad {s t : State} {a1 : Ctx} {a2 : Bool} {a3 : Nat} {a4 : Nat} {a5 : Bulk} (h : Keeps s t) : Keeps s (bankLoad a1 a2 a3 a4 a5 t) := by
  unfold bankLoad
  exact keeps_ite (keeps_refuse h) (keeps_ite (keeps_refuse h) (keeps_respondTo (keeps_putBytes h)))

theorem keeps_bodyLutLoad {s t : State} {a1 : Ctx} (h : Keeps s t) : Keeps s (bodyLutLoad a1 t) := by
  unfold bodyLutLoad
  exact (keeps_withData (fun _ _ h0 => (by extract_lets -merge -underBinder +onlyGivenNames x1 x2; (try clear_value x1 x2); exact (keeps_ite (keeps_refuse h0) (keeps_bankLoad h0)))) h)

theorem keeps_makeSurf {s t : State} {a1 : Nat} {a2 : Nat} {a3 : Nat} {a4 : Nat} {a5 : Nat} {a6 : Nat} {a7 : Nat} (h : Keeps s t) : Keeps s (makeSurf a1 a2 a3 a4 a5 a6 a7 t) := by
  unfold makeSurf
  extract_lets -merge -underBinder +onlyGivenNames x0 x2
  have k1 : Keeps s x0 := (keeps_wr h)
  have k3 : Keeps s x2 := (keeps_wr (keeps_wr k1))
  exact keeps_poolShow (keeps_modSurf k3)

theorem keeps_bodySurfCreate {s t : State} {a1 : Ctx} (h : Keeps s t) : Keeps s (bodySurfCreate a1 t) := by
  unfold bodySurfCreate
  exact (keeps_need (fun _ h0 => (by extract_lets -merge -underBinder +onlyGivenNames x1 x2 x3 x4 x5 x6; (try clear_value x1 x2 x3 x4 x5 x6); exact (keeps_ite (keeps_refuse h0) (by split; exacts [(keeps_noSpace h0), (by extract_lets -merge -underBinder +onlyGivenNames x7; (try clear_value x7); exact (keeps_ite (keeps_refuse h0) (by split; exacts [(keeps_noSpace h0), (keeps_respondTo (keeps_makeSurf h0))])))])))) h)

theorem keeps_bodySurfDestroy {s t : State} {a1 : Ctx} (h : Keeps s t) : Keeps s (bodySurfDestroy a1 t) := by
  unfold bodySurfDestroy
  extract_lets -merge -underBinder +onlyGivenNames x0
  (try clear_value x0)
  exact keeps_ite (keeps_refuse h) (keeps_respondTo (keeps_destroySurf h))

theorem keeps_bodySurfWrite {s t : State} {a1 : Ctx} (h : Keeps s t) : Keeps s (bodySurfWrite a1 t) := by
  unfold bodySurfWrite
  extract_lets -merge -underBinder +onlyGivenNames x0
  (try clear_value x0)
  exact (keeps_withData (fun _ _ h1 => (keeps_ite (keeps_refuse h1) (keeps_ite (keeps_refuse h1) (keeps_respondTo (keeps_when (fun _ h2 => (keeps_setBuf h2)) (keeps_putBytes h1)))))) h)

theorem keeps_bodySurfPublish {s t : State} {a1 : Ctx} (h : Keeps s t) : Keeps s (bodySurfPublish a1 t) := by
  unfold bodySurfPublish
  extract_lets -merge -underBinder +onlyGivenNames x0
  (try clear_value x0)
  exact (keeps_need (fun _ h1 => (keeps_ite (keeps_refuse h1) (keeps_ite (keeps_refuse h1) (keeps_reply (keeps_useFree (keeps_publishBuf h1)))))) h)

theorem keeps_bodySurfPool {s t : State} {a1 : Ctx} (h : Keeps s t) : Keeps s (bodySurfPool a1 t) := by
  unfold bodySurfPool
  exact (keeps_need (fun _ h0 => (by extract_lets -merge -underBinder +onlyGivenNames x1 x2; (try clear_value x1 x2); exact (keeps_ite (keeps_refuse h0) (keeps_ite (keeps_refuse h0) (keeps_respondTo (keeps_poolShow (keeps_wf (keeps_wf h0)))))))) h)

theorem keeps_execLayerGet {s t : State} {a1 : Msg} (h : execLayerGet a1 s = .next t) : Keeps s t := by
  unfold execLayerGet at h
  exact keeps_done (keeps_serve (fun _ _ h0 => (keeps_bodyLayerGet h0)) (keeps_rasterFirst (keeps_refl s))) h

theorem keeps_execLayerSet {s t : State} {a1 : Msg} (h : execLayerSet a1 s = .next t) : Keeps s t := by
  unfold execLayerSet at h
  exact keeps_done (keeps_serve (fun _ _ h0 => (keeps_bodyLayerSet h0)) (keeps_rasterFirst (keeps_refl s))) h

theorem keeps_execCanvasSet {s t : State} {a1 : Msg} (h : execCanvasSet a1 s = .next t) : Keeps s t := by
  unfold execCanvasSet at h
  exact keeps_done (keeps_serve (fun _ _ h0 => (keeps_bodyCanvasSet h0)) (keeps_rasterFirst (keeps_refl s))) h

theorem keeps_execLutLoad {s t : State} {a1 : Msg} (h : execLutLoad a1 s = .next t) : Keeps s t := by
  unfold execLutLoad at h
  exact keeps_done (keeps_serve (fun _ _ h0 => (keeps_bodyLutLoad h0)) (keeps_rasterFirst (keeps_refl s))) h

theorem keeps_execSurfCreate {s t : State} {a1 : Msg} (h : execSurfCreate a1 s = .next t) : Keeps s t := by
  unfold execSurfCreate at h
  exact keeps_done (keeps_serve (fun _ _ h0 => (keeps_bodySurfCreate h0)) (keeps_rasterFirst (keeps_refl s))) h

theorem keeps_execSurfDestroy {s t : State} {a1 : Msg} (h : execSurfDestroy a1 s = .next t) : Keeps s t := by
  unfold execSurfDestroy at h
  exact keeps_done (keeps_serve (fun _ _ h0 => (keeps_bodySurfDestroy h0)) (keeps_rasterFirst (keeps_refl s))) h

theorem keeps_execSurfWrite {s t : State} {a1 : Msg} (h : execSurfWrite a1 s = .next t) : Keeps s t := by
  unfold execSurfWrite at h
  exact keeps_done (keeps_serve (fun _ _ h0 => (keeps_bodySurfWrite h0)) (keeps_rasterFirst (keeps_refl s))) h

theorem keeps_execSurfPublish {s t : State} {a1 : Msg} (h : execSurfPublish a1 s = .next t) : Keeps s t := by
  unfold execSurfPublish at h
  exact keeps_done (keeps_serve (fun _ _ h0 => (keeps_bodySurfPublish h0)) (keeps_rasterFirst (keeps_refl s))) h

theorem keeps_execSurfPool {s t : State} {a1 : Msg} (h : execSurfPool a1 s = .next t) : Keeps s t := by
  unfold execSurfPool at h
  exact keeps_done (keeps_serve (fun _ _ h0 => (keeps_bodySurfPool h0)) (keeps_rasterFirst (keeps_refl s))) h

/-! ### CmdBeam -/

theorem keeps_bodyBeamGet {s t : State} {a1 : Ctx} (h : Keeps s t) : Keeps s (bodyBeamGet a1 t) := by
  unfold bodyBeamGet
  exact keeps_readBack h

theorem keeps_bodyListPut {s t : State} {a1 : Ctx} (h : Keeps s t) : Keeps s (bodyListPut a1 t) := by
  unfold bodyListPut
  extract_lets -merge -underBinder +onlyGivenNames x0 x1 x2 x3
  (try clear_value x0 x1 x2)
  have k4 : Keeps s x3 := (keeps_listIn h)
  exact keeps_ite (keeps_refuse k4) (keeps_ite (keeps_respondTo k4) (keeps_ite (keeps_refuse k4) (keeps_refuse k4)))

theorem keeps_bodyBeamCfg {s t : State} {a1 : Ctx} (h : Keeps s t) : Keeps s (bodyBeamCfg a1 t) := by
  unfold bodyBeamCfg
  exact keeps_regSet (fun _ h0 => (keeps_beamCommit h0)) h

theorem keeps_placeLoad {s : State} {a1 : Ctx} {a2 : Nat} {a3 : Nat} {a4 : Nat} {a5 : Nat} {a6 : List (Nat × Nat)} {t7 : State} {t8 : State} (h7 : Keeps s t7) (h8 : Keeps s t8) : Keeps s (placeLoad a1 a2 a3 a4 a5 a6 t7 t8) := by
  unfold placeLoad
  extract_lets -merge -underBinder +onlyGivenNames x0
  (try clear_value x0)
  exact by split; exacts [(keeps_noSpace h8), (keeps_respondTo (keeps_startLoad h7))]

theorem keeps_setPat {s t : State} {a1 : Nat} {a2 : Option (Nat × Nat × Nat)} (h : Keeps s t) : Keeps s (setPat a1 a2 t) := by
  unfold setPat
  exact keeps_wb (keeps_mk h)

theorem keeps_bodyPatLoad {s t : State} {a1 : Ctx} (h : Keeps s t) : Keeps s (bodyPatLoad a1 t) := by
  unfold bodyPatLoad
  exact (keeps_withBulk (fun _ _ h0 => (keeps_ite (keeps_refuse h0) (keeps_ite (keeps_refuse h0) (keeps_staged (fun _ _ h1 => (keeps_ite (keeps_refuse h1) (by extract_lets -merge -underBinder +onlyGivenNames x2; have k3 : Keeps s x2 := (keeps_dropLoad (keeps_setPat h1)); exact (keeps_placeLoad k3 h1)))) (fun _ _ _ h4 => (keeps_respondTo (keeps_setPat (keeps_putBytes h4)))) h0)))) h)

theorem keeps_setGlyph {s t : State} {a1 : Nat} {a2 : Option (Nat × Nat × Nat)} (h : Keeps s t) : Keeps s (setGlyph a1 a2 t) := by
  unfold setGlyph
  extract_lets -merge -underBinder +onlyGivenNames x0 x1
  (try clear_value x0)
  have k2 : Keeps s x1 := (keeps_wb (keeps_mk h))
  exact by split; exacts [(keeps_wr k2), k2]

theorem keeps_bodyGlyphLoad {s t : State} {a1 : Ctx} (h : Keeps s t) : Keeps s (bodyGlyphLoad a1 t) := by
  unfold bodyGlyphLoad
  exact (keeps_withBulk (fun _ _ h0 => (keeps_ite (keeps_refuse h0) (keeps_ite (keeps_refuse h0) (keeps_staged (fun _ _ h1 => (by extract_lets -merge -underBinder +onlyGivenNames x2 x3; (try clear_value x2 x3); exact (keeps_ite (keeps_refuse h1) (keeps_ite (keeps_refuse h1) (by extract_lets -merge -underBinder +onlyGivenNames x4; have k5 : Keeps s x4 := (keeps_dropLoad (keeps_setGlyph h1)); exact (keeps_placeLoad k5 h1)))))) (fun _ _ _ h6 => (keeps_respondTo (keeps_setGlyph (keeps_putBytes h6)))) h0)))) h)

theorem keeps_bodyGridLoad {s t : State} {a1 : Ctx} (h : Keeps s t) : Keeps s (bodyGridLoad a1 t) := by
  unfold bodyGridLoad
  exact (keeps_withBulk (fun _ _ h0 => (keeps_ite (keeps_refuse h0) (keeps_ite (keeps_refuse h0) (keeps_staged (fun _ _ h1 => (keeps_ite (keeps_refuse h1) (keeps_respondTo (keeps_startLoad h1)))) (fun _ _ _ h2 => (keeps_respondTo (keeps_putBytes h2))) h0)))) h)

theorem keeps_lookAhead {s t : State} {a1 : Bool} (h : Keeps s t) : Keeps s (lookAhead a1 t) := by
  unfold lookAhead
  exact keeps_mk h

theorem keeps_bodyLaEnter {s t : State} {a1 : Ctx} (h : Keeps s t) : Keeps s (bodyLaEnter a1 t) := by
  unfold bodyLaEnter
  exact (keeps_need (fun _ h0 => (keeps_ite (keeps_refuse h0) (keeps_respondTo (keeps_lookAhead (keeps_when (fun _ h1 => (keeps_swWrite h1)) h0))))) h)

theorem keeps_bodyLaExit {s t : State} {a1 : Ctx} (h : Keeps s t) : Keeps s (bodyLaExit a1 t) := by
  unfold bodyLaExit
  exact keeps_respondTo (keeps_lookAhead h)

theorem keeps_bodyLaTol {s t : State} {a1 : Ctx} (h : Keeps s t) : Keeps s (bodyLaTol a1 t) := by
  unfold bodyLaTol
  exact (keeps_need (fun _ h0 => (keeps_ite (keeps_refuse h0) (keeps_respondTo (keeps_swWrite h0)))) h)

theorem keeps_bodyLaStatus {s t : State} {a1 : Ctx} (h : Keeps s t) : Keeps s (bodyLaStatus a1 t) := by
  unfold bodyLaStatus
  exact keeps_readBack h

theorem keeps_execBeamGet {s t : State} {a1 : Msg} (h : execBeamGet a1 s = .next t) : Keeps s t := by
  unfold execBeamGet at h
  exact keeps_done (keeps_serve (fun _ _ h0 => (keeps_bodyBeamGet h0)) (keeps_rasterFirst (keeps_refl s))) h

theorem keeps_execListPut {s t : State} {a1 : Msg} (h : execListPut a1 s = .next t) : Keeps s t := by
  unfold execListPut at h
  exact keeps_done (keeps_serve (fun _ _ h0 => (keeps_bodyListPut h0)) (keeps_rasterFirst (keeps_refl s))) h

theorem keeps_execBeamCfg {s t : State} {a1 : Msg} (h : execBeamCfg a1 s = .next t) : Keeps s t := by
  unfold execBeamCfg at h
  exact keeps_done (keeps_serve (fun _ _ h0 => (keeps_bodyBeamCfg h0)) (keeps_rasterFirst (keeps_refl s))) h

theorem keeps_execPatLoad {s t : State} {a1 : Msg} (h : execPatLoad a1 s = .next t) : Keeps s t := by
  unfold execPatLoad at h
  exact keeps_done (keeps_serve (fun _ _ h0 => (keeps_bodyPatLoad h0)) (keeps_rasterFirst (keeps_refl s))) h

theorem keeps_execGlyphLoad {s t : State} {a1 : Msg} (h : execGlyphLoad a1 s = .next t) : Keeps s t := by
  unfold execGlyphLoad at h
  exact keeps_done (keeps_serve (fun _ _ h0 => (keeps_bodyGlyphLoad h0)) (keeps_rasterFirst (keeps_refl s))) h

theorem keeps_execGridLoad {s t : State} {a1 : Msg} (h : execGridLoad a1 s = .next t) : Keeps s t := by
  unfold execGridLoad at h
  exact keeps_done (keeps_serve (fun _ _ h0 => (keeps_bodyGridLoad h0)) (keeps_rasterFirst (keeps_refl s))) h

theorem keeps_execLaEnter {s t : State} {a1 : Msg} (h : execLaEnter a1 s = .next t) : Keeps s t := by
  unfold execLaEnter at h
  exact keeps_done (keeps_serve (fun _ _ h0 => (keeps_bodyLaEnter h0)) (keeps_rasterFirst (keeps_refl s))) h

theorem keeps_execLaExit {s t : State} {a1 : Msg} (h : execLaExit a1 s = .next t) : Keeps s t := by
  unfold execLaExit at h
  exact keeps_done (keeps_serve (fun _ _ h0 => (keeps_bodyLaExit h0)) (keeps_rasterFirst (keeps_refl s))) h

theorem keeps_execLaTol {s t : State} {a1 : Msg} (h : execLaTol a1 s = .next t) : Keeps s t := by
  unfold execLaTol at h
  exact keeps_done (keeps_serve (fun _ _ h0 => (keeps_bodyLaTol h0)) (keeps_rasterFirst (keeps_refl s))) h

theorem keeps_execLaStatus {s t : State} {a1 : Msg} (h : execLaStatus a1 s = .next t) : Keeps s t := by
  unfold execLaStatus at h
  exact keeps_done (keeps_serve (fun _ _ h0 => (keeps_bodyLaStatus h0)) (keeps_rasterFirst (keeps_refl s))) h

/-! ### CmdCorr -/

theorem keeps_bodyCorrRead {s t : State} {a1 : Ctx} (h : Keeps s t) : Keeps s (bodyCorrRead a1 t) := by
  unfold bodyCorrRead
  exact (keeps_need (fun _ h0 => (by extract_lets -merge -underBinder +onlyGivenNames x1 x2; (try clear_value x1 x2); exact (keeps_ite (keeps_refuse h0) (keeps_readBack h0)))) h)

theorem keeps_bodyCorrStage {s t : State} {a1 : Ctx} (h : Keeps s t) : Keeps s (bodyCorrStage a1 t) := by
  unfold bodyCorrStage
  exact (keeps_withData (fun _ _ h0 => (keeps_ite (keeps_refuse h0) (keeps_respondTo (keeps_putBytes h0)))) h)

theorem keeps_segRange {s t : State} {a1 : Ctx} {a2 : Nat} {a3 : Nat → Nat → State → State} (g3 : ∀ b1 b2 t', Keeps s t' → Keeps s (a3 b1 b2 t')) (h : Keeps s t) : Keeps s (segRange a1 a2 a3 t) := by
  unfold segRange
  exact (keeps_need (fun _ h0 => (by extract_lets -merge -underBinder +onlyGivenNames x1 x2; (try clear_value x1 x2); exact (keeps_ite (keeps_refuse h0) (keeps_ite (keeps_refuse h0) (g3 _ _ _ h0))))) h)

theorem keeps_bodyCorrApply {s t : State} {a1 : Ctx} (h : Keeps s t) : Keeps s (bodyCorrApply a1 t) := by
  unfold bodyCorrApply
  exact (keeps_segRange (fun _ _ _ h0 => (by extract_lets -merge -underBinder +onlyGivenNames x1; (try clear_value x1); exact (keeps_ite (keeps_refuse h0) (keeps_applyAccept (keeps_acceptOp h0))))) h)

theorem keeps_bodyCorrSave {s t : State} {a1 : Ctx} (h : Keeps s t) : Keeps s (bodyCorrSave a1 t) := by
  unfold bodyCorrSave
  exact (keeps_segRange (fun _ _ _ h0 => (keeps_ite (keeps_refuse h0) (by extract_lets -merge -underBinder +onlyGivenNames x1; have k2 : Keeps s x1 := (keeps_acceptOp h0); exact (keeps_wb (keeps_mk k2))))) h)

theorem keeps_bodyCorrCfg {s t : State} {a1 : Ctx} (h : Keeps s t) : Keeps s (bodyCorrCfg a1 t) := by
  unfold bodyCorrCfg
  exact keeps_regSet (fun _ h0 => (keeps_corrCommit h0)) h

theorem keeps_bodyCurveLoad {s t : State} {a1 : Ctx} (h : Keeps s t) : Keeps s (bodyCurveLoad a1 t) := by
  unfold bodyCurveLoad
  exact (keeps_withData (fun _ _ h0 => (by extract_lets -merge -underBinder +onlyGivenNames x1; (try clear_value x1); exact (keeps_ite (keeps_refuse h0) (keeps_bankLoad h0)))) h)

theorem keeps_bodySegCfg {s t : State} {a1 : Ctx} (h : Keeps s t) : Keeps s (bodySegCfg a1 t) := by
  unfold bodySegCfg
  exact keeps_regSet (fun _ h => h) h

theorem keeps_bodyHealthGet {s t : State} {a1 : Ctx} (h : Keeps s t) : Keeps s (bodyHealthGet a1 t) := by
  unfold bodyHealthGet
  exact keeps_ite (keeps_readBack h) (keeps_readBack h)

theorem keeps_bodyMapRead {s t : State} {a1 : Ctx} (h : Keeps s t) : Keeps s (bodyMapRead a1 t) := by
  unfold bodyMapRead
  exact (keeps_need (fun _ h0 => (by extract_lets -merge -underBinder +onlyGivenNames x1 x2; (try clear_value x1 x2); exact (keeps_ite (keeps_refuse h0) (keeps_readBack h0)))) h)

theorem keeps_clearLamp {s t : State} {a1 : Nat} (h : Keeps s t) : Keeps s (clearLamp a1 t) := by
  unfold clearLamp
  exact keeps_setLamp (keeps_setClass h)

theorem keeps_bodyHealthClear {s t : State} {a1 : Ctx} (h : Keeps s t) : Keeps s (bodyHealthClear a1 t) := by
  unfold bodyHealthClear
  exact (keeps_need (fun _ h0 => (by extract_lets -merge -underBinder +onlyGivenNames x1 x2; (try clear_value x1 x2); exact (keeps_ite (keeps_refuse h0) (by extract_lets -merge -underBinder +onlyGivenNames x3 x4; (try clear_value x3 x4); exact (keeps_respondTo (keeps_forEach (fun _ _ h5 => (keeps_faultEval (keeps_forEach (fun _ _ h6 => (keeps_clearLamp h6)) h5))) h0)))))) h)

theorem keeps_bodyVfCapture {s t : State} {a1 : Ctx} (h : Keeps s t) : Keeps s (bodyVfCapture a1 t) := by
  unfold bodyVfCapture
  exact (keeps_segRange (fun _ _ _ h0 => (keeps_ite (keeps_refuse h0) (keeps_captureStart (keeps_acceptOp h0)))) h)

theorem keeps_bodyHealthSave {s t : State} {a1 : Ctx} (h : Keeps s t) : Keeps s (bodyHealthSave a1 t) := by
  unfold bodyHealthSave
  exact keeps_need (fun _ h0 => (keeps_acceptOp h0)) h

theorem keeps_bodyHealthCfg {s t : State} {a1 : Ctx} (h : Keeps s t) : Keeps s (bodyHealthCfg a1 t) := by
  unfold bodyHealthCfg
  exact keeps_regSet (fun _ h => h) h

theorem keeps_bodySupGet {s t : State} {a1 : Ctx} (h : Keeps s t) : Keeps s (bodySupGet a1 t) := by
  unfold bodySupGet
  exact keeps_readBack h

theorem keeps_bodySupCfg {s t : State} {a1 : Ctx} (h : Keeps s t) : Keeps s (bodySupCfg a1 t) := by
  unfold bodySupCfg
  exact keeps_regSet (fun _ h => h) h

theorem keeps_bodySupRestart {s t : State} {a1 : Ctx} (h : Keeps s t) : Keeps s (bodySupRestart a1 t) := by
  unfold bodySupRestart
  exact keeps_respondTo (keeps_supRestart h)

theorem keeps_bodySupLimit {s t : State} {a1 : Ctx} (h : Keeps s t) : Keeps s (bodySupLimit a1 t) := by
  unfold bodySupLimit
  exact (keeps_need (fun _ h0 => (keeps_ite (keeps_refuse h0) (keeps_reply (keeps_applyWord h0)))) h)

theorem keeps_execCorrRead {s t : State} {a1 : Msg} (h : execCorrRead a1 s = .next t) : Keeps s t := by
  unfold execCorrRead at h
  exact keeps_done (keeps_serve (fun _ _ h0 => (keeps_bodyCorrRead h0)) (keeps_rasterFirst (keeps_refl s))) h

theorem keeps_execCorrStage {s t : State} {a1 : Msg} (h : execCorrStage a1 s = .next t) : Keeps s t := by
  unfold execCorrStage at h
  exact keeps_done (keeps_serve (fun _ _ h0 => (keeps_bodyCorrStage h0)) (keeps_rasterFirst (keeps_refl s))) h

theorem keeps_execCorrApply {s t : State} {a1 : Msg} (h : execCorrApply a1 s = .next t) : Keeps s t := by
  unfold execCorrApply at h
  exact keeps_done (keeps_serve (fun _ _ h0 => (keeps_bodyCorrApply h0)) (keeps_rasterFirst (keeps_refl s))) h

theorem keeps_execCorrSave {s t : State} {a1 : Msg} (h : execCorrSave a1 s = .next t) : Keeps s t := by
  unfold execCorrSave at h
  exact keeps_done (keeps_serve (fun _ _ h0 => (keeps_bodyCorrSave h0)) (keeps_rasterFirst (keeps_refl s))) h

theorem keeps_execCorrCfg {s t : State} {a1 : Msg} (h : execCorrCfg a1 s = .next t) : Keeps s t := by
  unfold execCorrCfg at h
  exact keeps_done (keeps_serve (fun _ _ h0 => (keeps_bodyCorrCfg h0)) (keeps_rasterFirst (keeps_refl s))) h

theorem keeps_execCurveLoad {s t : State} {a1 : Msg} (h : execCurveLoad a1 s = .next t) : Keeps s t := by
  unfold execCurveLoad at h
  exact keeps_done (keeps_serve (fun _ _ h0 => (keeps_bodyCurveLoad h0)) (keeps_rasterFirst (keeps_refl s))) h

theorem keeps_execSegCfg {s t : State} {a1 : Msg} (h : execSegCfg a1 s = .next t) : Keeps s t := by
  unfold execSegCfg at h
  exact keeps_done (keeps_serve (fun _ _ h0 => (keeps_bodySegCfg h0)) (keeps_rasterFirst (keeps_refl s))) h

theorem keeps_execHealthGet {s t : State} {a1 : Msg} (h : execHealthGet a1 s = .next t) : Keeps s t := by
  unfold execHealthGet at h
  exact keeps_done (keeps_serve (fun _ _ h0 => (keeps_bodyHealthGet h0)) (keeps_rasterFirst (keeps_refl s))) h

theorem keeps_execMapRead {s t : State} {a1 : Msg} (h : execMapRead a1 s = .next t) : Keeps s t := by
  unfold execMapRead at h
  exact keeps_done (keeps_serve (fun _ _ h0 => (keeps_bodyMapRead h0)) (keeps_rasterFirst (keeps_refl s))) h

theorem keeps_execHealthClear {s t : State} {a1 : Msg} (h : execHealthClear a1 s = .next t) : Keeps s t := by
  unfold execHealthClear at h
  exact keeps_done (keeps_serve (fun _ _ h0 => (keeps_bodyHealthClear h0)) (keeps_rasterFirst (keeps_refl s))) h

theorem keeps_execVfCapture {s t : State} {a1 : Msg} (h : execVfCapture a1 s = .next t) : Keeps s t := by
  unfold execVfCapture at h
  exact keeps_done (keeps_serve (fun _ _ h0 => (keeps_bodyVfCapture h0)) (keeps_rasterFirst (keeps_refl s))) h

theorem keeps_execHealthSave {s t : State} {a1 : Msg} (h : execHealthSave a1 s = .next t) : Keeps s t := by
  unfold execHealthSave at h
  exact keeps_done (keeps_serve (fun _ _ h0 => (keeps_bodyHealthSave h0)) (keeps_rasterFirst (keeps_refl s))) h

theorem keeps_execHealthCfg {s t : State} {a1 : Msg} (h : execHealthCfg a1 s = .next t) : Keeps s t := by
  unfold execHealthCfg at h
  exact keeps_done (keeps_serve (fun _ _ h0 => (keeps_bodyHealthCfg h0)) (keeps_rasterFirst (keeps_refl s))) h

theorem keeps_execSupGet {s t : State} {a1 : Msg} (h : execSupGet a1 s = .next t) : Keeps s t := by
  unfold execSupGet at h
  exact keeps_done (keeps_serve (fun _ _ h0 => (keeps_bodySupGet h0)) (keeps_rasterFirst (keeps_refl s))) h

theorem keeps_execSupCfg {s t : State} {a1 : Msg} (h : execSupCfg a1 s = .next t) : Keeps s t := by
  unfold execSupCfg at h
  exact keeps_done (keeps_serve (fun _ _ h0 => (keeps_bodySupCfg h0)) (keeps_rasterFirst (keeps_refl s))) h

theorem keeps_execSupRestart {s t : State} {a1 : Msg} (h : execSupRestart a1 s = .next t) : Keeps s t := by
  unfold execSupRestart at h
  exact keeps_done (keeps_serve (fun _ _ h0 => (keeps_bodySupRestart h0)) (keeps_rasterFirst (keeps_refl s))) h

theorem keeps_execSupLimit {s t : State} {a1 : Msg} (h : execSupLimit a1 s = .next t) : Keeps s t := by
  unfold execSupLimit at h
  exact keeps_done (keeps_serve (fun _ _ h0 => (keeps_bodySupLimit h0)) (keeps_rasterFirst (keeps_refl s))) h

end Sys2Proof.Machine
end

