-- ==== Sys2Proof/Laws/Keeps6.lean ====
section
/-! SUPPORT. What the functions of these files of Machine/ keep (`Keeps`): CmdPolLink, CmdFab, CmdReg, Dequeue, Tick, Ordered. -/
namespace Sys2Proof.Machine

/-! ### CmdPolLink -/

theorem keeps_bodyPolGet {s t : State} {a1 : Ctx} (h : Keeps s t) : Keeps s (bodyPolGet a1 t) := by
  unfold bodyPolGet
  exact keeps_readBack h

theorem keeps_bodyPolSet {s t : State} {a1 : Ctx} (h : Keeps s t) : Keeps s (bodyPolSet a1 t) := by
  unfold bodyPolSet
  exact keeps_regSet (fun _ h0 => (keeps_polCommit h0)) h

theorem keeps_bodyFbRaise {s t : State} {a1 : Ctx} (h : Keeps s t) : Keeps s (bodyFbRaise a1 t) := by
  unfold bodyFbRaise
  exact (keeps_need (fun _ h0 => (keeps_ite (keeps_refuse h0) (keeps_reply (keeps_fbRaise h0)))) h)

theorem keeps_bodyFbClear {s t : State} {a1 : Ctx} (h : Keeps s t) : Keeps s (bodyFbClear a1 t) := by
  unfold bodyFbClear
  exact keeps_ite (keeps_refuse (keeps_count h)) (keeps_reply (keeps_fbClear h))

theorem keeps_bodyLinkGet {s t : State} {a1 : Ctx} (h : Keeps s t) : Keeps s (bodyLinkGet a1 t) := by
  unfold bodyLinkGet
  exact keeps_readBack h

theorem keeps_streamNoSpace {s t : State} {a1 : Ctx} {a2 : Nat} (h : Keeps s t) : Keeps s (streamNoSpace a1 a2 t) := by
  unfold streamNoSpace
  exact keeps_noSpace h

theorem keeps_streamEnable {s t : State} {a1 : Ctx} {a2 : Nat} {a3 : Bool} (h : Keeps s t) : Keeps s (streamEnable a1 a2 a3 t) := by
  unfold streamEnable
  extract_lets -merge -underBinder +onlyGivenNames x0
  (try clear_value x0)
  exact keeps_ite (keeps_streamNoSpace h) (keeps_ite (keeps_refuse h) (keeps_respondTo (keeps_streamEn h)))

theorem keeps_netEnable {s t : State} {a1 : Nat} {a2 : Bool} (h : Keeps s t) : Keeps s (netEnable a1 a2 t) := by
  unfold netEnable
  exact keeps_ite (keeps_macCtrl h) (keeps_canCtrl (keeps_wb h))

theorem keeps_bodyLinkEnable {s t : State} {a1 : Ctx} (h : Keeps s t) : Keeps s (bodyLinkEnable a1 t) := by
  unfold bodyLinkEnable
  exact (keeps_need (fun _ h0 => (by extract_lets -merge -underBinder +onlyGivenNames x1 x2; (try clear_value x1 x2); exact (keeps_ite (keeps_refuse h0) (keeps_ite (keeps_need (fun _ h3 => (by extract_lets -merge -underBinder +onlyGivenNames x4; (try clear_value x4); exact (keeps_ite (keeps_refuse h3) (keeps_respondTo (keeps_linkEn (keeps_when (fun _ h5 => (keeps_wf h5)) h3)))))) h0) (keeps_ite (keeps_streamEnable h0) (keeps_respondTo (keeps_netEnable h0))))))) h)

theorem keeps_groupRestart {s t : State} {a1 : Nat} (h : Keeps s t) : Keeps s (groupRestart a1 t) := by
  unfold groupRestart
  exact keeps_newSeries (keeps_when (fun _ h0 => (keeps_grpLost h0)) h)

theorem keeps_bodyLinkRetrain {s t : State} {a1 : Ctx} (h : Keeps s t) : Keeps s (bodyLinkRetrain a1 t) := by
  unfold bodyLinkRetrain
  exact (keeps_ite (by extract_lets -merge -underBinder +onlyGivenNames x0; (try clear_value x0); exact (keeps_ite (keeps_refuse h) (keeps_respondTo (keeps_forEach (fun _ _ h1 => (keeps_linkRetrain h1)) h)))) (by extract_lets -merge -underBinder +onlyGivenNames x2 x3; (try clear_value x2 x3); exact (keeps_ite (keeps_refuse h) (keeps_ite (keeps_refuse h) (keeps_respondTo (keeps_forEach (fun _ _ h4 => (keeps_groupRestart h4)) h))))))

theorem keeps_streamWrite {s t : State} {a1 : Nat} {a2 : List (Nat × Word)} (h : Keeps s t) : Keeps s (streamWrite a1 a2 t) := by
  unfold streamWrite
  exact keeps_writeWords (keeps_writeWords h)

theorem keeps_bodyStreamCfg {s t : State} {a1 : Ctx} (h : Keeps s t) : Keeps s (bodyStreamCfg a1 t) := by
  unfold bodyStreamCfg
  extract_lets -merge -underBinder +onlyGivenNames x0
  (try clear_value x0)
  exact keeps_regSetWith (fun _ _ _ h1 => (keeps_ite (keeps_noSpace h1) (keeps_refuse h1))) (fun _ _ h2 => (keeps_streamWrite h2)) (fun _ h => h) h

theorem keeps_bodyQuadCfg {s t : State} {a1 : Ctx} (h : Keeps s t) : Keeps s (bodyQuadCfg a1 t) := by
  unfold bodyQuadCfg
  exact (keeps_need (fun _ h0 => (by extract_lets -merge -underBinder +onlyGivenNames x1; (try clear_value x1); exact (keeps_ite (keeps_refuse h0) (keeps_ite (keeps_refuse h0) (keeps_respondTo (keeps_quadCfg h0)))))) h)

theorem keeps_bodyLaneTest {s t : State} {a1 : Ctx} (h : Keeps s t) : Keeps s (bodyLaneTest a1 t) := by
  unfold bodyLaneTest
  exact (keeps_need (fun _ h0 => (by extract_lets -merge -underBinder +onlyGivenNames x1 x2 x3; (try clear_value x1 x2 x3); exact (keeps_ite (keeps_refuse h0) (keeps_ite (keeps_refuse h0) (keeps_respondTo (keeps_applyWord (keeps_applyWord h0))))))) h)

theorem keeps_bodyNetCfg {s t : State} {a1 : Ctx} (h : Keeps s t) : Keeps s (bodyNetCfg a1 t) := by
  unfold bodyNetCfg
  extract_lets -merge -underBinder +onlyGivenNames x0
  (try clear_value x0)
  exact keeps_regSet (fun _ h => h) h

theorem keeps_segDarkNext {s t : State} {a1 : Nat} (h : Keeps s t) : Keeps s (segDarkNext a1 t) := by
  unfold segDarkNext
  exact keeps_ite (keeps_modLink h) (keeps_blankOut h)

theorem keeps_bodySegBlank {s t : State} {a1 : Ctx} (h : Keeps s t) : Keeps s (bodySegBlank a1 t) := by
  unfold bodySegBlank
  exact (keeps_need (fun _ h0 => (by extract_lets -merge -underBinder +onlyGivenNames x1 x2; (try clear_value x1 x2); exact (keeps_ite (keeps_refuse h0) (keeps_respondTo (keeps_forEach (fun _ _ h3 => (keeps_ite (keeps_segDarkNext h3) (keeps_segBlankNow h3))) h0))))) h)

theorem keeps_bodySegDefaultLoad {s t : State} {a1 : Ctx} (h : Keeps s t) : Keeps s (bodySegDefaultLoad a1 t) := by
  unfold bodySegDefaultLoad
  exact (keeps_withBulk (fun _ _ h0 => (by extract_lets -merge -underBinder +onlyGivenNames x1; (try clear_value x1); exact (keeps_staged (fun _ _ h2 => (keeps_ite (keeps_refuse h2) (keeps_respondTo (keeps_startLoad h2)))) (fun _ _ _ h3 => (keeps_ite (keeps_refuse h3) (by extract_lets -merge -underBinder +onlyGivenNames x4 x5; (try clear_value x4); have k6 : Keeps s x5 := (keeps_acceptOp h3); exact (keeps_modLink k6)))) h0))) h)

theorem keeps_execPolGet {s t : State} {a1 : Msg} (h : execPolGet a1 s = .next t) : Keeps s t := by
  unfold execPolGet at h
  exact keeps_done (keeps_serve (fun _ _ h0 => (keeps_bodyPolGet h0)) (keeps_rasterFirst (keeps_refl s))) h

theorem keeps_execPolSet {s t : State} {a1 : Msg} (h : execPolSet a1 s = .next t) : Keeps s t := by
  unfold execPolSet at h
  exact keeps_done (keeps_serve (fun _ _ h0 => (keeps_bodyPolSet h0)) (keeps_rasterFirst (keeps_refl s))) h

theorem keeps_execFbRaise {s t : State} {a1 : Msg} (h : execFbRaise a1 s = .next t) : Keeps s t := by
  unfold execFbRaise at h
  exact keeps_done (keeps_serve (fun _ _ h0 => (keeps_bodyFbRaise h0)) (keeps_rasterFirst (keeps_refl s))) h

theorem keeps_execFbClear {s t : State} {a1 : Msg} (h : execFbClear a1 s = .next t) : Keeps s t := by
  unfold execFbClear at h
  exact keeps_done (keeps_serve (fun _ _ h0 => (keeps_bodyFbClear h0)) (keeps_rasterFirst (keeps_refl s))) h

theorem keeps_execLinkGet {s t : State} {a1 : Msg} (h : execLinkGet a1 s = .next t) : Keeps s t := by
  unfold execLinkGet at h
  exact keeps_done (keeps_serve (fun _ _ h0 => (keeps_bodyLinkGet h0)) (keeps_rasterFirst (keeps_refl s))) h

theorem keeps_execLinkEnable {s t : State} {a1 : Msg} (h : execLinkEnable a1 s = .next t) : Keeps s t := by
  unfold execLinkEnable at h
  exact keeps_done (keeps_serve (fun _ _ h0 => (keeps_bodyLinkEnable h0)) (keeps_rasterFirst (keeps_refl s))) h

theorem keeps_execLinkRetrain {s t : State} {a1 : Msg} (h : execLinkRetrain a1 s = .next t) : Keeps s t := by
  unfold execLinkRetrain at h
  exact keeps_done (keeps_serve (fun _ _ h0 => (keeps_bodyLinkRetrain h0)) (keeps_rasterFirst (keeps_refl s))) h

theorem keeps_execStreamCfg {s t : State} {a1 : Msg} (h : execStreamCfg a1 s = .next t) : Keeps s t := by
  unfold execStreamCfg at h
  exact keeps_done (keeps_serve (fun _ _ h0 => (keeps_bodyStreamCfg h0)) (keeps_rasterFirst (keeps_refl s))) h

theorem keeps_execQuadCfg {s t : State} {a1 : Msg} (h : execQuadCfg a1 s = .next t) : Keeps s t := by
  unfold execQuadCfg at h
  exact keeps_done (keeps_serve (fun _ _ h0 => (keeps_bodyQuadCfg h0)) (keeps_rasterFirst (keeps_refl s))) h

theorem keeps_execLaneTest {s t : State} {a1 : Msg} (h : execLaneTest a1 s = .next t) : Keeps s t := by
  unfold execLaneTest at h
  exact keeps_done (keeps_serve (fun _ _ h0 => (keeps_bodyLaneTest h0)) (keeps_rasterFirst (keeps_refl s))) h

theorem keeps_execNetCfg {s t : State} {a1 : Msg} (h : execNetCfg a1 s = .next t) : Keeps s t := by
  unfold execNetCfg at h
  exact keeps_done (keeps_serve (fun _ _ h0 => (keeps_bodyNetCfg h0)) (keeps_rasterFirst (keeps_refl s))) h

theorem keeps_execSegBlank {s t : State} {a1 : Msg} (h : execSegBlank a1 s = .next t) : Keeps s t := by
  unfold execSegBlank at h
  exact keeps_done (keeps_serve (fun _ _ h0 => (keeps_bodySegBlank h0)) (keeps_rasterFirst (keeps_refl s))) h

theorem keeps_execSegDefaultLoad {s t : State} {a1 : Msg} (h : execSegDefaultLoad a1 s = .next t) : Keeps s t := by
  unfold execSegDefaultLoad at h
  exact keeps_done (keeps_serve (fun _ _ h0 => (keeps_bodySegDefaultLoad h0)) (keeps_rasterFirst (keeps_refl s))) h

/-! ### CmdFab -/

theorem keeps_bodyFabGet {s t : State} {a1 : Ctx} (h : Keeps s t) : Keeps s (bodyFabGet a1 t) := by
  unfold bodyFabGet
  exact keeps_ite (keeps_readBack h) (keeps_readBack h)

theorem keeps_bodyFabCfg {s t : State} {a1 : Ctx} (h : Keeps s t) : Keeps s (bodyFabCfg a1 t) := by
  unfold bodyFabCfg
  exact (keeps_need (fun _ h0 => (by extract_lets -merge -underBinder +onlyGivenNames x1 x2; (try clear_value x1 x2); exact (keeps_ite (keeps_refuse h0) (by extract_lets -merge -underBinder +onlyGivenNames x3; have k4 : Keeps s x3 := (keeps_wf (keeps_wf (keeps_wf h0))); exact (keeps_respondTo (keeps_fabEnable k4)))))) h)

theorem keeps_bodyFabPort {s t : State} {a1 : Ctx} (h : Keeps s t) : Keeps s (bodyFabPort a1 t) := by
  unfold bodyFabPort
  exact (keeps_need (fun _ h0 => (by extract_lets -merge -underBinder +onlyGivenNames x1 x2; (try clear_value x1 x2); exact (keeps_ite (keeps_refuse h0) (keeps_ite (keeps_refuse h0) (keeps_respondTo (keeps_regWrite h0)))))) h)

theorem keeps_bodyFabGroup {s t : State} {a1 : Ctx} (h : Keeps s t) : Keeps s (bodyFabGroup a1 t) := by
  unfold bodyFabGroup
  exact (keeps_need (fun _ h0 => (by extract_lets -merge -underBinder +onlyGivenNames x1 x2; (try clear_value x1 x2); exact (keeps_need (fun _ h3 => (keeps_ite (keeps_refuse h3) (keeps_ite (keeps_refuse h3) (by extract_lets -merge -underBinder +onlyGivenNames x4 x5 x6; (try clear_value x5); have k7 : Keeps s x6 := (keeps_acceptOp (keeps_mk h3)); exact (keeps_when (fun _ h8 => (keeps_sendRoutes h8)) k7))))) h0))) h)

theorem keeps_bodyFabFwd {s t : State} {a1 : Ctx} (h : Keeps s t) : Keeps s (bodyFabFwd a1 t) := by
  unfold bodyFabFwd
  exact (keeps_need (fun _ h0 => (by extract_lets -merge -underBinder +onlyGivenNames x1 x2; (try clear_value x1 x2); exact (keeps_ite (keeps_refuse h0) (keeps_respondTo (keeps_writeWords h0))))) h)

theorem keeps_bodyFabSub {s t : State} {a1 : Ctx} (h : Keeps s t) : Keeps s (bodyFabSub a1 t) := by
  unfold bodyFabSub
  exact (keeps_need (fun _ h0 => (by extract_lets -merge -underBinder +onlyGivenNames x1 x2 x3 x4; (try clear_value x1 x2 x3 x4); exact (keeps_ite (keeps_refuse h0) (keeps_ite (keeps_refuse h0) (keeps_respondTo (keeps_writeWords h0)))))) h)

theorem keeps_bodyFabRediscover {s t : State} {a1 : Ctx} (h : Keeps s t) : Keeps s (bodyFabRediscover a1 t) := by
  unfold bodyFabRediscover
  exact keeps_ite (keeps_respondTo (keeps_fabDiscover h)) (keeps_refuse h)

theorem keeps_bodyFabTopo {s t : State} {a1 : Ctx} (h : Keeps s t) : Keeps s (bodyFabTopo a1 t) := by
  unfold bodyFabTopo
  exact (keeps_need (fun _ h0 => (by extract_lets -merge -underBinder +onlyGivenNames x1; (try clear_value x1); exact (keeps_ite (keeps_refuse h0) (keeps_ite (keeps_refuse h0) (by extract_lets -merge -underBinder +onlyGivenNames x2; (try clear_value x2); exact (keeps_readBack h0)))))) h)

theorem keeps_bodyTimeGet {s t : State} {a1 : Ctx} (h : Keeps s t) : Keeps s (bodyTimeGet a1 t) := by
  unfold bodyTimeGet
  exact keeps_readBack h

theorem keeps_bodyTimeSet {s t : State} {a1 : Ctx} (h : Keeps s t) : Keeps s (bodyTimeSet a1 t) := by
  unfold bodyTimeSet
  exact (keeps_need (fun _ h0 => (by extract_lets -merge -underBinder +onlyGivenNames x1; (try clear_value x1); exact (keeps_ite (keeps_refuse h0) (keeps_respondTo (keeps_ite (keeps_setTime h0) (keeps_stepTime h0)))))) h)

theorem keeps_bodyTimeUtc {s t : State} {a1 : Ctx} (h : Keeps s t) : Keeps s (bodyTimeUtc a1 t) := by
  unfold bodyTimeUtc
  exact keeps_need (fun _ h0 => (keeps_respondTo (keeps_mk h0))) h

theorem keeps_bodyServoCfg {s t : State} {a1 : Ctx} (h : Keeps s t) : Keeps s (bodyServoCfg a1 t) := by
  unfold bodyServoCfg
  exact keeps_regSet (fun _ h => h) h

theorem keeps_bodyPtpPort {s t : State} {a1 : Ctx} (h : Keeps s t) : Keeps s (bodyPtpPort a1 t) := by
  unfold bodyPtpPort
  exact (keeps_need (fun _ h0 => (by extract_lets -merge -underBinder +onlyGivenNames x1 x2 x3 x4; (try clear_value x1 x2 x3 x4); exact (keeps_ite (keeps_refuse h0) (keeps_ite (keeps_refuse h0) (keeps_ite (keeps_refuse h0) (keeps_respondTo (keeps_writeWords h0))))))) h)

theorem keeps_bodyTtArm {s t : State} {a1 : Ctx} (h : Keeps s t) : Keeps s (bodyTtArm a1 t) := by
  unfold bodyTtArm
  exact (keeps_need (fun _ h0 => (by extract_lets -merge -underBinder +onlyGivenNames x1 x2 x3; (try clear_value x1 x2); have k4 : ∀ t', Keeps s t' → Keeps s (x3 t') := (by unfold x3; exact (fun _ h5 => (keeps_respondTo h5))); exact (keeps_ite (keeps_refuse h0) (keeps_ite (k4 _ (keeps_ttCancel h0)) (keeps_need (fun _ h6 => (k4 _ (keeps_ttArm (keeps_writeWords (keeps_wf h6))))) h0))))) h)

theorem keeps_bodyTcPop {s t : State} {a1 : Ctx} (h : Keeps s t) : Keeps s (bodyTcPop a1 t) := by
  unfold bodyTcPop
  exact (keeps_need (fun _ h0 => (by extract_lets -merge -underBinder +onlyGivenNames x1 x2; (try clear_value x1 x2); exact (keeps_ite (keeps_refuse h0) (keeps_respondTo (keeps_setTc h0))))) h)

theorem keeps_execFabGet {s t : State} {a1 : Msg} (h : execFabGet a1 s = .next t) : Keeps s t := by
  unfold execFabGet at h
  exact keeps_done (keeps_serve (fun _ _ h0 => (keeps_bodyFabGet h0)) (keeps_rasterFirst (keeps_refl s))) h

theorem keeps_execFabCfg {s t : State} {a1 : Msg} (h : execFabCfg a1 s = .next t) : Keeps s t := by
  unfold execFabCfg at h
  exact keeps_done (keeps_serve (fun _ _ h0 => (keeps_bodyFabCfg h0)) (keeps_rasterFirst (keeps_refl s))) h

theorem keeps_execFabPort {s t : State} {a1 : Msg} (h : execFabPort a1 s = .next t) : Keeps s t := by
  unfold execFabPort at h
  exact keeps_done (keeps_serve (fun _ _ h0 => (keeps_bodyFabPort h0)) (keeps_rasterFirst (keeps_refl s))) h

theorem keeps_execFabGroup {s t : State} {a1 : Msg} (h : execFabGroup a1 s = .next t) : Keeps s t := by
  unfold execFabGroup at h
  exact keeps_done (keeps_serve (fun _ _ h0 => (keeps_bodyFabGroup h0)) (keeps_rasterFirst (keeps_refl s))) h

theorem keeps_execFabFwd {s t : State} {a1 : Msg} (h : execFabFwd a1 s = .next t) : Keeps s t := by
  unfold execFabFwd at h
  exact keeps_done (keeps_serve (fun _ _ h0 => (keeps_bodyFabFwd h0)) (keeps_rasterFirst (keeps_refl s))) h

theorem keeps_execFabSub {s t : State} {a1 : Msg} (h : execFabSub a1 s = .next t) : Keeps s t := by
  unfold execFabSub at h
  exact keeps_done (keeps_serve (fun _ _ h0 => (keeps_bodyFabSub h0)) (keeps_rasterFirst (keeps_refl s))) h

theorem keeps_execFabRediscover {s t : State} {a1 : Msg} (h : execFabRediscover a1 s = .next t) : Keeps s t := by
  unfold execFabRediscover at h
  exact keeps_done (keeps_serve (fun _ _ h0 => (keeps_bodyFabRediscover h0)) (keeps_rasterFirst (keeps_refl s))) h

theorem keeps_execFabTopo {s t : State} {a1 : Msg} (h : execFabTopo a1 s = .next t) : Keeps s t := by
  unfold execFabTopo at h
  exact keeps_done (keeps_serve (fun _ _ h0 => (keeps_bodyFabTopo h0)) (keeps_rasterFirst (keeps_refl s))) h

theorem keeps_execTimeGet {s t : State} {a1 : Msg} (h : execTimeGet a1 s = .next t) : Keeps s t := by
  unfold execTimeGet at h
  exact keeps_done (keeps_serve (fun _ _ h0 => (keeps_bodyTimeGet h0)) (keeps_rasterFirst (keeps_refl s))) h

theorem keeps_execTimeSet {s t : State} {a1 : Msg} (h : execTimeSet a1 s = .next t) : Keeps s t := by
  unfold execTimeSet at h
  exact keeps_done (keeps_serve (fun _ _ h0 => (keeps_bodyTimeSet h0)) (keeps_rasterFirst (keeps_refl s))) h

theorem keeps_execTimeUtc {s t : State} {a1 : Msg} (h : execTimeUtc a1 s = .next t) : Keeps s t := by
  unfold execTimeUtc at h
  exact keeps_done (keeps_serve (fun _ _ h0 => (keeps_bodyTimeUtc h0)) (keeps_rasterFirst (keeps_refl s))) h

theorem keeps_execServoCfg {s t : State} {a1 : Msg} (h : execServoCfg a1 s = .next t) : Keeps s t := by
  unfold execServoCfg at h
  exact keeps_done (keeps_serve (fun _ _ h0 => (keeps_bodyServoCfg h0)) (keeps_rasterFirst (keeps_refl s))) h

theorem keeps_execPtpPort {s t : State} {a1 : Msg} (h : execPtpPort a1 s = .next t) : Keeps s t := by
  unfold execPtpPort at h
  exact keeps_done (keeps_serve (fun _ _ h0 => (keeps_bodyPtpPort h0)) (keeps_rasterFirst (keeps_refl s))) h

theorem keeps_execTtArm {s t : State} {a1 : Msg} (h : execTtArm a1 s = .next t) : Keeps s t := by
  unfold execTtArm at h
  exact keeps_done (keeps_serve (fun _ _ h0 => (keeps_bodyTtArm h0)) (keeps_rasterFirst (keeps_refl s))) h

theorem keeps_execTcPop {s t : State} {a1 : Msg} (h : execTcPop a1 s = .next t) : Keeps s t := by
  unfold execTcPop at h
  exact keeps_done (keeps_serve (fun _ _ h0 => (keeps_bodyTcPop h0)) (keeps_rasterFirst (keeps_refl s))) h

/-! ### CmdReg -/

theorem keeps_bodySensorGet {s t : State} {a1 : Ctx} (h : Keeps s t) : Keeps s (bodySensorGet a1 t) := by
  unfold bodySensorGet
  exact keeps_readBack h

theorem keeps_bodySensorCfg {s t : State} {a1 : Ctx} (h : Keeps s t) : Keeps s (bodySensorCfg a1 t) := by
  unfold bodySensorCfg
  exact keeps_regSet (fun _ h => h) h

theorem keeps_bodyCalRun {s t : State} {a1 : Ctx} (h : Keeps s t) : Keeps s (bodyCalRun a1 t) := by
  unfold bodyCalRun
  exact (keeps_need (fun _ h0 => (by split; exacts [(keeps_refuse h0), (keeps_ite (keeps_refuse h0) (keeps_ite (keeps_refuse h0) (by extract_lets -merge -underBinder +onlyGivenNames x1; have k2 : Keeps s x1 := (keeps_acceptOp (keeps_calEnqueue (keeps_setCalUser h0))); exact (keeps_mk k2))))])) h)

theorem keeps_bodyCalSave {s t : State} {a1 : Ctx} (h : Keeps s t) : Keeps s (bodyCalSave a1 t) := by
  unfold bodyCalSave
  exact keeps_acceptOp h

theorem keeps_bodyCrcGet {s t : State} {a1 : Ctx} (h : Keeps s t) : Keeps s (bodyCrcGet a1 t) := by
  unfold bodyCrcGet
  exact keeps_readBack h

theorem keeps_chWritten {s t : State} {a1 : Nat} {a2 : List (Nat × Word)} (h : Keeps s t) : Keeps s (chWritten a1 a2 t) := by
  unfold chWritten
  exact keeps_writeWords (keeps_crcCtrl h)

theorem keeps_bodyCrcCfg {s t : State} {a1 : Ctx} (h : Keeps s t) : Keeps s (bodyCrcCfg a1 t) := by
  unfold bodyCrcCfg
  extract_lets -merge -underBinder +onlyGivenNames x0
  (try clear_value x0)
  exact (keeps_regSetWith (fun _ _ _ h1 => (keeps_refuse h1)) (fun _ _ h2 => (by extract_lets -merge -underBinder +onlyGivenNames x3; have k4 : Keeps s x3 := (keeps_chWritten h2); exact (keeps_when (fun _ h5 => (keeps_crcCtrl h5)) k4))) (fun _ h => h) h)

theorem keeps_bodyCrcScan {s t : State} {a1 : Ctx} (h : Keeps s t) : Keeps s (bodyCrcScan a1 t) := by
  unfold bodyCrcScan
  extract_lets -merge -underBinder +onlyGivenNames x0
  (try clear_value x0)
  exact (keeps_ite (keeps_refuse h) (keeps_ite (keeps_refuse (keeps_chStart h)) (keeps_ite (keeps_refuse (keeps_chStart h)) (keeps_chStart (keeps_acceptOp h)))))

theorem keeps_bodyLogRead {s t : State} {a1 : Ctx} (h : Keeps s t) : Keeps s (bodyLogRead a1 t) := by
  unfold bodyLogRead
  exact (keeps_need (fun _ h0 => (by extract_lets -merge -underBinder +onlyGivenNames x1 x2; (try clear_value x1 x2); exact (keeps_ite (keeps_refuse h0) (by extract_lets -merge -underBinder +onlyGivenNames x3 x4; (try clear_value x3 x4); exact (keeps_readBack h0))))) h)

theorem keeps_bodyLogClear {s t : State} {a1 : Ctx} (h : Keeps s t) : Keeps s (bodyLogClear a1 t) := by
  unfold bodyLogClear
  exact keeps_respondTo (keeps_mk h)

theorem keeps_regPut {s t : State} {a1 : List (Nat × Word)} (h : Keeps s t) : Keeps s (regPut a1 t) := by
  unfold regPut
  exact (keeps_forEach (fun _ _ h0 => (keeps_applyWord (keeps_when (fun _ h1 => (keeps_overrideEvent h1)) h0))) h)

theorem keeps_regStore {s t : State} {a1 : Ctx} {a2 : Nat} {a3 : List (Nat × Word)} {a4 : Bool} {a5 : List Byte} (h : Keeps s t) : Keeps s (regStore a1 a2 a3 a4 a5 t) := by
  unfold regStore
  extract_lets -merge -underBinder +onlyGivenNames x0
  exact keeps_ite (keeps_respondTo h) (by split; exacts [(keeps_respondTo h), (keeps_respondTo (keeps_regPut h))])

theorem keeps_bodyRegRead {s t : State} {a1 : Ctx} (h : Keeps s t) : Keeps s (bodyRegRead a1 t) := by
  unfold bodyRegRead
  exact (keeps_need (fun _ h0 => (by extract_lets -merge -underBinder +onlyGivenNames x1 x2; (try clear_value x1 x2); exact (keeps_ite (keeps_refuse h0) (by extract_lets -merge -underBinder +onlyGivenNames x3; exact (keeps_ite (keeps_respondTo h0) (keeps_readBack h0)))))) h)

theorem keeps_bodyRegWrite {s t : State} {a1 : Ctx} (h : Keeps s t) : Keeps s (bodyRegWrite a1 t) := by
  unfold bodyRegWrite
  exact (keeps_need (fun _ h0 => (by extract_lets -merge -underBinder +onlyGivenNames x1 x2; (try clear_value x1 x2); exact (keeps_ite (keeps_refuse h0) (keeps_need (fun _ h3 => (keeps_regStore h3)) h0)))) h)

theorem keeps_bodyRegRmw {s t : State} {a1 : Ctx} (h : Keeps s t) : Keeps s (bodyRegRmw a1 t) := by
  unfold bodyRegRmw
  exact keeps_need (fun _ h0 => (by extract_lets -merge -underBinder +onlyGivenNames x1 x2; (try clear_value x1 x2); exact (keeps_regStore h0))) h

theorem keeps_execSensorGet {s t : State} {a1 : Msg} (h : execSensorGet a1 s = .next t) : Keeps s t := by
  unfold execSensorGet at h
  exact keeps_done (keeps_serve (fun _ _ h0 => (keeps_bodySensorGet h0)) (keeps_rasterFirst (keeps_refl s))) h

theorem keeps_execSensorCfg {s t : State} {a1 : Msg} (h : execSensorCfg a1 s = .next t) : Keeps s t := by
  unfold execSensorCfg at h
  exact keeps_done (keeps_serve (fun _ _ h0 => (keeps_bodySensorCfg h0)) (keeps_rasterFirst (keeps_refl s))) h

theorem keeps_execCalRun {s t : State} {a1 : Msg} (h : execCalRun a1 s = .next t) : Keeps s t := by
  unfold execCalRun at h
  exact keeps_done (keeps_serve (fun _ _ h0 => (keeps_bodyCalRun h0)) (keeps_rasterFirst (keeps_refl s))) h

theorem keeps_execCalSave {s t : State} {a1 : Msg} (h : execCalSave a1 s = .next t) : Keeps s t := by
  unfold execCalSave at h
  exact keeps_done (keeps_serve (fun _ _ h0 => (keeps_bodyCalSave h0)) (keeps_rasterFirst (keeps_refl s))) h

theorem keeps_execCrcGet {s t : State} {a1 : Msg} (h : execCrcGet a1 s = .next t) : Keeps s t := by
  unfold execCrcGet at h
  exact keeps_done (keeps_serve (fun _ _ h0 => (keeps_bodyCrcGet h0)) (keeps_rasterFirst (keeps_refl s))) h

theorem keeps_execCrcCfg {s t : State} {a1 : Msg} (h : execCrcCfg a1 s = .next t) : Keeps s t := by
  unfold execCrcCfg at h
  exact keeps_done (keeps_serve (fun _ _ h0 => (keeps_bodyCrcCfg h0)) (keeps_rasterFirst (keeps_refl s))) h

theorem keeps_execCrcScan {s t : State} {a1 : Msg} (h : execCrcScan a1 s = .next t) : Keeps s t := by
  unfold execCrcScan at h
  exact keeps_done (keeps_serve (fun _ _ h0 => (keeps_bodyCrcScan h0)) (keeps_rasterFirst (keeps_refl s))) h

theorem keeps_execLogRead {s t : State} {a1 : Msg} (h : execLogRead a1 s = .next t) : Keeps s t := by
  unfold execLogRead at h
  exact keeps_done (keeps_serve (fun _ _ h0 => (keeps_bodyLogRead h0)) (keeps_rasterFirst (keeps_refl s))) h

theorem keeps_execLogClear {s t : State} {a1 : Msg} (h : execLogClear a1 s = .next t) : Keeps s t := by
  unfold execLogClear at h
  exact keeps_done (keeps_serve (fun _ _ h0 => (keeps_bodyLogClear h0)) (keeps_rasterFirst (keeps_refl s))) h

theorem keeps_execRegRead {s t : State} {a1 : Msg} (h : execRegRead a1 s = .next t) : Keeps s t := by
  unfold execRegRead at h
  exact keeps_done (keeps_serve (fun _ _ h0 => (keeps_bodyRegRead h0)) (keeps_rasterFirst (keeps_refl s))) h

theorem keeps_execRegWrite {s t : State} {a1 : Msg} (h : execRegWrite a1 s = .next t) : Keeps s t := by
  unfold execRegWrite at h
  exact keeps_done (keeps_serve (fun _ _ h0 => (keeps_bodyRegWrite h0)) (keeps_rasterFirst (keeps_refl s))) h

theorem keeps_execRegRmw {s t : State} {a1 : Msg} (h : execRegRmw a1 s = .next t) : Keeps s t := by
  unfold execRegRmw at h
  exact keeps_done (keeps_serve (fun _ _ h0 => (keeps_bodyRegRmw h0)) (keeps_rasterFirst (keeps_refl s))) h

/-! ### Dequeue -/

theorem keeps_bodyNone {s t : State} {a1 : Ctx} (h : Keeps s t) : Keeps s (bodyNone a1 t) := by
  unfold bodyNone
  exact keeps_refuse h

theorem keeps_bodySysClass {s t : State} {a1 : Nat} {a2 : Ctx} (h : Keeps s t) : Keeps s (bodySysClass a1 a2 t) := by
  unfold bodySysClass
  split
  exacts [(keeps_bodySysInfo h), (keeps_bodySysStatus h), (keeps_bodySysReset h), (keeps_bodySysProtect h), (keeps_bodySysMbxCfg h), (keeps_bodySysAliveReset h), (keeps_bodyNone h)]

theorem keeps_bodyPwrClass {s t : State} {a1 : Nat} {a2 : Ctx} (h : Keeps s t) : Keeps s (bodyPwrClass a1 a2 t) := by
  unfold bodyPwrClass
  split
  exacts [(keeps_bodyPwrGet h), (keeps_bodyPwrEnter h), (keeps_bodyPwrOff h), (keeps_bodyPwrPadRelease h), (keeps_bodyNone h)]

theorem keeps_bodyRasClass {s t : State} {a1 : Nat} {a2 : Ctx} (h : Keeps s t) : Keeps s (bodyRasClass a1 a2 t) := by
  unfold bodyRasClass
  split
  exacts [(keeps_bodyRasGet h), (keeps_bodyRasTiming h), (keeps_bodyRasEpoch h), (keeps_bodyRasEnable h), (keeps_bodyRasSyncCfg h), (keeps_bodyNone h)]

theorem keeps_bodyLayerClass {s t : State} {a1 : Nat} {a2 : Ctx} (h : Keeps s t) : Keeps s (bodyLayerClass a1 a2 t) := by
  unfold bodyLayerClass
  split
  exacts [(keeps_bodyLayerGet h), (keeps_bodyLayerSet h), (keeps_bodyCanvasSet h), (keeps_bodyLutLoad h), (keeps_bodySurfCreate h), (keeps_bodySurfDestroy h), (keeps_bodySurfWrite h), (keeps_bodySurfPublish h), (keeps_bodySurfPool h), (keeps_bodyNone h)]

theorem keeps_bodyBeamClass {s t : State} {a1 : Nat} {a2 : Ctx} (h : Keeps s t) : Keeps s (bodyBeamClass a1 a2 t) := by
  unfold bodyBeamClass
  split
  exacts [(keeps_bodyBeamGet h), (keeps_bodyListPut h), (keeps_bodyBeamCfg h), (keeps_bodyPatLoad h), (keeps_bodyGlyphLoad h), (keeps_bodyGridLoad h), (keeps_bodyLaEnter h), (keeps_bodyLaExit h), (keeps_bodyLaTol h), (keeps_bodyLaStatus h), (keeps_bodyNone h)]

theorem keeps_bodyCorrClass {s t : State} {a1 : Nat} {a2 : Ctx} (h : Keeps s t) : Keeps s (bodyCorrClass a1 a2 t) := by
  unfold bodyCorrClass
  split
  exacts [(keeps_bodyCorrRead h), (keeps_bodyCorrStage h), (keeps_bodyCorrApply h), (keeps_bodyCorrSave h), (keeps_bodyCorrCfg h), (keeps_bodyCurveLoad h), (keeps_bodySegCfg h), (keeps_bodyNone h)]

theorem keeps_bodyHealthClass {s t : State} {a1 : Nat} {a2 : Ctx} (h : Keeps s t) : Keeps s (bodyHealthClass a1 a2 t) := by
  unfold bodyHealthClass
  split
  exacts [(keeps_bodyHealthGet h), (keeps_bodyMapRead h), (keeps_bodyHealthClear h), (keeps_bodyVfCapture h), (keeps_bodyHealthSave h), (keeps_bodyHealthCfg h), (keeps_bodyNone h)]

theorem keeps_bodySupplyClass {s t : State} {a1 : Nat} {a2 : Ctx} (h : Keeps s t) : Keeps s (bodySupplyClass a1 a2 t) := by
  unfold bodySupplyClass
  split
  exacts [(keeps_bodySupGet h), (keeps_bodySupCfg h), (keeps_bodySupRestart h), (keeps_bodySupLimit h), (keeps_bodyNone h)]

theorem keeps_bodyPolderClass {s t : State} {a1 : Nat} {a2 : Ctx} (h : Keeps s t) : Keeps s (bodyPolderClass a1 a2 t) := by
  unfold bodyPolderClass
  split
  exacts [(keeps_bodyPolGet h), (keeps_bodyPolSet h), (keeps_bodyFbRaise h), (keeps_bodyFbClear h), (keeps_bodyNone h)]

theorem keeps_bodySnowClass {s t : State} {a1 : Nat} {a2 : Ctx} (h : Keeps s t) : Keeps s (bodySnowClass a1 a2 t) := by
  unfold bodySnowClass
  split
  exacts [(keeps_bodySnowGet h), (keeps_bodySlotBegin h), (keeps_bodySlotData h), (keeps_bodySlotEnd h), (keeps_bodySlotAbort h), (keeps_bodySlotDelete h), (keeps_bodySetDefault h), (keeps_bodyGainPut h), (keeps_bodyLevelsPut h), (keeps_bodyNone h)]

theorem keeps_bodyLinkClass {s t : State} {a1 : Nat} {a2 : Ctx} (h : Keeps s t) : Keeps s (bodyLinkClass a1 a2 t) := by
  unfold bodyLinkClass
  split
  exacts [(keeps_bodyLinkGet h), (keeps_bodyLinkEnable h), (keeps_bodyLinkRetrain h), (keeps_bodyStreamCfg h), (keeps_bodyQuadCfg h), (keeps_bodyLaneTest h), (keeps_bodyNetCfg h), (keeps_bodySegBlank h), (keeps_bodySegDefaultLoad h), (keeps_bodyNone h)]

theorem keeps_bodyFabClass {s t : State} {a1 : Nat} {a2 : Ctx} (h : Keeps s t) : Keeps s (bodyFabClass a1 a2 t) := by
  unfold bodyFabClass
  split
  exacts [(keeps_bodyFabGet h), (keeps_bodyFabCfg h), (keeps_bodyFabPort h), (keeps_bodyFabGroup h), (keeps_bodyFabFwd h), (keeps_bodyFabSub h), (keeps_bodyFabRediscover h), (keeps_bodyFabTopo h), (keeps_bodyNone h)]

theorem keeps_bodyTimeClass {s t : State} {a1 : Nat} {a2 : Ctx} (h : Keeps s t) : Keeps s (bodyTimeClass a1 a2 t) := by
  unfold bodyTimeClass
  split
  exacts [(keeps_bodyTimeGet h), (keeps_bodyTimeSet h), (keeps_bodyTimeUtc h), (keeps_bodyServoCfg h), (keeps_bodyPtpPort h), (keeps_bodyTtArm h), (keeps_bodyTcPop h), (keeps_bodyNone h)]

theorem keeps_bodyCalClass {s t : State} {a1 : Nat} {a2 : Ctx} (h : Keeps s t) : Keeps s (bodyCalClass a1 a2 t) := by
  unfold bodyCalClass
  split
  exacts [(keeps_bodySensorGet h), (keeps_bodySensorCfg h), (keeps_bodyCalRun h), (keeps_bodyCalSave h), (keeps_bodyNone h)]

theorem keeps_bodyCrcClass {s t : State} {a1 : Nat} {a2 : Ctx} (h : Keeps s t) : Keeps s (bodyCrcClass a1 a2 t) := by
  unfold bodyCrcClass
  split
  exacts [(keeps_bodyCrcGet h), (keeps_bodyCrcCfg h), (keeps_bodyCrcScan h), (keeps_bodyNone h)]

theorem keeps_bodyLogClass {s t : State} {a1 : Nat} {a2 : Ctx} (h : Keeps s t) : Keeps s (bodyLogClass a1 a2 t) := by
  unfold bodyLogClass
  split
  exacts [(keeps_bodyLogRead h), (keeps_bodyLogClear h), (keeps_bodyNone h)]

theorem keeps_bodyFwClass {s t : State} {a1 : Nat} {a2 : Ctx} (h : Keeps s t) : Keeps s (bodyFwClass a1 a2 t) := by
  unfold bodyFwClass
  split
  exacts [(keeps_bodyFwInfo h), (keeps_bodyFwBegin h), (keeps_bodyFwData h), (keeps_bodyFwVerify h), (keeps_bodyFwCommit h), (keeps_bodyFwAbort h), (keeps_bodyNone h)]

theorem keeps_bodyRegClass {s t : State} {a1 : Nat} {a2 : Ctx} (h : Keeps s t) : Keeps s (bodyRegClass a1 a2 t) := by
  unfold bodyRegClass
  split
  exacts [(keeps_bodyRegRead h), (keeps_bodyRegWrite h), (keeps_bodyRegRmw h), (keeps_bodyNone h)]

theorem keeps_svcBody {s t : State} {a1 : Nat} {a2 : Ctx} (h : Keeps s t) : Keeps s (svcBody a1 a2 t) := by
  unfold svcBody
  generalize a1 / 256 = c
  split
  exacts [(keeps_bodySysClass h), (keeps_bodyPwrClass h), (keeps_bodyRasClass h), (keeps_bodyLayerClass h), (keeps_bodyBeamClass h), (keeps_bodyCorrClass h), (keeps_bodyHealthClass h), (keeps_bodySupplyClass h), (keeps_bodyPolderClass h), (keeps_bodySnowClass h), (keeps_bodyLinkClass h), (keeps_bodyFabClass h), (keeps_bodyTimeClass h), (keeps_bodyCalClass h), (keeps_bodyCrcClass h), (keeps_bodyLogClass h), (keeps_bodyFwClass h), (keeps_bodyRegClass h), (keeps_bodyNone h)]

theorem keeps_dequeueOne {s t : State} (h : Keeps s t) : Keeps s (dequeueOne t) := by
  unfold dequeueOne
  exact (keeps_dequeue (fun _ _ _ h0 => (keeps_serve (fun _ _ h1 => (keeps_svcBody h1)) h0)) h)

theorem keeps_execMessageDequeue {s t : State} (h : execMessageDequeue s = .next t) : Keeps s t := by
  unfold execMessageDequeue at h
  exact keeps_done (keeps_dequeueOne (keeps_rasterFirst (keeps_refl s))) h

theorem keeps_timedDue {s t : State} {a1 : Nat} (h : Keeps s t) : Keeps s (timedDue a1 t) := by
  unfold timedDue
  split
  exacts [h, (by extract_lets -merge -underBinder +onlyGivenNames x0 x1; (try clear_value x0 x1); exact (keeps_ite h (by extract_lets -merge -underBinder +onlyGivenNames x2; have k3 : Keeps s x2 := (keeps_rasterFirst (keeps_ite h (keeps_advanceTo h))); exact (keeps_ite (by extract_lets -merge -underBinder +onlyGivenNames x4 x5; (try clear_value x4); have k6 : Keeps s x5 := (keeps_mk k3); exact (keeps_timedCounts (keeps_ite (keeps_respondTo k6) (keeps_runTimed (fun _ _ h7 => (keeps_svcBody h7)) k6)))) k3))))]

theorem keeps_execTimedCommandDue {s t : State} {a1 : Fin 16} (h : execTimedCommandDue a1 s = .next t) : Keeps s t := by
  unfold execTimedCommandDue at h
  exact keeps_done (keeps_timedDue (keeps_refl s)) h

theorem keeps_loadTimeout {s t : State} {a1 : Nat} {a2 : Nat} (h : Keeps s t) : Keeps s (loadTimeout a1 a2 t) := by
  unfold loadTimeout
  split
  exacts [h, (keeps_dropLoad (keeps_advanceTo h))]

theorem keeps_execStagedLoadTimeout {s t : State} {a1 : BitVec 16} {a2 : BitVec 16} (h : execStagedLoadTimeout a1 a2 s = .next t) : Keeps s t := by
  unfold execStagedLoadTimeout at h
  exact keeps_done (keeps_loadTimeout (keeps_refl s)) h

/-! ### Tick -/

theorem keeps_aonTick {s t : State} (h : Keeps s t) : Keeps s (aonTick t) := by
  unfold aonTick
  extract_lets -merge -underBinder +onlyGivenNames x0 x1 x2 x4
  (try clear_value x0 x1)
  have k3 : Keeps s x2 := (keeps_ite h (keeps_useFree h))
  have k5 : Keeps s x4 := (keeps_modPwr k3)
  exact keeps_mk k5

theorem keeps_clockTick {s t : State} (h : Keeps s t) : Keeps s (clockTick t) := by
  unfold clockTick
  exact keeps_ite h (keeps_ite (keeps_aonTick h) (keeps_mk h))

theorem keeps_background {s t : State} (h : Keeps s t) : Keeps s (background t) := by
  unfold background
  exact (keeps_forEach (fun _ _ h0 => (keeps_fabDrain h0)) (keeps_forEach (fun _ _ h1 => (keeps_laneTick h1)) (keeps_forEach (fun _ _ h2 => (keeps_lineNow h2)) (keeps_stopFinish (keeps_afterDue h)))))

theorem keeps_idleTick {s t : State} (h : idleTick s = .next t) : Keeps s t := by
  unfold idleTick at h
  exact keeps_done (keeps_background (keeps_clockTick (keeps_refl s))) h

/-! ### Ordered -/

theorem keeps_execSyncInEdge {s t : State} {a1 : Bool} {a2 : Nat} (h : execSyncInEdge a1 a2 s = .next t) : Keeps s t := by
  unfold execSyncInEdge at h
  exact keeps_done (keeps_syncEdge (keeps_rasterFirst (keeps_refl s))) h

theorem keeps_execTeEdge {s t : State} {a1 : Bool} {a2 : Nat} (h : execTeEdge a1 a2 s = .next t) : Keeps s t := by
  unfold execTeEdge at h
  exact keeps_done (keeps_teEdge (keeps_rasterFirst (keeps_refl s))) h

theorem keeps_execHkRoundEnd {s t : State} (h : execHkRoundEnd s = .next t) : Keeps s t := by
  unfold execHkRoundEnd at h
  exact keeps_done (keeps_roundEnd (keeps_rasterFirst (keeps_refl s))) h

theorem keeps_execVstart {s t : State} {a1 : Fin 4} {a2 : BitVec 16} {a3 : BitVec 16} {a4 : BitVec 16} {a5 : Byte} {a6 : BitVec 32} {a7 : BitVec 32} (h : execVstart a1 a2 a3 a4 a5 a6 a7 s = .next t) : Keeps s t := by
  unfold execVstart at h
  exact keeps_done (keeps_vstart (keeps_rasterFirst (keeps_refl s))) h

theorem keeps_execLine {s t : State} {a1 : Fin 4} {a2 : BitVec 16} {a3 : BitVec 16} {a4 : Byte} {a5 : BitVec 16} {a6 : List Byte} {a7 : Bool} (h : execLine a1 a2 a3 a4 a5 a6 a7 s = .next t) : Keeps s t := by
  unfold execLine at h
  exact keeps_done (keeps_lineIn (keeps_rasterFirst (keeps_refl s))) h

theorem keeps_execVend {s t : State} {a1 : Fin 4} {a2 : BitVec 16} {a3 : BitVec 16} {a4 : BitVec 32} (h : execVend a1 a2 a3 a4 s = .next t) : Keeps s t := by
  unfold execVend at h
  exact keeps_done (keeps_vend (keeps_rasterFirst (keeps_refl s))) h

theorem keeps_execPixelStrip {s t : State} {a1 : Fin 4} {a2 : FabHdr} {a3 : List Byte} (h : execPixelStrip a1 a2 a3 s = .next t) : Keeps s t := by
  unfold execPixelStrip at h
  exact keeps_done (keeps_pixelStrip (keeps_rasterFirst (keeps_refl s))) h

theorem keeps_execControl {s t : State} {a1 : Fin 4} {a2 : FabHdr} {a3 : List Byte} (h : execControl a1 a2 a3 s = .next t) : Keeps s t := by
  unfold execControl at h
  exact keeps_done (keeps_control (keeps_rasterFirst (keeps_refl s))) h

theorem keeps_execMacFrameRx {s t : State} {a1 : Fin 2} {a2 : Nat} {a3 : List Byte} {a4 : Bool} (h : execMacFrameRx a1 a2 a3 a4 s = .next t) : Keeps s t := by
  unfold execMacFrameRx at h
  exact keeps_done (keeps_frameIn (keeps_rasterFirst (keeps_refl s))) h

theorem keeps_execCanFrameRx {s t : State} {a1 : Fin 2} {a2 : BitVec 29} {a3 : Bool} {a4 : Fin 8} {a5 : List Byte} (h : execCanFrameRx a1 a2 a3 a4 a5 s = .next t) : Keeps s t := by
  unfold execCanFrameRx at h
  exact keeps_done (keeps_canIn (keeps_rasterFirst (keeps_refl s))) h

theorem keeps_execRasCtrlEnable {s t : State} {a1 : Bool} (h : execRasCtrlEnable a1 s = .next t) : Keeps s t := by
  unfold execRasCtrlEnable at h
  exact keeps_done (keeps_rasEnable (keeps_rasterFirst (keeps_refl s))) h

theorem keeps_execRasTimingCommit {s t : State} (h : execRasTimingCommit s = .next t) : Keeps s t := by
  unfold execRasTimingCommit at h
  exact keeps_done (keeps_timingCommit (keeps_rasterFirst (keeps_refl s))) h

theorem keeps_execTactArm {s t : State} {a1 : Fin 16} (h : execTactArm a1 s = .next t) : Keeps s t := by
  unfold execTactArm at h
  exact keeps_done (keeps_tactArm (keeps_rasterFirst (keeps_refl s))) h

theorem keeps_execTactCancel {s t : State} {a1 : Fin 16} (h : execTactCancel a1 s = .next t) : Keeps s t := by
  unfold execTactCancel at h
  exact keeps_done (keeps_tactCancel (keeps_rasterFirst (keeps_refl s))) h

theorem keeps_execLayerCommit {s t : State} {a1 : Fin 8} (h : execLayerCommit a1 s = .next t) : Keeps s t := by
  unfold execLayerCommit at h
  exact keeps_done (keeps_layerCommit (keeps_rasterFirst (keeps_refl s))) h

theorem keeps_execGlobalCommit {s t : State} (h : execGlobalCommit s = .next t) : Keeps s t := by
  unfold execGlobalCommit at h
  exact keeps_done (keeps_globalCommit (keeps_rasterFirst (keeps_refl s))) h

theorem keeps_execBeamCommit {s t : State} (h : execBeamCommit s = .next t) : Keeps s t := by
  unfold execBeamCommit at h
  exact keeps_done (keeps_beamCommit (keeps_rasterFirst (keeps_refl s))) h

theorem keeps_execBeamCtrlEn {s t : State} {a1 : Bool} (h : execBeamCtrlEn a1 s = .next t) : Keeps s t := by
  unfold execBeamCtrlEn at h
  exact keeps_done (keeps_beamEn (keeps_rasterFirst (keeps_refl s))) h

theorem keeps_execCorrCommit {s t : State} (h : execCorrCommit s = .next t) : Keeps s t := by
  unfold execCorrCommit at h
  exact keeps_done (keeps_corrCommit (keeps_rasterFirst (keeps_refl s))) h

theorem keeps_execPolCommit {s t : State} (h : execPolCommit s = .next t) : Keeps s t := by
  unfold execPolCommit at h
  exact keeps_done (keeps_polCommit (keeps_rasterFirst (keeps_refl s))) h

theorem keeps_execFbCtrlRaise {s t : State} {a1 : Fin 4} (h : execFbCtrlRaise a1 s = .next t) : Keeps s t := by
  unfold execFbCtrlRaise at h
  exact keeps_done (keeps_fbRaise (keeps_rasterFirst (keeps_refl s))) h

theorem keeps_fbCtrlClear {s t : State} (h : Keeps s t) : Keeps s (fbCtrlClear t) := by
  unfold fbCtrlClear
  exact keeps_ite (keeps_count h) (keeps_fbClear h)

theorem keeps_execFbCtrlClear {s t : State} (h : execFbCtrlClear s = .next t) : Keeps s t := by
  unfold execFbCtrlClear at h
  exact keeps_done (keeps_fbCtrlClear (keeps_rasterFirst (keeps_refl s))) h

theorem keeps_execLinknCtrlEn {s t : State} {a1 : Fin 32} {a2 : Bool} (h : execLinknCtrlEn a1 a2 s = .next t) : Keeps s t := by
  unfold execLinknCtrlEn at h
  exact keeps_done (keeps_linkEn (keeps_rasterFirst (keeps_refl s))) h

theorem keeps_execLinknCtrlRetrain {s t : State} {a1 : Fin 32} (h : execLinknCtrlRetrain a1 s = .next t) : Keeps s t := by
  unfold execLinknCtrlRetrain at h
  exact keeps_done (keeps_linkRetrain (keeps_rasterFirst (keeps_refl s))) h

theorem keeps_execTeMaskWrite {s t : State} {a1 : Word} (h : execTeMaskWrite a1 s = .next t) : Keeps s t := by
  unfold execTeMaskWrite at h
  exact keeps_done (keeps_teMask (keeps_rasterFirst (keeps_refl s))) h

theorem keeps_execStreamEn {s t : State} {a1 : Fin 4} {a2 : Bool} (h : execStreamEn a1 a2 s = .next t) : Keeps s t := by
  unfold execStreamEn at h
  exact keeps_done (keeps_streamEn (keeps_rasterFirst (keeps_refl s))) h

theorem keeps_execFabPortEn {s t : State} {a1 : Fin 4} {a2 : Bool} (h : execFabPortEn a1 a2 s = .next t) : Keeps s t := by
  unfold execFabPortEn at h
  exact keeps_done (keeps_fabPortEn (keeps_rasterFirst (keeps_refl s))) h

theorem keeps_execQuadCfgWrite {s t : State} {a1 : Fin 6} {a2 : Word} (h : execQuadCfgWrite a1 a2 s = .next t) : Keeps s t := by
  unfold execQuadCfgWrite at h
  exact keeps_done (keeps_quadCfg (keeps_rasterFirst (keeps_refl s))) h

theorem keeps_execLaneTestWrite {s t : State} {a1 : Fin 24} {a2 : Word} (h : execLaneTestWrite a1 a2 s = .next t) : Keeps s t := by
  unfold execLaneTestWrite at h
  exact keeps_done (keeps_laneCtrl (keeps_rasterFirst (keeps_refl s))) h

theorem keeps_execLaneRestart {s t : State} {a1 : Fin 24} (h : execLaneRestart a1 s = .next t) : Keeps s t := by
  unfold execLaneRestart at h
  exact keeps_done (keeps_laneRestart (keeps_rasterFirst (keeps_refl s))) h

theorem keeps_execCrcChcStart {s t : State} {a1 : Fin 8} (h : execCrcChcStart a1 s = .next t) : Keeps s t := by
  unfold execCrcChcStart at h
  exact keeps_done (keeps_chStart (keeps_rasterFirst (keeps_refl s))) h

theorem keeps_execSupCtrlEn {s t : State} {a1 : Bool} (h : execSupCtrlEn a1 s = .next t) : Keeps s t := by
  unfold execSupCtrlEn at h
  exact keeps_done (keeps_supEnable (keeps_rasterFirst (keeps_refl s))) h

theorem keeps_execSupPhaseEn {s t : State} {a1 : Word} (h : execSupPhaseEn a1 s = .next t) : Keeps s t := by
  unfold execSupPhaseEn at h
  exact keeps_done (keeps_supPhaseEn (keeps_rasterFirst (keeps_refl s))) h

theorem keeps_execSupRestartReg {s t : State} (h : execSupRestartReg s = .next t) : Keeps s t := by
  unfold execSupRestartReg at h
  exact keeps_done (keeps_supRestart (keeps_rasterFirst (keeps_refl s))) h

theorem keeps_execFabCtrlEn {s t : State} {a1 : Bool} (h : execFabCtrlEn a1 s = .next t) : Keeps s t := by
  unfold execFabCtrlEn at h
  exact keeps_done (keeps_fabEnable (keeps_rasterFirst (keeps_refl s))) h

theorem keeps_execSetCtrlLoad {s t : State} (h : execSetCtrlLoad s = .next t) : Keeps s t := by
  unfold execSetCtrlLoad at h
  exact keeps_done (keeps_timeLoad (keeps_rasterFirst (keeps_refl s))) h

theorem keeps_execSetCtrlStep {s t : State} (h : execSetCtrlStep s = .next t) : Keeps s t := by
  unfold execSetCtrlStep at h
  exact keeps_done (keeps_timeStep (keeps_rasterFirst (keeps_refl s))) h

theorem keeps_execTtnArm {s t : State} {a1 : Fin 4} (h : execTtnArm a1 s = .next t) : Keeps s t := by
  unfold execTtnArm at h
  exact keeps_done (keeps_ttArm (keeps_rasterFirst (keeps_refl s))) h

theorem keeps_execTtnCancel {s t : State} {a1 : Fin 4} (h : execTtnCancel a1 s = .next t) : Keeps s t := by
  unfold execTtnCancel at h
  exact keeps_done (keeps_ttCancel (keeps_rasterFirst (keeps_refl s))) h

theorem keeps_execTcnPop {s t : State} {a1 : Fin 4} (h : execTcnPop a1 s = .next t) : Keeps s t := by
  unfold execTcnPop at h
  exact keeps_done (keeps_tcPop (keeps_rasterFirst (keeps_refl s))) h

theorem keeps_execCanRestart {s t : State} {a1 : Fin 2} (h : execCanRestart a1 s = .next t) : Keeps s t := by
  unfold execCanRestart at h
  exact keeps_done (keeps_canBack (keeps_rasterFirst (keeps_refl s))) h

theorem keeps_execFwBegin {s t : State} {a1 : Msg} (h : execFwBegin a1 s = .next t) : Keeps s t := by
  unfold execFwBegin at h
  exact keeps_done (keeps_serve (fun _ _ h0 => (keeps_bodyFwBegin h0)) (keeps_rasterFirst (keeps_refl s))) h

theorem keeps_execFwData {s t : State} {a1 : Msg} (h : execFwData a1 s = .next t) : Keeps s t := by
  unfold execFwData at h
  exact keeps_done (keeps_serve (fun _ _ h0 => (keeps_bodyFwData h0)) (keeps_rasterFirst (keeps_refl s))) h

theorem keeps_execFwVerify {s t : State} {a1 : Msg} (h : execFwVerify a1 s = .next t) : Keeps s t := by
  unfold execFwVerify at h
  exact keeps_done (keeps_serve (fun _ _ h0 => (keeps_bodyFwVerify h0)) (keeps_rasterFirst (keeps_refl s))) h

theorem keeps_execFwCommit {s t : State} {a1 : Msg} (h : execFwCommit a1 s = .next t) : Keeps s t := by
  unfold execFwCommit at h
  exact keeps_done (keeps_serve (fun _ _ h0 => (keeps_bodyFwCommit h0)) (keeps_rasterFirst (keeps_refl s))) h

theorem keeps_execFwAbort {s t : State} {a1 : Msg} (h : execFwAbort a1 s = .next t) : Keeps s t := by
  unfold execFwAbort at h
  exact keeps_done (keeps_serve (fun _ _ h0 => (keeps_bodyFwAbort h0)) (keeps_rasterFirst (keeps_refl s))) h

theorem keeps_execFwInfo {s t : State} {a1 : Msg} (h : execFwInfo a1 s = .next t) : Keeps s t := by
  unfold execFwInfo at h
  exact keeps_done (keeps_serve (fun _ _ h0 => (keeps_bodyFwInfo h0)) (keeps_rasterFirst (keeps_refl s))) h

theorem keeps_execPwrEnter {s t : State} {a1 : Msg} (h : execPwrEnter a1 s = .next t) : Keeps s t := by
  unfold execPwrEnter at h
  exact keeps_done (keeps_serve (fun _ _ h0 => (keeps_bodyPwrEnter h0)) (keeps_rasterFirst (keeps_refl s))) h

theorem keeps_execPwrPadRelease {s t : State} {a1 : Msg} (h : execPwrPadRelease a1 s = .next t) : Keeps s t := by
  unfold execPwrPadRelease at h
  exact keeps_done (keeps_serve (fun _ _ h0 => (keeps_bodyPwrPadRelease h0)) (keeps_rasterFirst (keeps_refl s))) h

theorem keeps_execSnowGet {s t : State} {a1 : Msg} (h : execSnowGet a1 s = .next t) : Keeps s t := by
  unfold execSnowGet at h
  exact keeps_done (keeps_serve (fun _ _ h0 => (keeps_bodySnowGet h0)) (keeps_rasterFirst (keeps_refl s))) h

theorem keeps_execSlotBegin {s t : State} {a1 : Msg} (h : execSlotBegin a1 s = .next t) : Keeps s t := by
  unfold execSlotBegin at h
  exact keeps_done (keeps_serve (fun _ _ h0 => (keeps_bodySlotBegin h0)) (keeps_rasterFirst (keeps_refl s))) h

theorem keeps_execSlotData {s t : State} {a1 : Msg} (h : execSlotData a1 s = .next t) : Keeps s t := by
  unfold execSlotData at h
  exact keeps_done (keeps_serve (fun _ _ h0 => (keeps_bodySlotData h0)) (keeps_rasterFirst (keeps_refl s))) h

theorem keeps_execSlotEnd {s t : State} {a1 : Msg} (h : execSlotEnd a1 s = .next t) : Keeps s t := by
  unfold execSlotEnd at h
  exact keeps_done (keeps_serve (fun _ _ h0 => (keeps_bodySlotEnd h0)) (keeps_rasterFirst (keeps_refl s))) h

theorem keeps_execSlotAbort {s t : State} {a1 : Msg} (h : execSlotAbort a1 s = .next t) : Keeps s t := by
  unfold execSlotAbort at h
  exact keeps_done (keeps_serve (fun _ _ h0 => (keeps_bodySlotAbort h0)) (keeps_rasterFirst (keeps_refl s))) h

theorem keeps_execSlotDelete {s t : State} {a1 : Msg} (h : execSlotDelete a1 s = .next t) : Keeps s t := by
  unfold execSlotDelete at h
  exact keeps_done (keeps_serve (fun _ _ h0 => (keeps_bodySlotDelete h0)) (keeps_rasterFirst (keeps_refl s))) h

theorem keeps_execSetDefault {s t : State} {a1 : Msg} (h : execSetDefault a1 s = .next t) : Keeps s t := by
  unfold execSetDefault at h
  exact keeps_done (keeps_serve (fun _ _ h0 => (keeps_bodySetDefault h0)) (keeps_rasterFirst (keeps_refl s))) h

theorem keeps_execGainPut {s t : State} {a1 : Msg} (h : execGainPut a1 s = .next t) : Keeps s t := by
  unfold execGainPut at h
  exact keeps_done (keeps_serve (fun _ _ h0 => (keeps_bodyGainPut h0)) (keeps_rasterFirst (keeps_refl s))) h

theorem keeps_execLevelsPut {s t : State} {a1 : Msg} (h : execLevelsPut a1 s = .next t) : Keeps s t := by
  unfold execLevelsPut at h
  exact keeps_done (keeps_serve (fun _ _ h0 => (keeps_bodyLevelsPut h0)) (keeps_rasterFirst (keeps_refl s))) h

end Sys2Proof.Machine
end

