-- ==== Sys2Proof/Laws/Sent.lean ====
section
/-! SUPPORT. What sending changes: answers, events and notifications touch registers, memory, the check units, the mailboxes, the
fabric ports and the record of outputs, and no other field of the state. -/
namespace Sys2Proof.Machine

/-- `t` follows `s` with nothing changed but what sending may change. -/
def Sent (s t : State) : Prop := s.sameButSending t

theorem sent_refl (s : State) : Sent s s := rfl

theorem sent_trans {s t u : State} (h : Sent s t) (g : Sent t u) : Sent s u := by
  unfold Sent State.sameButSending at *
  rw [g, h]

theorem sent_mk {s t : State} {regs mem crc mbx fab out} (h : Sent s t) :
    Sent s ⟨regs, t.live, t.cap, mem, t.now, t.ras, t.links, t.segs, t.layers, t.surfs, t.strs, t.beam, t.corr, t.hlt, t.sup, t.pol,
      t.snow, crc, mbx, t.loads, t.host, fab, t.ptp, t.lanes, t.groups, t.net, t.hk, t.fw, t.pwr, t.pins, out, t.free, t.pending⟩ :=
  sent_trans h rfl

theorem sent_ite {s a b : State} {c : Prop} [Decidable c] (ha : Sent s a) (hb : Sent s b) : Sent s (if c then a else b) := by
  split <;> assumption

theorem sent_foldl {α : Type} {s t : State} {l : List α} {f : State → α → State} (hf : ∀ t' a, Sent s t' → Sent s (f t' a))
    (h : Sent s t) : Sent s (l.foldl f t) := by
  induction l generalizing t with
  | nil => exact h
  | cons a r ih => exact ih (hf t a h)

theorem sent_wr {s t : State} {a : Nat} {v : Word} (h : Sent s t) : Sent s (t.wr a v) := sent_mk h

theorem sent_putByte {s t : State} {a : Nat} {v : Byte} (h : Sent s t) : Sent s (t.putByte a v) := sent_mk h

theorem sent_ringPut {s t : State} {base c : Nat} {l : List Byte} (h : Sent s t) : Sent s (ringPut base c l t) := by
  induction l generalizing t c with
  | nil => exact h
  | cons b r ih => exact ih (sent_putByte h)

theorem sent_forEach {α : Type} {s t : State} {l : List α} {f : α → State → State} (hf : ∀ a t', Sent s t' → Sent s (f a t'))
    (h : Sent s t) : Sent s (forEach l f t) := sent_foldl (fun t' a => hf a t') h

theorem sent_when {s t : State} {c : Bool} {f : State → State} (hf : ∀ t', Sent s t' → Sent s (f t')) (h : Sent s t) :
    Sent s (when c f t) := by
  unfold when
  exact sent_ite (hf t h) h

theorem sent_wf {s t : State} {a2 : Nat} {a3 : Nat} {a4 : Nat} {a5 : Nat} (h : Sent s t) : Sent s (State.wf t a2 a3 a4 a5) := by
  unfold State.wf
  exact sent_wr h

theorem sent_countBy {s t : State} {a2 : Nat} {a3 : Nat} (h : Sent s t) : Sent s (State.countBy t a2 a3) := by
  unfold State.countBy
  exact sent_wr h

theorem sent_count {s t : State} {a2 : Nat} (h : Sent s t) : Sent s (State.count t a2) := by
  unfold State.count
  exact sent_countBy h

theorem sent_modCrcCh {s t : State} {a2 : Nat} {a3 : CrcSt → CrcSt} (h : Sent s t) : Sent s (State.modCrcCh t a2 a3) := by
  unfold State.modCrcCh
  exact sent_mk h

theorem sent_emit {s t : State} {a2 : Output} (h : Sent s t) : Sent s (State.emit t a2) := by
  unfold State.emit
  exact sent_mk h

theorem sent_modFabPort {s t : State} {a1 : Nat} {a2 : FabPort → FabPort} (h : Sent s t) : Sent s (modFabPort a1 a2 t) := by
  unfold modFabPort
  exact sent_mk h

theorem sent_fabFill {s t : State} {a1 : Nat} (h : Sent s t) : Sent s (fabFill a1 t) := by
  unfold fabFill
  extract_lets -merge -underBinder +onlyGivenNames x0 x1
  (try clear_value x0 x1)
  exact sent_modFabPort h

theorem sent_fabSeqUsed {s t : State} {a1 : Nat} (h : Sent s t) : Sent s (fabSeqUsed a1 t) := by
  unfold fabSeqUsed
  exact sent_mk h

theorem sent_flowOut {s t : State} {a1 : Nat} {a2 : Bool} {a3 : List Nat} (h : Sent s t) : Sent s (flowOut a1 a2 a3 t) := by
  unfold flowOut
  extract_lets -merge -underBinder +onlyGivenNames x0
  (try clear_value x0)
  exact sent_emit (sent_count (sent_fabSeqUsed (sent_modFabPort h)))

theorem sent_flowFreed {s t : State} {a1 : Nat} (h : Sent s t) : Sent s (flowFreed a1 t) := by
  unfold flowFreed
  exact sent_flowOut h

theorem sent_fabCredit {s t : State} {a1 : Nat} {a2 : Nat} {a3 : Nat} (h : Sent s t) : Sent s (fabCredit a1 a2 a3 t) := by
  unfold fabCredit
  extract_lets -merge -underBinder +onlyGivenNames x0
  have k1 : Sent s x0 := (sent_modFabPort h)
  exact sent_when (fun _ h2 => (sent_flowFreed h2)) k1

theorem sent_fabFree {s t : State} {a1 : FabPkt} (h : Sent s t) : Sent s (fabFree a1 t) := by
  unfold fabFree
  split
  exacts [h, (sent_fabCredit h)]

theorem sent_fabSendHead {s t : State} {a1 : Nat} {a2 : Nat} (h : Sent s t) : Sent s (fabSendHead a1 a2 t) := by
  unfold fabSendHead
  split
  exacts [h, (by extract_lets -merge -underBinder +onlyGivenNames x0; have k1 : Sent s x0 := (sent_modFabPort h); exact (sent_fabFree (sent_emit (sent_count k1))))]

theorem sent_fabSendOne {s t : State} {a1 : Nat} (h : Sent s t) : Sent s (fabSendOne a1 t) := by
  unfold fabSendOne
  split
  exacts [(sent_fabSendHead h), (by split; exacts [(sent_fabSendHead h), (by extract_lets -merge -underBinder +onlyGivenNames x0; (try clear_value x0); exact (by split; exacts [h, (sent_fabSendHead (sent_modFabPort h))]))])]

theorem sent_fabPurge {s t : State} {a1 : Nat} (h : Sent s t) : Sent s (fabPurge a1 t) := by
  unfold fabPurge
  extract_lets -merge -underBinder +onlyGivenNames x0 x1
  (try clear_value x0)
  have k2 : Sent s x1 := (sent_modFabPort h)
  exact sent_forEach (fun _ _ h3 => (sent_fabFree (sent_count h3))) k2

theorem sent_fabDrain {s t : State} {a1 : Nat} (h : Sent s t) : Sent s (fabDrain a1 t) := by
  unfold fabDrain
  extract_lets -merge -underBinder +onlyGivenNames x0
  have k1 : Sent s x0 := (sent_fabPurge (sent_fabFill h))
  exact sent_forEach (fun _ _ h2 => (sent_ite (sent_fabSendOne h2) h2)) k1

theorem sent_fabQueue {s t : State} {a1 : Nat} {a2 : FabPkt} (h : Sent s t) : Sent s (fabQueue a1 a2 t) := by
  unfold fabQueue
  exact sent_fabDrain (sent_modFabPort h)

theorem sent_fabDropAt {s t : State} {a1 : Nat} {a2 : FabPkt} (h : Sent s t) : Sent s (fabDropAt a1 a2 t) := by
  unfold fabDropAt
  exact sent_fabFree (sent_count h)

theorem sent_fabOut {s t : State} {a1 : Option Nat} {a2 : Nat} {a3 : FabPkt} (h : Sent s t) : Sent s (fabOut a1 a2 a3 t) := by
  unfold fabOut
  exact sent_ite (sent_fabDropAt h) (sent_ite (sent_fabDropAt (sent_count h)) (sent_fabQueue h))

theorem sent_fabOutMany {s t : State} {a1 : Option Nat} {a2 : List Nat} {a3 : FabPkt} (h : Sent s t) : Sent s (fabOutMany a1 a2 a3 t) := by
  unfold fabOutMany
  split
  exacts [(sent_fabFree h), (sent_fabOut (sent_forEach (fun _ _ h0 => (sent_fabOut h0)) h))]

theorem sent_fabForward {s t : State} {a1 : Option Nat} {a2 : FabPkt} (h : Sent s t) : Sent s (fabForward a1 a2 t) := by
  unfold fabForward
  exact (sent_ite (sent_fabOutMany h) (sent_ite (sent_fabOutMany h) (by extract_lets -merge -underBinder +onlyGivenNames x0; (try clear_value x0); exact (sent_ite (sent_fabOut h) (sent_fabDropAt h)))))

theorem sent_fabSend {s t : State} {a1 : Nat} {a2 : Nat} {a3 : Nat} {a4 : Nat} {a5 : List Byte} (h : Sent s t) : Sent s (fabSend a1 a2 a3 a4 a5 t) := by
  unfold fabSend
  exact sent_fabSeqUsed (sent_fabForward h)

theorem sent_fabControl {s t : State} {a1 : Nat} {a2 : List Byte} (h : Sent s t) : Sent s (fabControl a1 a2 t) := by
  unfold fabControl
  exact sent_fabSend h

theorem sent_protectDone {s t : State} {a1 : Nat} (h : Sent s t) : Sent s (protectDone a1 t) := by
  unfold protectDone
  exact sent_count (sent_modCrcCh (sent_wf h))

theorem sent_appendDone {s t : State} {a1 : Nat} {a2 : Nat} (h : Sent s t) : Sent s (appendDone a1 a2 t) := by
  unfold appendDone
  split
  exacts [(sent_protectDone h), h]

theorem sent_placeMsg {s t : State} {a1 : Nat} {a2 : Nat} {a3 : Nat} {a4 : Nat} {a5 : Nat} {a6 : Nat} {a7 : List Byte} (h : Sent s t) : Sent s (placeMsg a1 a2 a3 a4 a5 a6 a7 t) := by
  unfold placeMsg
  extract_lets -merge -underBinder +onlyGivenNames x0 x1 x3 x4 x5 x6 x7 x9
  (try clear_value x0 x3 x4 x5 x6)
  have k2 : Sent s x1 := (sent_appendDone h)
  have k8 : Sent s x7 := (sent_ringPut k2)
  have k10 : Sent s x9 := (sent_wf k8)
  exact sent_mk k10

theorem sent_countStatus {s t : State} {a1 : Nat} {a2 : Nat} (h : Sent s t) : Sent s (countStatus a1 a2 t) := by
  unfold countStatus
  exact (sent_ite (sent_count h) (sent_ite (sent_count h) (sent_ite (sent_count h) (sent_ite (sent_count h) h))))

theorem sent_sendMsg {s t : State} {a1 : Nat} {a2 : Nat} {a3 : Nat} {a4 : Nat} {a5 : Nat} {a6 : Nat} {a7 : List Byte} (h : Sent s t) : Sent s (sendMsg a1 a2 a3 a4 a5 a6 a7 t) := by
  unfold sendMsg
  exact sent_ite (sent_mk h) (sent_placeMsg h)

theorem sent_respond {s t : State} {a1 : Nat} {a2 : Nat} {a3 : Nat} {a4 : Nat} {a5 : Nat} {a6 : Nat} {a7 : Option Nat} {a8 : List Byte} (h : Sent s t) : Sent s (respond a1 a2 a3 a4 a5 a6 a7 a8 t) := by
  unfold respond
  extract_lets -merge -underBinder +onlyGivenNames x0 x1 x2
  (try clear_value x0 x1 x2)
  exact sent_sendMsg (sent_countStatus h)

theorem sent_respondTo {s t : State} {a1 : Ctx} {a2 : Nat} {a3 : List Byte} (h : Sent s t) : Sent s (respondTo a1 a2 a3 t) := by
  unfold respondTo
  exact sent_respond h

theorem sent_refuse {s t : State} {a1 : Ctx} {a2 : Nat} (h : Sent s t) : Sent s (refuse a1 a2 t) := by
  unfold refuse
  exact sent_respondTo h

theorem sent_noSpace {s t : State} {a1 : Ctx} {a2 : Nat} {a3 : Nat} {a4 : Bool} {a5 : Nat} (h : Sent s t) : Sent s (noSpace a1 a2 a3 a4 a5 t) := by
  unfold noSpace
  exact sent_respondTo h

theorem sent_forwardReq {s t : State} {a1 : Nat} {a2 : Msg} (h : Sent s t) : Sent s (forwardReq a1 a2 t) := by
  unfold forwardReq
  extract_lets -merge -underBinder +onlyGivenNames x0 x1 x2 x3 x4
  (try clear_value x0 x1 x2 x3)
  have k5 : Sent s x4 := (sent_mk h)
  exact sent_fabControl k5

theorem sent_canGoodTx {s t : State} {a1 : Nat} (h : Sent s t) : Sent s (canGoodTx a1 t) := by
  unfold canGoodTx
  extract_lets -merge -underBinder +onlyGivenNames x0
  (try clear_value x0)
  exact sent_wf (sent_wf h)

theorem sent_canSend {s t : State} {a1 : Nat} {a2 : List Byte} (h : Sent s t) : Sent s (canSend a1 a2 t) := by
  unfold canSend
  exact sent_canGoodTx (sent_count (sent_emit h))

theorem sent_ethSend {s t : State} {a1 : Nat} {a2 : Nat} {a3 : Nat} {a4 : List Byte} (h : Sent s t) : Sent s (ethSend a1 a2 a3 a4 t) := by
  unfold ethSend
  exact sent_count (sent_emit h)

theorem sent_transportTake {s t : State} {a1 : Nat × Nat × Nat} (h : Sent s t) : Sent s (transportTake a1 t) := by
  unfold transportTake
  extract_lets -merge -underBinder +onlyGivenNames x0 x1 x2 x3 x4 x5
  (try clear_value x0 x1 x2 x3 x4)
  have k6 : Sent s x5 := (sent_emit (sent_wf h))
  exact (by split; exacts [(by extract_lets -merge -underBinder +onlyGivenNames x7 x8; (try clear_value x7 x8); exact (sent_appendDone (sent_ethSend k6))), (sent_fabControl k6), (by extract_lets -merge -underBinder +onlyGivenNames x9; (try clear_value x9); exact (sent_forEach (fun _ _ h10 => (sent_canSend h10)) k6))])

theorem sent_drainTransports {s t : State} (h : Sent s t) : Sent s (drainTransports t) := by
  unfold drainTransports
  exact (sent_forEach (fun _ _ h0 => (sent_ite (sent_ite (sent_transportTake (sent_mk h0)) h0) h0)) h)

theorem sent_sendEvents {s t : State} {a1 : Nat} {a2 : List EvRec} (h : Sent s t) : Sent s (sendEvents a1 a2 t) := by
  unfold sendEvents
  extract_lets -merge -underBinder +onlyGivenNames x0
  (try clear_value x0)
  exact sent_ite (sent_countBy h) (by extract_lets -merge -underBinder +onlyGivenNames x1; (try clear_value x1); exact (sent_placeMsg (sent_mk h)))

theorem sent_sendTick {s t : State} {a1 : List EvRec} (h : Sent s t) : Sent s (sendTick a1 t) := by
  unfold sendTick
  exact (sent_forEach (fun _ _ h0 => (by extract_lets -merge -underBinder +onlyGivenNames x1; (try clear_value x1); exact (sent_forEach (fun _ _ h2 => (sent_sendEvents h2)) h0))) h)

theorem sent_sendOver {s t : State} {n : Nat} (h : Sent s t) : Sent s (sendOver n t) := by
  induction n generalizing t with
  | zero => exact h
  | succ n ih =>
    unfold sendOver
    split
    · exact h
    · exact sent_ite h (ih (sent_sendTick (sent_mk h)))

theorem sent_flushEvents {s t : State} (h : Sent s t) : Sent s (flushEvents t) := by
  unfold flushEvents
  exact sent_ite h (sent_sendOver h)

end Sys2Proof.Machine
end

