-- ==== Sys2Proof/Laws/Rail.lean ====
section
/-! SUPPORT. What a reset and sending leave of the supply rail VOUT_3V3 (R441): none of the parts of a reset but the blanking of the power
state can change it. -/
namespace Sys2Proof.Machine

theorem vout_settle (s : State) : vout3v3 (drainTransports (flushEvents s)) = vout3v3 s := by
  have h : s.sameButSending s.settle := sent_drainTransports (sent_flushEvents (sent_refl s))
  unfold State.sameButSending at h
  show vout3v3 s.settle = _
  rw [h]; rfl

theorem vout_forEach {α} (l : List α) (f : α → State → State) (h : ∀ a t, vout3v3 (f a t) = vout3v3 t) (s : State) : vout3v3 (forEach l f s) = vout3v3 s := by
  unfold forEach
  induction l generalizing s with
  | nil => rfl
  | cons a r ih => simp only [List.foldl_cons]; rw [ih, h]

theorem vout_putBytes (s : State) (a : Nat) (l : List Byte) : vout3v3 (s.putBytes a l) = vout3v3 s := by
  rw [State.putBytes_frame]; rfl

theorem vout_when (c : Bool) (f : State → State) (h : ∀ t, vout3v3 (f t) = vout3v3 t) (s : State) : vout3v3 (when c f s) = vout3v3 s := by
  unfold when; split <;> simp [h]

theorem vout_wr (s : State) (a : Nat) (v : Word) : vout3v3 (s.wr a v) = vout3v3 s := rfl

theorem vout_wf (s : State) (a l n v : Nat) : vout3v3 (s.wf a l n v) = vout3v3 s := rfl

theorem vout_wb (s : State) (a l : Nat) (v : Bool) : vout3v3 (s.wb a l v) = vout3v3 s := rfl

theorem vout_count (s : State) (a : Nat) : vout3v3 (s.count a) = vout3v3 s := rfl

theorem vout_fbShow (s : State) : vout3v3 (fbShow s) = vout3v3 s := by
  unfold fbShow
  split
  · rfl
  · simp only [vout_wf, vout_wb]

theorem vout_snowShow (s : State) : vout3v3 (snowShow s) = vout3v3 s := by
  unfold snowShow
  refine (vout_forEach _ _ ?_ _).trans ?_
  · intro a t
    exact (vout_wr _ _ _).trans ((vout_wr _ _ _).trans (vout_wr _ _ _))
  · exact (vout_wr _ _ _).trans ((vout_wr _ _ _).trans ((vout_wf _ _ _ _ _).trans (vout_fbShow s)))

theorem putBytes_rail (s : State) (a : Nat) (l : List Byte) : (s.putBytes a l).pwr = s.pwr ∧ (s.putBytes a l).hlt = s.hlt := by
  rw [State.putBytes_frame]; exact ⟨rfl, rfl⟩

theorem parts_rail (part : Nat → State → State) (h : ∀ i u, (part i u).pwr = u.pwr ∧ (part i u).hlt = u.hlt) (s : State) :
    (part 1 (part 0 s)).useFree.pwr = s.pwr ∧ (part 1 (part 0 s)).useFree.hlt = s.hlt :=
  ⟨(h 1 _).1.trans (h 0 s).1, (h 1 _).2.trans (h 0 s).2⟩

theorem saveLost_frame (s : State) : saveLost s = { saveLost s with pwr := s.pwr, hlt := s.hlt } := by
  have h : ∀ x : State, x.pwr = s.pwr ∧ x.hlt = s.hlt → x = { x with pwr := s.pwr, hlt := s.hlt } := fun x hx => by
    rw [← hx.1, ← hx.2]
  apply h
  unfold saveLost
  generalize hn : s.freeNow % (2 * tableBytes + 1) = n
  cases s.corr.saving with
  | none => exact ⟨rfl, rfl⟩
  | some e =>
    obtain ⟨g, home, x⟩ := e
    exact parts_rail (fun t u => u.putBytes (if home = true then homeAt t g else scratchAt t) ((u.bytes (liveAt u t g) tableBytes).take (n - tableBytes * t))) (fun i u => putBytes_rail _ _ _) s

theorem saveLost_rail (s : State) : (saveLost s).pwr = s.pwr ∧ (saveLost s).hlt = s.hlt := by
  rw [saveLost_frame]; exact ⟨rfl, rfl⟩

theorem vout_blank (c : Bool) (s : State) : vout3v3 (blank c s) = (!s.pwr.vinLow && !s.hlt.vinUnder) := by
  have e := saveLost_rail s
  have p : (blank c s).pwr.vinLow = (saveLost s).pwr.vinLow ∧ (blank c s).hlt.vinUnder = (saveLost s).hlt.vinUnder ∧ (blank c s).pwr.state = 0 ∧ (blank c s).pwr.shut = false := ⟨rfl, rfl, rfl, rfl⟩
  unfold vout3v3
  rw [p.1, p.2.1, p.2.2.1, p.2.2.2, e.1, e.2]
  simp

theorem vout_dirUpdated (s : State) : vout3v3 (dirUpdated s) = vout3v3 s := by
  unfold dirUpdated State.putLe
  rw [vout_putBytes, vout_putBytes]

theorem vout_writingEntry (s : State) : vout3v3 (writingEntry s) = vout3v3 s := by
  unfold writingEntry
  repeat' split
  all_goals simp only [vout_dirUpdated, vout_putBytes]

theorem vout_restoreSlot (k c : Nat) (s : State) : vout3v3 (restoreSlot k c s) = vout3v3 s := by
  unfold restoreSlot
  extract_lets
  rename_i e e' w fits old t
  have ht : vout3v3 t = vout3v3 s := by
    show vout3v3 (if _ then _ else _) = _
    split
    · exact vout_putBytes _ _ _
    · simp only [State.copyBytes, vout_putBytes]
  split
  · exact ht
  · rw [vout_dirUpdated]; exact ht

theorem vout_restoreFrom (p c : Nat) (s : State) : vout3v3 (restoreFrom p c s) = vout3v3 s := by
  unfold restoreFrom
  split
  · rw [vout_writingEntry]; exact vout_putBytes _ _ _
  · exact vout_putBytes _ _ _
  · exact vout_restoreSlot _ _ _

theorem vout_snowReset (o : Option SnowOp) (s : State) : vout3v3 (snowReset o s) = vout3v3 s := by
  unfold snowReset
  dsimp only
  rw [vout_snowShow]
  split
  · rfl
  · split
    · rw [vout_restoreFrom]; split <;> simp [vout_restoreFrom]
    · split
      · rfl
      · rw [vout_restoreFrom]

theorem vout_aonLoad (s : State) : vout3v3 (aonLoad s) = vout3v3 s := rfl

theorem vout_strapsApply (s : State) : vout3v3 (strapsApply s) = vout3v3 s := by
  unfold strapsApply
  exact (vout_when _ _ (fun t => vout_forEach _ _ (fun a t => vout_wf _ _ _ _ _) t) _).trans (vout_when _ _ (fun t => vout_wb _ _ _ _) _)

theorem vout_modLink (s : State) (n : Nat) (f : LinkSt → LinkSt) : vout3v3 (s.modLink n f) = vout3v3 s := rfl

theorem vout_modSeg (s : State) (n : Nat) (f : SegSt → SegSt) : vout3v3 (s.modSeg n f) = vout3v3 s := rfl

theorem vout_emit (s : State) (o : Output) : vout3v3 (s.emit o) = vout3v3 s := rfl

theorem vout_slkSend (s : State) (n ty sub flags : Nat) (l : List Byte) : vout3v3 (slkSend n ty sub flags l s) = vout3v3 s := by
  unfold slkSend
  exact (vout_modLink _ _ _).trans (vout_emit _ _)

theorem vout_linePacket (n g : Nat) (s : State) : vout3v3 (linePacket n g s) = vout3v3 s := by
  unfold linePacket
  dsimp only
  split
  · exact (vout_modSeg _ _ _).trans ((vout_modLink _ _ _).trans (vout_emit _ _))
  · exact vout_modSeg _ _ _

theorem vout_lineRun (n : Nat) (i : Int) (k : Nat) (s : State) : vout3v3 (lineRun n i k s) = vout3v3 s := by
  induction k generalizing s with
  | zero => rfl
  | succ k ih =>
    unfold lineRun
    split
    · rfl
    · split
      · rfl
      · exact (ih _).trans (vout_linePacket _ _ _)

theorem vout_lineTake (n k : Nat) (s : State) : vout3v3 (lineTake n k s) = vout3v3 s := by
  unfold lineTake lineNow
  refine (vout_modLink _ _ _).trans ?_
  split
  · exact vout_lineRun _ _ _ _
  · rfl

theorem vout_segToDefault (g : Nat) (s : State) : vout3v3 (segToDefault g s) = vout3v3 s := by
  unfold segToDefault setSegState holdShow
  refine (vout_wf _ _ _ _ _).trans ((vout_wb _ _ _ _).trans ((vout_wf _ _ _ _ _).trans (vout_when _ _ (fun t => ?_) _)))
  unfold segBlankNow blankShown blankNow blankCmd
  exact (vout_modSeg _ _ _).trans ((vout_slkSend _ _ _ _ _ _).trans (vout_lineTake _ _ _))

end Sys2Proof.Machine
end

