-- ==== Sys2Proof/WellFormed.lean ====
section
/-! DEFINITION. Well-formed commands: operands of the length and the kind that the interface they come from can carry. A meaning is total
all the same; a length that the spec lets the block judge (a packet too long, a payload too short) is no matter of form. -/
namespace Sys2Proof

/-- A message whose LENGTH fits its 16 bits (Table MBX-2), of a client its mailbox can have (R325). -/
def Msg.wf (m : Msg) : Bool :=
  decide (m.payload.length < 65536) &&
    (if m.mb == 5 then decide (m.client < 4096) else if m.mb == 4 then decide (m.client < 2 ^ 49) else m.client == 0)

/-- A byte string whose length fits a 16-bit LENGTH. -/
def len16 (l : List Byte) : Bool := decide (l.length < 65536)

/-- A path of at most 64 hops, the size of PATH (Table FAB-3). -/
def DiscPath.wf (d : DiscPath) : Bool := decide (d.depth.toNat ≤ 64)

/-- What a channel measures (Table HK-1): diodes on channels 12 to 17, thermistor codes on 0 to 11, values on the rest. -/
def HkRaw.fits (r : HkRaw) (ch : Nat) : Bool :=
  match r with
  | .diode _ _ _ => decide (12 ≤ ch ∧ ch < 18)
  | .code _ => decide (ch < 12)
  | .value _ => decide (ch < 12 ∨ 18 ≤ ch)

/-- Fields a run of unit `u` finds (Table HK-4). -/
def unitFields (u : Nat) : Nat := if 64 ≤ u ∧ u < 96 then 2 else 1

/-- Operands that an interface can carry. -/
def Instr.wf : Instr → Bool
  | .sysInfo m => m.wf
  | .sysStatus m => m.wf
  | .sysReset m => m.wf
  | .sysProtect m => m.wf
  | .sysMbxCfg m => m.wf
  | .sysAliveReset m => m.wf
  | .pwrGet m => m.wf
  | .pwrEnter m => m.wf
  | .pwrOff m => m.wf
  | .pwrPadRelease m => m.wf
  | .rasGet m => m.wf
  | .rasTiming m => m.wf
  | .rasEpoch m => m.wf
  | .rasEnable m => m.wf
  | .rasSyncCfg m => m.wf
  | .layerGet m => m.wf
  | .layerSet m => m.wf
  | .canvasSet m => m.wf
  | .lutLoad m => m.wf
  | .surfCreate m => m.wf
  | .surfDestroy m => m.wf
  | .surfWrite m => m.wf
  | .surfPublish m => m.wf
  | .surfPool m => m.wf
  | .beamGet m => m.wf
  | .listPut m => m.wf
  | .beamCfg m => m.wf
  | .patLoad m => m.wf
  | .glyphLoad m => m.wf
  | .gridLoad m => m.wf
  | .corrRead m => m.wf
  | .corrStage m => m.wf
  | .corrApply m => m.wf
  | .corrSave m => m.wf
  | .corrCfg m => m.wf
  | .curveLoad m => m.wf
  | .segCfg m => m.wf
  | .healthGet m => m.wf
  | .mapRead m => m.wf
  | .healthClear m => m.wf
  | .vfCapture m => m.wf
  | .healthSave m => m.wf
  | .healthCfg m => m.wf
  | .supGet m => m.wf
  | .supCfg m => m.wf
  | .supRestart m => m.wf
  | .supLimit m => m.wf
  | .polGet m => m.wf
  | .polSet m => m.wf
  | .fbRaise m => m.wf
  | .fbClear m => m.wf
  | .snowGet m => m.wf
  | .slotBegin m => m.wf
  | .slotData m => m.wf
  | .slotEnd m => m.wf
  | .slotAbort m => m.wf
  | .slotDelete m => m.wf
  | .setDefault m => m.wf
  | .gainPut m => m.wf
  | .levelsPut m => m.wf
  | .linkGet m => m.wf
  | .linkEnable m => m.wf
  | .linkRetrain m => m.wf
  | .streamCfg m => m.wf
  | .quadCfg m => m.wf
  | .laneTest m => m.wf
  | .netCfg m => m.wf
  | .segBlank m => m.wf
  | .segDefaultLoad m => m.wf
  | .fabGet m => m.wf
  | .fabCfg m => m.wf
  | .fabPort m => m.wf
  | .fabGroup m => m.wf
  | .fabFwd m => m.wf
  | .fabSub m => m.wf
  | .fabRediscover m => m.wf
  | .fabTopo m => m.wf
  | .timeGet m => m.wf
  | .timeSet m => m.wf
  | .timeUtc m => m.wf
  | .servoCfg m => m.wf
  | .ptpPort m => m.wf
  | .ttArm m => m.wf
  | .tcPop m => m.wf
  | .sensorGet m => m.wf
  | .sensorCfg m => m.wf
  | .calRun m => m.wf
  | .calSave m => m.wf
  | .crcGet m => m.wf
  | .crcCfg m => m.wf
  | .crcScan m => m.wf
  | .logRead m => m.wf
  | .logClear m => m.wf
  | .fwInfo m => m.wf
  | .fwBegin m => m.wf
  | .fwData m => m.wf
  | .fwVerify m => m.wf
  | .fwCommit m => m.wf
  | .fwAbort m => m.wf
  | .regRead m => m.wf
  | .regWrite m => m.wf
  | .regRmw m => m.wf
  | .laEnter m => m.wf
  | .laExit m => m.wf
  | .laTol m => m.wf
  | .laStatus m => m.wf
  | .stagedLoadTimeout _ _ => true
  | .mbnInSluice _ _ => true
  | .mbnOutSluice _ _ => true
  | .messageDequeue => true
  | .responseRelease _ => true
  | .timedCommandDue _ => true
  | .forwardedResponse _ bytes => len16 bytes && decide (16 ≤ bytes.length)
  | .forwardRecordExpiry _ => true
  | .mbxCanAssyTimeout _ => true
  | .phase0 => true
  | .blankingStart => true
  | .renderCutoff => true
  | .renderPassDone => true
  | .syncInEdge _ _ => true
  | .syncLost => true
  | .teEdge _ _ => true
  | .teWindowClose => true
  | .timeActionDue _ => true
  | .tactArm _ => true
  | .tactCancel _ => true
  | .rasTimingCommit => true
  | .rasCtrlEnable _ => true
  | .layerCommit _ => true
  | .globalCommit => true
  | .beamCommit => true
  | .corrCommit => true
  | .polCommit => true
  | .beamCtrlEn _ => true
  | .fetchUnderrun _ _ _ _ => true
  | .segmentComposed _ => true
  | .polderCheck _ => true
  | .polderMismatch _ _ => true
  | .fbCtrlRaise _ => true
  | .fbCtrlClear => true
  | .layerMissPolicy _ => true
  | .bufferRetired _ => true
  | .linknCtrlEn _ _ => true
  | .linknCtrlRetrain _ => true
  | .teMaskWrite _ => true
  | .heartbeat _ => true
  | .heartbeatEcho _ _ => true
  | .heartbeatEchoTimeout _ => true
  | .upstreamLock _ => true
  | .upstreamLockLoss _ => true
  | .trainReq _ => true
  | .trainRsp _ _ => true
  | .probeEcho _ _ => true
  | .calburstEcho _ _ _ _ => true
  | .trainingStateTimeout _ => true
  | .retryWaitExpiry _ => true
  | .downAttempt _ => true
  | .ack _ _ _ _ => true
  | .nak _ _ _ _ _ _ => true
  | .ackTimeout _ _ _ _ => true
  | .segStatus _ _ classes => classes.length == 1024
  | .vfRow _ _ _ _ samples => samples.length == 64
  | .headroom _ _ _ => true
  | .segTemp _ _ temps => temps.length == 8
  | .upstreamBadPacket _ _ => true
  | .holdExpired _ => true
  | .vstart _ _ _ _ _ _ _ => true
  | .line _ _ _ _ _ pixels _ => len16 pixels
  | .vend _ _ _ _ => true
  | .metaPacket _ _ data => len16 data
  | .frameTimeout _ => true
  | .streamLossTimeout _ => true
  | .streamEn _ _ => true
  | .fabPortEn _ _ => true
  | .quadCfgWrite _ _ => true
  | .laneTestWrite _ _ => true
  | .laneRestart _ => true
  | .detectTest _ _ _ => true
  | .trainingSetsReceived _ _ _ _ _ => true
  | .laneLock _ _ _ => true
  | .caps _ _ => true
  | .laneStageTimeout _ => true
  | .laneBackoffExpiry _ => true
  | .laneProbe _ => true
  | .laneSignalDetect _ => true
  | .laneSignalLoss _ _ => true
  | .laneCodeErrors _ _ => true
  | .refclkFail _ => true
  | .refclkPresent _ _ => true
  | .eios _ => true
  | .fts _ _ => true
  | .eiosAnswerTimeout _ => true
  | .macFrameRx _ _ frame _ => len16 frame
  | .macLinkChange _ _ _ _ _ _ => true
  | .canFrameRx _ _ _ _ data => decide (data.length ≤ 64)
  | .beamCanAssyTimeout _ => true
  | .busOffRecovery _ => true
  | .canRestart _ => true
  | .listTimeout => true
  | .lampClass _ => true
  | .reportLoss _ => true
  | .vfCaptureDone => true
  | .corrCopyDone => true
  | .crcScanEnd _ _ => true
  | .crcChcEn _ _ => true
  | .crcChcStart _ => true
  | .vledOvervoltage => true
  | .vledUndervoltage => true
  | .phaseImbalance _ => true
  | .currentSenseOpen _ => true
  | .ovRestart => true
  | .softstartDone => true
  | .supCtrlEn _ => true
  | .supPhaseEn _ => true
  | .supRestartReg => true
  | .snowEccError _ _ => true
  | .snowRestore _ _ _ => true
  | .mirrorDone => true
  | .mramRecordCommit _ => true
  | .aliveOutToggle => true
  | .fabCtrlEn _ => true
  | .pixelStrip _ _ data => len16 data
  | .control _ _ data => len16 data
  | .time _ _ _ data => len16 data
  | .hello _ _ => true
  | .helloSend => true
  | .claimLapse _ => true
  | .rootElected => true
  | .noRoot => true
  | .assign _ _ d _ _ _ => d.wf
  | .assignAck _ _ d _ _ neigh => d.wf && neigh.length == 4
  | .assignTimeout => true
  | .route _ _ d _ image => d.wf && image.length == 2180
  | .routeCommit _ _ _ _ => true
  | .routeBankSwitch => true
  | .routeAck _ _ d _ _ => d.wf
  | .linkEvent _ _ _ _ _ _ => true
  | .flow _ _ _ _ _ _ => true
  | .flowSend _ => true
  | .fabPacketDelay _ _ => true
  | .subLossTimeout _ => true
  | .ptpEventMessage _ _ msg => len16 msg
  | .ptpMessageSend _ _ _ msg => len16 msg
  | .servoOffset _ => true
  | .servoHoldover => true
  | .setCtrlLoad => true
  | .setCtrlStep => true
  | .timeNsRead => true
  | .ttnArm _ => true
  | .ttnCancel _ => true
  | .ttOccurrence _ => true
  | .ttPulseEnd _ => true
  | .captureEdge _ _ total => decide (total < 2 ^ 64)
  | .tcnPop _ => true
  | .hkSlotEnd ch raw => raw.fits ch.val
  | .hkRoundEnd => true
  | .calibrationRunEnd u vals _ _ _ => vals.length == unitFields u.val
  | .calFieldWrite _ _ => true
  | .prewarnTrip => true
  | .prewarnRelease => true
  | .shutdown => true
  | .stopStepDone => true
  | .stopStepTimeout => true
  | .wake _ => true
  | .aonTimerWake => true
  | .tempWake => true
  | .thawStepEnd => true
  | .vinUndervoltage _ => true
  | .vinOvervoltage _ _ => true
  | .por _ _ => true
  | .resetN _ => true
  | .watchdog => true
  | .lockstep => true
  | .clockFail => true
  | .aonLoss => true
  | .vioLoss _ => true
  | .vioReturn _ _ => true
  | .xtalOk => true
  | .bootRomVerify _ _ => true
  | .lightStart => true
  | .dramReady _ => true
  | .fwResume => true
  | .fwConfirm => true
  | .fwUpdateTimeout => true
  | .dramEccError addr _ => decide (addr < 2 ^ 40)
  | .sramEccError _ => true
  | .hostRead32 _ _ => true
  | .hostReadBurst _ _ _ => true
  | .hostWrite32 _ _ => true
  | .hostWriteBurst _ _ => true
  | .hostStatus _ => true
  | .badOpcode _ => true
  | .hostWriteApply => true
  | .hostReadTimeout => true
  | .hostWriteTimeout => true
  | .tableBaseWrite _ _ => true
  | .bankWindowWrite _ _ => true
  | .registerWrite _ _ => true
  | .badStreamPacket _ _ => true
  | .fabricBadPacket _ _ _ => true
  | .laneDeskewError _ _ => true
  | .canErrorFrame _ _ _ => true
  | .vledUndervoltageEnd => true
  | .vinUndervoltageEnd => true
  | .fwVerifyDone _ => true
  | .startupReady => true
  | .syncOutPulse => true
  | .syncOutPulseEnd => true
  | .streamSendFinish _ => true
  | .prbsLock _ _ _ => true

end Sys2Proof
end

