-- ==== Sys2Proof/Tests/Slice0.lean ====
section
/-! SUPPORT. Tests: each check of well-formedness refuses a term, worked examples of the spec, and a witness for the premises of every
obligation (a concrete state and operands that meet them together, one for each of its clauses). -/

namespace Sys2Proof.Tests
open Sys2Proof Sys2Proof.Machine
set_option Elab.async false
set_option linter.unusedVariables false

/-- Registers as a setting leaves them. -/
def regs (l : List (Nat × Nat)) (s : State) : State := l.foldl (fun t e => t.wr e.1 (BitVec.ofNat 32 e.2)) s

/-- The device at stage 8 of its start. -/
def up : State := regs [(Reg.PMU_STATE, 0x800)] State.reset

/-- A request to this device on MB0. -/
def msg (cls idx : Nat) (p : List Byte := []) : Msg :=
  { mb := 0, flags := 0, alive := 1, seq := 1, fid := 0, cls := BitVec.ofNat 4 cls, index := BitVec.ofNat 16 idx, client := 0, payload := p }

/-- A register-set payload. -/
def regSet (off ctrl mask : Nat) (ws : List Nat) : List Byte :=
  leBytes 2 off ++ leBytes 1 ctrl ++ [0] ++ leBytes 4 mask ++ ws.flatMap (leBytes 4)

/-- A light-command list of `n` empty commands, with the check its header carries. -/
def listBytes (alive : Nat) : List Byte :=
  let h : List Byte := [0x30, 0, BitVec.ofNat 8 alive, 0] ++ leBytes 4 0 ++ leBytes 4 0
  h ++ leBytes 4 (crc32c h)

theorem scanOk_wit : scanOk (regs [(Reg.CRC_CH_CTRL 2, 1), (Reg.CRC_CH_START_LO 2, 0), (Reg.CRC_CH_START_HI 2, 16), (Reg.CRC_CH_LENGTH 2, 64)] up) 2 = true := by
  by_cases hg : (Config.gradeM1.val == 2) = true <;> simp only [scanOk, scanRegion, dramBytes, hg] <;> decide +kernel

theorem scanOk_wit2 : scanOk (regs [(Reg.CRC_CH_CTRL 2, 1), (Reg.CRC_CH_START_LO 2, 0), (Reg.CRC_CH_START_HI 2, 32), (Reg.CRC_CH_LENGTH 2, 64)] up) 2 = true := by
  by_cases hg : (Config.gradeM1.val == 2) = true <;> simp only [scanOk, scanRegion, dramBytes, hg] <;> decide +kernel

theorem mac_wit (s : State) (m d : Nat) (h : d = 0xFFFFFFFFFFFF) : macAccepts s m d = true := by simp [macAccepts, h]

theorem cause_wit (s : State) (w v : Word) (c : s.canonical = true) (h : s.bit Reg.PMU_RESET_CAUSE 4 = true) :
    ((s.wr Reg.FW_GEN w).wr Reg.FW_VERSION v).bit Reg.PMU_RESET_CAUSE 4 = true := by
  simp only [State.bit, State.fd] at *
  rw [rd_wr_other (canonical_wr c) (by decide), rd_wr_other c (by decide)]; exact h

/-- Registers pinned to words that differ from what an implementation fixes. -/
def pinned (l : List (Nat × Nat)) (s : State) : State :=
  l.foldl (fun t e => { t with regs := sinsert t.regs e.1 (BitVec.ofNat 32 e.2) }) s

/-- The device with one request waiting at the head of MB0. -/
def inbox : State :=
  let h : List Byte := leBytes 2 1 ++ leBytes 1 0 ++ leBytes 1 1 ++ leBytes 2 4 ++ leBytes 6 0
  regs [(Reg.MBX_MB_IN_SLUICE 0, 16)]
    ({ up with mbx := { up.mbx with samples := [(0, 0, 0, 0)] } }.putBytes (inRing 0) (h ++ leBytes 4 (crc32c h)))

/-- The bytes of a fabric packet with a wrong CRC. -/
def badFab : List Byte := [5, 112, 0, 33] ++ List.replicate 20 0

/-- A stream packet without payload of a TYPE. -/
def emptyStr (ty : Nat) : List Byte := strFrame ty 1 []

/-- The device with a good first copy of the directory, of no bytes. -/
def goodDir : State := up.putBytes (trailerAt 4 0) (List.replicate 8 0 ++ leBytes 4 (crc32c (List.replicate 8 0)))

/-- No boundary of the raster is due, so that a state is what it is after them. -/
def quietRaster (s : State) : Bool := !(blankDue s) && !(cutDue s) && !(p0Due s)

theorem rasterFirst_of_quiet (s : State) (h : quietRaster s = true) : s = rasterFirst s := by
  simp only [quietRaster, Bool.and_eq_true, Bool.not_eq_true'] at h
  simp [rasterFirst, when, h.1.1, h.1.2, h.2]

/-! ### Well-formedness: an ill-formed term for each check -/

theorem test_wf_payload : (Instr.sysInfo (msg 0 0 (List.replicate 65536 0))).wf = false := by decide +kernel
theorem test_wf_client : (Instr.sysInfo { msg 0 0 with client := 1 }).wf = false ∧ (Instr.sysInfo { msg 0 0 with mb := 4, client := 2 ^ 49 }).wf = false ∧
    (Instr.sysInfo { msg 0 0 with mb := 5, client := 4096 }).wf = false ∧ (Instr.sysInfo { msg 0 0 with mb := 5, client := 4095 }).wf = true := by decide +kernel
theorem test_wf_forwarded : (Instr.forwardedResponse 1 (List.replicate 15 0)).wf = false := by decide +kernel
theorem test_wf_reports : (Instr.segStatus 0 0 []).wf = false ∧ (Instr.vfRow 0 0 0 0 []).wf = false ∧ (Instr.segTemp 0 0 []).wf = false := by decide +kernel
theorem test_wf_bytes : (Instr.line 0 0 0 0 0 (List.replicate 65536 0) true).wf = false ∧ (Instr.metaPacket 0 0 (List.replicate 65536 0)).wf = false ∧
    (Instr.macFrameRx 0 0 (List.replicate 65536 0) true).wf = false ∧ (Instr.canFrameRx 0 0 false 0 (List.replicate 65 0)).wf = false := by decide +kernel
theorem test_wf_paths : (DiscPath.mk 65 0).wf = false ∧ (DiscPath.mk 64 0).wf = true := by decide +kernel
theorem test_wf_lists : (Instr.assignAck 0 ⟨0, 0, 0, 0, 0, 0, 0, 0⟩ ⟨1, 0⟩ 0 0 []).wf = false ∧ (Instr.route 0 ⟨0, 0, 0, 0, 0, 0, 0, 0⟩ ⟨1, 0⟩ 0 []).wf = false := by decide +kernel
theorem test_wf_samples : (Instr.hkSlotEnd 20 (.code 5)).wf = false ∧ (Instr.hkSlotEnd 5 (.diode 0 0 0)).wf = false ∧ (Instr.hkSlotEnd 13 (.value 0)).wf = false ∧
    (Instr.calibrationRunEnd 70 [1] 0 0 false).wf = false := by decide +kernel
theorem test_wf_numbers : (Instr.captureEdge 0 true (2 ^ 64)).wf = false ∧ (Instr.dramEccError (2 ^ 40) none).wf = false := by decide +kernel

/-! ### No row of the command table has bits -/

theorem test_no_word_spells_a_command : decodeTableWord 32 0 = none ∧ decodeTableWord 0 7 = none := by decide

/-! ### Worked examples of the spec -/

/-- Table CMP-3: a symbol at full coverage, and the object mask at two canvas pixels. -/
theorem test_blend_of_table_cmp3 : blend 3 40000 52000 255 255 1 = 52000 ∧ blend 2 40400 32768 255 255 1 = 20200 ∧ blend 2 52000 16384 255 255 1 = 13000 := by decide +kernel

/-- The example of R114: four canvas pixels at (812.25, 407.5) give 38,650. -/
theorem test_canvas_position_of_table_cmp3 :
    canvasSample State.reset (4 * 812 + 1) (4 * 407 + 2) (fun i j => if j = 407 then (if i = 812 then 40000 else 20200) else if i = 812 then 52000 else 13000) = 38650 := by
  decide +kernel

/-- Table CORR-4: stages 1 to 3 of lamp 164,543 for the composed code 30,000. -/
theorem test_stages_of_table_corr4 :
    stage3 { regs [(Reg.SEG_SEG_CORR 40, 0x20004C)] (up.putBytes (curveBase up 3 + 2 * 468) (leBytes 2 26500 ++ leBytes 2 26580)) with
        live := [(Reg.CORR_TG 2 2, 0x8A0)] } 40 0x088FE74C 30000 = 26050 := by decide +kernel

/-- The example of R196: 3,250 mV against an expected 2,970 mV is DRIFT with a window of 150 mV. -/
theorem test_drift_of_r196 :
    isDrift ((regs [(Reg.HLT_VF_TC, 0xFFEC), (Reg.HLT_VF_WINDOW, 150), (Reg.HLT_VF_REF_BASE, 16)] { State.reset with pwr := { State.reset.pwr with dramReady := true } } |>.putLe (16 * 2 ^ 20 + 2 * 9) 2 3050).putLe
      (16 * 2 ^ 20 + 2 * 2 ^ 20) 2 400) 9 3250 1040 = true := by decide +kernel

/-- Table POL-6: the middle run of row 480 is the word 0xFC32012C, and 2,700 runs find no place in slot 2. -/
theorem test_snowpack_of_table_pol6 :
    placeRuns (((State.reset.putBytes (entryAt snowBase 0) (entryBytes 1 0 0 0 1760 639 359 0)).putBytes (entryAt snowBase 1) (entryBytes 1 0 0 1760 1520 639 359 0)).putBytes
      (entryAt snowBase 3) (entryBytes 1 0 0 5260 1996 639 359 0)) 2 2700 = none ∧
    largestGap (((State.reset.putBytes (entryAt snowBase 0) (entryBytes 1 0 0 0 1760 639 359 0)).putBytes (entryAt snowBase 1) (entryBytes 1 0 0 1760 1520 639 359 0)).putBytes
      (entryAt snowBase 3) (entryBytes 1 0 0 5260 1996 639 359 0)) 2 = 1980 := by decide +kernel

/-- The periods of R21: 2,083,333 to 41,666,667 ns, both inside. -/
theorem test_period_bounds : periodInRange (2083333 * 65536) = true ∧ periodInRange (2083333 * 65536 - 1) = false ∧
    periodInRange (41666667 * 65536) = true ∧ periodInRange (41666667 * 65536 + 1) = false := by decide +kernel

/-! ### One step on a small state -/

/-- What holds after a command that answers a next state. -/
def after (i : Instr) (s : State) (f : State → Bool) : Bool :=
  match exec i s with | .next t => f t | _ => false

/-- Enabling the raster arms its first phase 0 at least one period away (R43). -/
theorem test_raster_enable : after (.rasCtrlEnable true) up (fun t => t.ras.armed && rasOn t && decide (t.now16 + (period16 t : Int) ≤ t.ras.p0Next)) = true := by decide +kernel

/-- A transmit error count above 255 takes the CAN controller off the bus. -/
theorem test_bus_off : after (.canErrorFrame 1 256 0) (regs [(Reg.CAN_CTRL 1, 1)] up) (fun t => t.fd (Reg.CAN_STATUS 1) 0 2 == 2) = true := by decide +kernel

/-- A write by software leaves a read-only register as it was. -/
theorem test_read_only : after (.registerWrite (BitVec.ofNat 22 (Reg.RAS_STATUS / 4)) 0xFFFFFFFF) up (fun t => t.rd Reg.RAS_STATUS == up.rd Reg.RAS_STATUS) = true := by decide +kernel

/-- A host frame posts its words; each is applied by a later command. -/
theorem test_host_write_posts : after (.hostWriteBurst (some 0x50064) [1, 0, 0, 0, 2, 0, 0, 0]) up (fun t => hostPosted t == 2 && t.rd Reg.RAS_SYNC_OFFSET == 0) = true := by
  decide +kernel

/-! ### Premises of the statements about mailboxes, queues, tables and time -/

/-- A row that no address has. -/
def noRow : RegRow := ⟨0, [], .ro, 0, 0, 0, 0, []⟩

/-- A row that no code has. -/
def noSvc : Svc := ⟨0, 0, [], true, false, false, false, false, false⟩

/-- The device with one message at the head of mailbox `n`. -/
def boxed (n code flags alive len crc : Nat) (s : State) : State :=
  regs [(Reg.MBX_MB_IN_SLUICE n, ringSize len)]
    ({ s with mbx := { s.mbx with samples := [(0, n, 0, 0)] } }.putBytes (inRing n)
      (leBytes 2 code ++ leBytes 1 flags ++ leBytes 1 alive ++ leBytes 2 4 ++ leBytes 2 len ++ leBytes 4 0 ++ leBytes 4 crc))

/-- The check of a message without payload. -/
def crcOf (code flags alive : Nat) : Nat :=
  crc32c (leBytes 2 code ++ leBytes 1 flags ++ leBytes 1 alive ++ leBytes 2 4 ++ leBytes 2 0 ++ leBytes 4 0)

theorem wit_StepRunsTheFrontCommand : ∃ (c : Instr) (rest : List Instr) (s : State), s.pending = c :: rest :=
  ⟨.phase0, [.wake true], { State.reset with pending := [.phase0, .wake true] }, rfl⟩

theorem wit_AnEmptyQueueLetsOneMicrosecondPass : ∃ s : State, s.pending = [] := ⟨State.reset, rfl⟩

theorem wit_EveryStepKeepsTheCanonicalForms : ∃ s t : State, s.canonical = true ∧ step s = .next t := ⟨State.reset, _, by decide +kernel, rfl⟩

theorem wit_ReadCommandsLeaveAllElse : ∃ (m : Msg) (z s t : State), s = rasterFirst z ∧ m.fid = 0 ∧ s.canonical = true ∧
    quietBox s m.mb.val = true ∧ exec (.sysInfo m) z = .next t :=
  ⟨msg 0 0, up, up, _, rasterFirst_of_quiet up (by decide +kernel), by decide +kernel, by decide +kernel, by decide +kernel, rfl⟩

theorem wit_ServiceChecksComeBeforeTheBody_target : ∃ (m : Msg) (r : Svc), svcRow 0x0101 = some r ∧ m.fid = 0 ∧ targetOk r m = false :=
  ⟨msg 3 32, (svcRow 0x0101).getD noSvc, by decide +kernel, by decide +kernel, by decide +kernel⟩

theorem wit_ServiceChecksComeBeforeTheBody_timed : ∃ (m : Msg) (r : Svc), svcRow 0x0101 = some r ∧ m.fid = 0 ∧ targetOk r m = true ∧ m.flags.getLsbD 2 = true ∧ r.tim = false :=
  ⟨{ msg 0 0 with flags := 4 }, (svcRow 0x0101).getD noSvc, by decide +kernel, by decide +kernel, by decide +kernel, by decide +kernel, by decide +kernel⟩

theorem wit_ServiceChecksComeBeforeTheBody_state : ∃ (m : Msg) (r : Svc) (s : State), svcRow 0x0401 = some r ∧ m.fid = 0 ∧ targetOk r m = true ∧
    (m.flags.getLsbD 2 = true → r.tim = true) ∧ stateRefuses s r = true :=
  ⟨msg 1 7, (svcRow 0x0401).getD noSvc, State.reset, by decide +kernel, by decide +kernel, by decide +kernel, by decide +kernel, by decide +kernel⟩

theorem wit_ServiceChecksComeBeforeTheBody_busy : ∃ (m : Msg) (r : Svc) (s : State), svcRow 0x0401 = some r ∧ m.fid = 0 ∧ targetOk r m = true ∧
    (m.flags.getLsbD 2 = true → r.tim = true) ∧ stateRefuses s r = false ∧ r.rd = false ∧ isBusy s 0x0401 m = true :=
  ⟨msg 1 7, (svcRow 0x0401).getD noSvc, { up with mbx := { up.mbx with ops := [⟨{ code := 0x0401, m := msg 1 7 }, 1, 7, 7, []⟩] } },
    by decide +kernel, by decide +kernel, by decide +kernel, by decide +kernel, by decide +kernel, by decide +kernel, by decide +kernel⟩

theorem wit_ServiceChecksComeBeforeTheBody_forward : ∃ (m : Msg) (r : Svc) (s : State), svcRow 0x0401 = some r ∧ m.fid ≠ 0 ∧ m.fid ≠ 0xFFF ∧
    m.fid.toNat ≠ s.ownFid ∧ targetOk r m = true ∧ (m.flags.getLsbD 2 = true → r.tim = true) :=
  ⟨{ msg 1 7 with fid := 5 }, (svcRow 0x0401).getD noSvc, up, by decide +kernel, by decide +kernel, by decide +kernel, by decide +kernel, by decide +kernel, by decide +kernel⟩

theorem wit_ServiceChecksComeBeforeTheBody_unknown : svcRow 0x0FFF = none := by decide +kernel

/-- The common premises of the checks of a dequeued message, for a message at the head of mailbox `n`; no raster boundary is due, so that
the state is its own state after them (rasterFirst_of_quiet). -/
def heads (s : State) (n : Nat) : Bool :=
  quietRaster s && s.bit Reg.MBX_STATUS 0 == false && decide (3 ≤ stage s) && s.pwr.quiesced == false && nextSample s == some (0, n, 0, 0)

theorem wit_DequeueRefusesAtTheFirstFailingCheck_incomplete :
    ∃ s : State, heads s 4 = true ∧ inComplete s 4 = false :=
  ⟨{ up with mbx := { up.mbx with samples := [(0, 4, 0, 0)] } }, by decide +kernel⟩

theorem wit_DequeueRefusesAtTheFirstFailingCheck_length :
    ∃ s : State, heads s 4 = true ∧ inComplete s 4 = true ∧ mbLimit 4 < (msgAtHead s 4 0).payload.length :=
  ⟨boxed 4 1 0 1 1457 0 up, by decide +kernel⟩

theorem wit_DequeueRefusesAtTheFirstFailingCheck_crc :
    ∃ s : State, heads s 1 = true ∧ inComplete s 1 = true ∧ (msgAtHead s 1 0).payload.length ≤ mbLimit 1 ∧ headCrcOk s 1 (msgAtHead s 1 0) = false :=
  ⟨boxed 1 0x0102 0 1 0 0 up, by decide +kernel⟩

/-- The state and the state with the alive counter seen, as the checks of a dequeued message name them. -/
def afterHead (s : State) (n : Nat) : State := (consume n (ringSize (msgAtHead s n 0).payload.length) s).count (Reg.MBX_MB_CNT_RX n)

theorem wit_DequeueRefusesAtTheFirstFailingCheck_alive :
    ∃ s : State, heads s 1 = true ∧ inComplete s 1 = true ∧ headCrcOk s 1 (msgAtHead s 1 0) = true ∧
      lastAlive (afterHead s 1) 1 0 = some (msgAtHead s 1 0).alive :=
  ⟨boxed 1 0x0102 0 1 0 (crcOf 0x0102 0 1) { up with mbx := { up.mbx with alive := [(1, some 1)] } }, by decide +kernel⟩

theorem wit_DequeueRefusesAtTheFirstFailingCheck_flags :
    ∃ s : State, heads s 1 = true ∧ inComplete s 1 = true ∧ headCrcOk s 1 (msgAtHead s 1 0) = true ∧
      lastAlive (afterHead s 1) 1 0 ≠ some (msgAtHead s 1 0).alive ∧ chanAt (aliveSeen 1 0 1 (afterHead s 1)) 2 5 1 = none ∧
      ((msgAtHead s 1 0).flags.toNat / 16 != 0 || (msgAtHead s 1 0).flags.getLsbD 0 || (msgAtHead s 1 0).flags.getLsbD 1) = true :=
  ⟨boxed 1 0x0102 1 1 0 (crcOf 0x0102 1 1) up, by decide +kernel⟩

theorem wit_ACommandBelowItsLevelIsDenied :
    ∃ (s : State) (r : Svc), heads s 1 = true ∧ inComplete s 1 = true ∧ (msgAtHead s 1 0).payload.length ≤ mbLimit 1 ∧ headCrcOk s 1 (msgAtHead s 1 0) = true ∧
      lastAlive (afterHead s 1) 1 0 ≠ some (msgAtHead s 1 0).alive ∧ chanAt (aliveSeen 1 0 1 (afterHead s 1)) 2 5 1 = none ∧
      ((msgAtHead s 1 0).flags.toNat / 16 != 0 || (msgAtHead s 1 0).flags.getLsbD 0 || (msgAtHead s 1 0).flags.getLsbD 1) = false ∧
      svcRow (hdr s 1 0 2) = some r ∧ r.pl < mbLevel (aliveSeen 1 0 1 (afterHead s 1)) 1 ∧ denied (aliveSeen 1 0 1 (afterHead s 1)) 0x0102 (msgAtHead s 1 0) = true :=
  ⟨boxed 1 0x0102 0 1 0 (crcOf 0x0102 0 1) up, (svcRow 0x0102).getD noSvc, by decide +kernel⟩

/-- A timed request of the reset command. -/
def timedMsg (t tol : Nat) : Msg := { msg 0 0 (leBytes 8 t ++ leBytes 8 tol ++ leBytes 1 1) with flags := 4 }

/-- The premises of a timed request that reaches its queue. -/
def timedOk (m : Msg) (s : State) (r : Svc) : Bool :=
  svcRow 0x0102 == some r && r.tim && m.fid == 0 && targetOk r m && m.flags.getLsbD 2 && !(stateRefuses s r) && (r.rd || !(isBusy s 0x0102 m))

theorem wit_TimedRequestsAreQueuedRunOrRefused_short : ∃ (m : Msg) (r : Svc), timedOk m up r = true ∧ m.payload.length < 16 :=
  ⟨{ msg 0 0 with flags := 4 }, (svcRow 0x0102).getD noSvc, by decide +kernel⟩

theorem wit_TimedRequestsAreQueuedRunOrRefused_full : ∃ (m : Msg) (s : State) (r : Svc), timedOk m s r = true ∧ 16 ≤ m.payload.length ∧
    16 ≤ s.mbx.timed.length + s.mbx.compl.length :=
  ⟨timedMsg 900000 0, { up with mbx := { up.mbx with timed := List.replicate 16 ⟨1, 1, { code := 0x0401, m := msg 1 7 }⟩ } }, (svcRow 0x0102).getD noSvc, by decide +kernel⟩

theorem wit_TimedRequestsAreQueuedRunOrRefused_late : ∃ (m : Msg) (s t : State) (r : Svc) (c : Ctx),
    c = { code := 0x0102, m := { m with payload := m.payload.drop 16 }, light := r.light, timed := true } ∧ t = respondTo { code := 0x0102, m := m } St.accepted [] s ∧
    timedOk m s r = true ∧ 16 ≤ m.payload.length ∧ s.mbx.timed.length + s.mbx.compl.length < 16 ∧
    tolerance16 t c (leAt m.payload 8 4) < lateness t c (leAt m.payload 0 8) :=
  ⟨timedMsg 5 1, { up with now := 2000000 * 2 ^ 32 }, _, (svcRow 0x0102).getD noSvc, _, rfl, rfl, by decide +kernel⟩

theorem wit_TimedRequestsAreQueuedRunOrRefused_queued : ∃ (m : Msg) (s t : State) (r : Svc) (c : Ctx),
    c = { code := 0x0102, m := { m with payload := m.payload.drop 16 }, light := r.light, timed := true } ∧ t = respondTo { code := 0x0102, m := m } St.accepted [] s ∧
    timedOk m s r = true ∧ 16 ≤ m.payload.length ∧ s.mbx.timed.length + s.mbx.compl.length < 16 ∧
    lateness t c (leAt m.payload 0 8) ≤ tolerance16 t c (leAt m.payload 8 4) ∧ timedReady t c (leAt m.payload 0 8) = false :=
  ⟨timedMsg 900000 1, up, _, (svcRow 0x0102).getD noSvc, _, rfl, rfl, by decide +kernel⟩

theorem wit_NospaceAnswersCarryTheirLayout : ∃ missing largest unit : Nat, missing < 2 ^ 32 ∧ largest < 2 ^ 32 ∧ unit ≤ 4 := ⟨1, 2 ^ 32 - 1, 4, by decide⟩

/-- The device with `n` posted words waiting for their write. -/
def posted (n : Nat) : State := { up with host := { up.host with frames := [{ opcode := 0x21, addr := 0x50060, words := List.replicate n 0 }] } }

theorem wit_TheWriteBufferHoldsAtMost256Words_burst : ∃ (d : List Byte) (s : State), hostAnswers s = true ∧ d.length % 4 = 0 ∧ d ≠ [] ∧
    (hostData d).length ≤ 256 ∧ 256 < hostPosted s + (hostData d).length := ⟨List.replicate 8 0, posted 255, by decide +kernel⟩

theorem wit_TheWriteBufferHoldsAtMost256Words_word : ∃ (d : List Byte) (s : State), hostAnswers s = true ∧ d.length % 4 = 0 ∧
    (hostData d).length = 1 ∧ 256 < hostPosted s + 1 := ⟨List.replicate 4 0, posted 256, by decide +kernel⟩

theorem wit_TheWriteBufferHoldsAtMost256Words_long : ∃ (d : List Byte) (s : State), hostAnswers s = true ∧ 256 < (hostData d).length :=
  ⟨List.replicate 1028 0, up, by decide +kernel⟩

theorem wit_TheWriteBufferHoldsAtMost256Words_bound : ∃ s : State, hostPosted s ≤ 256 ∧ hostAnswers s = true := ⟨posted 256, by decide +kernel⟩

theorem wit_QuadSettingsChangeOnlyWithTheQuadOff_off : ∃ (q : Fin 6) (s : State), ∀ l : Fin 24, l.val / 4 = q.val → laneStage s l.val = 0 :=
  ⟨5, up, by decide +kernel⟩

theorem wit_QuadSettingsChangeOnlyWithTheQuadOff_used : ∃ (q : Fin 6) (s : State), ∃ l : Fin 24, l.val / 4 = q.val ∧ laneStage s l.val ≠ 0 :=
  ⟨5, regs [(Reg.SDS_LANE_STATE 23, 7)] up, 23, by decide +kernel⟩

theorem wit_QuadSettingsChangeOnlyWithTheQuadOff_command : ∃ (m : Msg) (s : State), served 0x0B04 m s = true ∧ 3 ≤ m.payload.length ∧
    leAt m.payload 0 1 ≤ 3 ∧ leAt m.payload 1 1 ≤ 1 ∧ leAt m.payload 2 1 ≤ 6 ∧ ∃ l : Fin 24, l.val / 4 = m.index.toNat / 4 ∧ laneStage s l.val ≠ 0 :=
  ⟨msg 4 20 [3, 1, 6], regs [(Reg.SDS_LANE_STATE 23, 7)] up, by decide +kernel, by decide +kernel, by decide +kernel, by decide +kernel, by decide +kernel, 23, by decide +kernel⟩

theorem wit_ArmingAPastPeriodicOutputSkipsPeriods : ∃ (n : Fin 4) (s : State) (p w start : Nat), s.canonical = true ∧ s.bit (Reg.PTP_TT_CFG n.val) 0 = true ∧
    p = (s.rd (Reg.PTP_TT_PERIOD n.val)).toNat * 65536 + s.fd (Reg.PTP_TT_PERIOD_FRAC n.val) 0 16 ∧ w = (s.rd (Reg.PTP_TT_WIDTH n.val)).toNat ∧
    start = ((s.rd (Reg.PTP_TT_START_HI n.val)).toNat * 2 ^ 32 + (s.rd (Reg.PTP_TT_START_LO n.val)).toNat) * 65536 ∧
    20 ≤ w ∧ 40 * 65536 ≤ p ∧ (w + 20) * 65536 ≤ p ∧ start ≤ s.nowNs * 65536 :=
  ⟨2, { regs [(Reg.PTP_TT_CFG 2, 1), (Reg.PTP_TT_PERIOD 2, 40), (Reg.PTP_TT_WIDTH 2, 20)] up with now := 5000 * 2 ^ 32 }, 40 * 65536, 20, 0, by decide +kernel⟩

theorem wit_TheFirstPhase0LiesOnTheGrid : ∃ s : State, 0 < period16 s := ⟨State.reset, by decide +kernel⟩

theorem wit_SlewingStaysWithinItsBounds : ∃ s : State, s.canonical = true := ⟨State.reset, by decide +kernel⟩

theorem wit_BlankingStartIsTheLatestAllowed : ∃ p blank x : Nat, 250000 * 65536 ≤ p ∧ blank < 2 ^ 24 ∧ x ≤ blank ∧ 250000 * 65536 * 2 ^ 24 ≤ (2 ^ 24 - x) * p :=
  ⟨16666666 * 65536, 2 ^ 24 - 1, 0, by decide⟩

theorem wit_BlendingRoundsAndStaysInRange : ∃ d x ga sa cov : Nat, d ≤ 65535 ∧ x ≤ 65535 ∧ ga ≤ 255 ∧ sa ≤ 255 ∧ cov ≤ 1 := ⟨65535, 65535, 255, 255, 1, by decide⟩

theorem wit_TablesInterpolateBetweenNeighbours : ∃ k e : Nat, e % 2 ^ k = 0 := ⟨4, 48, by decide⟩

theorem wit_ARingGivesBackWhatWasPut : ∃ (s : State) (base a : Nat) (l : List Byte), s.canonical = true ∧ l.length ≤ 4096 ∧ (a < base ∨ base + 4096 ≤ a) :=
  ⟨up, inRing 2, inRing 3, List.replicate 4096 1, by decide +kernel⟩

theorem wit_CountersHoldAtTheirLargestValue : ∃ (s : State) (a b : Nat), s.canonical = true ∧ b ≠ a := ⟨up, 4, 8, by decide +kernel⟩

theorem wit_ASoftwareWriteRespectsTheAccessCode : ∃ s : State, s.canonical = true ∧ regRow 1 = none ∧
    (∃ (a : Nat) (r : RegRow), regRow a = some r ∧ (r.access = .ro ∨ r.access = .rol ∨ r.access = .wo)) ∧
    (∃ (a : Nat) (r : RegRow), regRow a = some r ∧ r.access = .cnt) ∧
    ∃ (a i : Nat) (r : RegRow), regRow a = some r ∧ (r.access = .rw ∨ r.access = .rws) ∧ r.rules = [] ∧ i < 32 :=
  ⟨up, by decide +kernel, by decide +kernel, ⟨Reg.RAS_STATUS, (regRow Reg.RAS_STATUS).getD noRow, by decide +kernel⟩,
    ⟨Reg.SLK_CNT_TE_MISS, (regRow Reg.SLK_CNT_TE_MISS).getD noRow, by decide +kernel⟩,
    ⟨Reg.RAS_SYNC_OFFSET, 31, (regRow Reg.RAS_SYNC_OFFSET).getD noRow, by decide +kernel⟩⟩

theorem wit_HostReadsThatFailEndWithTheirCode : (quietRaster up = true ∧ hostAnswers up = true ∧ up.host.frames = []) ∧ (∃ a : BitVec 24, a.toNat % 4 ≠ 0) ∧
    (∃ a : BitVec 24, a.toNat % 4 = 0 ∧ mapped a.toNat = false) ∧
    (∃ (a : BitVec 24) (s : State), quietRaster s = true ∧ hostAnswers s = true ∧ s.host.frames = [] ∧ a.toNat % 4 = 0 ∧ mapped a.toNat = true ∧ inSnowWindow a.toNat = true ∧ s.fd (Reg.MBX_MB_CFG 0) 0 2 ≠ 0) ∧
    (∃ (a : BitVec 24) (s : State), quietRaster s = true ∧ hostAnswers s = true ∧ s.host.frames = [] ∧ a.toNat % 4 = 0 ∧ mapped a.toNat = true ∧ inSnowWindow a.toNat = false ∧ areaOff s a.toNat = true) ∧
    ∃ a : BitVec 24, a.toNat % 4 = 0 ∧ mapped a.toNat = true ∧ inSnowWindow a.toNat = false ∧ areaOff up a.toNat = false :=
  ⟨by decide +kernel, ⟨3, by decide +kernel⟩, ⟨0xFFFFFC, by decide +kernel⟩,
    ⟨0x487FFC, regs [(Reg.MBX_MB_CFG 0, 5)] up, by decide +kernel⟩,
    ⟨0x480000 - 0x430000, { up with pwr := { up.pwr with state := 2 } }, by decide +kernel⟩, ⟨0x50060, by decide +kernel⟩⟩

theorem wit_HintFollowsItsCauses : up.pins.held = none ∧ ∃ (s : State) (l : Levels), s.pins.held = some l :=
  ⟨by decide +kernel, { up with pins := { up.pins with held := some (ballLevels up) } }, _, rfl⟩

theorem wit_AcceptedCommandsKeepTheirObjectBusy : ∃ (m : Msg) (cls lo hi code : Nat), m.cls.toNat = cls ∧ msgLo m ≤ msgHi m ∧ msgLo m ≤ hi ∧ lo ≤ msgHi m ∧ code ≠ 0x0A04 :=
  ⟨msg 2 255, 2, 250, 255, 0x0606, by decide +kernel⟩

theorem wit_AfterAnOrderlyStopOnlyReadsAndResetAreServed : ∃ s t : State, s.pwr.stopped = true ∧ t.pwr.stopped = false :=
  ⟨{ up with pwr := { up.pwr with stopped := true } }, up, by decide +kernel⟩

theorem wit_NoPhaseWithoutTheRaster : State.reset.bit Reg.RAS_CTRL 0 = false ∧ State.reset.ras.ahead ≠ some State.reset.tickNs ∧
    State.reset.ras.ran = false ∧ quietRaster State.reset = true ∧ stage State.reset < 3 ∧
    ∃ s : State, s.ras.ahead = some s.tickNs :=
  ⟨by decide +kernel, by decide +kernel, by decide +kernel, by decide +kernel, by decide +kernel, { up with ras := { up.ras with ahead := some up.tickNs } }, by decide +kernel⟩

theorem wit_TotalIsSecondsAndNanoseconds : ∃ s : State, s.now < timeWrap := ⟨{ up with now := timeWrap - 1 }, by decide +kernel⟩

theorem wit_RawWritesNeverReachTheSnowpack : (∃ first a : Nat, a % 4 = 0 ∧ mapped a = true ∧ sameArea first a = true ∧ inSnowWindow a = true) ∧
    ∃ (s : State) (f : HFrame) (rest : List HFrame), quietRaster s = true ∧ s.canonical = true ∧ s.host.frames = f :: rest ∧
      hostWordCode s f (f.addr + 4 * f.applied) (f.words.getD f.applied 0) ≠ 0 :=
  ⟨⟨0x480000, 0x487FFC, by decide +kernel⟩,
    ⟨{ up with host := { up.host with frames := [{ opcode := 0x20, addr := 0x480000, words := [1] }] } }, { opcode := 0x20, addr := 0x480000, words := [1] }, [], by decide +kernel⟩⟩

theorem wit_APolderIsComparedOrSkippedOnce : ∃ (n : Nat) (s : State), polEn s n = true ∧ (s.polder n).checked = false ∧ s.bit Reg.POL_FB_STATUS 0 = false ∧
    s.ras.ran = true ∧ s.ras.inBlank = false :=
  ⟨3, { up with live := [(Reg.POL_P_CFG 3, 1)], ras := { up.ras with ran := true } }, by decide +kernel⟩

theorem wit_FaultsOfAnUpstreamPacket : slkGood [] = false ∧ (slkGood (slkFrame 5 0 0 []) = true ∧ upLength (leAt (slkFrame 5 0 0 []) 0 1 % 16) = none) ∧
    slkGood (slkFrame 12 0 0 [1, 2]) = true ∧ upLength (leAt (slkFrame 12 0 0 [1, 2]) 0 1 % 16) = some 2 ∧ (slkFrame 12 0 0 [1, 2]).length = 8 ∧
    upFault (slkFrame 12 0 0 [1]) true = 1 := by decide +kernel

/-- A fabric packet with flags and hops. -/
def pkt (dest hops flags : Nat) : FabPkt :=
  { ty := 1, vc := 3, dest := dest, src := 7, hops := hops, flags := flags, seq := 1, frame := 2, xinfo := 3, payload := [] }

theorem wit_APacketGoesWhereItsHeaderSays : ((pkt 5 1 4).flags.testBit 2 = true ∧ (pkt 5 1 4).hops = (DiscPath.mk 1 2).depth.toNat) ∧
    ((pkt 5 1 4).flags.testBit 2 = true ∧ (pkt 5 1 4).hops ≠ (DiscPath.mk 2 2).depth.toNat) ∧
    ((pkt 5 1 0).flags.testBit 2 = false ∧ (pkt 5 1 1).flags.testBit 0 = true) ∧
    ((pkt 0xFFF 1 0).flags.testBit 0 = false ∧ (pkt 0xFFF 1 0).dest = 0xFFF) ∧ (pkt 5 1 0).dest ≠ 0xFFF := by decide +kernel

theorem wit_PacketsSentAreGoodAtTheirReceiver :
    (List.replicate 8192 (0 : Byte)).length ≤ 8192 ∧ (List.replicate 16 (0 : Byte)).length = 16 ∧
    ([0, 0, 4, 0, 2, 0, 0, 0] ++ List.replicate (2 * fmtBytes 4) (1 : Byte)).length =
      8 + leAt ([0, 0, 4, 0, 2, 0, 0, 0] ++ List.replicate (2 * fmtBytes 4) (1 : Byte)) 4 2 *
        fmtBytes (leAt ([0, 0, 4, 0, 2, 0, 0, 0] ++ List.replicate (2 * fmtBytes 4) (1 : Byte)) 2 1) ∧
    ((pkt 5 15 0).ty < 16 ∧ (pkt 5 15 0).vc < 4 ∧ (fabVcs (pkt 5 15 0).ty).contains (pkt 5 15 0).vc = true ∧ (pkt 5 15 0).payload.length ≤ 4096) ∧
    ∃ s : State, fabActive s 1 = true ∧ fabBad badFab true = true ∧ leAt badFab 3 1 % 16 ≠ 5 :=
  ⟨by decide +kernel, by decide +kernel, by decide +kernel, by decide +kernel, regs [(Reg.FAB_P_STATUS 1, 1)] up, by decide +kernel⟩

theorem wit_VoutStaysOnThroughResetsAndGoesWithVin : up.pwr.state ≠ 4 ∧ up.pwr.shut = false ∧ vout3v3 up = true := by decide +kernel

theorem wit_TheAppendedFormFollowsTheExampleOfR360 : ∃ (s : State) (c : Nat), checkBytes s c = 2 ∧ (List.replicate 61 (0 : Byte)).length + 1 + checkBytes s c ≤ 64 :=
  ⟨regs [(Reg.CRC_CH_PARAM 3, 16), (Reg.CRC_CH_CTRL 3, 24)] up, 3, by decide +kernel⟩

/-- The raster with its next phase 0 at the current tick. -/
def atPhase0 : State :=
  { regs [(Reg.RAS_CTRL, 1)] up with
      ras := { up.ras with ran := true, inBlank := true, p0Next := up.tick16 }, beam := { up.beam with cutDone := true } }

theorem wit_RasterBoundariesOfATickGoFirst : quietRaster up = true ∧ atPhase0.bit Reg.RAS_CTRL 0 = true ∧ atPhase0.ras.ran = true ∧ blankDue atPhase0 = false ∧
    cutDue atPhase0 = false ∧ p0Due atPhase0 = true ∧ State.reset.bit Reg.RAS_CTRL 0 = false ∧
    ∃ s t u : State, t = (if blankDue s = true then blankingStart s else s) ∧ u = (if cutDue s = true then renderCutoff t else t) ∧ p0Due u = false :=
  ⟨by decide +kernel, by decide +kernel, by decide +kernel, by decide +kernel, by decide +kernel, by decide +kernel, by decide +kernel,
    { regs [(Reg.RAS_CTRL, 1)] up with now := 9000000 * 2 ^ 32, ras := { up.ras with ran := true, p0Next := 16666667 * 65536 } }, _, _, rfl, rfl, by decide +kernel⟩

/-! ### Premises of the statements that say where a command completes -/

/-- Premises of ReadCommandsAnswerAndChangeNothingElse, clause by clause. -/
theorem wit_ReadCommandsAnswerAndChangeNothingElse :
    (∃ (m : Msg) (z : State) (s : State) (c : Ctx), (s = rasterFirst z) ∧ (c = ctxOf 0x0100 m) ∧ (served 0x0100 m s = true)) ∧
    (∃ (m : Msg) (z : State) (s : State) (c : Ctx), (s = rasterFirst z) ∧ (c = ctxOf 0x0101 m) ∧ (served 0x0101 m s = true)) ∧
    (∃ (m : Msg) (z : State) (s : State) (c : Ctx), (s = rasterFirst z) ∧ (c = ctxOf 0x0200 m) ∧ (served 0x0200 m s = true)) ∧
    (∃ (m : Msg) (z : State) (s : State) (c : Ctx), (s = rasterFirst z) ∧ (c = ctxOf 0x0300 m) ∧ (served 0x0300 m s = true)) ∧
    (∃ (m : Msg) (z : State) (s : State) (c : Ctx), (s = rasterFirst z) ∧ (c = ctxOf 0x0400 m) ∧ (served 0x0400 m s = true)) ∧
    (∃ (m : Msg) (z : State) (s : State) (c : Ctx), (s = rasterFirst z) ∧ (c = ctxOf 0x0500 m) ∧ (served 0x0500 m s = true)) ∧
    (∃ (m : Msg) (z : State) (s : State) (c : Ctx), (s = rasterFirst z) ∧ (c = ctxOf 0x0543 m) ∧ (served 0x0543 m s = true)) ∧
    (∃ (m : Msg) (z : State) (s : State) (c : Ctx), (s = rasterFirst z) ∧ (c = ctxOf 0x0600 m) ∧ (served 0x0600 m s = true) ∧ (8 ≤ m.payload.length) ∧ (arg c 0 1 ≤ 1) ∧ (arg c 1 1 ≤ 2) ∧ (1 ≤ arg c 6 2) ∧ (arg c 6 2 ≤ 1016) ∧ (arg c 4 2 + arg c 6 2 ≤ 4096)) ∧
    (∃ (m : Msg) (z : State) (s : State) (c : Ctx), (s = rasterFirst z) ∧ (c = ctxOf 0x0700 m) ∧ (served 0x0700 m s = true) ∧ (m.index ≠ 0xFFFF)) ∧
    (∃ (m : Msg) (z : State) (s : State) (c : Ctx), (s = rasterFirst z) ∧ (c = ctxOf 0x0700 m) ∧ (served 0x0700 m s = true) ∧ (m.index = 0xFFFF)) ∧
    (∃ (m : Msg) (z : State) (s : State) (c : Ctx), (s = rasterFirst z) ∧ (c = ctxOf 0x0701 m) ∧ (served 0x0701 m s = true) ∧ (6 ≤ m.payload.length) ∧ (1 ≤ arg c 4 2) ∧ (arg c 4 2 ≤ 4064) ∧ (arg c 0 4 + arg c 4 2 ≤ mapBytes)) ∧
    (∃ (m : Msg) (z : State) (s : State) (c : Ctx), (s = rasterFirst z) ∧ (c = ctxOf 0x0800 m) ∧ (served 0x0800 m s = true)) ∧
    (∃ (m : Msg) (z : State) (s : State) (c : Ctx), (s = rasterFirst z) ∧ (c = ctxOf 0x0900 m) ∧ (served 0x0900 m s = true)) ∧
    (∃ (m : Msg) (z : State) (s : State) (c : Ctx), (s = rasterFirst z) ∧ (c = ctxOf 0x0A00 m) ∧ (served 0x0A00 m s = true)) ∧
    (∃ (m : Msg) (z : State) (s : State) (c : Ctx), (s = rasterFirst z) ∧ (c = ctxOf 0x0B00 m) ∧ (served 0x0B00 m s = true)) ∧
    (∃ (m : Msg) (z : State) (s : State) (c : Ctx), (s = rasterFirst z) ∧ (c = ctxOf 0x0C00 m) ∧ (served 0x0C00 m s = true) ∧ (m.cls = 0)) ∧
    (∃ (m : Msg) (z : State) (s : State) (c : Ctx), (s = rasterFirst z) ∧ (c = ctxOf 0x0C00 m) ∧ (served 0x0C00 m s = true) ∧ (m.cls ≠ 0)) ∧
    (∃ (m : Msg) (z : State) (s : State) (c : Ctx), (s = rasterFirst z) ∧ (c = ctxOf 0x0C07 m) ∧ (served 0x0C07 m s = true) ∧ (4 ≤ m.payload.length) ∧ (1 ≤ arg c 2 2) ∧ (arg c 2 2 ≤ 100) ∧ (isRoot s = true)) ∧
    (∃ (m : Msg) (z : State) (s : State) (c : Ctx), (s = rasterFirst z) ∧ (c = ctxOf 0x0D00 m) ∧ (served 0x0D00 m s = true)) ∧
    (∃ (m : Msg) (z : State) (s : State) (c : Ctx), (s = rasterFirst z) ∧ (c = ctxOf 0x0E00 m) ∧ (served 0x0E00 m s = true)) ∧
    (∃ (m : Msg) (z : State) (s : State) (c : Ctx), (s = rasterFirst z) ∧ (c = ctxOf 0x0F00 m) ∧ (served 0x0F00 m s = true)) ∧
    (∃ (m : Msg) (z : State) (s : State) (c : Ctx), (s = rasterFirst z) ∧ (c = ctxOf 0x1000 m) ∧ (served 0x1000 m s = true) ∧ (5 ≤ m.payload.length) ∧ (1 ≤ arg c 4 1) ∧ (arg c 4 1 ≤ 126)) ∧
    (∃ (m : Msg) (z : State) (s : State) (c : Ctx), (s = rasterFirst z) ∧ (c = ctxOf 0x1100 m) ∧ (served 0x1100 m s = true)) ∧
    (∃ (m : Msg) (z : State) (s : State) (c : Ctx), (s = rasterFirst z) ∧ (c = ctxOf 0x1200 m) ∧ (served 0x1200 m s = true) ∧ (6 ≤ m.payload.length) ∧ (1 ≤ arg c 4 2) ∧ (arg c 4 2 ≤ 1018) ∧ (regDenied c s (arg c 0 4) (arg c 4 2) false = (0, []))) :=
  ⟨⟨msg 0 0, up, _, _, rfl, rfl, by decide +kernel⟩,
    ⟨msg 0 0, up, _, _, rfl, rfl, by decide +kernel⟩,
    ⟨msg 0 0, up, _, _, rfl, rfl, by decide +kernel⟩,
    ⟨msg 0 0, up, _, _, rfl, rfl, by decide +kernel⟩,
    ⟨msg 1 0, up, _, _, rfl, rfl, by decide +kernel⟩,
    ⟨msg 0 0, up, _, _, rfl, rfl, by decide +kernel⟩,
    ⟨msg 0 0, up, _, _, rfl, rfl, by decide +kernel⟩,
    ⟨msg 2 0 (leBytes 1 1 ++ leBytes 1 0 ++ leBytes 2 0 ++ leBytes 2 16 ++ leBytes 2 8 ++ leBytes 1 0), up, _, _, rfl, rfl, by decide +kernel⟩,
    ⟨msg 2 3, up, _, _, rfl, rfl, by decide +kernel⟩,
    ⟨msg 2 65535, up, _, _, rfl, rfl, by decide +kernel⟩,
    ⟨msg 0 0 (leBytes 4 16 ++ leBytes 2 64), up, _, _, rfl, rfl, by decide +kernel⟩,
    ⟨msg 9 0, up, _, _, rfl, rfl, by decide +kernel⟩,
    ⟨msg 6 0, up, _, _, rfl, rfl, by decide +kernel⟩,
    ⟨msg 10 0, up, _, _, rfl, rfl, by decide +kernel⟩,
    ⟨msg 3 0, up, _, _, rfl, rfl, by decide +kernel⟩,
    ⟨msg 0 0, up, _, _, rfl, rfl, by decide +kernel⟩,
    ⟨msg 5 2, up, _, _, rfl, rfl, by decide +kernel⟩,
    ⟨msg 0 0 (leBytes 2 0 ++ leBytes 2 100), (regs [(Reg.FAB_STATUS, 0x1C)] up), _, _, rfl, rfl, by decide +kernel⟩,
    ⟨msg 0 0, up, _, _, rfl, rfl, by decide +kernel⟩,
    ⟨msg 13 0, up, _, _, rfl, rfl, by decide +kernel⟩,
    ⟨msg 11 0, up, _, _, rfl, rfl, by decide +kernel⟩,
    ⟨msg 0 0 (leBytes 4 0 ++ leBytes 1 8), up, _, _, rfl, rfl, by decide +kernel⟩,
    ⟨msg 0 0, up, _, _, rfl, rfl, by decide +kernel⟩,
    ⟨msg 0 0 (leBytes 4 327680 ++ leBytes 2 1), up, _, _, rfl, rfl, by decide +kernel⟩⟩

/-- Premises of SystemPowerAndRasterCommandsTakeEffect, clause by clause. -/
theorem wit_SystemPowerAndRasterCommandsTakeEffect :
    (∃ (m : Msg) (z : State) (s : State) (c : Ctx), (s = rasterFirst z) ∧ (c = ctxOf 0x0102 m) ∧ (served 0x0102 m s = true) ∧ (1 ≤ m.payload.length) ∧ (arg c 0 1 ≤ 1)) ∧
    (∃ (m : Msg) (z : State) (s : State) (c : Ctx), (s = rasterFirst z) ∧ (c = ctxOf 0x0103 m) ∧ (served 0x0103 m s = true) ∧ (8 + 8 * (protectRules c).length ≤ m.payload.length) ∧ (¬((arg c 2 1).testBit 7 = true ∧ arg c 4 2 / 4 ^ 7 % 4 ≠ 0))) ∧
    (∃ (m : Msg) (z : State) (s : State) (c : Ctx), (s = rasterFirst z) ∧ (c = ctxOf 0x0104 m) ∧ (served 0x0104 m s = true) ∧ (8 ≤ m.payload.length) ∧ (arg c 0 1 % 2 = 1 ∨ 7 ∉ objects c)) ∧
    (∃ (m : Msg) (z : State) (s : State) (c : Ctx), (s = rasterFirst z) ∧ (c = ctxOf 0x0105 m) ∧ (served 0x0105 m s = true)) ∧
    (∃ (m : Msg) (z : State) (s : State) (c : Ctx), (s = rasterFirst z) ∧ (c = ctxOf 0x0201 m) ∧ (served 0x0201 m s = true) ∧ (8 ≤ m.payload.length) ∧ (arg c 0 1 = 0) ∧ (s.pwr.state ≠ 0) ∧ (s.pwr.target = 0) ∧ ((arg c 1 1).testBit 1 = false)) ∧
    (∃ (m : Msg) (z : State) (s : State) (c : Ctx), (s = rasterFirst z) ∧ (c = ctxOf 0x0201 m) ∧ (served 0x0201 m s = true) ∧ (8 ≤ m.payload.length) ∧ (1 ≤ arg c 0 1) ∧ (arg c 0 1 ≤ 3) ∧ (s.pwr.state = 0) ∧ (s.pwr.target = 0) ∧ ((arg c 1 1).testBit 1 = false) ∧ (2 ≤ arg c 0 1 → arg c 1 1 % 16 ≠ 0) ∧ (arg c 0 1 = 3 → (arg c 1 1 % 16).testBit 3 = false)) ∧
    (∃ (m : Msg) (z : State) (s : State) (c : Ctx), (s = rasterFirst z) ∧ (c = ctxOf 0x0202 m) ∧ (served 0x0202 m s = true)) ∧
    (∃ (m : Msg) (z : State) (s : State) (c : Ctx), (s = rasterFirst z) ∧ (c = ctxOf 0x0203 m) ∧ (served 0x0203 m s = true) ∧ (s.pins.held.isSome = true)) ∧
    (∃ (m : Msg) (z : State) (s : State) (c : Ctx), (s = rasterFirst z) ∧ (c = ctxOf 0x0301 m) ∧ (served 0x0301 m s = true) ∧ (12 ≤ m.payload.length) ∧ (arg c 6 1 ≤ 1 ∨ arg c 6 1 = 0xFF) ∧ (arg c 7 1 ≤ 1) ∧ (arg c 8 4 < 2 ^ 24) ∧ (periodInRange (arg c 0 4 * 65536 + arg c 4 2) = true) ∧ (layerFit (arg c 0 4 * 65536 + arg c 4 2) ((List.range 8).filter (layerWillBe s)).length = true)) ∧
    (∃ (m : Msg) (z : State) (s : State) (c : Ctx), (s = rasterFirst z) ∧ (c = ctxOf 0x0302 m) ∧ (served 0x0302 m s = true) ∧ (8 ≤ m.payload.length)) ∧
    (∃ (m : Msg) (z : State) (s : State) (c : Ctx), (s = rasterFirst z) ∧ (c = ctxOf 0x0303 m) ∧ (served 0x0303 m s = true) ∧ (1 ≤ m.payload.length) ∧ (arg c 0 1 ≤ 1)) :=
  ⟨⟨msg 0 0 (leBytes 1 1), up, _, _, rfl, rfl, by decide +kernel⟩,
    ⟨msg 0 0 (leBytes 2 1 ++ leBytes 1 127 ++ leBytes 1 0 ++ leBytes 2 6144 ++ leBytes 2 0 ++ leBytes 4 3222274047 ++ leBytes 4 0), up, _, _, rfl, rfl, by decide +kernel⟩,
    ⟨msg 14 2 (leBytes 1 4 ++ leBytes 3 0 ++ leBytes 4 524286), up, _, _, rfl, rfl, by decide +kernel⟩,
    ⟨msg 14 4, up, _, _, rfl, rfl, by decide +kernel⟩,
    ⟨msg 0 0 (leBytes 1 0 ++ leBytes 3 0 ++ leBytes 4 0), { up with pwr := { up.pwr with state := 1 } }, _, _, rfl, rfl, by decide +kernel⟩,
    ⟨msg 0 0 (leBytes 1 3 ++ leBytes 1 1 ++ leBytes 2 0 ++ leBytes 4 100), up, _, _, rfl, rfl, by decide +kernel⟩,
    ⟨msg 0 0, up, _, _, rfl, rfl, by decide +kernel⟩,
    ⟨msg 0 0, { up with pins := { up.pins with held := some (levels up) } }, _, _, rfl, rfl, by decide +kernel⟩,
    ⟨msg 0 0 (leBytes 4 8333333 ++ leBytes 2 21845 ++ leBytes 1 255 ++ leBytes 1 0 ++ leBytes 4 15990784), up, _, _, rfl, rfl, by decide +kernel⟩,
    ⟨msg 0 0 (leBytes 4 5 ++ leBytes 2 1 ++ leBytes 2 0), up, _, _, rfl, rfl, by decide +kernel⟩,
    ⟨msg 0 0 (leBytes 1 1), up, _, _, rfl, rfl, by decide +kernel⟩⟩

/-- Premises of SurfaceAndBulkTableCommandsTakeEffect, clause by clause. -/
theorem wit_SurfaceAndBulkTableCommandsTakeEffect :
    (∃ (m : Msg) (z : State) (s : State) (c : Ctx), (s = rasterFirst z) ∧ (c = ctxOf 0x0410 m) ∧ ((served 0x0410 m s = true) ∧ (7 ≤ m.payload.length) ∧ (1 ≤ arg c 0 2) ∧ (arg c 0 2 ≤ 8192) ∧ (1 ≤ arg c 2 2) ∧ (arg c 2 2 ≤ 8192) ∧ (arg c 4 1 ≤ 6) ∧ (1 ≤ arg c 5 1) ∧ (arg c 5 1 ≤ 3) ∧ (arg c 6 1 ≤ 5) ∧ (m.index ≠ 0xFFFF) ∧ (surfValid s m.index.toNat = false)) ∧ ∃ (u : Nat), (findExtent s (arg c 5 1 * bufBytesOf (arg c 0 2) (arg c 2 2) (arg c 4 1) / 65536) = some u)) ∧
    (∃ (m : Msg) (z : State) (s : State) (c : Ctx), (s = rasterFirst z) ∧ (c = ctxOf 0x0411 m) ∧ (served 0x0411 m s = true) ∧ (surfValid s m.index.toNat = true) ∧ (surfNamed s m.index.toNat = false)) ∧
    (∃ (m : Msg) (z : State) (s : State) (c : Ctx), (s = rasterFirst z) ∧ (c = ctxOf 0x0412 m) ∧ (served 0x0412 m s = true) ∧ (16 ≤ m.payload.length) ∧ (¬((bulkOf c).data.length % 4 ≠ 0 ∨ bulkMax c < (bulkOf c).data.length)) ∧ ((bulkOf c).op = 1) ∧ (softSurf s m.index.toNat = true) ∧ ((bulkOf c).sel < surfBufs s m.index.toNat) ∧ ((bulkOf c).offset + (bulkOf c).data.length ≤ surfBufBytes s m.index.toNat)) ∧
    (∃ (m : Msg) (z : State) (s : State) (c : Ctx), (s = rasterFirst z) ∧ (c = ctxOf 0x0413 m) ∧ (served 0x0413 m s = true) ∧ (1 ≤ m.payload.length) ∧ (softSurf s m.index.toNat = true) ∧ (arg c 0 1 < surfBufs s m.index.toNat)) ∧
    (∃ (m : Msg) (z : State) (s : State) (c : Ctx), (s = rasterFirst z) ∧ (c = ctxOf 0x0414 m) ∧ ((served 0x0414 m s = true) ∧ (4 ≤ m.payload.length) ∧ (512 ≤ arg c 0 2) ∧ (64 ≤ arg c 2 2)) ∧ (arg c 0 2 + arg c 2 2 ≤ dramBytes / 2 ^ 20) ∧ ((List.range 64).any (surfValid s) = false)) ∧
    (∃ (m : Msg) (z : State) (s : State) (c : Ctx), (s = rasterFirst z) ∧ (c = ctxOf 0x0403 m) ∧ (served 0x0403 m s = true) ∧ (16 ≤ m.payload.length) ∧ (¬((bulkOf c).data.length % 4 ≠ 0 ∨ bulkMax c < (bulkOf c).data.length)) ∧ ((bulkOf c).op = 1) ∧ ((bulkOf c).sel ≤ 15) ∧ (2 * (bulkOf c).offset + (bulkOf c).data.length ≤ 8192) ∧ (bankUsed s Reg.CMP_LUT_BANK (if (bulkOf c).sel % 8 < 4 then (bulkOf c).sel % 8 else 4 + (bulkOf c).sel % 8) ((bulkOf c).sel / 8) = false)) ∧
    (∃ (m : Msg) (z : State) (s : State) (c : Ctx), (s = rasterFirst z) ∧ (c = ctxOf 0x0605 m) ∧ (served 0x0605 m s = true) ∧ (16 ≤ m.payload.length) ∧ (¬((bulkOf c).data.length % 4 ≠ 0 ∨ bulkMax c < (bulkOf c).data.length)) ∧ ((bulkOf c).op = 1) ∧ ((bulkOf c).sel ≤ 31) ∧ (2 * (bulkOf c).offset + (bulkOf c).data.length ≤ 2048) ∧ (bankUsed s Reg.CORR_CURVE_BANK 0 ((bulkOf c).sel / 16) = false)) ∧
    (∃ (m : Msg) (z : State) (s : State) (c : Ctx), (s = rasterFirst z) ∧ (c = ctxOf 0x0601 m) ∧ (served 0x0601 m s = true) ∧ (16 ≤ m.payload.length) ∧ (¬((bulkOf c).data.length % 4 ≠ 0 ∨ bulkMax c < (bulkOf c).data.length)) ∧ ((bulkOf c).op = 1) ∧ ((bulkOf c).sel ≤ 1) ∧ (4 * (bulkOf c).offset + (bulkOf c).data.length ≤ 4 * 2 ^ 20)) :=
  ⟨⟨msg 8 5 (leBytes 2 64 ++ leBytes 2 32 ++ leBytes 1 4 ++ leBytes 1 2 ++ leBytes 1 4), up, _, _, rfl, rfl, by decide +kernel, 0, by decide +kernel⟩,
    ⟨msg 8 5, (regs [(Reg.DRAM_SURF_CFG 5, 63 + 31 * 2 ^ 13 + 4 * 2 ^ 26 + 2 * 2 ^ 29 + 2 ^ 31), (Reg.DRAM_SURF_BASE 5, 0x80000000)] up), _, _, rfl, rfl, by decide +kernel⟩,
    ⟨msg 8 5 (leBytes 4 0 ++ leBytes 1 0 ++ leBytes 3 1 ++ leBytes 8 0 ++ leBytes 4 0x01020304), (regs [(Reg.DRAM_SURF_CFG 5, 63 + 31 * 2 ^ 13 + 4 * 2 ^ 26 + 2 * 2 ^ 29 + 2 ^ 31), (Reg.DRAM_SURF_BASE 5, 0x80000000)] up), _, _, rfl, rfl, by decide +kernel⟩,
    ⟨msg 8 5 (leBytes 1 1), (regs [(Reg.DRAM_SURF_CFG 5, 63 + 31 * 2 ^ 13 + 4 * 2 ^ 26 + 2 * 2 ^ 29 + 2 ^ 31), (Reg.DRAM_SURF_BASE 5, 0x80000000)] up), _, _, rfl, rfl, by decide +kernel⟩,
    ⟨msg 0 0 (leBytes 2 768 ++ leBytes 2 64), up, _, _, rfl, rfl, by decide +kernel, (by unfold dramBytes; split <;> decide +kernel), by decide +kernel⟩,
    ⟨msg 0 0 (leBytes 4 0 ++ leBytes 1 9 ++ leBytes 3 1 ++ leBytes 8 0 ++ leBytes 4 0x01020304), up, _, _, rfl, rfl, by decide +kernel⟩,
    ⟨msg 0 0 (leBytes 4 0 ++ leBytes 1 17 ++ leBytes 3 1 ++ leBytes 8 0 ++ leBytes 4 0x01020304), up, _, _, rfl, rfl, by decide +kernel⟩,
    ⟨msg 0 0 (leBytes 4 0 ++ leBytes 1 1 ++ leBytes 3 1 ++ leBytes 8 0 ++ leBytes 4 0x01020304), up, _, _, rfl, rfl, by decide +kernel⟩⟩

/-- Premises of RegisterSetCommandsWriteTheirWords, clause by clause. -/
theorem wit_RegisterSetCommandsWriteTheirWords :
    (∃ (m : Msg) (z : State) (s : State) (c : Ctx), (s = rasterFirst z) ∧ (c = ctxOf 0x0304 m) ∧ (served 0x0304 m s = true) ∧ (setFits c [Reg.RAS_CTRL] (fun o => decide (0x60 ≤ o ∧ o ≤ 0x70)) s = true)) ∧
    (∃ (m : Msg) (z : State) (s : State) (c : Ctx), (s = rasterFirst z) ∧ (c = ctxOf 0x0401 m) ∧ (served 0x0401 m s = true) ∧ (setFits c [Reg.CMP_LAYER_CTRL m.index.toNat] (fun o => decide (o ≤ 0x30)) s = true) ∧ (layerCheck m.index.toNat s (setWords c [Reg.CMP_LAYER_CTRL m.index.toNat]) = St.ok)) ∧
    (∃ (m : Msg) (z : State) (s : State) (c : Ctx), (s = rasterFirst z) ∧ (c = ctxOf 0x0402 m) ∧ (served 0x0402 m s = true) ∧ (setFits c [Reg.CMP_CANVAS] (fun o => decide (o ≤ 8)) s = true)) ∧
    (∃ (m : Msg) (z : State) (s : State) (c : Ctx), (s = rasterFirst z) ∧ (c = ctxOf 0x0502 m) ∧ (served 0x0502 m s = true) ∧ (setFits c [Reg.BEAM_CTRL] beamAccepts s = true) ∧ (beamCheck (setCommits c) s (setWords c [Reg.BEAM_CTRL]) = St.ok)) ∧
    (∃ (m : Msg) (z : State) (s : State) (c : Ctx), (s = rasterFirst z) ∧ (c = ctxOf 0x0604 m) ∧ (served 0x0604 m s = true) ∧ (setFits c [Reg.CORR_CTRL] (fun o => decide (o ≤ 0x1FF)) s = true) ∧ (corrCheck s (setWords c [Reg.CORR_CTRL]) = St.ok)) ∧
    (∃ (m : Msg) (z : State) (s : State) (c : Ctx), (s = rasterFirst z) ∧ (c = ctxOf 0x0606 m) ∧ (served 0x0606 m s = true) ∧ (setFits c ((objects c).map Reg.SEG_SEG_CFG) (fun o => o == 0 || decide (0x10 ≤ o ∧ o ≤ 0x1C)) s = true)) ∧
    (∃ (m : Msg) (z : State) (s : State) (c : Ctx), (s = rasterFirst z) ∧ (c = ctxOf 0x0705 m) ∧ (served 0x0705 m s = true) ∧ (setFits c [Reg.HLT_CTRL] (fun o => decide (o ≤ 0x24)) s = true) ∧ ((fun u l => if basesStand u l then St.ok else St.range) s (setWords c [Reg.HLT_CTRL]) = St.ok)) ∧
    (∃ (m : Msg) (z : State) (s : State) (c : Ctx), (s = rasterFirst z) ∧ (c = ctxOf 0x0801 m) ∧ (served 0x0801 m s = true) ∧ (setFits c [Reg.SUP_CTRL] (fun o => decide (o ≤ 0x58)) s = true) ∧ ((fun u l => if fld (setView u l Reg.SUP_VLED_MAX) 0 11 < fld (setView u l Reg.SUP_VLED_MIN) 0 11 then St.range else St.ok) s (setWords c [Reg.SUP_CTRL]) = St.ok)) ∧
    (∃ (m : Msg) (z : State) (s : State) (c : Ctx), (s = rasterFirst z) ∧ (c = ctxOf 0x0901 m) ∧ (served 0x0901 m s = true) ∧ (setFits c [Reg.POL_P_CFG m.index.toNat] (fun o => decide (o ≤ 0x0C)) s = true) ∧ (polSetCheck s (setWords c [Reg.POL_P_CFG m.index.toNat]) = St.ok)) ∧
    (∃ (m : Msg) (z : State) (s : State) (c : Ctx), (s = rasterFirst z) ∧ (c = ctxOf 0x0B03 m) ∧ (served 0x0B03 m s = true) ∧ (setFits c [Reg.SDS_STR_CTRL m.index.toNat] (fun o => decide (o ≤ 0x10)) s = true) ∧ (streamCheck m.index.toNat s (setWords c [Reg.SDS_STR_CTRL m.index.toNat]) = St.ok)) ∧
    (∃ (m : Msg) (z : State) (s : State) (c : Ctx), (s = rasterFirst z) ∧ (c = ctxOf 0x0B06 m) ∧ (served 0x0B06 m s = true) ∧ (setFits c [if m.index.toNat < 2 then Reg.MAC_CTRL m.index.toNat else Reg.CAN_CTRL (m.index.toNat - 2)] (fun o => decide (o ≤ 0x1C) || decide (0x100 ≤ o ∧ o ≤ 0x4F8)) s = true)) ∧
    (∃ (m : Msg) (z : State) (s : State) (c : Ctx), (s = rasterFirst z) ∧ (c = ctxOf 0x0D03 m) ∧ (served 0x0D03 m s = true) ∧ (setFits c [Reg.PTP_CTRL] (fun o => decide (o ≤ 0x74) && !(decide (0x30 ≤ o ∧ o ≤ 0x40))) s = true)) ∧
    (∃ (m : Msg) (z : State) (s : State) (c : Ctx), (s = rasterFirst z) ∧ (c = ctxOf 0x0E01 m) ∧ (served 0x0E01 m s = true) ∧ (setFits c [Reg.HK_CH_CFG m.index.toNat] (fun o => decide (o ≤ 0x0C)) s = true)) ∧
    (∃ (m : Msg) (z : State) (s : State) (c : Ctx), (s = rasterFirst z) ∧ (c = ctxOf 0x0F01 m) ∧ (served 0x0F01 m s = true) ∧ (setFits c [Reg.CRC_CH_CTRL m.index.toNat] (fun o => decide (o ≤ 0x2C)) s = true) ∧ (chCheck m.index.toNat s (setWords c [Reg.CRC_CH_CTRL m.index.toNat]) = St.ok)) :=
  ⟨⟨msg 0 0 (regSet 100 0 1 [300]), up, _, _, rfl, rfl, by decide +kernel⟩,
    ⟨msg 1 2 (regSet 16 1 1 [128]), up, _, _, rfl, rfl, by decide +kernel⟩,
    ⟨msg 0 0 (regSet 0 1 1 [16711935]), up, _, _, rfl, rfl, by decide +kernel⟩,
    ⟨msg 0 0 (regSet 12 0 1 [9437184]), up, _, _, rfl, rfl, by decide +kernel⟩,
    ⟨msg 0 0 (regSet 36 1 1 [61440]), up, _, _, rfl, rfl, by decide +kernel⟩,
    ⟨msg 2 7 (regSet 16 0 1 [60]), up, _, _, rfl, rfl, by decide +kernel⟩,
    ⟨msg 0 0 (regSet 0 0 1 [37]), up, _, _, rfl, rfl, by decide +kernel⟩,
    ⟨msg 9 0 (regSet 16 0 1 [210]), up, _, _, rfl, rfl, by decide +kernel⟩,
    ⟨msg 6 9 (regSet 0 1 1 [8193]), up, _, _, rfl, rfl, by decide +kernel⟩,
    ⟨msg 7 1 (regSet 0 0 1 [32]), up, _, _, rfl, rfl, by decide +kernel⟩,
    ⟨msg 12 0 (regSet 16 0 1 [167772165]), up, _, _, rfl, rfl, by decide +kernel⟩,
    ⟨msg 0 0 (regSet 96 0 1 [50]), up, _, _, rfl, rfl, by decide +kernel⟩,
    ⟨msg 13 3 (regSet 4 0 1 [7]), up, _, _, rfl, rfl, by decide +kernel⟩,
    ⟨msg 11 2 (regSet 8 0 1 [4129]), up, _, _, rfl, rfl, by decide +kernel⟩⟩

/-- Premises of CorrectionHealthSupplyListAndCheckCommandsTakeEffect, clause by clause. -/
theorem wit_CorrectionHealthSupplyListAndCheckCommandsTakeEffect :
    (∃ (m : Msg) (z : State) (s : State) (c : Ctx), (s = rasterFirst z) ∧ (c = ctxOf 0x0602 m) ∧ (served 0x0602 m s = true) ∧ (3 ≤ m.payload.length) ∧ (m.index.toNat ≤ arg c 0 1) ∧ (rangeHeld s clsSegment m.index.toNat (arg c 0 1) = false) ∧ (1 ≤ arg c 1 1) ∧ (arg c 1 1 ≤ 3) ∧ (arg c 2 1 ≤ 1)) ∧
    (∃ (m : Msg) (z : State) (s : State) (c : Ctx), (s = rasterFirst z) ∧ (c = ctxOf 0x0603 m) ∧ (served 0x0603 m s = true) ∧ (1 ≤ m.payload.length) ∧ (m.index.toNat ≤ arg c 0 1) ∧ (rangeHeld s clsSegment m.index.toNat (arg c 0 1) = false) ∧ (s.corr.saving = none)) ∧
    (∃ (m : Msg) (z : State) (s : State) (c : Ctx), (s = rasterFirst z) ∧ (c = ctxOf 0x0702 m) ∧ (served 0x0702 m s = true) ∧ (4 ≤ m.payload.length) ∧ (arg c 2 2 = 0 ∨ arg c 0 2 + arg c 2 2 ≤ 4096)) ∧
    (∃ (m : Msg) (z : State) (s : State) (c : Ctx), (s = rasterFirst z) ∧ (c = ctxOf 0x0703 m) ∧ (served 0x0703 m s = true) ∧ (1 ≤ m.payload.length) ∧ (m.index.toNat ≤ arg c 0 1) ∧ (rangeHeld s clsSegment m.index.toNat (arg c 0 1) = false) ∧ (s.hlt.cap = none)) ∧
    (∃ (m : Msg) (z : State) (s : State) (c : Ctx), (s = rasterFirst z) ∧ (c = ctxOf 0x0704 m) ∧ (served 0x0704 m s = true) ∧ (1 ≤ m.payload.length)) ∧
    (∃ (m : Msg) (z : State) (s : State) (c : Ctx), (s = rasterFirst z) ∧ (c = ctxOf 0x0802 m) ∧ (served 0x0802 m s = true)) ∧
    (∃ (m : Msg) (z : State) (s : State) (c : Ctx), (s = rasterFirst z) ∧ (c = ctxOf 0x0803 m) ∧ (served 0x0803 m s = true) ∧ (1 ≤ m.payload.length) ∧ (arg c 0 1 ≤ 120)) ∧
    (∃ (m : Msg) (z : State) (s : State) (c : Ctx), (s = rasterFirst z) ∧ (c = ctxOf 0x0902 m) ∧ (served 0x0902 m s = true) ∧ (1 ≤ m.payload.length) ∧ (arg c 0 1 ≤ 3)) ∧
    (∃ (m : Msg) (z : State) (s : State) (c : Ctx), (s = rasterFirst z) ∧ (c = ctxOf 0x0903 m) ∧ (served 0x0903 m s = true) ∧ (clearRefused s = false)) ∧
    (∃ (m : Msg) (z : State) (s : State) (c : Ctx), (s = rasterFirst z) ∧ (c = ctxOf 0x0501 m) ∧ (served 0x0501 m s = true) ∧ (s.bit Reg.BEAM_CTRL 6 = true) ∧ (listVerdict s m.payload = 0)) ∧
    (∃ (m : Msg) (z : State) (s : State) (c : Ctx), (s = rasterFirst z) ∧ (c = ctxOf 0x0540 m) ∧ (served 0x0540 m s = true) ∧ (1 ≤ m.payload.length) ∧ (s.bit Reg.BEAM_CTRL 0 = true)) ∧
    (∃ (m : Msg) (z : State) (s : State) (c : Ctx), (s = rasterFirst z) ∧ (c = ctxOf 0x0541 m) ∧ (served 0x0541 m s = true)) ∧
    (∃ (m : Msg) (z : State) (s : State) (c : Ctx), (s = rasterFirst z) ∧ (c = ctxOf 0x0542 m) ∧ (served 0x0542 m s = true) ∧ (1 ≤ m.payload.length) ∧ (arg c 0 1 ≠ 0)) ∧
    (∃ (m : Msg) (z : State) (s : State) (c : Ctx), (s = rasterFirst z) ∧ (c = ctxOf 0x1001 m) ∧ (served 0x1001 m s = true)) ∧
    (∃ (m : Msg) (z : State) (s : State) (c : Ctx), (s = rasterFirst z) ∧ (c = ctxOf 0x0E03 m) ∧ (served 0x0E03 m s = true)) ∧
    (∃ (m : Msg) (z : State) (s : State) (c : Ctx), (s = rasterFirst z) ∧ (c = ctxOf 0x0E02 m) ∧ ((served 0x0E02 m s = true) ∧ (4 ≤ m.payload.length)) ∧ ∃ (u : Nat), (calUnit (arg c 0 1) (arg c 2 2) = some u) ∧ (calHeld s u = false) ∧ (calInService s u = true)) ∧
    (∃ (m : Msg) (z : State) (s : State) (c : Ctx), (s = rasterFirst z) ∧ (c = ctxOf 0x0F02 m) ∧ ((served 0x0F02 m s = true) ∧ (chNamed s m.index.toNat = false) ∧ (chEn s m.index.toNat = true) ∧ (chMode s m.index.toNat = 0) ∧ (chBusy s m.index.toNat = false)) ∧ (scanOk s m.index.toNat = true)) :=
  ⟨⟨msg 2 2 (leBytes 1 4 ++ leBytes 1 3 ++ leBytes 1 1), up, _, _, rfl, rfl, by decide +kernel⟩,
    ⟨msg 2 2 (leBytes 1 4), up, _, _, rfl, rfl, by decide +kernel⟩,
    ⟨msg 2 3 (leBytes 2 10 ++ leBytes 2 20), up, _, _, rfl, rfl, by decide +kernel⟩,
    ⟨msg 2 2 (leBytes 1 4), up, _, _, rfl, rfl, by decide +kernel⟩,
    ⟨msg 0 0 (leBytes 1 1), up, _, _, rfl, rfl, by decide +kernel⟩,
    ⟨msg 9 0, up, _, _, rfl, rfl, by decide +kernel⟩,
    ⟨msg 9 0 (leBytes 1 100), up, _, _, rfl, rfl, by decide +kernel⟩,
    ⟨msg 0 0 (leBytes 1 2), up, _, _, rfl, rfl, by decide +kernel⟩,
    ⟨msg 0 0, up, _, _, rfl, rfl, by decide +kernel⟩,
    ⟨msg 0 0 (listBytes 5), (regs [(Reg.BEAM_CTRL, 0x40)] up), _, _, rfl, rfl, by decide +kernel⟩,
    ⟨msg 0 0 (leBytes 1 1), (regs [(Reg.BEAM_CTRL, 1)] up), _, _, rfl, rfl, by decide +kernel⟩,
    ⟨msg 0 0, up, _, _, rfl, rfl, by decide +kernel⟩,
    ⟨msg 0 0 (leBytes 1 2), up, _, _, rfl, rfl, by decide +kernel⟩,
    ⟨msg 0 0, up, _, _, rfl, rfl, by decide +kernel⟩,
    ⟨msg 0 0, up, _, _, rfl, rfl, by decide +kernel⟩,
    ⟨msg 0 0 (leBytes 2 4 ++ leBytes 2 0), up, _, _, rfl, rfl, by decide +kernel, 96, by decide +kernel⟩,
    ⟨msg 11 2, (regs [(Reg.CRC_CH_CTRL 2, 1), (Reg.CRC_CH_START_LO 2, 0), (Reg.CRC_CH_START_HI 2, 16), (Reg.CRC_CH_LENGTH 2, 64)] up), _, _, rfl, rfl, by decide +kernel, scanOk_wit⟩⟩

/-- Premises of SnowpackAndStagedLoadCommandsTakeEffect, clause by clause. -/
theorem wit_SnowpackAndStagedLoadCommandsTakeEffect :
    (∃ (m : Msg) (z : State) (s : State) (c : Ctx), (s = rasterFirst z) ∧ (c = ctxOf 0x0A01 m) ∧ ((served 0x0A01 m s = true) ∧ (12 ≤ m.payload.length) ∧ (snowBusy s = false) ∧ (slotLocked s m.index.toNat = false) ∧ (1 ≤ arg c 0 2) ∧ (arg c 0 2 ≤ 8064) ∧ (arg c 2 2 ≤ 8191) ∧ (arg c 4 2 ≤ 8191)) ∧ ∃ (off : Nat), (placeRuns s m.index.toNat (arg c 0 2) = some off)) ∧
    (∃ (m : Msg) (z : State) (s : State) (c : Ctx), (s = rasterFirst z) ∧ (c = ctxOf 0x0A02 m) ∧ ((served 0x0A02 m s = true) ∧ (16 ≤ m.payload.length) ∧ (¬((bulkOf c).data.length % 4 ≠ 0 ∨ bulkMax c < (bulkOf c).data.length)) ∧ ((bulkOf c).op = 1)) ∧ ∃ (o : SnowOp), (openWrite s m.index.toNat = some o) ∧ (4 * (bulkOf c).offset + (bulkOf c).data.length ≤ 4 * o.runs)) ∧
    (∃ (m : Msg) (z : State) (s : State) (c : Ctx), (s = rasterFirst z) ∧ (c = ctxOf 0x0A03 m) ∧ (served 0x0A03 m s = true) ∧ ∃ (o : SnowOp), (openWrite s m.index.toNat = some o) ∧ ∃ (l : List Word), ((List.range o.runs).map (fun i => sget (fun _ => (none : Option Word)) o.words i) = l.map some) ∧ (l.length = o.runs) ∧ (crc32c (wordBytes l) = o.crc) ∧ (wellFormedRuns (o.wm1 + 1) (o.hm1 + 1) (l.map BitVec.toNat) = true)) ∧
    (∃ (m : Msg) (z : State) (s : State) (c : Ctx), (s = rasterFirst z) ∧ (c = ctxOf 0x0A04 m) ∧ (served 0x0A04 m s = true) ∧ ∃ (o : SnowOp), (openWrite s m.index.toNat = some o)) ∧
    (∃ (m : Msg) (z : State) (s : State) (c : Ctx), (s = rasterFirst z) ∧ (c = ctxOf 0x0A05 m) ∧ (served 0x0A05 m s = true) ∧ (snowBusy s = false) ∧ (slotLocked s m.index.toNat = false) ∧ (slotState s m.index.toNat ≠ 0) ∧ (slotNamed s m.index.toNat = false)) ∧
    (∃ (m : Msg) (z : State) (s : State) (c : Ctx), (s = rasterFirst z) ∧ (c = ctxOf 0x0A06 m) ∧ (served 0x0A06 m s = true) ∧ (snowBusy s = false) ∧ (slotValid s m.index.toNat = true)) ∧
    (∃ (m : Msg) (z : State) (s : State) (c : Ctx), (s = rasterFirst z) ∧ (c = ctxOf 0x0A07 m) ∧ (served 0x0A07 m s = true) ∧ (256 ≤ m.payload.length) ∧ (snowBusy s = false)) ∧
    (∃ (m : Msg) (z : State) (s : State) (c : Ctx), (s = rasterFirst z) ∧ (c = ctxOf 0x0A08 m) ∧ (served 0x0A08 m s = true) ∧ (128 ≤ m.payload.length) ∧ (snowBusy s = false)) ∧
    (∃ (m : Msg) (z : State) (s : State) (c : Ctx), (s = rasterFirst z) ∧ (c = ctxOf 0x0503 m) ∧ ((served 0x0503 m s = true) ∧ (16 ≤ m.payload.length) ∧ (¬((bulkOf c).data.length % 4 ≠ 0 ∨ bulkMax c < (bulkOf c).data.length)) ∧ ((bulkOf c).op = 2) ∧ ((bulkOf c).sel ≤ 15) ∧ (patSelected s (bulkOf c).sel = false)) ∧ ∃ (l : Load), (loadOf s 0x503 (bulkOf c).sel = some l) ∧ ∃ (d : List Byte), (loadBytes l = some d) ∧ (crc32c d = (bulkOf c).crc)) ∧
    (∃ (m : Msg) (z : State) (s : State) (c : Ctx), (s = rasterFirst z) ∧ (c = ctxOf 0x0504 m) ∧ ((served 0x0504 m s = true) ∧ (16 ≤ m.payload.length) ∧ (¬((bulkOf c).data.length % 4 ≠ 0 ∨ bulkMax c < (bulkOf c).data.length)) ∧ ((bulkOf c).op = 2) ∧ ((bulkOf c).sel ≤ 15) ∧ (glyphNamed s (bulkOf c).sel = false)) ∧ ∃ (l : Load), (loadOf s 0x504 (bulkOf c).sel = some l) ∧ ∃ (d : List Byte), (loadBytes l = some d) ∧ (crc32c d = (bulkOf c).crc)) ∧
    (∃ (m : Msg) (z : State) (s : State) (c : Ctx), (s = rasterFirst z) ∧ (c = ctxOf 0x0505 m) ∧ ((served 0x0505 m s = true) ∧ (16 ≤ m.payload.length) ∧ (¬((bulkOf c).data.length % 4 ≠ 0 ∨ bulkMax c < (bulkOf c).data.length)) ∧ ((bulkOf c).op = 2) ∧ ((bulkOf c).sel ≤ 1) ∧ (bankUsed s Reg.BEAM_GRID_BANK 0 (bulkOf c).sel = false)) ∧ ∃ (l : Load), (loadOf s 0x505 (bulkOf c).sel = some l) ∧ ∃ (d : List Byte), (loadBytes l = some d) ∧ (crc32c d = (bulkOf c).crc)) ∧
    (∃ (m : Msg) (z : State) (s : State) (c : Ctx), (s = rasterFirst z) ∧ (c = ctxOf 0x0505 m) ∧ (served 0x0505 m s = true) ∧ (16 ≤ m.payload.length) ∧ (¬((bulkOf c).data.length % 4 ≠ 0 ∨ bulkMax c < (bulkOf c).data.length)) ∧ ((bulkOf c).op = 0) ∧ ((bulkOf c).sel ≤ 1) ∧ (bankUsed s Reg.BEAM_GRID_BANK 0 (bulkOf c).sel = false) ∧ ((bulkOf c).size = 4356)) ∧
    (∃ (m : Msg) (z : State) (s : State) (c : Ctx), (s = rasterFirst z) ∧ (c = ctxOf 0x0B08 m) ∧ ((served 0x0B08 m s = true) ∧ (16 ≤ m.payload.length) ∧ (¬((bulkOf c).data.length % 4 ≠ 0 ∨ bulkMax c < (bulkOf c).data.length)) ∧ ((bulkOf c).op = 2)) ∧ ∃ (l : Load), (loadOf s 0xB08 m.index.toNat = some l) ∧ ∃ (d : List Byte), (loadBytes l = some d) ∧ (crc32c d = (bulkOf c).crc) ∧ (segReached (dropLoad 0xB08 m.index.toNat s) m.index.toNat = true)) :=
  ⟨⟨msg 10 3 (leBytes 2 100 ++ leBytes 2 639 ++ leBytes 2 359 ++ leBytes 2 0 ++ leBytes 4 9), up, _, _, rfl, rfl, by decide +kernel, 0, by decide +kernel⟩,
    ⟨msg 10 3 (leBytes 4 0 ++ leBytes 1 0 ++ leBytes 3 1 ++ leBytes 8 0 ++ leBytes 4 0), { up with snow := { up.snow with op := some { code := 0xA01, slot := 3, offset := 0, runs := 1, wm1 := 0, hm1 := 0, crc := crc32c (leBytes 4 0), words := [], ended := false } } }, _, _, rfl, rfl, by decide +kernel, _, rfl, by decide +kernel⟩,
    ⟨msg 10 3, { up with snow := { up.snow with op := some { code := 0xA01, slot := 3, offset := 0, runs := 1, wm1 := 0, hm1 := 0, crc := crc32c (leBytes 4 0), words := [(0, some 0)], ended := false } } }, _, _, rfl, rfl, by decide +kernel, _, rfl, [0], by decide +kernel⟩,
    ⟨msg 10 3, { up with snow := { up.snow with op := some { code := 0xA01, slot := 3, offset := 0, runs := 1, wm1 := 0, hm1 := 0, crc := crc32c (leBytes 4 0), words := [], ended := false } } }, _, _, rfl, rfl, by decide +kernel, _, rfl⟩,
    ⟨msg 10 3, (up.putByte (entryAt snowBase 3) 1), _, _, rfl, rfl, by decide +kernel⟩,
    ⟨msg 10 3, (up.putByte (entryAt snowBase 3) 1), _, _, rfl, rfl, by decide +kernel⟩,
    ⟨msg 0 0 (List.replicate 256 1), up, _, _, rfl, rfl, by decide +kernel⟩,
    ⟨msg 0 0 (List.replicate 128 1), up, _, _, rfl, rfl, by decide +kernel⟩,
    ⟨msg 0 0 (leBytes 4 0 ++ [5, 2, 0, 0] ++ leBytes 4 4 ++ leBytes 4 (crc32c [1, 2, 3, 4]) ++ ([] : List Byte)), { up with loads := [{ code := 1283, obj := 5, size := 4, got := [(0, some 1), (1, some 2), (2, some 3), (3, some 4)], extra := [] }] }, _, _, rfl, rfl, by decide +kernel, _, rfl, [1, 2, 3, 4], by decide +kernel⟩,
    ⟨msg 0 0 (leBytes 4 0 ++ [5, 2, 0, 0] ++ leBytes 4 4 ++ leBytes 4 (crc32c [1, 2, 3, 4]) ++ ([] : List Byte)), { up with loads := [{ code := 1284, obj := 5, size := 4, got := [(0, some 1), (1, some 2), (2, some 3), (3, some 4)], extra := [] }] }, _, _, rfl, rfl, by decide +kernel, _, rfl, [1, 2, 3, 4], by decide +kernel⟩,
    ⟨msg 0 0 (leBytes 4 0 ++ [1, 2, 0, 0] ++ leBytes 4 4 ++ leBytes 4 (crc32c [1, 2, 3, 4]) ++ ([] : List Byte)), { up with loads := [{ code := 1285, obj := 1, size := 4, got := [(0, some 1), (1, some 2), (2, some 3), (3, some 4)], extra := [] }] }, _, _, rfl, rfl, by decide +kernel, _, rfl, [1, 2, 3, 4], by decide +kernel⟩,
    ⟨msg 0 0 (leBytes 4 0 ++ [1, 0, 0, 0] ++ leBytes 4 4356 ++ leBytes 4 (crc32c [1, 2, 3, 4]) ++ ([] : List Byte)), up, _, _, rfl, rfl, by decide +kernel⟩,
    ⟨msg 2 4 (leBytes 4 0 ++ [0, 2, 0, 0] ++ leBytes 4 4 ++ leBytes 4 (crc32c [1, 2, 3, 4]) ++ ([] : List Byte)), (regs [(Reg.SLK_LINK_STATE 0, 6), (Reg.SLK_LINK_SEGSTATE 0, 2 * 2 ^ 16)] { up with loads := [{ code := 2824, obj := 4, size := 4, got := [(0, some 1), (1, some 2), (2, some 3), (3, some 4)], extra := [] }] }), _, _, rfl, rfl, by decide +kernel, _, rfl, [1, 2, 3, 4], by decide +kernel⟩⟩

/-- Premises of LinkFabricAndTimeCommandsTakeEffect, clause by clause. -/
theorem wit_LinkFabricAndTimeCommandsTakeEffect :
    (∃ (m : Msg) (z : State) (s : State) (c : Ctx), (s = rasterFirst z) ∧ (c = ctxOf 0x0B01 m) ∧ (served 0x0B01 m s = true) ∧ (2 ≤ m.payload.length) ∧ (arg c 0 1 ≤ 1) ∧ (m.cls = 3) ∧ (arg c 1 1 ≤ 2 ∨ arg c 1 1 = 0xFF)) ∧
    (∃ (m : Msg) (z : State) (s : State) (c : Ctx), (s = rasterFirst z) ∧ (c = ctxOf 0x0B01 m) ∧ (served 0x0B01 m s = true) ∧ (1 ≤ m.payload.length) ∧ (arg c 0 1 ≤ 1) ∧ (m.cls = 7) ∧ (arg c 0 1 = 0 ∨ streamAdmit s m.index.toNat = St.ok)) ∧
    (∃ (m : Msg) (z : State) (s : State) (c : Ctx), (s = rasterFirst z) ∧ (c = ctxOf 0x0B01 m) ∧ (served 0x0B01 m s = true) ∧ (1 ≤ m.payload.length) ∧ (arg c 0 1 ≤ 1) ∧ (m.cls = 12)) ∧
    (∃ (m : Msg) (z : State) (s : State) (c : Ctx), (s = rasterFirst z) ∧ (c = ctxOf 0x0B02 m) ∧ (served 0x0B02 m s = true) ∧ (m.cls = 3) ∧ ((objects c).filter (fun n => linkState s n == 6 || linkState s n == 7) ≠ [])) ∧
    (∃ (m : Msg) (z : State) (s : State) (c : Ctx), (s = rasterFirst z) ∧ (c = ctxOf 0x0B02 m) ∧ (served 0x0B02 m s = true) ∧ (m.cls ≠ 3) ∧ ((namedGroups c s).filter (fun g => !(seriesRuns s g)) ≠ [])) ∧
    (∃ (m : Msg) (z : State) (s : State) (c : Ctx), (s = rasterFirst z) ∧ (c = ctxOf 0x0B04 m) ∧ (served 0x0B04 m s = true) ∧ (3 ≤ m.payload.length) ∧ (arg c 0 1 ≤ 3) ∧ (arg c 1 1 ≤ 1) ∧ (arg c 2 1 ≤ 6) ∧ (quadOff s (m.index.toNat / 4) = true)) ∧
    (∃ (m : Msg) (z : State) (s : State) (c : Ctx), (s = rasterFirst z) ∧ (c = ctxOf 0x0B05 m) ∧ (served 0x0B05 m s = true) ∧ (8 ≤ m.payload.length) ∧ (reservedWord s (Reg.SDS_LANE_CTRL m.index.toNat) (BitVec.ofNat 32 (arg c 0 4)) = false) ∧ (reservedWord s (Reg.SDS_LANE_TXEQ m.index.toNat) (BitVec.ofNat 32 (arg c 4 4)) = false) ∧ (¬((BitVec.ofNat 32 (arg c 0 4)).getLsbD 0 = true ∧ s.bit (Reg.SDS_LANE_CTRL m.index.toNat) 0 = false ∧ laneServes s m.index.toNat = true))) ∧
    (∃ (m : Msg) (z : State) (s : State) (c : Ctx), (s = rasterFirst z) ∧ (c = ctxOf 0x0B07 m) ∧ (served 0x0B07 m s = true) ∧ (1 ≤ m.payload.length) ∧ (arg c 0 1 ≤ 2)) ∧
    (∃ (m : Msg) (z : State) (s : State) (c : Ctx), (s = rasterFirst z) ∧ (c = ctxOf 0x0C01 m) ∧ (served 0x0C01 m s = true) ∧ (4 ≤ m.payload.length) ∧ (arg c 2 2 ≤ 0xFFE) ∧ (¬((arg c 0 1).testBit 2 = true ∧ arg c 2 2 = 0))) ∧
    (∃ (m : Msg) (z : State) (s : State) (c : Ctx), (s = rasterFirst z) ∧ (c = ctxOf 0x0C02 m) ∧ (served 0x0C02 m s = true) ∧ (3 ≤ m.payload.length) ∧ (arg c 0 1 ≤ 1) ∧ (arg c 1 1 ≤ 2) ∧ (arg c 2 1 ≤ 23) ∧ (arg c 0 1 = 1 → laneChoiceOk s 2 (BitVec.ofNat 32 (arg c 0 1 + 2 * arg c 1 1 + 8 * arg c 2 1)) = true)) ∧
    (∃ (m : Msg) (z : State) (s : State) (c : Ctx), (s = rasterFirst z) ∧ (c = ctxOf 0x0C03 m) ∧ (served 0x0C03 m s = true) ∧ (6 + 2 * arg c 4 2 ≤ m.payload.length) ∧ (1 ≤ arg c 4 2) ∧ (arg c 4 2 ≤ 1024) ∧ (isRoot s = true)) ∧
    (∃ (m : Msg) (z : State) (s : State) (c : Ctx), (s = rasterFirst z) ∧ (c = ctxOf 0x0C04 m) ∧ (served 0x0C04 m s = true) ∧ (12 ≤ m.payload.length) ∧ (arg c 0 1 ≤ 15) ∧ (reservedWord s (Reg.FAB_FWD_CFG (arg c 0 1)) (BitVec.ofNat 32 (arg c 4 4)) = false) ∧ (reservedWord s (Reg.FAB_FWD_LINES (arg c 0 1)) (BitVec.ofNat 32 (arg c 8 4)) = false)) ∧
    (∃ (m : Msg) (z : State) (s : State) (c : Ctx), (s = rasterFirst z) ∧ (c = ctxOf 0x0C05 m) ∧ (served 0x0C05 m s = true) ∧ (16 ≤ m.payload.length) ∧ (arg c 0 1 ≤ 15) ∧ (reservedWord s (Reg.FAB_SUB_CFG (arg c 0 1)) (BitVec.ofNat 32 (arg c 4 4)) = false) ∧ (reservedWord s (Reg.FAB_SUB_WIN (arg c 0 1)) (BitVec.ofNat 32 (arg c 8 4)) = false) ∧ (reservedWord s (Reg.FAB_SUB_LOSS_TIMEOUT (arg c 0 1)) (BitVec.ofNat 32 (arg c 12 4)) = false) ∧ ((BitVec.ofNat 32 (arg c 4 4)).getLsbD 0 = true → surfValid s (fld (BitVec.ofNat 32 (arg c 4 4)) 1 6) = true ∧
        surfSource s (fld (BitVec.ofNat 32 (arg c 4 4)) 1 6) = 5 ∧ surfBufs s (fld (BitVec.ofNat 32 (arg c 4 4)) 1 6) ≠ 1)) ∧
    (∃ (m : Msg) (z : State) (s : State) (c : Ctx), (s = rasterFirst z) ∧ (c = ctxOf 0x0C06 m) ∧ (served 0x0C06 m s = true) ∧ (s.bit Reg.FAB_CTRL 0 = true)) ∧
    (∃ (m : Msg) (z : State) (s : State) (c : Ctx), (s = rasterFirst z) ∧ (c = ctxOf 0x0D01 m) ∧ (served 0x0D01 m s = true) ∧ (16 ≤ m.payload.length) ∧ (arg c 0 1 = 0)) ∧
    (∃ (m : Msg) (z : State) (s : State) (c : Ctx), (s = rasterFirst z) ∧ (c = ctxOf 0x0D01 m) ∧ (served 0x0D01 m s = true) ∧ (16 ≤ m.payload.length) ∧ (arg c 0 1 = 1)) ∧
    (∃ (m : Msg) (z : State) (s : State) (c : Ctx), (s = rasterFirst z) ∧ (c = ctxOf 0x0D02 m) ∧ (served 0x0D02 m s = true) ∧ (2 ≤ m.payload.length)) ∧
    (∃ (m : Msg) (z : State) (s : State) (c : Ctx), (s = rasterFirst z) ∧ (c = ctxOf 0x0D04 m) ∧ ((served 0x0D04 m s = true) ∧ (12 ≤ m.payload.length)) ∧ ∃ (q : Nat), (q = (if m.cls = 5 then m.index.toNat else 4 + m.index.toNat)) ∧ (q ≤ 5) ∧ (reservedWord s (Reg.PTP_PORT_CFG q) (BitVec.ofNat 32 (arg c 0 4)) = false) ∧ (reservedWord s (Reg.PTP_PORT_EG_ADJ q) (BitVec.ofNat 32 (arg c 4 4)) = false) ∧ (reservedWord s (Reg.PTP_PORT_IG_ADJ q) (BitVec.ofNat 32 (arg c 8 4)) = false) ∧ ((BitVec.ofNat 32 (arg c 0 4)).getLsbD 0 = true → ptpStamps s q = true)) ∧
    (∃ (m : Msg) (z : State) (s : State) (c : Ctx), (s = rasterFirst z) ∧ (c = ctxOf 0x0D05 m) ∧ (served 0x0D05 m s = true) ∧ (28 ≤ m.payload.length) ∧ (arg c 0 1 ≤ 3) ∧ ((arg c 1 1).testBit 2 = false)) ∧
    (∃ (m : Msg) (z : State) (s : State) (c : Ctx), (s = rasterFirst z) ∧ (c = ctxOf 0x0D06 m) ∧ (served 0x0D06 m s = true) ∧ (2 ≤ m.payload.length) ∧ (arg c 0 1 ≤ 3) ∧ (1 ≤ arg c 1 1) ∧ (arg c 1 1 ≤ 16)) :=
  ⟨⟨msg 3 2 (leBytes 1 1 ++ leBytes 1 0), up, _, _, rfl, rfl, by decide +kernel⟩,
    ⟨msg 7 1 (leBytes 1 0), up, _, _, rfl, rfl, by decide +kernel⟩,
    ⟨msg 12 1 (leBytes 1 1), up, _, _, rfl, rfl, by decide +kernel⟩,
    ⟨msg 3 2, (regs [(Reg.SLK_LINK_STATE 2, 6)] up), _, _, rfl, rfl, by decide +kernel⟩,
    ⟨msg 7 1, (regs [(Reg.SDS_STR_CTRL 1, 33), (Reg.SDS_LANE_STATE 4, 5)] up), _, _, rfl, rfl, by decide +kernel⟩,
    ⟨msg 4 4 (leBytes 1 1 ++ leBytes 1 0 ++ leBytes 1 3), up, _, _, rfl, rfl, by decide +kernel⟩,
    ⟨msg 4 5 (leBytes 4 0 ++ leBytes 4 0), up, _, _, rfl, rfl, by decide +kernel⟩,
    ⟨msg 2 0 (leBytes 1 1), up, _, _, rfl, rfl, by decide +kernel⟩,
    ⟨msg 0 0 (leBytes 2 0 ++ leBytes 2 5), up, _, _, rfl, rfl, by decide +kernel⟩,
    ⟨msg 5 1 (leBytes 1 1 ++ leBytes 1 0 ++ leBytes 1 4), (regs [(Reg.SDS_Q_CFG 1, 2)] up), _, _, rfl, rfl, by decide +kernel⟩,
    ⟨msg 0 0 (leBytes 4 5 ++ leBytes 2 1 ++ leBytes 2 9), (regs [(Reg.FAB_STATUS, 8)] up), _, _, rfl, rfl, by decide +kernel⟩,
    ⟨msg 0 0 (leBytes 4 3 ++ leBytes 8 0), up, _, _, rfl, rfl, by decide +kernel⟩,
    ⟨msg 0 0 (leBytes 4 3 ++ leBytes 8 0 ++ leBytes 4 200), up, _, _, rfl, rfl, by decide +kernel⟩,
    ⟨msg 0 0, (regs [(Reg.FAB_CTRL, 1)] up), _, _, rfl, rfl, by decide +kernel⟩,
    ⟨msg 0 0 (leBytes 8 0 ++ leBytes 8 5), up, _, _, rfl, rfl, by decide +kernel⟩,
    ⟨msg 0 0 (leBytes 8 1 ++ leBytes 8 5), up, _, _, rfl, rfl, by decide +kernel⟩,
    ⟨msg 0 0 (leBytes 2 37), up, _, _, rfl, rfl, by decide +kernel⟩,
    ⟨msg 5 1 (leBytes 12 0), up, _, _, rfl, rfl, by decide +kernel, _, rfl, by decide +kernel⟩,
    ⟨msg 0 0 (leBytes 1 2 ++ leBytes 1 1 ++ leBytes 26 0), up, _, _, rfl, rfl, by decide +kernel⟩,
    ⟨msg 0 0 (leBytes 1 1 ++ leBytes 1 4), up, _, _, rfl, rfl, by decide +kernel⟩⟩

/-- Premises of FirmwareAndRegisterCommandsTakeEffect, clause by clause. -/
theorem wit_FirmwareAndRegisterCommandsTakeEffect :
    (∃ (m : Msg) (z : State) (s : State) (c : Ctx), (s = rasterFirst z) ∧ (c = ctxOf 0x1101 m) ∧ (served 0x1101 m s = true) ∧ (4 ≤ m.payload.length) ∧ (fwUpdate s = 0 ∨ fwOwner s c = true) ∧ (fwUpdate s ≤ 3) ∧ (1 ≤ arg c 0 4) ∧ (arg c 0 4 ≤ 2097152)) ∧
    (∃ (m : Msg) (z : State) (s : State) (c : Ctx), (s = rasterFirst z) ∧ (c = ctxOf 0x1102 m) ∧ (served 0x1102 m s = true) ∧ (16 ≤ m.payload.length) ∧ (¬((bulkOf c).data.length % 4 ≠ 0 ∨ bulkMax c < (bulkOf c).data.length)) ∧ ((bulkOf c).op = 1) ∧ (fwOwner s c = true) ∧ (fwUpdate s = 1 ∨ fwUpdate s = 3) ∧ ((bulkOf c).sel = 0) ∧ ((bulkOf c).offset + (bulkOf c).data.length ≤ s.fw.size)) ∧
    (∃ (m : Msg) (z : State) (s : State) (c : Ctx), (s = rasterFirst z) ∧ (c = ctxOf 0x1103 m) ∧ (served 0x1103 m s = true) ∧ (fwOwner s c = true) ∧ (fwUpdate s = 1 ∨ fwUpdate s = 3)) ∧
    (∃ (m : Msg) (z : State) (s : State) (c : Ctx), (s = rasterFirst z) ∧ (c = ctxOf 0x1104 m) ∧ (served 0x1104 m s = true) ∧ (fwOwner s c = true) ∧ (fwUpdate s = 3)) ∧
    (∃ (m : Msg) (z : State) (s : State) (c : Ctx), (s = rasterFirst z) ∧ (c = ctxOf 0x1105 m) ∧ (served 0x1105 m s = true) ∧ (1 ≤ fwUpdate s) ∧ (fwUpdate s ≤ 3)) ∧
    (∃ (m : Msg) (z : State) (s : State) (c : Ctx), (s = rasterFirst z) ∧ (c = ctxOf 0x1201 m) ∧ ((served 0x1201 m s = true) ∧ (8 + 4 * arg c 4 2 ≤ m.payload.length) ∧ (1 ≤ arg c 4 2) ∧ (arg c 4 2 ≤ 1018)) ∧ ∃ (l : List (Nat × Word)), (l = (List.range (arg c 4 2)).map (fun i => (arg c 0 4 + 4 * i, BitVec.ofNat 32 (arg c (8 + 4 * i) 4)))) ∧ ((regDenied c s (arg c 0 4) l.length true).1 = 0) ∧ (firstLocked s l (arg c 6 1 % 2 == 1) = none)) ∧
    (∃ (m : Msg) (z : State) (s : State) (c : Ctx), (s = rasterFirst z) ∧ (c = ctxOf 0x1202 m) ∧ ((served 0x1202 m s = true) ∧ (13 ≤ m.payload.length)) ∧ ∃ (w : Word), (w = mergeBits (arg c 4 4) (spaceRead s (arg c 0 4)) (BitVec.ofNat 32 (arg c 8 4))) ∧ ((regDenied c s (arg c 0 4) 1 true).1 = 0) ∧ (firstLocked s [(arg c 0 4, w)] (arg c 12 1 % 2 == 1) = none)) :=
  ⟨⟨msg 0 0 (leBytes 4 4096), up, _, _, rfl, rfl, by decide +kernel⟩,
    ⟨msg 0 0 (leBytes 4 0 ++ [0, 1, 0, 0] ++ leBytes 4 0 ++ leBytes 4 0 ++ leBytes 4 7), { (regs [(Reg.FW_STATE, 2)] up) with fw := { up.fw with owner := some (0, 0), size := 4096 } }, _, _, rfl, rfl, by decide +kernel⟩,
    ⟨msg 0 0, { (regs [(Reg.FW_STATE, 2)] up) with fw := { up.fw with owner := some (0, 0), size := 4096 } }, _, _, rfl, rfl, by decide +kernel⟩,
    ⟨msg 0 0, { (regs [(Reg.FW_STATE, 6)] up) with fw := { up.fw with owner := some (0, 0), size := 4096 } }, _, _, rfl, rfl, by decide +kernel⟩,
    ⟨msg 0 0, { (regs [(Reg.FW_STATE, 2)] up) with fw := { up.fw with owner := some (0, 0), size := 4096 } }, _, _, rfl, rfl, by decide +kernel⟩,
    ⟨msg 0 0 (leBytes 4 327776 ++ leBytes 2 1 ++ leBytes 2 0 ++ leBytes 4 5), up, _, _, rfl, rfl, by decide +kernel, _, rfl, by decide +kernel⟩,
    ⟨msg 0 0 (leBytes 4 327776 ++ leBytes 4 15 ++ leBytes 4 5 ++ leBytes 1 0), up, _, _, rfl, rfl, by decide +kernel, _, rfl, by decide +kernel⟩⟩

/-- Premises of HostFramesAndRegisterWritesTakeEffect, clause by clause. -/
theorem wit_HostFramesAndRegisterWritesTakeEffect :
    (∃ (a : BitVec 24) (z : State) (s : State), (s = rasterFirst z) ∧ ((hostAnswers s = true) ∧ (s.host.frames = [])) ∧ ∃ (t : State), (t = (if hostReadsTime s a.toNat 1 none = true then latchTime s else s)) ∧ (hostFault t a.toNat a.toNat false = 0)) ∧
    (∃ (ecc : Bool) (z : State) (s : State), (s = rasterFirst z) ∧ (hostAnswers s = true)) ∧
    (∃ (a : Option (BitVec 24)) (ecc : Bool) (z : State) (s : State), (s = rasterFirst z) ∧ (hostAnswers s = false)) ∧
    (∃ (a : BitVec 24) (n : Nat) (z : State) (s : State), (s = rasterFirst z) ∧ ((hostAnswers s = true) ∧ (n ≤ 256) ∧ (s.host.frames = [])) ∧ ∃ (t : State), (t = (if hostReadsTime s a.toNat n none = true then latchTime s else s)) ∧ ((hostWords t a.toNat none n 0).2 = 0)) ∧
    (∃ (a : BitVec 24) (d : List Byte) (s : State), (hostAnswers s = true) ∧ (d.length = 4) ∧ (hostPosted s + 1 ≤ 256)) ∧
    (∃ (a : BitVec 24) (d : List Byte) (s : State), (hostAnswers s = true) ∧ (d.length % 4 = 0) ∧ (1 ≤ d.length) ∧ (d.length ≤ 1024) ∧ (hostPosted s + d.length / 4 ≤ 256)) ∧
    (∃ (n : Nat) (s : State), (hostAnswers s = true)) ∧
    (∃ (op : Byte) (s : State), (hostAnswers s = true) ∧ (op.toNat ∉ hostOpcodes)) ∧
    (∃ (s : State), (hostAnswers s = true)) ∧
    (∃ (z : State) (s : State), (s = rasterFirst z) ∧ ∃ (f : HFrame) (r : List HFrame), (s.host.frames = f :: r) ∧ (hostWordCode s f (f.addr + 4 * f.applied) (f.words.getD f.applied 0) = 0) ∧ (f.applied + 1 < f.words.length)) ∧
    (∃ (s : State), ∃ (f : HFrame) (r : List HFrame), (s.host.frames = f :: r)) ∧
    (∃ (a : BitVec 22) (w : Word) (z : State) (s : State), (s = rasterFirst z) ∧ ((regRow (a.toNat * 4)).isSome = true) ∧ (movesLookahead s (a.toNat * 4) w = false) ∧ (changesOwned s (a.toNat * 4) w = true → s.bit Reg.TOP_HOST_CFG 0 = true)) ∧
    (∃ (a : BitVec 22) (w : Word) (z : State) (s : State), (s = rasterFirst z) ∧ ∃ (e : Nat × Nat × Nat), (windowOf (a.toNat * 4) = some e) ∧ ((e.2.2 = 0 ∧ a.toNat * 4 < 0x30E000) ∨ (e.2.2 = 3 ∧ bankUsed s Reg.BEAM_GRID_BANK 0 ((a.toNat * 4 - e.1) / 0x2000) = false))) ∧
    (∃ (a : BitVec 22) (w : Word) (z : State) (s : State), (s = rasterFirst z) ∧ ∃ (e : Nat × Nat × Nat), (windowOf (a.toNat * 4) = some e) ∧ (e.2.2 = 1) ∧ (bankUsed s Reg.CMP_LUT_BANK ((a.toNat * 4 - e.1) / 0x2000 / 2) ((a.toNat * 4 - e.1) / 0x2000 % 2) = true)) ∧
    (∃ (k : Fin 6) (w : Word) (z : State) (s : State), (s = rasterFirst z) ∧ (basesOk (basesWith s (tableBases.getD k.val (0, 0)).1 w) = true)) ∧
    (∃ (k : Fin 6) (w : Word) (z : State) (s : State), (s = rasterFirst z) ∧ (basesOk (basesWith s (tableBases.getD k.val (0, 0)).1 w) = false)) ∧
    (∃ (a : BitVec 22) (w : Word) (z : State) (s : State), (s = rasterFirst z) ∧ (isCal (a.toNat * 4) = true)) ∧
    (∃ (n : Fin 8) (w : Word) (z : State) (s : State), (s = rasterFirst z) ∧ ((s.rd (Reg.CRC_CH_CTRL n.val)).getLsbD 0 = false) ∧ (w.getLsbD 0 = true) ∧ (chSettingsOk (s.swWrite (Reg.CRC_CH_CTRL n.val) (setFld w 0 1 0)) n.val = true)) ∧
    (∃ (n : Fin 8) (w : Word) (z : State) (s : State), (s = rasterFirst z) ∧ ((s.rd (Reg.CRC_CH_CTRL n.val)).getLsbD 0 = false) ∧ (w.getLsbD 0 = true) ∧ (chSettingsOk (s.swWrite (Reg.CRC_CH_CTRL n.val) (setFld w 0 1 0)) n.val = false)) ∧
    (∃ (n : Fin 8) (s : State), (chBusy s n.val = true)) ∧
    (∃ (n : Fin 16) (s : State), ∃ (t : Nat) (a : Nat) (v : Nat) (late : Option Nat) (u : State), ((s.pwr.state < 2) ∧ (sget (fun _ => none) s.ras.tact n.val = some (t, a, v, late))) ∧ (u = rasterFirst (s.advanceTo (ns16 (Int.ofNat (late.getD t))))) ∧ ((sget (fun _ => none) u.ras.tact n.val).isSome = true) ∧ (mapped a = true) ∧ (liveOf a = none) ∧ (windowOf a = none) ∧ (areaOff u a = false) ∧ (movesLookahead u a (BitVec.ofNat 32 v) = false)) :=
  ⟨⟨327776, up, _, rfl, by decide +kernel, _, rfl, by decide +kernel⟩,
    ⟨true, up, _, rfl, by decide +kernel⟩,
    ⟨(some 0), true, { up with pwr := { up.pwr with inReset := true } }, _, rfl, by decide +kernel⟩,
    ⟨327776, 2, up, _, rfl, by decide +kernel, _, rfl, by decide +kernel⟩,
    ⟨327776, [1, 2, 3, 4], up, by decide +kernel⟩,
    ⟨327776, [1, 2, 3, 4, 5, 6, 7, 8], up, by decide +kernel⟩,
    ⟨3, up, by decide +kernel⟩,
    ⟨0x77, up, by decide +kernel⟩,
    ⟨up, by decide +kernel⟩,
    ⟨{ up with host := { up.host with frames := [{ opcode := 0x13, addr := 327776, words := [5, 6] }] } }, _, rfl, { opcode := 0x13, addr := 327776, words := [5, 6] }, [], by decide +kernel⟩,
    ⟨{ up with host := { up.host with frames := [{ opcode := 0x13, addr := 327776, words := [5, 6] }] } }, { opcode := 0x13, addr := 327776, words := [5, 6] }, [], by decide +kernel⟩,
    ⟨81944, 5, up, _, rfl, by decide +kernel⟩,
    ⟨786436, 7, up, _, rfl, (0x300000, 0x310000, 0), by decide +kernel⟩,
    ⟨1048580, 7, up, _, rfl, (0x400000, 0x410000, 1), by decide +kernel⟩,
    ⟨0, 0, up, _, rfl, by decide +kernel⟩,
    ⟨0, 32, up, _, rfl, by decide +kernel⟩,
    ⟨295171, 0, up, _, rfl, by decide +kernel⟩,
    ⟨2, 0x1, up, _, rfl, by decide +kernel⟩,
    ⟨2, 7, up, _, rfl, by decide +kernel⟩,
    ⟨2, (regs [(Reg.CRC_CH_STATUS 2, 1)] up), by decide +kernel⟩,
    ⟨2, { up with ras := { up.ras with tact := [(2, some (70000, 327776, 5, none))] } }, 70000, 327776, 5, none, _, by decide +kernel, rfl, by decide +kernel⟩⟩

/-- Premises of MailboxTransportAndNetworkEventsTakeEffect, clause by clause. -/
theorem wit_MailboxTransportAndNetworkEventsTakeEffect :
    (∃ (n : Fin 8) (w : Word) (s : State), ∃ (t : State), (t = s.wf (Reg.MBX_MB_IN_SLUICE n.val) 0 13 (w.toNat % 8192)) ∧ (mbClass n.val ≠ 8) ∧ ((inAvail t n.val == 0) = false) ∧ (inComplete t n.val = true)) ∧
    (∃ (n : Fin 8) (w : Word) (s : State), (mbClass n.val ≠ 8)) ∧
    (∃ (z : State) (s : State), (s = rasterFirst z) ∧ ∃ (e : Nat × Nat × Nat × Nat) (t : State) (u : State) (m : Msg) (code : Nat), (m = msgAtHead s e.2.1 e.2.2.2) ∧ (code = hdr s e.2.1 0 2) ∧ ((s.bit Reg.MBX_STATUS 0 = false) ∧ (3 ≤ stage s) ∧ (s.pwr.quiesced = false) ∧ (nextSample s = some e) ∧ (inComplete s e.2.1 = true) ∧ (m.payload.length ≤ mbLimit e.2.1) ∧ (headCrcOk s e.2.1 m = true)) ∧ (t = (consume e.2.1 (ringSize m.payload.length) s).count (Reg.MBX_MB_CNT_RX e.2.1)) ∧ (lastAlive t m.mb.val m.client ≠ some m.alive) ∧ (u = aliveSeen m.mb.val m.client m.alive t) ∧ (chanAt u 2 5 m.mb.val = none) ∧ ((m.flags.toNat / 16 != 0 || m.flags.getLsbD 0 || m.flags.getLsbD 1) = false) ∧ (denied u code m = false)) ∧
    (∃ (n : Fin 8) (s : State), ∃ (h : Held) (l : List Held), (mbPaused s = false) ∧ (s.mbx.held = h :: l) ∧ (s.mbx.held.filter (·.mb == n.val) = [h]) ∧ (ringSize (h.payload.length + protectExtra s n.val) ≤ outFree s n.val)) ∧
    (∃ (n : Fin 16) (s : State), ∃ (d : Timed) (t : State), ((s.mbx.timed[n.val]? = some d) ∧ (s.bit Reg.MBX_STATUS 0 = false) ∧ (s.pwr.quiesced = false)) ∧ (t = rasterFirst (if timedOnRaster d.ctx = true then s else s.advanceTo (ns16 (Int.ofNat d.t)))) ∧ (t.mbx.timed[n.val]? = some d) ∧ (t.bit Reg.MBX_STATUS 0 = false) ∧ (timedReady t d.ctx d.t = true) ∧ (t.pwr.stopped = false)) ∧
    (∃ (fid : BitVec 12) (bytes : List Byte) (s : State), ∃ (f : Fwd), ((s.mbx.fwd.find? fun x => (x.dest == fid.toNat || x.dest == 0xFFF) && x.seq == leAt bytes 4 2) = some f) ∧ (((bytes.drop 16).take (leAt bytes 6 2)).length + protectExtra s f.mb ≤ mbLimit f.mb)) ∧
    (∃ (m : Fin 2) (s : State), ∃ (a : Assembly), (mbxAsm s m.val = some a)) ∧
    (∃ (m : Fin 2) (s : State), ∃ (a : Assembly), (beamAsm s m.val = some a)) ∧
    (∃ (code : BitVec 16) (obj : BitVec 16) (s : State), ∃ (l : Load), (loadOf s code.toNat obj.toNat = some l)) ∧
    (∃ (m : Fin 2) (speed : Fin 4) (a : Bool) (r : Bool) (g : Bool) (s : State), ((macOn s m.val = true) ∧ (s.bit (Reg.SDS_Q_STATUS (macLaneOf s m.val / 4)) 1 = true) ∧ (anUsed s m.val = true → a = true)) ∧ ∃ (t : State) (w : Nat), (t = (setStage 5 (macLaneOf s m.val) s).wb (Reg.SDS_LANE_STATE (macLaneOf s m.val)) 15 g) ∧ (w = 2 * macSpeed (setStage 5 (macLaneOf s m.val) s) m.val speed.val + (if (anUsed (setStage 5 (macLaneOf s m.val) s) m.val && a) = true then 8 else 0) + (if r = true then 16 else 0)) ∧ (t.bit (Reg.MAC_STATUS m.val) 0 = false)) ∧
    (∃ (m : Fin 2) (ps : Nat) (f : List Byte) (p : List Byte) (z : State) (s : State), (s = rasterFirst z) ∧ ∃ (t : State), (p = f.drop (typeAt f + 2)) ∧ (t = s.count (Reg.MAC_CNT_RX_OK m.val)) ∧ ((s.bit (Reg.MAC_CTRL m.val) 0 = true) ∧ (s.bit (Reg.MAC_STATUS m.val) 0 = true) ∧ (60 ≤ f.length) ∧ (f.length ≤ 1518)) ∧ (macAccepts s m.val (beAt f 0 6) = true) ∧ (beAt f (typeAt f) 2 = 0x0806) ∧ (p.take 8 = [0, 1, 8, 0, 6, 4, 0, 1]) ∧ (beAt p 24 4 = (t.rd (Reg.MAC_IP m.val)).toNat)) ∧
    (∃ (m : Fin 2) (id : BitVec 29) (x : Bool) (fl : Fin 8) (d : List Byte) (z : State) (s : State), (s = rasterFirst z) ∧ ((canOn s m.val = true) ∧ (canRefused s m.val fl.val = false)) ∧ ∃ (b : Nat) (t : State) (u : State), (t = canGoodRx m.val (s.count (Reg.CAN_CNT_RX m.val))) ∧ ((((List.range 64).find? fun b => canBufMatches t m.val b id.toNat x) = some b) ∧ (t.bit (Reg.CAN_MB_STATUS m.val b) 0 = false) ∧ (chanAt t 2 (1 + m.val) b = none)) ∧ (u = ({ t with net := { t.net with canBuf := sput (fun _ => []) t.net.canBuf (64 * m.val + b) d } }.wb (Reg.CAN_MB_STATUS m.val b) 0 true).wf
          (Reg.CAN_MB_STATUS m.val b) 2 7 (canDlc d.length + 16 * fl.val)) ∧ (canIdIs (u.rd (Reg.CAN_MBX_ID_RX m.val)) id.toNat x = false) ∧ (canIdIs (u.rd Reg.BEAM_CAN_ID) id.toNat x = false)) ∧
    (∃ (m : Fin 2) (tec : BitVec 9) (rec : BitVec 9) (s : State), (canOn s m.val = true) ∧ (tec.toNat ≤ 255)) ∧
    (∃ (m : Fin 2) (tec : BitVec 9) (rec : BitVec 9) (s : State), (canOn s m.val = true) ∧ (255 < tec.toNat)) ∧
    (∃ (m : Fin 2) (s : State), (s.bit (Reg.CAN_CTRL m.val) 4 = false) ∧ (s.fd (Reg.CAN_STATUS m.val) 0 2 = 2)) ∧
    (∃ (m : Fin 2) (z : State) (s : State), (s = rasterFirst z) ∧ (s.fd (Reg.CAN_STATUS m.val) 0 2 = 2)) :=
  ⟨⟨0, 16, up, _, rfl, by decide +kernel⟩,
    ⟨0, 16, up, by decide +kernel⟩,
    ⟨inbox, _, rfl, (0, 0, 0, 0), _, _, _, _, rfl, rfl, by decide +kernel, rfl, by decide +kernel, rfl, by decide +kernel⟩,
    ⟨2, { up with mbx := { up.mbx with held := [{ mb := 2, client := 0, cmd := 0x0001, flags := 0, seq := 4, target := 0, payload := [] }] } }, { mb := 2, client := 0, cmd := 0x0001, flags := 0, seq := 4, target := 0, payload := [] }, [], by decide +kernel⟩,
    ⟨2, { up with mbx := { up.mbx with timed := [{ t := 9, tol := 5, ctx := { code := 0x0101, m := msg 0 0 } }, { t := 9, tol := 5, ctx := { code := 0x0101, m := msg 0 0 } }, { t := 0, tol := 5, ctx := { code := 0x0101, m := msg 0 0, timed := true } }] } }, { t := 0, tol := 5, ctx := { code := 0x0101, m := msg 0 0, timed := true } }, _, by decide +kernel, rfl, by decide +kernel⟩,
    ⟨9, (leBytes 4 0 ++ leBytes 2 7 ++ leBytes 10 0), { up with mbx := { up.mbx with fwd := [{ dest := 9, seq := 7, mb := 2, client := 0, origSeq := 3 }] } }, { dest := 9, seq := 7, mb := 2, client := 0, origSeq := 3 }, by decide +kernel⟩,
    ⟨1, { up with mbx := { up.mbx with asm := [(1, some { start := 0, nfrag := 3, next := 1, alive := 4, bytes := [1] })] } }, { start := 0, nfrag := 3, next := 1, alive := 4, bytes := [1] }, by decide +kernel⟩,
    ⟨1, { up with beam := { up.beam with asm := [(1, some { start := 0, nfrag := 3, next := 1, alive := 4, bytes := [1] })] } }, { start := 0, nfrag := 3, next := 1, alive := 4, bytes := [1] }, by decide +kernel⟩,
    ⟨0x0503, 4, { up with loads := [{ code := 0x0503, obj := 4, size := 8, got := [], extra := [] }] }, { code := 0x0503, obj := 4, size := 8, got := [], extra := [] }, by decide +kernel⟩,
    ⟨1, 2, true, true, true, (regs [(Reg.MAC_CTRL 1, 1 + 4 * 8), (Reg.SDS_Q_CFG 1, 3), (Reg.SDS_Q_STATUS 1, 2)] up), by decide +kernel, _, _, rfl, rfl, by decide +kernel⟩,
    ⟨1, 0, (beBytes 6 0xFFFFFFFFFFFF ++ beBytes 6 5 ++ beBytes 2 0x0806 ++ [0, 1, 8, 0, 6, 4, 0, 1] ++ List.replicate 6 1 ++ beBytes 4 9 ++ List.replicate 6 0 ++ beBytes 4 0 ++ List.replicate 18 0), _, (regs [(Reg.MAC_CTRL 1, 1), (Reg.MAC_STATUS 1, 1)] up), _, rfl, _, rfl, rfl, by decide +kernel, (mac_wit _ _ _ (by decide +kernel)), by decide +kernel⟩,
    ⟨1, 0x123, false, 0, [1, 2], (regs [(Reg.CAN_CTRL 1, 1), (Reg.CAN_MB_CFG 1 3, 0x80000123), (Reg.CAN_MB_MASK 1 3, 0x7FF), (Reg.CAN_MBX_ID_RX 1, 0x55), (Reg.BEAM_CAN_ID, 0x66)] up), _, rfl, by decide +kernel, 3, _, _, rfl, by decide +kernel, rfl, by decide +kernel⟩,
    ⟨1, 100, 0, (regs [(Reg.CAN_CTRL 1, 1)] up), by decide +kernel⟩,
    ⟨1, 256, 0, (regs [(Reg.CAN_CTRL 1, 1)] up), by decide +kernel⟩,
    ⟨1, (regs [(Reg.CAN_STATUS 1, 2)] up), by decide +kernel⟩,
    ⟨1, (regs [(Reg.CAN_STATUS 1, 2)] up), _, rfl, by decide +kernel⟩⟩

/-- Premises of RasterTimeEventsTakeEffect, clause by clause. -/
theorem wit_RasterTimeEventsTakeEffect :
    (∃ (s : State), ∃ (r : State) (b : State) (t : State), ((s.ras.ahead ≠ some s.tickNs) ∧ (rasOn s = true) ∧ ((s.ras.armed || s.ras.ran) = true)) ∧ (r = afterBy (State.tickOf s.ras.p0Next) s) ∧ ((rasOn r = true) ∧ ((r.ras.armed || r.ras.ran) = true)) ∧ (b = renderCutoff (blankingStart r)) ∧ (t = rasterP0 (when (!b.ras.ran) captureAll (forEach (List.range 8) (fun c t => if (t.crcCh c).fresh = true then t.modCrcCh c fun x => { x with fresh := false } else t) b))) ∧ (t.pwr.stopped = true)) ∧
    (∃ (s : State), ∃ (r : State) (b : State) (t : State) (u : State) (mute : Bool), ((s.ras.ahead ≠ some s.tickNs) ∧ (rasOn s = true) ∧ ((s.ras.armed || s.ras.ran) = true)) ∧ (r = afterBy (State.tickOf s.ras.p0Next) s) ∧ ((rasOn r = true) ∧ ((r.ras.armed || r.ras.ran) = true)) ∧ (b = renderCutoff (blankingStart r)) ∧ (t = rasterP0 (when (!b.ras.ran) captureAll (forEach (List.range 8) (fun c t => if (t.crcCh c).fresh = true then t.modCrcCh c fun x => { x with fresh := false } else t) b))) ∧ (t.pwr.stopped = false) ∧ (u = forEach (List.range 32) dropSegCmds t) ∧ (mute = (!b.ras.ran || u.pwr.halted))) ∧
    (∃ (s : State), ∃ (t : State), ((s.ras.ran = true) ∧ (s.ras.inBlank = false)) ∧ (t = (when (decide (cutoffAt s ≤ blankAt s)) renderCutoff s).advanceTo (blankAt s)) ∧ (t.pwr.stopped = true)) ∧
    (∃ (s : State), ∃ (t : State) (c : State), ((s.ras.ran = true) ∧ (s.ras.inBlank = false)) ∧ (t = (when (decide (cutoffAt s ≤ blankAt s)) renderCutoff s).advanceTo (blankAt s)) ∧ (t.pwr.stopped = false) ∧ (c = captureAll (blankChecks t))) ∧
    (∃ (s : State), ∃ (t : State) (u : State), ((s.ras.ran = true) ∧ (s.beam.cutDone = false)) ∧ (t = s.advanceTo (cutoffAt s)) ∧ (u = { t with beam := { t.beam with fixed := t.beam.cur, fresh := false, cutDone := true } }) ∧ ((u.beam.la && speculative u) = false)) ∧
    (∃ (s : State), ∃ (t : State) (u : State) (r : RTab), ((s.ras.ran = true) ∧ (s.beam.cutDone = false)) ∧ (t = s.advanceTo (cutoffAt s)) ∧ (u = { t with beam := { t.beam with fixed := t.beam.cur, fresh := false, cutDone := true } }) ∧ ((u.beam.la && speculative u) = true) ∧ ((u.beam.ready.orElse fun _ => u.beam.prep) = some r)) ∧
    (∃ (s : State), ∃ (t : RTab), (s.beam.prep = some t)) ∧
    (∃ (at10 : Nat) (z : State) (s : State), (s = rasterFirst z) ∧ ∃ (e : Int), ((onSyncIn s = true) ∧ (syncPolarity s true = true) ∧ (s.ras.ran = true) ∧ (s.bit Reg.RAS_STATUS 3 = false) ∧ (s.ras.edgeUsed = false)) ∧ (e = syncError s (ns16 (at10 * 10))) ∧ (-(syncWin s) ≤ e) ∧ (e ≤ syncWin s)) ∧
    (∃ (at10 : Nat) (z : State) (s : State), (s = rasterFirst z) ∧ ∃ (e : Int), ((onSyncIn s = true) ∧ (syncPolarity s false = true) ∧ (s.ras.ran = true) ∧ (s.bit Reg.RAS_STATUS 3 = false)) ∧ (e = syncError s (ns16 (at10 * 10))) ∧ (syncWin s < e ∨ e < -(syncWin s))) ∧
    (∃ (r : Bool) (at10 : Nat) (z : State) (s : State), (s = rasterFirst z) ∧ (onSyncIn s = true) ∧ (syncPolarity s r = true) ∧ (s.ras.ran = true) ∧ (s.bit Reg.RAS_STATUS 3 = true)) ∧
    (∃ (s : State), (onSyncIn s = true) ∧ (s.bit Reg.RAS_STATUS 3 = false) ∧ (0 < s.ras.missRun) ∧ (s.fd Reg.RAS_SYNC_LOSS_LIMIT 0 4 ≤ s.ras.missRun)) ∧
    (∃ (s : State), ∃ (t : State), ((s.bit Reg.RAS_SYNC_OUT 31 = true) ∧ (rasOn s = true) ∧ (s.ras.ran = true) ∧ (s.ras.syncOutDone = false)) ∧ (t = syncLevel true (syncRise s) (s.advanceTo (syncRise s)))) ∧
    (∃ (s : State), ∃ (t : Int), (s.ras.syncFall = some t)) ∧
    (∃ (r : Bool) (at10 : Nat) (z : State) (s : State), (s = rasterFirst z) ∧ ∃ (d : Int) (t : State), (((r == s.bit Reg.SLK_TE_CFG 16) = false) ∧ (s.ras.ran = true) ∧ (s.pwr.stopped = false) ∧ (s.ras.teDone = false)) ∧ (d = ns16 (at10 * 10) - s.ras.p0At) ∧ ((0 ≤ d) ∧ (d ≤ teWin s)) ∧ (t = s.wr Reg.SLK_TE_OFFSET (BitVec.ofInt 32 (d / 65536)))) ∧
    (∃ (r : Bool) (at10 : Nat) (z : State) (s : State), (s = rasterFirst z) ∧ ∃ (d : Int) (t : State), (((r == s.bit Reg.SLK_TE_CFG 16) = false) ∧ (s.ras.ran = true) ∧ (s.pwr.stopped = false) ∧ (s.pwr.halted = false) ∧ (s.ras.teDone = true) ∧ (s.ras.teNext = false)) ∧ (d = s.ras.p0Next - ns16 (at10 * 10)) ∧ ((0 < d) ∧ (d ≤ teWin s)) ∧ (t = { s.wr Reg.SLK_TE_OFFSET (BitVec.ofInt 32 (-(d / 65536))) with ras := { s.ras with teNext := true } })) ∧
    (∃ (s : State), ∃ (t : State), ((s.ras.ran = true) ∧ (s.ras.teDone = false) ∧ ((s.rd Reg.SLK_TE_MASK == 0) = false) ∧ (s.pwr.stopped = false)) ∧ (t = (s.advanceTo (s.ras.p0At + teWin s)).count Reg.SLK_CNT_TE_MISS)) ∧
    (∃ (n : Fin 16) (z : State) (s : State), (s = rasterFirst z) ∧ ∃ (t : Nat), (t = (s.rd (Reg.RAS_TACT_TIME_HI n.val)).toNat * 2 ^ 32 + (s.rd (Reg.RAS_TACT_TIME_LO n.val)).toNat)) ∧
    (∃ (n : Fin 16) (z : State) (s : State), (s = rasterFirst z) ∧ (s.fd (Reg.RAS_TACT_CTRL n.val) 2 3 = 1)) ∧
    (∃ (z : State) (s : State), (s = rasterFirst z) ∧ (s.ras.commitCap = false)) ∧
    (∃ (z : State) (s : State), (s = rasterFirst z) ∧ (s.ras.commitCap = true)) ∧
    (∃ (z : State) (s : State), (s = rasterFirst z) ∧ (rasOn s = false)) ∧
    (∃ (z : State) (s : State), (s = rasterFirst z) ∧ (rasOn s = true)) :=
  ⟨⟨{ { (regs [(Reg.RAS_CTRL, 1)] up) with ras := { up.ras with ran := true } } with pwr := { up.pwr with stopped := true } }, _, _, _, by decide +kernel, rfl, by decide +kernel, rfl, rfl, by decide +kernel⟩,
    ⟨{ (regs [(Reg.RAS_CTRL, 1)] up) with ras := { up.ras with ran := true, inBlank := true, p0Next := 16666667 * 65536 } }, _, _, _, _, _, by decide +kernel, rfl, by decide +kernel, rfl, rfl, by decide +kernel, rfl, rfl⟩,
    ⟨{ { (regs [(Reg.RAS_CTRL, 1)] up) with ras := { up.ras with ran := true } } with pwr := { up.pwr with stopped := true } }, _, by decide +kernel, rfl, by decide +kernel⟩,
    ⟨{ (regs [(Reg.RAS_CTRL, 1)] up) with ras := { up.ras with ran := true } }, _, _, by decide +kernel, rfl, by decide +kernel, rfl⟩,
    ⟨{ (regs [(Reg.RAS_CTRL, 1)] up) with ras := { up.ras with ran := true } }, _, _, by decide +kernel, rfl, rfl, by decide +kernel⟩,
    ⟨{ { { (regs [(Reg.RAS_CTRL, 1)] up) with ras := { up.ras with ran := true, p0Next := 16666667 * 65536 } } with live := [] } with beam := { up.beam with la := true, prep := some { objs := [], spec := true } } }, _, _, { objs := [], spec := true }, by decide +kernel, rfl, rfl, by decide +kernel⟩,
    ⟨{ up with beam := { up.beam with prep := some { objs := [] } } }, { objs := [] }, by decide +kernel⟩,
    ⟨1666668, { { (regs [(Reg.RAS_CTRL, 1), (Reg.RAS_SYNC_WIN, 100)] up) with live := [(Reg.RAS_SOURCE, 1)] } with ras := { up.ras with ran := true, p0Next := 16666667 * 65536 } }, _, rfl, _, by decide +kernel, rfl, by decide +kernel⟩,
    ⟨200000, { { (regs [(Reg.RAS_CTRL, 1), (Reg.RAS_SYNC_WIN, 100)] up) with live := [(Reg.RAS_SOURCE, 5)] } with ras := { up.ras with ran := true, p0Next := 16666667 * 65536 } }, _, rfl, _, by decide +kernel, rfl, by decide +kernel⟩,
    ⟨true, 9, { { (regs [(Reg.RAS_CTRL, 1), (Reg.RAS_SYNC_WIN, 100), (Reg.RAS_STATUS, 8)] up) with live := [(Reg.RAS_SOURCE, 1)] } with ras := { up.ras with ran := true, p0Next := 16666667 * 65536 } }, _, rfl, by decide +kernel⟩,
    ⟨{ { (regs [(Reg.RAS_SYNC_LOSS_LIMIT, 2)] up) with live := [(Reg.RAS_SOURCE, 1)] } with ras := { up.ras with missRun := 2 } }, by decide +kernel⟩,
    ⟨{ (regs [(Reg.RAS_CTRL, 1), (Reg.RAS_SYNC_OUT, 0x81000010)] up) with ras := { up.ras with ran := true } }, _, by decide +kernel, rfl⟩,
    ⟨{ up with ras := { up.ras with syncFall := some 65536 } }, 65536, by decide +kernel⟩,
    ⟨true, 3, { (regs [(Reg.RAS_CTRL, 1), (Reg.SLK_TE_CFG, 100)] up) with ras := { up.ras with ran := true, p0Next := 16666667 * 65536 } }, _, rfl, _, _, by decide +kernel, rfl, by decide +kernel, rfl⟩,
    ⟨true, 1666660, { (regs [(Reg.RAS_CTRL, 1), (Reg.SLK_TE_CFG, 100)] up) with ras := { up.ras with ran := true, p0Next := 16666667 * 65536, teDone := true } }, _, rfl, _, _, by decide +kernel, rfl, by decide +kernel, rfl⟩,
    ⟨{ (regs [(Reg.SLK_TE_MASK, 4)] up) with ras := { up.ras with ran := true } }, _, by decide +kernel, rfl⟩,
    ⟨3, up, _, rfl, _, rfl⟩,
    ⟨3, (regs [(Reg.RAS_TACT_CTRL 3, 4)] up), _, rfl, by decide +kernel⟩,
    ⟨up, _, rfl, by decide +kernel⟩,
    ⟨{ up with ras := { up.ras with commitCap := true } }, _, rfl, by decide +kernel⟩,
    ⟨up, _, rfl, by decide +kernel⟩,
    ⟨(regs [(Reg.RAS_CTRL, 1)] up), _, rfl, by decide +kernel⟩⟩

/-- Premises of CommitCompositionAndFallbackEventsTakeEffect, clause by clause. -/
theorem wit_CommitCompositionAndFallbackEventsTakeEffect :
    (∃ (n : Fin 8) (z : State) (s : State), (s = rasterFirst z)) ∧
    (∃ (z : State) (s : State), (s = rasterFirst z) ∧ (s.crd Reg.CMP_CANVAS = none)) ∧
    (∃ (z : State) (s : State), (s = rasterFirst z) ∧ ((s.crd Reg.CMP_CANVAS).isSome = true)) ∧
    (∃ (z : State) (s : State), (s = rasterFirst z) ∧ (s.crd Reg.BEAM_PATTERN = none)) ∧
    (∃ (z : State) (s : State), (s = rasterFirst z) ∧ ((s.crd Reg.BEAM_PATTERN).isSome = true)) ∧
    (∃ (z : State) (s : State), (s = rasterFirst z) ∧ (s.crd Reg.CORR_CLAMP = none)) ∧
    (∃ (z : State) (s : State), (s = rasterFirst z) ∧ ((s.crd Reg.CORR_CLAMP).isSome = true)) ∧
    (∃ (z : State) (s : State), (s = rasterFirst z) ∧ (s.crd (Reg.POL_P_CFG 0) = none)) ∧
    (∃ (z : State) (s : State), (s = rasterFirst z) ∧ ((s.crd (Reg.POL_P_CFG 0)).isSome = true)) ∧
    (∃ (v : Bool) (z : State) (s : State), (s = rasterFirst z) ∧ (s.bit Reg.BEAM_CTRL 0 ≠ v)) ∧
    (∃ (n : Fin 8) (g : Fin 256) (r : Fin 4096) (k : Fin 4096) (s : State), (layEn s n.val = true) ∧ ((s.layer n.val).hidden = false) ∧ ((s.seg g.val).due = true) ∧ ((s.seg g.val).composed = false) ∧ (((s.layer n.val).under.any fun e => e.1 == g.val && e.2.1 == r.val) = false)) ∧
    (∃ (g : Fin 256) (s : State), ∃ (o : List LampOut) (t : State) (u : State), (composing s g.val = true) ∧ (o = segOut s g.val) ∧ (t = composedLamps 4096 g.val o (takeCodes g.val o (lineNow (g.val / 8) s))) ∧ (u = t.modSeg g.val fun x => { x with composed := true, fbDone := showsFallback s, signed := x.signed || !(showsFallback s), rowsOut := 0, stopped := false })) ∧
    (∃ (n : Fin 64) (s : State), (polEn s n.val = true) ∧ ((s.polder n.val).checked = false) ∧ (s.bit Reg.POL_FB_STATUS 0 = false) ∧ (s.ras.ran = true) ∧ (s.ras.inBlank = false) ∧ (footComplete s n.val = true) ∧ (footSegs s n.val ≠ [])) ∧
    (∃ (n : Fin 64) (x : Word) (s : State), ∃ (t : State) (u : State), ((polEn s n.val = true) ∧ (s.lf (Reg.POL_P_CFG n.val) 12 4 ≤ (s.polder n.val).run) ∧ (0 < (s.polder n.val).run) ∧ ((s.polder n.val).acted = false) ∧ (s.bit Reg.POL_FB_STATUS 0 = false)) ∧ (t = (s.modPolder n.val fun x => { x with acted := true }).count (Reg.POL_P_CNT_MISMATCH n.val)) ∧ (u = t.event 0x0080 9 3 6 n.val (det 4 (t.rd (Reg.POL_P_SIG n.val)).toNat ++ det 4 x.toNat ++ det 4 t.ras.nextFrame.toNat))) ∧
    (∃ (k : Fin 4) (z : State) (s : State), (s = rasterFirst z) ∧ ∃ (t : State), (showsFallback s = false) ∧ (t = s.wr Reg.POL_FB_STATUS (BitVec.ofNat 32 (2 + 6 * 256)))) ∧
    (∃ (k : Fin 4) (z : State) (s : State), (s = rasterFirst z) ∧ (showsFallback s = true)) ∧
    (∃ (z : State) (s : State), (s = rasterFirst z) ∧ (clearRefused s = false)) ∧
    (∃ (z : State) (s : State), (s = rasterFirst z) ∧ (clearRefused s = true)) ∧
    (∃ (n : Fin 8) (s : State), ∃ (p : Nat) (t : State) (u : State), ((layEn s n.val = true) ∧ ((s.layer n.val).policy = 0) ∧ (s.bit (Reg.CMP_LAYER_STATUS n.val) 3 = true) ∧ (s.lf (Reg.CMP_LAYER_MISS n.val) 0 8 ≤ s.fd (Reg.CMP_LAYER_STATUS n.val) 8 8)) ∧ (p = layerPolicy s n.val) ∧ (t = ((s.modLayer n.val fun x => { x with policy := p }).wb (Reg.CMP_LAYER_STATUS n.val) 4 true).count (Reg.CMP_LAYER_CNT_POLICY n.val)) ∧ (u = t.event 0x0040 4 1 clsLayer n.val [p - 1])) ∧
    (∃ (n : Fin 8) (s : State), ∃ (f : Nat) (b : Nat) (k : Nat) (r : List (Nat × Nat × Nat)) (t : State) (u : State), (((s.layer n.val).retire = (f, b, k) :: r) ∧ (afterScan s n.val f b = false)) ∧ (t = s.modLayer n.val fun x => { x with retire := r }) ∧ (u = (t.wr (Reg.CMP_LAYER_RETIRED_BUF n.val) (BitVec.ofNat 32 (f + 256 * b))).wr (Reg.CMP_LAYER_RETIRED_FRAME n.val) (BitVec.ofNat 32 k))) :=
  ⟨⟨3, up, _, rfl⟩,
    ⟨up, _, rfl, by decide +kernel⟩,
    ⟨{ up with cap := [(Reg.CMP_CANVAS, some 0)] }, _, rfl, by decide +kernel⟩,
    ⟨up, _, rfl, by decide +kernel⟩,
    ⟨{ up with cap := [(Reg.BEAM_PATTERN, some 0)] }, _, rfl, by decide +kernel⟩,
    ⟨up, _, rfl, by decide +kernel⟩,
    ⟨{ up with cap := [(Reg.CORR_CLAMP, some 0)] }, _, rfl, by decide +kernel⟩,
    ⟨up, _, rfl, by decide +kernel⟩,
    ⟨{ up with cap := [((Reg.POL_P_CFG 0), some 0)] }, _, rfl, by decide +kernel⟩,
    ⟨true, up, _, rfl, by decide +kernel⟩,
    ⟨1, 5, 3, 2, { (up.modSeg 5 fun x => { x with due := true }) with live := [(Reg.CMP_LAYER_CTRL 1, 1)] }, by decide +kernel⟩,
    ⟨5, (regs [(Reg.SLK_LINK_STATE 0, 6)] ((up.modLink 0 fun x => { x with age := 1 }).modSeg 5 fun x => { x with due := true })), _, _, _, by decide +kernel, rfl, rfl, rfl⟩,
    ⟨3, { { ((up.modPolder 3 fun x => { x with foot := 1 }).modSeg 0 fun x => { x with signed := true }) with live := [(Reg.POL_P_CFG 3, 1)] } with ras := { up.ras with ran := true } }, by decide +kernel⟩,
    ⟨3, 9, { (up.modPolder 3 fun x => { x with run := 1 }) with live := [(Reg.POL_P_CFG 3, 4097)] }, _, _, by decide +kernel, rfl, rfl⟩,
    ⟨1, up, _, rfl, _, by decide +kernel, rfl⟩,
    ⟨1, (regs [(Reg.POL_FB_STATUS, 1)] up), _, rfl, by decide +kernel⟩,
    ⟨up, _, rfl, by decide +kernel⟩,
    ⟨(regs [(Reg.SUP_STATUS, 64)] up), _, rfl, by decide +kernel⟩,
    ⟨1, { (regs [(Reg.CMP_LAYER_STATUS 1, 2056)] up) with live := [(Reg.CMP_LAYER_CTRL 1, 1), (Reg.CMP_LAYER_MISS 1, 3)] }, _, _, _, by decide +kernel, rfl, rfl, rfl⟩,
    ⟨1, (up.modLayer 1 fun x => { x with retire := [(1, 2, 3)] }), 1, 2, 3, [], _, _, by decide +kernel, rfl, rfl⟩⟩

/-- Premises of SegmentLinkEventsTakeEffect, clause by clause. -/
theorem wit_SegmentLinkEventsTakeEffect :
    (∃ (n : Fin 32) (z : State) (s : State), (s = rasterFirst z) ∧ (s.bit (Reg.SLK_LINK_CTRL n.val) 0 = false) ∧ (linkState (s.wb (Reg.SLK_LINK_CTRL n.val) 0 true) n.val = 0)) ∧
    (∃ (n : Fin 32) (z : State) (s : State), (s = rasterFirst z) ∧ ∃ (t : State), (s.bit (Reg.SLK_LINK_CTRL n.val) 0 = true) ∧ (t = s.wb (Reg.SLK_LINK_CTRL n.val) 0 false) ∧ (linkState t n.val ≠ 0) ∧ (linkState t n.val ≠ 6)) ∧
    (∃ (n : Fin 32) (z : State) (s : State), (s = rasterFirst z) ∧ (linkState s n.val = 6)) ∧
    (∃ (n : Fin 32) (z : State) (s : State), (s = rasterFirst z) ∧ (linkState s n.val = 7)) ∧
    (∃ (w : Word) (z : State) (s : State), (s = rasterFirst z)) ∧
    (∃ (n : Fin 32) (s : State), (hbRuns s n.val = true)) ∧
    (∃ (n : Fin 32) (c : Byte) (s : State), ∃ (t : State), (echoWatched s n.val = true) ∧ (t = s.wf (Reg.SLK_LINK_HB n.val) 8 8 c.toNat) ∧ (c.toNat = t.fd (Reg.SLK_LINK_HB n.val) 0 8)) ∧
    (∃ (n : Fin 32) (c : Byte) (s : State), ∃ (t : State), (echoWatched s n.val = true) ∧ (t = s.wf (Reg.SLK_LINK_HB n.val) 8 8 c.toNat) ∧ (c.toNat ≠ t.fd (Reg.SLK_LINK_HB n.val) 0 8)) ∧
    (∃ (n : Fin 32) (s : State), (echoWatched s n.val = true)) ∧
    (∃ (n : Fin 32) (s : State), (linkState s n.val = 1) ∧ ((s.link n.val).waiting = false)) ∧
    (∃ (n : Fin 32) (s : State), (upAsleep s n.val = false) ∧ (s.bit (Reg.SLK_LINK_STATE n.val) 16 = true) ∧ (2 ≤ linkState s n.val) ∧ (linkState s n.val ≤ 5)) ∧
    (∃ (n : Fin 32) (s : State), (upAsleep s n.val = false) ∧ (s.bit (Reg.SLK_LINK_STATE n.val) 16 = true) ∧ (linkState s n.val = 6)) ∧
    (∃ (n : Fin 32) (s : State), (linkState s n.val = 2)) ∧
    (∃ (n : Fin 32) (r : TrainRsp) (s : State), ∃ (t : State) (u : State), ((linkState s n.val = 2) ∧ (0x10 ≤ r.protoRev.toNat) ∧ (r.protoRev.toNat ≤ 0x1F)) ∧ (t = (((s.wr (Reg.SLK_LINK_CAPS n.val) (0#8 ++ r.caps ++ r.present ++ r.protoRev)).wr (Reg.SLK_LINK_GEOM n.val) r.geom).wr (Reg.SLK_LINK_DRIVER_ID n.val) r.driverId).wr (Reg.SLK_LINK_PARTNER n.val) (r.f ++ r.ta)) ∧ ((t.link n.val).quick = false) ∧ (u = linkEnter n.val 3 (markSegs n.val r (t.modLink n.val fun l => { l with rtts := [] })))) ∧
    (∃ (n : Fin 32) (r : TrainRsp) (s : State), ∃ (t : State), ((linkState s n.val = 2) ∧ (r.protoRev.toNat < 0x10 ∨ 0x1F < r.protoRev.toNat)) ∧ (t = (((s.wr (Reg.SLK_LINK_CAPS n.val) (0#8 ++ r.caps ++ r.present ++ r.protoRev)).wr (Reg.SLK_LINK_GEOM n.val) r.geom).wr (Reg.SLK_LINK_DRIVER_ID n.val) r.driverId).wr (Reg.SLK_LINK_PARTNER n.val) (r.f ++ r.ta))) ∧
    (∃ (n : Fin 32) (w : BitVec 16) (s : State), ∃ (t : State), (linkState s n.val = 3) ∧ (t = s.modLink n.val fun l => { l with rtts := ((l.rtts ++ [w.toNat]).reverse.take 16).reverse }) ∧ ((t.link n.val).rtts.length = 16) ∧ ((t.link n.val).rtts.foldl max 0 ≤ (t.link n.val).rtts.foldl min ((t.link n.val).rtts.headD 0) + 2)) ∧
    (∃ (n : Fin 32) (tap : BitVec 7) (eye : Byte) (clean : Bool) (s : State), (linkState s n.val = 4) ∧ ((s.link n.val).calAgain = false) ∧ (calCheck s n.val (s.link n.val).heldTap [tap.toNat] eye.toNat clean = 0)) ∧
    (∃ (n : Fin 32) (s : State), (linkTraining s n.val = true) ∧ ((s.link n.val).waiting = false)) ∧
    (∃ (n : Fin 32) (s : State), (linkState s n.val = 1) ∧ ((s.link n.val).waiting = true)) ∧
    (∃ (n : Fin 32) (s : State), (linkState s n.val = 7)) ∧
    (∃ (n : Fin 32) (tag : Byte) (ty : Fin 16) (sub : Fin 8) (s : State), ∃ (p : OutPkt), (ty.val = 2) ∧ (answered s n.val tag 2 sub.val = some p)) ∧
    (∃ (n : Fin 32) (tag : Byte) (ty : Fin 16) (sub : Fin 8) (s : State), ∃ (p : OutPkt), (ty.val = 3) ∧ (answered s n.val tag 3 sub.val = some p)) ∧
    (∃ (n : Fin 32) (tag : Byte) (ty : Fin 16) (sub : Fin 8) (reason : Byte) (b : Bool) (s : State), ∃ (p : OutPkt) (k : Nat) (t : State), (k = (s.link n.val).naks + 1) ∧ (t = (s.count (Reg.SLK_LINK_CNT_NAK_RX n.val)).modLink n.val fun l => { l with naks := k }) ∧ (k ≠ t.fd Reg.SLK_NAK_LIMIT 0 8 + 1) ∧ (ty.val ≠ 1) ∧ (answered t n.val tag ty.val sub.val = some p) ∧ (reason.toNat ≠ 3) ∧ (reason.toNat ≠ 4)) ∧
    (∃ (n : Fin 32) (tag : Byte) (ty : Fin 16) (sub : Fin 8) (s : State), ∃ (p : OutPkt), (answered s n.val tag ty.val sub.val = some p)) ∧
    (∃ (g : Fin 256) (fn : Byte) (l : List Byte) (s : State), (reportsTaken s (g.val / 8) = true) ∧ ((reportSlot s g.val fn).isSome = true)) ∧
    (∃ (g : Fin 256) (fn : Byte) (row : Byte) (base : Byte) (l : List Byte) (s : State), (reportsTaken s (g.val / 8) = true) ∧ (reportSlot s g.val fn = some 0)) ∧
    (∃ (g : Fin 256) (fn : Byte) (mv : BitVec 16) (s : State), (reportsTaken s (g.val / 8) = true) ∧ (reportSlot s g.val fn = some 0)) ∧
    (∃ (g : Fin 256) (fn : Byte) (mv : BitVec 16) (s : State), (reportsTaken s (g.val / 8) = true) ∧ (reportSlot s g.val fn = none)) ∧
    (∃ (n : Fin 32) (fn : Byte) (l : List (BitVec 16)) (s : State), (reportsTaken s n.val = true) ∧ (fn = s.ras.frame.setWidth 8)) ∧
    (∃ (n : Fin 32) (x : BadFrame) (s : State), (hbRuns s n.val = true) ∧ (upAsleep s n.val = false) ∧ ((s.link n.val).waiting = false) ∧ (x.frame = [] ∨ upFault x.frame x.eop = 0)) ∧
    (∃ (n : Fin 32) (x : BadFrame) (s : State), (hbRuns s n.val = true) ∧ (upAsleep s n.val = false) ∧ ((s.link n.val).waiting = false) ∧ (x.frame ≠ []) ∧ (upFault x.frame x.eop = 2)) ∧
    (∃ (n : Fin 32) (x : BadFrame) (s : State), ∃ (k : Nat) (t : State), ((hbRuns s n.val = true) ∧ (upAsleep s n.val = false) ∧ ((s.link n.val).waiting = false) ∧ (x.frame ≠ []) ∧ (upFault x.frame x.eop = 1)) ∧ (k = ((s.countBy (Reg.SLK_LINK_CNT_CODE_ERR n.val) x.codeErrs).link n.val).crcErr + 1) ∧ (t = ((s.countBy (Reg.SLK_LINK_CNT_CODE_ERR n.val) x.codeErrs).count (Reg.SLK_LINK_CNT_CRC_RX n.val)).modLink n.val fun l => { l with crcErr := k })) ∧
    (∃ (g : Fin 256) (s : State), (segState s g.val = 3) ∧ ((s.seg g.val).holdLeft = 0)) :=
  ⟨⟨3, up, _, rfl, by decide +kernel⟩,
    ⟨3, (regs [(Reg.SLK_LINK_CTRL 3, 1), (Reg.SLK_LINK_STATE 3, 2)] up), _, rfl, _, by decide +kernel, rfl, by decide +kernel⟩,
    ⟨3, (regs [(Reg.SLK_LINK_STATE 3, 6)] up), _, rfl, by decide +kernel⟩,
    ⟨3, (regs [(Reg.SLK_LINK_STATE 3, 7)] up), _, rfl, by decide +kernel⟩,
    ⟨5, up, _, rfl⟩,
    ⟨3, (regs [(Reg.SLK_LINK_STATE 3, 6)] up), by decide +kernel⟩,
    ⟨3, 7, (regs [(Reg.SLK_LINK_STATE 3, 6), (Reg.SLK_LINK_HB 3, 7)] up), _, by decide +kernel, rfl, by decide +kernel⟩,
    ⟨3, 8, (regs [(Reg.SLK_LINK_STATE 3, 6), (Reg.SLK_LINK_HB 3, 7)] up), _, by decide +kernel, rfl, by decide +kernel⟩,
    ⟨3, (regs [(Reg.SLK_LINK_STATE 3, 6)] up), by decide +kernel⟩,
    ⟨3, (regs [(Reg.SLK_LINK_STATE 3, 1)] up), by decide +kernel⟩,
    ⟨3, (regs [(Reg.SLK_LINK_STATE 3, 65539)] up), by decide +kernel⟩,
    ⟨3, (regs [(Reg.SLK_LINK_STATE 3, 65542)] up), by decide +kernel⟩,
    ⟨3, (regs [(Reg.SLK_LINK_STATE 3, 2)] up), by decide +kernel⟩,
    ⟨3, { tag := 1, protoRev := 0x10, present := 1, caps := 0, ta := 0, f := 0, geom := 0, driverId := 0 }, (regs [(Reg.SLK_LINK_STATE 3, 2)] up), _, _, by decide +kernel, rfl, by decide +kernel, rfl⟩,
    ⟨3, { tag := 1, protoRev := 0x20, present := 1, caps := 0, ta := 0, f := 0, geom := 0, driverId := 0 }, (regs [(Reg.SLK_LINK_STATE 3, 2)] up), _, by decide +kernel, rfl⟩,
    ⟨3, 7, (regs [(Reg.SLK_LINK_STATE 3, 3)] (up.modLink 3 fun l => { l with rtts := List.replicate 15 6 })), _, by decide +kernel, rfl, by decide +kernel⟩,
    ⟨3, 5, 200, true, (regs [(Reg.SLK_LINK_STATE 3, 4)] up), by decide +kernel⟩,
    ⟨3, (regs [(Reg.SLK_LINK_STATE 3, 3)] up), by decide +kernel⟩,
    ⟨3, (regs [(Reg.SLK_LINK_STATE 3, 1)] (up.modLink 3 fun l => { l with waiting := true })), by decide +kernel⟩,
    ⟨3, (regs [(Reg.SLK_LINK_STATE 3, 7)] up), by decide +kernel⟩,
    ⟨3, 5, 2, 1, (up.modLink 3 fun l => { l with outst := [{ tag := 5, ty := 2, sub := 1, flags := 0, payload := [] }] }), { tag := 5, ty := 2, sub := 1, flags := 0, payload := [] }, by decide +kernel⟩,
    ⟨3, 5, 3, 1, (up.modLink 3 fun l => { l with outst := [{ tag := 5, ty := 3, sub := 1, flags := 0, payload := [] }] }), { tag := 5, ty := 3, sub := 1, flags := 0, payload := [] }, by decide +kernel⟩,
    ⟨3, 5, 3, 1, 1, true, (up.modLink 3 fun l => { l with outst := [{ tag := 5, ty := 3, sub := 1, flags := 0, payload := [] }] }), { tag := 5, ty := 3, sub := 1, flags := 0, payload := [] }, _, _, rfl, rfl, by decide +kernel⟩,
    ⟨3, 5, 3, 1, (up.modLink 3 fun l => { l with outst := [{ tag := 5, ty := 3, sub := 1, flags := 0, payload := [] }] }), { tag := 5, ty := 3, sub := 1, flags := 0, payload := [] }, by decide +kernel⟩,
    ⟨24, 0, [], (regs [(Reg.SLK_LINK_STATE 3, 6)] (up.modSeg 24 fun x => { x with lit0 := some default })), by decide +kernel⟩,
    ⟨24, 0, 0, 0, [1, 2], (regs [(Reg.SLK_LINK_STATE 3, 6)] (up.modSeg 24 fun x => { x with lit0 := some default })), by decide +kernel⟩,
    ⟨24, 0, 0, (regs [(Reg.SLK_LINK_STATE 3, 6)] (up.modSeg 24 fun x => { x with lit0 := some default })), by decide +kernel⟩,
    ⟨24, 9, 0, (regs [(Reg.SLK_LINK_STATE 3, 6)] up), by decide +kernel⟩,
    ⟨3, 0, [], (regs [(Reg.SLK_LINK_STATE 3, 6)] up), by decide +kernel⟩,
    ⟨3, { frame := [], eop := true, codeErrs := 1 }, (regs [(Reg.SLK_LINK_STATE 3, 6)] up), by decide +kernel⟩,
    ⟨3, { frame := slkFrame 5 0 0 [], eop := true, codeErrs := 0 }, (regs [(Reg.SLK_LINK_STATE 3, 6)] up), by decide +kernel⟩,
    ⟨3, { frame := [1], eop := true, codeErrs := 0 }, (regs [(Reg.SLK_LINK_STATE 3, 6)] up), _, _, by decide +kernel, rfl, rfl⟩,
    ⟨24, (regs [(Reg.SLK_LINK_SEGSTATE 3, 3)] up), by decide +kernel⟩⟩

/-- Premises of StreamAndLaneEventsTakeEffect, clause by clause. -/
theorem wit_StreamAndLaneEventsTakeEffect :
    (∃ (n : Fin 4) (sfn : BitVec 16) (w : BitVec 16) (h : BitVec 16) (f : Byte) (ts : Word) (p : Word) (z : State) (s : State), (s = rasterFirst z) ∧ ∃ (t : State) (x : Nat) (b : Nat), (strTakes s n.val = true) ∧ (t = strAbandon n.val s) ∧ (x = strSurf t n.val) ∧ ((!(surfValid t x) || surfW t x != w.toNat || surfH t x != h.toNat || surfFmt t x != f.toNat) = false) ∧ (writeBuf (t.wb (Reg.SDS_STR_STATUS n.val) 3 false) x = some b)) ∧
    (∃ (n : Fin 4) (sfn : BitVec 16) (w : BitVec 16) (h : BitVec 16) (f : Byte) (ts : Word) (p : Word) (z : State) (s : State), (s = rasterFirst z) ∧ ∃ (t : State) (x : Nat), (strTakes s n.val = true) ∧ (t = strAbandon n.val s) ∧ (x = strSurf t n.val) ∧ ((!(surfValid t x) || surfW t x != w.toNat || surfH t x != h.toNat || surfFmt t x != f.toNat) = true)) ∧
    (∃ (n : Fin 4) (sfn : BitVec 16) (ln : BitVec 16) (f : Byte) (w : BitVec 16) (px : List Byte) (z : State) (s : State), (s = rasterFirst z) ∧ (strTakes s n.val = true) ∧ ((s.str n.val).skip = false) ∧ (strOpen s n.val = true) ∧ (sfn.toNat = (s.str n.val).sfn) ∧ (f.toNat = (s.str n.val).fmt) ∧ (w.toNat = (s.str n.val).width) ∧ (ln.toNat < (s.str n.val).height) ∧ (px.length = w.toNat * fmtBytes f.toNat)) ∧
    (∃ (n : Fin 4) (sfn : BitVec 16) (ln : BitVec 16) (ts : Word) (z : State) (s : State), (s = rasterFirst z) ∧ ∃ (t : State), ((strTakes s n.val = true) ∧ ((s.str n.val).skip = false) ∧ (strOpen s n.val = true) ∧ (sfn.toNat = (s.str n.val).sfn) ∧ ((s.str n.val).height ≤ (s.str n.val).lines.length)) ∧ (t = ((((s.wb (Reg.SDS_STR_STATUS n.val) 1 false).count (Reg.SDS_STR_CNT_FRAMES n.val)).wr (Reg.SDS_STR_LAST_SFN n.val) (BitVec.ofNat 32 sfn.toNat)).wr
          (Reg.SDS_STR_LAST_TS n.val) (s.str n.val).ts).wr (Reg.SDS_STR_LAST_PERIOD n.val) (s.str n.val).period)) ∧
    (∃ (n : Fin 4) (id : BitVec 16) (d : List Byte) (s : State), (strTakes s n.val = true) ∧ (id.toNat < 8) ∧ (d.length ≤ 1024)) ∧
    (∃ (n : Fin 4) (s : State), (strOpen s n.val = true)) ∧
    (∃ (n : Fin 4) (s : State), (s.bit (Reg.SDS_STR_CTRL n.val) 0 = true) ∧ (strTx s n.val = false)) ∧
    (∃ (n : Fin 4) (z : State) (s : State), (s = rasterFirst z) ∧ (s.bit (Reg.SDS_STR_CTRL n.val) 0 = false) ∧ (streamAdmit s n.val = St.ok)) ∧
    (∃ (n : Fin 4) (z : State) (s : State), (s = rasterFirst z) ∧ (s.bit (Reg.SDS_STR_CTRL n.val) 0 = true)) ∧
    (∃ (n : Fin 4) (z : State) (s : State), (s = rasterFirst z) ∧ (s.bit (Reg.FAB_P_CTRL n.val) 0 = false) ∧ (fabPortOk s n.val = true)) ∧
    (∃ (n : Fin 4) (z : State) (s : State), (s = rasterFirst z) ∧ (s.bit (Reg.FAB_P_CTRL n.val) 0 = true)) ∧
    (∃ (q : Fin 6) (w : Word) (z : State) (s : State), (s = rasterFirst z) ∧ (quadOff s q.val = true)) ∧
    (∃ (q : Fin 6) (w : Word) (z : State) (s : State), (s = rasterFirst z) ∧ (quadOff s q.val = false)) ∧
    (∃ (l : Fin 24) (w : Word) (z : State) (s : State), (s = rasterFirst z) ∧ ∃ (t : State) (u : State), ((w.getLsbD 0 = true) ∧ (laneServes s l.val = false)) ∧ (t = s.swWrite (Reg.SDS_LANE_CTRL l.val) w) ∧ (t.bit (Reg.SDS_LANE_CTRL l.val) 0 = true) ∧ (u = when (fld (s.rd (Reg.SDS_LANE_CTRL l.val)) 3 2 != (setStage 7 l.val t).fd (Reg.SDS_LANE_CTRL l.val) 3 2) (modLane l.val fun x => { x with gen := [] }) (setStage 7 l.val t))) ∧
    (∃ (l : Fin 24) (w : Word) (z : State) (s : State), (s = rasterFirst z) ∧ ∃ (t : State), ((w.getLsbD 0 = true) ∧ ((s.rd (Reg.SDS_LANE_CTRL l.val)).getLsbD 0 = false) ∧ (laneServes s l.val = true) ∧ (laneStage s l.val ≠ 7)) ∧ (t = (s.count Reg.SDS_CNT_CFG_REJ).swWrite (Reg.SDS_LANE_CTRL l.val) (setFld w 0 1 0)) ∧ (t.bit (Reg.SDS_LANE_CTRL l.val) 0 = false) ∧ (laneStage t l.val ≠ 7)) ∧
    (∃ (l : Fin 24) (z : State) (s : State), (s = rasterFirst z) ∧ ∃ (g : Nat), (grpOf s l.val = some g)) ∧
    (∃ (l : Fin 24) (a : Bool) (b : Bool) (s : State), ∃ (g : Nat) (t : State), ((grpOf s l.val = some g) ∧ (laneStage s l.val = 1) ∧ ((group s g).waiting = false)) ∧ (t = sendTs g l.val false ((s.wb (Reg.SDS_LANE_STATE l.val) 15 b).emit (.laneTest l.val))) ∧ (laneStage t l.val = 1)) ∧
    (∃ (l : Fin 24) (s : State), ∃ (g : Nat) (t : State), ((grpOf s l.val = some g) ∧ (laneStage s l.val = 6) ∧ ((group s g).probing = true)) ∧ (t = sendTs g l.val false ((s.wb (Reg.SDS_LANE_STATE l.val) 15 true).emit (.laneTest l.val))) ∧ (laneStage t l.val = 6)) ∧
    (∃ (l : Fin 24) (k : Nat) (r : Nat) (q : Nat) (s : State), ∃ (g : Nat), (grpOf s l.val = some g) ∧ (laneStage s l.val = 2) ∧ (8 ≤ k) ∧ (8 ≤ r) ∧ (16 ≤ q)) ∧
    (∃ (l : Fin 24) (a : Bool) (k : Nat) (r : Nat) (q : Nat) (s : State), ∃ (g : Nat), (grpOf s l.val = some g) ∧ (laneStage s l.val = 2) ∧ (r < 8 ∨ q < 16 ∨ a = false ∨ k < 8)) ∧
    (∃ (l : Fin 24) (c : Nat) (s : State), ∃ (g : Nat), (grpOf s l.val = some g) ∧ (laneStage s l.val = 3) ∧ (4 ≤ c)) ∧
    (∃ (l : Fin 24) (c : CapsPkt) (s : State), ∃ (g : Nat) (t : State), ((grpOf s l.val = some g) ∧ (laneStage s l.val = 4) ∧ (capsBad s g l.val c = false)) ∧ (t = modLane l.val (fun x => { x with seen := true, done := x.done || c.flags.getLsbD 0 }) (capsShow l.val c s)) ∧ (((grpLanes t g).all fun k => laneStage t k == 4 && (laneSt t k).done) = true)) ∧
    (∃ (l : Fin 24) (c : CapsPkt) (s : State), ∃ (g : Nat) (t : State), ((grpOf s l.val = some g) ∧ (laneStage s l.val = 4) ∧ (capsBad s g l.val c = true)) ∧ (t = modLane l.val (fun x => { x with seen := true, done := x.done || c.flags.getLsbD 0 }) (capsShow l.val c s))) ∧
    (∃ (l : Fin 24) (s : State), ∃ (g : Nat), (grpOf s l.val = some g) ∧ ((group s g).probing = false) ∧ (attempting s g = true) ∧ (1 ≤ laneStage s l.val) ∧ (laneStage s l.val ≤ 4) ∧ ((laneSt s l.val).done = false)) ∧
    (∃ (g : Fin 8) (s : State), (grpEn s g.val = true) ∧ ((group s g.val).waiting = true) ∧ ((group s g.val).held = false)) ∧
    (∃ (g : Fin 8) (s : State), (grpEn s g.val = true) ∧ (grpDown s g.val = true) ∧ (grpClock s g.val = true)) ∧
    (∃ (l : Fin 24) (s : State), ∃ (g : Nat) (t : State) (u : State), (t = s.wb (Reg.SDS_LANE_STATE l.val) 15 true) ∧ (u = if (laneSt t l.val).eiosOut then modLane l.val (fun x => { x with eiosOut := false, ftsOut := true }) (ftsBurst l.val t) else t) ∧ (grpOf u l.val = some g) ∧ (grpDown u g = true)) ∧
    (∃ (l : Fin 24) (s : State), ∃ (g : Nat) (t : State) (u : State), (t = s.wb (Reg.SDS_LANE_STATE l.val) 15 true) ∧ (u = if (laneSt t l.val).eiosOut then modLane l.val (fun x => { x with eiosOut := false, ftsOut := true }) (ftsBurst l.val t) else t) ∧ (grpOf u l.val = some g) ∧ (grpDown u g = false)) ∧
    (∃ (l : Fin 24) (s : State), ∃ (g : Nat) (t : State), (fld (s.rd (Reg.SDS_LANE_STATE l.val)) 13 2 = 0) ∧ (t = modLane l.val (fun x => { x with eiosOut := false }) (s.wf (Reg.SDS_LANE_STATE l.val) 15 3 0)) ∧ (grpOf t l.val = some g) ∧ (grpActive t g = true)) ∧
    (∃ (l : Fin 24) (k : Nat) (s : State), ∃ (g : Nat), (grpOf s l.val = some g) ∧ (grpActive s g = true) ∧ (16 < k)) ∧
    (∃ (l : Fin 24) (k : Nat) (s : State), ∃ (g : Nat), (grpOf s l.val = some g) ∧ (grpActive s g = true) ∧ (k ≤ 16)) ∧
    (∃ (k : Fin 2) (s : State), ∃ (t : State), (t = forEach (refQuads s k.val) quadShow (s.wb Reg.SDS_REFCLK_STATUS k.val false))) ∧
    (∃ (k : Fin 2) (b : Bool) (s : State), ∃ (t : State) (u : State), (t = (s.wb Reg.SDS_REFCLK_STATUS k.val true).wb Reg.SDS_REFCLK_STATUS (2 + k.val) b) ∧ (u = forEach (refQuads t k.val) quadShow t)) ∧
    (∃ (l : Fin 24) (s : State), (streamLane s l.val = true) ∧ ((laneSt s l.val).eiosOut = true)) ∧
    (∃ (l : Fin 24) (s : State), ((laneSt s l.val).eiosOut = false) ∧ (eidleFallback s l.val = true) ∧ (eidleAsked s l.val = true ∨ s.bit (Reg.SDS_LANE_PARTNER_X l.val) 8 = false)) ∧
    (∃ (l : Fin 24) (s : State), (streamLane s l.val = true) ∧ ((laneSt s l.val).eiosOut = false) ∧ (eidleFallback s l.val = false) ∧ (s.bit (Reg.SDS_LANE_PARTNER_X l.val) 8 = true)) ∧
    (∃ (l : Fin 24) (s : State), ((fld (s.rd (Reg.SDS_LANE_STATE l.val)) 13 2 == 0) = false)) ∧
    (∃ (l : Fin 24) (s : State), ((laneSt s l.val).eiosOut = false)) ∧
    (∃ (l : Fin 24) (s : State), ((laneSt s l.val).eiosOut = true) ∧ (s.pwr.step ≠ 4)) :=
  ⟨⟨1, 7, 64, 32, 4, 0, 0, (regs [(Reg.SDS_STR_CTRL 1, 33), (Reg.SDS_STR_STATUS 1, 1), (Reg.SDS_STR_SURF 1, 5), (Reg.DRAM_SURF_CFG 5, 63 + 31 * 2 ^ 13 + 4 * 2 ^ 26 + 2 * 2 ^ 29 + 2 ^ 31)] up), _, rfl, _, _, 0, by decide +kernel, rfl, rfl, by decide +kernel⟩,
    ⟨1, 7, 65, 32, 4, 0, 0, (regs [(Reg.SDS_STR_CTRL 1, 33), (Reg.SDS_STR_STATUS 1, 1), (Reg.SDS_STR_SURF 1, 5), (Reg.DRAM_SURF_CFG 5, 63 + 31 * 2 ^ 13 + 4 * 2 ^ 26 + 2 * 2 ^ 29 + 2 ^ 31)] up), _, rfl, _, _, by decide +kernel, rfl, rfl, by decide +kernel⟩,
    ⟨1, 7, 0, 4, 2, (List.replicate (2 * fmtBytes 4) 1), (regs [(Reg.SDS_STR_CTRL 1, 33), (Reg.SDS_STR_STATUS 1, 3), (Reg.SDS_STR_SURF 1, 5), (Reg.DRAM_SURF_CFG 5, 63 + 31 * 2 ^ 13 + 4 * 2 ^ 26 + 2 * 2 ^ 29 + 2 ^ 31)] (up.modStr 1 fun x => { x with sfn := 7, width := 2, height := 1, fmt := 4, lines := [] })), _, rfl, by decide +kernel⟩,
    ⟨1, 7, 0, 0, (regs [(Reg.SDS_STR_CTRL 1, 33), (Reg.SDS_STR_STATUS 1, 3), (Reg.SDS_STR_SURF 1, 5), (Reg.DRAM_SURF_CFG 5, 63 + 31 * 2 ^ 13 + 4 * 2 ^ 26 + 2 * 2 ^ 29 + 2 ^ 31)] (up.modStr 1 fun x => { x with sfn := 7, width := 2, height := 1, fmt := 4, lines := [0] })), _, rfl, _, by decide +kernel, rfl⟩,
    ⟨1, 3, [1], (regs [(Reg.SDS_STR_CTRL 1, 33), (Reg.SDS_STR_STATUS 1, 1), (Reg.SDS_STR_SURF 1, 5), (Reg.DRAM_SURF_CFG 5, 63 + 31 * 2 ^ 13 + 4 * 2 ^ 26 + 2 * 2 ^ 29 + 2 ^ 31)] up), by decide +kernel⟩,
    ⟨1, (regs [(Reg.SDS_STR_CTRL 1, 33), (Reg.SDS_STR_STATUS 1, 3), (Reg.SDS_STR_SURF 1, 5), (Reg.DRAM_SURF_CFG 5, 63 + 31 * 2 ^ 13 + 4 * 2 ^ 26 + 2 * 2 ^ 29 + 2 ^ 31)] up), by decide +kernel⟩,
    ⟨1, (regs [(Reg.SDS_STR_CTRL 1, 33), (Reg.SDS_STR_STATUS 1, 1), (Reg.SDS_STR_SURF 1, 5), (Reg.DRAM_SURF_CFG 5, 63 + 31 * 2 ^ 13 + 4 * 2 ^ 26 + 2 * 2 ^ 29 + 2 ^ 31)] up), by decide +kernel⟩,
    ⟨1, (regs [(Reg.SDS_Q_CFG 1, 1), (Reg.SDS_STR_CTRL 1, 32), (Reg.SDS_STR_SURF 1, 5), (Reg.DRAM_SURF_CFG 5, 63 + 31 * 2 ^ 13 + 4 * 2 ^ 26 + 2 * 2 ^ 29 + 2 ^ 31), (Reg.DRAM_SURF_BASE 5, 0x20000000)] up), _, rfl, by decide +kernel⟩,
    ⟨1, (regs [(Reg.SDS_STR_CTRL 1, 33), (Reg.SDS_STR_STATUS 1, 1), (Reg.SDS_STR_SURF 1, 5), (Reg.DRAM_SURF_CFG 5, 63 + 31 * 2 ^ 13 + 4 * 2 ^ 26 + 2 * 2 ^ 29 + 2 ^ 31)] up), _, rfl, by decide +kernel⟩,
    ⟨1, (regs [(Reg.SDS_Q_CFG 1, 2), (Reg.FAB_P_CTRL 1, 32)] up), _, rfl, by decide +kernel⟩,
    ⟨1, (regs [(Reg.FAB_P_CTRL 1, 33)] up), _, rfl, by decide +kernel⟩,
    ⟨1, 1, up, _, rfl, by decide +kernel⟩,
    ⟨1, 1, (regs [(Reg.SDS_LANE_STATE 5, 1)] up), _, rfl, by decide +kernel⟩,
    ⟨5, 0x21, up, _, rfl, _, _, by decide +kernel, rfl, by decide +kernel, rfl⟩,
    ⟨4, 1, (regs [(Reg.SDS_STR_CTRL 1, 33), (Reg.SDS_LANE_STATE 4, 5)] up), _, rfl, _, by decide +kernel, rfl, by decide +kernel⟩,
    ⟨4, (regs [(Reg.SDS_STR_CTRL 1, 33), (Reg.SDS_LANE_STATE 4, 5)] up), _, rfl, 1, by decide +kernel⟩,
    ⟨4, true, true, (regs [(Reg.SDS_STR_CTRL 1, 33), (Reg.SDS_LANE_STATE 4, 1)] up), 1, _, by decide +kernel, rfl, by decide +kernel⟩,
    ⟨4, (regs [(Reg.SDS_STR_CTRL 1, 33), (Reg.SDS_LANE_STATE 4, 6)] (modGroup 1 (fun x => { x with probing := true }) up)), 1, _, by decide +kernel, rfl, by decide +kernel⟩,
    ⟨4, 8, 8, 16, (regs [(Reg.SDS_STR_CTRL 1, 33), (Reg.SDS_LANE_STATE 4, 2)] up), 1, by decide +kernel⟩,
    ⟨4, true, 8, 7, 16, (regs [(Reg.SDS_STR_CTRL 1, 33), (Reg.SDS_LANE_STATE 4, 2)] up), 1, by decide +kernel⟩,
    ⟨4, 4, (regs [(Reg.SDS_STR_CTRL 1, 33), (Reg.SDS_LANE_STATE 4, 3)] up), 1, by decide +kernel⟩,
    ⟨4, { proto := 1, protoRev := 0x10, lane := 0, nlanes := 1, rate := 0, power := 0, ftsReq := 0, flags := 3, uid := 9 }, (regs [(Reg.SDS_STR_CTRL 1, 33), (Reg.SDS_LANE_STATE 4, 4), (Reg.SDS_Q_CFG 1, 1)] up), 1, _, by decide +kernel, rfl, by decide +kernel⟩,
    ⟨4, { proto := 1, protoRev := 0x20, lane := 0, nlanes := 1, rate := 0, power := 0, ftsReq := 0, flags := 3, uid := 9 }, (regs [(Reg.SDS_STR_CTRL 1, 33), (Reg.SDS_LANE_STATE 4, 4), (Reg.SDS_Q_CFG 1, 1)] up), 1, _, by decide +kernel, rfl⟩,
    ⟨4, (regs [(Reg.SDS_STR_CTRL 1, 33), (Reg.SDS_LANE_STATE 4, 3)] up), 1, by decide +kernel⟩,
    ⟨1, (regs [(Reg.SDS_STR_CTRL 1, 33), (Reg.SDS_LANE_STATE 4, 0)] (modGroup 1 (fun x => { x with waiting := true }) up)), by decide +kernel⟩,
    ⟨1, (regs [(Reg.SDS_STR_CTRL 1, 33), (Reg.SDS_LANE_STATE 4, 6), (Reg.SDS_Q_STATUS 1, 2)] up), by decide +kernel⟩,
    ⟨4, (regs [(Reg.SDS_STR_CTRL 1, 33), (Reg.SDS_LANE_STATE 4, 6)] up), 1, _, _, rfl, rfl, by decide +kernel⟩,
    ⟨4, (regs [(Reg.SDS_STR_CTRL 1, 33), (Reg.SDS_LANE_STATE 4, 5)] up), 1, _, _, rfl, rfl, by decide +kernel⟩,
    ⟨4, (regs [(Reg.SDS_STR_CTRL 1, 33), (Reg.SDS_LANE_STATE 4, 5)] up), 1, _, by decide +kernel, rfl, by decide +kernel⟩,
    ⟨4, 17, (regs [(Reg.SDS_STR_CTRL 1, 33), (Reg.SDS_LANE_STATE 4, 5)] up), 1, by decide +kernel⟩,
    ⟨4, 16, (regs [(Reg.SDS_STR_CTRL 1, 33), (Reg.SDS_LANE_STATE 4, 5)] up), 1, by decide +kernel⟩,
    ⟨1, up, _, rfl⟩,
    ⟨1, true, up, _, _, rfl, rfl⟩,
    ⟨4, (regs [(Reg.SDS_STR_CTRL 1, 33), (Reg.SDS_LANE_STATE 4, 5)] (modLane 4 (fun x => { x with eiosOut := true }) up)), by decide +kernel⟩,
    ⟨4, (regs [(Reg.SDS_STR_CTRL 1, 33), (Reg.SDS_LANE_STATE 4, 5), (Reg.SDS_LANE_PARTNER_X 4, 0x400), (Reg.SDS_LANE_PWR 4, 2)] up), by decide +kernel⟩,
    ⟨4, (regs [(Reg.SDS_STR_CTRL 1, 33), (Reg.SDS_LANE_STATE 4, 5), (Reg.SDS_LANE_PARTNER_X 4, 0x100)] up), by decide +kernel⟩,
    ⟨4, (regs [(Reg.SDS_STR_CTRL 1, 33), (Reg.SDS_LANE_STATE 4, 5 + 2 ^ 13)] up), by decide +kernel⟩,
    ⟨4, up, by decide +kernel⟩,
    ⟨4, (regs [(Reg.SDS_STR_CTRL 1, 33), (Reg.SDS_LANE_STATE 4, 5)] (modLane 4 (fun x => { x with eiosOut := true }) up)), by decide +kernel⟩⟩

/-- Premises of HealthAndCorrectionEventsTakeEffect, clause by clause. -/
theorem wit_HealthAndCorrectionEventsTakeEffect :
    (∃ (s : State), (beamState s = 2)) ∧
    (∃ (l : Fin 1048576) (s : State), ∃ (t : State), (lampDue s l.val = true) ∧ (t = (setClass l.val (s.lamp l.val).cand (s.setLamp l.val { s.lamp l.val with run := 0 })).count Reg.HLT_CNT_CLASS_CHG)) ∧
    (∃ (g : Fin 256) (s : State), (0 < (s.seg g.val).noRpt) ∧ (s.fd Reg.HLT_RPT_LIMIT 0 4 ≤ (s.seg g.val).noRpt) ∧ (Machine.reportLoss s g.val = false)) ∧
    (∃ (s : State), ∃ (k : VfCap) (t : State), ((s.hlt.cap = some k) ∧ (64 ≤ k.n)) ∧ (t = forEach (((List.range ((k.hi - k.lo + 1) * 4096)).map (k.lo * 4096 + ·)).filter fun p => !(sget (fun _ => false) s.hlt.capDone p)) (fun p t => t.putLe (vfBase t + 2 * p) 2 0xFFFF) s)) ∧
    (∃ (s : State), ∃ (a : Apply) (r : List Apply) (t : State), ((s.corr.copying = a :: r) ∧ (a.lo < a.hi)) ∧ (t = (copySeg a a.lo s).modSeg a.lo fun x => { x with reload := 2 })) ∧
    (∃ (s : State), ∃ (a : Apply) (r : List Apply) (t : State), ((s.corr.copying = a :: r) ∧ (a.hi ≤ a.lo)) ∧ (t = (copySeg a a.lo s).modSeg a.lo fun x => { x with reload := 2 })) ∧
    (∃ (c : Fin 8) (z : State) (s : State), (s = rasterFirst z) ∧ ((chEn s c.val = true) ∧ (chMode s c.val = 0) ∧ (chBusy s c.val = false)) ∧ (scanOk s c.val = true)) ∧
    (∃ (c : Fin 8) (z : State) (s : State), (s = rasterFirst z) ∧ (chEn s c.val = true) ∧ (chMode s c.val = 0) ∧ (chBusy s c.val = false) ∧ (scanOk s c.val = false)) ∧
    (∃ (c : Fin 8) (z : State) (s : State), (s = rasterFirst z) ∧ (chEn s c.val = true) ∧ (chMode s c.val = 0) ∧ (chBusy s c.val = true)) :=
  ⟨⟨(regs [(Reg.BEAM_STATUS, 2)] up), by decide +kernel⟩,
    ⟨7, (up.setLamp 7 { cand := 1, run := 16 }), _, by decide +kernel, rfl⟩,
    ⟨3, (up.modSeg 3 fun x => { x with noRpt := 16 }), by decide +kernel⟩,
    ⟨{ up with hlt := { up.hlt with cap := some { lo := 1, hi := 1, n := 64, ctx := { code := 0x0702, m := msg 2 1 } } } }, { lo := 1, hi := 1, n := 64, ctx := { code := 0x0702, m := msg 2 1 } }, _, by decide +kernel, rfl⟩,
    ⟨{ up with corr := { up.corr with copying := [{ lo := 2, hi := 3, tables := 3, source := 0 }] } }, { lo := 2, hi := 3, tables := 3, source := 0 }, [], _, by decide +kernel, rfl⟩,
    ⟨{ up with corr := { up.corr with copying := [{ lo := 3, hi := 3, tables := 3, source := 0 }] } }, { lo := 3, hi := 3, tables := 3, source := 0 }, [], _, by decide +kernel, rfl⟩,
    ⟨2, (regs [(Reg.CRC_CH_CTRL 2, 1), (Reg.CRC_CH_START_LO 2, 0), (Reg.CRC_CH_START_HI 2, 32), (Reg.CRC_CH_LENGTH 2, 64)] up), _, rfl, by decide +kernel, scanOk_wit2⟩,
    ⟨2, (regs [(Reg.CRC_CH_CTRL 2, 1), (Reg.CRC_CH_START_LO 2, 0), (Reg.CRC_CH_START_HI 2, 32)] up), _, rfl, by decide +kernel⟩,
    ⟨2, (regs [(Reg.CRC_CH_CTRL 2, 1), (Reg.CRC_CH_START_LO 2, 0), (Reg.CRC_CH_START_HI 2, 32), (Reg.CRC_CH_LENGTH 2, 64), (Reg.CRC_CH_STATUS 2, 1)] up), _, rfl, by decide +kernel⟩⟩

/-- Premises of SupplyEventsTakeEffect, clause by clause. -/
theorem wit_SupplyEventsTakeEffect :
    (∃ (s : State), ∃ (again : Bool) (t : State) (u : State), (again = s.sup.ovLast.any fun t => decide (s.tickNs - t ≤ 1000000000)) ∧ (t = { s with sup := { s.sup with ovWait := !again, ovLast := some s.tickNs } }) ∧ (u = supStop ((t.wb Reg.SUP_STATUS 3 true).wb Reg.SUP_STATUS 5 (again || t.bit Reg.SUP_STATUS 5)))) ∧
    (∃ (s : State), (supRunning s = true) ∧ (s.bit Reg.SUP_STATUS 1 = false)) ∧
    (∃ (s : State), (s.bit Reg.SUP_STATUS 4 = true) ∧ (rasOn s = false)) ∧
    (∃ (p : Fin 6) (s : State), (supRunning s = true) ∧ (p.val ∈ supPhases s)) ∧
    (∃ (p : Fin 6) (s : State), (supRunning s = true) ∧ (p.val ∈ supPhases s)) ∧
    (∃ (s : State), ∃ (t : State), ((s.sup.ovWait = true) ∧ (s.bit Reg.SUP_STATUS 5 = false)) ∧ (t = s.advanceTo (ns16 (s.sup.ovLast.getD 0 + 10000000 : Nat)))) ∧
    (∃ (z : State) (s : State), (s = rasterFirst z) ∧ (s.bit Reg.SUP_CTRL 0 = false)) ∧
    (∃ (z : State) (s : State), (s = rasterFirst z) ∧ (s.bit Reg.SUP_CTRL 0 = true)) ∧
    (∃ (w : Word) (z : State) (s : State), (s = rasterFirst z) ∧ ∃ (t : State), (t = s.swWrite Reg.SUP_PHASE_EN w)) ∧
    (∃ (z : State) (s : State), (s = rasterFirst z) ∧ ∃ (t : State) (u : State), (t = s.wb Reg.SUP_STATUS 5 false) ∧ (u = { t with sup := { t.sup with ovWait := false } }) ∧ (supRunning u = false)) :=
  ⟨⟨up, _, _, _, rfl, rfl, rfl⟩,
    ⟨(regs [(Reg.SUP_STATUS, 1)] up), by decide +kernel⟩,
    ⟨(regs [(Reg.SUP_STATUS, 16)] up), by decide +kernel⟩,
    ⟨2, (regs [(Reg.SUP_STATUS, 1), (Reg.SUP_CTRL, 1), (Reg.SUP_PHASE_EN, 63)] up), by decide +kernel⟩,
    ⟨2, (regs [(Reg.SUP_STATUS, 1), (Reg.SUP_CTRL, 1), (Reg.SUP_PHASE_EN, 63)] up), by decide +kernel⟩,
    ⟨{ up with sup := { up.sup with ovWait := true } }, _, by decide +kernel, rfl⟩,
    ⟨up, _, rfl, by decide +kernel⟩,
    ⟨(regs [(Reg.SUP_CTRL, 1)] up), _, rfl, by decide +kernel⟩,
    ⟨3, up, _, rfl, _, rfl⟩,
    ⟨up, _, rfl, _, _, rfl, rfl, by decide +kernel⟩⟩

/-- Premises of SnowpackAndMemoryEventsTakeEffect, clause by clause. -/
theorem wit_SnowpackAndMemoryEventsTakeEffect :
    (∃ (a : Fin 32768) (s : State), ∃ (p : Nat) (t : State), (t = (s.event 0x0013 1 2 clsDevice 0 ([3, 2, 0, 0] ++ det 4 a.val)).count Reg.SNOW_CNT_ECC_2) ∧ (snowPart t a.val = some p) ∧ (restoring t p = false)) ∧
    (∃ (p : Fin 6) (b0 : Bool) (b1 : Bool) (s : State), ∃ (c : Nat) (t : State) (u : State), ((restoring s p.val = true) ∧ (goodCopy s p.val b0 b1 = some c)) ∧ (t = s.countBy Reg.SNOW_CNT_MIRROR_FAIL ((if copyBad s p.val b0 b1 0 then 1 else 0) + if copyBad s p.val b0 b1 1 then 1 else 0)) ∧ (u = when (decide (p.val < 4)) (writeLost p.val) { t with snow := { t.snow with restoring := t.snow.restoring.filter (· != p.val) } })) ∧
    (∃ (p : Fin 6) (b0 : Bool) (b1 : Bool) (s : State), ∃ (t : State) (u : State), ((restoring s p.val = true) ∧ (goodCopy s p.val b0 b1 = none)) ∧ (t = s.countBy Reg.SNOW_CNT_MIRROR_FAIL ((if copyBad s p.val b0 b1 0 then 1 else 0) + if copyBad s p.val b0 b1 1 then 1 else 0)) ∧ (u = when (decide (p.val < 4)) (writeLost p.val) { t with snow := { t.snow with restoring := t.snow.restoring.filter (· != p.val) } })) ∧
    (∃ (s : State), ∃ (o : SnowOp) (c : Ctx) (t : State) (u : State), ((s.snow.op = some o) ∧ (o.applied = true) ∧ (o.ctx = some c)) ∧ (t = (if o.code == 0x0A07 then mirrorPart 5 (snowBase + 0x100) 256 s else mirrorPart 4 snowBase 256 s)) ∧ (u = when (o.code == 0x0A01) (mirrorPart o.slot (snowBase + 0x200 + 4 * o.offset) (4 * o.runs)) t)) ∧
    (∃ (s : State), ∃ (o : Op) (t : State) (u : State), ((s.pwr.stopDone = false) ∧ (s.pwr.inReset = false) ∧ (s.mbx.ops.find? (·.ctx.code == 0x0704) = some o)) ∧ (t = when ((o.d.headD 0).testBit 0) (fun x => (x.putBytes savedVf (s.bytes (vfBase s) vfBytes)).putLe savedVfCrc 4 (crc32c (s.bytes (vfBase s) vfBytes))) s) ∧ (u = when ((o.d.headD 0).testBit 1) (fun x => (x.putBytes savedMap ((List.range mapBytes).map (mapByte t))).putLe savedMapCrc 4 (crc32c ((List.range mapBytes).map (mapByte t)))) t)) ∧
    (∃ (s : State), ∃ (o : Op), (s.pwr.stopDone = false) ∧ (s.pwr.inReset = false) ∧ (s.mbx.ops.find? (·.ctx.code == 0x0E03) = some o)) ∧
    (∃ (s : State), (s.pwr.stopDone = false) ∧ (s.pwr.inReset = false)) ∧
    (∃ (s : State), ∃ (g : Nat) (hi : Nat) (c : Ctx) (t : State), ((s.pwr.stopDone = false) ∧ (s.pwr.inReset = false) ∧ (s.corr.saving = some (g, false, hi, c))) ∧ (t = saveTable 1 g (scratchAt 1) (scratchCrcAt 1) (saveTable 0 g (scratchAt 0) (scratchCrcAt 0) s))) ∧
    (∃ (s : State), ∃ (g : Nat) (hi : Nat) (c : Ctx) (t : State), ((s.pwr.stopDone = false) ∧ (s.pwr.inReset = false) ∧ (s.corr.saving = some (g, true, hi, c))) ∧ (t = saveTable 1 g (homeAt 1 g) (homeCrcAt 1 g) (saveTable 0 g (homeAt 0 g) (homeCrcAt 0 g) s))) ∧
    (∃ (s : State), ∃ (t : State), (aliveRuns s = true) ∧ (t = s.advanceTo (ns16 ((s.tickNs / 500000 + 1) * 500000 : Nat)))) ∧
    (∃ (a : Word) (s : State), ∃ (t : State), (t = s.event 0x0013 1 2 clsDevice 0 ([0, 2, 0, 0] ++ det 4 a.toNat))) ∧
    (∃ (a : Nat) (s : State), ∃ (t : State), (t = s.event 0x0013 1 2 clsDevice 0 ([1, 2, 0, 0] ++ det 4 a))) :=
  ⟨⟨5, up, 4, _, rfl, by decide +kernel⟩,
    ⟨4, false, true, { goodDir with snow := { up.snow with restoring := [4] } }, 0, _, _, by decide +kernel, rfl, rfl⟩,
    ⟨4, true, true, { up with snow := { up.snow with restoring := [4] } }, _, _, by decide +kernel, rfl, rfl⟩,
    ⟨{ up with snow := { up.snow with op := some { code := 0x0A02, slot := 0, applied := true, ctx := some { code := 0x0A02, m := msg 0 0 } } } }, { code := 0x0A02, slot := 0, applied := true, ctx := some { code := 0x0A02, m := msg 0 0 } }, { code := 0x0A02, m := msg 0 0 }, _, _, by decide +kernel, rfl, rfl⟩,
    ⟨{ up with mbx := { up.mbx with ops := [⟨{ code := 0x0704, m := msg 2 2 }, 2, 2, 2, [1]⟩] } }, ⟨{ code := 0x0704, m := msg 2 2 }, 2, 2, 2, [1]⟩, _, _, by decide +kernel, rfl, rfl⟩,
    ⟨{ up with mbx := { up.mbx with ops := [⟨{ code := 0x0E03, m := msg 2 2 }, 2, 2, 2, [1]⟩] } }, ⟨{ code := 0x0E03, m := msg 2 2 }, 2, 2, 2, [1]⟩, by decide +kernel⟩,
    ⟨up, by decide +kernel⟩,
    ⟨{ up with corr := { up.corr with saving := some (2, false, 3, { code := 0x0603, m := msg 2 2 }) } }, 2, 3, { code := 0x0603, m := msg 2 2 }, _, by decide +kernel, rfl⟩,
    ⟨{ up with corr := { up.corr with saving := some (2, true, 3, { code := 0x0603, m := msg 2 2 }) } }, 2, 3, { code := 0x0603, m := msg 2 2 }, _, by decide +kernel, rfl⟩,
    ⟨{ (regs [(Reg.POL_ALIVE_CFG, 1), (Reg.RAS_STATUS, 1)] up) with ras := { up.ras with latched := true } }, _, by decide +kernel, rfl⟩,
    ⟨9, up, _, rfl⟩,
    ⟨64, up, _, rfl⟩⟩

/-- Premises of FabricPacketAndEventCommandsTakeEffect, clause by clause. -/
theorem wit_FabricPacketAndEventCommandsTakeEffect :
    (∃ (z : State) (s : State), (s = rasterFirst z) ∧ (s.bit Reg.FAB_CTRL 0 = false)) ∧
    (∃ (z : State) (s : State), (s = rasterFirst z) ∧ (s.bit Reg.FAB_CTRL 0 = true)) ∧
    (∃ (p : Fin 4) (h : FabHdr) (d : List Byte) (z : State) (s : State), (s = rasterFirst z) ∧ ∃ (k : FabPkt) (t : State), (k = rxPkt p.val 1 h d) ∧ ((fabActive s p.val = true) ∧ (k.vc = 3) ∧ (k.payload.length ≤ 4096)) ∧ (t = s.count (Reg.FAB_P_VC_CNT_RX p.val k.vc))) ∧
    (∃ (p : Fin 4) (h : FabHdr) (d : List Byte) (z : State) (s : State), (s = rasterFirst z) ∧ ∃ (k : FabPkt) (t : State), (k = rxPkt p.val 2 h d) ∧ ((fabActive s p.val = true) ∧ (k.vc = 1 ∨ k.vc = 2) ∧ (k.payload.length ≤ 4096)) ∧ (t = s.count (Reg.FAB_P_VC_CNT_RX p.val k.vc))) ∧
    (∃ (p : Fin 4) (h : FabHdr) (d : List Byte) (z : State) (s : State), (s = rasterFirst z) ∧ ∃ (k : FabPkt) (t : State) (u : State), (k = rxPkt p.val 2 h d) ∧ ((fabActive s p.val = true) ∧ (k.vc = 1 ∨ k.vc = 2) ∧ (k.payload.length ≤ 4096)) ∧ (t = s.count (Reg.FAB_P_VC_CNT_RX p.val k.vc)) ∧ ((k.flags.testBit 0 = false) ∧ (k.dest ≠ 0xFFF) ∧ (k.dest = t.ownFid)) ∧ (u = seqCheck k t)) ∧
    (∃ (p : Fin 4) (h : FabHdr) (ps : Nat) (d : List Byte) (s : State), ∃ (k : FabPkt) (t : State), (k = rxPkt p.val 3 h d) ∧ ((fabActive s p.val = true) ∧ (k.vc = 0) ∧ (k.payload.length ≤ 4096)) ∧ (t = s.count (Reg.FAB_P_VC_CNT_RX p.val k.vc))) ∧
    (∃ (p : Fin 4) (f : HelloPkt) (s : State), ∃ (b : Hello) (k : FabPkt) (t : State) (u : State) (v : State), (b = f.body) ∧ (k = rxPkt p.val 4 f.hdr (helloBody b.uid.toNat b.rootUid.toNat b.dist.toNat 0 b.fid.toNat b.port.val)) ∧ ((fabActive s p.val = true) ∧ (k.vc = 1) ∧ (k.payload.length ≤ 4096)) ∧ (t = seqCheck k (fabFree k (s.count (Reg.FAB_P_VC_CNT_RX p.val k.vc)))) ∧ ((s.count (Reg.FAB_P_VC_CNT_RX p.val k.vc)).bit Reg.FAB_CTRL 0 = true) ∧ (u = (t.wr (Reg.FAB_P_NEIGH_LO p.val) (BitVec.ofNat 32 b.uid.toNat)).wr (Reg.FAB_P_NEIGH_HI p.val) (BitVec.ofNat 32 (b.uid.toNat / 2 ^ 32))) ∧ (v = updateClaim (modFabPort p.val (fun x => { x with adv := if (b.dist == 0xFF) = true then none else some (b.rootUid.toNat, b.dist.toNat), advId := b.fid.toNat })
          ((u.wf (Reg.FAB_P_STATUS p.val) 4 12 (if b.assigned = true then b.fid.toNat else 0)).wf (Reg.FAB_P_STATUS p.val) 16 2 b.port.val))) ∧ (isRoot v = false)) ∧
    (∃ (p : Fin 4) (f : HelloPkt) (s : State), ∃ (k : FabPkt) (t : State), (k = rxPkt p.val 4 f.hdr (helloBody f.body.uid.toNat f.body.rootUid.toNat f.body.dist.toNat 0 f.body.fid.toNat f.body.port.val)) ∧ ((fabActive s p.val = true) ∧ (k.vc = 1) ∧ (k.payload.length ≤ 4096)) ∧ (t = seqCheck k (fabFree k (s.count (Reg.FAB_P_VC_CNT_RX p.val k.vc))))) ∧
    (∃ (s : State), (s.bit Reg.FAB_CTRL 0 = true)) ∧
    (∃ (s : State), (s.bit Reg.FAB_CTRL 0 = false)) ∧
    (∃ (p : Fin 4) (s : State), ∃ (t : State), ((fabPort s p.val).adv.isSome = true) ∧ (t = modFabPort p.val (fun f => { f with adv := none }) s)) ∧
    (∃ (p : Fin 4) (s : State), ((fabPort s p.val).adv = none)) ∧
    (∃ (s : State), ∃ (f : Nat) (t : State), ((s.bit Reg.FAB_CTRL 0 = true) ∧ (s.fab.claim = 1) ∧ (fabState s = 1)) ∧ (f = (if (prefId s == 0) = true then 1 else prefId s)) ∧ (t = setFabState 2 ((setFid f s).wb Reg.FAB_STATUS 3 true))) ∧
    (∃ (s : State), (s.bit Reg.FAB_CTRL 0 = true) ∧ (fabState s = 1) ∧ (s.fab.claim = 0)) ∧
    (∃ (p : Fin 4) (h : FabHdr) (d : DiscPath) (uid : BitVec 64) (fid : BitVec 12) (q : Fin 4) (s : State), ∃ (k : FabPkt) (t : State), (k = rxPkt p.val 4 h (discPrefix 2 (pathList d) ++ leBytes 8 uid.toNat ++ leBytes 2 fid.toNat ++ leBytes 1 q.val)) ∧ ((fabActive s p.val = true) ∧ (k.vc = 1) ∧ (k.payload.length ≤ 4096)) ∧ (t = s.count (Reg.FAB_P_VC_CNT_RX p.val k.vc))) ∧
    (∃ (p : Fin 4) (h : FabHdr) (d : DiscPath) (uid : BitVec 64) (fid : BitVec 12) (q : Fin 4) (s : State), ∃ (k : FabPkt) (t : State) (u : State) (v : State) (w : State) (x : State), (k = rxPkt p.val 4 h (discPrefix 2 (pathList d) ++ leBytes 8 uid.toNat ++ leBytes 2 fid.toNat ++ leBytes 1 q.val)) ∧ ((fabActive s p.val = true) ∧ (k.vc = 1) ∧ (k.payload.length ≤ 4096)) ∧ (t = s.count (Reg.FAB_P_VC_CNT_RX p.val k.vc)) ∧ ((k.flags.testBit 2 = true) ∧ (k.hops = d.depth.toNat)) ∧ (u = fabFree k (seqCheck k t)) ∧ ((uid.toNat = ownUid u) ∧ (u.bit Reg.FAB_CTRL 0 = true)) ∧ (v = setTree (Nat.lor (treeMask u) (2 ^ q.val)) (some q.val) (setFid fid.toNat u)) ∧ (w = { v with fab := { v.fab with pref := fid.toNat, rootFid := h.src.toNat, rootPath := backPath p.val d } }) ∧ (x = (if (fabState w == 4) = true then w else setFabState 2 w))) ∧
    (∃ (p : Fin 4) (h : FabHdr) (d : DiscPath) (uid : BitVec 64) (fid : BitVec 12) (l : List (BitVec 64 × Fin 4)) (s : State), ∃ (n : List (Nat × Nat)) (k : FabPkt) (t : State), (n = l.map (fun e => (e.1.toNat, e.2.val))) ∧ (k = rxPkt p.val 4 h (discPrefix 3 (pathList d) ++ leBytes 8 uid.toNat ++ leBytes 2 fid.toNat ++ n.flatMap fun e => leBytes 8 e.1 ++ leBytes 1 e.2)) ∧ ((fabActive s p.val = true) ∧ (k.vc = 1) ∧ (k.payload.length ≤ 4096)) ∧ (t = s.count (Reg.FAB_P_VC_CNT_RX p.val k.vc))) ∧
    (∃ (p : Fin 4) (h : FabHdr) (d : DiscPath) (uid : BitVec 64) (fid : BitVec 12) (l : List (BitVec 64 × Fin 4)) (s : State), ∃ (n : List (Nat × Nat)) (k : FabPkt) (t : State) (a : Asg), (n = l.map (fun e => (e.1.toNat, e.2.val))) ∧ (k = rxPkt p.val 4 h (discPrefix 3 (pathList d) ++ leBytes 8 uid.toNat ++ leBytes 2 fid.toNat ++ n.flatMap fun e => leBytes 8 e.1 ++ leBytes 1 e.2)) ∧ ((fabActive s p.val = true) ∧ (k.vc = 1) ∧ (k.payload.length ≤ 4096)) ∧ (t = fabFree k (seqCheck k (s.count (Reg.FAB_P_VC_CNT_RX p.val k.vc)))) ∧ (k.flags.testBit 2 = true) ∧ (k.hops = d.depth.toNat) ∧ (isRoot t = true) ∧ (t.fab.asg = some a) ∧ (a.uid = uid.toNat)) ∧
    (∃ (s : State), ∃ (a : Asg), (s.fab.asg = some a) ∧ (a.tries < 3)) ∧
    (∃ (s : State), ∃ (a : Asg), (s.fab.asg = some a) ∧ (3 ≤ a.tries)) ∧
    (∃ (p : Fin 4) (h : FabHdr) (d : DiscPath) (id : BitVec 32) (im : List Byte) (s : State), ∃ (k : FabPkt) (t : State), (k = rxPkt p.val 4 h (discPrefix 4 (pathList d) ++ leBytes 4 id.toNat ++ im)) ∧ ((fabActive s p.val = true) ∧ (k.vc = 1) ∧ (k.payload.length ≤ 4096)) ∧ (t = s.count (Reg.FAB_P_VC_CNT_RX p.val k.vc))) ∧
    (∃ (p : Fin 4) (h : FabHdr) (d : DiscPath) (id : BitVec 32) (im : List Byte) (s : State), ∃ (k : FabPkt) (t : State) (u : State), (k = rxPkt p.val 4 h (discPrefix 4 (pathList d) ++ leBytes 4 id.toNat ++ im)) ∧ ((fabActive s p.val = true) ∧ (k.vc = 1) ∧ (k.payload.length ≤ 4096)) ∧ (t = s.count (Reg.FAB_P_VC_CNT_RX p.val k.vc)) ∧ ((k.flags.testBit 2 = true) ∧ (k.hops = d.depth.toNat) ∧ (im.length = 2180)) ∧ (u = stageImage id.toNat im { fabFree k (seqCheck k t) with fab := { (fabFree k (seqCheck k t)).fab with rootFid := h.src.toNat } })) ∧
    (∃ (p : Fin 4) (h : FabHdr) (id : BitVec 32) (at' : BitVec 64) (s : State), ∃ (k : FabPkt) (t : State), (k = rxPkt p.val 4 h (discPrefix 5 [] ++ leBytes 4 id.toNat ++ leBytes 8 at'.toNat)) ∧ ((fabActive s p.val = true) ∧ (k.vc = 1) ∧ (k.payload.length ≤ 4096)) ∧ (t = s.count (Reg.FAB_P_VC_CNT_RX p.val k.vc))) ∧
    (∃ (p : Fin 4) (h : FabHdr) (id : BitVec 32) (at' : BitVec 64) (s : State), ∃ (k : FabPkt) (t : State) (u : State), (k = rxPkt p.val 4 h (discPrefix 5 [] ++ leBytes 4 id.toNat ++ leBytes 8 at'.toNat)) ∧ ((fabActive s p.val = true) ∧ (k.vc = 1) ∧ (k.payload.length ≤ 4096)) ∧ (t = s.count (Reg.FAB_P_VC_CNT_RX p.val k.vc)) ∧ ((k.flags.testBit 0 = false) ∧ (k.dest ≠ 0xFFF) ∧ (k.dest = t.ownFid)) ∧ (u = fabFree k (seqCheck k t))) ∧
    (∃ (s : State), ∃ (x : Nat) (st : Nat) (b : Nat) (w : Nat) (t : State) (u : State) (v : State), ((s.fab.commitAt = some x) ∧ (s.fab.staged = some st)) ∧ (t = s.advanceTo (ns16 x)) ∧ (b = 1 - t.fd Reg.FAB_RT_BANK 0 1) ∧ (w = t.le (routeBase b + 2176) 4) ∧ (u = setTree (w % 16) (if w.testBit 6 = true then none else some (w / 16 % 4)) ((t.wf Reg.FAB_RT_BANK 0 1 b).count Reg.FAB_CNT_ROUTE_COMMIT)) ∧ (v = setFabState 4 { u with fab := { u.fab with commitAt := none, staged := none } })) ∧
    (∃ (s : State), (s.fab.commitAt = none ∨ s.fab.staged = none)) ∧
    (∃ (p : Fin 4) (h : FabHdr) (d : DiscPath) (id : BitVec 32) (st : Byte) (s : State), ∃ (k : FabPkt) (t : State), (k = rxPkt p.val 4 h (discPrefix 6 (pathList d) ++ leBytes 4 id.toNat ++ leBytes 1 st.toNat)) ∧ ((fabActive s p.val = true) ∧ (k.vc = 1) ∧ (k.payload.length ≤ 4096)) ∧ (t = s.count (Reg.FAB_P_VC_CNT_RX p.val k.vc))) ∧
    (∃ (p : Fin 4) (h : FabHdr) (d : DiscPath) (id : BitVec 32) (s : State), ∃ (k : FabPkt) (t : State) (u : State) (e : TopoDev), (k = rxPkt p.val 4 h (discPrefix 6 (pathList d) ++ leBytes 4 id.toNat ++ leBytes 1 1)) ∧ ((fabActive s p.val = true) ∧ (k.vc = 1) ∧ (k.payload.length ≤ 4096)) ∧ (t = s.count (Reg.FAB_P_VC_CNT_RX p.val k.vc)) ∧ ((k.flags.testBit 2 = true) ∧ (k.hops = d.depth.toNat)) ∧ (u = fabFree k (seqCheck k t)) ∧ ((u.fab.topo.find? (·.fid == k.src)) = some e) ∧ (isRoot u = true)) ∧
    (∃ (p : Fin 4) (g : DiscHdr) (uid : BitVec 64) (q : Fin 4) (b : Bool) (nb : BitVec 64) (s : State), ∃ (k : FabPkt) (t : State), (k = rxPkt p.val 4 g.hdr (discPrefix 7 (pathList g.way) ++ leBytes 8 uid.toNat ++ leBytes 1 q.val ++ leBytes 1 (if b = true then 1 else 0) ++ leBytes 8 nb.toNat)) ∧ ((fabActive s p.val = true) ∧ (k.vc = 1) ∧ (k.payload.length ≤ 4096)) ∧ (t = s.count (Reg.FAB_P_VC_CNT_RX p.val k.vc))) ∧
    (∃ (p : Fin 4) (g : DiscHdr) (uid : BitVec 64) (q : Fin 4) (b : Bool) (nb : BitVec 64) (s : State), ∃ (k : FabPkt) (t : State) (u : State), (k = rxPkt p.val 4 g.hdr (discPrefix 7 (pathList g.way) ++ leBytes 8 uid.toNat ++ leBytes 1 q.val ++ leBytes 1 (if b = true then 1 else 0) ++ leBytes 8 nb.toNat)) ∧ ((fabActive s p.val = true) ∧ (k.vc = 1) ∧ (k.payload.length ≤ 4096)) ∧ (t = s.count (Reg.FAB_P_VC_CNT_RX p.val k.vc)) ∧ ((k.flags.testBit 2 = false) ∧ (k.flags.testBit 0 = false) ∧ (k.dest ≠ 0xFFF) ∧ (k.dest = t.ownFid)) ∧ (u = fabFree k (seqCheck k t)) ∧ (isRoot u = true)) ∧
    (∃ (p : Fin 4) (a : BitVec 16) (b : BitVec 16) (c : BitVec 16) (d : BitVec 16) (s : State), ∃ (l : List (Nat × Nat)), (fabActive s p.val = true) ∧ (l = (List.range 4).foldl (fun x v => setCnt x v ([a.toNat, b.toNat, c.toNat, d.toNat].getD v 0)) [])) ∧
    (∃ (p : Fin 4) (a : BitVec 16) (b : BitVec 16) (c : BitVec 16) (d : BitVec 16) (s : State), ∃ (l : List (Nat × Nat)), (fabActive s p.val = true) ∧ (l = (List.range 4).foldl (fun x v => setCnt x v ([a.toNat, b.toNat, c.toNat, d.toNat].getD v 0)) [])) ∧
    (∃ (p : Fin 4) (s : State), ∃ (k : FabPkt), (fabActive s p.val = true) ∧ (k = fabPkt s 5 0 0 0 ((List.range 4).flatMap fun v => leBytes 2 (cnt (fabPort s p.val).mine v)))) ∧
    (∃ (p : Fin 4) (v : Fin 4) (s : State), ∃ (k : FabPkt), (((fabPort s p.val).q.find? fun k => k.vc == v.val && !k.late) = some k)) ∧
    (∃ (n : Fin 16) (s : State), (s.bit (Reg.FAB_SUB_CFG n.val) 0 = true)) ∧
    (∃ (p : Fin 4) (l : List Byte) (b : Bool) (s : State), (fabActive s p.val = true) ∧ (fabBad l b = true)) ∧
    (∃ (n : Fin 4) (s : State), (s.bit (Reg.FAB_P_STATUS n.val) 0 = true)) ∧
    (∃ (n : Fin 4) (s : State), (s.bit (Reg.SDS_STR_STATUS n.val) 0 = true)) :=
  ⟨⟨up, _, rfl, by decide +kernel⟩,
    ⟨(regs [(Reg.FAB_CTRL, 1)] up), _, rfl, by decide +kernel⟩,
    ⟨1, { dest := 5, src := 7, vc := 3, hops := 1, flags := 0, seq := 1, frame := 2, xinfo := 3 }, [1, 2], (regs [(Reg.FAB_P_STATUS 1, 1), (Reg.FAB_STATUS, 84), (Reg.FAB_SUB_CFG 2, 1 + 3 * 2 ^ 7 + 7 * 2 ^ 13)] up), _, rfl, _, _, rfl, by decide +kernel, rfl⟩,
    ⟨1, { dest := 5, src := 7, vc := 1, hops := 1, flags := 0, seq := 1, frame := 2, xinfo := 3 }, [], (regs [(Reg.FAB_P_STATUS 1, 1), (Reg.FAB_STATUS, 84)] up), _, rfl, _, _, rfl, by decide +kernel, rfl⟩,
    ⟨1, { dest := 5, src := 7, vc := 1, hops := 1, flags := 0, seq := 1, frame := 2, xinfo := 3 }, [], (regs [(Reg.FAB_P_STATUS 1, 1), (Reg.FAB_STATUS, 84)] up), _, rfl, _, _, _, rfl, by decide +kernel, rfl, by decide +kernel, rfl⟩,
    ⟨1, { dest := 5, src := 7, vc := 0, hops := 1, flags := 0, seq := 1, frame := 2, xinfo := 3 }, 0, [], (regs [(Reg.FAB_P_STATUS 1, 1)] up), _, _, rfl, by decide +kernel, rfl⟩,
    ⟨1, { hdr := { dest := 0, src := 7, vc := 1, hops := 0, flags := 0, seq := 1, frame := 2, xinfo := 3 }, body := { uid := 9, rootUid := 4, dist := 0xFF, eligible := false, assigned := false, fid := 0, port := 2 } }, (regs [(Reg.FAB_P_STATUS 1, 1), (Reg.FAB_CTRL, 1)] up), _, _, _, _, _, rfl, rfl, by decide +kernel, rfl, by decide +kernel, rfl, rfl, by decide +kernel⟩,
    ⟨1, { hdr := { dest := 0, src := 7, vc := 1, hops := 0, flags := 0, seq := 1, frame := 2, xinfo := 3 }, body := { uid := 9, rootUid := 4, dist := 0xFF, eligible := false, assigned := false, fid := 0, port := 2 } }, (regs [(Reg.FAB_P_STATUS 1, 1)] up), _, _, rfl, by decide +kernel, rfl⟩,
    ⟨(regs [(Reg.FAB_CTRL, 1)] up), by decide +kernel⟩,
    ⟨up, by decide +kernel⟩,
    ⟨1, (modFabPort 1 (fun f => { f with adv := some (9, 2) }) up), _, by decide +kernel, rfl⟩,
    ⟨1, up, by decide +kernel⟩,
    ⟨{ (regs [(Reg.FAB_CTRL, 1), (Reg.FAB_STATUS, 1)] up) with fab := { up.fab with claim := 1 } }, _, _, by decide +kernel, rfl, rfl⟩,
    ⟨(regs [(Reg.FAB_CTRL, 1), (Reg.FAB_STATUS, 1)] up), by decide +kernel⟩,
    ⟨1, { dest := 0xFFF, src := 7, vc := 1, hops := 1, flags := 4, seq := 1, frame := 2, xinfo := 3 }, { depth := 1, path := 2 }, 9, 6, 1, (regs [(Reg.FAB_P_STATUS 1, 1)] up), _, _, rfl, by decide +kernel, rfl⟩,
    ⟨1, { dest := 0xFFF, src := 7, vc := 1, hops := 1, flags := 4, seq := 1, frame := 2, xinfo := 3 }, { depth := 1, path := 2 }, 9, 6, 1, (pinned [(Reg.FAB_UID_LO, 9), (Reg.FAB_UID_HI, 0)] (regs [(Reg.FAB_P_STATUS 1, 1), (Reg.FAB_CTRL, 1), (Reg.FAB_STATUS, 4)] up)), _, _, _, _, _, _, rfl, by decide +kernel, rfl, by decide +kernel, rfl, by decide +kernel, rfl, rfl, rfl⟩,
    ⟨1, { dest := 5, src := 7, vc := 1, hops := 1, flags := 4, seq := 1, frame := 2, xinfo := 3 }, { depth := 1, path := 2 }, 9, 6, [], (regs [(Reg.FAB_P_STATUS 1, 1)] up), _, _, _, rfl, rfl, by decide +kernel, rfl⟩,
    ⟨1, { dest := 5, src := 7, vc := 1, hops := 1, flags := 4, seq := 1, frame := 2, xinfo := 3 }, { depth := 1, path := 2 }, 9, 6, [], { (regs [(Reg.FAB_P_STATUS 1, 1), (Reg.FAB_STATUS, 8)] up) with fab := { up.fab with asg := some { uid := 9, fid := 6, path := [2], parent := 1, tries := 0 } } }, _, _, _, { uid := 9, fid := 6, path := [2], parent := 1, tries := 0 }, rfl, rfl, by decide +kernel, rfl, by decide +kernel⟩,
    ⟨{ up with fab := { up.fab with asg := some { uid := 9, fid := 6, path := [2], parent := 1, tries := 2 } } }, { uid := 9, fid := 6, path := [2], parent := 1, tries := 2 }, by decide +kernel⟩,
    ⟨{ up with fab := { up.fab with asg := some { uid := 9, fid := 6, path := [2], parent := 1, tries := 3 } } }, { uid := 9, fid := 6, path := [2], parent := 1, tries := 3 }, by decide +kernel⟩,
    ⟨1, { dest := 5, src := 7, vc := 1, hops := 1, flags := 4, seq := 1, frame := 2, xinfo := 3 }, { depth := 1, path := 2 }, 9, (List.replicate 2180 0), (regs [(Reg.FAB_P_STATUS 1, 1), (Reg.FAB_CTRL, 1)] up), _, _, rfl, by decide +kernel, rfl⟩,
    ⟨1, { dest := 5, src := 7, vc := 1, hops := 1, flags := 4, seq := 1, frame := 2, xinfo := 3 }, { depth := 1, path := 2 }, 9, (List.replicate 2180 0), (regs [(Reg.FAB_P_STATUS 1, 1), (Reg.FAB_CTRL, 1)] up), _, _, _, rfl, by decide +kernel, rfl, by decide +kernel, rfl⟩,
    ⟨1, { dest := 5, src := 7, vc := 1, hops := 1, flags := 0, seq := 1, frame := 2, xinfo := 3 }, 9, 70000, { (regs [(Reg.FAB_P_STATUS 1, 1), (Reg.FAB_STATUS, 84)] up) with fab := { up.fab with staged := some 9 } }, _, _, rfl, by decide +kernel, rfl⟩,
    ⟨1, { dest := 5, src := 7, vc := 1, hops := 1, flags := 0, seq := 1, frame := 2, xinfo := 3 }, 9, 70000, { (regs [(Reg.FAB_P_STATUS 1, 1), (Reg.FAB_STATUS, 84)] up) with fab := { up.fab with staged := some 9 } }, _, _, _, rfl, by decide +kernel, rfl, by decide +kernel, rfl⟩,
    ⟨{ up with fab := { up.fab with staged := some 9, commitAt := some 70000 } }, 70000, 9, _, _, _, _, _, by decide +kernel, rfl, rfl, rfl, rfl, rfl⟩,
    ⟨up, by decide +kernel⟩,
    ⟨1, { dest := 5, src := 7, vc := 1, hops := 1, flags := 4, seq := 1, frame := 2, xinfo := 3 }, { depth := 1, path := 2 }, 9, 0, (regs [(Reg.FAB_P_STATUS 1, 1)] up), _, _, rfl, by decide +kernel, rfl⟩,
    ⟨1, { dest := 5, src := 7, vc := 1, hops := 1, flags := 4, seq := 1, frame := 2, xinfo := 3 }, { depth := 1, path := 2 }, 9, { (regs [(Reg.FAB_P_STATUS 1, 1), (Reg.FAB_STATUS, 8)] up) with fab := { up.fab with topo := [{ uid := 9, fid := 7, path := [2], parent := 1, neigh := [] }] } }, _, _, _, { uid := 9, fid := 7, path := [2], parent := 1, neigh := [] }, rfl, by decide +kernel, rfl, by decide +kernel, rfl, by decide +kernel⟩,
    ⟨1, { hdr := { dest := 5, src := 7, vc := 1, hops := 1, flags := 0, seq := 1, frame := 2, xinfo := 3 }, way := { depth := 1, path := 2 } }, 9, 1, true, 4, (regs [(Reg.FAB_P_STATUS 1, 1)] up), _, _, rfl, by decide +kernel, rfl⟩,
    ⟨1, { hdr := { dest := 5, src := 7, vc := 1, hops := 1, flags := 0, seq := 1, frame := 2, xinfo := 3 }, way := { depth := 1, path := 2 } }, 9, 1, true, 4, (regs [(Reg.FAB_P_STATUS 1, 1), (Reg.FAB_STATUS, 92)] up), _, _, _, rfl, by decide +kernel, rfl, by decide +kernel, rfl, by decide +kernel⟩,
    ⟨1, 0, 0, 0, 0, (regs [(Reg.FAB_P_STATUS 1, 1)] up), _, by decide +kernel, rfl⟩,
    ⟨1, 0, 0, 0, 0, (regs [(Reg.FAB_P_STATUS 1, 1)] up), _, by decide +kernel, rfl⟩,
    ⟨1, (regs [(Reg.FAB_P_STATUS 1, 1)] up), _, by decide +kernel, rfl⟩,
    ⟨1, 3, (modFabPort 1 (fun x => { x with q := [{ ty := 1, vc := 3, dest := 5, src := 7, hops := 1, flags := 0, seq := 1, frame := 2, xinfo := 3, payload := [] }] }) up), { ty := 1, vc := 3, dest := 5, src := 7, hops := 1, flags := 0, seq := 1, frame := 2, xinfo := 3, payload := [] }, by decide +kernel⟩,
    ⟨2, (regs [(Reg.FAB_SUB_CFG 2, 1)] up), by decide +kernel⟩,
    ⟨1, badFab, true, (regs [(Reg.FAB_P_STATUS 1, 1)] up), by decide +kernel⟩,
    ⟨1, (regs [(Reg.FAB_P_STATUS 1, 1)] up), by decide +kernel⟩,
    ⟨1, (regs [(Reg.SDS_STR_STATUS 1, 1)] up), by decide +kernel⟩⟩

/-- Premises of PrecisionTimeCommandsTakeEffect, clause by clause. -/
theorem wit_PrecisionTimeCommandsTakeEffect :
    (∃ (q : Fin 6) (ps : Nat) (msg : List Byte) (s : State), (ptpUp s q.val = true) ∧ (ptpGood s q.val msg = false)) ∧
    (∃ (q : Fin 6) (ps : Nat) (msg : List Byte) (s : State), ∃ (t : State) (x : Int), ((ptpUp s q.val = true) ∧ (ptpGood s q.val msg = true)) ∧ (t = s.count (Reg.PTP_PORT_CNT_RX q.val)) ∧ ((leAt msg 0 1 % 16 < 4) ∧ (ptpStamps t q.val = true)) ∧ (x = psToNs t ((ps : Int) - (ptpConst (ptpRate t q.val)).2 - sext 32 (t.rd (Reg.PTP_PORT_IG_ADJ q.val)).toNat))) ∧
    (∃ (q : Fin 6) (ps : Nat) (msg : List Byte) (s : State), ∃ (t : State), ((ptpUp s q.val = true) ∧ (ptpGood s q.val msg = true)) ∧ (t = s.count (Reg.PTP_PORT_CNT_RX q.val)) ∧ (4 ≤ leAt msg 0 1 % 16)) ∧
    (∃ (q : Fin 6) (ps : Nat) (msg : List Byte) (s : State), (ptpUp s q.val = false)) ∧
    (∃ (q : Fin 6) (ps : Nat) (b : Bool) (msg : List Byte) (s : State), (ptpUp s q.val = true) ∧ (ptpSends s q.val (leAt msg 0 1 % 16) = true) ∧ (leAt msg 0 1 % 16 < 4) ∧ ((b && ptpStamps s q.val) = false)) ∧
    (∃ (q : Fin 6) (ps : Nat) (b : Bool) (msg : List Byte) (s : State), (ptpUp s q.val = false ∨ ptpSends s q.val (leAt msg 0 1 % 16) = false)) ∧
    (∃ (q : Fin 6) (ps : Nat) (b : Bool) (msg : List Byte) (s : State), ∃ (v : Int), (ptpUp s q.val = true) ∧ (ptpSends s q.val 8 = true) ∧ (leAt msg 0 1 % 16 = 8) ∧ (txTs s q.val 0 = some v)) ∧
    (∃ (q : Fin 6) (ps : Nat) (b : Bool) (msg : List Byte) (s : State), ∃ (v : Int), (ptpUp s q.val = true) ∧ (ptpSends s q.val 10 = true) ∧ (leAt msg 0 1 % 16 = 10) ∧ (txTs s q.val 3 = some v)) ∧
    (∃ (q : Fin 6) (ps : Nat) (msg : List Byte) (s : State), ∃ (x : Int), ((ptpUp s q.val = true) ∧ (ptpSends s q.val 0 = true) ∧ (leAt msg 0 1 % 16 = 0) ∧ (ptpStamps s q.val = true) ∧ (twoStep s q.val = false)) ∧ (x = psToNs s ((ps : Int) + (ptpConst (ptpRate s q.val)).1 + sext 32 (s.rd (Reg.PTP_PORT_EG_ADJ q.val)).toNat))) ∧
    (∃ (w : Word) (s : State), (s.bit Reg.PTP_CTRL 0 = false) ∧ ((s.count Reg.PTP_CNT_OFFSET).bit Reg.PTP_CTRL 0 = false)) ∧
    (∃ (w : Word) (s : State), ∃ (x : Int) (i : Int) (a : Int) (t : State), (x = ns16 (sext 32 w.toNat) + s.fd Reg.PTP_SERVO_OFFSET_FRAC 0 16) ∧ ((s.count Reg.PTP_CNT_OFFSET).bit Reg.PTP_CTRL 0 = true) ∧ (t = (s.count Reg.PTP_CNT_OFFSET).wr Reg.PTP_LAST_OFFSET w) ∧ (t.bit Reg.PTP_CTRL 1 = false) ∧ (i = t.ptp.integ - servoTerm t x (t.fd Reg.PTP_SERVO_CFG 8 5)) ∧ (clampServo i = i) ∧ (a = i - servoTerm t x (t.fd Reg.PTP_SERVO_CFG 0 5)) ∧ (clampServo a = a)) ∧
    (∃ (s : State), (s.bit Reg.PTP_CTRL 0 = true) ∧ (s.fd Reg.PTP_STATUS 0 2 = 1 ∨ s.fd Reg.PTP_STATUS 0 2 = 2)) ∧
    (∃ (z : State) (s : State), (s = rasterFirst z)) ∧
    (∃ (z : State) (s : State), (s = rasterFirst z)) ∧
    (∃ (n : Fin 4) (z : State) (s : State), (s = rasterFirst z) ∧ ∃ (w : Nat) (x : Nat), (s.bit (Reg.PTP_TT_CFG n.val) 0 = false) ∧ (w = (s.rd (Reg.PTP_TT_WIDTH n.val)).toNat) ∧ (20 ≤ w) ∧ (x = ((s.rd (Reg.PTP_TT_START_HI n.val)).toNat * 2 ^ 32 + (s.rd (Reg.PTP_TT_START_LO n.val)).toNat) * 65536)) ∧
    (∃ (n : Fin 4) (z : State) (s : State), (s = rasterFirst z) ∧ ((s.rd (Reg.PTP_TT_WIDTH n.val)).toNat < 20)) ∧
    (∃ (n : Fin 4) (z : State) (s : State), (s = rasterFirst z) ∧ (ttLive s n.val = true)) ∧
    (∃ (n : Fin 4) (z : State) (s : State), (s = rasterFirst z) ∧ ∃ (w : Nat) (p : Nat) (x : Nat) (k : Nat), (s.bit (Reg.PTP_TT_CFG n.val) 0 = true) ∧ (w = (s.rd (Reg.PTP_TT_WIDTH n.val)).toNat) ∧ (p = (s.rd (Reg.PTP_TT_PERIOD n.val)).toNat * 65536 + s.fd (Reg.PTP_TT_PERIOD_FRAC n.val) 0 16) ∧ ((20 ≤ w) ∧ (40 * 65536 ≤ p) ∧ ((w + 20) * 65536 ≤ p)) ∧ (x = ((s.rd (Reg.PTP_TT_START_HI n.val)).toNat * 2 ^ 32 + (s.rd (Reg.PTP_TT_START_LO n.val)).toNat) * 65536) ∧ (k = (if x ≤ s.tickNs * 65536 then (s.tickNs * 65536 - x) / p + 1 else 0))) ∧
    (∃ (n : Fin 4) (s : State), ∃ (r : Int) (t : State), ((ttLive s n.val = true) ∧ (s.pwr.state < 2) ∧ ((tt s n.val).periodic = false) ∧ ((tt s n.val).late = none)) ∧ (r = nearNs (ttNext (tt s n.val))) ∧ (t = (s.advanceTo r).emit (.edge (1 + n.val) (true != (s.advanceTo r).bit (Reg.PTP_TT_CFG n.val) 1) r))) ∧
    (∃ (n : Fin 4) (s : State), ∃ (k : Nat) (t : State), ((ttLive s n.val = true) ∧ (s.pwr.state < 2) ∧ ((tt s n.val).periodic = false) ∧ ((tt s n.val).late = some k)) ∧ (t = (s.advanceTo (ns16 k)).emit (.edge (1 + n.val) (true != (s.advanceTo (ns16 k)).bit (Reg.PTP_TT_CFG n.val) 1) (ns16 k)))) ∧
    (∃ (n : Fin 4) (s : State), ∃ (r : Int) (t : State), ((ttLive s n.val = true) ∧ (s.pwr.state < 2) ∧ ((tt s n.val).periodic = true) ∧ ((tt s n.val).late = none)) ∧ (r = nearNs (ttNext (tt s n.val))) ∧ (t = (s.advanceTo r).emit (.edge (1 + n.val) (true != (s.advanceTo r).bit (Reg.PTP_TT_CFG n.val) 1) r))) ∧
    (∃ (n : Fin 4) (s : State), (2 ≤ s.pwr.state)) ∧
    (∃ (n : Fin 4) (s : State), ∃ (r : Int), ((tt s n.val).fall = some r)) ∧
    (∃ (n : Fin 4) (b : Bool) (x : Nat) (s : State), ∃ (t : State), (t = tcLevel n.val (!b) s) ∧ (t.bit (Reg.PTP_TC_CFG n.val) 0 = true) ∧ ((t.fd (Reg.PTP_TC_CFG n.val) 1 2).testBit (if b = true then 1 else 0) = true) ∧ ((tcFifo t n.val).length < 16)) ∧
    (∃ (n : Fin 4) (b : Bool) (x : Nat) (s : State), ∃ (t : State), (t = tcLevel n.val (!b) s) ∧ (t.bit (Reg.PTP_TC_CFG n.val) 0 = true) ∧ ((t.fd (Reg.PTP_TC_CFG n.val) 1 2).testBit (if b = true then 1 else 0) = true) ∧ (16 ≤ (tcFifo t n.val).length)) ∧
    (∃ (n : Fin 4) (b : Bool) (x : Nat) (s : State), ∃ (t : State), (t = tcLevel n.val (!b) s) ∧ (t.bit (Reg.PTP_TC_CFG n.val) 0 = false ∨ (t.fd (Reg.PTP_TC_CFG n.val) 1 2).testBit (if b = true then 1 else 0) = false)) ∧
    (∃ (n : Fin 4) (z : State) (s : State), (s = rasterFirst z)) :=
  ⟨⟨1, 0, [], (regs [(Reg.PTP_PORT_CFG 1, 1), (Reg.FAB_P_STATUS 1, 1)] up), by decide +kernel⟩,
    ⟨1, 9000, ([2, 2] ++ leBytes 32 0), (regs [(Reg.PTP_PORT_CFG 1, 1), (Reg.FAB_P_STATUS 1, 1)] up), _, _, by decide +kernel, rfl, by decide +kernel, rfl⟩,
    ⟨1, 0, ([11, 2] ++ leBytes 32 0), (regs [(Reg.PTP_PORT_CFG 1, 1), (Reg.FAB_P_STATUS 1, 1)] up), _, by decide +kernel, rfl, by decide +kernel⟩,
    ⟨1, 0, [], up, by decide +kernel⟩,
    ⟨1, 0, false, [2, 2], (regs [(Reg.PTP_PORT_CFG 1, 1), (Reg.FAB_P_STATUS 1, 1)] up), by decide +kernel⟩,
    ⟨1, 0, true, [], up, by decide +kernel⟩,
    ⟨1, 0, true, [8, 2], { (regs [(Reg.PTP_PORT_CFG 1, 1), (Reg.FAB_P_STATUS 1, 1), (Reg.FAB_STATUS, 33554436)] up) with ptp := { up.ptp with txTs := [(16, some 5)] } }, 5, by decide +kernel⟩,
    ⟨4, 0, true, [10, 2], { (regs [(Reg.PTP_PORT_CFG 4, 7), (Reg.MAC_STATUS 0, 1)] up) with ptp := { up.ptp with txTs := [(67, some 5)] } }, 5, by decide +kernel⟩,
    ⟨1, 9000, [0, 2], (regs [(Reg.PTP_PORT_CFG 1, 1), (Reg.FAB_P_STATUS 1, 1), (Reg.FAB_STATUS, 33554436)] up), _, by decide +kernel, rfl⟩,
    ⟨5, up, by decide +kernel⟩,
    ⟨5, (regs [(Reg.PTP_CTRL, 1)] up), _, _, _, _, rfl, by decide +kernel, rfl, by decide +kernel, rfl, by decide +kernel, rfl, by decide +kernel⟩,
    ⟨(regs [(Reg.PTP_CTRL, 1), (Reg.PTP_STATUS, 2)] up), by decide +kernel⟩,
    ⟨up, _, rfl⟩,
    ⟨up, _, rfl⟩,
    ⟨1, (regs [(Reg.PTP_TT_WIDTH 1, 20)] up), _, rfl, _, _, by decide +kernel, rfl, by decide +kernel, rfl⟩,
    ⟨1, (regs [(Reg.PTP_TT_WIDTH 1, 19)] up), _, rfl, by decide +kernel⟩,
    ⟨1, (regs [(Reg.PTP_TT_CTRL 1, 4)] up), _, rfl, by decide +kernel⟩,
    ⟨1, (regs [(Reg.PTP_TT_WIDTH 1, 20), (Reg.PTP_TT_PERIOD 1, 40), (Reg.PTP_TT_CFG 1, 1)] up), _, rfl, _, _, _, _, by decide +kernel, rfl, rfl, by decide +kernel, rfl, rfl⟩,
    ⟨1, (regs [(Reg.PTP_TT_CTRL 1, 4)] up), _, _, by decide +kernel, rfl, rfl⟩,
    ⟨1, (modTt 1 (fun x => { x with late := some 1000 }) (regs [(Reg.PTP_TT_CTRL 1, 4)] up)), 1000, _, by decide +kernel, rfl⟩,
    ⟨1, (modTt 1 (fun x => { x with periodic := true }) (regs [(Reg.PTP_TT_CTRL 1, 4)] up)), _, _, by decide +kernel, rfl, rfl⟩,
    ⟨1, { up with pwr := { up.pwr with state := 2 } }, by decide +kernel⟩,
    ⟨1, (modTt 1 (fun x => { x with fall := some 65536 }) up), 65536, by decide +kernel⟩,
    ⟨1, true, 0, (regs [(Reg.PTP_TC_CFG 1, 7)] up), _, rfl, by decide +kernel⟩,
    ⟨1, true, 0, { (regs [(Reg.PTP_TC_CFG 1, 7)] up) with ptp := { up.ptp with tc := [(1, List.replicate 16 (5, true))] } }, _, rfl, by decide +kernel⟩,
    ⟨1, true, 0, up, _, rfl, by decide +kernel⟩,
    ⟨1, up, _, rfl⟩⟩

/-- Premises of PowerHousekeepingResetAndBootEventsTakeEffect, clause by clause. -/
theorem wit_PowerHousekeepingResetAndBootEventsTakeEffect :
    (∃ (ch : Fin 48) (v : Int) (s : State), (s.bit Reg.HK_CTRL 0 = true) ∧ (roleOff s ch.val = false) ∧ (18 ≤ ch.val) ∧ (ch.val < 42)) ∧
    (∃ (ch : Fin 48) (v : Int) (s : State), (s.bit Reg.HK_CTRL 0 = true) ∧ (roleOff s ch.val = false) ∧ (12 ≤ ch.val) ∧ (ch.val < 18)) ∧
    (∃ (ch : Fin 48) (c : Fin 4096) (s : State), ∃ (f : Int × Int), (s.bit Reg.HK_CTRL 0 = true) ∧ (roleOff s ch.val = false) ∧ (4 ≤ ch.val) ∧ (ch.val < 12) ∧ (thermistorTemp (s.fd (Reg.HK_CH_CFG ch.val) 16 16) c.val = some f)) ∧
    (∃ (z : State) (s : State), (s = rasterFirst z) ∧ ∃ (l : List (Nat × Bool)) (t : State), (s.bit Reg.HK_CTRL 0 = true) ∧ (l = (roundSensors s).map (fun k => (k, brokenNow s k))) ∧ (t = forEach l (fun e u => brokenEval e.1 e.2 u) s)) ∧
    (∃ (u : Fin 97) (l : List Nat) (e : Byte) (m : BitVec 10) (b : Bool) (s : State), ∃ (t : State), (s.hk.calRun = some u.val) ∧ (t = { s with hk := { s.hk with calRun := none, calQueue := s.hk.calQueue.erase u.val } })) ∧
    (∃ (s : State), (s.pwr.inReset = true ∨ s.pwr.stopped = true)) ∧
    (∃ (s : State), ∃ (t : State) (u : State) (v : State), ((s.pwr.inReset = false) ∧ (s.pwr.stopped = false)) ∧ (t = s.wb Reg.HK_STATUS 1 true) ∧ (u = t.event 0x0022 14 2 13 12 [0, 12]) ∧ (v = { u with mbx := { u.mbx with evNew := t.mbx.evNew, logSaved := u.mbx.log } }) ∧ (u.hk.calRun = none)) ∧
    (∃ (s : State), ((s.wb Reg.HK_STATUS 1 false).pwr.resetHeld = none)) ∧
    (∃ (s : State), ∃ (k : Nat) (c : Nat), ((s.wb Reg.HK_STATUS 1 false).pwr.resetHeld = some (k, c))) ∧
    (∃ (s : State), (s.pwr.target = 1) ∧ (s.pwr.step = 4)) ∧
    (∃ (s : State), (s.pwr.target = 2) ∧ (s.pwr.step = 6)) ∧
    (∃ (s : State), (1 ≤ s.pwr.target) ∧ (s.pwr.target ≤ 3) ∧ (3 ≤ s.pwr.step)) ∧
    (∃ (s : State), (s.pwr.state ≠ 4)) ∧
    (∃ (s : State), (s.bit Reg.AON_WAKE_CFG 5 = true)) ∧
    (∃ (s : State), ∃ (t : State), (s.pwr.thaw = 6) ∧ (t = s.advanceTo (ns16 (Int.ofNat (s.pwr.since + thawAt (s.pwr.state == 3) 6 * 1000))))) ∧
    (∃ (s : State), ∃ (k : Nat) (t : State), ((s.pwr.thaw = k) ∧ (1 ≤ k) ∧ (k ≠ 6)) ∧ (t = thawFinish k (s.advanceTo (ns16 (Int.ofNat (s.pwr.since + thawAt (s.pwr.state == 3) k * 1000))))) ∧ ((k == 2 && t.pwr.state == 2) = false)) ∧
    (∃ (mv : BitVec 16) (s : State), ∃ (t : State), (t = (s.event 0x0021 2 2 clsDevice 0 ([0, 0] ++ det 2 mv.toNat)).wb Reg.AON_STATUS 1 false)) ∧
    (∃ (s : State), ∃ (t : State), (t = s.wb Reg.AON_STATUS 1 true)) ∧
    (∃ (mv : BitVec 16) (s : State), ∃ (t : State), (t = s.event 0x0021 2 2 clsDevice 0 ([1, 0] ++ det 2 mv.toNat))) ∧
    (∃ (k : Fin 8) (s : State), ∃ (t : State), (s.pwr.vinLow = true) ∧ (t = (resetNow true 1 ((modPwr (fun p => { p with vinLow := false }) s).wr Reg.PMU_STRAPS (BitVec.ofNat 32 (if s.pins.lost.testBit 0 = true then 0 else k.val)))).wb Reg.AON_STATUS 1 true)) ∧
    (∃ (s : State), ∃ (t : State), (t = modPwr (fun p => { p with resetLow := true }) s) ∧ (t.pwr.shut = false) ∧ (t.pwr.vinLow = false) ∧ (t.pwr.state ≠ 4) ∧ (t.bit Reg.HK_STATUS 1 = false)) ∧
    (∃ (s : State), ∃ (t : State), (t = modPwr (fun p => { p with resetLow := false }) s) ∧ (t.pwr.shut = false) ∧ (t.pwr.vinLow = false) ∧ (t.pwr.state ≠ 4)) ∧
    (∃ (s : State), (s.pwr.shut = false) ∧ (s.pwr.vinLow = false) ∧ (s.pwr.state ≠ 4) ∧ (s.bit Reg.HK_STATUS 1 = false)) ∧
    (∃ (s : State), ∃ (t : State), (t = s.event 0x0011 1 3 clsDevice 0 []) ∧ (t.pwr.shut = false) ∧ (t.pwr.vinLow = false) ∧ (t.pwr.state ≠ 4) ∧ (t.bit Reg.HK_STATUS 1 = false)) ∧
    (∃ (s : State), ∃ (t : State), (t = s.event 0x0012 1 2 clsDevice 0 [2]) ∧ (t.pwr.shut = false) ∧ (t.pwr.vinLow = false) ∧ (t.pwr.state ≠ 4) ∧ (t.bit Reg.HK_STATUS 1 = false)) ∧
    (∃ (s : State), ∃ (t : State), (t = switchOff s)) ∧
    (∃ (b : Fin 2) (s : State), ∃ (t : State), (s.pins.lost.testBit b.val = false) ∧ (t = { s with pins := { s.pins with lost := s.pins.lost + 2 ^ b.val } })) ∧
    (∃ (b : Fin 2) (v : Bool) (s : State), ∃ (t : State), (s.pins.lost.testBit b.val = true) ∧ (t = { s with pins := { s.pins with lost := s.pins.lost - 2 ^ b.val } })) ∧
    (∃ (x : Bool) (y : Bool) (s : State), (s.pwr.inReset = false) ∧ (stage s < 3) ∧ (bootBank s x y = none)) ∧
    (∃ (x : Bool) (y : Bool) (s : State), ∃ (b : Nat) (t : State), ((s.pwr.inReset = false) ∧ (stage s < 3) ∧ (bootBank s x y = some b)) ∧ (t = ((s.wf Reg.FW_STATE 0 1 b).wr Reg.FW_GEN (BitVec.ofNat 32 (fwRec s b).gen)).wr Reg.FW_VERSION (Config.fwVersion (fwRec s b).gen)) ∧ (t.bit Reg.PMU_RESET_CAUSE 4 = true)) ∧
    (∃ (s : State), (stage s = 3) ∧ ((bootStage 4 s).bit Reg.PMU_STRAPS 0 = true)) ∧
    (∃ (s : State), (4 ≤ stage s) ∧ (stage s < 7) ∧ (s.bit Reg.PMU_STATE 13 = false)) ∧
    (∃ (s : State), ∃ (t : State), ((4 ≤ stage s) ∧ (stage s < 7) ∧ (s.bit Reg.PMU_STATE 13 = false)) ∧ (t = bootStage 7 (modPwr (fun p => { p with dramReady := true }) s))) ∧
    (∃ (s : State), (mbPaused s = true)) ∧
    (∃ (s : State), ∃ (t : State), (fwUpdate s = 5) ∧ (t = setFwRec (fwActive s) { fwRec s (fwActive s) with st := 2 } s)) ∧
    (∃ (s : State), (1 ≤ fwUpdate s) ∧ (fwUpdate s ≤ 3)) ∧
    (∃ (s : State), (fwUpdate s = 2)) ∧
    (∃ (s : State), (stage s = 7)) ∧
    (∃ (n : Fin 4) (x : RxFrame) (s : State), (strTakes s n.val = true) ∧ (strFault x.frame x.eop = 1)) ∧
    (∃ (n : Fin 4) (x : RxFrame) (s : State), (strTakes s n.val = true) ∧ (strFault x.frame x.eop = 2)) ∧
    (∃ (n : Fin 4) (x : RxFrame) (s : State), (strTakes s n.val = false ∨ strFault x.frame x.eop = 0)) ∧
    (∃ (n : Fin 4) (s : State), ∃ (t : State), ((s.str n.val).sending = true) ∧ (t = s.emit (.stream n.val (strFrame 3 (s.str n.val).sfn (leBytes 2 (s.str n.val).height ++ leBytes 2 0 ++ leBytes 4 s.wrapNs.toNat))))) ∧
    (∃ (l : Fin 24) (n : Nat) (b : Nat) (s : State), ∃ (c : Word) (x : List Bool) (g : List Bool) (rx : List Bool) (tx : List Bool) (t : State), (laneStage s l.val = 7) ∧ (c = s.rd (Reg.SDS_LANE_CTRL l.val)) ∧ (x = (List.range n).map b.testBit) ∧ (g = (prbsGenerate s l.val n).1) ∧ (rx = (if fld c 1 2 = 1 then g.map (· != c.getLsbD 7) else x).map (· != c.getLsbD 8)) ∧ (tx = (if fld c 1 2 = 1 then [] else if fld c 1 2 = 3 then rx.map (· != c.getLsbD 7) else g.map (· != c.getLsbD 7))) ∧ (t = modLane l.val (fun y => { y with gen := (prbsGenerate s l.val n).2 }) s)) ∧
    (∃ (l : Fin 24) (n : Nat) (b : Nat) (s : State), (laneStage s l.val ≠ 7)) :=
  ⟨⟨20, 5, (regs [(Reg.HK_CTRL, 1)] up), by decide +kernel⟩,
    ⟨13, 5, (regs [(Reg.HK_CTRL, 1)] up), by decide +kernel⟩,
    ⟨5, 2048, (regs [(Reg.HK_CTRL, 1), (Reg.HK_CH_CFG 5, 1 + 3435 * 65536)] up), (thermistorTemp 3435 2048).getD (0, 0), by decide +kernel⟩,
    ⟨(regs [(Reg.HK_CTRL, 1)] up), _, rfl, _, _, by decide +kernel, rfl, rfl⟩,
    ⟨5, [3], 100, 0, true, { up with hk := { up.hk with calRun := some 5 } }, _, by decide +kernel, rfl⟩,
    ⟨{ up with pwr := { up.pwr with stopped := true } }, by decide +kernel⟩,
    ⟨up, _, _, _, by decide +kernel, rfl, rfl, rfl, by decide +kernel⟩,
    ⟨up, by decide +kernel⟩,
    ⟨{ up with pwr := { up.pwr with resetHeld := some (1, 2) } }, 1, 2, by decide +kernel⟩,
    ⟨{ up with pwr := { up.pwr with target := 1, step := 4 } }, by decide +kernel⟩,
    ⟨{ up with pwr := { up.pwr with target := 2, step := 6 } }, by decide +kernel⟩,
    ⟨{ up with pwr := { up.pwr with target := 1, step := 3 } }, by decide +kernel⟩,
    ⟨up, by decide +kernel⟩,
    ⟨(regs [(Reg.AON_WAKE_CFG, 32)] up), by decide +kernel⟩,
    ⟨{ up with pwr := { up.pwr with thaw := 6 } }, _, by decide +kernel, rfl⟩,
    ⟨{ up with pwr := { up.pwr with thaw := 3 } }, 3, _, by decide +kernel, rfl, by decide +kernel⟩,
    ⟨2600, up, _, rfl⟩,
    ⟨up, _, rfl⟩,
    ⟨9000, up, _, rfl⟩,
    ⟨0, { up with pwr := { up.pwr with vinLow := true } }, _, by decide +kernel, rfl⟩,
    ⟨up, _, rfl, by decide +kernel⟩,
    ⟨up, _, rfl, by decide +kernel⟩,
    ⟨up, by decide +kernel⟩,
    ⟨up, _, rfl, by decide +kernel⟩,
    ⟨up, _, rfl, by decide +kernel⟩,
    ⟨up, _, rfl⟩,
    ⟨0, up, _, by decide +kernel, rfl⟩,
    ⟨0, true, { up with pins := { up.pins with lost := 1 } }, _, by decide +kernel, rfl⟩,
    ⟨false, false, State.reset, by decide +kernel⟩,
    ⟨true, true, (regs [(Reg.PMU_RESET_CAUSE, 16)] State.reset), 0, _, by decide +kernel, rfl, (cause_wit _ _ _ (by decide +kernel) (by decide +kernel))⟩,
    ⟨(regs [(Reg.PMU_STATE, 768), (Reg.PMU_STRAPS, 1)] up), by decide +kernel⟩,
    ⟨(regs [(Reg.PMU_STATE, 1024)] up), by decide +kernel⟩,
    ⟨(regs [(Reg.PMU_STATE, 1024)] up), _, by decide +kernel, rfl⟩,
    ⟨(regs [(Reg.MBX_STATUS, 1)] up), by decide +kernel⟩,
    ⟨(regs [(Reg.FW_STATE, 10)] up), _, by decide +kernel, rfl⟩,
    ⟨(regs [(Reg.FW_STATE, 2)] up), by decide +kernel⟩,
    ⟨(regs [(Reg.FW_STATE, 4)] up), by decide +kernel⟩,
    ⟨(regs [(Reg.PMU_STATE, 1792)] up), by decide +kernel⟩,
    ⟨1, { frame := [], eop := true }, (regs [(Reg.SDS_STR_CTRL 1, 33), (Reg.SDS_STR_STATUS 1, 1)] up), by decide +kernel⟩,
    ⟨1, { frame := emptyStr 9, eop := true }, (regs [(Reg.SDS_STR_CTRL 1, 33), (Reg.SDS_STR_STATUS 1, 1)] up), by decide +kernel⟩,
    ⟨1, { frame := [], eop := true }, up, by decide +kernel⟩,
    ⟨1, (up.modStr 1 fun x => { x with sending := true }), _, by decide +kernel, rfl⟩,
    ⟨4, 8, 0x5A, (regs [(Reg.SDS_LANE_STATE 4, 7), (Reg.SDS_LANE_CTRL 4, 0x21)] up), _, _, _, _, _, _, by decide +kernel, rfl, rfl, rfl, rfl, rfl, rfl⟩,
    ⟨4, 0, 0, up, by decide +kernel⟩⟩

end Sys2Proof.Tests
end

section
/-! SUPPORT. A step and the command it takes: what `step` answers on an empty queue and on a command, and that every command answers a next
state and leaves the queue to `step`. -/
namespace Sys2Proof.Machine

theorem step_of_nil {s : State} (h : s.pending = []) : step s = idleTick s := by
  unfold step
  rw [h]

theorem step_of_cons {c : Instr} {rest : List Instr} {s : State} (h : s.pending = c :: rest) :
    step s = exec c { s with pending := rest } := by
  unfold step
  rw [h]

theorem idleTick_eq (s : State) : idleTick s = .next (State.settle (background (clockTick s))) := rfl

/-- The meaning of every command ends in `done`, never in a fault or a refusal. -/
theorem exec_done (i : Instr) (s : State) : ∃ u, exec i s = done u := by
  cases i <;> exact ⟨_, rfl⟩

/-- Every command keeps the canonical form of the stores and the queue; one arm per command, as in `exec`. -/
theorem keeps_exec {s t : State} : (i : Instr) → exec i s = .next t → Keeps s t
  | .sysInfo .., h => keeps_execSysInfo h
  | .sysStatus .., h => keeps_execSysStatus h
  | .sysReset .., h => keeps_execSysReset h
  | .sysProtect .., h => keeps_execSysProtect h
  | .sysMbxCfg .., h => keeps_execSysMbxCfg h
  | .sysAliveReset .., h => keeps_execSysAliveReset h
  | .pwrGet .., h => keeps_execPwrGet h
  | .pwrEnter .., h => keeps_execPwrEnter h
  | .pwrOff .., h => keeps_execPwrOff h
  | .pwrPadRelease .., h => keeps_execPwrPadRelease h
  | .rasGet .., h => keeps_execRasGet h
  | .rasTiming .., h => keeps_execRasTiming h
  | .rasEpoch .., h => keeps_execRasEpoch h
  | .rasEnable .., h => keeps_execRasEnable h
  | .rasSyncCfg .., h => keeps_execRasSyncCfg h
  | .layerGet .., h => keeps_execLayerGet h
  | .layerSet .., h => keeps_execLayerSet h
  | .canvasSet .., h => keeps_execCanvasSet h
  | .lutLoad .., h => keeps_execLutLoad h
  | .surfCreate .., h => keeps_execSurfCreate h
  | .surfDestroy .., h => keeps_execSurfDestroy h
  | .surfWrite .., h => keeps_execSurfWrite h
  | .surfPublish .., h => keeps_execSurfPublish h
  | .surfPool .., h => keeps_execSurfPool h
  | .beamGet .., h => keeps_execBeamGet h
  | .listPut .., h => keeps_execListPut h
  | .beamCfg .., h => keeps_execBeamCfg h
  | .patLoad .., h => keeps_execPatLoad h
  | .glyphLoad .., h => keeps_execGlyphLoad h
  | .gridLoad .., h => keeps_execGridLoad h
  | .corrRead .., h => keeps_execCorrRead h
  | .corrStage .., h => keeps_execCorrStage h
  | .corrApply .., h => keeps_execCorrApply h
  | .corrSave .., h => keeps_execCorrSave h
  | .corrCfg .., h => keeps_execCorrCfg h
  | .curveLoad .., h => keeps_execCurveLoad h
  | .segCfg .., h => keeps_execSegCfg h
  | .healthGet .., h => keeps_execHealthGet h
  | .mapRead .., h => keeps_execMapRead h
  | .healthClear .., h => keeps_execHealthClear h
  | .vfCapture .., h => keeps_execVfCapture h
  | .healthSave .., h => keeps_execHealthSave h
  | .healthCfg .., h => keeps_execHealthCfg h
  | .supGet .., h => keeps_execSupGet h
  | .supCfg .., h => keeps_execSupCfg h
  | .supRestart .., h => keeps_execSupRestart h
  | .supLimit .., h => keeps_execSupLimit h
  | .polGet .., h => keeps_execPolGet h
  | .polSet .., h => keeps_execPolSet h
  | .fbRaise .., h => keeps_execFbRaise h
  | .fbClear .., h => keeps_execFbClear h
  | .snowGet .., h => keeps_execSnowGet h
  | .slotBegin .., h => keeps_execSlotBegin h
  | .slotData .., h => keeps_execSlotData h
  | .slotEnd .., h => keeps_execSlotEnd h
  | .slotAbort .., h => keeps_execSlotAbort h
  | .slotDelete .., h => keeps_execSlotDelete h
  | .setDefault .., h => keeps_execSetDefault h
  | .gainPut .., h => keeps_execGainPut h
  | .levelsPut .., h => keeps_execLevelsPut h
  | .linkGet .., h => keeps_execLinkGet h
  | .linkEnable .., h => keeps_execLinkEnable h
  | .linkRetrain .., h => keeps_execLinkRetrain h
  | .streamCfg .., h => keeps_execStreamCfg h
  | .quadCfg .., h => keeps_execQuadCfg h
  | .laneTest .., h => keeps_execLaneTest h
  | .netCfg .., h => keeps_execNetCfg h
  | .segBlank .., h => keeps_execSegBlank h
  | .segDefaultLoad .., h => keeps_execSegDefaultLoad h
  | .fabGet .., h => keeps_execFabGet h
  | .fabCfg .., h => keeps_execFabCfg h
  | .fabPort .., h => keeps_execFabPort h
  | .fabGroup .., h => keeps_execFabGroup h
  | .fabFwd .., h => keeps_execFabFwd h
  | .fabSub .., h => keeps_execFabSub h
  | .fabRediscover .., h => keeps_execFabRediscover h
  | .fabTopo .., h => keeps_execFabTopo h
  | .timeGet .., h => keeps_execTimeGet h
  | .timeSet .., h => keeps_execTimeSet h
  | .timeUtc .., h => keeps_execTimeUtc h
  | .servoCfg .., h => keeps_execServoCfg h
  | .ptpPort .., h => keeps_execPtpPort h
  | .ttArm .., h => keeps_execTtArm h
  | .tcPop .., h => keeps_execTcPop h
  | .sensorGet .., h => keeps_execSensorGet h
  | .sensorCfg .., h => keeps_execSensorCfg h
  | .calRun .., h => keeps_execCalRun h
  | .calSave .., h => keeps_execCalSave h
  | .crcGet .., h => keeps_execCrcGet h
  | .crcCfg .., h => keeps_execCrcCfg h
  | .crcScan .., h => keeps_execCrcScan h
  | .logRead .., h => keeps_execLogRead h
  | .logClear .., h => keeps_execLogClear h
  | .fwInfo .., h => keeps_execFwInfo h
  | .fwBegin .., h => keeps_execFwBegin h
  | .fwData .., h => keeps_execFwData h
  | .fwVerify .., h => keeps_execFwVerify h
  | .fwCommit .., h => keeps_execFwCommit h
  | .fwAbort .., h => keeps_execFwAbort h
  | .regRead .., h => keeps_execRegRead h
  | .regWrite .., h => keeps_execRegWrite h
  | .regRmw .., h => keeps_execRegRmw h
  | .laEnter .., h => keeps_execLaEnter h
  | .laExit .., h => keeps_execLaExit h
  | .laTol .., h => keeps_execLaTol h
  | .laStatus .., h => keeps_execLaStatus h
  | .stagedLoadTimeout .., h => keeps_execStagedLoadTimeout h
  | .mbnInSluice .., h => keeps_execMbnInSluice h
  | .mbnOutSluice .., h => keeps_execMbnOutSluice h
  | .messageDequeue, h => keeps_execMessageDequeue h
  | .responseRelease .., h => keeps_execResponseRelease h
  | .timedCommandDue .., h => keeps_execTimedCommandDue h
  | .forwardedResponse .., h => keeps_execForwardedResponse h
  | .forwardRecordExpiry .., h => keeps_execForwardRecordExpiry h
  | .mbxCanAssyTimeout .., h => keeps_execMbxCanAssyTimeout h
  | .phase0, h => keeps_execPhase0 h
  | .blankingStart, h => keeps_execBlankingStart h
  | .renderCutoff, h => keeps_execRenderCutoff h
  | .renderPassDone, h => keeps_execRenderPassDone h
  | .syncInEdge .., h => keeps_execSyncInEdge h
  | .syncLost, h => keeps_execSyncLost h
  | .teEdge .., h => keeps_execTeEdge h
  | .teWindowClose, h => keeps_execTeWindowClose h
  | .timeActionDue .., h => keeps_execTimeActionDue h
  | .tactArm .., h => keeps_execTactArm h
  | .tactCancel .., h => keeps_execTactCancel h
  | .rasTimingCommit, h => keeps_execRasTimingCommit h
  | .rasCtrlEnable .., h => keeps_execRasCtrlEnable h
  | .layerCommit .., h => keeps_execLayerCommit h
  | .globalCommit, h => keeps_execGlobalCommit h
  | .beamCommit, h => keeps_execBeamCommit h
  | .corrCommit, h => keeps_execCorrCommit h
  | .polCommit, h => keeps_execPolCommit h
  | .beamCtrlEn .., h => keeps_execBeamCtrlEn h
  | .fetchUnderrun .., h => keeps_execFetchUnderrun h
  | .segmentComposed .., h => keeps_execSegmentComposed h
  | .polderCheck .., h => keeps_execPolderCheck h
  | .polderMismatch .., h => keeps_execPolderMismatch h
  | .fbCtrlRaise .., h => keeps_execFbCtrlRaise h
  | .fbCtrlClear, h => keeps_execFbCtrlClear h
  | .layerMissPolicy .., h => keeps_execLayerMissPolicy h
  | .bufferRetired .., h => keeps_execBufferRetired h
  | .linknCtrlEn .., h => keeps_execLinknCtrlEn h
  | .linknCtrlRetrain .., h => keeps_execLinknCtrlRetrain h
  | .teMaskWrite .., h => keeps_execTeMaskWrite h
  | .heartbeat .., h => keeps_execHeartbeat h
  | .heartbeatEcho .., h => keeps_execHeartbeatEcho h
  | .heartbeatEchoTimeout .., h => keeps_execHeartbeatEchoTimeout h
  | .upstreamLock .., h => keeps_execUpstreamLock h
  | .upstreamLockLoss .., h => keeps_execUpstreamLockLoss h
  | .trainReq .., h => keeps_execTrainReq h
  | .trainRsp .., h => keeps_execTrainRsp h
  | .probeEcho .., h => keeps_execProbeEcho h
  | .calburstEcho .., h => keeps_execCalburstEcho h
  | .trainingStateTimeout .., h => keeps_execTrainingStateTimeout h
  | .retryWaitExpiry .., h => keeps_execRetryWaitExpiry h
  | .downAttempt .., h => keeps_execDownAttempt h
  | .ack .., h => keeps_execAck h
  | .nak .., h => keeps_execNak h
  | .ackTimeout .., h => keeps_execAckTimeout h
  | .segStatus .., h => keeps_execSegStatus h
  | .vfRow .., h => keeps_execVfRow h
  | .headroom .., h => keeps_execHeadroom h
  | .segTemp .., h => keeps_execSegTemp h
  | .upstreamBadPacket .., h => keeps_execUpstreamBadPacket h
  | .holdExpired .., h => keeps_execHoldExpired h
  | .vstart .., h => keeps_execVstart h
  | .line .., h => keeps_execLine h
  | .vend _ _ lines tsEnd, h => keeps_execVend (a3 := lines) (a4 := tsEnd) h
  | .metaPacket .., h => keeps_execMeta h
  | .frameTimeout .., h => keeps_execFrameTimeout h
  | .streamLossTimeout .., h => keeps_execStreamLossTimeout h
  | .streamEn .., h => keeps_execStreamEn h
  | .fabPortEn .., h => keeps_execFabPortEn h
  | .quadCfgWrite .., h => keeps_execQuadCfgWrite h
  | .laneTestWrite .., h => keeps_execLaneTestWrite h
  | .laneRestart .., h => keeps_execLaneRestart h
  | .detectTest .., h => keeps_execDetectTest h
  | .trainingSetsReceived .., h => keeps_execTrainingSetsReceived h
  | .laneLock .., h => keeps_execLaneLock h
  | .caps .., h => keeps_execCaps h
  | .laneStageTimeout .., h => keeps_execLaneStageTimeout h
  | .laneBackoffExpiry .., h => keeps_execLaneBackoffExpiry h
  | .laneProbe .., h => keeps_execLaneProbe h
  | .laneSignalDetect .., h => keeps_execLaneSignalDetect h
  | .laneSignalLoss .., h => keeps_execLaneSignalLoss h
  | .laneCodeErrors .., h => keeps_execLaneCodeErrors h
  | .refclkFail .., h => keeps_execRefclkFail h
  | .refclkPresent .., h => keeps_execRefclkPresent h
  | .eios .., h => keeps_execEios h
  | .fts .., h => keeps_execFts h
  | .eiosAnswerTimeout .., h => keeps_execEiosAnswerTimeout h
  | .macFrameRx .., h => keeps_execMacFrameRx h
  | .macLinkChange .., h => keeps_execMacLinkChange h
  | .canFrameRx .., h => keeps_execCanFrameRx h
  | .beamCanAssyTimeout .., h => keeps_execBeamCanAssyTimeout h
  | .busOffRecovery .., h => keeps_execBusOffRecovery h
  | .canRestart .., h => keeps_execCanRestart h
  | .listTimeout, h => keeps_execListTimeout h
  | .lampClass .., h => keeps_execLampClass h
  | .reportLoss .., h => keeps_execReportLoss h
  | .vfCaptureDone, h => keeps_execVfCaptureDone h
  | .corrCopyDone, h => keeps_execCorrCopyDone h
  | .crcScanEnd .., h => keeps_execCrcScanEnd h
  | .crcChcEn .., h => keeps_execCrcChcEn h
  | .crcChcStart .., h => keeps_execCrcChcStart h
  | .vledOvervoltage, h => keeps_execVledOvervoltage h
  | .vledUndervoltage, h => keeps_execVledUndervoltage h
  | .phaseImbalance .., h => keeps_execPhaseImbalance h
  | .currentSenseOpen .., h => keeps_execCurrentSenseOpen h
  | .ovRestart, h => keeps_execOvRestart h
  | .softstartDone, h => keeps_execSoftstartDone h
  | .supCtrlEn .., h => keeps_execSupCtrlEn h
  | .supPhaseEn .., h => keeps_execSupPhaseEn h
  | .supRestartReg, h => keeps_execSupRestartReg h
  | .snowEccError .., h => keeps_execSnowEccError h
  | .snowRestore .., h => keeps_execSnowRestore h
  | .mirrorDone, h => keeps_execMirrorDone h
  | .mramRecordCommit .., h => keeps_execMramRecordCommit h
  | .aliveOutToggle, h => keeps_execAliveOutToggle h
  | .fabCtrlEn .., h => keeps_execFabCtrlEn h
  | .pixelStrip .., h => keeps_execPixelStrip h
  | .control .., h => keeps_execControl h
  | .time .., h => keeps_execTime h
  | .hello .., h => keeps_execHello h
  | .helloSend, h => keeps_execHelloSend h
  | .claimLapse .., h => keeps_execClaimLapse h
  | .rootElected, h => keeps_execRootElected h
  | .noRoot, h => keeps_execNoRoot h
  | .assign .., h => keeps_execAssign h
  | .assignAck .., h => keeps_execAssignAck h
  | .assignTimeout, h => keeps_execAssignTimeout h
  | .route .., h => keeps_execRoute h
  | .routeCommit .., h => keeps_execRouteCommit h
  | .routeBankSwitch, h => keeps_execRouteBankSwitch h
  | .routeAck .., h => keeps_execRouteAck h
  | .linkEvent .., h => keeps_execLinkEvent h
  | .flow .., h => keeps_execFlow h
  | .flowSend .., h => keeps_execFlowSend h
  | .fabPacketDelay .., h => keeps_execFabPacketDelay h
  | .subLossTimeout .., h => keeps_execSubLossTimeout h
  | .ptpEventMessage .., h => keeps_execPtpEventMessage h
  | .ptpMessageSend .., h => keeps_execPtpMessageSend h
  | .servoOffset .., h => keeps_execServoOffset h
  | .servoHoldover, h => keeps_execServoHoldover h
  | .setCtrlLoad, h => keeps_execSetCtrlLoad h
  | .setCtrlStep, h => keeps_execSetCtrlStep h
  | .timeNsRead, h => keeps_execTimeNsRead h
  | .ttnArm .., h => keeps_execTtnArm h
  | .ttnCancel .., h => keeps_execTtnCancel h
  | .ttOccurrence .., h => keeps_execTtOccurrence h
  | .ttPulseEnd .., h => keeps_execTtPulseEnd h
  | .captureEdge .., h => keeps_execCaptureEdge h
  | .tcnPop .., h => keeps_execTcnPop h
  | .hkSlotEnd .., h => keeps_execHkSlotEnd h
  | .hkRoundEnd, h => keeps_execHkRoundEnd h
  | .calibrationRunEnd .., h => keeps_execCalibrationRunEnd h
  | .calFieldWrite .., h => keeps_execCalFieldWrite h
  | .prewarnTrip, h => keeps_execPrewarnTrip h
  | .prewarnRelease, h => keeps_execPrewarnRelease h
  | .shutdown, h => keeps_execShutdown h
  | .stopStepDone, h => keeps_execStopStepDone h
  | .stopStepTimeout, h => keeps_execStopStepTimeout h
  | .wake .., h => keeps_execWake h
  | .aonTimerWake, h => keeps_execAonTimerWake h
  | .tempWake, h => keeps_execTempWake h
  | .thawStepEnd, h => keeps_execThawStepEnd h
  | .vinUndervoltage .., h => keeps_execVinUndervoltage h
  | .vinOvervoltage .., h => keeps_execVinOvervoltage h
  | .por .., h => keeps_execPor h
  | .resetN .., h => keeps_execResetN h
  | .watchdog, h => keeps_execWatchdog h
  | .lockstep, h => keeps_execLockstep h
  | .clockFail, h => keeps_execClockFail h
  | .aonLoss, h => keeps_execAonLoss h
  | .vioLoss .., h => keeps_execVioLoss h
  | .vioReturn .., h => keeps_execVioReturn h
  | .xtalOk, h => keeps_execXtalOk h
  | .bootRomVerify .., h => keeps_execBootRomVerify h
  | .lightStart, h => keeps_execLightStart h
  | .dramReady .., h => keeps_execDramReady h
  | .fwResume, h => keeps_execFwResume h
  | .fwConfirm, h => keeps_execFwConfirm h
  | .fwUpdateTimeout, h => keeps_execFwUpdateTimeout h
  | .dramEccError .., h => keeps_execDramEccError h
  | .sramEccError .., h => keeps_execSramEccError h
  | .hostRead32 .., h => keeps_execHostRead32 h
  | .hostReadBurst .., h => keeps_execHostReadBurst h
  | .hostWrite32 .., h => keeps_execHostWrite32 h
  | .hostWriteBurst .., h => keeps_execHostWriteBurst h
  | .hostStatus .., h => keeps_execHostStatus h
  | .badOpcode .., h => keeps_execBadOpcode h
  | .hostWriteApply, h => keeps_execHostWriteApply h
  | .hostReadTimeout, h => keeps_execHostReadTimeout h
  | .hostWriteTimeout, h => keeps_execHostWriteTimeout h
  | .tableBaseWrite .., h => keeps_execTableBaseWrite h
  | .bankWindowWrite .., h => keeps_execBankWindowWrite h
  | .registerWrite .., h => keeps_execRegisterWrite h
  | .badStreamPacket .., h => keeps_execBadStreamPacket h
  | .fabricBadPacket .., h => keeps_execFabricBadPacket h
  | .laneDeskewError .., h => keeps_execLaneDeskewError h
  | .canErrorFrame .., h => keeps_execCanErrorFrame h
  | .vledUndervoltageEnd, h => keeps_execVledUndervoltageEnd h
  | .vinUndervoltageEnd, h => keeps_execVinUndervoltageEnd h
  | .fwVerifyDone .., h => keeps_execFwVerifyDone h
  | .startupReady, h => keeps_execStartupReady h
  | .syncOutPulse, h => keeps_execSyncOutPulse h
  | .syncOutPulseEnd, h => keeps_execSyncOutPulseEnd h
  | .streamSendFinish .., h => keeps_execStreamSendFinish h
  | .prbsLock .., h => keeps_execPrbsLock h

/-- A command answers a next state with the queue it was given. -/
theorem exec_answers (i : Instr) (s : State) : ∃ t, exec i s = .next t ∧ t.pending = s.pending := by
  obtain ⟨u, hu⟩ := exec_done i s
  exact ⟨u.settle, hu, (keeps_exec i hu).queue⟩

/-- A step without a command answers a next state with the queue it was given. -/
theorem idleTick_answers (s : State) : ∃ t, idleTick s = .next t ∧ t.pending = s.pending :=
  ⟨_, idleTick_eq s, (keeps_idleTick (idleTick_eq s)).queue⟩

/-- Settles O1: the second arm of `step`. -/
theorem stepRunsTheFrontCommand : Obligations.StepRunsTheFrontCommand := by
  unfold Obligations.StepRunsTheFrontCommand
  intro c rest s h
  exact step_of_cons h

/-- Settles O7, by the two forms of the queue: an idle tick and every command answer, and neither touches the queue. -/
theorem everyStepAnswersAndTakesOneCommand : Obligations.EveryStepAnswersAndTakesOneCommand := by
  unfold Obligations.EveryStepAnswersAndTakesOneCommand
  intro s
  cases h : s.pending with
  | nil =>
    obtain ⟨t, ht, hq⟩ := idleTick_answers s
    exact ⟨t, (step_of_nil h).trans ht, hq.trans h⟩
  | cons c rest =>
    obtain ⟨t, ht, hq⟩ := exec_answers c { s with pending := rest }
    exact ⟨t, (step_of_cons h).trans ht, hq⟩

end Sys2Proof.Machine
end

section
/-! SUPPORT. The checks that `serve` makes before the body of a service (R16, R17, R324, R331, R399, R431), by the device a request names. -/
namespace Sys2Proof.Machine

/-- The row of its service does not accept the object of a request, or not its time. -/
def rowRefuses (r : Svc) (m : Msg) : Bool := !(targetOk r m) || (m.flags.getLsbD 2 && !r.tim)

theorem rowRefuses_of_target {r : Svc} {m : Msg} (h : targetOk r m = false) : rowRefuses r m = true := by
  simp [rowRefuses, h]

theorem rowRefuses_of_timed {r : Svc} {m : Msg} (ht : m.flags.getLsbD 2 = true) (hr : r.tim = false) : rowRefuses r m = true := by
  simp [rowRefuses, ht, hr]

theorem rowRefuses_eq_false {r : Svc} {m : Msg} (h : targetOk r m = true) (ht : m.flags.getLsbD 2 = true → r.tim = true) :
    rowRefuses r m = false := by
  simpa [rowRefuses, h] using ht

theorem serve_no_row {code : Nat} {body : Ctx → State → State} {m : Msg} {s : State} (h : svcRow code = none) :
    serve code body m s = refuse { code := code, m := m } St.range s := by
  unfold serve
  rw [h]

/-- A refusal does not depend on whether the command changes what lamps show. -/
theorem refuse_light (code : Nat) (m : Msg) (b : Bool) (status : Nat) (s : State) :
    refuse { code := code, m := m, light := b } status s = refuse { code := code, m := m } status s := rfl

/-- A request to this device: the row, the state of the device and the busy objects are asked in this order. -/
theorem serve_here {code : Nat} {body : Ctx → State → State} {m : Msg} {s : State} {r : Svc} (h : svcRow code = some r) (hf : m.fid = 0) :
    serve code body m s =
      if rowRefuses r m then refuse { code := code, m := m } St.range s
      else if stateRefuses s r then refuse { code := code, m := m } St.state s
      else if !r.rd && isBusy s code m then refuse { code := code, m := m } St.busy s
      else if m.flags.getLsbD 2 then acceptTimed body { code := code, m := m, light := r.light } s
      else body { code := code, m := m, light := r.light } s := by
  unfold serve
  rw [h]
  simp [hf, rowRefuses, refuse_light]

/-- A request to one other device: the row is asked, then whether this device takes part in the fabric. -/
theorem serve_elsewhere {code : Nat} {body : Ctx → State → State} {m : Msg} {s : State} {r : Svc} (h : svcRow code = some r)
    (h0 : m.fid ≠ 0) (hb : m.fid ≠ 0xFFF) (ho : m.fid.toNat ≠ s.ownFid) :
    serve code body m s =
      if rowRefuses r m then refuse { code := code, m := m } St.range s
      else if fabState s == 4 then forwardReq code m s else refuse { code := code, m := m } St.state s := by
  unfold serve
  rw [h]
  simp only [BitVec.ofNat_eq_ofNat] at h0 hb
  simp [h0, hb, ho, rowRefuses, refuse_light]

/-- Settles O11: each clause is the branch of `serve_here` or `serve_elsewhere` that its hypotheses lead to. -/
theorem serviceChecksComeBeforeTheBody : Obligations.ServiceChecksComeBeforeTheBody := by
  unfold Obligations.ServiceChecksComeBeforeTheBody
  refine ⟨fun code body m s r hr => ⟨?target, ?timed, ?state, ?busy, ?elsewhere⟩, fun code body m s => serve_no_row⟩
  case target =>
    intro hf ht
    rw [serve_here hr hf, if_pos (rowRefuses_of_target ht)]
  case timed =>
    intro hf _ hm htim
    rw [serve_here hr hf, if_pos (rowRefuses_of_timed hm htim)]
  case state =>
    intro hf ht htim hs
    simp [serve_here hr hf, rowRefuses_eq_false ht htim, hs]
  case busy =>
    intro hf ht htim hs hrd hbusy
    simp [serve_here hr hf, rowRefuses_eq_false ht htim, hs, hrd, hbusy]
  case elsewhere =>
    intro h0 hb ho ht htim
    simp [serve_elsewhere hr h0 hb ho, rowRefuses_eq_false ht htim]

end Sys2Proof.Machine
end

section
/-! SUPPORT. Raster time in numbers (R21 to R24, R34, R43): the grid of REF, the latest blanking start, the bounds of a move of phase 0, and what
a field of a register reads as after it is set. -/
namespace Sys2Proof.Machine

/-! ### A field after it is set -/

/-- A field reads back what was put into it, modulo its width. -/
theorem fld_setFld (w : Word) {lo len : Nat} (v : Nat) (h : lo + len ≤ 32) : fld (setFld w lo len v) lo len = v % 2 ^ len := by
  have hlt := setFld_lt w lo len v h
  have hv := Nat.mod_lt v (Nat.two_pow_pos len)
  have hsplit : w.toNat - fld w lo len * 2 ^ lo = 2 ^ lo * (2 ^ len * (w.toNat / 2 ^ lo / 2 ^ len)) + w.toNat % 2 ^ lo := by
    have hd := Nat.div_add_mod w.toNat (2 ^ lo)
    have hm := Nat.div_add_mod (w.toNat / 2 ^ lo) (2 ^ len)
    simp only [fld, Nat.shiftRight_eq_div_pow]
    generalize w.toNat / 2 ^ lo % 2 ^ len = F at *
    rw [← hm, Nat.mul_add, Nat.mul_comm (2 ^ lo) F] at hd
    omega
  have hr := Nat.mod_lt w.toNat (Nat.two_pow_pos lo)
  unfold setFld
  rw [hsplit] at hlt ⊢
  simp only [fld, BitVec.toNat_ofNat, Nat.shiftRight_eq_div_pow]
  rw [Nat.mod_eq_of_lt hlt]
  generalize w.toNat / 2 ^ lo / 2 ^ len = A
  generalize v % 2 ^ len = V at *
  have hshape : 2 ^ lo * (2 ^ len * A) + w.toNat % 2 ^ lo + V * 2 ^ lo = w.toNat % 2 ^ lo + 2 ^ lo * (V + 2 ^ len * A) := by ring
  rw [hshape, Nat.add_mul_div_left _ _ (Nat.two_pow_pos lo), Nat.div_eq_of_lt hr, Nat.zero_add, Nat.add_mul_mod_self_left,
    Nat.mod_eq_of_lt hv]

theorem fd_wf_same {s : State} (h : s.canonical = true) (a : Nat) {lo len : Nat} (v : Nat) (hb : lo + len ≤ 32) :
    (s.wf a lo len v).fd a lo len = v % 2 ^ len := by
  unfold State.fd State.wf
  rw [rd_wr_same h, fld_setFld _ _ hb]

theorem bit_wb_same {s : State} (h : s.canonical = true) (a : Nat) {lo : Nat} (b : Bool) (hb : lo < 32) : (s.wb a lo b).bit a lo = b := by
  unfold State.bit State.wb
  rw [fd_wf_same h a _ (by omega)]
  cases b <;> rfl

/-! ### The grid of REF (R22, R43) -/

/-- The first phase 0 of an enabled raster is the least grid instant at or after `x`, the earliest allowed. -/
theorem grid_ceil {p : Int} (hp : 0 < p) (ref x : Int) :
    (x + (ref - x) % p - ref) % p = 0 ∧ x ≤ x + (ref - x) % p ∧ x + (ref - x) % p < x + p ∧
      ∀ y : Int, (y - ref) % p = 0 → x ≤ y → x + (ref - x) % p ≤ y := by
  have h0 := Int.emod_nonneg (ref - x) (Int.ne_of_gt hp)
  have h1 := Int.emod_lt_of_pos (ref - x) hp
  have hdvd : p ∣ x + (ref - x) % p - ref := by
    have h := Int.dvd_neg.mpr (Int.dvd_self_sub_emod (x := ref - x) (m := p))
    rwa [show -(ref - x - (ref - x) % p) = x + (ref - x) % p - ref by ring] at h
  refine ⟨Int.emod_eq_zero_of_dvd hdvd, by omega, by omega, fun y hy hxy => ?_⟩
  by_contra hlt
  have hgap : p ∣ x + (ref - x) % p - y := by
    have h := Int.dvd_sub hdvd (Int.dvd_of_emod_eq_zero hy)
    rwa [show x + (ref - x) % p - ref - (y - ref) = x + (ref - x) % p - y by ring] at h
  have := Int.le_of_dvd (by omega) hgap
  omega

theorem firstP0_eq (s : State) (t : Int) :
    firstP0 s t = t + (period16 s : Int) + (refInstant s - (t + (period16 s : Int))) % (period16 s : Int) := rfl

@[simp] theorem armRaster_armed (s : State) : (armRaster s).ras.armed = true := rfl
@[simp] theorem armRaster_p0Next (s : State) : (armRaster s).ras.p0Next = firstP0 s s.tick16 := rfl
@[simp] theorem armRaster_nextFrame (s : State) : (armRaster s).ras.nextFrame = gridFrame s (firstP0 s s.tick16) := rfl

/-- Settles O19: the instant an armed raster waits for is the grid instant of `grid_ceil` one period ahead. -/
theorem theFirstPhase0LiesOnTheGrid : Obligations.TheFirstPhase0LiesOnTheGrid := by
  unfold Obligations.TheFirstPhase0LiesOnTheGrid
  intro s hp
  obtain ⟨hgrid, hge, hlt, hleast⟩ := grid_ceil (p := period16 s) (by omega) (refInstant s) (s.tick16 + (period16 s : Int))
  simp only [armRaster_armed, armRaster_p0Next, armRaster_nextFrame, firstP0_eq, true_and]
  exact ⟨hgrid, hge, by omega, hleast⟩

/-! ### The latest blanking start (R24) -/

/-- A phase leaves 250 µs to the end of the frame exactly when it is not after the floor. -/
theorem le_blankFloor_iff {p x : Nat} (hp : 250000 * 65536 ≤ p) :
    x ≤ blankFloor p ↔ 250000 * 65536 * 2 ^ 24 ≤ (2 ^ 24 - x) * p := by
  have hp0 : 0 < p := by omega
  have hceil : ∀ q : Nat, (250000 * 65536 * 2 ^ 24 + p - 1) / p ≤ q ↔ 250000 * 65536 * 2 ^ 24 ≤ q * p := by
    intro q
    rw [← Nat.lt_succ_iff, Nat.div_lt_iff_lt_mul hp0, Nat.succ_mul q]
    omega
  have hfit : (250000 * 65536 * 2 ^ 24 + p - 1) / p ≤ 2 ^ 24 := (hceil _).mpr (by omega)
  have hpos : 0 < (250000 * 65536 * 2 ^ 24 + p - 1) / p := Nat.div_pos (by omega) hp0
  rw [← hceil]
  unfold blankFloor
  omega

/-- Settles O21: the set phase and the floor of `le_blankFloor_iff`, whichever is less. -/
theorem blankingStartIsTheLatestAllowed : Obligations.BlankingStartIsTheLatestAllowed := by
  unfold Obligations.BlankingStartIsTheLatestAllowed
  intro p blank hp _
  exact ⟨Nat.min_le_left _ _, (le_blankFloor_iff hp).mp (Nat.min_le_right _ _),
    fun x hx hroom => Nat.le_min.mpr ⟨hx, (le_blankFloor_iff hp).mpr hroom⟩⟩

/-! ### A move of the next phase 0 (R34) -/

theorem slewRoom_nonneg (s : State) : 0 ≤ slewRoom s := by
  unfold slewRoom
  split
  · exact Int.le_refl 0
  · exact Int.le_max_left _ _

/-- What blanking is shortened by leaves it 250 µs, or as it is where it has no more. -/
theorem slewRoom_le (s : State) :
    slewRoom s ≤ max 0 ((period16 s : Int) - frac16 s (s.fd Reg.RAS_BLANK_EFF 0 24) 24 - ns16 250000) := by
  unfold slewRoom
  split
  · exact Int.le_max_left _ _
  · exact Int.le_refl _

theorem slewMax_nonneg (s : State) : 0 ≤ slewMax s := by
  unfold slewMax ns16
  omega

/-- The part of a wanted move that a frame takes. -/
def moveTaken (s : State) (want : Int) : Int := max (-(slewRoom s)) (min (slewMax s) want)

@[simp] theorem setMove_move (want : Int) (s : State) : (setMove want s).ras.move = moveTaken s want := rfl
@[simp] theorem setMove_slewLeft (want : Int) (s : State) : (setMove want s).ras.slewLeft = want - moveTaken s want := rfl
@[simp] theorem setMove_p0Next (want : Int) (s : State) :
    (setMove want s).ras.p0Next = s.ras.p0At + (period16 s : Int) + moveTaken s want := rfl

/-- SLEWING stands while a rest is carried and through the frame that takes the last of it. -/
theorem setMove_slewing {s : State} (h : s.canonical = true) (want : Int) :
    (setMove want s).bit Reg.RAS_STATUS 2 = (want != moveTaken s want || (s.bit Reg.RAS_STATUS 2 && moveTaken s want != 0)) := by
  unfold setMove
  exact bit_wb_same h _ _ (by omega)

/-- Settles O20: the bounds of `moveTaken`. -/
theorem slewingStaysWithinItsBounds : Obligations.SlewingStaysWithinItsBounds := by
  unfold Obligations.SlewingStaysWithinItsBounds
  intro s want h
  have hroom := slewRoom_nonneg s
  have hblank := slewRoom_le s
  have hmax := slewMax_nonneg s
  rw [setMove_slewing h]
  simp only [setMove_move, setMove_slewLeft, setMove_p0Next, true_and]
  have hslew : (want != moveTaken s want) = decide (want - moveTaken s want ≠ 0) := by
    rw [Bool.eq_iff_iff, bne_iff_ne, decide_eq_true_iff]
    omega
  have hmove : (moveTaken s want != 0) = decide (moveTaken s want ≠ 0) := by
    rw [Bool.eq_iff_iff, bne_iff_ne, decide_eq_true_iff]
  rw [hslew, hmove]
  unfold moveTaken
  refine ⟨by omega, by omega, by omega, fun _ => by omega, fun _ => by omega, rfl⟩

end Sys2Proof.Machine
end

section
/-! SUPPORT. What of the raster is due at a tick, and in what order it is carried out (R37, R38); and a raster that is disabled or has not had its
first phase 0 (R43, R453). -/
namespace Sys2Proof.Machine

/-! ### Events of the raster's class -/

theorem exec_phase0 (s : State) : exec .phase0 s = .next (State.settle (phase0Event s)) := rfl
theorem exec_blankingStart (s : State) : exec .blankingStart s = .next (State.settle (blankingStart s)) := rfl
theorem exec_syncInEdge (b : Bool) (at10 : Nat) (z : State) :
    exec (.syncInEdge b at10) z = .next (State.settle (syncEdge b at10 (rasterFirst z))) := rfl
theorem exec_messageDequeue (z : State) : exec .messageDequeue z = .next (State.settle (dequeueOne (rasterFirst z))) := rfl

/-! ### What is due -/

theorem blankDue_of_off {s : State} (h : rasOn s = false) : blankDue s = false := by simp [blankDue, h]
theorem cutDue_of_off {s : State} (h : rasOn s = false) : cutDue s = false := by simp [cutDue, h]
theorem p0Due_of_off {s : State} (h : rasOn s = false) : p0Due s = false := by simp [p0Due, h]

/-- A blanking start and a render cutoff, each where it is due when the tick begins, in that order. -/
theorem rasterFirst_of_no_p0 {s t u : State} (ht : t = if blankDue s = true then blankingStart s else s)
    (hu : u = if cutDue s = true then renderCutoff t else t) (hp : p0Due u = false) : rasterFirst s = u := by
  subst ht hu
  unfold rasterFirst when
  exact if_neg (by simp [hp])

theorem rasterFirst_of_nothing_due {s : State} (hb : blankDue s = false) (hc : cutDue s = false) (hp : p0Due s = false) :
    rasterFirst s = s :=
  rasterFirst_of_no_p0 (t := s) (by simp [hb]) (by simp [hc]) hp

/-- A phase 0 run ahead of its own event is marked with its tick. -/
theorem rasterFirst_of_p0 {s : State} (hb : blankDue s = false) (hc : cutDue s = false) (hp : p0Due s = true) :
    rasterFirst s = { phase0 s with ras := { (phase0 s).ras with ahead := some (phase0 s).tickNs } } := by
  unfold rasterFirst
  simp [hb, hc, hp, when]

theorem rasterFirst_of_off {s : State} (h : rasOn s = false) : rasterFirst s = s :=
  rasterFirst_of_nothing_due (blankDue_of_off h) (cutDue_of_off h) (p0Due_of_off h)

/-- Settles O60: the three tests of `rasterFirst`, one after the other. -/
theorem rasterBoundariesOfATickGoFirst : Obligations.RasterBoundariesOfATickGoFirst := by
  unfold Obligations.RasterBoundariesOfATickGoFirst
  refine ⟨fun s => rasterFirst_of_nothing_due, fun s => rasterFirst_of_p0, fun s t u => rasterFirst_of_no_p0,
    fun s => rasterFirst_of_off, ?_⟩
  intro b at10 s _ _ hb hc hp
  rw [exec_syncInEdge, rasterFirst_of_p0 hb hc hp]

/-! ### A raster that does not run -/

theorem phase0_of_off {s : State} (h : rasOn s = false) : phase0 s = s := by
  unfold phase0
  simp [h, when]

/-- A phase 0 that its tick has not run yet is run by its event. -/
theorem phase0Event_of_not_ahead {s : State} (h : s.ras.ahead ≠ some s.tickNs) : phase0Event s = phase0 s := by
  unfold phase0Event
  simp [h]

theorem phase0Event_of_ahead {s : State} (h : s.ras.ahead = some s.tickNs) :
    phase0Event s = { s with ras := { s.ras with ahead := none } } := by
  unfold phase0Event
  simp [h]

theorem blankingStart_of_not_ran {s : State} (h : s.ras.ran = false) : blankingStart s = s := by
  unfold blankingStart
  simp [h]

/-! ### Mailboxes that pause, or that firmware does not serve yet (R337, R429) -/

theorem dequeueOne_of_paused {s : State} (h : s.bit Reg.MBX_STATUS 0 = true ∨ stage s < 3) : dequeueOne s = s := by
  unfold dequeueOne dequeue
  rcases h with h | h <;> simp [h]

theorem flushEvents_of_paused {s : State} (h : s.bit Reg.MBX_STATUS 0 = true ∨ stage s < 3) : flushEvents s = s := by
  unfold flushEvents mbPaused
  rcases h with h | h <;> simp [h]

theorem settle_of_paused {s : State} (h : s.bit Reg.MBX_STATUS 0 = true ∨ stage s < 3) : s.settle = drainTransports s := by
  unfold State.settle
  rw [flushEvents_of_paused h]

/-- Settles O31: each of the four events meets the test that leaves the state as it is. -/
theorem noPhaseWithoutTheRaster : Obligations.NoPhaseWithoutTheRaster := by
  unfold Obligations.NoPhaseWithoutTheRaster
  refine ⟨fun s hoff hahead => ?_, fun s hahead => ?_, fun s hran => ?_, fun z s hs hpause => ⟨?_, settle_of_paused hpause⟩⟩
  · rw [exec_phase0, phase0Event_of_not_ahead hahead, phase0_of_off hoff]
  · rw [exec_phase0, phase0Event_of_ahead hahead]
  · rw [exec_blankingStart, blankingStart_of_not_ran hran]
  · rw [exec_messageDequeue, ← hs, dequeueOne_of_paused hpause]

end Sys2Proof.Machine
end

section
/-! SUPPORT. The events of raster time (R26 to R45, R79, R80, R150, R151, R453): what each does in each of its cases. -/
namespace Sys2Proof.Machine

/-! ### The commands and their meanings -/

theorem exec_renderCutoff (s : State) : exec .renderCutoff s = .next (State.settle (renderCutoff s)) := rfl
theorem exec_renderPassDone (s : State) : exec .renderPassDone s = .next (State.settle (renderDone s)) := rfl
theorem exec_syncLost (s : State) : exec .syncLost s = .next (State.settle (syncLost s)) := rfl
theorem exec_syncOutPulse (s : State) : exec .syncOutPulse s = .next (State.settle (syncPulse s)) := rfl
theorem exec_syncOutPulseEnd (s : State) : exec .syncOutPulseEnd s = .next (State.settle (syncPulseEnd s)) := rfl
theorem exec_teWindowClose (s : State) : exec .teWindowClose s = .next (State.settle (teClose s)) := rfl
theorem exec_teEdge (r : Bool) (at10 : Nat) (z : State) :
    exec (.teEdge r at10) z = .next (State.settle (teEdge r at10 (rasterFirst z))) := rfl
theorem exec_tactArm (n : Fin 16) (z : State) : exec (.tactArm n) z = .next (State.settle (tactArm n.val (rasterFirst z))) := rfl
theorem exec_tactCancel (n : Fin 16) (z : State) : exec (.tactCancel n) z = .next (State.settle (tactCancel n.val (rasterFirst z))) := rfl
theorem exec_rasTimingCommit (z : State) : exec .rasTimingCommit z = .next (State.settle (timingCommit (rasterFirst z))) := rfl
theorem exec_rasCtrlEnable (v : Bool) (z : State) : exec (.rasCtrlEnable v) z = .next (State.settle (rasEnable v (rasterFirst z))) := rfl

/-! ### Phase 0 (R27) -/

/-- A phase 0 of a raster that is armed or runs, with what a reset due by its tick leaves (`r`), what blanking start and cutoff still do
(`b`) and the raster's own part (`t`): after an orderly stop that is all, and otherwise the list of R27 follows. -/
theorem phase0_of_running {s r b t u : State} {mute : Bool} (hon : rasOn s = true) (hran : (s.ras.armed || s.ras.ran) = true)
    (hr : r = afterBy (State.tickOf s.ras.p0Next) s) (hon' : rasOn r = true) (hran' : (r.ras.armed || r.ras.ran) = true)
    (hb : b = renderCutoff (blankingStart r))
    (ht : t = rasterP0 (when (!b.ras.ran) captureAll
      (forEach (List.range 8) (fun c t => if (t.crcCh c).fresh = true then t.modCrcCh c fun x => { x with fresh := false } else t) b)))
    (hu : u = forEach (List.range 32) dropSegCmds t) (hmute : mute = (!b.ras.ran || u.pwr.halted)) :
    phase0 s = if t.pwr.stopped = true then t else
      (let v := when (!mute) latchP0 (teBegin mute u)
       let a := fbEnd (fbApply (applyShadows (forEach (List.range 256) holdP0 (forEach (List.range 32) linkP0 v))))
       let b := beamP0 (supPlan (captureTref (litStep (supLit (healthP0 a)))))
       let c := layersP0 (forEach (List.range 16) stripDeadline (snowApply (corrP0 b)))
       let d := stageP0 (powerP0 (bandsApply (forEach (List.range 4) streamTransmit (stripSend c))))
       handoverP0 (complP0 (composeP0 (showModes d)))) := by
  have hfirst : when (rasOn s && (s.ras.armed || s.ras.ran)) (afterBy (State.tickOf s.ras.p0Next)) s = r := by
    rw [hon, hran, hr]
    rfl
  unfold phase0
  rw [hfirst, if_neg (by simp [hon', hran']), hmute, hu, ht, hb]

/-! ### Blanking start (R26) and render cutoff (R150, R151) -/

/-- The blanking start of a running raster, with the state `t` at its instant, where a cutoff before it has gone first. -/
theorem blankingStart_of_ran {s t : State} (hran : s.ras.ran = true) (hblank : s.ras.inBlank = false)
    (ht : t = (when (decide (cutoffAt s ≤ blankAt s)) renderCutoff s).advanceTo (blankAt s)) :
    blankingStart s =
      if t.pwr.stopped = true then { t with ras := { t.ras with inBlank := true } }
      else blankSend (forEach (List.range 4) streamCut
        (when (periodMoves (captureAll (blankChecks t)) && (captureAll (blankChecks t)).beam.la && speculative (captureAll (blankChecks t)))
          (squash true) (captureAll (blankChecks t)))) := by
  unfold blankingStart
  rw [if_neg (by simp [hran, hblank]), ht]

/-- The cutoff of a running raster, with the state `t` at its instant and the list fixed in `u`: the pass over the list starts. -/
theorem renderCutoff_of_list {s t u : State} (hran : s.ras.ran = true) (hdone : s.beam.cutDone = false) (ht : t = s.advanceTo (cutoffAt s))
    (hu : u = { t with beam := { t.beam with fixed := t.beam.cur, fresh := false, cutDone := true } })
    (hla : (u.beam.la && speculative u) = false) : renderCutoff s = startPass false t.beam.cur false u := by
  unfold renderCutoff
  rw [if_neg (by simp [hran, hdone]), ← ht]
  extract_lets _ _ _ v
  have hv : v = u := hu.symm
  rw [hv, if_neg (by simp [hla]), hu]

/-- Under lookahead a table is there already: it is squashed when a list came in this frame with which it does not agree. -/
theorem renderCutoff_of_table {s t u : State} {r : RTab} (hran : s.ras.ran = true) (hdone : s.beam.cutDone = false)
    (ht : t = s.advanceTo (cutoffAt s))
    (hu : u = { t with beam := { t.beam with fixed := t.beam.cur, fresh := false, cutDone := true } })
    (hla : (u.beam.la && speculative u) = true) (hready : (u.beam.ready.orElse fun _ => u.beam.prep) = some r) :
    renderCutoff s = when (t.beam.fresh && !(tablesAgree u r (renderTab u u.beam.fixed false))) (squash true) u := by
  unfold renderCutoff
  rw [if_neg (by simp [hran, hdone]), ← ht]
  extract_lets _ _ _ v
  have hv : v = u := hu.symm
  rw [hv, if_pos hla, hready]
  rfl

theorem renderDone_of_prep {s : State} {t : RTab} (h : s.beam.prep = some t) :
    renderDone s = ((({ s with beam := { s.beam with prep := none, ready := some t } }.wb Reg.BEAM_STATUS 2 false).wf Reg.BEAM_STATUS 8 8
      t.objs.length).wb Reg.BEAM_STATUS 4 (decide (t.i < t.f))) := by
  unfold renderDone
  rw [h]

/-! ### SYNC_IN (R32, R33) -/

/-- An edge that counts as SYNC_IN is used while SYNC_LOST, or as the first in the window; otherwise it is counted. -/
theorem syncEdge_of_source {b : Bool} {at10 : Nat} {s : State} (hsrc : onSyncIn s = true) (hpol : syncPolarity s b = true)
    (hran : s.ras.ran = true) :
    syncEdge b at10 s =
      if s.bit Reg.RAS_STATUS 3 = true then useEdge (syncError s (ns16 (at10 * 10))) s
      else if (decide (-(syncWin s) ≤ syncError s (ns16 (at10 * 10)) ∧ syncError s (ns16 (at10 * 10)) ≤ syncWin s) && !s.ras.edgeUsed) = true then
        useEdge (syncError s (ns16 (at10 * 10))) s
      else s.count Reg.RAS_CNT_SYNC_OUTWIN := by
  unfold syncEdge
  rw [if_neg (by simp [hsrc, hpol, hran])]

/-- An edge in the window is marked as the one used. -/
theorem useEdge_of_window {s : State} {e : Int} (hlo : -(syncWin s) ≤ e) (hhi : e ≤ syncWin s) :
    useEdge e s = addMove e { s with ras := { s.ras with edgeUsed := true, syncTarget := some (s.ras.p0Next + e) } } := by
  unfold useEdge
  rw [decide_eq_true ⟨hlo, hhi⟩, Bool.or_true]

theorem syncLost_of_misses {s : State} (hsrc : onSyncIn s = true) (hlost : s.bit Reg.RAS_STATUS 3 = false) (hpos : 0 < s.ras.missRun)
    (hlimit : s.fd Reg.RAS_SYNC_LOSS_LIMIT 0 4 ≤ s.ras.missRun) :
    syncLost s = (s.wb Reg.RAS_STATUS 3 true).event 0x0030 3 1 clsDevice 0 [0] := by
  unfold syncLost
  rw [if_pos (by simp [hsrc, hlost, hpos, hlimit])]

/-! ### SYNC_OUT (R35) -/

theorem syncPulse_of_enabled {s : State} (hen : s.bit Reg.RAS_SYNC_OUT 31 = true) (hon : rasOn s = true) (hran : s.ras.ran = true)
    (hdone : s.ras.syncOutDone = false) :
    syncPulse s =
      (let t := syncLevel true (syncRise s) (s.advanceTo (syncRise s))
       { t with ras := { t.ras with
          syncOutDone := true, syncFall := some (syncRise s + ns16 (max 1 (t.fd Reg.RAS_SYNC_OUT 24 7) * 1000)) } }) := by
  unfold syncPulse
  rw [if_pos (by simp [hen, hon, hran, hdone])]

theorem syncPulseEnd_of_pulse {s : State} {t : Int} (h : s.ras.syncFall = some t) :
    syncPulseEnd s = syncLevel false t { s.advanceTo t with ras := { s.ras with syncFall := none } } := by
  unfold syncPulseEnd
  rw [h]

/-! ### TE_IN (R79, R80) -/

/-- The first edge in the window after a phase 0 latches its frame, where that frame may be latched. -/
theorem teEdge_after_p0 {r : Bool} {at10 : Nat} {s : State} (hpol : (r == s.bit Reg.SLK_TE_CFG 16) = false) (hran : s.ras.ran = true)
    (hstop : s.pwr.stopped = false) (hdone : s.ras.teDone = false) (hlo : 0 ≤ ns16 (at10 * 10) - s.ras.p0At)
    (hhi : ns16 (at10 * 10) - s.ras.p0At ≤ teWin s) :
    teEdge r at10 s =
      (let t := s.wr Reg.SLK_TE_OFFSET (BitVec.ofInt 32 ((ns16 (at10 * 10) - s.ras.p0At) / 65536))
       if t.ras.teMute = true then { t with ras := { t.ras with teDone := true } }
       else latchTe t.ras.frame (ns16 (at10 * 10) + teLead t) true { t with ras := { t.ras with teDone := true } }) := by
  have hwin : ns16 (at10 * 10) - s.ras.p0At ≤ teWin s ∧ s.ras.p0At ≤ ns16 (at10 * 10) := ⟨hhi, by omega⟩
  unfold teEdge
  rw [if_neg (by simp [hpol, hran, hstop]), if_pos (by simp [hran, hdone, hwin])]
  rfl

/-- The first edge in the window before a phase 0 latches the frame to come, with what has been composed of it. -/
theorem teEdge_before_p0 {r : Bool} {at10 : Nat} {s : State} (hpol : (r == s.bit Reg.SLK_TE_CFG 16) = false) (hran : s.ras.ran = true)
    (hstop : s.pwr.stopped = false) (hhalt : s.pwr.halted = false) (hdone : s.ras.teDone = true) (hnext : s.ras.teNext = false)
    (hlo : 0 < s.ras.p0Next - ns16 (at10 * 10)) (hhi : s.ras.p0Next - ns16 (at10 * 10) ≤ teWin s) :
    teEdge r at10 s =
      (let t := { s.wr Reg.SLK_TE_OFFSET (BitVec.ofInt 32 (-((s.ras.p0Next - ns16 (at10 * 10)) / 65536))) with
                    ras := { s.ras with teNext := true } }
       latchTe t.ras.nextFrame (ns16 (at10 * 10) + teLead t) false (forEach (List.range 32) lineNow t)) := by
  have hwin : s.ras.p0Next - ns16 (at10 * 10) ≤ teWin s ∧ ns16 (at10 * 10) < s.ras.p0Next := ⟨hhi, by omega⟩
  unfold teEdge
  rw [if_neg (by simp [hpol, hran, hstop]), if_neg (by simp [hdone]), if_pos (by simp [hnext, hwin])]
  exact if_neg (by simp [hran, hhalt])

/-- The window closes without an edge: the frame is latched at the fallback time, where it may be latched. -/
theorem teClose_of_open {s : State} (hran : s.ras.ran = true) (hdone : s.ras.teDone = false) (hmask : (s.rd Reg.SLK_TE_MASK == 0) = false)
    (hstop : s.pwr.stopped = false) :
    teClose s =
      (let t := (s.advanceTo (s.ras.p0At + teWin s)).count Reg.SLK_CNT_TE_MISS
       if t.ras.teMute = true then { t with ras := { t.ras with teDone := true } }
       else latchTe t.ras.frame (t.ras.p0At + teWin t + teLead t) true { t with ras := { t.ras with teDone := true } }) := by
  unfold teClose
  rw [if_neg (by simpa [hran, hdone, hstop] using hmask)]
  rfl

/-! ### Time actions (R40), timing commits (R44) and the enable of the raster (R43, R453) -/

theorem tactCancel_of_armed {n : Nat} {s : State} (h : s.fd (Reg.RAS_TACT_CTRL n) 2 3 = 1) :
    tactCancel n s = setTactState n 0 { s with ras := { s.ras with tact := sput (fun _ => none) s.ras.tact n none } } := by
  unfold tactCancel
  rw [if_pos (by simp [h])]

theorem timingCommit_of_open {s : State} (h : s.ras.commitCap = false) : timingCommit s = s.wb Reg.RAS_STATUS 4 true := by
  unfold timingCommit
  rw [h]
  rfl

theorem timingCommit_of_captured {s : State} (h : s.ras.commitCap = true) :
    timingCommit s = setRecommit 4 true (s.wb Reg.RAS_STATUS 4 true) := by
  unfold timingCommit
  rw [h]
  rfl

theorem rasEnable_on {s : State} (h : rasOn s = false) :
    rasEnable true s = timingToAll (armRaster (enablingTiming (s.wb Reg.RAS_CTRL 0 true))) := by
  unfold rasEnable
  rw [h]
  rfl

theorem rasEnable_off {s : State} (h : rasOn s = true) : rasEnable false s = stopRaster (s.wb Reg.RAS_CTRL 0 false) := by
  unfold rasEnable
  rw [h]
  rfl

/-- Settles O46: each clause is the case of its event's function that its hypotheses select. -/
theorem rasterTimeEventsTakeEffect : Obligations.RasterTimeEventsTakeEffect := by
  unfold Obligations.RasterTimeEventsTakeEffect
  refine ⟨?phase0Stopped, ?phase0, ?blankStopped, ?blank, ?cutoff, ?cutoffLookahead, ?passDone, ?syncUsed, ?syncOutside, ?syncLostUsed,
    ?syncLost, ?syncOut, ?syncOutEnd, ?teAfter, ?teBefore, ?teClose, ?arm, ?cancel, ?commit, ?recommit, ?enable, ?disable⟩
  case phase0Stopped =>
    intro s r b t hahead hon hran hr hon' hran' hb ht hstop
    rw [exec_phase0, phase0Event_of_not_ahead hahead, phase0_of_running hon hran hr hon' hran' hb ht rfl rfl, if_pos hstop]
  case phase0 =>
    intro s r b t u mute hahead hon hran hr hon' hran' hb ht hstop hu hmute
    rw [exec_phase0, phase0Event_of_not_ahead hahead, phase0_of_running hon hran hr hon' hran' hb ht hu hmute, if_neg (by simp [hstop])]
  case blankStopped =>
    intro s t hran hblank ht hstop
    rw [exec_blankingStart, blankingStart_of_ran hran hblank ht, if_pos hstop]
  case blank =>
    intro s t c hran hblank ht hstop hc
    rw [exec_blankingStart, blankingStart_of_ran hran hblank ht, if_neg (by simp [hstop]), ← hc]
  case cutoff =>
    intro s t u hran hdone ht hu hla
    rw [exec_renderCutoff, renderCutoff_of_list hran hdone ht hu hla]
  case cutoffLookahead =>
    intro s t u r hran hdone ht hu hla hready
    rw [exec_renderCutoff, renderCutoff_of_table hran hdone ht hu hla hready]
  case passDone =>
    intro s t h
    rw [exec_renderPassDone, renderDone_of_prep h]
  case syncUsed =>
    intro at10 z s hs e hsrc hpol hran hlost hused he hlo hhi
    rw [exec_syncInEdge, ← hs, syncEdge_of_source hsrc hpol hran, if_neg (by simp [hlost]), ← he, if_pos (by simp [hlo, hhi, hused]),
      useEdge_of_window hlo hhi]
  case syncOutside =>
    intro at10 z s hs e hsrc hpol hran hlost he hout
    rw [exec_syncInEdge, ← hs, syncEdge_of_source hsrc hpol hran, if_neg (by simp [hlost]), ← he, if_neg]
    simp only [Bool.and_eq_true, decide_eq_true_eq, not_and_or]
    omega
  case syncLostUsed =>
    intro r at10 z s hs hsrc hpol hran hlost
    rw [exec_syncInEdge, ← hs, syncEdge_of_source hsrc hpol hran, if_pos hlost]
  case syncLost =>
    intro s hsrc hlost hpos hlimit
    rw [exec_syncLost, syncLost_of_misses hsrc hlost hpos hlimit]
  case syncOut =>
    intro s t hen hon hran hdone ht
    rw [exec_syncOutPulse, syncPulse_of_enabled hen hon hran hdone, ht]
  case syncOutEnd =>
    intro s t h
    rw [exec_syncOutPulseEnd, syncPulseEnd_of_pulse h]
  case teAfter =>
    intro r at10 z s hs d t hpol hran hstop hdone hd hlo hhi ht
    subst hd ht
    rw [exec_teEdge, ← hs, teEdge_after_p0 hpol hran hstop hdone hlo hhi]
  case teBefore =>
    intro r at10 z s hs d t hpol hran hstop hhalt hdone hnext hd hlo hhi ht
    subst hd ht
    rw [exec_teEdge, ← hs, teEdge_before_p0 hpol hran hstop hhalt hdone hnext hlo hhi]
  case teClose =>
    intro s t hran hdone hmask hstop ht
    rw [exec_teWindowClose, teClose_of_open hran hdone hmask hstop, ht]
  case arm =>
    intro n z s hs t ht
    rw [exec_tactArm, ← hs, ht]
    rfl
  case cancel =>
    intro n z s hs h
    rw [exec_tactCancel, ← hs, tactCancel_of_armed h]
  case commit =>
    intro z s hs h
    rw [exec_rasTimingCommit, ← hs, timingCommit_of_open h]
  case recommit =>
    intro z s hs h
    rw [exec_rasTimingCommit, ← hs, timingCommit_of_captured h]
  case enable =>
    intro z s hs h
    rw [exec_rasCtrlEnable, ← hs, rasEnable_on h]
  case disable =>
    intro z s hs h
    rw [exec_rasCtrlEnable, ← hs, rasEnable_off h]

end Sys2Proof.Machine
end

section
/-! SUPPORT. A periodic output that is armed with a START that has passed (R41, R289, R290). -/
namespace Sys2Proof.Machine

theorem exec_ttnArm (n : Fin 4) (z : State) : exec (.ttnArm n) z = .next (State.settle (ttArm n.val (rasterFirst z))) := rfl

/-- The periods between a past start and now, and one more: the least number of them that leads beyond now. -/
theorem skipped_least {start now p : Nat} (hp : 0 < p) (h : start ≤ now) :
    now < start + ((now - start) / p + 1) * p ∧ ∀ j, now < start + j * p → (now - start) / p + 1 ≤ j := by
  have hiff : ∀ j, now < start + j * p ↔ (now - start) / p < j := fun j => by
    rw [Nat.div_lt_iff_lt_mul hp]
    omega
  exact ⟨(hiff _).mpr (Nat.lt_succ_self _), fun j hj => (hiff j).mp hj⟩

/-- The state of an output armed with a past start: its next occurrence is `k` periods after the start. -/
def periodicArmed (s : State) (n p w start k : Nat) (t : TtSt) : TtSt :=
  { start := start, period := p, width := w, periodic := true, pol := s.bit (Reg.PTP_TT_CFG n) 1, n := k, fall := t.fall, late := none }

/-- ARM of a periodic output whose settings pass and whose START has passed. -/
theorem ttArm_of_past {n : Nat} {s : State} {p w start : Nat} (hper : s.bit (Reg.PTP_TT_CFG n) 0 = true)
    (hp : p = (s.rd (Reg.PTP_TT_PERIOD n)).toNat * 65536 + s.fd (Reg.PTP_TT_PERIOD_FRAC n) 0 16) (hw : w = (s.rd (Reg.PTP_TT_WIDTH n)).toNat)
    (hstart : start = ((s.rd (Reg.PTP_TT_START_HI n)).toNat * 2 ^ 32 + (s.rd (Reg.PTP_TT_START_LO n)).toNat) * 65536)
    (hw20 : 20 ≤ w) (hp40 : 40 * 65536 ≤ p) (hfit : (w + 20) * 65536 ≤ p) (hpast : start ≤ s.tickNs * 65536) :
    ttArm n s = ttShow n ((setTtState n 1 (modTt n (periodicArmed s n p w start ((s.tickNs * 65536 - start) / p + 1)) s)).wr
      (Reg.PTP_TT_SKIP n) (BitVec.ofNat 32 ((s.tickNs * 65536 - start) / p + 1))) := by
  have hbad : (decide (w < 20) || (true && (decide (p < 40 * 65536) || decide (p < (w + 20) * 65536)))) = false := by
    simp only [Bool.true_and, Bool.or_eq_false_iff, decide_eq_false_iff_not]
    omega
  have hk : (if (true && decide (start ≤ s.tickNs * 65536)) = true then (s.tickNs * 65536 - start) / p + 1 else 0) =
      (s.tickNs * 65536 - start) / p + 1 := if_pos (by simpa using hpast)
  unfold ttArm
  simp only [hper, ← hp, ← hw, ← hstart]
  rw [if_neg (by rw [hbad]; decide), hk]
  rfl

/-- An output that waits with a width is not as it is unused, so its state reads back as armed. -/
theorem tt_modTt_periodicArmed {u s : State} {n p w start k : Nat} (hw : 20 ≤ w) :
    tt (modTt n (periodicArmed u n p w start k) s) n = periodicArmed u n p w start k (tt s n) := by
  have hne : periodicArmed u n p w start k (tt s n) ≠ {} := fun h => by
    have : w = 0 := congrArg TtSt.width h
    omega
  unfold tt modTt sput
  rw [if_neg hne]
  exact sget_sinsert_same _ _ _ _

/-- What TTn_NEXT shows stands beside TTn_SKIP. -/
theorem rd_skip_ttShow {s : State} (h : s.canonical = true) (n : Nat) (v : Word) :
    (ttShow n (s.wr (Reg.PTP_TT_SKIP n) v)).rd (Reg.PTP_TT_SKIP n) = v := by
  unfold ttShow
  rw [rd_wr_other (canonical_wr h) (by simp only [Reg.PTP_TT_SKIP, Reg.PTP_TT_NEXT]; omega), rd_wr_same h]

/-- Settles O18: `ttArm_of_past`, with the number of periods of `skipped_least`. -/
theorem armingAPastPeriodicOutputSkipsPeriods : Obligations.ArmingAPastPeriodicOutputSkipsPeriods := by
  unfold Obligations.ArmingAPastPeriodicOutputSkipsPeriods
  intro n z s p w start hs h hper hp hw hstart hw20 hp40 hfit hpast
  obtain ⟨hafter, hleast⟩ := skipped_least (p := p) (by omega) hpast
  have harm := ttArm_of_past hper hp hw hstart hw20 hp40 hfit hpast
  refine ⟨ttArm n.val s, (s.tickNs * 65536 - start) / p + 1, by rw [exec_ttnArm, ← hs], ?_, hafter, hleast, ?_⟩
  · have htt : tt (ttArm n.val s) n.val = periodicArmed s n.val p w start ((s.tickNs * 65536 - start) / p + 1) (tt s n.val) := by
      rw [harm]
      exact tt_modTt_periodicArmed hw20
    rw [htt]
    rfl
  · rw [harm]
    exact rd_skip_ttShow ((keeps_setTtState (keeps_modTt (keeps_refl s))).canon h) _ _

end Sys2Proof.Machine
end

section
/-! SUPPORT. The clock that counts in a tick (R277, R293, R294). -/
namespace Sys2Proof.Machine

theorem clockTick_of_core {s : State} (hon : s.pwr.aon.on = false) (hlost : s.pwr.aon.lost = false) :
    clockTick s = { s with now := (s.now + tickAdd s) % timeWrap } := by
  unfold clockTick
  simp [hon, hlost]

theorem clockTick_of_aon {s : State} (hon : s.pwr.aon.on = true) (hlost : s.pwr.aon.lost = false) : clockTick s = aonTick s := by
  unfold clockTick
  simp [hon, hlost]

theorem clockTick_of_lost {s : State} (hlost : s.pwr.aon.lost = true) : clockTick s = s := by
  unfold clockTick
  simp [hlost]

/-- Settles O2: a step on an empty queue is an idle tick, whose clock is one of the three. -/
theorem anEmptyQueueLetsOneMicrosecondPass : Obligations.AnEmptyQueueLetsOneMicrosecondPass := by
  unfold Obligations.AnEmptyQueueLetsOneMicrosecondPass
  intro s hnil
  exact ⟨(step_of_nil hnil).trans (idleTick_eq s), clockTick_of_core, clockTick_of_aon, clockTick_of_lost⟩

end Sys2Proof.Machine
end

section
/-! SUPPORT. Commands that only read (mark R of Tables CMD-4 to CMD-9 and CMD-12, R346): on every path their service ends in one answer on the
state it met. -/
namespace Sys2Proof.Machine

/-- A state that an answer alone leads to. -/
def IsAnswer (c : Ctx) (s t : State) : Prop := ∃ (status : Nat) (part : List Byte), t = respondTo c status part s

theorem isAnswer_respondTo (c : Ctx) (status : Nat) (part : List Byte) (s : State) : IsAnswer c s (respondTo c status part s) :=
  ⟨status, part, rfl⟩

theorem isAnswer_readBack (c : Ctx) (part : List Byte) (s : State) : IsAnswer c s (readBack c part s) := isAnswer_respondTo c _ part s

theorem isAnswer_refuse (c : Ctx) (status : Nat) (s : State) : IsAnswer c s (refuse c status s) := isAnswer_respondTo c status [] s

theorem isAnswer_ite {c : Ctx} {s t u : State} {p : Prop} [Decidable p] (ht : IsAnswer c s t) (hu : IsAnswer c s u) :
    IsAnswer c s (if p then t else u) := by
  split
  · exact ht
  · exact hu

/-- A payload too short is answered BAD_LENGTH. -/
theorem isAnswer_need {n : Nat} {c : Ctx} {f : State → State} {s : State} (h : IsAnswer c s (f s)) : IsAnswer c s (need n c f s) :=
  isAnswer_ite (isAnswer_refuse c _ s) h

/-! ### The services that check their parameters -/

theorem isAnswer_bodyCorrRead (c : Ctx) (s : State) : IsAnswer c s (bodyCorrRead c s) :=
  isAnswer_need (isAnswer_ite (isAnswer_refuse c _ s) (isAnswer_readBack c _ s))

theorem isAnswer_bodyHealthGet (c : Ctx) (s : State) : IsAnswer c s (bodyHealthGet c s) :=
  isAnswer_ite (isAnswer_readBack c _ s) (isAnswer_readBack c _ s)

theorem isAnswer_bodyMapRead (c : Ctx) (s : State) : IsAnswer c s (bodyMapRead c s) :=
  isAnswer_need (isAnswer_ite (isAnswer_refuse c _ s) (isAnswer_readBack c _ s))

theorem isAnswer_bodyFabGet (c : Ctx) (s : State) : IsAnswer c s (bodyFabGet c s) :=
  isAnswer_ite (isAnswer_readBack c _ s) (isAnswer_readBack c _ s)

theorem isAnswer_bodyFabTopo (c : Ctx) (s : State) : IsAnswer c s (bodyFabTopo c s) :=
  isAnswer_need (isAnswer_ite (isAnswer_refuse c _ s) (isAnswer_ite (isAnswer_refuse c _ s) (isAnswer_readBack c _ s)))

theorem isAnswer_bodyLogRead (c : Ctx) (s : State) : IsAnswer c s (bodyLogRead c s) :=
  isAnswer_need (isAnswer_ite (isAnswer_refuse c _ s) (isAnswer_readBack c _ s))

theorem isAnswer_bodyRegRead (c : Ctx) (s : State) : IsAnswer c s (bodyRegRead c s) :=
  isAnswer_need (isAnswer_ite (isAnswer_refuse c _ s) (isAnswer_ite (isAnswer_respondTo c _ _ s) (isAnswer_readBack c _ s)))

/-! ### The commands -/

/-- The row of a code has mark R and not mark T. -/
def readRow (code : Nat) : Bool := (svcRow code).any fun r => r.rd && !r.tim

/-- A command is the service of a code whose row only reads and whose body ends in an answer. -/
def ReadService (m : Msg) (i : Instr) : Prop :=
  ∃ (code : Nat) (body : Ctx → State → State), readRow code = true ∧ (∀ c s, IsAnswer c s (body c s)) ∧
    ∀ z, exec i z = .next (State.settle (serve code body m (rasterFirst z)))

/-- A command whose body is one answer, whatever its payload. -/
theorem readService_of_readBack {m : Msg} {i : Instr} {code : Nat} (part : Ctx → State → List Byte) (hrow : readRow code = true)
    (hexec : ∀ z, exec i z = .next (State.settle (serve code (fun c s => readBack c (part c s) s) m (rasterFirst z)))) : ReadService m i :=
  ⟨code, _, hrow, fun c s => isAnswer_readBack c _ s, hexec⟩

theorem readService_of_mem (m : Msg) : ∀ i ∈ [Instr.sysInfo m, Instr.sysStatus m, Instr.pwrGet m, Instr.rasGet m, Instr.layerGet m,
    Instr.beamGet m, Instr.laStatus m, Instr.corrRead m, Instr.healthGet m, Instr.mapRead m, Instr.supGet m, Instr.polGet m,
    Instr.snowGet m, Instr.linkGet m, Instr.fabGet m, Instr.fabTopo m, Instr.timeGet m, Instr.sensorGet m, Instr.crcGet m,
    Instr.logRead m, Instr.fwInfo m, Instr.regRead m], ReadService m i := by
  simp only [List.forall_mem_cons]
  exact ⟨
    readService_of_readBack (code := 0x0100) _ rfl fun _ => rfl,
    readService_of_readBack (code := 0x0101) _ rfl fun _ => rfl,
    readService_of_readBack (code := 0x0200) _ rfl fun _ => rfl,
    readService_of_readBack (code := 0x0300) _ rfl fun _ => rfl,
    readService_of_readBack (code := 0x0400) _ rfl fun _ => rfl,
    readService_of_readBack (code := 0x0500) _ rfl fun _ => rfl,
    readService_of_readBack (code := 0x0543) _ rfl fun _ => rfl,
    ⟨0x0600, _, rfl, isAnswer_bodyCorrRead, fun _ => rfl⟩,
    ⟨0x0700, _, rfl, isAnswer_bodyHealthGet, fun _ => rfl⟩,
    ⟨0x0701, _, rfl, isAnswer_bodyMapRead, fun _ => rfl⟩,
    readService_of_readBack (code := 0x0800) _ rfl fun _ => rfl,
    readService_of_readBack (code := 0x0900) _ rfl fun _ => rfl,
    readService_of_readBack (code := 0x0A00) _ rfl fun _ => rfl,
    readService_of_readBack (code := 0x0B00) _ rfl fun _ => rfl,
    ⟨0x0C00, _, rfl, isAnswer_bodyFabGet, fun _ => rfl⟩,
    ⟨0x0C07, _, rfl, isAnswer_bodyFabTopo, fun _ => rfl⟩,
    readService_of_readBack (code := 0x0D00) _ rfl fun _ => rfl,
    readService_of_readBack (code := 0x0E00) _ rfl fun _ => rfl,
    readService_of_readBack (code := 0x0F00) _ rfl fun _ => rfl,
    ⟨0x1000, _, rfl, isAnswer_bodyLogRead, fun _ => rfl⟩,
    readService_of_readBack (code := 0x1100) _ rfl fun _ => rfl,
    ⟨0x1200, _, rfl, isAnswer_bodyRegRead, fun _ => rfl⟩,
    List.forall_mem_nil _⟩

theorem row_of_readRow {code : Nat} (h : readRow code = true) : ∃ r, svcRow code = some r ∧ r.rd = true ∧ r.tim = false := by
  unfold readRow at h
  cases hr : svcRow code with
  | none => simp [hr] at h
  | some r =>
    simp only [hr, Option.any_some, Bool.and_eq_true, Bool.not_eq_true'] at h
    exact ⟨r, rfl, h⟩

/-- A service of mark R on this device ends in one answer: where a check refuses, where the request is timed, which its row does not take,
and in its body. -/
theorem serve_read {code : Nat} {body : Ctx → State → State} {m : Msg} {s : State} (hrow : readRow code = true) (hfid : m.fid = 0)
    (hbody : ∀ c s, IsAnswer c s (body c s)) : ∃ c : Ctx, c.m = m ∧ IsAnswer c s (serve code body m s) := by
  obtain ⟨r, hr, hread, htim⟩ := row_of_readRow hrow
  rw [serve_here hr hfid]
  by_cases hrefused : rowRefuses r m = true
  · rw [if_pos hrefused]
    exact ⟨_, rfl, isAnswer_refuse { code := code, m := m } _ s⟩
  · have huntimed : ¬ m.flags.getLsbD 2 = true := fun h => hrefused (rowRefuses_of_timed h htim)
    rw [if_neg hrefused, if_neg (by simp [hread] : ¬ (!r.rd && isBusy s code m) = true), if_neg huntimed]
    by_cases hstate : stateRefuses s r = true
    · rw [if_pos hstate]
      exact ⟨_, rfl, isAnswer_refuse { code := code, m := m } _ s⟩
    · rw [if_neg hstate]
      exact ⟨_, rfl, hbody { code := code, m := m, light := r.light } s⟩

/-- Settles O9: the service of a command that only reads ends in one answer, and an answer on a quiet mailbox changes nothing else. -/
theorem readCommandsLeaveAllElse : Obligations.ReadCommandsLeaveAllElse := by
  unfold Obligations.ReadCommandsLeaveAllElse
  intro m z s t i hs hi hfid hcan hquiet ht
  obtain ⟨code, body, hrow, hbody, hexec⟩ := readService_of_mem m i hi
  obtain ⟨c, hc, status, part, hanswer⟩ := serve_read (s := s) hrow hfid hbody
  have hsettle : t = (respondTo c status part s).settle := by
    rw [hexec, ← hs, hanswer] at ht
    exact (Host.Outcome.next.inj ht).symm
  subst hc hsettle
  exact settle_respondTo hcan hquiet

end Sys2Proof.Machine
end

section
/-! SUPPORT. Packets as they are laid out and as a receiver checks them (R55, R56, R92, R93, R253 to R255): where each field of a layout is read
back, and that the check value behind the bytes is the one computed over them. -/
namespace Sys2Proof.Machine

/-! ### Fields of a layout -/

theorem take_leBytes {k n : Nat} (v : Nat) (h : k ≤ n) : (leBytes n v).take k = leBytes k v := by
  induction k generalizing n v with
  | zero => simp [leBytes]
  | succ k ih =>
    obtain ⟨n, rfl⟩ : ∃ m, n = m + 1 := ⟨n - 1, by omega⟩
    rw [leBytes, leBytes, List.take_succ_cons, ih _ (by omega)]

theorem drop_leBytes (i n v : Nat) : (leBytes n v).drop i = leBytes (n - i) (v / 256 ^ i) := by
  induction i generalizing n v with
  | zero => simp
  | succ i ih =>
    cases n with
    | zero => simp [leBytes]
    | succ n => rw [leBytes, List.drop_succ_cons, ih, Nat.div_div_eq_div_mul, Nat.pow_succ', Nat.add_sub_add_right]

/-- Bytes of a field are digits of its value to base 256. -/
theorem leAt_leBytes_digits {i k n : Nat} (v : Nat) (h : i + k ≤ n) : leAt (leBytes n v) i k = v / 256 ^ i % 256 ^ k := by
  unfold leAt
  rw [drop_leBytes, take_leBytes _ (by omega), leNat_leBytes]

/-- A value behind some bytes is read back where they end. -/
theorem leAt_append_leBytes {b : List Byte} {i k v : Nat} (hi : i = b.length) (hv : v < 256 ^ k) : leAt (b ++ leBytes k v) i k = v := by
  subst hi
  rw [leAt_append_right (Nat.le_refl _), Nat.sub_self, leAt_leBytes, Nat.mod_eq_of_lt hv]

/-! ### Packets of a segment link (R55, R56) -/

/-- The bytes of a packet that its CRC covers. -/
def slkBody (ty sub flags : Nat) (l : List Byte) : List Byte := leBytes 4 (slkHeader ty sub flags l.length) ++ l

theorem slkFrame_eq (ty sub flags : Nat) (l : List Byte) :
    slkFrame ty sub flags l = slkBody ty sub flags l ++ leBytes 2 (crcValue crc16P (slkBody ty sub flags l)) := rfl

@[simp] theorem slkBody_length (ty sub flags : Nat) (l : List Byte) : (slkBody ty sub flags l).length = 4 + l.length := by
  simp [slkBody]

@[simp] theorem slkFrame_length (ty sub flags : Nat) (l : List Byte) : (slkFrame ty sub flags l).length = l.length + 6 := by
  rw [slkFrame_eq, List.length_append, slkBody_length, leBytes_length]
  omega

/-- TYPE, SUB and FLAGS fill the low half of the header word, LENGTH the high one. -/
theorem slkHeader_length (ty sub flags len : Nat) : slkHeader ty sub flags len / 256 ^ 2 % 256 ^ 2 = len % 65536 := by
  unfold slkHeader
  omega

theorem leAt_slkFrame_length {l : List Byte} (ty sub flags : Nat) (h : l.length < 65536) : leAt (slkFrame ty sub flags l) 2 2 = l.length := by
  rw [slkFrame_eq, leAt_append_left (by simp), slkBody, leAt_append_left (by simp), leAt_leBytes_digits _ (by omega), slkHeader_length,
    Nat.mod_eq_of_lt h]

theorem slkGood_slkFrame {l : List Byte} (ty sub flags : Nat) (h : l.length ≤ 8192) : slkGood (slkFrame ty sub flags l) = true := by
  have hcrc := crcValue_lt crc16P (slkBody ty sub flags l)
  have hend : (slkFrame ty sub flags l).length - 2 = (slkBody ty sub flags l).length := by
    rw [slkFrame_length, slkBody_length]
    omega
  unfold slkGood
  rw [hend, leAt_slkFrame_length ty sub flags (by omega), slkFrame_length, slkFrame_eq, leAt_append_leBytes rfl hcrc, List.take_left,
    beq_self_eq_true, Bool.and_true, decide_eq_true_iff]
  omega

/-! ### Stream packets (R92, R93) -/

/-- The header of a stream packet with `len` bytes of payload. -/
def strHeader (ty sfn len : Nat) : List Byte := leBytes 1 (ty % 16) ++ [0] ++ leBytes 2 sfn ++ leBytes 2 len ++ [0, 0]

/-- The bytes of a stream packet that its CRC covers. -/
def strBody (ty sfn : Nat) (l : List Byte) : List Byte := strHeader ty sfn l.length ++ l

theorem strFrame_eq (ty sfn : Nat) (l : List Byte) : strFrame ty sfn l = strBody ty sfn l ++ leBytes 4 (crc32 (strBody ty sfn l)) := rfl

@[simp] theorem strHeader_length (ty sfn len : Nat) : (strHeader ty sfn len).length = 8 := rfl

@[simp] theorem strBody_length (ty sfn : Nat) (l : List Byte) : (strBody ty sfn l).length = 8 + l.length := by
  simp [strBody]

@[simp] theorem strFrame_length (ty sfn : Nat) (l : List Byte) : (strFrame ty sfn l).length = l.length + 12 := by
  rw [strFrame_eq, List.length_append, strBody_length, leBytes_length]
  omega

theorem leAt_strFrame_header {i n : Nat} (ty sfn : Nat) (l : List Byte) (h : i + n ≤ 8) :
    leAt (strFrame ty sfn l) i n = leAt (strHeader ty sfn l.length) i n := by
  rw [strFrame_eq, leAt_append_left (by simp; omega), strBody, leAt_append_left h]

theorem leAt_strFrame_payload {i n : Nat} (ty sfn : Nat) {l : List Byte} (h : i + n ≤ l.length) :
    leAt (strFrame ty sfn l) (8 + i) n = leAt l i n := by
  rw [strFrame_eq, leAt_append_left (by simp; omega), strBody, leAt_append_right (by simp), strHeader_length, Nat.add_sub_cancel_left]

theorem leAt_strFrame_type (ty sfn : Nat) (l : List Byte) : leAt (strFrame ty sfn l) 0 1 = ty % 16 := by
  rw [leAt_strFrame_header ty sfn l (by omega), strHeader, List.append_assoc, List.append_assoc, List.append_assoc, leAt_append_left (by simp),
    leAt_leBytes]
  omega

theorem leAt_strFrame_length (ty sfn : Nat) {l : List Byte} (h : l.length < 65536) : leAt (strFrame ty sfn l) 4 2 = l.length := by
  rw [leAt_strFrame_header ty sfn l (by omega), strHeader, leAt_append_left (by simp), leAt_append_leBytes (by simp) (by omega)]

/-- A packet laid out by `strFrame` has only the faults of its TYPE and of the LENGTH for it. -/
theorem strFault_strFrame {l : List Byte} (ty sfn : Nat) (h : l.length < 65536) (hlen : strLength (strFrame ty sfn l) = some true) :
    strFault (strFrame ty sfn l) true = 0 := by
  have hcrc : crc32 (strBody ty sfn l) < 256 ^ 4 := crcValue_lt crc32P _
  have hend : (strFrame ty sfn l).length - 4 = (strBody ty sfn l).length := by
    rw [strFrame_length, strBody_length]
    omega
  unfold strFault
  rw [hlen, hend, leAt_strFrame_length ty sfn h, strFrame_length, strFrame_eq, leAt_append_leBytes rfl hcrc, List.take_left]
  simp

theorem strLength_vstart (sfn : Nat) {l : List Byte} (h : l.length = 16) : strLength (strFrame 1 sfn l) = some true := by
  unfold strLength
  rw [leAt_strFrame_type, leAt_strFrame_length 1 sfn (by omega), h]
  rfl

theorem strLength_line (sfn : Nat) {l : List Byte} (hlt : l.length < 65536) (h : l.length = 8 + leAt l 4 2 * fmtBytes (leAt l 2 1)) :
    strLength (strFrame 2 sfn l) = some true := by
  unfold strLength
  rw [leAt_strFrame_type, leAt_strFrame_length 2 sfn hlt, leAt_strFrame_payload 2 sfn (i := 4) (by omega),
    leAt_strFrame_payload 2 sfn (i := 2) (by omega), ← h]
  exact congrArg some (beq_self_eq_true l.length)

theorem strLength_vend (sfn : Nat) {l : List Byte} (h : l.length = 8) : strLength (strFrame 3 sfn l) = some true := by
  unfold strLength
  rw [leAt_strFrame_type, leAt_strFrame_length 3 sfn (by omega), h]
  rfl

theorem strLength_meta (sfn : Nat) {l : List Byte} (hlo : 4 ≤ l.length) (hhi : l.length ≤ 1028) : strLength (strFrame 4 sfn l) = some true := by
  unfold strLength
  rw [leAt_strFrame_type, leAt_strFrame_length 4 sfn (by omega)]
  exact congrArg some (decide_eq_true ⟨hlo, hhi⟩)

/-! ### Fabric packets (R253 to R255) -/

/-- The first word of a header: addresses, TYPE and VC. -/
def FabPkt.word0 (k : FabPkt) : Nat := k.dest % 4096 + k.src % 4096 * 2 ^ 12 + k.ty % 16 * 2 ^ 24 + k.vc % 4 * 2 ^ 28

/-- What follows the byte of HOPS in its word: FLAGS and SEQ. -/
def FabPkt.word1 (k : FabPkt) : Nat := k.flags % 256 + k.seq % 65536 * 2 ^ 8

/-- The third word of a header: LENGTH and frame. -/
def FabPkt.word2 (k : FabPkt) : Nat := k.payload.length % 8192 + k.frame % 65536 * 2 ^ 16

/-- A header is its first word, the byte of HOPS, and the rest. -/
theorem FabPkt.header_eq (k : FabPkt) (hops : Nat) :
    k.header hops = leBytes 4 k.word0 ++ [BitVec.ofNat 8 (hops % 64)] ++ (leBytes 3 k.word1 ++ leBytes 4 k.word2 ++ leBytes 4 k.xinfo) := by
  have hbyte : BitVec.ofNat 8 (hops % 64 + k.flags % 256 * 2 ^ 8 + k.seq % 65536 * 2 ^ 16) = BitVec.ofNat 8 (hops % 64) := by
    apply BitVec.eq_of_toNat_eq
    simp only [BitVec.toNat_ofNat]
    omega
  have hrest : (hops % 64 + k.flags % 256 * 2 ^ 8 + k.seq % 65536 * 2 ^ 16) / 256 = k.word1 := by
    unfold FabPkt.word1
    omega
  have hword : leBytes 4 (hops % 64 + k.flags % 256 * 2 ^ 8 + k.seq % 65536 * 2 ^ 16) = [BitVec.ofNat 8 (hops % 64)] ++ leBytes 3 k.word1 := by
    rw [leBytes, hbyte, hrest]
    rfl
  unfold FabPkt.header
  rw [hword]
  simp only [FabPkt.word0, FabPkt.word2, List.append_assoc]

@[simp] theorem FabPkt.header_length (k : FabPkt) (hops : Nat) : (k.header hops).length = 16 := by
  simp [FabPkt.header]

@[simp] theorem FabPkt.onWire_length (k : FabPkt) : k.onWire.length = 20 + k.payload.length := by
  simp only [FabPkt.onWire, List.length_append, FabPkt.header_length, leBytes_length]
  omega

/-- The header with the byte of HOPS masked is the header with HOPS 0, over which the CRC is. -/
theorem FabPkt.onWire_masked (k : FabPkt) :
    k.onWire.take 4 ++ [k.onWire.getD 4 0 &&& 0xC0#8] ++ (k.onWire.take 16).drop 5 = k.header 0 := by
  have hmask : BitVec.ofNat 8 (k.hops % 64) &&& 0xC0#8 = BitVec.ofNat 8 (0 % 64) := by
    have hlt := Nat.mod_lt k.hops (by omega : 64 > 0)
    generalize k.hops % 64 = h at hlt
    interval_cases h <;> rfl
  have htake : k.onWire.take 16 = k.header k.hops := by
    rw [FabPkt.onWire, List.append_assoc, List.take_left' (by simp)]
  have htake4 : k.onWire.take 4 = (k.header k.hops).take 4 := by
    rw [← htake, List.take_take, Nat.min_eq_left (by omega)]
  have hget : k.onWire.getD 4 0 = (k.header k.hops).getD 4 0 := by
    rw [FabPkt.onWire, List.append_assoc, List.getD_append _ _ _ _ (by simp)]
  rw [htake, htake4, hget, FabPkt.header_eq k 0, ← hmask, FabPkt.header_eq k k.hops]
  simp [List.take_left', List.getD, List.drop_append]

/-- A field of the header as it is on the wire. -/
theorem FabPkt.leAt_onWire_header {i n : Nat} (k : FabPkt) (h : i + n ≤ 16) : leAt k.onWire i n = leAt (k.header k.hops) i n := by
  rw [FabPkt.onWire, List.append_assoc, leAt_append_left (by simpa using h)]

theorem FabPkt.leAt_onWire_type (k : FabPkt) : leAt k.onWire 3 1 = k.ty % 16 + k.vc % 4 * 16 := by
  rw [k.leAt_onWire_header (by omega), FabPkt.header_eq, List.append_assoc, leAt_append_left (by simp), leAt_leBytes_digits _ (by omega),
    FabPkt.word0]
  omega

theorem FabPkt.leAt_onWire_length (k : FabPkt) : leAt k.onWire 8 2 = k.payload.length % 8192 := by
  rw [k.leAt_onWire_header (by omega), FabPkt.header_eq, leAt_append_right (by simp), List.append_assoc (leBytes 3 _),
    leAt_append_right (by simp), leAt_append_left (by simp), leAt_leBytes_digits _ (by simp), FabPkt.word2]
  simp only [List.length_append, leBytes_length, List.length_cons, List.length_nil]
  omega

theorem FabPkt.leAt_onWire_crc (k : FabPkt) : leAt k.onWire (16 + k.payload.length) 4 = k.crc :=
  leAt_append_leBytes (by simp) (crcValue_lt crc32P _)

theorem FabPkt.onWire_payload (k : FabPkt) : (k.onWire.drop 16).take k.payload.length = k.payload := by
  rw [FabPkt.onWire, List.append_assoc, List.drop_left' (by simp), List.take_left]

theorem fabBad_onWire {k : FabPkt} (hty : k.ty < 16) (hvc : k.vc < 4) (hallowed : (fabVcs k.ty).contains k.vc = true)
    (hlen : k.payload.length ≤ 4096) : fabBad k.onWire true = false := by
  have htype : (k.ty % 16 + k.vc % 4 * 16) % 16 = k.ty := by omega
  have hchan : (k.ty % 16 + k.vc % 4 * 16) / 16 % 4 = k.vc := by omega
  have hbytes : k.payload.length % 8192 % 8192 = k.payload.length := by omega
  unfold fabBad
  simp only [k.leAt_onWire_type, k.leAt_onWire_length, htype, hchan, hbytes, k.onWire_masked, k.leAt_onWire_crc, k.onWire_payload]
  simpa [FabPkt.crc] using And.intro (List.contains_iff_mem.mp hallowed) hlen

/-- A bad packet other than FLOW gives back the credits of the bytes received. -/
theorem badPacket_of_bad {p : Nat} {b : List Byte} {s : State} (ha : fabActive s p = true) (hb : fabBad b true = true)
    (hflow : leAt b 3 1 % 16 ≠ 5) :
    badPacket p b true s = fabCredit p (leAt b 3 1 / 16 % 4) (fabCost (b.length - 20)) (s.count (Reg.FAB_P_CNT_CRC p)) := by
  unfold badPacket
  rw [if_neg (by simp [ha, hb]), if_neg (by simpa using hflow)]

/-- Settles O57: each layout read back by its receiver's checks. -/
theorem packetsSentAreGoodAtTheirReceiver : Obligations.PacketsSentAreGoodAtTheirReceiver := by
  unfold Obligations.PacketsSentAreGoodAtTheirReceiver
  refine ⟨fun ty sub flags l => slkGood_slkFrame ty sub flags, fun sfn l hlt => ⟨?vstart, ?line, ?vend, ?metaData⟩,
    fun k => fabBad_onWire, fun p _ b s => badPacket_of_bad⟩
  case vstart => exact fun h => strFault_strFrame 1 sfn hlt (strLength_vstart sfn h)
  case line => exact fun h => strFault_strFrame 2 sfn hlt (strLength_line sfn hlt h)
  case vend => exact fun h => strFault_strFrame 3 sfn hlt (strLength_vend sfn h)
  case metaData => exact fun hlo hhi => strFault_strFrame 4 sfn hlt (strLength_meta sfn hlo hhi)

end Sys2Proof.Machine
end

section
/-! SUPPORT. Commands of classes LINK, FAB and TIME (R61, R74, R81, R89, R256, R261, R271, R278, R288, R290, R297, R310): what the body of a
service comes to when the checks of its row pass. -/
namespace Sys2Proof.Machine

/-- A command that is served ends in what the body of its service comes to. -/
theorem exec_of_service {code : Nat} {body : Ctx → State → State} {m : Msg} {i : Instr} {z s t : State}
    (hexec : exec i z = .next (State.settle (serve code body m (rasterFirst z)))) (hs : s = rasterFirst z) (h : served code m s = true)
    (hbody : body (ctxOf code m) s = t) : exec i z = .next (State.settle t) := by
  rw [hexec, ← hs, serve_served h, hbody]

section
variable {c : Ctx} {s : State}

/-! ### LINK -/

theorem bodyLinkEnable_link (hlen : 2 ≤ c.m.payload.length) (hv : arg c 0 1 ≤ 1) (hcls : c.m.cls = 3)
    (hrate : arg c 1 1 ≤ 2 ∨ arg c 1 1 = 0xFF) :
    bodyLinkEnable c s = respondTo c St.ok [] (linkEn c.m.index.toNat (arg c 0 1 == 1)
      (when (arg c 1 1 != 0xFF) (State.wf · (Reg.SLK_LINK_CTRL c.m.index.toNat) 1 2 (arg c 1 1)) s)) :=
  (need_enough (by omega)).trans <| (if_neg (by omega)).trans <| (if_pos (by simp [hcls])).trans <| (need_enough hlen).trans <|
    if_neg (by simp only [Bool.and_eq_true, decide_eq_true_eq, bne_iff_ne]; omega)

/-- A stream that is switched off, or that passes R89, is enabled as asked. -/
theorem streamEnable_of_admitted {n : Nat} {v : Bool} (h : v = false ∨ streamAdmit s n = St.ok) :
    streamEnable c n v s = respondTo c St.ok [] (streamEn n v s) := by
  have hst : (if v && !(s.bit (Reg.SDS_STR_CTRL n) 0) then streamAdmit s n else St.ok) = St.ok := by
    rcases h with h | h <;> simp [h]
  unfold streamEnable
  rw [hst]
  rfl

theorem bodyLinkEnable_stream (hlen : 1 ≤ c.m.payload.length) (hv : arg c 0 1 ≤ 1) (hcls : c.m.cls = 7)
    (hadmit : arg c 0 1 = 0 ∨ streamAdmit s c.m.index.toNat = St.ok) :
    bodyLinkEnable c s = respondTo c St.ok [] (streamEn c.m.index.toNat (arg c 0 1 == 1) s) :=
  (need_enough hlen).trans <| (if_neg (by omega)).trans <| (if_neg (by simp [hcls])).trans <| (if_pos (by simp [hcls])).trans <|
    streamEnable_of_admitted (hadmit.imp_left fun h => by simp [h])

theorem bodyLinkEnable_port (hlen : 1 ≤ c.m.payload.length) (hv : arg c 0 1 ≤ 1) (hcls : c.m.cls = 12) :
    bodyLinkEnable c s = respondTo c St.ok [] (netEnable c.m.index.toNat (arg c 0 1 == 1) s) :=
  (need_enough hlen).trans <| (if_neg (by omega)).trans <| (if_neg (by simp [hcls])).trans <| if_neg (by simp [hcls])

theorem bodyLinkRetrain_links (hcls : c.m.cls = 3) (hsome : (objects c).filter (fun n => linkState s n == 6 || linkState s n == 7) ≠ []) :
    bodyLinkRetrain c s =
      respondTo c St.ok [] (forEach ((objects c).filter fun n => linkState s n == 6 || linkState s n == 7) linkRetrain s) :=
  (if_pos (by simp [hcls])).trans <| if_neg (by simpa only [List.isEmpty_iff] using hsome)

theorem bodyLinkRetrain_groups (hcls : c.m.cls ≠ 3) (hfree : (namedGroups c s).filter (fun g => !(seriesRuns s g)) ≠ []) :
    bodyLinkRetrain c s = respondTo c St.ok [] (forEach ((namedGroups c s).filter fun g => !(seriesRuns s g)) groupRestart s) := by
  have hnamed : namedGroups c s ≠ [] := fun h => hfree (by rw [h, List.filter_nil])
  exact (if_neg (by simpa only [beq_iff_eq] using hcls)).trans <| (if_neg (by simpa only [List.isEmpty_iff] using hnamed)).trans <|
    if_neg (by simpa only [List.isEmpty_iff] using hfree)

theorem bodyQuadCfg_of_off (hlen : 3 ≤ c.m.payload.length) (huse : arg c 0 1 ≤ 3) (hrefsel : arg c 1 1 ≤ 1) (hrate : arg c 2 1 ≤ 6)
    (hoff : quadOff s (c.m.index.toNat / 4) = true) :
    bodyQuadCfg c s =
      respondTo c St.ok [] (quadCfg (c.m.index.toNat / 4) (BitVec.ofNat 32 (arg c 0 1 + 4 * arg c 1 1 + 16 * arg c 2 1)) s) :=
  (need_enough hlen).trans <| (if_neg (by simp only [Bool.or_eq_true, decide_eq_true_eq]; omega)).trans <| if_neg (by simp [hoff])

theorem bodyLaneTest_of_free (hlen : 8 ≤ c.m.payload.length)
    (hctrl : reservedWord s (Reg.SDS_LANE_CTRL c.m.index.toNat) (BitVec.ofNat 32 (arg c 0 4)) = false)
    (htxeq : reservedWord s (Reg.SDS_LANE_TXEQ c.m.index.toNat) (BitVec.ofNat 32 (arg c 4 4)) = false)
    (hfree : ¬((BitVec.ofNat 32 (arg c 0 4)).getLsbD 0 = true ∧ s.bit (Reg.SDS_LANE_CTRL c.m.index.toNat) 0 = false ∧
      laneServes s c.m.index.toNat = true)) :
    bodyLaneTest c s = respondTo c St.ok [] (applyWord (Reg.SDS_LANE_TXEQ c.m.index.toNat) (BitVec.ofNat 32 (arg c 4 4))
      (applyWord (Reg.SDS_LANE_CTRL c.m.index.toNat) (BitVec.ofNat 32 (arg c 0 4)) s)) :=
  (need_enough hlen).trans <| (if_neg (by simp [hctrl, htxeq])).trans <|
    if_neg (by simpa only [Bool.and_eq_true, Bool.not_eq_true', and_assoc] using hfree)

theorem bodySegBlank_of_mode (hlen : 1 ≤ c.m.payload.length) (hmode : arg c 0 1 ≤ 2) :
    bodySegBlank c s = respondTo c St.ok [] (forEach ((objects c).filter (segReached s))
      (fun g t => if arg c 0 1 == 0 then segDarkNext g t else segBlankNow g (arg c 0 1) t) s) :=
  (need_enough hlen).trans <| if_neg (by omega)

/-! ### FAB -/

theorem bodyFabCfg_of_id (hlen : 4 ≤ c.m.payload.length) (hid : arg c 2 2 ≤ 0xFFE) (hpref : ¬((arg c 0 1).testBit 2 = true ∧ arg c 2 2 = 0)) :
    bodyFabCfg c s = respondTo c St.ok [] (fabEnable ((arg c 0 1).testBit 0)
      (((s.wf Reg.FAB_CTRL 1 1 (arg c 0 1 / 2)).wf Reg.FAB_CTRL 2 12 (arg c 2 2)).wf Reg.FAB_CTRL 14 1 (arg c 0 1 / 4))) :=
  (need_enough hlen).trans <| if_neg (by
    simp only [Bool.or_eq_true, decide_eq_true_eq, Bool.and_eq_true, beq_iff_eq, not_or]
    exact ⟨by omega, hpref⟩)

theorem bodyFabPort_of_lanes (hlen : 3 ≤ c.m.payload.length) (hen : arg c 0 1 ≤ 1) (hlanes : arg c 1 1 ≤ 2) (hfirst : arg c 2 1 ≤ 23)
    (hchoice : arg c 0 1 = 1 → laneChoiceOk s 2 (BitVec.ofNat 32 (arg c 0 1 + 2 * arg c 1 1 + 8 * arg c 2 1)) = true) :
    bodyFabPort c s = respondTo c St.ok [] (regWrite (Reg.FAB_P_CTRL c.m.index.toNat)
      (BitVec.ofNat 32 (arg c 0 1 + 2 * arg c 1 1 + 8 * arg c 2 1)) s) :=
  (need_enough hlen).trans <| (if_neg (by simp only [Bool.or_eq_true, decide_eq_true_eq]; omega)).trans <| if_neg (by simpa using hchoice)

/-- The state in which the root has taken FAB_GROUP: the group is set anew and the command awaits its completion. -/
def groupTaken (c : Ctx) (s : State) : State :=
  acceptOp c clsDevice 0 0 [] { s with fab := { s.fab with grp := s.fab.grp.filter (·.1 != arg c 0 1) ++
    [(arg c 0 1, arg c 2 2, (List.range (arg c 4 2)).map fun i => arg c (6 + 2 * i) 2)] } }

theorem bodyFabGroup_of_root (hlen : 6 + 2 * arg c 4 2 ≤ c.m.payload.length) (hlo : 1 ≤ arg c 4 2) (hhi : arg c 4 2 ≤ 1024)
    (hroot : isRoot s = true) : bodyFabGroup c s = when (groupTaken c s).fab.asg.isNone sendRoutes (groupTaken c s) :=
  (need_enough (by omega)).trans <| (need_enough hlen).trans <|
    (if_neg (by simp only [Bool.or_eq_true, decide_eq_true_eq, beq_iff_eq]; omega)).trans <| if_neg (by simp [hroot])

theorem bodyFabFwd_of_words (hlen : 12 ≤ c.m.payload.length) (hn : arg c 0 1 ≤ 15)
    (hcfg : reservedWord s (Reg.FAB_FWD_CFG (arg c 0 1)) (BitVec.ofNat 32 (arg c 4 4)) = false)
    (hlines : reservedWord s (Reg.FAB_FWD_LINES (arg c 0 1)) (BitVec.ofNat 32 (arg c 8 4)) = false) :
    bodyFabFwd c s = respondTo c St.ok [] (writeWords [(Reg.FAB_FWD_CFG (arg c 0 1), BitVec.ofNat 32 (arg c 4 4)),
      (Reg.FAB_FWD_LINES (arg c 0 1), BitVec.ofNat 32 (arg c 8 4))] s) :=
  (need_enough hlen).trans <| if_neg (by simpa [hcfg, hlines] using hn)

theorem bodyFabSub_of_surface (hlen : 16 ≤ c.m.payload.length) (hn : arg c 0 1 ≤ 15)
    (hcfg : reservedWord s (Reg.FAB_SUB_CFG (arg c 0 1)) (BitVec.ofNat 32 (arg c 4 4)) = false)
    (hwin : reservedWord s (Reg.FAB_SUB_WIN (arg c 0 1)) (BitVec.ofNat 32 (arg c 8 4)) = false)
    (hloss : reservedWord s (Reg.FAB_SUB_LOSS_TIMEOUT (arg c 0 1)) (BitVec.ofNat 32 (arg c 12 4)) = false)
    (hsurf : (BitVec.ofNat 32 (arg c 4 4)).getLsbD 0 = true → surfValid s (fld (BitVec.ofNat 32 (arg c 4 4)) 1 6) = true ∧
      surfSource s (fld (BitVec.ofNat 32 (arg c 4 4)) 1 6) = 5 ∧ surfBufs s (fld (BitVec.ofNat 32 (arg c 4 4)) 1 6) ≠ 1) :
    bodyFabSub c s = respondTo c St.ok [] (writeWords [(Reg.FAB_SUB_CFG (arg c 0 1), BitVec.ofNat 32 (arg c 4 4)),
      (Reg.FAB_SUB_WIN (arg c 0 1), BitVec.ofNat 32 (arg c 8 4)), (Reg.FAB_SUB_LOSS_TIMEOUT (arg c 0 1), BitVec.ofNat 32 (arg c 12 4))] s) :=
  (need_enough hlen).trans <| (if_neg (by simpa [hcfg, hwin, hloss] using hn)).trans <| if_neg (by
    rw [Bool.and_eq_true, not_and]
    intro hen
    obtain ⟨hvalid, hsource, hbufs⟩ := hsurf hen
    simp [hvalid, hsource, hbufs])

theorem bodyFabRediscover_of_joined (h : s.bit Reg.FAB_CTRL 0 = true) : bodyFabRediscover c s = respondTo c St.ok [] (fabDiscover s) :=
  if_pos h

/-! ### TIME -/

theorem bodyTimeSet_of_mode (hlen : 16 ≤ c.m.payload.length) (hmode : arg c 0 1 ≤ 1) :
    bodyTimeSet c s =
      respondTo c St.ok [] (if arg c 0 1 == 0 then setTime (arg c 8 8 * 2 ^ 32) s else stepTime (ns16 (sext 64 (arg c 8 8))) s) :=
  (need_enough hlen).trans <| if_neg (by omega)

theorem bodyTimeSet_set (hlen : 16 ≤ c.m.payload.length) (hmode : arg c 0 1 = 0) :
    bodyTimeSet c s = respondTo c St.ok [] (setTime (arg c 8 8 * 2 ^ 32) s) := by
  rw [bodyTimeSet_of_mode hlen (by omega), if_pos (by rw [hmode]; rfl)]

theorem bodyTimeSet_step (hlen : 16 ≤ c.m.payload.length) (hmode : arg c 0 1 = 1) :
    bodyTimeSet c s = respondTo c St.ok [] (stepTime (ns16 (sext 64 (arg c 8 8))) s) := by
  rw [bodyTimeSet_of_mode hlen (by omega), if_neg (by rw [hmode]; decide)]

theorem bodyTimeUtc_of_length (hlen : 2 ≤ c.m.payload.length) :
    bodyTimeUtc c s = respondTo c St.ok [] { s with ptp := { s.ptp with utc := sext 16 (arg c 0 2) } } := need_enough hlen

theorem bodyPtpPort_of_words (hlen : 12 ≤ c.m.payload.length) {q : Nat} (hq : q = if c.m.cls = 5 then c.m.index.toNat else 4 + c.m.index.toNat)
    (hport : q ≤ 5) (hcfg : reservedWord s (Reg.PTP_PORT_CFG q) (BitVec.ofNat 32 (arg c 0 4)) = false)
    (heg : reservedWord s (Reg.PTP_PORT_EG_ADJ q) (BitVec.ofNat 32 (arg c 4 4)) = false)
    (hig : reservedWord s (Reg.PTP_PORT_IG_ADJ q) (BitVec.ofNat 32 (arg c 8 4)) = false)
    (hstamps : (BitVec.ofNat 32 (arg c 0 4)).getLsbD 0 = true → ptpStamps s q = true) :
    bodyPtpPort c s = respondTo c St.ok [] (writeWords [(Reg.PTP_PORT_CFG q, BitVec.ofNat 32 (arg c 0 4)),
      (Reg.PTP_PORT_EG_ADJ q, BitVec.ofNat 32 (arg c 4 4)), (Reg.PTP_PORT_IG_ADJ q, BitVec.ofNat 32 (arg c 8 4))] s) := by
  have hq' : q = if c.m.cls == 5 then c.m.index.toNat else 4 + c.m.index.toNat := by simp only [hq, beq_iff_eq]
  subst hq'
  exact (need_enough hlen).trans <| (if_neg (by omega)).trans <| (if_neg (by
    simp only [List.any_cons, List.any_nil, hcfg, heg, hig]
    decide)).trans <| if_neg (by simpa only [Bool.and_eq_true, Bool.not_eq_true', not_and, Bool.not_eq_false] using hstamps)

/-- The five settings of an output and the bits of its CFG that TT_ARM writes before it arms. -/
def ttSet (c : Ctx) (s : State) : State :=
  writeWords
    [(Reg.PTP_TT_START_LO (arg c 0 1), BitVec.ofNat 32 (arg c 8 4)), (Reg.PTP_TT_START_HI (arg c 0 1), BitVec.ofNat 32 (arg c 12 4)),
      (Reg.PTP_TT_PERIOD (arg c 0 1), BitVec.ofNat 32 (arg c 16 4)), (Reg.PTP_TT_PERIOD_FRAC (arg c 0 1), BitVec.ofNat 32 (arg c 20 2)),
      (Reg.PTP_TT_WIDTH (arg c 0 1), BitVec.ofNat 32 (arg c 24 4))] (s.wf (Reg.PTP_TT_CFG (arg c 0 1)) 0 2 (arg c 1 1))

/-- The answer of TT_ARM: STATE and SKIP of output `n`. -/
def ttAnswer (c : Ctx) (n : Nat) (t : State) : State :=
  respondTo c St.ok (leBytes 1 (ttState t n) ++ leBytes 3 0 ++ leBytes 4 (t.rd (Reg.PTP_TT_SKIP n)).toNat) t

theorem bodyTtArm_of_arm (hlen : 28 ≤ c.m.payload.length) (hn : arg c 0 1 ≤ 3) (hcancel : (arg c 1 1).testBit 2 = false) :
    bodyTtArm c s = ttAnswer c (arg c 0 1) (ttArm (arg c 0 1) (ttSet c s)) :=
  (need_enough (by omega)).trans <| (if_neg (by omega)).trans <| (if_neg (by simp [hcancel])).trans <| need_enough hlen

theorem bodyTcPop_of_count (hlen : 2 ≤ c.m.payload.length) (hn : arg c 0 1 ≤ 3) (hlo : 1 ≤ arg c 1 1) (hhi : arg c 1 1 ≤ 16) :
    bodyTcPop c s = respondTo c St.ok (((tcFifo s (arg c 0 1)).take (arg c 1 1)).flatMap fun e => leBytes 8 e.1 ++ leBytes 4 (b2n e.2))
      (setTc (arg c 0 1) ((tcFifo s (arg c 0 1)).drop (arg c 1 1)) s) :=
  (need_enough hlen).trans <| if_neg (by simp only [Bool.or_eq_true, decide_eq_true_eq, beq_iff_eq]; omega)

end

/-- Settles O42: each command is served, and its body is in the case that the hypotheses of its clause select. -/
theorem linkFabricAndTimeCommandsTakeEffect : Obligations.LinkFabricAndTimeCommandsTakeEffect := by
  unfold Obligations.LinkFabricAndTimeCommandsTakeEffect
  refine ⟨?enLink, ?enStream, ?enPort, ?retrainLinks, ?retrainGroups, ?quadCfg, ?laneTest, ?segBlank, ?fabCfg, ?fabPort, ?fabGroup, ?fabFwd,
    ?fabSub, ?fabRediscover, ?timeSet, ?timeStep, ?timeUtc, ?ptpPort, ?ttArm, ?tcPop⟩
  case enLink =>
    rintro m z s _ hs rfl h hlen hv hcls hrate
    exact exec_of_service rfl hs h (bodyLinkEnable_link hlen hv hcls hrate)
  case enStream =>
    rintro m z s _ hs rfl h hlen hv hcls hadmit
    exact exec_of_service rfl hs h (bodyLinkEnable_stream hlen hv hcls hadmit)
  case enPort =>
    rintro m z s _ hs rfl h hlen hv hcls
    exact exec_of_service rfl hs h (bodyLinkEnable_port hlen hv hcls)
  case retrainLinks =>
    rintro m z s _ hs rfl h hcls hsome
    exact exec_of_service rfl hs h (bodyLinkRetrain_links hcls hsome)
  case retrainGroups =>
    rintro m z s _ hs rfl h hcls hfree
    exact exec_of_service rfl hs h (bodyLinkRetrain_groups hcls hfree)
  case quadCfg =>
    rintro m z s _ hs rfl h hlen huse hrefsel hrate hoff
    exact exec_of_service rfl hs h (bodyQuadCfg_of_off hlen huse hrefsel hrate hoff)
  case laneTest =>
    rintro m z s _ hs rfl h hlen hctrl htxeq hfree
    exact exec_of_service rfl hs h (bodyLaneTest_of_free hlen hctrl htxeq hfree)
  case segBlank =>
    rintro m z s _ hs rfl h hlen hmode
    exact exec_of_service rfl hs h (bodySegBlank_of_mode hlen hmode)
  case fabCfg =>
    rintro m z s _ hs rfl h hlen hid hpref
    exact exec_of_service rfl hs h (bodyFabCfg_of_id hlen hid hpref)
  case fabPort =>
    rintro m z s _ hs rfl h hlen hen hlanes hfirst hchoice
    exact exec_of_service rfl hs h (bodyFabPort_of_lanes hlen hen hlanes hfirst hchoice)
  case fabGroup =>
    rintro m z s _ hs rfl h hlen hlo hhi hroot
    exact exec_of_service rfl hs h (bodyFabGroup_of_root hlen hlo hhi hroot)
  case fabFwd =>
    rintro m z s _ hs rfl h hlen hn hcfg hlines
    exact exec_of_service rfl hs h (bodyFabFwd_of_words hlen hn hcfg hlines)
  case fabSub =>
    rintro m z s _ hs rfl h hlen hn hcfg hwin hloss hsurf
    exact exec_of_service rfl hs h (bodyFabSub_of_surface hlen hn hcfg hwin hloss hsurf)
  case fabRediscover =>
    rintro m z s _ hs rfl h hjoined
    exact exec_of_service rfl hs h (bodyFabRediscover_of_joined hjoined)
  case timeSet =>
    rintro m z s _ hs rfl h hlen hmode
    exact exec_of_service rfl hs h (bodyTimeSet_set hlen hmode)
  case timeStep =>
    rintro m z s _ hs rfl h hlen hmode
    exact exec_of_service rfl hs h (bodyTimeSet_step hlen hmode)
  case timeUtc =>
    rintro m z s _ hs rfl h hlen
    exact exec_of_service rfl hs h (bodyTimeUtc_of_length hlen)
  case ptpPort =>
    rintro m z s _ hs rfl h hlen q hq hport hcfg heg hig hstamps
    exact exec_of_service rfl hs h (bodyPtpPort_of_words hlen hq hport hcfg heg hig hstamps)
  case ttArm =>
    rintro m z s _ hs rfl h hlen hn hcancel
    exact exec_of_service rfl hs h (bodyTtArm_of_arm hlen hn hcancel)
  case tcPop =>
    rintro m z s _ hs rfl h hlen hn hlo hhi
    exact exec_of_service rfl hs h (bodyTcPop_of_count hlen hn hlo hhi)

end Sys2Proof.Machine
end

section
/-! SUPPORT. The events of a segment link (R52, R57, R63, R64, R66 to R68, R72 to R76, R79, R81, R84): what each does in each of its cases. -/
namespace Sys2Proof.Machine

/-! ### The commands and their meanings -/

theorem exec_linknCtrlEn (n : Fin 32) (v : Bool) (z : State) :
    exec (.linknCtrlEn n v) z = .next (State.settle (linkEn n.val v (rasterFirst z))) := rfl
theorem exec_linknCtrlRetrain (n : Fin 32) (z : State) :
    exec (.linknCtrlRetrain n) z = .next (State.settle (linkRetrain n.val (rasterFirst z))) := rfl
theorem exec_teMaskWrite (w : Word) (z : State) : exec (.teMaskWrite w) z = .next (State.settle (teMask w (rasterFirst z))) := rfl
theorem exec_heartbeat (n : Fin 32) (s : State) : exec (.heartbeat n) s = .next (State.settle (heartbeat n.val s)) := rfl
theorem exec_heartbeatEcho (n : Fin 32) (c : Byte) (s : State) :
    exec (.heartbeatEcho n c) s = .next (State.settle (heartbeatEcho n.val c s)) := rfl
theorem exec_heartbeatEchoTimeout (n : Fin 32) (s : State) :
    exec (.heartbeatEchoTimeout n) s = .next (State.settle (echoMissing n.val s)) := rfl
theorem exec_upstreamLock (n : Fin 32) (s : State) : exec (.upstreamLock n) s = .next (State.settle (upLock n.val s)) := rfl
theorem exec_upstreamLockLoss (n : Fin 32) (s : State) : exec (.upstreamLockLoss n) s = .next (State.settle (upLockLoss n.val s)) := rfl
theorem exec_trainReq (n : Fin 32) (s : State) : exec (.trainReq n) s = .next (State.settle (sendTrainReq n.val s)) := rfl
theorem exec_trainRsp (n : Fin 32) (r : TrainRsp) (s : State) : exec (.trainRsp n r) s = .next (State.settle (trainRsp n.val r s)) := rfl
theorem exec_probeEcho (n : Fin 32) (w : BitVec 16) (s : State) :
    exec (.probeEcho n w) s = .next (State.settle (probeEcho n.val w.toNat s)) := rfl
theorem exec_calburstEcho (n : Fin 32) (tap : BitVec 7) (eye : Byte) (clean : Bool) (s : State) :
    exec (.calburstEcho n tap eye clean) s = .next (State.settle (calburstEcho n.val tap.toNat eye.toNat clean s)) := rfl
theorem exec_trainingStateTimeout (n : Fin 32) (s : State) :
    exec (.trainingStateTimeout n) s = .next (State.settle (trainTimeoutL n.val s)) := rfl
theorem exec_retryWaitExpiry (n : Fin 32) (s : State) : exec (.retryWaitExpiry n) s = .next (State.settle (retryWait n.val s)) := rfl
theorem exec_downAttempt (n : Fin 32) (s : State) : exec (.downAttempt n) s = .next (State.settle (downAttempt n.val s)) := rfl
theorem exec_ack (n : Fin 32) (tag : Byte) (ty : Fin 16) (sub : Fin 8) (s : State) :
    exec (.ack n tag ty sub) s = .next (State.settle (ackIn n.val tag ty.val sub.val s)) := rfl
theorem exec_nak (n : Fin 32) (tag : Byte) (ty : Fin 16) (sub : Fin 8) (reason : Byte) (b : Bool) (s : State) :
    exec (.nak n tag ty sub reason b) s = .next (State.settle (nakIn n.val tag ty.val sub.val reason.toNat b s)) := rfl
theorem exec_ackTimeout (n : Fin 32) (tag : Byte) (ty : Fin 16) (sub : Fin 8) (s : State) :
    exec (.ackTimeout n tag ty sub) s = .next (State.settle (ackTimeoutL n.val tag ty.val sub.val s)) := rfl
theorem exec_segStatus (g : Fin 256) (fn : Byte) (l : List Byte) (s : State) :
    exec (.segStatus g fn l) s = .next (State.settle (statusIn g.val fn l s)) := rfl
theorem exec_vfRow (g : Fin 256) (fn row base : Byte) (l : List Byte) (s : State) :
    exec (.vfRow g fn row base l) s = .next (State.settle (vfRow g.val fn row.toNat base.toNat l s)) := rfl
theorem exec_headroom (g : Fin 256) (fn : Byte) (mv : BitVec 16) (s : State) :
    exec (.headroom g fn mv) s = .next (State.settle (headroom g.val fn mv.toNat s)) := rfl
theorem exec_segTemp (n : Fin 32) (fn : Byte) (l : List (BitVec 16)) (s : State) :
    exec (.segTemp n fn l) s = .next (State.settle (segTemp n.val fn l s)) := rfl
theorem exec_upstreamBadPacket (n : Fin 32) (x : BadFrame) (s : State) :
    exec (.upstreamBadPacket n x) s = .next (State.settle (upstreamBad n.val x.frame x.eop x.codeErrs s)) := rfl
theorem exec_holdExpired (g : Fin 256) (s : State) : exec (.holdExpired g) s = .next (State.settle (holdExpired g.val s)) := rfl

section
variable {n : Nat} {s : State}

/-! ### Control of a link (R74, R81) -/

theorem linkEn_on_of_off (hoff : s.bit (Reg.SLK_LINK_CTRL n) 0 = false) (hst : linkState (s.wb (Reg.SLK_LINK_CTRL n) 0 true) n = 0) :
    linkEn n true s = linkSeries n (s.wb (Reg.SLK_LINK_CTRL n) 0 true) :=
  (if_neg (by simp [hoff])).trans <| (if_pos rfl).trans <| if_pos (by simp [hst])

/-- A link that is not ACTIVE has no segment to blank: it is off at once. -/
theorem linkEn_off_of_training (hon : s.bit (Reg.SLK_LINK_CTRL n) 0 = true) (hst : linkState (s.wb (Reg.SLK_LINK_CTRL n) 0 false) n ≠ 6) :
    linkEn n false s = linkEnter n 0 (s.wb (Reg.SLK_LINK_CTRL n) 0 false) :=
  (if_neg (by simp [hon])).trans <| (if_neg Bool.false_ne_true).trans <| if_neg (by simpa using hst)

theorem linkRetrain_of_active (h : linkState s n = 6) : linkRetrain n s = retrain n s := if_pos (by simp [h])

theorem linkRetrain_of_down (h : linkState s n = 7) : linkRetrain n s = linkSeries n s :=
  (if_neg (by simp [h])).trans <| if_pos (by simp [h])

/-! ### Heartbeats (R52) -/

theorem heartbeat_of_runs (h : hbRuns s n = true) :
    heartbeat n s = ((s.emit (.slkSet n 0xB5 (s.link n).hbNext.toNat)).wf (Reg.SLK_LINK_HB n) 0 8 (s.link n).hbNext.toNat).modLink n
      fun l => { l with hbNext := (s.link n).hbNext + 1, hbAt := now3 s } := if_pos h

theorem heartbeatEcho_right {c : Byte} (h : echoWatched s n = true)
    (hc : c.toNat = (s.wf (Reg.SLK_LINK_HB n) 8 8 c.toNat).fd (Reg.SLK_LINK_HB n) 0 8) :
    heartbeatEcho n c s = ((s.wf (Reg.SLK_LINK_HB n) 8 8 c.toNat).wb (Reg.SLK_LINK_STATE n) 17 true).modLink n
      fun l => { l with hbBad := 0 } := (if_pos h).trans <| if_pos (beq_iff_eq.mpr hc)

theorem heartbeatEcho_wrong {c : Byte} (h : echoWatched s n = true)
    (hc : c.toNat ≠ (s.wf (Reg.SLK_LINK_HB n) 8 8 c.toNat).fd (Reg.SLK_LINK_HB n) 0 8) :
    heartbeatEcho n c s = echoBad n (s.wf (Reg.SLK_LINK_HB n) 8 8 c.toNat) := (if_pos h).trans <| if_neg (mt beq_iff_eq.mp hc)

theorem echoMissing_of_watched (h : echoWatched s n = true) : echoMissing n s = echoBad n s := if_pos h

/-! ### Training (R63, R64, R72, R73, R76) -/

theorem upLock_of_align (hst : linkState s n = 1) (hwait : (s.link n).waiting = false) :
    upLock n s = linkEnter n 2 (s.wb (Reg.SLK_LINK_STATE n) 16 true) := if_pos (by simp [hst, hwait])

theorem upLockLoss_of_training (hawake : upAsleep s n = false) (hlock : s.bit (Reg.SLK_LINK_STATE n) 16 = true) (hlo : 2 ≤ linkState s n)
    (hhi : linkState s n ≤ 5) : upLockLoss n s = linkFail n 1 (s.wb (Reg.SLK_LINK_STATE n) 16 false) :=
  (if_neg (by simp [hawake, hlock])).trans <| if_pos (by simp [hlo, hhi])

theorem upLockLoss_of_active (hawake : upAsleep s n = false) (hlock : s.bit (Reg.SLK_LINK_STATE n) 16 = true) (hst : linkState s n = 6) :
    upLockLoss n s = autoTrigger n (s.wb (Reg.SLK_LINK_STATE n) 16 false) :=
  (if_neg (by simp [hawake, hlock])).trans <| (if_neg (by simp [hst])).trans <| if_pos (by simp [hst])

theorem sendTrainReq_of_ident (h : linkState s n = 2) :
    sendTrainReq n s = (s.emit (slkPacket n 6 0 0 ([(s.link n).tag, 0x10] ++ leBytes 1 (s.link n).rate ++ [0]))).modLink n
      fun l => { l with tag := (s.link n).tag + 1 } := if_pos (by simp [h])

/-- The registers that show the answer of a link's driver. -/
def showTrainRsp (n : Nat) (r : TrainRsp) (s : State) : State :=
  (((s.wr (Reg.SLK_LINK_CAPS n) (0#8 ++ r.caps ++ r.present ++ r.protoRev)).wr (Reg.SLK_LINK_GEOM n) r.geom).wr (Reg.SLK_LINK_DRIVER_ID n)
    r.driverId).wr (Reg.SLK_LINK_PARTNER n) (r.f ++ r.ta)

/-- A driver of version 1.x starts DELAY with its 16 PROBEs. -/
theorem trainRsp_of_version {r : TrainRsp} (hst : linkState s n = 2) (hlo : 0x10 ≤ r.protoRev.toNat) (hhi : r.protoRev.toNat ≤ 0x1F)
    (hquick : ((showTrainRsp n r s).link n).quick = false) :
    trainRsp n r s = forEach (List.range 16) (fun i t => t.emit (.slkSet n 0x5C i))
      (linkEnter n 3 (markSegs n r ((showTrainRsp n r s).modLink n fun l => { l with rtts := [] }))) :=
  (if_neg (by simp [hst])).trans <| (if_neg (by simp only [Bool.or_eq_true, decide_eq_true_eq]; omega)).trans <|
    if_neg (ne_true_of_eq_false hquick)

theorem trainRsp_of_other_version {r : TrainRsp} (hst : linkState s n = 2) (hrev : r.protoRev.toNat < 0x10 ∨ 0x1F < r.protoRev.toNat) :
    trainRsp n r s = linkFail n 3 (showTrainRsp n r s) :=
  (if_neg (by simp [hst])).trans <| if_pos (by simpa only [Bool.or_eq_true, decide_eq_true_eq] using hrev)

/-- The round trips kept of a link with one more, the last sixteen of them. -/
def keepRtt (n rtt : Nat) (s : State) : State := s.modLink n fun l => { l with rtts := ((l.rtts ++ [rtt]).reverse.take 16).reverse }

theorem probeEcho_of_agreement {rtt : Nat} (hst : linkState s n = 3) (hlen : ((keepRtt n rtt s).link n).rtts.length = 16)
    (hspread : ((keepRtt n rtt s).link n).rtts.foldl max 0 ≤
      ((keepRtt n rtt s).link n).rtts.foldl min (((keepRtt n rtt s).link n).rtts.headD 0) + 2) :
    probeEcho n rtt s = delayDone n (keepRtt n rtt s) :=
  (if_neg (by simp [hst])).trans <| if_pos (Bool.and_eq_true_iff.mpr ⟨beq_iff_eq.mpr hlen, decide_eq_true hspread⟩)

theorem calburstEcho_of_passed {tap eye : Nat} {clean : Bool} (hst : linkState s n = 4) (hagain : (s.link n).calAgain = false)
    (hcheck : calCheck s n (s.link n).heldTap [tap] eye clean = 0) :
    calburstEcho n tap eye clean s =
      enterConfig n ((calEnd n (s.link n).heldTap [tap] eye clean s).modLink n fun l => { l with heldTap := true }) :=
  (if_neg (by simp [hst])).trans <| (if_neg (ne_true_of_eq_false hagain)).trans <| if_pos (by rw [hcheck]; rfl)

theorem trainTimeoutL_of_training (htrain : linkTraining s n = true) (hwait : (s.link n).waiting = false) :
    trainTimeoutL n s = linkFail n (trainReason (linkState s n)) s := if_pos (by simp [htrain, hwait])

theorem retryWait_of_waiting (hst : linkState s n = 1) (hwait : (s.link n).waiting = true) : retryWait n s = alignStart n s :=
  if_pos (by simp [hst, hwait])

theorem downAttempt_of_down (h : linkState s n = 7) :
    downAttempt n s = alignStart n (s.modLink n fun l => { l with fromDown := true }) := if_pos (by simp [h])

/-! ### Answers (R67, R68) -/

theorem ackIn_segCmd {tag : Byte} {sub : Nat} {p : OutPkt} (h : answered s n tag 2 sub = some p) :
    ackIn n tag 2 sub s = configCheck n (segCmdDone (8 * n + sub) p.payload (Machine.settle n p s)) := by
  unfold ackIn
  rw [h]
  rfl

theorem ackIn_timing {tag : Byte} {sub : Nat} {p : OutPkt} (h : answered s n tag 3 sub = some p) :
    ackIn n tag 3 sub s = configCheck n (Machine.settle n p s) := by
  unfold ackIn
  rw [h]
  rfl

/-- A NAK counted, in the registers and towards NAK_LIMIT. -/
def nakCounted (n : Nat) (s : State) : State :=
  (s.count (Reg.SLK_LINK_CNT_NAK_RX n)).modLink n fun l => { l with naks := (s.link n).naks + 1 }

/-- A NAK of a packet that waits, of no reason that ends it, and not the one past NAK_LIMIT. -/
theorem nakIn_of_resent {tag : Byte} {ty sub reason : Nat} {b : Bool} {p : OutPkt}
    (hlimit : (s.link n).naks + 1 ≠ (nakCounted n s).fd Reg.SLK_NAK_LIMIT 0 8 + 1) (hty : ty ≠ 1)
    (hp : answered (nakCounted n s) n tag ty sub = some p) (htype : reason ≠ 3) (hrange : reason ≠ 4) :
    nakIn n tag ty sub reason b s = resend n p (nakCounted n s) := by
  unfold nakIn
  extract_lets k t u
  have hquiet : u = nakCounted n s := if_neg (mt beq_iff_eq.mp hlimit)
  rw [hquiet, if_neg (mt beq_iff_eq.mp hty), hp]
  exact if_neg (by simp [htype, hrange])

theorem ackTimeoutL_of_answered {tag : Byte} {ty sub : Nat} {p : OutPkt} (h : answered s n tag ty sub = some p) :
    ackTimeoutL n tag ty sub s = resend n p s := by
  unfold ackTimeoutL
  rw [h]

/-! ### Reports (R66, R174, R196) -/

theorem statusIn_of_lit {g : Nat} {fn : Byte} {l : List Byte} (htaken : reportsTaken s (g / 8) = true)
    (hslot : (reportSlot s g fn).isSome = true) : statusIn g fn l s = lossEnd g (Machine.segStatus g fn l s) := if_pos (by simp [htaken, hslot])

theorem vfRow_of_lit {g row base : Nat} {fn : Byte} {l : List Byte} (htaken : reportsTaken s (g / 8) = true)
    (hslot : reportSlot s g fn = some 0) : vfRow g fn row base l s = s.modSeg g fun x => { x with vf0 := some (row, base, l) } := by
  unfold vfRow
  rw [if_neg (by simp [htaken]), hslot]
  rfl

theorem headroom_of_lit {g mv : Nat} {fn : Byte} (htaken : reportsTaken s (g / 8) = true) (hslot : reportSlot s g fn = some 0) :
    headroom g fn mv s = s.modSeg g fun x => { x with head0 := some mv } := by
  unfold headroom
  rw [if_neg (by simp [htaken]), hslot]
  rfl

theorem headroom_of_late {g mv : Nat} {fn : Byte} (htaken : reportsTaken s (g / 8) = true) (hslot : reportSlot s g fn = none) :
    headroom g fn mv s = s.count (Reg.SLK_LINK_CNT_LATE_RPT (g / 8)) := by
  unfold headroom
  rw [if_neg (by simp [htaken]), hslot]

theorem segTemp_of_lit {fn : Byte} {l : List (BitVec 16)} (htaken : reportsTaken s n = true) (hfn : fn = s.ras.frame.setWidth 8) :
    segTemp n fn l s = forEach (List.range 8) (fun i t => t.modSeg (8 * n + i) fun x =>
      { x with temp := if l.getD i 0x8000#16 == 0x8000#16 then none else some (l.getD i 0x8000#16).toInt, tempAge := 0 }) s :=
  (if_neg (by simp [htaken])).trans <| if_pos (by simp [hfn])

/-! ### What cannot be read (R55 to R57, R68, R74) -/

theorem upFault_of_bad {f : List Byte} {eop : Bool} (h : eop = false ∨ slkGood f = false) : upFault f eop = 1 :=
  if_pos (by simpa only [Bool.or_eq_true, Bool.not_eq_true'] using h)

theorem upFault_of_type {f : List Byte} {eop : Bool} (heop : eop = true) (hgood : slkGood f = true)
    (htype : upLength (leAt f 0 1 % 16) = none) : upFault f eop = 2 := by
  unfold upFault
  rw [if_neg (by simp [heop, hgood]), htype]

theorem upFault_of_length {f : List Byte} {eop : Bool} {k : Nat} (heop : eop = true) (hgood : slkGood f = true)
    (htype : upLength (leAt f 0 1 % 16) = some k) : upFault f eop = if f.length = k + 6 then 0 else 1 := by
  unfold upFault
  rw [if_neg (by simp [heop, hgood]), htype]
  simp only [beq_iff_eq]

/-- Upstream characters are taken into account. -/
theorem upstreamBad_of_watched {f : List Byte} {eop : Bool} {errs : Nat} {t : State} (hruns : hbRuns s n = true)
    (hawake : upAsleep s n = false) (hwait : (s.link n).waiting = false) (ht : t = s.countBy (Reg.SLK_LINK_CNT_CODE_ERR n) errs) :
    upstreamBad n f eop errs s =
      if f.isEmpty || upFault f eop == 0 then t
      else if upFault f eop == 2 then t.count (Reg.SLK_LINK_CNT_TYPE_ERR n)
      else
        let k := (t.link n).crcErr + 1
        let u := (t.count (Reg.SLK_LINK_CNT_CRC_RX n)).modLink n fun l => { l with crcErr := k }
        if u.fd Reg.SLK_RETRAIN_CRC 0 8 < k then autoTrigger n u else u := by
  subst ht
  exact if_neg (by simp [hruns, hawake, hwait])

/-! ### A HOLD that expires (R84) -/

theorem holdExpired_of_hold {g : Nat} (hst : segState s g = 3) (hleft : (s.seg g).holdLeft = 0) :
    holdExpired g s =
      ((segToDefault g (s.modSeg g fun x => { x with defReload := x.reload != 0 })).count (Reg.SLK_LINK_CNT_HOLD_EXP (g / 8))).event
        0x0093 11 1 clsSegment g [] := if_pos (by simp [hst, hleft])

end

/-- Settles O48: each clause is the case of its event's function that its hypotheses select. -/
theorem segmentLinkEventsTakeEffect : Obligations.SegmentLinkEventsTakeEffect := by
  unfold Obligations.SegmentLinkEventsTakeEffect
  refine ⟨?enable, ?disable, ?retrainActive, ?retrainDown, ?teMask, ?heartbeat, ?echoRight, ?echoWrong, ?echoMissing, ?lock, ?lockLost,
    ?lockLostActive, ?trainReq, ?trainRsp, ?trainRspVersion, ?probe, ?cal, ?timeout, ?wait, ?down, ?ackSegCmd, ?ackTiming, ?nak, ?noAnswer,
    ?status, ?vf, ?headroom, ?headroomLate, ?temp, ?charsOnly, ?badType, ?badCrc, ?fault, ?hold⟩
  case enable =>
    intro n z s hs hoff hst
    rw [exec_linknCtrlEn, ← hs, linkEn_on_of_off hoff hst]
  case disable =>
    intro n z s hs t hon ht _ hst
    rw [exec_linknCtrlEn, ← hs, linkEn_off_of_training hon (ht ▸ hst), ht]
  case retrainActive =>
    intro n z s hs h
    rw [exec_linknCtrlRetrain, ← hs, linkRetrain_of_active h]
  case retrainDown =>
    intro n z s hs h
    rw [exec_linknCtrlRetrain, ← hs, linkRetrain_of_down h]
  case teMask =>
    intro w z s hs
    rw [exec_teMaskWrite, ← hs]
    rfl
  case heartbeat =>
    intro n s h
    rw [exec_heartbeat, heartbeat_of_runs h]
  case echoRight =>
    intro n c s t h ht hc
    subst ht
    rw [exec_heartbeatEcho, heartbeatEcho_right h hc]
  case echoWrong =>
    intro n c s t h ht hc
    subst ht
    rw [exec_heartbeatEcho, heartbeatEcho_wrong h hc]
  case echoMissing =>
    intro n s h
    rw [exec_heartbeatEchoTimeout, echoMissing_of_watched h]
  case lock =>
    intro n s hst hwait
    rw [exec_upstreamLock, upLock_of_align hst hwait]
  case lockLost =>
    intro n s hawake hlock hlo hhi
    rw [exec_upstreamLockLoss, upLockLoss_of_training hawake hlock hlo hhi]
  case lockLostActive =>
    intro n s hawake hlock hst
    rw [exec_upstreamLockLoss, upLockLoss_of_active hawake hlock hst]
  case trainReq =>
    intro n s h
    rw [exec_trainReq, sendTrainReq_of_ident h]
  case trainRsp =>
    intro n r s t u hst hlo hhi ht hquick hu
    subst ht hu
    rw [exec_trainRsp, trainRsp_of_version hst hlo hhi hquick, showTrainRsp]
  case trainRspVersion =>
    intro n r s t hst hrev ht
    rw [exec_trainRsp, trainRsp_of_other_version hst hrev, ht, showTrainRsp]
  case probe =>
    intro n w s t hst ht hlen hspread
    subst ht
    rw [exec_probeEcho, probeEcho_of_agreement hst hlen hspread, keepRtt]
  case cal =>
    intro n tap eye clean s hst hagain hcheck
    rw [exec_calburstEcho, calburstEcho_of_passed hst hagain hcheck]
  case timeout =>
    intro n s htrain hwait
    rw [exec_trainingStateTimeout, trainTimeoutL_of_training htrain hwait]
  case wait =>
    intro n s hst hwait
    rw [exec_retryWaitExpiry, retryWait_of_waiting hst hwait]
  case down =>
    intro n s h
    rw [exec_downAttempt, downAttempt_of_down h]
  case ackSegCmd =>
    intro n tag ty sub s p hty hp
    rw [exec_ack, hty, ackIn_segCmd hp]
  case ackTiming =>
    intro n tag ty sub s p hty hp
    rw [exec_ack, hty, ackIn_timing hp]
  case nak =>
    intro n tag ty sub reason b s p k t hk ht hlimit hty hp htype hrange
    subst hk ht
    rw [exec_nak, nakIn_of_resent hlimit hty hp htype hrange, nakCounted]
  case noAnswer =>
    intro n tag ty sub s p hp
    rw [exec_ackTimeout, ackTimeoutL_of_answered hp]
  case status =>
    intro g fn l s htaken hslot
    rw [exec_segStatus, statusIn_of_lit htaken hslot]
  case vf =>
    intro g fn row base l s htaken hslot
    rw [exec_vfRow, vfRow_of_lit htaken hslot]
  case headroom =>
    intro g fn mv s htaken hslot
    rw [exec_headroom, headroom_of_lit htaken hslot]
  case headroomLate =>
    intro g fn mv s htaken hslot
    rw [exec_headroom, headroom_of_late htaken hslot]
  case temp =>
    intro n fn l s htaken hfn
    rw [exec_segTemp, segTemp_of_lit htaken hfn]
  case charsOnly =>
    intro n x s hruns hawake hwait hgood
    rw [exec_upstreamBadPacket, upstreamBad_of_watched hruns hawake hwait rfl,
      if_pos (by simpa only [Bool.or_eq_true, List.isEmpty_iff, beq_iff_eq] using hgood)]
  case badType =>
    intro n x s hruns hawake hwait hsome hfault
    rw [exec_upstreamBadPacket, upstreamBad_of_watched hruns hawake hwait rfl, if_neg (by simp [hsome, hfault]), if_pos (by simp [hfault])]
  case badCrc =>
    intro n x s k t hruns hawake hwait hsome hfault hk ht
    subst hk ht
    rw [exec_upstreamBadPacket, upstreamBad_of_watched hruns hawake hwait rfl, if_neg (by simp [hsome, hfault]), if_neg (by simp [hfault])]
    simp only [when, decide_eq_true_eq]
  case fault => exact fun f eop => ⟨upFault_of_bad, upFault_of_type, fun k => upFault_of_length⟩
  case hold =>
    intro g s hst hleft
    rw [exec_holdExpired, holdExpired_of_hold hst hleft]

end Sys2Proof.Machine
end

section
/-! SUPPORT. The check values of the cyclic checks (R93, R143, R56, and R352 with Table CRC-1). -/
namespace Sys2Proof.Machine

/-- The ASCII string 123456789, over which the check value of a CRC is stated (R352). -/
def checkString : List Byte := [0x31, 0x32, 0x33, 0x34, 0x35, 0x36, 0x37, 0x38, 0x39]

theorem crc32P_checkString : crcValue crc32P checkString = 0xCBF43926 := by decide +kernel
theorem crc32c_checkString : crc32c checkString = 0xE3069283 := by decide +kernel
theorem crc16P_checkString : crcValue crc16P checkString = 0x29B1 := by decide +kernel
theorem crc8P_checkString : crcValue crc8P checkString = 0x4B := by decide +kernel

/-- Settles O33, by the check value of each preset. -/
theorem theChecksHaveTheirCheckValues : Obligations.TheChecksHaveTheirCheckValues :=
  ⟨crc32P_checkString, crc32c_checkString, crc16P_checkString, crc8P_checkString⟩

end Sys2Proof.Machine
end

section
/-! SUPPORT. Surfaces and the bulk writes of LUTs, curves and correction staging (R100 to R104, R106, R109, R125, R171, R343): what the body of a
service comes to when the checks of its row pass. -/
namespace Sys2Proof.Machine

section
variable {c : Ctx} {s : State}

/-! ### Bulk (R343) -/

/-- A bulk payload of whole words within the limit, with OP 1, is handed on. -/
theorem withData_of_words {f : Bulk → State → State} (hlen : 16 ≤ c.m.payload.length)
    (hdata : ¬((bulkOf c).data.length % 4 ≠ 0 ∨ bulkMax c < (bulkOf c).data.length)) (hop : (bulkOf c).op = 1) :
    withData c f s = f (bulkOf c) s := by
  unfold withData withBulk
  rw [need_enough hlen, if_neg (by simpa only [Bool.or_eq_true, bne_iff_ne, decide_eq_true_eq] using hdata), if_neg (by omega)]
  exact if_neg (by simp [hop])

/-- A bank that is not in use takes data that end within its table. -/
theorem bankLoad_of_idle {used : Bool} {base n : Nat} {b : Bulk} (hfit : 2 * b.offset + b.data.length ≤ 2 * n) (hidle : used = false) :
    bankLoad c used base n b s = respondTo c St.ok [] (s.putBytes (winBase + base + 2 * b.offset) b.data) :=
  (if_neg (by omega)).trans <| if_neg (by simp [hidle])

/-! ### Surfaces -/

theorem bodySurfCreate_of_extent {u : Nat} (hlen : 7 ≤ c.m.payload.length) (hw : 1 ≤ arg c 0 2) (hw' : arg c 0 2 ≤ 8192) (hh : 1 ≤ arg c 2 2)
    (hh' : arg c 2 2 ≤ 8192) (hfmt : arg c 4 1 ≤ 6) (hbufs : 1 ≤ arg c 5 1) (hbufs' : arg c 5 1 ≤ 3) (hsrc : arg c 6 1 ≤ 5)
    (hindex : c.m.index ≠ 0xFFFF) (hfree : surfValid s c.m.index.toNat = false)
    (hu : findExtent s (arg c 5 1 * bufBytesOf (arg c 0 2) (arg c 2 2) (arg c 4 1) / 65536) = some u) :
    bodySurfCreate c s =
      respondTo c St.ok (leBytes 1 c.m.index.toNat ++ leBytes 3 0 ++ leBytes 4 u ++ leBytes 4 (pitchOf (arg c 0 2) (arg c 4 1)))
        (makeSurf c.m.index.toNat (arg c 0 2) (arg c 2 2) (arg c 4 1) (arg c 5 1) (arg c 6 1) u s) := by
  refine (need_enough hlen).trans <| (if_neg (by simp only [Bool.or_eq_true, beq_iff_eq, decide_eq_true_eq]; omega)).trans ?_
  rw [if_neg (by simpa only [beq_iff_eq] using hindex)]
  refine (if_neg (ne_true_of_eq_false hfree)).trans ?_
  rw [hu]

theorem bodySurfDestroy_of_unnamed (hvalid : surfValid s c.m.index.toNat = true) (hunnamed : surfNamed s c.m.index.toNat = false) :
    bodySurfDestroy c s = respondTo c St.ok [] (destroySurf c.m.index.toNat s) := if_neg (by simp [hvalid, hunnamed])

theorem bodySurfWrite_of_buffer (hlen : 16 ≤ c.m.payload.length)
    (hdata : ¬((bulkOf c).data.length % 4 ≠ 0 ∨ bulkMax c < (bulkOf c).data.length)) (hop : (bulkOf c).op = 1)
    (hsoft : softSurf s c.m.index.toNat = true) (hbuf : (bulkOf c).sel < surfBufs s c.m.index.toNat)
    (hfit : (bulkOf c).offset + (bulkOf c).data.length ≤ surfBufBytes s c.m.index.toNat) :
    bodySurfWrite c s =
      respondTo c St.ok [] (when (bufState s c.m.index.toNat (bulkOf c).sel == bFree) (setBuf c.m.index.toNat (bulkOf c).sel bWriting)
        (s.putBytes (bufAddr s c.m.index.toNat (bulkOf c).sel + (bulkOf c).offset) (bulkOf c).data)) :=
  (withData_of_words hlen hdata hop).trans <| (if_neg (by simp [hsoft])).trans <|
    if_neg (by simp only [Bool.or_eq_true, decide_eq_true_eq]; omega)

theorem bodySurfPublish_of_buffer (huntimed : c.timed = false) (hlen : 1 ≤ c.m.payload.length) (hsoft : softSurf s c.m.index.toNat = true)
    (hbuf : arg c 0 1 < surfBufs s c.m.index.toNat) :
    bodySurfPublish c s = respondTo c St.ok [] (publishBuf c.m.index.toNat (arg c 0 1) s.freeNow s).useFree := by
  unfold bodySurfPublish
  rw [need_enough hlen, if_neg (by simp [hsoft]), if_neg (by omega), reply_untimed huntimed]

theorem bodySurfPool_of_empty (hlen : 4 ≤ c.m.payload.length) (hbase : 512 ≤ arg c 0 2) (hsize : 64 ≤ arg c 2 2)
    (hfit : arg c 0 2 + arg c 2 2 ≤ dramBytes / 2 ^ 20) (hempty : (List.range 64).any (surfValid s) = false) :
    bodySurfPool c s =
      respondTo c St.ok [] (poolShow ((s.wf Reg.DRAM_SURF_POOL_BASE 0 13 (arg c 0 2)).wf Reg.DRAM_SURF_POOL_SIZE 0 13 (arg c 2 2))) :=
  (need_enough hlen).trans <| (if_neg (by simp only [Bool.or_eq_true, decide_eq_true_eq]; omega)).trans <| if_neg (ne_true_of_eq_false hempty)

/-! ### Tables -/

section
variable (hlen : 16 ≤ c.m.payload.length) (hdata : ¬((bulkOf c).data.length % 4 ≠ 0 ∨ bulkMax c < (bulkOf c).data.length))
  (hop : (bulkOf c).op = 1)
include hlen hdata hop

theorem bodyLutLoad_of_idle (hsel : (bulkOf c).sel ≤ 15) (hfit : 2 * (bulkOf c).offset + (bulkOf c).data.length ≤ 8192)
    (hidle : bankUsed s Reg.CMP_LUT_BANK (if (bulkOf c).sel % 8 < 4 then (bulkOf c).sel % 8 else 4 + (bulkOf c).sel % 8)
      ((bulkOf c).sel / 8) = false) :
    bodyLutLoad c s = respondTo c St.ok [] (s.putBytes (winBase +
      (if (bulkOf c).sel % 8 < 4 then 0x400000 + 0x2000 * (2 * ((bulkOf c).sel % 8) + (bulkOf c).sel / 8)
        else 0x410000 + 0x2000 * (2 * ((bulkOf c).sel % 8 - 4) + (bulkOf c).sel / 8)) + 2 * (bulkOf c).offset) (bulkOf c).data) :=
  (withData_of_words hlen hdata hop).trans <| (if_neg (by omega)).trans <| bankLoad_of_idle hfit hidle

theorem bodyCurveLoad_of_idle (hsel : (bulkOf c).sel ≤ 31) (hfit : 2 * (bulkOf c).offset + (bulkOf c).data.length ≤ 2048)
    (hidle : bankUsed s Reg.CORR_CURVE_BANK 0 ((bulkOf c).sel / 16) = false) :
    bodyCurveLoad c s = respondTo c St.ok [] (s.putBytes (winBase +
      (0x430000 + 0x8000 * ((bulkOf c).sel / 16) + 0x800 * ((bulkOf c).sel % 16)) + 2 * (bulkOf c).offset) (bulkOf c).data) :=
  (withData_of_words hlen hdata hop).trans <| (if_neg (by omega)).trans <| bankLoad_of_idle hfit hidle

theorem bodyCorrStage_of_table (hsel : (bulkOf c).sel ≤ 1) (hfit : 4 * (bulkOf c).offset + (bulkOf c).data.length ≤ 4 * 2 ^ 20) :
    bodyCorrStage c s = respondTo c St.ok [] (s.putBytes (stageAt s (bulkOf c).sel 0 + 4 * (bulkOf c).offset) (bulkOf c).data) :=
  (withData_of_words hlen hdata hop).trans <| if_neg (by simp only [Bool.or_eq_true, decide_eq_true_eq]; omega)

end
end

/-- Settles O38: each command is served, and its body is in the case that the hypotheses of its clause select. -/
theorem surfaceAndBulkTableCommandsTakeEffect : Obligations.SurfaceAndBulkTableCommandsTakeEffect := by
  unfold Obligations.SurfaceAndBulkTableCommandsTakeEffect
  refine ⟨?create, ?destroy, ?write, ?publish, ?pool, ?lut, ?curve, ?stage⟩
  case create =>
    rintro m z s _ hs rfl h hlen hw hw' hh hh' hfmt hbufs hbufs' hsrc hindex hfree u hu
    exact exec_of_service rfl hs h (bodySurfCreate_of_extent hlen hw hw' hh hh' hfmt hbufs hbufs' hsrc hindex hfree hu)
  case destroy =>
    rintro m z s _ hs rfl h hvalid hunnamed
    exact exec_of_service rfl hs h (bodySurfDestroy_of_unnamed hvalid hunnamed)
  case write =>
    rintro m z s _ hs rfl h hlen hdata hop hsoft hbuf hfit
    exact exec_of_service rfl hs h (bodySurfWrite_of_buffer hlen hdata hop hsoft hbuf hfit)
  case publish =>
    rintro m z s _ hs rfl h hlen hsoft hbuf
    exact exec_of_service rfl hs h (bodySurfPublish_of_buffer rfl hlen hsoft hbuf)
  case pool =>
    rintro m z s _ hs rfl h hlen hbase hsize hfit hempty
    exact exec_of_service rfl hs h (bodySurfPool_of_empty hlen hbase hsize hfit hempty)
  case lut =>
    rintro m z s _ hs rfl h hlen hdata hop hsel hfit hidle
    exact exec_of_service rfl hs h (bodyLutLoad_of_idle hlen hdata hop hsel hfit hidle)
  case curve =>
    rintro m z s _ hs rfl h hlen hdata hop hsel hfit hidle
    exact exec_of_service rfl hs h (bodyCurveLoad_of_idle hlen hdata hop hsel hfit hidle)
  case stage =>
    rintro m z s _ hs rfl h hlen hdata hop hsel hfit
    exact exec_of_service rfl hs h (bodyCorrStage_of_table hlen hdata hop hsel hfit)

end Sys2Proof.Machine
end

section
/-! SUPPORT. The events of stream inputs and serial lanes (R94 to R99, R297 to R311): what each does in each of its cases. -/
namespace Sys2Proof.Machine

/-! ### The commands and their meanings -/

theorem exec_vstart (n : Fin 4) (sfn w h : BitVec 16) (f : Byte) (ts p : Word) (z : State) :
    exec (.vstart n sfn w h f ts p) z =
      .next (State.settle (vstart n.val sfn.toNat w.toNat h.toNat f.toNat ts p (rasterFirst z))) := rfl
theorem exec_line (n : Fin 4) (sfn ln : BitVec 16) (f : Byte) (w : BitVec 16) (px : List Byte) (stored : Bool) (z : State) :
    exec (.line n sfn ln f w px stored) z =
      .next (State.settle (lineIn n.val sfn.toNat ln.toNat f.toNat w.toNat px stored (rasterFirst z))) := rfl
theorem exec_vend (n : Fin 4) (sfn ln : BitVec 16) (ts : Word) (z : State) :
    exec (.vend n sfn ln ts) z = .next (State.settle (vend n.val sfn.toNat (rasterFirst z))) := rfl
theorem exec_metaPacket (n : Fin 4) (id : BitVec 16) (d : List Byte) (s : State) :
    exec (.metaPacket n id d) s = .next (State.settle (metaIn n.val id.toNat d s)) := rfl
theorem exec_frameTimeout (n : Fin 4) (s : State) : exec (.frameTimeout n) s = .next (State.settle (frameTimeout n.val s)) := rfl
theorem exec_streamLossTimeout (n : Fin 4) (s : State) : exec (.streamLossTimeout n) s = .next (State.settle (streamLoss n.val s)) := rfl
theorem exec_streamEn (n : Fin 4) (v : Bool) (z : State) :
    exec (.streamEn n v) z = .next (State.settle (streamEn n.val v (rasterFirst z))) := rfl
theorem exec_fabPortEn (n : Fin 4) (v : Bool) (z : State) :
    exec (.fabPortEn n v) z = .next (State.settle (fabPortEn n.val v (rasterFirst z))) := rfl
theorem exec_quadCfgWrite (q : Fin 6) (w : Word) (z : State) :
    exec (.quadCfgWrite q w) z = .next (State.settle (quadCfg q.val w (rasterFirst z))) := rfl
theorem exec_laneTestWrite (l : Fin 24) (w : Word) (z : State) :
    exec (.laneTestWrite l w) z = .next (State.settle (laneCtrl l.val w (rasterFirst z))) := rfl
theorem exec_laneRestart (l : Fin 24) (z : State) : exec (.laneRestart l) z = .next (State.settle (laneRestart l.val (rasterFirst z))) := rfl
theorem exec_detectTest (l : Fin 24) (term signal : Bool) (s : State) :
    exec (.detectTest l term signal) s = .next (State.settle (detectTest l.val term signal s)) := rfl
theorem exec_trainingSetsReceived (l : Fin 24) (adapted : Bool) (sets ts2Run ts2Sent : Nat) (s : State) :
    exec (.trainingSetsReceived l adapted sets ts2Run ts2Sent) s =
      .next (State.settle (trainingSets l.val adapted sets ts2Run ts2Sent s)) := rfl
theorem exec_laneLock (l : Fin 24) (bitLock : Bool) (commas : Nat) (s : State) :
    exec (.laneLock l bitLock commas) s = .next (State.settle (laneLock l.val bitLock commas s)) := rfl
theorem exec_caps (l : Fin 24) (c : CapsPkt) (s : State) : exec (.caps l c) s = .next (State.settle (capsIn l.val c s)) := rfl
theorem exec_laneStageTimeout (l : Fin 24) (s : State) :
    exec (.laneStageTimeout l) s = .next (State.settle (stageTimeout l.val s)) := rfl
theorem exec_laneBackoffExpiry (g : Fin 8) (s : State) :
    exec (.laneBackoffExpiry g) s = .next (State.settle (backoffEnd g.val s)) := rfl
theorem exec_laneProbe (g : Fin 8) (s : State) : exec (.laneProbe g) s = .next (State.settle (laneProbe g.val s)) := rfl
theorem exec_laneSignalDetect (l : Fin 24) (s : State) :
    exec (.laneSignalDetect l) s = .next (State.settle (signalDetect l.val s)) := rfl
theorem exec_laneSignalLoss (l : Fin 24) (align : Bool) (s : State) :
    exec (.laneSignalLoss l align) s = .next (State.settle (signalLoss l.val align s)) := rfl
theorem exec_laneCodeErrors (l : Fin 24) (k : Nat) (s : State) :
    exec (.laneCodeErrors l k) s = .next (State.settle (codeErrors l.val k s)) := rfl
theorem exec_refclkFail (k : Fin 2) (s : State) : exec (.refclkFail k) s = .next (State.settle (macClock k.val (refclkFail k.val s))) := rfl
theorem exec_refclkPresent (k : Fin 2) (fast : Bool) (s : State) :
    exec (.refclkPresent k fast) s = .next (State.settle (refclkPresent k.val fast s)) := rfl
theorem exec_eios (l : Fin 24) (s : State) : exec (.eios l) s = .next (State.settle (eiosIn l.val s)) := rfl
theorem exec_fts (l : Fin 24) (aligned : Bool) (s : State) : exec (.fts l aligned) s = .next (State.settle (ftsIn l.val aligned s)) := rfl
theorem exec_eiosAnswerTimeout (l : Fin 24) (s : State) :
    exec (.eiosAnswerTimeout l) s = .next (State.settle (eiosUnanswered l.val s)) := rfl

section
variable {n : Nat} {s : State}

/-! ### Frames of a stream (R94 to R99) -/

/-- A frame announced for stream `n` does not match the surface that the stream is bound to (R97, R98). -/
def frameMisfits (s : State) (n w h fmt : Nat) : Bool :=
  !(surfValid s (strSurf s n)) || surfW s (strSurf s n) != w || surfH s (strSurf s n) != h || surfFmt s (strSurf s n) != fmt

theorem vstart_of_buffer {sfn w h fmt b : Nat} {ts period : Word} {t : State} (htakes : strTakes s n = true) (ht : t = strAbandon n s)
    (hfits : frameMisfits t n w h fmt = false) (hbuf : writeBuf (t.wb (Reg.SDS_STR_STATUS n) 3 false) (strSurf t n) = some b) :
    vstart n sfn w h fmt ts period s =
      (takeBuf (strSurf t n) b ((t.wb (Reg.SDS_STR_STATUS n) 3 false).wb (Reg.SDS_STR_STATUS n) 1 true)).modStr n fun x => { x with
        skip := false, sfn := sfn, width := w, height := h, fmt := fmt, ts := ts, period := period, buf := b, lines := [] } := by
  subst ht
  unfold vstart
  rw [if_neg (by simp [htakes])]
  refine (if_neg (ne_true_of_eq_false hfits)).trans ?_
  simp only [hbuf]

theorem vstart_of_misfit {sfn w h fmt : Nat} {ts period : Word} (htakes : strTakes s n = true)
    (hmisfits : frameMisfits (strAbandon n s) n w h fmt = true) :
    vstart n sfn w h fmt ts period s =
      (((strAbandon n s).count (Reg.SDS_STR_CNT_FMT_ERR n)).wb (Reg.SDS_STR_STATUS n) 3 true).modStr n fun x => { x with skip := true } :=
  (if_neg (by simp [htakes])).trans <| if_pos hmisfits

theorem lineIn_of_open {sfn ln fmt w : Nat} {px : List Byte} (htakes : strTakes s n = true) (hskip : (s.str n).skip = false)
    (hopen : strOpen s n = true) (hsfn : sfn = (s.str n).sfn) (hfmt : fmt = (s.str n).fmt) (hw : w = (s.str n).width)
    (hln : ln < (s.str n).height) (hpx : px.length = w * fmtBytes fmt) :
    lineIn n sfn ln fmt w px true s = (s.putBytes (pixAddr s (strSurf s n) (s.str n).buf 0 ln) px).modStr n fun x =>
      { x with lines := if x.lines.contains ln then x.lines else x.lines ++ [ln] } :=
  (if_neg (by simp [htakes, hskip])).trans <| (if_neg (by simp [hopen, hsfn])).trans <|
    (if_neg (by simp [hfmt, hw, hln])).trans <| (if_neg (by simp [hpx])).trans <| if_neg (by decide)

/-- The registers that show a frame of stream `n` that ended whole. -/
def showFrame (n sfn : Nat) (s : State) : State :=
  ((((s.wb (Reg.SDS_STR_STATUS n) 1 false).count (Reg.SDS_STR_CNT_FRAMES n)).wr (Reg.SDS_STR_LAST_SFN n) (BitVec.ofNat 32 sfn)).wr
    (Reg.SDS_STR_LAST_TS n) (s.str n).ts).wr (Reg.SDS_STR_LAST_PERIOD n) (s.str n).period

theorem vend_of_whole {sfn : Nat} (htakes : strTakes s n = true) (hskip : (s.str n).skip = false) (hopen : strOpen s n = true)
    (hsfn : sfn = (s.str n).sfn) (hlines : (s.str n).height ≤ (s.str n).lines.length) :
    vend n sfn s = strSignal n false (publishBuf (strSurf (showFrame n sfn s) n) (s.str n).buf sfn (showFrame n sfn s)) :=
  (if_neg (by simp [htakes, hskip])).trans <| (if_neg (by simp [hopen, hsfn])).trans <| if_neg (by omega)

theorem metaIn_of_kept {id : Nat} {d : List Byte} (htakes : strTakes s n = true) (hid : id < 8) (hlen : d.length ≤ 1024) :
    metaIn n id d s = (s.count (Reg.SDS_STR_CNT_META n)).modStr n fun x => { x with metas := sput (fun _ => []) x.metas id d } := by
  unfold metaIn
  rw [if_neg (by simp [htakes]), if_neg (by omega)]
  simp only [if_pos hid]

theorem frameTimeout_of_open (h : strOpen s n = true) :
    frameTimeout n s = (strDrop n (Reg.SDS_STR_CNT_TIMEOUT n) s).modStr n fun x => { x with skip := true } := if_pos h

theorem streamLoss_of_receiving (hen : s.bit (Reg.SDS_STR_CTRL n) 0 = true) (hrx : strTx s n = false) :
    streamLoss n s = strSignal n true s := if_pos (by simp [hen, hrx])

/-! ### Enables (R89, R298) -/

theorem streamEn_on_of_admitted (hoff : s.bit (Reg.SDS_STR_CTRL n) 0 = false) (hadmit : streamAdmit s n = St.ok) :
    streamEn n true s =
      newSeries n (reserveShow n (strReserve s (s.rd (Reg.SDS_STR_CTRL n))) (s.wb (Reg.SDS_STR_CTRL n) 0 true)) :=
  (if_neg (by simp [hoff])).trans <| (if_pos rfl).trans <| if_neg (by simp [hadmit])

theorem streamEn_off_of_on (hon : s.bit (Reg.SDS_STR_CTRL n) 0 = true) :
    streamEn n false s =
      reserveShow n 0 (((strAbandon n (grpOff n s)).wb (Reg.SDS_STR_CTRL n) 0 false).wf (Reg.SDS_STR_STATUS n) 0 5 0) :=
  (if_neg (by simp [hon])).trans <| if_neg Bool.false_ne_true

theorem fabPortEn_on_of_ok (hoff : s.bit (Reg.FAB_P_CTRL n) 0 = false) (hok : fabPortOk s n = true) :
    fabPortEn n true s = newSeries (4 + n) (s.wb (Reg.FAB_P_CTRL n) 0 true) :=
  (if_neg (by simp [hoff])).trans <| (if_pos rfl).trans <| if_pos hok

theorem fabPortEn_off_of_on (hon : s.bit (Reg.FAB_P_CTRL n) 0 = true) :
    fabPortEn n false s = (grpOff (4 + n) s).wb (Reg.FAB_P_CTRL n) 0 false :=
  (if_neg (by simp [hon])).trans <| if_neg Bool.false_ne_true

end

section
variable {l g : Nat} {s : State}

/-! ### Quads, test and restart (R297, R304, R310, R311) -/

theorem quadCfg_of_off {q : Nat} {w : Word} (h : quadOff s q = true) :
    quadCfg q w s = macStart (quadShow q (s.swWrite (Reg.SDS_Q_CFG q) w)) := if_pos h

theorem quadCfg_of_used {q : Nat} {w : Word} (h : quadOff s q = false) : quadCfg q w s = s.count Reg.SDS_CNT_CFG_REJ :=
  if_neg (ne_true_of_eq_false h)

/-- A lane whose generator pattern has changed starts its PRBS from all ones. -/
def genAnew (l : Nat) (changed : Bool) (s : State) : State := when changed (modLane l fun x => { x with gen := [] }) s

/-- The checker of a lane starts anew, without lock. -/
def chkAnew (l : Nat) (s : State) : State :=
  modLane l (fun x => { x with chk := [], run := 0, errs := 0 }) (s.wb (Reg.SDS_LANE_STATE l) 18 false)

/-- A lane that no group and no MAC uses takes TEST. -/
theorem laneCtrl_of_free {w : Word} {t u : State} (hserves : laneServes s l = false) (ht : t = s.swWrite (Reg.SDS_LANE_CTRL l) w)
    (htest : t.bit (Reg.SDS_LANE_CTRL l) 0 = true)
    (hu : u = genAnew l (fld (s.rd (Reg.SDS_LANE_CTRL l)) 3 2 != (setStage 7 l t).fd (Reg.SDS_LANE_CTRL l) 3 2) (setStage 7 l t)) :
    laneCtrl l w s = if fld (s.rd (Reg.SDS_LANE_CTRL l)) 5 2 != u.fd (Reg.SDS_LANE_CTRL l) 5 2 then chkAnew l u else u := by
  subst hu ht
  have hbad : (w.getLsbD 0 && !((s.rd (Reg.SDS_LANE_CTRL l)).getLsbD 0) && laneServes s l) = false := by simp [hserves]
  unfold laneCtrl
  simp only [hbad, when, Bool.false_eq_true, if_false, htest, if_true]
  rfl

/-- A set of TEST on a lane in use is counted, and the rest of the word written. -/
theorem laneCtrl_of_used {w : Word} {t : State} (hset : w.getLsbD 0 = true) (hwas : (s.rd (Reg.SDS_LANE_CTRL l)).getLsbD 0 = false)
    (hserves : laneServes s l = true) (ht : t = (s.count Reg.SDS_CNT_CFG_REJ).swWrite (Reg.SDS_LANE_CTRL l) (setFld w 0 1 0))
    (htest : t.bit (Reg.SDS_LANE_CTRL l) 0 = false) (hstage : laneStage t l ≠ 7) : laneCtrl l w s = chkAnew l (genAnew l true t) := by
  subst ht
  have hbad : (w.getLsbD 0 && !((s.rd (Reg.SDS_LANE_CTRL l)).getLsbD 0) && laneServes s l) = true := by
    rw [hset, hwas, hserves]
    rfl
  unfold laneCtrl
  simp only [hbad, when, if_true, htest, Bool.false_eq_true, if_false, if_neg (mt beq_iff_eq.mp hstage)]
  rfl

theorem laneRestart_of_group (hg : grpOf s l = some g) : laneRestart l s = newSeries g (when (grpActive s g) (grpLost g) s) := by
  unfold laneRestart
  rw [hg]

/-! ### Stages (R300 to R304) -/

/-- A charge test of a lane of group `g`, with a TS1 after it. -/
def chargeTest (g l : Nat) (signal : Bool) (s : State) : State :=
  sendTs g l false ((s.wb (Reg.SDS_LANE_STATE l) 15 signal).emit (.laneTest l))

theorem detectTest_of_detect {term signal : Bool} (hg : grpOf s l = some g) (hstage : laneStage s l = 1)
    (hwait : (group s g).waiting = false) (hstays : laneStage (chargeTest g l signal s) l = 1) :
    detectTest l term signal s = if term && signal then setStage 2 l (chargeTest g l signal s) else chargeTest g l signal s := by
  unfold detectTest
  rw [hg]
  refine (if_pos (by simp [hstage, hwait])).trans ?_
  cases hboth : term && signal
  case false => exact if_pos rfl
  case true => exact (if_neg (by decide)).trans (if_pos (beq_iff_eq.mpr hstays))

theorem detectTest_of_probe (hg : grpOf s l = some g) (hstage : laneStage s l = 6) (hprobe : (group s g).probing = true)
    (hstays : laneStage (chargeTest g l true s) l = 6) : detectTest l true true s = newSeries g (chargeTest g l true s) := by
  unfold detectTest
  rw [hg]
  refine (if_pos (by simp [hstage, hprobe])).trans <| (if_neg (by decide)).trans <| if_neg ?_
  rw [beq_iff_eq]
  change laneStage (chargeTest g l true s) l ≠ 1
  omega

theorem trainingSets_of_trained {sets ts2Run ts2Sent : Nat} (hg : grpOf s l = some g) (hstage : laneStage s l = 2) (hsets : 8 ≤ sets)
    (hrun : 8 ≤ ts2Run) (hsent : 16 ≤ ts2Sent) :
    trainingSets l true sets ts2Run ts2Sent s =
      (sendTs g l true (setStage 3 l (sendTs g l true s))).emit (.laneSet l idleSet 1) := by
  unfold trainingSets
  rw [hg]
  refine (if_pos (by simp [hstage])).trans ?_
  rw [decide_eq_true hsets]
  exact if_pos (by simp [hsent, hrun])

theorem trainingSets_of_training {adapted : Bool} {sets ts2Run ts2Sent : Nat} (hg : grpOf s l = some g) (hstage : laneStage s l = 2)
    (hmissing : ts2Run < 8 ∨ ts2Sent < 16 ∨ adapted = false ∨ sets < 8) :
    trainingSets l adapted sets ts2Run ts2Sent s = sendTs g l (adapted && decide (8 ≤ sets)) s := by
  unfold trainingSets
  rw [hg]
  refine (if_pos (by simp [hstage])).trans <| if_neg ?_
  simp only [Bool.and_eq_true, decide_eq_true_eq, not_and]
  rintro ⟨rfl, hsets⟩ hsent hrun
  simp only [Bool.true_eq_false, false_or] at hmissing
  omega

theorem laneLock_of_aligned {commas : Nat} (hg : grpOf s l = some g) (hstage : laneStage s l = 3) (hcommas : 4 ≤ commas) :
    laneLock l true commas s =
      sendCaps g l (setStage 4 l ((s.wb (Reg.SDS_LANE_STATE l) 16 true).wb (Reg.SDS_LANE_STATE l) 17 true)) := by
  unfold laneLock
  rw [hg]
  refine (if_pos (by simp [hstage])).trans ?_
  rw [decide_eq_true hcommas]
  exact if_pos rfl

/-- A CAPS shown and kept: this end has seen its partner, and with SEEN the partner this end. -/
def capsTaken (l : Nat) (c : CapsPkt) (s : State) : State :=
  modLane l (fun x => { x with seen := true, done := x.done || c.flags.getLsbD 0 }) (capsShow l c s)

theorem capsIn_of_last {c : CapsPkt} (hg : grpOf s l = some g) (hstage : laneStage s l = 4) (hgood : capsBad s g l c = false)
    (hall : ((grpLanes (capsTaken l c s) g).all fun k => laneStage (capsTaken l c s) k == 4 && (laneSt (capsTaken l c s) k).done) = true) :
    capsIn l c s = grpUp g (capsTaken l c s) := by
  unfold capsIn
  rw [hg]
  exact (if_neg (by simp [hstage])).trans <| (if_neg (ne_true_of_eq_false hgood)).trans <| if_pos hall

theorem capsIn_of_mismatch {c : CapsPkt} (hg : grpOf s l = some g) (hstage : laneStage s l = 4) (hbad : capsBad s g l c = true) :
    capsIn l c s = attemptFail g capsMismatch (capsTaken l c s) := by
  unfold capsIn
  rw [hg]
  exact (if_neg (by simp [hstage])).trans <| if_pos hbad

theorem stageTimeout_of_attempt (hg : grpOf s l = some g) (hprobe : (group s g).probing = false) (hattempt : attempting s g = true)
    (hlo : 1 ≤ laneStage s l) (hhi : laneStage s l ≤ 4) (hdone : (laneSt s l).done = false) :
    stageTimeout l s = attemptFail g (stageReason s l) s := by
  unfold stageTimeout
  rw [hg]
  exact (if_neg (ne_true_of_eq_false hprobe)).trans <| if_pos (by simp [hattempt, hlo, hhi, hdone])

theorem backoffEnd_of_waiting (hen : grpEn s g = true) (hwait : (group s g).waiting = true) (hheld : (group s g).held = false) :
    backoffEnd g s = startAttempt g (s.advanceTo (ns16 (group s g).until_)) := if_pos (by simp [hen, hwait, hheld])

theorem laneProbe_of_down (hen : grpEn s g = true) (hdown : grpDown s g = true) (hclock : grpClock s g = true) :
    laneProbe g s = forEach (grpLanes s g) (fun l t => sendTs g l false (t.emit (.laneTest l)))
      (modGroup g (fun x => { x with probing := true }) s) := if_pos (by simp [hen, hdown, hclock])

/-! ### Signal and code errors (R304, R305) -/

/-- A lane on which a signal is detected: while its own direction is entering sleep it answers with its own burst (R308, R309). -/
def signalSeen (l : Nat) (s : State) : State :=
  let t := s.wb (Reg.SDS_LANE_STATE l) 15 true
  if (laneSt t l).eiosOut then modLane l (fun x => { x with eiosOut := false, ftsOut := true }) (ftsBurst l t) else t

theorem signalDetect_of_group {t : State} (ht : t = signalSeen l s) (hg : grpOf t l = some g) :
    signalDetect l s = if grpDown t g then newSeries g t else t := by
  subst ht
  rw [signalSeen] at hg
  unfold signalDetect
  simp only [hg]
  rfl

theorem signalLoss_of_active {t : State} (hawake : fld (s.rd (Reg.SDS_LANE_STATE l)) 13 2 = 0)
    (ht : t = modLane l (fun x => { x with eiosOut := false }) (s.wf (Reg.SDS_LANE_STATE l) 15 3 0)) (hg : grpOf t l = some g)
    (hactive : grpActive t g = true) : signalLoss l false s = leaveActive g (t.count (Reg.SDS_LANE_CNT_LOS l)) := by
  subst ht
  unfold signalLoss
  refine (if_neg (by simp [hawake])).trans ?_
  simp only [Bool.false_eq_true, if_false, hg]
  exact if_pos hactive

theorem codeErrors_of_active {k : Nat} (hg : grpOf s l = some g) (hactive : grpActive s g = true) :
    codeErrors l k s = if 16 < k then leaveActive g (s.countBy (Reg.SDS_LANE_CNT_CODE_ERR l) k)
      else s.countBy (Reg.SDS_LANE_CNT_CODE_ERR l) k := by
  unfold codeErrors
  rw [hg]
  exact if_pos hactive

/-! ### Sleep and electrical idle (R306 to R309) -/

/-- The fallback is one of an ACTIVE stream group's lane. -/
theorem streamLane_of_eidleFallback (h : eidleFallback s l = true) : streamLane s l = true := by
  simp only [eidleFallback, Bool.and_eq_true] at h
  obtain ⟨⟨⟨hstream, -⟩, -⟩, -⟩ := h
  exact hstream

theorem eiosIn_of_asked (hstream : streamLane s l = true) (hout : (laneSt s l).eiosOut = true) :
    eiosIn l s = eidleIn l (modLane l (fun x => { x with eiosOut := false }) s) :=
  (if_neg (by simp [hstream])).trans <| if_pos hout

theorem eiosIn_of_request (hout : (laneSt s l).eiosOut = false) (hfallback : eidleFallback s l = true)
    (hrequest : eidleAsked s l = true ∨ s.bit (Reg.SDS_LANE_PARTNER_X l) 8 = false) :
    eiosIn l s = eidleIn l (s.emit (.laneSet l eiosSet 1)) :=
  (if_neg (by simp [streamLane_of_eidleFallback hfallback])).trans <| (if_neg (ne_true_of_eq_false hout)).trans <|
    if_pos (by simpa only [hfallback, Bool.true_and, Bool.or_eq_true, Bool.not_eq_true'] using hrequest)

theorem eiosIn_of_partner_sleep (hstream : streamLane s l = true) (hout : (laneSt s l).eiosOut = false)
    (hfallback : eidleFallback s l = false) (hpartner : s.bit (Reg.SDS_LANE_PARTNER_X l) 8 = true) :
    eiosIn l s = s.wb (Reg.SDS_LANE_STATE l) 13 true :=
  (if_neg (by simp [hstream])).trans <| (if_neg (ne_true_of_eq_false hout)).trans <| (if_neg (by simp [hfallback])).trans <| if_pos hpartner

theorem ftsIn_of_aligned (hidle : (fld (s.rd (Reg.SDS_LANE_STATE l)) 13 2 == 0) = false) :
    ftsIn l true s = modLane l (fun x => { x with ftsOut := false })
      (((when (s.bit (Reg.SDS_LANE_STATE l) 14 && !(laneSt s l).ftsOut) (ftsBurst l) s).wf (Reg.SDS_LANE_STATE l) 13 2 0).wb
        (Reg.SDS_LANE_STATE l) 15 true) :=
  (if_neg (by simp [hidle])).trans <| if_pos rfl

/-- Without an EIOS of its own a lane awaits no answer. -/
theorem eiosUnanswered_of_none (hout : (laneSt s l).eiosOut = false) : eiosUnanswered l s = s :=
  (if_neg (by simp [hout])).trans <| if_neg (ne_true_of_eq_false hout)

/-- An entry that is not at step 4 is not refused for it. -/
theorem eiosUnanswered_of_other_step (hout : (laneSt s l).eiosOut = true) (hstep : s.pwr.step ≠ 4) :
    eiosUnanswered l s = (modLane l (fun x => { x with eiosOut := false }) s).count (Reg.SDS_LANE_CNT_FTS_FAIL l) := by
  have htimeout : eiosTimeout l s = (modLane l (fun x => { x with eiosOut := false }) s).count (Reg.SDS_LANE_CNT_FTS_FAIL l) := if_pos hout
  have hquiet : (eiosTimeout l s).pwr.step ≠ 4 := htimeout ▸ hstep
  exact (if_neg (by simp [hquiet])).trans htimeout

end

/-- Settles O49: each clause is the case of its event's function that its hypotheses select. -/
theorem streamAndLaneEventsTakeEffect : Obligations.StreamAndLaneEventsTakeEffect := by
  unfold Obligations.StreamAndLaneEventsTakeEffect
  refine ⟨?vstart, ?vstartMisfit, ?line, ?vend, ?metaKept, ?frameTimeout, ?loss, ?strOn, ?strOff, ?portOn, ?portOff, ?quadOff, ?quadUsed, ?testFree,
    ?testUsed, ?restart, ?detect, ?probed, ?trained, ?training, ?lock, ?capsLast, ?capsMismatch, ?timeout, ?backoff, ?probe, ?signalDown, ?signal,
    ?signalLost, ?manyErrors, ?fewErrors, ?clockLost, ?clockBack, ?eiosAnswer, ?eiosRequest, ?eiosSleep, ?fts, ?eiosNone, ?eiosTimeout⟩
  case vstart =>
    intro n sfn w h f ts p z s hs t x b htakes ht hx hfits hbuf
    subst hx
    rw [exec_vstart, ← hs, vstart_of_buffer htakes ht hfits hbuf]
  case vstartMisfit =>
    intro n sfn w h f ts p z s hs t x htakes ht hx hmisfits
    subst hx ht
    rw [exec_vstart, ← hs, vstart_of_misfit htakes hmisfits]
  case line =>
    intro n sfn ln f w px z s hs htakes hskip hopen hsfn hfmt hw hln hpx
    rw [exec_line, ← hs, lineIn_of_open htakes hskip hopen hsfn hfmt hw hln hpx]
  case vend =>
    intro n sfn ln ts z s hs t htakes hskip hopen hsfn hlines ht
    rw [exec_vend, ← hs, vend_of_whole htakes hskip hopen hsfn hlines, ht, showFrame]
  case metaKept =>
    intro n id d s htakes hid hlen
    rw [exec_metaPacket, metaIn_of_kept htakes hid hlen]
  case frameTimeout =>
    intro n s hopen
    rw [exec_frameTimeout, frameTimeout_of_open hopen]
  case loss =>
    intro n s hen hrx
    rw [exec_streamLossTimeout, streamLoss_of_receiving hen hrx]
  case strOn =>
    intro n z s hs hoff hadmit
    rw [exec_streamEn, ← hs, streamEn_on_of_admitted hoff hadmit]
  case strOff =>
    intro n z s hs hon
    rw [exec_streamEn, ← hs, streamEn_off_of_on hon]
  case portOn =>
    intro n z s hs hoff hok
    rw [exec_fabPortEn, ← hs, fabPortEn_on_of_ok hoff hok]
  case portOff =>
    intro n z s hs hon
    rw [exec_fabPortEn, ← hs, fabPortEn_off_of_on hon]
  case quadOff =>
    intro q w z s hs hoff
    rw [exec_quadCfgWrite, ← hs, quadCfg_of_off hoff]
  case quadUsed =>
    intro q w z s hs hused
    rw [exec_quadCfgWrite, ← hs, quadCfg_of_used hused]
  case testFree =>
    intro l w z s hs t u _ hserves ht htest hu
    rw [exec_laneTestWrite, ← hs, laneCtrl_of_free hserves ht htest hu, chkAnew]
  case testUsed =>
    intro l w z s hs t hset hwas hserves _ ht htest hstage
    rw [exec_laneTestWrite, ← hs, laneCtrl_of_used hset hwas hserves ht htest hstage]
    rfl
  case restart =>
    intro l z s hs g hg
    rw [exec_laneRestart, ← hs, laneRestart_of_group hg]
  case detect =>
    intro l a b s g t hg hstage hwait ht hstays
    subst ht
    rw [exec_detectTest, detectTest_of_detect hg hstage hwait hstays, chargeTest]
  case probed =>
    intro l s g t hg hstage hprobe ht hstays
    subst ht
    rw [exec_detectTest, detectTest_of_probe hg hstage hprobe hstays, chargeTest]
  case trained =>
    intro l k r q s g hg hstage hsets hrun hsent
    rw [exec_trainingSetsReceived, trainingSets_of_trained hg hstage hsets hrun hsent]
  case training =>
    intro l a k r q s g hg hstage hmissing
    rw [exec_trainingSetsReceived, trainingSets_of_training hg hstage hmissing]
  case lock =>
    intro l c s g hg hstage hcommas
    rw [exec_laneLock, laneLock_of_aligned hg hstage hcommas]
  case capsLast =>
    intro l c s g t hg hstage hgood ht hall
    subst ht
    rw [exec_caps, capsIn_of_last hg hstage hgood hall, capsTaken]
  case capsMismatch =>
    intro l c s g t hg hstage hbad ht
    rw [exec_caps, capsIn_of_mismatch hg hstage hbad, ht, capsTaken]
  case timeout =>
    intro l s g hg hprobe hattempt hlo hhi hdone
    rw [exec_laneStageTimeout, stageTimeout_of_attempt hg hprobe hattempt hlo hhi hdone]
  case backoff =>
    intro g s hen hwait hheld
    rw [exec_laneBackoffExpiry, backoffEnd_of_waiting hen hwait hheld]
  case probe =>
    intro g s hen hdown hclock
    rw [exec_laneProbe, laneProbe_of_down hen hdown hclock]
  case signalDown =>
    intro l s g t u ht hu hg hdown
    subst ht
    rw [exec_laneSignalDetect, signalDetect_of_group hu hg, if_pos hdown]
  case signal =>
    intro l s g t u ht hu hg hup
    subst ht
    rw [exec_laneSignalDetect, signalDetect_of_group hu hg, if_neg (ne_true_of_eq_false hup)]
  case signalLost =>
    intro l s g t hawake ht hg hactive
    rw [exec_laneSignalLoss, signalLoss_of_active hawake ht hg hactive]
  case manyErrors =>
    intro l k s g hg hactive hk
    rw [exec_laneCodeErrors, codeErrors_of_active hg hactive, if_pos hk]
  case fewErrors =>
    intro l k s g hg hactive hk
    rw [exec_laneCodeErrors, codeErrors_of_active hg hactive, if_neg (by omega)]
  case clockLost =>
    intro k s t ht
    subst ht
    rw [exec_refclkFail, refclkFail]
  case clockBack =>
    intro k b s t u ht hu
    subst hu ht
    rw [exec_refclkPresent, refclkPresent]
  case eiosAnswer =>
    intro l s hstream hout
    rw [exec_eios, eiosIn_of_asked hstream hout]
  case eiosRequest =>
    intro l s hout hfallback hrequest
    rw [exec_eios, eiosIn_of_request hout hfallback hrequest]
  case eiosSleep =>
    intro l s hstream hout hfallback hpartner
    rw [exec_eios, eiosIn_of_partner_sleep hstream hout hfallback hpartner]
  case fts =>
    intro l s hidle
    rw [exec_fts, ftsIn_of_aligned hidle]
  case eiosNone =>
    intro l s hout
    rw [exec_eiosAnswerTimeout, eiosUnanswered_of_none hout]
  case eiosTimeout =>
    intro l s hout hstep
    rw [exec_eiosAnswerTimeout, eiosUnanswered_of_other_step hout hstep]

end Sys2Proof.Machine
end

section
/-! SUPPORT. Blending and look-up tables in numbers (R119, R122 to R124, R171): rounding, the bounds of a blend, and interpolation between
neighbouring entries. -/
namespace Sys2Proof.Machine

/-! ### Rounding (R122, R123) -/

theorem divM_mul (x : Nat) : divM (65535 * x) = x := by
  unfold divM
  omega

theorem divM_mono {x y : Nat} (h : x ≤ y) : divM x ≤ divM y := by
  unfold divM
  omega

theorem divM_le {x b : Nat} (h : x ≤ 65535 * b) : divM x ≤ b :=
  divM_mul b ▸ divM_mono h

/-- The quotient that the effective alpha rounds. -/
theorem alpha16_eq (ga sa cov : Nat) : alpha16 ga sa cov = (2 * (ga * sa * cov * 65535) + 65025) / (2 * 65025) := by
  unfold alpha16
  congr 2
  ring

theorem alpha16_rounds (ga sa cov : Nat) :
    2 * 65025 * alpha16 ga sa cov ≤ 2 * (ga * sa * cov * 65535) + 65025 ∧
      2 * (ga * sa * cov * 65535) + 65025 < 2 * 65025 * (alpha16 ga sa cov + 1) := by
  rw [alpha16_eq]
  omega

theorem alpha16_le {ga sa cov : Nat} (hga : ga ≤ 255) (hsa : sa ≤ 255) (hcov : cov ≤ 1) : alpha16 ga sa cov ≤ 65535 := by
  have hprod : ga * sa * cov ≤ 255 * 255 * 1 := Nat.mul_le_mul (Nat.mul_le_mul hga hsa) hcov
  rw [alpha16_eq]
  omega

@[simp] theorem alpha16_uncovered (ga sa : Nat) : alpha16 ga sa 0 = 0 := by simp [alpha16_eq]
@[simp] theorem alpha16_transparent (sa cov : Nat) : alpha16 0 sa cov = 0 := by simp [alpha16_eq]
theorem alpha16_opaque : alpha16 255 255 1 = 65535 := by decide

/-! ### Blend modes (R123) -/

section
variable {d x ga sa cov : Nat}

/-- NORMAL: two values weighted by alpha and by what is left of it. -/
theorem divM_normal_le {a : Nat} (hd : d ≤ 65535) (hx : x ≤ 65535) (ha : a ≤ 65535) : divM (x * a + d * (65535 - a)) ≤ 65535 := by
  refine divM_le ?_
  calc x * a + d * (65535 - a) ≤ 65535 * a + 65535 * (65535 - a) :=
        Nat.add_le_add (Nat.mul_le_mul_right _ hx) (Nat.mul_le_mul_right _ hd)
    _ = 65535 * 65535 := by rw [← Nat.mul_add, Nat.add_sub_cancel' ha]

theorem divM_scaled_le {a : Nat} (hx : x ≤ 65535) : divM (x * a) ≤ a :=
  divM_le (Nat.mul_le_mul_right a hx)

/-- MULTIPLY: the factor that alpha and the sample give is at most 1, so the value below does not grow. -/
theorem divM_multiply_le {a : Nat} (hx : x ≤ 65535) (ha : a ≤ 65535) : divM (d * (65535 - a + divM (a * x))) ≤ d := by
  have hshare : divM (a * x) ≤ a := Nat.mul_comm x a ▸ divM_scaled_le hx
  refine divM_le ?_
  rw [Nat.mul_comm 65535 d]
  exact Nat.mul_le_mul_left d (by omega)

theorem blend_le (mode : Nat) (hd : d ≤ 65535) (hx : x ≤ 65535) (hga : ga ≤ 255) (hsa : sa ≤ 255) (hcov : cov ≤ 1) :
    blend mode d x ga sa cov ≤ 65535 := by
  have ha : alpha16 ga sa cov ≤ 65535 := alpha16_le hga hsa hcov
  unfold blend
  split
  case h_1 => split <;> assumption
  case h_2 => exact divM_normal_le hd hx ha
  case h_3 => exact (divM_multiply_le hx ha).trans hd
  case h_4 => exact Nat.max_le.2 ⟨hd, (divM_scaled_le hx).trans ha⟩
  case h_5 => exact (Nat.min_le_left d _).trans hd
  case h_6 => exact hd

theorem blend_uncovered (mode : Nat) (hd : d ≤ 65535) : blend mode d x ga sa 0 = d := by
  have hzero : divM 0 = 0 := divM_mul 0
  have hbelow : divM (d * 65535) = d := Nat.mul_comm 65535 d ▸ divM_mul d
  unfold blend
  split <;> simp [hzero, hbelow, hd]

theorem blend_normal_opaque : blend 1 d x 255 255 1 = x := by
  simp [blend, alpha16_opaque, Nat.mul_comm x, divM_mul]

theorem blend_normal_transparent : blend 1 d x 0 sa cov = d := by
  simp [blend, Nat.mul_comm d, divM_mul]

end

/-- Settles O22: the bounds of the rounded quotient, and each blend mode over the value below. -/
theorem blendingRoundsAndStaysInRange : Obligations.BlendingRoundsAndStaysInRange := by
  unfold Obligations.BlendingRoundsAndStaysInRange
  refine ⟨?alpha, ?range, ?uncovered, ?solid, ?transparent⟩
  case alpha =>
    intro ga sa cov hga hsa hcov
    exact ⟨(alpha16_rounds ga sa cov).1, (alpha16_rounds ga sa cov).2, alpha16_le hga hsa hcov⟩
  case range =>
    intro mode d x ga sa cov hd hx hga hsa hcov
    exact blend_le mode hd hx hga hsa hcov
  case uncovered =>
    intro mode d x ga sa hd
    exact blend_uncovered mode hd
  case solid =>
    intro d x
    exact blend_normal_opaque
  case transparent =>
    intro d x sa
    exact blend_normal_transparent

/-! ### Interpolation (R119, R171) -/

theorem leNat_lt (l : List Byte) : leNat l < 256 ^ l.length := by
  induction l with
  | nil => exact Nat.one_pos
  | cons b r ih =>
    have hb : b.toNat < 256 := b.isLt
    rw [leNat, List.length_cons, Nat.pow_succ]
    omega

theorem State.le_lt (s : State) (a n : Nat) : s.le a n < 256 ^ n := by
  simpa [State.le, State.bytes] using leNat_lt (s.bytes a n)

theorem lutEntry_lt (s : State) (base n i : Nat) : lutEntry s base n i < 2 ^ 16 := State.le_lt s _ 2

/-- A part of a difference, rounded to nearest, lies between nothing and the whole difference. -/
theorem roundedPart_mem (d : Int) {f m : Int} (hf : 0 ≤ f) (hfm : f < m) :
    min 0 d ≤ (d * f + m / 2) / m ∧ (d * f + m / 2) / m ≤ max 0 d := by
  have hm : 0 < m := by omega
  constructor
  · rw [Int.le_ediv_iff_mul_le hm]
    have hscale : min 0 d * m ≤ min 0 d * f := mul_le_mul_of_nonpos_left hfm.le (min_le_left 0 d)
    have hmin : min 0 d * f ≤ d * f := mul_le_mul_of_nonneg_right (min_le_right 0 d) hf
    omega
  · rw [← Int.lt_add_one_iff, Int.ediv_lt_iff_lt_mul hm, add_one_mul]
    have hmax : d * f ≤ max 0 d * f := mul_le_mul_of_nonneg_right (le_max_right 0 d) hf
    have hscale : max 0 d * f ≤ max 0 d * m := mul_le_mul_of_nonneg_left hfm.le (le_max_left 0 d)
    omega

section
variable (s : State) (base n k e : Nat)

theorem lutValue_mem :
    min (lutEntry s base n (e / 2 ^ k)) (lutEntry s base n (e / 2 ^ k + 1)) ≤ lutValue s base n k e ∧
      lutValue s base n k e ≤ max (lutEntry s base n (e / 2 ^ k)) (lutEntry s base n (e / 2 ^ k + 1)) := by
  have hf : (0 : Int) ≤ ((e % 2 ^ k : Nat) : Int) := Int.natCast_nonneg _
  have hfm : ((e % 2 ^ k : Nat) : Int) < 2 ^ k := by exact_mod_cast Nat.mod_lt e (Nat.two_pow_pos k)
  obtain ⟨hlo, hhi⟩ := roundedPart_mem
    ((lutEntry s base n (e / 2 ^ k + 1) : Int) - lutEntry s base n (e / 2 ^ k)) hf hfm
  simp only [lutValue]
  omega

theorem lutValue_of_mod_eq_zero (h : e % 2 ^ k = 0) : lutValue s base n k e = lutEntry s base n (e / 2 ^ k) := by
  have hhalf : (2 ^ k / 2 : Int) / 2 ^ k = 0 :=
    Int.ediv_eq_zero_of_lt (by positivity) (Int.ediv_lt_self_of_pos_of_ne_one (by positivity) (by decide))
  simp [lutValue, h, hhalf]

theorem lutValue_lt : lutValue s base n k e < 2 ^ 16 :=
  (lutValue_mem s base n k e).2.trans_lt (max_lt (lutEntry_lt ..) (lutEntry_lt ..))

end

/-- Settles O23: the interpolated part of the difference between two entries lies between nothing and that difference. -/
theorem tablesInterpolateBetweenNeighbours : Obligations.TablesInterpolateBetweenNeighbours := by
  unfold Obligations.TablesInterpolateBetweenNeighbours
  intro s base n k e
  obtain ⟨hlo, hhi⟩ := lutValue_mem s base n k e
  exact ⟨hlo, hhi, lutValue_of_mod_eq_zero s base n k e, lutValue_lt s base n k e⟩

end Sys2Proof.Machine
end

section
/-! SUPPORT. The events of commits, composition, polders, fallback and miss policies (R70, R127, R132 to R136, R148, R160, R229 to R235, R244,
R248): what each does in each of its cases. -/
namespace Sys2Proof.Machine

/-! ### The commands and their meanings -/

theorem exec_layerCommit (n : Fin 8) (z : State) : exec (.layerCommit n) z = .next (State.settle (layerCommit n.val (rasterFirst z))) := rfl
theorem exec_globalCommit (z : State) : exec .globalCommit z = .next (State.settle (globalCommit (rasterFirst z))) := rfl
theorem exec_beamCommit (z : State) : exec .beamCommit z = .next (State.settle (beamCommit (rasterFirst z))) := rfl
theorem exec_corrCommit (z : State) : exec .corrCommit z = .next (State.settle (corrCommit (rasterFirst z))) := rfl
theorem exec_polCommit (z : State) : exec .polCommit z = .next (State.settle (polCommit (rasterFirst z))) := rfl
theorem exec_beamCtrlEn (v : Bool) (z : State) : exec (.beamCtrlEn v) z = .next (State.settle (beamEn v (rasterFirst z))) := rfl
theorem exec_fetchUnderrun (n : Fin 8) (g : Fin 256) (r k : Fin 4096) (s : State) :
    exec (.fetchUnderrun n g r k) s = .next (State.settle (fetchUnderrun n.val g.val r.val k.val s)) := rfl
theorem exec_segmentComposed (g : Fin 256) (s : State) : exec (.segmentComposed g) s = .next (State.settle (segComposed g.val s)) := rfl
theorem exec_polderCheck (n : Fin 64) (s : State) : exec (.polderCheck n) s = .next (State.settle (polCheck false n.val s)) := rfl
theorem exec_polderMismatch (n : Fin 64) (x : Word) (s : State) :
    exec (.polderMismatch n x) s = .next (State.settle (polMismatch n.val x s)) := rfl
theorem exec_fbCtrlRaise (k : Fin 4) (z : State) :
    exec (.fbCtrlRaise k) z = .next (State.settle (fbRaise 6 0 k.val (rasterFirst z))) := rfl
theorem exec_fbCtrlClear (z : State) : exec .fbCtrlClear z = .next (State.settle (fbCtrlClear (rasterFirst z))) := rfl
theorem exec_layerMissPolicy (n : Fin 8) (s : State) : exec (.layerMissPolicy n) s = .next (State.settle (missPolicy n.val s)) := rfl
theorem exec_bufferRetired (n : Fin 8) (s : State) : exec (.bufferRetired n) s = .next (State.settle (bufferRetired n.val s)) := rfl

/-! ### What the commit of a set adds where the set is captured already (R127, R160, R233) -/

section
variable {s : State}

theorem when_isSome_of_none {α : Type} {o : Option α} {f : State → State} (h : o = none) : when o.isSome f s = s := by
  rw [h]
  rfl

theorem when_isSome_of_isSome {α : Type} {o : Option α} {f : State → State} (h : o.isSome = true) : when o.isSome f s = f s := if_pos h

/-! ### Enable of the renderer (R148) -/

theorem beamEn_of_change {v : Bool} (h : s.bit Reg.BEAM_CTRL 0 ≠ v) :
    beamEn v s = setBeamState (if v = true then 1 else 0) (s.wb Reg.BEAM_CTRL 0 v) :=
  if_neg (by simpa using Ne.symm h)

/-! ### Composition of a segment (R70, R134) -/

theorem fetchUnderrun_of_first {n g r k : Nat} (hen : layEn s n = true) (hshown : (s.layer n).hidden = false) (hdue : (s.seg g).due = true)
    (hcomp : (s.seg g).composed = false) (hfirst : ((s.layer n).under.any fun e => e.1 == g && e.2.1 == r) = false) :
    fetchUnderrun n g r k s =
      (s.modLayer n fun x => { x with under := (g, r, k) :: x.under }).count (Reg.CMP_LAYER_CNT_UNDERRUN n) :=
  (if_neg (by simp [hen, hshown, hdue, hcomp])).trans <| if_neg (ne_true_of_eq_false hfirst)

/-- A composed segment takes the codes and sums of its lamps `o` (`t`), is marked (`u`) and goes to its link. -/
theorem segComposed_of_composing {g : Nat} {o : List LampOut} {t u : State} (hcomp : composing s g = true) (ho : o = segOut s g)
    (ht : t = composedLamps 4096 g o (takeCodes g o (lineNow (g / 8) s)))
    (hu : u = t.modSeg g fun x =>
      { x with composed := true, fbDone := showsFallback s, signed := x.signed || !(showsFallback s), rowsOut := 0, stopped := false }) :
    segComposed g s = lineNow (g / 8) (u.modLink (g / 8) fun l => { l with lineAt := max l.lineAt (now3 u) }) := by
  unfold segComposed
  rw [if_neg (by simp [hcomp]), hu, ht, ho]

/-! ### Polders (R229 to R235) -/

/-- Polder `n` is still to be checked in this frame, with no fallback in force (R230, R247). -/
def polDue (s : State) (n : Nat) : Prop :=
  polEn s n = true ∧ (s.polder n).checked = false ∧ s.bit Reg.POL_FB_STATUS 0 = false ∧ s.ras.ran = true ∧ s.ras.inBlank = false

/-- A polder to be checked is compared when its footprint is complete and, but at blanking start, not empty. -/
theorem polCheck_of_due {last : Bool} {n : Nat} (h : polDue s n) :
    polCheck last n s =
      if (footComplete s n && (last || !(footSegs s n).isEmpty)) = true then polCompare n (s.modPolder n fun x => { x with checked := true })
      else if last = true then polSkip n (s.modPolder n fun x => { x with checked := true })
      else s := by
  obtain ⟨hen, hunchecked, hnormal, hran, hblank⟩ := h
  exact if_neg (by simp [hen, hunchecked, hnormal, hran, hblank])

/-- At blanking start a polder to be checked is compared or SKIPPED. -/
theorem polCheck_last_of_due {n : Nat} (h : polDue s n) :
    polCheck true n s = (if footComplete s n then polCompare n else polSkip n) (s.modPolder n fun x => { x with checked := true }) := by
  rw [polCheck_of_due h, Bool.true_or, Bool.and_true, if_pos rfl, ite_apply]

/-- A mismatch that has lasted for LIMIT frames acts: it is counted (`t`), raises its event (`u`), and the fallback where FB is set. -/
theorem polMismatch_of_lasting {n : Nat} {x : Word} {t u : State} (hen : polEn s n = true)
    (hlimit : s.lf (Reg.POL_P_CFG n) 12 4 ≤ (s.polder n).run) (hrun : 0 < (s.polder n).run) (hacted : (s.polder n).acted = false)
    (hnormal : s.bit Reg.POL_FB_STATUS 0 = false)
    (ht : t = (s.modPolder n fun x => { x with acted := true }).count (Reg.POL_P_CNT_MISMATCH n))
    (hu : u = t.event 0x0080 9 3 6 n (det 4 (t.rd (Reg.POL_P_SIG n)).toNat ++ det 4 x.toNat ++ det 4 t.ras.nextFrame.toNat)) :
    polMismatch n x s = when (u.lf (Reg.POL_P_CFG n) 3 1 == 1) (fbRaise 1 n (u.lf (Reg.POL_P_CFG n) 4 2)) u := by
  subst hu ht
  exact if_pos (by simp [hen, hlimit, hrun, hacted, hnormal])

/-! ### Fallback (R244, R248) -/

theorem fbRaise_of_normal {cause idx slot : Nat} {t : State} (hnormal : showsFallback s = false)
    (ht : t = s.wr Reg.POL_FB_STATUS (BitVec.ofNat 32 (2 + cause * 256 + idx % 256 * 65536))) :
    fbRaise cause idx slot s = fbCompose (fbShow { t with pol := { t.pol with named := slot, fbWait := fallbackWait t } }) := by
  subst ht
  exact if_neg (ne_true_of_eq_false hnormal)

theorem fbRaise_of_shown {cause idx slot : Nat} (hshown : showsFallback s = true) :
    fbRaise cause idx slot s = (s.count Reg.POL_CNT_FB_EXTRA).event 0x0081 9 3 clsDevice 0 [cause, idx % 256, slot] :=
  if_pos hshown

theorem fbCtrlClear_of_allowed (h : clearRefused s = false) : fbCtrlClear s = fbClear s := if_neg (ne_true_of_eq_false h)
theorem fbCtrlClear_of_refused (h : clearRefused s = true) : fbCtrlClear s = s.count Reg.POL_CNT_CLEAR_REJ := if_pos h

/-! ### Miss policies and RETIRED (R132, R133, R136) -/

/-- A layer late for MISS frames takes its policy (`t`), with its event (`u`) and, where the policy is FALLBACK, the fallback. -/
theorem missPolicy_of_late {n p : Nat} {t u : State} (hen : layEn s n = true) (hnone : (s.layer n).policy = 0)
    (hlate : s.bit (Reg.CMP_LAYER_STATUS n) 3 = true)
    (hmiss : s.lf (Reg.CMP_LAYER_MISS n) 0 8 ≤ s.fd (Reg.CMP_LAYER_STATUS n) 8 8) (hp : p = layerPolicy s n)
    (ht : t = ((s.modLayer n fun x => { x with policy := p }).wb (Reg.CMP_LAYER_STATUS n) 4 true).count (Reg.CMP_LAYER_CNT_POLICY n))
    (hu : u = t.event 0x0040 4 1 clsLayer n [p - 1]) :
    missPolicy n s = when (p == 3) (fbRaise 2 n (u.lf (Reg.CMP_LAYER_MISS n) 14 2)) u := by
  subst hu ht hp
  exact if_pos (by simp [hen, hnone, hlate, hmiss])

/-- The oldest buffer that a layer has left, once its second scan is done, is shown as RETIRED (`u`) and released with its event. -/
theorem bufferRetired_of_scanned {n f b k : Nat} {r : List (Nat × Nat × Nat)} {t u : State} (hretire : (s.layer n).retire = (f, b, k) :: r)
    (hscan : afterScan s n f b = false) (ht : t = s.modLayer n fun x => { x with retire := r })
    (hu : u = (t.wr (Reg.CMP_LAYER_RETIRED_BUF n) (BitVec.ofNat 32 (f + 256 * b))).wr (Reg.CMP_LAYER_RETIRED_FRAME n) (BitVec.ofNat 32 k)) :
    bufferRetired n s = readDone f b (u.event 0x0042 4 0 clsLayer n ([f, b, 0, 0] ++ det 4 k)) := by
  subst hu ht
  unfold bufferRetired
  rw [hretire]
  exact if_neg (ne_true_of_eq_false hscan)

end

/-- Settles O47: each clause is the case of its event's function that its hypotheses select. -/
theorem commitCompositionAndFallbackEventsTakeEffect : Obligations.CommitCompositionAndFallbackEventsTakeEffect := by
  unfold Obligations.CommitCompositionAndFallbackEventsTakeEffect
  refine ⟨?layer, ?global, ?globalAgain, ?beam, ?beamAgain, ?corr, ?corrAgain, ?pol, ?polAgain, ?enable, ?underrun, ?composed, ?check,
    ?checkLast, ?mismatch, ?raise, ?raiseAgain, ?clear, ?clearRefused, ?miss, ?retired⟩
  case layer =>
    intro n z s hs
    rw [exec_layerCommit, ← hs, layerCommit]
  case global =>
    intro z s hs h
    rw [exec_globalCommit, ← hs, globalCommit, when_isSome_of_none h]
  case globalAgain =>
    intro z s hs h
    rw [exec_globalCommit, ← hs, globalCommit, when_isSome_of_isSome h]
  case beam =>
    intro z s hs h
    rw [exec_beamCommit, ← hs, beamCommit, when_isSome_of_none h]
  case beamAgain =>
    intro z s hs h
    rw [exec_beamCommit, ← hs, beamCommit, when_isSome_of_isSome h]
  case corr =>
    intro z s hs h
    rw [exec_corrCommit, ← hs, corrCommit, when_isSome_of_none h]
  case corrAgain =>
    intro z s hs h
    rw [exec_corrCommit, ← hs, corrCommit, when_isSome_of_isSome h]
  case pol =>
    intro z s hs h
    rw [exec_polCommit, ← hs, polCommit, when_isSome_of_none h]
  case polAgain =>
    intro z s hs h
    rw [exec_polCommit, ← hs, polCommit, when_isSome_of_isSome h]
  case enable =>
    intro v z s hs h
    rw [exec_beamCtrlEn, ← hs, beamEn_of_change h]
  case underrun =>
    intro n g r k s hen hshown hdue hcomp hfirst
    rw [exec_fetchUnderrun, fetchUnderrun_of_first hen hshown hdue hcomp hfirst]
  case composed =>
    intro g s o t u hcomp ho ht hu
    rw [exec_segmentComposed, segComposed_of_composing hcomp ho ht hu]
  case check =>
    intro n s hen hunchecked hnormal hran hblank hfoot hsegs
    rw [exec_polderCheck, polCheck_of_due ⟨hen, hunchecked, hnormal, hran, hblank⟩, if_pos (by simp [hfoot, hsegs])]
  case checkLast =>
    intro n s hen hunchecked hnormal hran hblank
    exact polCheck_last_of_due ⟨hen, hunchecked, hnormal, hran, hblank⟩
  case mismatch =>
    intro n x s t u hen hlimit hrun hacted hnormal ht hu
    rw [exec_polderMismatch, polMismatch_of_lasting hen hlimit hrun hacted hnormal ht hu]
  case raise =>
    intro k z s hs t hnormal ht
    rw [exec_fbCtrlRaise, ← hs, fbRaise_of_normal hnormal ht]
  case raiseAgain =>
    intro k z s hs hshown
    rw [exec_fbCtrlRaise, ← hs, fbRaise_of_shown hshown]
  case clear =>
    intro z s hs h
    rw [exec_fbCtrlClear, ← hs, fbCtrlClear_of_allowed h]
  case clearRefused =>
    intro z s hs h
    rw [exec_fbCtrlClear, ← hs, fbCtrlClear_of_refused h]
  case miss =>
    intro n s p t u hen hnone hlate hmiss hp ht hu
    rw [exec_layerMissPolicy, missPolicy_of_late hen hnone hlate hmiss hp ht hu]
  case retired =>
    intro n s f b k r t u hretire hscan ht hu
    rw [exec_bufferRetired, bufferRetired_of_scanned hretire hscan ht hu]

end Sys2Proof.Machine
end

section
/-! SUPPORT. The events of list timeout, lamp health, reference captures, correction copies and scan channels (R148, R185, R192, R197, R200,
R202, R355): what each does in each of its cases. -/
namespace Sys2Proof.Machine

/-! ### The commands and their meanings -/

theorem exec_listTimeout (s : State) : exec .listTimeout s = .next (State.settle (listExpire s)) := rfl
theorem exec_lampClass (l : Fin 1048576) (s : State) : exec (.lampClass l) s = .next (State.settle (lampChange true l.val s)) := rfl
theorem exec_reportLoss (g : Fin 256) (s : State) : exec (.reportLoss g) s = .next (State.settle (lossEval g.val s)) := rfl
theorem exec_vfCaptureDone (s : State) : exec .vfCaptureDone s = .next (State.settle (captureDone s)) := rfl
theorem exec_corrCopyDone (s : State) : exec .corrCopyDone s = .next (State.settle (copyNext s)) := rfl
theorem exec_crcChcStart (c : Fin 8) (z : State) : exec (.crcChcStart c) z = .next (State.settle (chStart c.val (rasterFirst z))) := rfl

section
variable {s : State}

/-! ### List timeout (R148) -/

theorem listExpire_of_live (h : beamState s = 2) :
    listExpire s = setBeamState 3 (s.advanceTo (ns16 ((s.beam.lastTick + listTimeoutNs s : Nat)))) := if_pos (by simp [h])

/-! ### Lamp health (R192, R197, R200, R202) -/

/-- A lamp that is due takes its candidate class and is counted (`t`), with its event. -/
theorem lampChange_of_due {l : Nat} {t : State} (hdue : lampDue s l = true)
    (ht : t = (setClass l (s.lamp l).cand (s.setLamp l { s.lamp l with run := 0 })).count Reg.HLT_CNT_CLASS_CHG) :
    lampChange true l s =
      t.event 0x0060 7 0 clsSegment (l / 4096) (det 4 l ++ [mapClass s l, (s.lamp l).cand, 0, 0] ++ det 4 (t.ras.frame - 2).toNat) := by
  subst ht
  exact if_neg (by simp [hdue])

theorem lossEval_of_missed {g : Nat} (hmissed : 0 < (s.seg g).noRpt) (hlimit : s.fd Reg.HLT_RPT_LIMIT 0 4 ≤ (s.seg g).noRpt)
    (hnew : reportLoss s g = false) : lossEval g s = faultEval g (s.wb (Reg.HLT_RPT_LOSS (g / 32)) (g % 32) true) :=
  if_pos (by simp [hmissed, hlimit, hnew])

/-- A capture of 64 lit frames gives each lamp without a sample no reference (`t`) and ends. -/
theorem captureDone_of_full {k : VfCap} {t : State} (hcap : s.hlt.cap = some k) (hfull : 64 ≤ k.n)
    (ht : t = forEach (((List.range ((k.hi - k.lo + 1) * 4096)).map (k.lo * 4096 + ·)).filter fun p =>
      !(sget (fun _ => false) s.hlt.capDone p)) (fun p t => t.putLe (vfBase t + 2 * p) 2 0xFFFF) s) :
    captureDone s = completeOps k.ctx.code (fun o => o.ctx == k.ctx) St.ok []
      (vfSuspShow ({ t with hlt := { t.hlt with cap := none, capDone := [] } }.wb Reg.HLT_STATUS 0 false)) := by
  subst ht
  unfold captureDone
  rw [hcap]
  exact if_neg (by omega)

/-! ### Copies of correction (R184, R185) -/

/-- The copy engine marks the segment it has copied (`t`), and goes on to the next one of its range or to the range that waits. -/
theorem copyNext_of_copying {a : Apply} {r : List Apply} {t : State} (hcopying : s.corr.copying = a :: r)
    (ht : t = (copySeg a a.lo s).modSeg a.lo fun x => { x with reload := 2 }) :
    copyNext s =
      if a.lo < a.hi then reloadShow { t with corr := { t.corr with copying := { a with lo := a.lo + 1 } :: r } }
      else reloadShow (reloadBegin { t with corr := { t.corr with copying := r } }) := by
  subst ht
  unfold copyNext
  rw [hcopying]

/-! ### START of a channel (R355, R356) -/

theorem chStart_of_scan {c : Nat} (hen : chEn s c = true) (hmode : chMode s c = 0) :
    chStart c s =
      if chBusy s c then s.count (Reg.CRC_CH_CNT_START_BUSY c)
      else if scanOk s c then scanBegin .client c s
      else s.wb (Reg.CRC_CH_STATUS c) 3 true := if_neg (by simp [hen, hmode])

end

/-- Settles O50: each clause is the case of its event's function that its hypotheses select. -/
theorem healthAndCorrectionEventsTakeEffect : Obligations.HealthAndCorrectionEventsTakeEffect := by
  unfold Obligations.HealthAndCorrectionEventsTakeEffect
  refine ⟨?timeout, ?lamp, ?loss, ?capture, ?copyOn, ?copyLast, ?scan, ?scanFault, ?scanBusy⟩
  case timeout =>
    intro s h
    rw [exec_listTimeout, listExpire_of_live h]
  case lamp =>
    intro l s t hdue ht
    rw [exec_lampClass, lampChange_of_due hdue ht]
  case loss =>
    intro g s hmissed hlimit hnew
    rw [exec_reportLoss, lossEval_of_missed hmissed hlimit hnew]
  case capture =>
    intro s k t hcap hfull ht
    rw [exec_vfCaptureDone, captureDone_of_full hcap hfull ht]
  case copyOn =>
    intro s a r t hcopying hmore ht
    rw [exec_corrCopyDone, copyNext_of_copying hcopying ht, if_pos hmore]
  case copyLast =>
    intro s a r t hcopying hlast ht
    rw [exec_corrCopyDone, copyNext_of_copying hcopying ht, if_neg (Nat.not_lt.mpr hlast)]
  case scan =>
    intro c z s hs hen hmode hfree hok
    rw [exec_crcChcStart, ← hs, chStart_of_scan hen hmode, if_neg (ne_true_of_eq_false hfree), if_pos hok]
  case scanFault =>
    intro c z s hs hen hmode hfree hbad
    rw [exec_crcChcStart, ← hs, chStart_of_scan hen hmode, if_neg (ne_true_of_eq_false hfree), if_neg (ne_true_of_eq_false hbad)]
  case scanBusy =>
    intro c z s hs hen hmode hbusy
    rw [exec_crcChcStart, ← hs, chStart_of_scan hen hmode, if_pos hbusy]

end Sys2Proof.Machine
end

section
/-! SUPPORT. The events of the light supply (R206, R217, R224, R225): what each does in each of its cases. -/
namespace Sys2Proof.Machine

/-! ### The commands and their meanings -/

theorem exec_vledOvervoltage (s : State) : exec .vledOvervoltage s = .next (State.settle (overvoltage s)) := rfl
theorem exec_vledUndervoltage (s : State) : exec .vledUndervoltage s = .next (State.settle (undervoltage s)) := rfl
theorem exec_vledUndervoltageEnd (s : State) : exec .vledUndervoltageEnd s = .next (State.settle (undervoltageEnd s)) := rfl
theorem exec_phaseImbalance (p : Fin 6) (s : State) : exec (.phaseImbalance p) s = .next (State.settle (phaseOff 3 p.val s)) := rfl
theorem exec_currentSenseOpen (p : Fin 6) (s : State) : exec (.currentSenseOpen p) s = .next (State.settle (phaseOff 4 p.val s)) := rfl
theorem exec_ovRestart (s : State) : exec .ovRestart s = .next (State.settle (ovRestart s)) := rfl
theorem exec_softstartDone (s : State) : exec .softstartDone s = .next (State.settle (softDone s)) := rfl
theorem exec_supCtrlEn (v : Bool) (z : State) : exec (.supCtrlEn v) z = .next (State.settle (supEnable v (rasterFirst z))) := rfl
theorem exec_supPhaseEn (w : Word) (z : State) : exec (.supPhaseEn w) z = .next (State.settle (supPhaseEn w (rasterFirst z))) := rfl
theorem exec_supRestartReg (z : State) : exec .supRestartReg z = .next (State.settle (supRestart (rasterFirst z))) := rfl

section
variable {s : State}

/-! ### Faults of the stage (R224) -/

/-- An overvoltage that comes again within a second latches; the stage waits or stays off (`t`), stops (`u`), and the fallback is raised. -/
theorem overvoltage_eq {again : Bool} {t u : State} (hagain : again = s.sup.ovLast.any fun t => decide (s.tickNs - t ≤ 1000000000))
    (ht : t = { s with sup := { s.sup with ovWait := !again, ovLast := some s.tickNs } })
    (hu : u = supStop ((t.wb Reg.SUP_STATUS 3 true).wb Reg.SUP_STATUS 5 (again || t.bit Reg.SUP_STATUS 5))) :
    overvoltage s = fbRaise 4 0 (supSlot u) (supplyEvent 1 0 (u.count Reg.SUP_CNT_OV)) := by
  subst hu ht
  unfold overvoltage
  cases hlast : s.sup.ovLast with
  | none => rw [hagain, hlast, Option.any_none]
  | some t => rw [hagain, hlast, Option.any_some]

theorem undervoltage_of_running (hrun : supRunning s = true) (hsoft : s.bit Reg.SUP_STATUS 1 = false) :
    undervoltage s = supplyEvent 2 0
      (({ s with sup := { s.sup with uvTrip := true, uvLast := s.tickNs } }.wb Reg.SUP_STATUS 4 true).count Reg.SUP_CNT_UV) :=
  if_pos (by simp [hrun, hsoft])

theorem undervoltageEnd_of_rasterOff (huv : s.bit Reg.SUP_STATUS 4 = true) (hoff : rasOn s = false) :
    undervoltageEnd s = (s.advanceTo (ns16 s.sup.uvLast + (period16 s : Int))).wb Reg.SUP_STATUS 4 false :=
  if_pos (by simp [huv, hoff])

theorem phaseOff_of_used {kind p : Nat} (hrun : supRunning s = true) (hp : p ∈ supPhases s) :
    phaseOff kind p s =
      supplyEvent kind p (supShow (({ s with sup := { s.sup with off := s.sup.off + 2 ^ p } }).count Reg.SUP_CNT_PHASE_OFF)) :=
  if_pos (by simp [hrun, hp])

/-- 10 ms after an overvoltage that did not latch (`t`) the stage starts softly. -/
theorem ovRestart_of_waiting {t : State} (hwait : s.sup.ovWait = true) (hlatch : s.bit Reg.SUP_STATUS 5 = false)
    (ht : t = s.advanceTo (ns16 (s.sup.ovLast.getD 0 + 10000000 : Nat))) :
    ovRestart s = softStart ({ t with sup := { t.sup with ovWait := false } }.wb Reg.SUP_STATUS 3 false) := by
  subst ht
  exact if_pos (by simp [hwait, hlatch])

/-! ### Controls of the stage (R206, R217, R224) -/

theorem supEnable_on_of_off (hoff : s.bit Reg.SUP_CTRL 0 = false) : supEnable true s = softStart (s.wb Reg.SUP_CTRL 0 true) :=
  if_neg (by simp [hoff])

theorem supEnable_off_of_on (hon : s.bit Reg.SUP_CTRL 0 = true) : supEnable false s = supStop (s.wb Reg.SUP_CTRL 0 false) :=
  if_neg (by simp [hon])

/-- RESTART clears the latch (`t`) and the wait (`u`), and a stage that does not run starts softly. -/
theorem supRestart_of_stopped {t u : State} (ht : t = s.wb Reg.SUP_STATUS 5 false)
    (hu : u = { t with sup := { t.sup with ovWait := false } }) (hstopped : supRunning u = false) :
    supRestart s = softStart (u.wb Reg.SUP_STATUS 3 false) := by
  subst hu ht
  exact if_neg (ne_true_of_eq_false hstopped)

end

/-- The second part of O53, and so O51: each clause is the case of its event's function that its hypotheses select. -/
theorem supplyEventsTakeEffect : Obligations.SupplyEventsTakeEffect := by
  unfold Obligations.SupplyEventsTakeEffect
  refine ⟨?overvolt, ?undervolt, ?undervoltEnd, ?imbalance, ?senseOpen, ?restart, ?softDone, ?on, ?off, ?phases, ?restartReg⟩
  case overvolt =>
    intro s again t u hagain ht hu
    rw [exec_vledOvervoltage, overvoltage_eq hagain ht hu]
  case undervolt =>
    intro s hrun hsoft
    rw [exec_vledUndervoltage, undervoltage_of_running hrun hsoft]
  case undervoltEnd =>
    intro s huv hoff
    rw [exec_vledUndervoltageEnd, undervoltageEnd_of_rasterOff huv hoff]
  case imbalance =>
    intro p s hrun hp
    rw [exec_phaseImbalance, phaseOff_of_used hrun hp]
  case senseOpen =>
    intro p s hrun hp
    rw [exec_currentSenseOpen, phaseOff_of_used hrun hp]
  case restart =>
    intro s t hwait hlatch ht
    rw [exec_ovRestart, ovRestart_of_waiting hwait hlatch ht]
  case softDone =>
    intro s
    rw [exec_softstartDone, softDone]
  case on =>
    intro z s hs hoff
    rw [exec_supCtrlEn, ← hs, supEnable_on_of_off hoff]
  case off =>
    intro z s hs hon
    rw [exec_supCtrlEn, ← hs, supEnable_off_of_on hon]
  case phases =>
    intro w z s hs t ht
    rw [exec_supPhaseEn, ← hs, supPhaseEn, ht]
  case restartReg =>
    intro z s hs t u ht hu hstopped
    rw [exec_supRestartReg, ← hs, supRestart_of_stopped ht hu hstopped]

end Sys2Proof.Machine
end

section
/-! SUPPORT. The events of the snowpack, of MRAM records, of ALIVE_OUT and of memory errors (R186, R197, R201, R203, R242, R243, R249, R335,
R408): what each does in each of its cases. -/
namespace Sys2Proof.Machine

/-! ### The commands and their meanings -/

theorem exec_snowEccError (a : Fin 32768) (double : Bool) (s : State) :
    exec (.snowEccError a double) s = .next (State.settle (snowEcc a.val double s)) := rfl
theorem exec_snowRestore (p : Fin 6) (b0 b1 : Bool) (s : State) :
    exec (.snowRestore p b0 b1) s = .next (State.settle (snowRestore p.val b0 b1 s)) := rfl
theorem exec_mirrorDone (s : State) : exec .mirrorDone s = .next (State.settle (mirrorDone s)) := rfl
theorem exec_mramRecordCommit (r : Fin 4) (s : State) :
    exec (.mramRecordCommit r) s = .next (State.settle (mramCommit r.val s)) := rfl
theorem exec_aliveOutToggle (s : State) : exec .aliveOutToggle s = .next (State.settle (aliveToggle s)) := rfl
theorem exec_sramEccError (a : Word) (s : State) : exec (.sramEccError a) s = .next (State.settle (sramEcc a.toNat s)) := rfl
theorem exec_dramEccError_none (a : Nat) (s : State) : exec (.dramEccError a none) s = .next (State.settle (dramEcc a none s)) := rfl

section
variable {s : State}

/-! ### The snowpack (R242, R243) -/

theorem snowEcc_corrected (a : Nat) :
    snowEcc a false s = (s.event 0x0013 1 2 clsDevice 0 ([3, 1, 0, 0] ++ det 4 a)).count Reg.SNOW_CNT_ECC_1 := rfl

/-- An uncorrectable error is reported and counted (`t`), and its part goes into restoration. -/
theorem snowEcc_uncorrectable {a p : Nat} {t : State}
    (ht : t = (s.event 0x0013 1 2 clsDevice 0 ([3, 2, 0, 0] ++ det 4 a)).count Reg.SNOW_CNT_ECC_2) (hpart : snowPart t a = some p)
    (hnew : restoring t p = false) :
    snowEcc a true s = snowShow { t with snow := { t.snow with restoring := t.snow.restoring ++ [p] } } := by
  subst ht
  unfold snowEcc
  simp only [Bool.not_true, Bool.false_eq_true, if_true, if_false, hpart, hnew]

/-! A restoration counts the bad copies (`t`) and ends with what was being written to the slot (`u`). -/

section
variable {p : Nat} {b0 b1 : Bool} {t u : State} (hrestoring : restoring s p = true)
  (ht : t = s.countBy Reg.SNOW_CNT_MIRROR_FAIL ((if copyBad s p b0 b1 0 then 1 else 0) + if copyBad s p b0 b1 1 then 1 else 0))
  (hu : u = when (decide (p < 4)) (writeLost p) { t with snow := { t.snow with restoring := t.snow.restoring.filter (· != p) } })
include hrestoring ht hu

theorem snowRestore_of_good {c : Nat} (hgood : goodCopy s p b0 b1 = some c) :
    snowRestore p b0 b1 s = holdPolShow (snowShow (((restoreFrom p c (setNewer p c u)).count Reg.SNOW_CNT_RESTORE).event 0x0083 10 1
      (if p < 4 then 10 else clsDevice) (if p < 4 then p else 0) [p, 1])) := by
  subst hu ht
  unfold snowRestore
  rw [hgood]
  exact if_neg (by simp [hrestoring])

theorem snowRestore_of_no_good (hgood : goodCopy s p b0 b1 = none) :
    snowRestore p b0 b1 s = holdPolShow (snowShow ((emptyPart p u).event 0x0083 10 1
      (if p < 4 then 10 else clsDevice) (if p < 4 then p else 0) [p, 2])) := by
  subst hu ht
  unfold snowRestore
  rw [hgood]
  exact if_neg (by simp [hrestoring])

end

/-- The mirror of an applied change takes the gain table or the directory (`t`) and the words of a slot (`u`), and the command completes. -/
theorem mirrorDone_of_applied {o : SnowOp} {c : Ctx} {t u : State} (hop : s.snow.op = some o) (happlied : o.applied = true)
    (hctx : o.ctx = some c)
    (ht : t = if o.code == 0x0A07 then mirrorPart 5 (snowBase + 0x100) 256 s else mirrorPart 4 snowBase 256 s)
    (hu : u = when (o.code == 0x0A01) (mirrorPart o.slot (snowBase + 0x200 + 4 * o.offset) (4 * o.runs)) t) :
    mirrorDone s = completeOps c.code (fun x => x.ctx == c) St.ok (if 0x0A07 ≤ o.code then [] else leBytes 4 o.frame)
      (snowShow (setOp none (u.wb Reg.SNOW_STATUS 11 false))) := by
  subst hu ht
  unfold mirrorDone
  rw [hop]
  refine (if_neg (by simp [happlied])).trans ?_
  rw [hctx]

/-! ### MRAM records (R186, R197, R201, R335, R408) -/

section
variable (hstop : s.pwr.stopDone = false) (hreset : s.pwr.inReset = false)
include hstop hreset

theorem mramCommit_health : mramCommit (0 : Fin 4).val s = healthSaved s := if_neg (by simp [hstop, hreset])
theorem mramCommit_table : mramCommit (1 : Fin 4).val s = saveNext s := if_neg (by simp [hstop, hreset])
theorem mramCommit_calibration : mramCommit (2 : Fin 4).val s = calSaved s := if_neg (by simp [hstop, hreset])
theorem mramCommit_log : mramCommit (3 : Fin 4).val s = { s with mbx := { s.mbx with logSaved := s.mbx.log } } :=
  if_neg (by simp [hstop, hreset])

end

/-- HEALTH_SAVE writes the references (`t`) and the map (`u`) as it asks, and completes. -/
theorem healthSaved_of_op {o : Op} {t u : State} (hop : s.mbx.ops.find? (·.ctx.code == 0x0704) = some o)
    (ht : t = when ((o.d.headD 0).testBit 0) (fun x =>
      (x.putBytes savedVf (s.bytes (vfBase s) vfBytes)).putLe savedVfCrc 4 (crc32c (s.bytes (vfBase s) vfBytes))) s)
    (hu : u = when ((o.d.headD 0).testBit 1) (fun x => (x.putBytes savedMap ((List.range mapBytes).map (mapByte t))).putLe savedMapCrc 4
      (crc32c ((List.range mapBytes).map (mapByte t)))) t) :
    healthSaved s = completeOp o St.ok [] u := by
  subst hu ht
  unfold healthSaved
  rw [hop]

theorem calSaved_of_op {o : Op} (hop : s.mbx.ops.find? (·.ctx.code == 0x0E03) = some o) :
    calSaved s = completeOp o St.ok [] { s with hk := { s.hk with saved := some (calRegs.map fun a => (a, s.rd a)) } } := by
  unfold calSaved
  rw [hop]

/-- The first record of a segment is its copy in the scratch area. -/
theorem saveNext_of_scratch {g hi : Nat} {c : Ctx} {t : State} (hsaving : s.corr.saving = some (g, false, hi, c))
    (ht : t = saveTable 1 g (scratchAt 1) (scratchCrcAt 1) (saveTable 0 g (scratchAt 0) (scratchCrcAt 0) s)) :
    saveNext s = { t.putLe scratchSegAt 4 (g + 1) with corr := { t.corr with saving := some (g, true, hi, c) } } := by
  subst ht
  unfold saveNext
  rw [hsaving]

/-- The second record of a segment is its home; after the last segment the command completes. -/
theorem saveNext_of_home {g hi : Nat} {c : Ctx} {t : State} (hsaving : s.corr.saving = some (g, true, hi, c))
    (ht : t = saveTable 1 g (homeAt 1 g) (homeCrcAt 1 g) (saveTable 0 g (homeAt 0 g) (homeCrcAt 0 g) s)) :
    saveNext s =
      if g < hi then { t with corr := { t.corr with saving := some (g + 1, false, hi, c) } }
      else completeOps c.code (fun o => o.ctx == c) St.ok []
        ({ t with corr := { t.corr with saving := none } }.wb Reg.CORR_STATUS 1 false) := by
  subst ht
  unfold saveNext
  rw [hsaving]

/-! ### ALIVE_OUT (R249) -/

theorem aliveToggle_of_runs {t : State} (hruns : aliveRuns s = true)
    (ht : t = s.advanceTo (ns16 ((s.tickNs / 500000 + 1) * 500000 : Nat))) :
    aliveToggle s = { t with pins := { t.pins with aliveOut := !t.pins.aliveOut } } := by
  subst ht
  exact if_pos hruns

/-! ### Memory errors (R203) -/

@[simp] theorem defaultSlot_event (code cls sev ocls idx : Nat) (d : List Nat) :
    defaultSlot (s.event code cls sev ocls idx d) = defaultSlot s := rfl

theorem sramEcc_eq {a : Nat} {t : State} (ht : t = s.event 0x0013 1 2 clsDevice 0 ([0, 2, 0, 0] ++ det 4 a)) :
    sramEcc a s = fbRaise 5 0 (defaultSlot t) t := by
  rw [ht, defaultSlot_event, sramEcc]

theorem dramEcc_eq {a : Nat} {lamp : Option (Nat × Nat × Nat × Nat)} {t : State}
    (ht : t = s.event 0x0013 1 2 clsDevice 0 ([1, 2, 0, 0] ++ det 4 a)) : dramEcc a lamp s = dramFail (tableAt t a) lamp t := by
  rw [ht, dramEcc]

end

/-- The third part of O53, and so O52: each clause is the case of its event's function that its hypotheses select. -/
theorem snowpackAndMemoryEventsTakeEffect : Obligations.SnowpackAndMemoryEventsTakeEffect := by
  unfold Obligations.SnowpackAndMemoryEventsTakeEffect
  refine ⟨?corrected, ?uncorrectable, ?restore, ?empty, ?mirror, ?health, ?calibration, ?log, ?scratch, ?home, ?alive, ?sram, ?dram⟩
  case corrected =>
    intro a s
    rw [exec_snowEccError, snowEcc_corrected]
  case uncorrectable =>
    intro a s p t ht hpart hnew
    rw [exec_snowEccError, snowEcc_uncorrectable ht hpart hnew]
  case restore =>
    intro p b0 b1 s c t u hrestoring hgood ht hu
    rw [exec_snowRestore, snowRestore_of_good hrestoring ht hu hgood]
  case empty =>
    intro p b0 b1 s t u hrestoring hgood ht hu
    rw [exec_snowRestore, snowRestore_of_no_good hrestoring ht hu hgood]
  case mirror =>
    intro s o c t u hop happlied hctx ht hu
    rw [exec_mirrorDone, mirrorDone_of_applied hop happlied hctx ht hu]
  case health =>
    intro s o t u hstop hreset hop ht hu
    rw [exec_mramRecordCommit, mramCommit_health hstop hreset, healthSaved_of_op hop ht hu]
  case calibration =>
    intro s o hstop hreset hop
    rw [exec_mramRecordCommit, mramCommit_calibration hstop hreset, calSaved_of_op hop]
  case log =>
    intro s hstop hreset
    rw [exec_mramRecordCommit, mramCommit_log hstop hreset]
  case scratch =>
    intro s g hi c t hstop hreset hsaving ht
    rw [exec_mramRecordCommit, mramCommit_table hstop hreset, saveNext_of_scratch hsaving ht]
  case home =>
    intro s g hi c t hstop hreset hsaving ht
    rw [exec_mramRecordCommit, mramCommit_table hstop hreset, saveNext_of_home hsaving ht]
  case alive =>
    intro s t hruns ht
    rw [exec_aliveOutToggle, aliveToggle_of_runs hruns ht]
  case sram =>
    intro a s t ht
    rw [exec_sramEccError, sramEcc_eq ht]
  case dram =>
    intro a s t ht
    rw [exec_dramEccError_none, dramEcc_eq ht]

/-- Settles O53: its three parts, each proved for its own events. -/
theorem healthSupplySnowAndMemoryEventsTakeEffect : Obligations.HealthSupplySnowAndMemoryEventsTakeEffect :=
  ⟨healthAndCorrectionEventsTakeEffect, supplyEventsTakeEffect, snowpackAndMemoryEventsTakeEffect⟩

end Sys2Proof.Machine
end

section
/-! SUPPORT. Commands on correction, lamp health, supply, fallback, lists, lookahead, calibration, scan channels and the log (R145, R184, R186,
R194, R197, R224, R225, R244, R248, R350, R355, R404): what the body of a service comes to when the checks of its row pass. -/
namespace Sys2Proof.Machine

section
variable {c : Ctx} {s : State}

/-! ### Ranges of segments (R184) -/

/-- A range of segments of which none is held is handed on. -/
theorem segRange_of_free {n : Nat} {f : Nat → Nat → State → State} (hlen : n ≤ c.m.payload.length) (hlast : c.m.index.toNat ≤ arg c 0 1)
    (hfree : rangeHeld s clsSegment c.m.index.toNat (arg c 0 1) = false) : segRange c n f s = f c.m.index.toNat (arg c 0 1) s :=
  (need_enough hlen).trans <| (if_neg (by omega)).trans <| if_neg (ne_true_of_eq_false hfree)

theorem bodyCorrApply_of_tables (hlen : 3 ≤ c.m.payload.length) (hlast : c.m.index.toNat ≤ arg c 0 1)
    (hfree : rangeHeld s clsSegment c.m.index.toNat (arg c 0 1) = false) (hlo : 1 ≤ arg c 1 1) (hhi : arg c 1 1 ≤ 3) (hsrc : arg c 2 1 ≤ 1) :
    bodyCorrApply c s =
      applyAccept { lo := c.m.index.toNat, hi := arg c 0 1, tables := arg c 1 1, source := arg c 2 1, ctx := some c }
        (acceptOp c clsSegment c.m.index.toNat (arg c 0 1) [] s) :=
  (segRange_of_free hlen hlast hfree).trans <| if_neg (by simp only [Bool.or_eq_true, decide_eq_true_eq, beq_iff_eq]; omega)

/-- The state in which CORR_SAVE was accepted: the first record of the range is the next to be written. -/
def saveTaken (c : Ctx) (s : State) : State :=
  let t := acceptOp c clsSegment c.m.index.toNat (arg c 0 1) [] s
  { t with corr := { t.corr with saving := some (c.m.index.toNat, false, arg c 0 1, c) } }.wb Reg.CORR_STATUS 1 true

theorem bodyCorrSave_of_idle (hlen : 1 ≤ c.m.payload.length) (hlast : c.m.index.toNat ≤ arg c 0 1)
    (hfree : rangeHeld s clsSegment c.m.index.toNat (arg c 0 1) = false) (hidle : s.corr.saving = none) :
    bodyCorrSave c s = saveTaken c s :=
  (segRange_of_free hlen hlast hfree).trans <| if_neg (by simp [hidle])

theorem bodyVfCapture_of_idle (hlen : 1 ≤ c.m.payload.length) (hlast : c.m.index.toNat ≤ arg c 0 1)
    (hfree : rangeHeld s clsSegment c.m.index.toNat (arg c 0 1) = false) (hidle : s.hlt.cap = none) :
    bodyVfCapture c s =
      captureStart c c.m.index.toNat (arg c 0 1) (acceptOp c clsSegment c.m.index.toNat (arg c 0 1) [] s) :=
  (segRange_of_free hlen hlast hfree).trans <| if_neg (by simp [hidle])

/-! ### Lamp health (R194, R197) -/

/-- HEALTH_CLEAR takes its lamps, or all of a segment for a count of 0, in each segment named. -/
theorem bodyHealthClear_of_lamps (hlen : 4 ≤ c.m.payload.length) (hfit : arg c 2 2 = 0 ∨ arg c 0 2 + arg c 2 2 ≤ 4096) :
    bodyHealthClear c s = respondTo c St.ok [] (forEach (objects c) (fun g t => faultEval g
      (forEach ((List.range (if arg c 2 2 = 0 then 4096 else arg c 2 2)).map (g * 4096 + (if arg c 2 2 = 0 then 0 else arg c 0 2) + ·))
        clearLamp t)) s) := by
  refine (need_enough hlen).trans <| (if_neg ?_).trans ?_
  · simp only [Bool.and_eq_true, bne_iff_ne, decide_eq_true_eq]
    omega
  · simp only [beq_iff_eq]

theorem bodyHealthSave_of_length (hlen : 1 ≤ c.m.payload.length) :
    bodyHealthSave c s = acceptOp c clsDevice 0 0 [arg c 0 1 % 4] s := need_enough hlen

/-! ### Supply and fallback (R225, R244, R248) -/

section
variable (huntimed : c.timed = false)
include huntimed

theorem bodySupLimit_of_percent (hlen : 1 ≤ c.m.payload.length) (hmax : arg c 0 1 ≤ 120) :
    bodySupLimit c s = respondTo c St.ok [] (applyWord Reg.SUP_HOST_LIMIT (BitVec.ofNat 32 (arg c 0 1)) s) :=
  (need_enough hlen).trans <| (if_neg (by omega)).trans <| reply_untimed huntimed

theorem bodyFbRaise_of_slot (hlen : 1 ≤ c.m.payload.length) (hslot : arg c 0 1 ≤ 3) :
    bodyFbRaise c s = respondTo c St.ok (framePart s) (fbRaise 6 0 (arg c 0 1) s) :=
  (need_enough hlen).trans <| (if_neg (by omega)).trans <| reply_untimed huntimed

theorem bodyFbClear_of_allowed (hallowed : clearRefused s = false) :
    bodyFbClear c s = respondTo c St.ok (framePart s) (fbClear s) :=
  (if_neg (ne_true_of_eq_false hallowed)).trans <| reply_untimed huntimed

end

/-! ### Lists and lookahead (R145, R350) -/

/-- The list path of messages takes a list that passes its checks, and the answer counts the objects dropped. -/
theorem bodyListPut_of_good (hpath : s.bit Reg.BEAM_CTRL 6 = true) (hgood : listVerdict s c.m.payload = 0) :
    bodyListPut c s = respondTo c St.ok
      (leBytes 4 (leAt c.m.payload 1 1 - (keptObjs s [] (listRecords c.m.payload)).length)) (listIn 6 c.m.payload s) :=
  (if_neg (by simp [hpath, hgood])).trans <| if_pos (by simp [hgood])

theorem bodyLaEnter_of_enabled (hlen : 1 ≤ c.m.payload.length) (hen : s.bit Reg.BEAM_CTRL 0 = true) :
    bodyLaEnter c s = respondTo c St.ok (framePart s)
      (lookAhead true (when (arg c 0 1 != 0) (State.swWrite · Reg.BEAM_LOOKAHEAD (BitVec.ofNat 32 (arg c 0 1))) s)) :=
  (need_enough hlen).trans <| if_neg (by simp [hen])

theorem bodyLaTol_of_tolerance (hlen : 1 ≤ c.m.payload.length) (hsome : arg c 0 1 ≠ 0) :
    bodyLaTol c s = respondTo c St.ok [] (s.swWrite Reg.BEAM_LOOKAHEAD (BitVec.ofNat 32 (arg c 0 1))) :=
  (need_enough hlen).trans <| if_neg (by simpa only [beq_iff_eq] using hsome)

/-! ### Calibration and scan channels (R355, R404) -/

/-- The state in which CAL_RUN of unit `u` was accepted: its field is re-armed and its run is queued. -/
def calTaken (c : Ctx) (u : Nat) (s : State) : State :=
  let t := acceptOp c clsDevice 0 0 [] (calEnqueue u (setCalUser u false s))
  { t with hk := { t.hk with calCtx := t.hk.calCtx ++ [(u, c)] } }

theorem bodyCalRun_of_unit {u : Nat} (hlen : 4 ≤ c.m.payload.length) (hunit : calUnit (arg c 0 1) (arg c 2 2) = some u)
    (hfree : calHeld s u = false) (hserves : calInService s u = true) : bodyCalRun c s = calTaken c u s := by
  refine (need_enough hlen).trans ?_
  rw [hunit]
  exact (if_neg (ne_true_of_eq_false hfree)).trans <| if_neg (by simp [hserves])

theorem bodyCrcScan_of_idle (hunnamed : chNamed s c.m.index.toNat = false) (hen : chEn s c.m.index.toNat = true)
    (hmode : chMode s c.m.index.toNat = 0) (hidle : chBusy s c.m.index.toNat = false) (hrange : scanOk s c.m.index.toNat = true) :
    bodyCrcScan c s = chStart c.m.index.toNat (acceptOp c 11 c.m.index.toNat c.m.index.toNat [] s) :=
  (if_neg (by simp [hunnamed, hen, hmode])).trans <| (if_neg (ne_true_of_eq_false hidle)).trans <| if_neg (by simp [hrange])

end

/-- Settles O40: each command is served, and its body is in the case that the hypotheses of its clause select. -/
theorem correctionHealthSupplyListAndCheckCommandsTakeEffect : Obligations.CorrectionHealthSupplyListAndCheckCommandsTakeEffect := by
  unfold Obligations.CorrectionHealthSupplyListAndCheckCommandsTakeEffect
  refine ⟨?corrApply, ?corrSave, ?healthClear, ?vfCapture, ?healthSave, ?supRestart, ?supLimit, ?fbRaise, ?fbClear, ?listPut, ?laEnter, ?laExit,
    ?laTol, ?logClear, ?calSave, ?calRun, ?crcScan⟩
  case corrApply =>
    rintro m z s _ hs rfl h hlen hlast hfree hlo hhi hsrc
    exact exec_of_service rfl hs h (bodyCorrApply_of_tables hlen hlast hfree hlo hhi hsrc)
  case corrSave =>
    rintro m z s _ hs rfl h hlen hlast hfree hidle
    exact exec_of_service rfl hs h (bodyCorrSave_of_idle hlen hlast hfree hidle)
  case healthClear =>
    rintro m z s _ hs rfl h hlen hfit
    exact exec_of_service rfl hs h (bodyHealthClear_of_lamps hlen hfit)
  case vfCapture =>
    rintro m z s _ hs rfl h hlen hlast hfree hidle
    exact exec_of_service rfl hs h (bodyVfCapture_of_idle hlen hlast hfree hidle)
  case healthSave =>
    rintro m z s _ hs rfl h hlen
    exact exec_of_service rfl hs h (bodyHealthSave_of_length hlen)
  case supRestart =>
    rintro m z s _ hs rfl h
    exact exec_of_service (body := bodySupRestart) rfl hs h rfl
  case supLimit =>
    rintro m z s _ hs rfl h hlen hmax
    exact exec_of_service rfl hs h (bodySupLimit_of_percent rfl hlen hmax)
  case fbRaise =>
    rintro m z s _ hs rfl h hlen hslot
    exact exec_of_service rfl hs h (bodyFbRaise_of_slot rfl hlen hslot)
  case fbClear =>
    rintro m z s _ hs rfl h hallowed
    exact exec_of_service rfl hs h (bodyFbClear_of_allowed rfl hallowed)
  case listPut =>
    rintro m z s _ hs rfl h hpath hgood
    exact exec_of_service rfl hs h (bodyListPut_of_good hpath hgood)
  case laEnter =>
    rintro m z s _ hs rfl h hlen hen
    exact exec_of_service rfl hs h (bodyLaEnter_of_enabled hlen hen)
  case laExit =>
    rintro m z s _ hs rfl h
    exact exec_of_service (body := bodyLaExit) rfl hs h rfl
  case laTol =>
    rintro m z s _ hs rfl h hlen hsome
    exact exec_of_service rfl hs h (bodyLaTol_of_tolerance hlen hsome)
  case logClear =>
    rintro m z s _ hs rfl h
    exact exec_of_service (body := bodyLogClear) rfl hs h rfl
  case calSave =>
    rintro m z s _ hs rfl h
    exact exec_of_service (body := bodyCalSave) rfl hs h rfl
  case calRun =>
    rintro m z s _ hs rfl h hlen u hunit hfree hserves
    exact exec_of_service rfl hs h (bodyCalRun_of_unit hlen hunit hfree hserves)
  case crcScan =>
    rintro m z s _ hs rfl h hunnamed hen hmode hidle hrange
    exact exec_of_service rfl hs h (bodyCrcScan_of_idle hunnamed hen hmode hidle hrange)

end Sys2Proof.Machine
end

section
/-! SUPPORT. Changes of the snowpack (R239 to R242) and the staged loads of patterns, glyphs, grids and segment defaults (R62, R156, R159, R162,
R343): what the body of a service comes to when the checks of its row pass. -/
namespace Sys2Proof.Machine

section
variable {c : Ctx} {s : State}

/-! ### Changes of the snowpack (R239 to R242) -/

/-- What SLOT_BEGIN asks for, at the extent `off`; it keeps the old entry of its slot. -/
def slotAsked (c : Ctx) (off : Nat) (s : State) : SnowOp :=
  { code := 0x0A01, slot := c.m.index.toNat, offset := off, runs := arg c 0 2, wm1 := arg c 2 2, hm1 := arg c 4 2, sflags := arg c 6 1 % 2,
    bg := arg c 7 1 % 64, crc := arg c 8 4, bytes := s.bytes (entryAt snowBase c.m.index.toNat) 16 }

/-- The state in which the slot of an operation stands as WRITING at its extent. -/
def slotOpened (o : SnowOp) (s : State) : State :=
  dirUpdated (setOp (some o) (s.putBytes (entryAt snowBase o.slot) (entryBytes 2 o.sflags o.bg o.offset o.runs o.wm1 o.hm1 o.crc)))

theorem bodySlotBegin_of_extent {off : Nat} (hlen : 12 ≤ c.m.payload.length) (hidle : snowBusy s = false)
    (hunlocked : slotLocked s c.m.index.toNat = false) (hruns : 1 ≤ arg c 0 2) (hruns' : arg c 0 2 ≤ 8064) (hw : arg c 2 2 ≤ 8191)
    (hh : arg c 4 2 ≤ 8191) (hoff : placeRuns s c.m.index.toNat (arg c 0 2) = some off) :
    bodySlotBegin c s = holdPolShow (snowShow (respondTo c St.ok (leBytes 2 off) (slotOpened (slotAsked c off s) s))) := by
  have hrange : ¬((arg c 0 2 == 0 || decide (8064 < arg c 0 2) || decide (8191 < arg c 2 2) || decide (8191 < arg c 4 2)) = true) := by
    simp only [Bool.or_eq_true, beq_iff_eq, decide_eq_true_eq]
    omega
  unfold bodySlotBegin
  rw [need_enough hlen, if_neg (ne_true_of_eq_false hidle), if_neg (ne_true_of_eq_false hunlocked), if_neg hrange, hoff]
  rfl

/-- The words of a slot write with the data of a bulk message put in, from its offset on. -/
def wordsPut (b : Bulk) (words : Store (Option Word)) : Store (Option Word) :=
  (List.range (b.data.length / 4)).foldl
    (fun w i => sput (fun _ => none) w (b.offset + i) (some (BitVec.ofNat 32 (leAt b.data (4 * i) 4)))) words

section
variable {o : SnowOp} (hopen : openWrite s c.m.index.toNat = some o)
include hopen

theorem bodySlotData_of_open (hlen : 16 ≤ c.m.payload.length)
    (hdata : ¬((bulkOf c).data.length % 4 ≠ 0 ∨ bulkMax c < (bulkOf c).data.length)) (hop : (bulkOf c).op = 1)
    (hfit : 4 * (bulkOf c).offset + (bulkOf c).data.length ≤ 4 * o.runs) :
    bodySlotData c s = respondTo c St.ok [] (modOp (fun x => { x with words := wordsPut (bulkOf c) o.words })
      (s.putBytes (snowBase + 0x200 + 4 * (o.offset + (bulkOf c).offset)) (bulkOf c).data)) := by
  refine (withData_of_words hlen hdata hop).trans ?_
  rw [hopen]
  exact if_neg (by omega)

/-- A write whose words are all there, with their CRC and a good form, is accepted. -/
theorem bodySlotEnd_of_whole {l : List Word}
    (hwords : (List.range o.runs).map (fun i => sget (fun _ => (none : Option Word)) o.words i) = l.map some) (hlen : l.length = o.runs)
    (hcrc : crc32c (wordBytes l) = o.crc) (hform : wellFormedRuns (o.wm1 + 1) (o.hm1 + 1) (l.map BitVec.toNat) = true) :
    bodySlotEnd c s = snowAccept c o s := by
  have hall : (l.map some).filterMap id = l := by simp
  unfold bodySlotEnd
  rw [hopen]
  simp only [hwords, hall]
  exact (if_neg (by simp [hlen, hcrc])).trans <| if_neg (by simp [hform])

theorem bodySlotAbort_of_open : bodySlotAbort c s = respondTo c St.ok [] (slotBack o s) := by
  unfold bodySlotAbort
  rw [hopen]

end

section
variable (hidle : snowBusy s = false)
include hidle

theorem bodySlotDelete_of_unnamed (hunlocked : slotLocked s c.m.index.toNat = false) (hstate : slotState s c.m.index.toNat ≠ 0)
    (hunnamed : slotNamed s c.m.index.toNat = false) :
    bodySlotDelete c s = snowAccept c { code := 0x0A05, slot := c.m.index.toNat } s :=
  (if_neg (ne_true_of_eq_false hidle)).trans <| (if_neg (ne_true_of_eq_false hunlocked)).trans <| if_neg (by simp [hstate, hunnamed])

theorem bodySetDefault_of_valid (hvalid : slotValid s c.m.index.toNat = true) :
    bodySetDefault c s = snowAccept c { code := 0x0A06, slot := c.m.index.toNat } s :=
  (if_neg (ne_true_of_eq_false hidle)).trans <| if_neg (by simp [hvalid])

/-- GAIN_PUT and LEVELS_PUT take the bytes of their table. -/
theorem bodyTable_of_idle {code n : Nat} (hlen : n ≤ c.m.payload.length) :
    bodyTable code n c s = snowAccept c { code := code, slot := 0, bytes := c.m.payload.take n } s :=
  (need_enough hlen).trans <| if_neg (ne_true_of_eq_false hidle)

end

/-! ### Staged loads (R343) -/

/-- A bulk payload of whole words within the limit, with an OP that exists, is handed on. -/
theorem withBulk_of_words {f : Bulk → State → State} (hlen : 16 ≤ c.m.payload.length)
    (hdata : ¬((bulkOf c).data.length % 4 ≠ 0 ∨ bulkMax c < (bulkOf c).data.length)) (hop : (bulkOf c).op ≤ 2) :
    withBulk c f s = f (bulkOf c) s := by
  unfold withBulk
  rw [need_enough hlen, if_neg (by simpa only [Bool.or_eq_true, bne_iff_ne, decide_eq_true_eq] using hdata), if_neg (by omega)]

theorem staged_begin {obj : Nat} {start : Bulk → State → State} {fin : Load → List Byte → State → State} {b : Bulk} (hop : b.op = 0) :
    staged c obj start fin b s = start b s := by
  unfold staged
  rw [hop]
  rfl

/-- The END of a load whose bytes all came and pass their CRC ends the load and hands the object on. -/
theorem staged_end {obj : Nat} {start : Bulk → State → State} {fin : Load → List Byte → State → State} {b : Bulk} {l : Load} {d : List Byte}
    (hop : b.op = 2) (hload : loadOf s c.code obj = some l) (hbytes : loadBytes l = some d) (hcrc : crc32c d = b.crc) :
    staged c obj start fin b s = fin l d (dropLoad c.code obj s) := by
  simp only [staged, hop, loadEnd, hload, hbytes, hcrc, beq_self_eq_true, if_true]

section
variable (hlen : 16 ≤ c.m.payload.length) (hdata : ¬((bulkOf c).data.length % 4 ≠ 0 ∨ bulkMax c < (bulkOf c).data.length))
include hlen hdata

theorem bodyGridLoad_of_begin (hop : (bulkOf c).op = 0) (hsel : (bulkOf c).sel ≤ 1)
    (hidle : bankUsed s Reg.BEAM_GRID_BANK 0 (bulkOf c).sel = false) (hsize : (bulkOf c).size = 4356) :
    bodyGridLoad c s =
      respondTo c St.ok [] (startLoad { code := c.code, obj := (bulkOf c).sel, size := 4356, got := [], extra := [] } s) := by
  refine (withBulk_of_words hlen hdata (by omega)).trans <| (if_neg (by omega)).trans <| (if_neg (ne_true_of_eq_false hidle)).trans <|
    (staged_begin hop).trans <| (if_neg (by simp [hsize])).trans ?_
  rw [hsize]

section
variable {l : Load} {d : List Byte} (hop : (bulkOf c).op = 2) (hbytes : loadBytes l = some d) (hcrc : crc32c d = (bulkOf c).crc)
include hop hbytes hcrc

theorem bodyPatLoad_of_end (hsel : (bulkOf c).sel ≤ 15) (hunselected : patSelected s (bulkOf c).sel = false)
    (hload : loadOf s c.code (bulkOf c).sel = some l) :
    bodyPatLoad c s = respondTo c St.ok []
      (setPat l.obj (some (loadPlace l)) ((dropLoad c.code (bulkOf c).sel s).putBytes (loadPlace l).1 d)) :=
  (withBulk_of_words hlen hdata (by omega)).trans <| (if_neg (by omega)).trans <| (if_neg (ne_true_of_eq_false hunselected)).trans <|
    staged_end hop hload hbytes hcrc

theorem bodyGlyphLoad_of_end (hsel : (bulkOf c).sel ≤ 15) (hunnamed : glyphNamed s (bulkOf c).sel = false)
    (hload : loadOf s c.code (bulkOf c).sel = some l) :
    bodyGlyphLoad c s = respondTo c St.ok []
      (setGlyph l.obj (some (loadPlace l)) ((dropLoad c.code (bulkOf c).sel s).putBytes (loadPlace l).1 d)) :=
  (withBulk_of_words hlen hdata (by omega)).trans <| (if_neg (by omega)).trans <| (if_neg (ne_true_of_eq_false hunnamed)).trans <|
    staged_end hop hload hbytes hcrc

theorem bodyGridLoad_of_end (hsel : (bulkOf c).sel ≤ 1) (hidle : bankUsed s Reg.BEAM_GRID_BANK 0 (bulkOf c).sel = false)
    (hload : loadOf s c.code (bulkOf c).sel = some l) :
    bodyGridLoad c s =
      respondTo c St.ok [] ((dropLoad c.code (bulkOf c).sel s).putBytes (winBase + 0x420000 + 0x2000 * l.obj) d) :=
  (withBulk_of_words hlen hdata (by omega)).trans <| (if_neg (by omega)).trans <| (if_neg (ne_true_of_eq_false hidle)).trans <|
    staged_end hop hload hbytes hcrc

/-- The default values of a segment that can be reached wait on its link in 16 parts of 512 bytes. -/
theorem bodySegDefaultLoad_of_end (hload : loadOf s c.code c.m.index.toNat = some l)
    (hreached : segReached (dropLoad c.code c.m.index.toNat s) c.m.index.toNat = true) :
    bodySegDefaultLoad c s =
      (acceptOp c clsSegment c.m.index.toNat c.m.index.toNat ((List.range 4096).map fun i => leAt d (2 * i) 2)
        (dropLoad c.code c.m.index.toNat s)).modLink (c.m.index.toNat / 8) fun x => { x with defQ := x.defQ ++ (List.range 16).map fun k =>
          (c.m.index.toNat % 8, k, k == 15, (d.drop (512 * k)).take 512) } :=
  (withBulk_of_words hlen hdata (by omega)).trans <| (staged_end hop hload hbytes hcrc).trans <| if_neg (by simp [hreached])

end
end
end

/-- Settles O41: each command is served, and its body is in the case that the hypotheses of its clause select. -/
theorem snowpackAndStagedLoadCommandsTakeEffect : Obligations.SnowpackAndStagedLoadCommandsTakeEffect := by
  unfold Obligations.SnowpackAndStagedLoadCommandsTakeEffect
  refine ⟨?slotBegin, ?slotData, ?slotEnd, ?slotAbort, ?slotDelete, ?setDefault, ?gainPut, ?levelsPut, ?patEnd, ?glyphEnd, ?gridEnd, ?gridBegin,
    ?segDefaultEnd⟩
  case slotBegin =>
    rintro m z s _ hs rfl h hlen hidle hunlocked hruns hruns' hw hh off hoff
    exact exec_of_service rfl hs h (bodySlotBegin_of_extent hlen hidle hunlocked hruns hruns' hw hh hoff)
  case slotData =>
    rintro m z s _ hs rfl h hlen hdata hop o hopen hfit
    exact exec_of_service rfl hs h (bodySlotData_of_open hopen hlen hdata hop hfit)
  case slotEnd =>
    rintro m z s _ hs rfl h o hopen l hwords hlen hcrc hform
    exact exec_of_service rfl hs h (bodySlotEnd_of_whole hopen hwords hlen hcrc hform)
  case slotAbort =>
    rintro m z s _ hs rfl h o hopen
    exact exec_of_service rfl hs h (bodySlotAbort_of_open hopen)
  case slotDelete =>
    rintro m z s _ hs rfl h hidle hunlocked hstate hunnamed
    exact exec_of_service rfl hs h (bodySlotDelete_of_unnamed hidle hunlocked hstate hunnamed)
  case setDefault =>
    rintro m z s _ hs rfl h hidle hvalid
    exact exec_of_service rfl hs h (bodySetDefault_of_valid hidle hvalid)
  case gainPut =>
    rintro m z s _ hs rfl h hlen hidle
    exact exec_of_service (body := bodyGainPut) rfl hs h (bodyTable_of_idle hidle hlen)
  case levelsPut =>
    rintro m z s _ hs rfl h hlen hidle
    exact exec_of_service (body := bodyLevelsPut) rfl hs h (bodyTable_of_idle hidle hlen)
  case patEnd =>
    rintro m z s _ hs rfl h hlen hdata hop hsel hunselected l hload d hbytes hcrc
    exact exec_of_service rfl hs h (bodyPatLoad_of_end hlen hdata hop hbytes hcrc hsel hunselected hload)
  case glyphEnd =>
    rintro m z s _ hs rfl h hlen hdata hop hsel hunnamed l hload d hbytes hcrc
    exact exec_of_service rfl hs h (bodyGlyphLoad_of_end hlen hdata hop hbytes hcrc hsel hunnamed hload)
  case gridEnd =>
    rintro m z s _ hs rfl h hlen hdata hop hsel hidle l hload d hbytes hcrc
    exact exec_of_service rfl hs h (bodyGridLoad_of_end hlen hdata hop hbytes hcrc hsel hidle hload)
  case gridBegin =>
    rintro m z s _ hs rfl h hlen hdata hop hsel hidle hsize
    exact exec_of_service rfl hs h (bodyGridLoad_of_begin hlen hdata hop hsel hidle hsize)
  case segDefaultEnd =>
    rintro m z s _ hs rfl h hlen hdata hop l hload d hbytes hcrc hreached
    exact exec_of_service rfl hs h (bodySegDefaultLoad_of_end hlen hdata hop hbytes hcrc hload hreached)

end Sys2Proof.Machine
end

section
/-! SUPPORT. The packets and events of the fabric (R252 to R272, R281): what each does in each of its cases. -/
namespace Sys2Proof.Machine
open Sys2Proof.Laws

/-! ### The commands and their meanings -/

theorem exec_fabCtrlEn (v : Bool) (z : State) : exec (.fabCtrlEn v) z = .next (State.settle (fabEnable v (rasterFirst z))) := rfl
theorem exec_pixelStrip (p : Fin 4) (h : FabHdr) (d : List Byte) (z : State) :
    exec (.pixelStrip p h d) z = .next (State.settle (pixelStrip p.val h d (rasterFirst z))) := rfl
theorem exec_control (p : Fin 4) (h : FabHdr) (d : List Byte) (z : State) :
    exec (.control p h d) z = .next (State.settle (control p.val h d (rasterFirst z))) := rfl
theorem exec_time (p : Fin 4) (h : FabHdr) (ps : Nat) (d : List Byte) (s : State) :
    exec (.time p h ps d) s = .next (State.settle (timePacket p.val h ps d s)) := rfl
theorem exec_hello (p : Fin 4) (f : HelloPkt) (s : State) :
    exec (.hello p f) s = .next (State.settle (hello p.val f.hdr f.body s)) := rfl
theorem exec_helloSend (s : State) :
    exec .helloSend s =
      .next (State.settle (if s.bit Reg.FAB_CTRL 0 then forEach ((List.range 4).filter (fabActive s)) helloSend s else s)) := rfl
theorem exec_claimLapse (p : Fin 4) (s : State) : exec (.claimLapse p) s = .next (State.settle (claimLapse p.val s)) := rfl
theorem exec_rootElected (s : State) : exec .rootElected s = .next (State.settle (becomeRoot s)) := rfl
theorem exec_noRoot (s : State) :
    exec .noRoot s =
      .next (State.settle (if s.bit Reg.FAB_CTRL 0 && fabState s == 1 && s.fab.claim == 0 then setFabState 5 s else s)) := rfl
theorem exec_assign (p : Fin 4) (h : FabHdr) (d : DiscPath) (uid : BitVec 64) (fid : BitVec 12) (q : Fin 4) (s : State) :
    exec (.assign p h d uid fid q) s = .next (State.settle (assign p.val h d uid.toNat fid.toNat q.val s)) := rfl
theorem exec_assignAck (p : Fin 4) (h : FabHdr) (d : DiscPath) (uid : BitVec 64) (fid : BitVec 12) (l : List (BitVec 64 × Fin 4))
    (s : State) :
    exec (.assignAck p h d uid fid l) s =
      .next (State.settle (assignAck p.val h d uid.toNat fid.toNat (l.map fun e => (e.1.toNat, e.2.val)) s)) := rfl
theorem exec_assignTimeout (s : State) : exec .assignTimeout s = .next (State.settle (assignTimeout s)) := rfl
theorem exec_route (p : Fin 4) (h : FabHdr) (d : DiscPath) (id : BitVec 32) (im : List Byte) (s : State) :
    exec (.route p h d id im) s = .next (State.settle (route p.val h d id.toNat im s)) := rfl
theorem exec_routeCommit (p : Fin 4) (h : FabHdr) (id : BitVec 32) (at' : BitVec 64) (s : State) :
    exec (.routeCommit p h id at') s = .next (State.settle (routeCommit p.val h id.toNat at'.toNat s)) := rfl
theorem exec_routeBankSwitch (s : State) : exec .routeBankSwitch s = .next (State.settle (bankSwitch s)) := rfl
theorem exec_routeAck (p : Fin 4) (h : FabHdr) (d : DiscPath) (id : BitVec 32) (st : Byte) (s : State) :
    exec (.routeAck p h d id st) s = .next (State.settle (routeAck p.val h d id.toNat st.toNat s)) := rfl
theorem exec_linkEvent (p : Fin 4) (g : DiscHdr) (uid : BitVec 64) (q : Fin 4) (b : Bool) (nb : BitVec 64) (s : State) :
    exec (.linkEvent p g uid q b nb) s =
      .next (State.settle (linkEvent p.val g.hdr g.way uid.toNat q.val b nb.toNat s)) := rfl
theorem exec_flow (p : Fin 4) (init : Bool) (a b c d : BitVec 16) (s : State) :
    exec (.flow p init a b c d) s = .next (State.settle (flow p.val init [a.toNat, b.toNat, c.toNat, d.toNat] s)) := rfl
theorem exec_flowSend (p : Fin 4) (s : State) : exec (.flowSend p) s = .next (State.settle (flowSend p.val s)) := rfl
theorem exec_fabPacketDelay (p v : Fin 4) (s : State) :
    exec (.fabPacketDelay p v) s = .next (State.settle (packetDelay p.val v.val s)) := rfl
theorem exec_subLossTimeout (n : Fin 16) (s : State) : exec (.subLossTimeout n) s = .next (State.settle (subLoss n.val s)) := rfl
theorem exec_fabricBadPacket (p : Fin 4) (l : List Byte) (b : Bool) (s : State) :
    exec (.fabricBadPacket p l b) s = .next (State.settle (badPacket p.val l b s)) := rfl
theorem exec_laneDeskewError (fabric : Bool) (n : Fin 4) (s : State) :
    exec (.laneDeskewError fabric n) s = .next (State.settle (deskewError fabric n.val s)) := rfl

/-! ### Ways of a received packet (R262, R263) -/

/-- A unicast packet without a path that is for this device is delivered. -/
theorem fabRoute_own {p : Nat} {k : FabPkt} {o : Option DiscPath} {f : State → State} {s : State}
    (ho : k.flags.testBit 2 = false ∨ o = none) (hm : k.flags.testBit 0 = false) (hd : k.dest ≠ 0xFFF) (hown : k.dest = s.ownFid) :
    fabRoute p k o f s = f (seqCheck k s) :=
  (fabRoute_unicast ho hm hd).trans <| if_pos hown

/-! ### Good packets of each kind (R255): counted, then on their way

In these lemmas `t` is the state with the packet `k` counted. -/

section
variable {p : Nat} {k : FabPkt} {s t : State} (ha : fabActive s p = true) (hl : k.payload.length ≤ 4096)
  (ht : t = s.count (Reg.FAB_P_VC_CNT_RX p k.vc))
include ha hl ht

/-- `fabReceive_taken` with the counted state named. -/
theorem fabReceive_counted {vcs : List Nat} {next : State → State} (hvc : k.vc ∈ vcs) : fabReceive p k vcs next s = next t := by
  rw [ht, fabReceive_taken ha (List.contains_iff_mem.mpr hvc) hl]

theorem pixelStrip_counted {h : FabHdr} {d : List Byte} (hk : k = rxPkt p 1 h d) (hvc : k.vc = 3) :
    pixelStrip p h d s =
      if k.flags.testBit 0 then forEach (subsOf s h) (fun n v => stripTake n h d v) (fabForward (some p) k t)
      else if k.dest = 0xFFF then
        if offTree t p then fabDropAt p k t else forEach (subsOf s h) (fun n v => stripTake n h d v) (fabForward (some p) k t)
      else if k.dest ≠ t.ownFid then fabForward (some p) k t
      else forEach (subsOf s h) (fun n v => stripTake n h d v)
        (if (subsOf s h).isEmpty then (fabFree k t).count Reg.FAB_CNT_NOSUB else fabFree k t) := by
  unfold pixelStrip
  rw [← hk, fabReceive_counted ha hl ht (by simp [hvc])]
  simp only [beq_iff_eq, bne_iff_ne, when]

theorem control_counted {h : FabHdr} {d : List Byte} (hk : k = rxPkt p 2 h d) (hvc : k.vc = 1 ∨ k.vc = 2) :
    control p h d s = fabRoute p k none (fun s => controlIn (if k.dest = 0xFFF then { k with inPort := none } else k) s) t := by
  unfold control
  rw [← hk, fabReceive_counted ha hl ht (by simpa using hvc)]
  simp only [beq_iff_eq]

theorem timePacket_counted {h : FabHdr} {ps : Nat} {d : List Byte} (hk : k = rxPkt p 3 h d) (hvc : k.vc = 0) :
    timePacket p h ps d s = ptpReceive p ps d (fabFree k t) := by
  unfold timePacket
  rw [← hk, fabReceive_counted ha hl ht (by simp [hvc])]

variable (hvc : k.vc = 1)
include hvc

theorem hello_counted {h : FabHdr} {f : Hello}
    (hk : k = rxPkt p 4 h (helloBody f.uid.toNat f.rootUid.toNat f.dist.toNat 0 f.fid.toNat f.port.val)) :
    hello p h f s = if t.bit Reg.FAB_CTRL 0 then helloIn p f (seqCheck k (fabFree k t)) else seqCheck k (fabFree k t) := by
  unfold hello
  rw [← hk, fabReceive_counted ha hl ht (by simp [hvc]), when]

theorem assign_counted {h : FabHdr} {d : DiscPath} {uid fid q : Nat}
    (hk : k = rxPkt p 4 h (discPrefix 2 (pathList d) ++ leBytes 8 uid ++ leBytes 2 fid ++ leBytes 1 q)) :
    assign p h d uid fid q s = fabRoute p k (some d) (fun s => assignTake p h d uid fid q (fabFree k s))
      (if k.flags.testBit 2 && k.hops != d.depth.toNat then addTree (pathHop d k.hops) t else t) := by
  unfold assign
  rw [← hk, fabReceive_counted ha hl ht (by simp [hvc]), when]

theorem assignAck_counted {h : FabHdr} {d : DiscPath} {uid fid : Nat} {n : List (Nat × Nat)}
    (hk : k = rxPkt p 4 h (discPrefix 3 (pathList d) ++ leBytes 8 uid ++ leBytes 2 fid ++ n.flatMap fun e => leBytes 8 e.1 ++ leBytes 1 e.2)) :
    assignAck p h d uid fid n s = fabRoute p k (some d) (fun s => ackTake uid n (fabFree k s)) t := by
  unfold assignAck
  rw [← hk, fabReceive_counted ha hl ht (by simp [hvc])]

theorem route_counted {h : FabHdr} {d : DiscPath} {id : Nat} {im : List Byte}
    (hk : k = rxPkt p 4 h (discPrefix 4 (pathList d) ++ leBytes 4 id ++ im)) :
    route p h d id im s = fabRoute p k (some d) (fun s => routeTake p h d id im (fabFree k s)) t := by
  unfold route
  rw [← hk, fabReceive_counted ha hl ht (by simp [hvc])]

theorem routeCommit_counted {h : FabHdr} {id at' : Nat} (hk : k = rxPkt p 4 h (discPrefix 5 [] ++ leBytes 4 id ++ leBytes 8 at')) :
    routeCommit p h id at' s =
      fabRoute p k none (fun s => commitTake id at' (if k.dest != 0xFFF then fabFree k s else s)) t := by
  unfold routeCommit
  rw [← hk, fabReceive_counted ha hl ht (by simp [hvc])]
  rfl

theorem routeAck_counted {h : FabHdr} {d : DiscPath} {id st : Nat}
    (hk : k = rxPkt p 4 h (discPrefix 6 (pathList d) ++ leBytes 4 id ++ leBytes 1 st)) :
    routeAck p h d id st s = fabRoute p k (some d) (fun s => routeAgain k.src st (fabFree k s)) t := by
  unfold routeAck
  rw [← hk, fabReceive_counted ha hl ht (by simp [hvc])]

theorem linkEvent_counted {h : FabHdr} {d : DiscPath} {uid q nb : Nat} {b : Bool}
    (hk : k = rxPkt p 4 h
      (discPrefix 7 (pathList d) ++ leBytes 8 uid ++ leBytes 1 q ++ leBytes 1 (if b then 1 else 0) ++ leBytes 8 nb)) :
    linkEvent p h d uid q b nb s = fabRoute p k (some d) (fun s => rootLink uid q b nb (fabFree k s)) t := by
  unfold linkEvent
  rw [← hk, fabReceive_counted ha hl ht (by simp [hvc])]

end

section
variable {p : Nat} {s : State}

/-! ### Enable, claims and election (R256, R257, R264) -/

theorem fabEnable_on_of_off (hoff : s.bit Reg.FAB_CTRL 0 = false) : fabEnable true s = fabDiscover (s.wb Reg.FAB_CTRL 0 true) :=
  if_pos (by simp [hoff])

theorem fabEnable_off_of_on (hon : s.bit Reg.FAB_CTRL 0 = true) :
    fabEnable false s =
      (((setFabState 0 (fabLeave (s.wb Reg.FAB_CTRL 0 false))).wr Reg.FAB_ROOT_UID_LO 0).wr Reg.FAB_ROOT_UID_HI 0).wf Reg.FAB_STATUS 16 6 0 := by
  unfold fabEnable
  simp only [hon, Bool.false_and, Bool.not_false, Bool.and_self, Bool.false_eq_true, if_false, if_true]

/-- A HELLO shows the neighbour's UID (`u`), then its FID, port and claim (`v`); a device that is not root does no more. -/
theorem helloIn_of_not_root {f : Hello} {u v : State}
    (hu : u = (s.wr (Reg.FAB_P_NEIGH_LO p) (BitVec.ofNat 32 f.uid.toNat)).wr (Reg.FAB_P_NEIGH_HI p) (BitVec.ofNat 32 (f.uid.toNat / 2 ^ 32)))
    (hv : v = updateClaim (modFabPort p
      (fun x => { x with adv := if f.dist == 0xFF then none else some (f.rootUid.toNat, f.dist.toNat), advId := f.fid.toNat })
      ((u.wf (Reg.FAB_P_STATUS p) 4 12 (if f.assigned then f.fid.toNat else 0)).wf (Reg.FAB_P_STATUS p) 16 2 f.port.val)))
    (hroot : isRoot v = false) : helloIn p f s = v := by
  subst hv hu
  exact if_neg (by simp only [hroot, Bool.false_and, Bool.false_eq_true, not_false_eq_true])

theorem claimLapse_of_held {t : State} (hheld : (fabPort s p).adv.isSome = true)
    (ht : t = modFabPort p (fun f => { f with adv := none }) s) :
    claimLapse p s =
      if t.bit Reg.FAB_CTRL 0 && (fabState t == 1 || fabState t == 2) then fabDiscover t else updateClaim t := by
  unfold claimLapse
  rw [if_neg (by simpa [Option.isSome_iff_ne_none] using hheld), ← ht, fabLost]

theorem claimLapse_of_none (hnone : (fabPort s p).adv = none) : claimLapse p s = s := if_pos (by simp [hnone])

/-- The root takes its FID (`t`) and begins its topology with itself. -/
theorem becomeRoot_of_elected {f : Nat} {t : State} (hon : s.bit Reg.FAB_CTRL 0 = true) (hclaim : s.fab.claim = 1)
    (hstate : fabState s = 1) (hf : f = if prefId s == 0 then 1 else prefId s)
    (ht : t = setFabState 2 ((setFid f s).wb Reg.FAB_STATUS 3 true)) :
    becomeRoot s =
      (let u : State := { t with fab := { t.fab with pref := f, rootFid := f } }
      rootNext { u with fab := { u.fab with topo := [ownTopo u], leftOut := [], asg := none } }) := by
  subst ht hf
  exact if_pos (by simp [hon, hclaim, hstate])

/-! ### Assignment (R258) -/

/-- A device takes its FID and tree port (`v`), its root (`w`) and its state (`x`), and answers on the path back. -/
theorem assignTake_of_own {h : FabHdr} {d : DiscPath} {uid fid q : Nat} {v w x : State} (huid : uid = ownUid s)
    (hon : s.bit Reg.FAB_CTRL 0 = true) (hv : v = setTree (Nat.lor (treeMask s) (2 ^ q)) (some q) (setFid fid s))
    (hw : w = { v with fab := { v.fab with pref := fid, rootFid := h.src.toNat, rootPath := backPath p d } })
    (hx : x = if fabState w == 4 then w else setFabState 2 w) :
    assignTake p h d uid fid q s =
      srcSend (backPath p d) (fabPkt x 4 1 h.src.toNat 4 (discPrefix 3 (backPath p d) ++ leBytes 8 uid ++ leBytes 2 fid ++
        (ownTopo x).neigh.flatMap fun e => leBytes 8 e.1 ++ leBytes 1 e.2)) x := by
  subst hx hw hv
  exact if_neg (by simp [huid, hon])

theorem ackTake_of_assigned {uid : Nat} {n : List (Nat × Nat)} {a : Asg} (hroot : isRoot s = true) (hasg : s.fab.asg = some a)
    (huid : a.uid = uid) :
    ackTake uid n s = rootNext { s with fab := { s.fab with
      asg := none
      known := s.fab.known.filter (·.1 != uid) ++ [(uid, a.fid)]
      topo := s.fab.topo ++ [{ uid := uid, fid := a.fid, path := a.path, parent := a.parent, neigh := n.take 4 }] } } := by
  unfold ackTake
  rw [if_neg (by simp [hroot]), hasg]
  exact if_pos (by simp [huid])

theorem assignTimeout_eq {a : Asg} (hasg : s.fab.asg = some a) :
    assignTimeout s =
      if a.tries < 3 then asgSend a { s with fab := { s.fab with asg := some { a with tries := a.tries + 1 } } }
      else rootNext ({ s with fab := { s.fab with asg := none, leftOut := s.fab.leftOut ++ [a.uid] } }.event 0x00B1 12 2 clsDevice 0
        (det 8 a.uid)) := by
  unfold assignTimeout
  rw [hasg]

/-! ### Routes (R260, R261) -/

theorem routeTake_of_whole {h : FabHdr} {d : DiscPath} {id : Nat} {im : List Byte} {u : State} (hlen : im.length = 2180)
    (hu : u = stageImage id im { s with fab := { s.fab with rootFid := h.src.toNat } }) :
    routeTake p h d id im s =
      toRoot (backPath p d) 6 (leBytes 4 id ++ leBytes 1 0) (if fabState u == 4 then u else setFabState 3 u) := by
  subst hu
  exact if_pos (by simp [hlen])

theorem commitTake_eq (id at' : Nat) (s : State) :
    commitTake id at' s =
      if s.fab.staged = some id then { s with fab := { s.fab with commitAt := some at' } }
      else toRoot s.fab.rootPath 6 (leBytes 4 id ++ leBytes 1 1) s := by
  unfold commitTake
  simp only [beq_iff_eq]

/-- At its instant (`t`) the switch takes the idle bank `b` and its tree (`u`), and the commit is done with (`v`). -/
theorem bankSwitch_of_staged {x st b w : Nat} {t u v : State} (hat : s.fab.commitAt = some x) (hstaged : s.fab.staged = some st)
    (ht : t = s.advanceTo (ns16 x)) (hb : b = 1 - t.fd Reg.FAB_RT_BANK 0 1) (hw : w = t.le (routeBase b + 2176) 4)
    (hu : u = setTree (w % 16) (if w.testBit 6 then none else some (w / 16 % 4)) ((t.wf Reg.FAB_RT_BANK 0 1 b).count Reg.FAB_CNT_ROUTE_COMMIT))
    (hv : v = setFabState 4 { u with fab := { u.fab with commitAt := none, staged := none } }) :
    bankSwitch s = completeOps 0x0C03 (fun _ => true) St.ok [] v := by
  subst hv hu hw hb ht
  unfold bankSwitch
  rw [hat, hstaged]

theorem bankSwitch_of_nothing (h : s.fab.commitAt = none ∨ s.fab.staged = none) : bankSwitch s = s := by
  unfold bankSwitch
  rcases h with h | h
  · rw [h]
  · rw [h]
    cases s.fab.commitAt <;> rfl

theorem routeAgain_of_bad_image {src : Nat} {e : TopoDev} (hfind : s.fab.topo.find? (·.fid == src) = some e) (hroot : isRoot s = true) :
    routeAgain src 1 s = commitSend e.fid s.fab.imageId (routeTo s.fab.imageId e s) := by
  unfold routeAgain
  rw [hfind]
  exact if_pos (by simp [hroot])

theorem rootLink_of_root {uid q nb : Nat} {b : Bool} (hroot : isRoot s = true) :
    rootLink uid q b nb s = rootNext { s with fab := { s.fab with
      topo := retree (topoLink s.fab.topo uid q b nb), leftOut := s.fab.leftOut.filter (· != nb) } } :=
  if_pos hroot

/-! ### Mailbox messages (R268) -/

/-- A response goes to the record of its request; any other message waits for MB5 with the credits of its packet. -/
theorem controlIn_rxPkt {h : FabHdr} {d : List Byte} :
    controlIn (rxPkt p 2 h d) s =
      if (d.getD 2 0).getLsbD 0 then forwarded (rxPkt p 2 h d).src d (fabFree (rxPkt p 2 h d) s)
      else mbArrive ⟨5, (rxPkt p 2 h d).src, d, some (p, (rxPkt p 2 h d).vc, fabCost d.length)⟩ s := rfl

/-! ### Flow control, delay and losses (R252, R255, R265, R267, R274) -/

theorem flow_of_active {init : Bool} {c : List Nat} {l : List (Nat × Nat)} (ha : fabActive s p = true)
    (hl : l = (List.range 4).foldl (fun x v => setCnt x v (c.getD v 0)) []) :
    flow p init c s = fabDrain p (modFabPort p (fun f => if init then { f with size := l } else { f with freed := l })
      (s.count (Reg.FAB_P_VC_CNT_RX p 0))) := by
  subst hl
  exact if_neg (by simp [ha])

theorem flowSend_of_active {k : FabPkt} (ha : fabActive s p = true)
    (hk : k = fabPkt s 5 0 0 0 ((List.range 4).flatMap fun v => leBytes 2 (cnt (fabPort s p).mine v))) :
    flowSend p s = fabDrain p
      (((fabSeqUsed 0 (modFabPort p (fun f => { f with since := 0 }) s)).count (Reg.FAB_P_VC_CNT_TX p 0)).emit (.fab p k.onWire)) := by
  unfold flowSend flowFreed flowOut
  rw [if_pos ha, List.flatMap_map, hk]
  rfl

theorem packetDelay_of_waiting {v : Nat} {k : FabPkt} (hfind : ((fabPort s p).q.find? fun k => k.vc == v && !k.late) = some k) :
    packetDelay p v s = modFabPort p (fun f => { f with q := f.q.map fun x => if x == k then { x with late := true } else x })
      (s.count (Reg.FAB_P_VC_CNT_DELAY p v)) := by
  unfold packetDelay
  rw [hfind]

theorem subLoss_of_on {n : Nat} (h : s.bit (Reg.FAB_SUB_CFG n) 0 = true) : subLoss n s = subSignal n true s := if_pos h

/-- A bad packet is counted; unless it is FLOW it gives back the credits of its bytes. -/
theorem badPacket_counted {l : List Byte} {b : Bool} (ha : fabActive s p = true) (hbad : fabBad l b = true) :
    badPacket p l b s =
      if leAt l 3 1 % 16 = 5 then s.count (Reg.FAB_P_CNT_CRC p)
      else fabCredit p (leAt l 3 1 / 16 % 4) (fabCost (l.length - 20)) (s.count (Reg.FAB_P_CNT_CRC p)) := by
  unfold badPacket
  rw [if_neg (by simp [ha, hbad])]
  simp only [beq_iff_eq]

theorem deskewError_fabric {n : Nat} (h : s.bit (Reg.FAB_P_STATUS n) 0 = true) : deskewError true n s = leaveActive (4 + n) s :=
  (if_pos rfl).trans <| if_pos h

theorem deskewError_stream {n : Nat} (h : s.bit (Reg.SDS_STR_STATUS n) 0 = true) :
    deskewError false n s = (strAbandon n s).wb (Reg.SDS_STR_STATUS n) 4 true :=
  (if_neg Bool.false_ne_true).trans <| if_pos h

end

/-- Settles O54: each packet is counted and goes its way, and each clause is the case that its hypotheses select there. -/
theorem fabricPacketAndEventCommandsTakeEffect : Obligations.FabricPacketAndEventCommandsTakeEffect := by
  unfold Obligations.FabricPacketAndEventCommandsTakeEffect
  refine ⟨?enable, ?disable, ?strip, ?control, ?controlOwn, ?time, ?helloShown, ?hello, ?helloSend, ?helloSendOff, ?lapse, ?lapseNone, ?elected,
    ?noRoot, ?assign, ?assignOwn, ?ack, ?ackAssigned, ?resend, ?giveUp, ?route, ?routeWhole, ?commit, ?commitOwn, ?switch, ?switchNothing,
    ?routeAck, ?routeAckBad, ?link, ?linkRoot, ?ways, ?flow, ?flowInit, ?flowSend, ?delay, ?subLoss, ?bad, ?deskewFabric, ?deskewStream⟩
  case enable =>
    intro z s hs hoff
    rw [exec_fabCtrlEn, ← hs, fabEnable_on_of_off hoff]
  case disable =>
    intro z s hs hon
    rw [exec_fabCtrlEn, ← hs, fabEnable_off_of_on hon]
  case strip =>
    intro p h d z s hs k t hk ha hvc hl ht
    rw [exec_pixelStrip, ← hs, pixelStrip_counted ha hl ht hk hvc]
  case control =>
    intro p h d z s hs k t hk ha hvc hl ht
    rw [exec_control, ← hs, control_counted ha hl ht hk hvc]
  case controlOwn =>
    intro p h d z s hs k t u hk ha hvc hl ht hm hd hown hu
    rw [exec_control, ← hs, control_counted ha hl ht hk hvc, fabRoute_own (.inr rfl) hm hd hown, ← hu, if_neg hd, hk, controlIn_rxPkt]
  case time =>
    intro p h ps d s k t hk ha hvc hl ht
    rw [exec_time, timePacket_counted ha hl ht hk hvc]
  case helloShown =>
    intro p f s b k t u v hb hk ha hvc hl ht hon hu hv hroot
    subst hb
    rw [exec_hello, hello_counted ha hl rfl hvc hk, if_pos hon, ← ht, helloIn_of_not_root hu hv hroot]
  case hello =>
    intro p f s k t hk ha hvc hl ht
    rw [exec_hello, hello_counted ha hl rfl hvc hk, ht]
  case helloSend =>
    intro s hon
    rw [exec_helloSend, if_pos hon]
  case helloSendOff =>
    intro s hoff
    rw [exec_helloSend, if_neg (ne_true_of_eq_false hoff)]
  case lapse =>
    intro p s t hheld ht
    rw [exec_claimLapse, claimLapse_of_held hheld ht]
  case lapseNone =>
    intro p s hnone
    rw [exec_claimLapse, claimLapse_of_none hnone]
  case elected =>
    intro s f t hon hclaim hstate hf ht
    rw [exec_rootElected, becomeRoot_of_elected hon hclaim hstate hf ht]
  case noRoot =>
    intro s hon hstate hclaim
    rw [exec_noRoot, if_pos (by simp [hon, hstate, hclaim])]
  case assign =>
    intro p h d uid fid q s k t hk ha hvc hl ht
    rw [exec_assign, assign_counted ha hl ht hvc hk]
  case assignOwn =>
    intro p h d uid fid q s k t u v w x hk ha hvc hl ht hsrc hend hu huid hon hv hw hx
    rw [exec_assign, assign_counted ha hl ht hvc hk, if_neg (by simp [hend]), fabRoute_pathEnd hsrc hend, ← hu,
      assignTake_of_own huid hon hv hw hx]
  case ack =>
    intro p h d uid fid l s n k t hn hk ha hvc hl ht
    rw [exec_assignAck, ← hn, assignAck_counted ha hl ht hvc hk]
  case ackAssigned =>
    intro p h d uid fid l s n k t a hn hk ha hvc hl ht hsrc hend hroot hasg huid
    rw [exec_assignAck, ← hn, assignAck_counted ha hl rfl hvc hk, fabRoute_pathEnd hsrc hend, ← ht, ackTake_of_assigned hroot hasg huid]
  case resend =>
    intro s a hasg hfew
    rw [exec_assignTimeout, assignTimeout_eq hasg, if_pos hfew]
  case giveUp =>
    intro s a hasg hspent
    rw [exec_assignTimeout, assignTimeout_eq hasg, if_neg (Nat.not_lt.mpr hspent)]
  case route =>
    intro p h d id im s k t hk ha hvc hl ht
    rw [exec_route, route_counted ha hl ht hvc hk]
  case routeWhole =>
    intro p h d id im s k t u hk ha hvc hl ht hsrc hend hlen hu
    rw [exec_route, route_counted ha hl ht hvc hk, fabRoute_pathEnd hsrc hend, routeTake_of_whole hlen hu]
  case commit =>
    intro p h id at' s k t hk ha hvc hl ht
    rw [exec_routeCommit, routeCommit_counted ha hl ht hvc hk]
  case commitOwn =>
    intro p h id at' s k t u hk ha hvc hl ht hm hd hown hu
    rw [exec_routeCommit, routeCommit_counted ha hl ht hvc hk, fabRoute_own (.inr rfl) hm hd hown, if_pos (bne_iff_ne.mpr hd), ← hu,
      commitTake_eq]
  case switch =>
    intro s x st b w t u v hat hstaged ht hb hw hu hv
    rw [exec_routeBankSwitch, bankSwitch_of_staged hat hstaged ht hb hw hu hv]
  case switchNothing =>
    intro s h
    rw [exec_routeBankSwitch, bankSwitch_of_nothing h]
  case routeAck =>
    intro p h d id st s k t hk ha hvc hl ht
    rw [exec_routeAck, routeAck_counted ha hl ht hvc hk]
  case routeAckBad =>
    intro p h d id s k t u e hk ha hvc hl ht hsrc hend hu hfind hroot
    have hbyte : (1 : Byte).toNat = 1 := rfl
    rw [exec_routeAck, hbyte, routeAck_counted ha hl ht hvc hk, fabRoute_pathEnd hsrc hend, ← hu, routeAgain_of_bad_image hfind hroot]
  case link =>
    intro p g uid q b nb s k t hk ha hvc hl ht
    rw [exec_linkEvent, linkEvent_counted ha hl ht hvc hk]
  case linkRoot =>
    intro p g uid q b nb s k t u hk ha hvc hl ht hpath hm hd hown hu hroot
    rw [exec_linkEvent, linkEvent_counted ha hl ht hvc hk, fabRoute_own (.inl hpath) hm hd hown, ← hu, rootLink_of_root hroot]
  case ways =>
    intro p k d f s
    exact ⟨fabRoute_pathEnd, fabRoute_pathHop, fun o ho => ⟨fabRoute_multicast ho, fabRoute_broadcast ho, fabRoute_unicast ho⟩⟩
  case flow =>
    intro p a b c d s l ha hl
    rw [exec_flow, flow_of_active ha hl]
    rfl
  case flowInit =>
    intro p a b c d s l ha hl
    rw [exec_flow, flow_of_active ha hl]
    rfl
  case flowSend =>
    intro p s k ha hk
    rw [exec_flowSend, flowSend_of_active ha hk]
  case delay =>
    intro p v s k hfind
    rw [exec_fabPacketDelay, packetDelay_of_waiting hfind]
  case subLoss =>
    intro n s hon
    rw [exec_subLossTimeout, subLoss_of_on hon]
  case bad =>
    intro p l b s ha hbad
    rw [exec_fabricBadPacket, badPacket_counted ha hbad]
  case deskewFabric =>
    intro n s h
    rw [exec_laneDeskewError, deskewError_fabric h]
  case deskewStream =>
    intro n s h
    rw [exec_laneDeskewError, deskewError_stream h]

end Sys2Proof.Machine
end

section
/-! SUPPORT. Network time (R277 to R291): the total, PTP messages, the servo, time-triggered outputs and captures, case by case. -/
namespace Sys2Proof.Machine

/-! ### The total (R277, R278) -/

theorem seconds_of_now_lt {s : State} (h : s.now < timeWrap) : seconds s = s.now / 2 ^ 32 / 1000000000 := by
  unfold timeWrap at h
  unfold seconds
  omega

theorem nanos_lt (s : State) : nanos s < 1000000000 := Nat.mod_lt _ (by decide)

theorem toNat_wrapNs (s : State) : s.wrapNs.toNat = s.nowNs % 2 ^ 32 := BitVec.toNat_ofNat _ _

/-- Settles O34: below the wrap SECONDS and NANOSECONDS are the quotient and the remainder of the same whole nanoseconds. -/
theorem totalIsSecondsAndNanoseconds : Obligations.TotalIsSecondsAndNanoseconds := by
  unfold Obligations.TotalIsSecondsAndNanoseconds
  intro s h
  refine ⟨?_, nanos_lt s, toNat_wrapNs s⟩
  have hns : seconds s * 1000000000 + nanos s = s.now / 2 ^ 32 := by
    rw [seconds_of_now_lt h]
    exact Nat.div_add_mod' _ _
  rw [hns]
  rfl

/-! ### The commands and their meanings -/

theorem exec_ptpEventMessage (q : Fin 6) (ps : Nat) (msg : List Byte) (s : State) :
    exec (.ptpEventMessage q ps msg) s = .next (State.settle (ptpReceive q.val ps msg s)) := rfl
theorem exec_ptpMessageSend (q : Fin 6) (ps : Nat) (b : Bool) (msg : List Byte) (s : State) :
    exec (.ptpMessageSend q ps b msg) s = .next (State.settle (ptpSend q.val ps b msg s)) := rfl
theorem exec_servoOffset (w : Word) (s : State) : exec (.servoOffset w) s = .next (State.settle (servoOffset w s)) := rfl
theorem exec_servoHoldover (s : State) : exec .servoHoldover s = .next (State.settle (servoHoldover s)) := rfl
theorem exec_setCtrlLoad (z : State) : exec .setCtrlLoad z = .next (State.settle (timeLoad (rasterFirst z))) := rfl
theorem exec_setCtrlStep (z : State) : exec .setCtrlStep z = .next (State.settle (timeStep (rasterFirst z))) := rfl
theorem exec_timeNsRead (s : State) : exec .timeNsRead s = .next (State.settle (latchTime s)) := rfl
theorem exec_ttnCancel (n : Fin 4) (z : State) : exec (.ttnCancel n) z = .next (State.settle (ttCancel n.val (rasterFirst z))) := rfl
theorem exec_ttOccurrence (n : Fin 4) (s : State) : exec (.ttOccurrence n) s = .next (State.settle (ttOccur n.val s)) := rfl
theorem exec_ttPulseEnd (n : Fin 4) (s : State) : exec (.ttPulseEnd n) s = .next (State.settle (ttPulseEnd n.val s)) := rfl
theorem exec_captureEdge (n : Fin 4) (b : Bool) (x : Nat) (s : State) :
    exec (.captureEdge n b x) s = .next (State.settle (tcEdge n.val b x s)) := rfl
theorem exec_tcnPop (n : Fin 4) (z : State) : exec (.tcnPop n) z = .next (State.settle (tcPop n.val (rasterFirst z))) := rfl

/-! ### PTP messages received (R281, R284) -/

section
variable {q ps : Nat} {msg : List Byte} {s t : State}

theorem ptpReceive_of_down (hup : ptpUp s q = false) : ptpReceive q ps msg s = s := if_pos (by rw [hup]; rfl)

section
variable (hup : ptpUp s q = true)
include hup

theorem ptpReceive_of_bad (hbad : ptpGood s q msg = false) : ptpReceive q ps msg s = s.count (Reg.PTP_PORT_CNT_BAD q) :=
  (if_neg (by simp [hup])).trans <| if_pos (by simp [hbad])

variable (hgood : ptpGood s q msg = true) (ht : t = s.count (Reg.PTP_PORT_CNT_RX q))
include hgood ht

/-- An event message is counted (`t`), and taken with its ingress time `x` where the port takes timestamps. -/
theorem ptpReceive_of_event {x : Int} (htype : leAt msg 0 1 % 16 < 4) (hstamps : ptpStamps t q = true)
    (hx : x = psToNs t ((ps : Int) - (ptpConst (ptpRate t q)).2 - sext 32 (t.rd (Reg.PTP_PORT_IG_ADJ q)).toNat)) :
    ptpReceive q ps msg s = ptpTake q x msg (setRxTs q (leAt msg 0 1 % 16) x t.useFree) := by
  subst hx ht
  exact (if_neg (by simp [hup])).trans <| (if_neg (by simp [hgood])).trans <| if_pos (by simp [htype, hstamps])

theorem ptpReceive_of_general (htype : 4 ≤ leAt msg 0 1 % 16) : ptpReceive q ps msg s = ptpTake q 0 msg t := by
  subst ht
  have hnot : ¬ leAt msg 0 1 % 16 < 4 := Nat.not_lt.mpr htype
  exact (if_neg (by simp [hup])).trans <| (if_neg (by simp [hgood])).trans <| (if_neg (by simp [hnot])).trans <| if_neg hnot

end

/-! ### PTP messages sent (R282, R284, R285) -/

theorem ptpFollow_of_kept {ty : Nat} {v : Int} (hkept : txTs s q ty = some v) :
    ptpFollow q ty msg s = ptpEmit q (patch msg 34 (ptpStamp v)) s := by
  unfold ptpFollow
  rw [hkept]

/-- A one-step port puts the egress time into a Sync. -/
theorem ptpEvent_sync_of_oneStep {x : Int} (hone : twoStep s q = false) :
    ptpEvent q 0 x msg s = ptpEmit q (patch msg 34 (ptpStamp x)) (setTxTs q 0 (some x) s.useFree) := by
  have hone' : twoStep (setTxTs q 0 (some x) s.useFree) q = false := hone
  simp only [ptpEvent, hone', Bool.false_eq_true, if_false]

theorem ptpSend_of_silent {b : Bool} (h : ptpUp s q = false ∨ ptpSends s q (leAt msg 0 1 % 16) = false) :
    ptpSend q ps b msg s = s :=
  if_pos (by simpa using h)

section
variable {b : Bool} {ty : Nat} (hup : ptpUp s q = true) (htype : leAt msg 0 1 % 16 = ty) (hsends : ptpSends s q ty = true)
include hup htype hsends

theorem ptpSend_of_unstamped (hevent : ty < 4) (hmiss : (b && ptpStamps s q) = false) :
    ptpSend q ps b msg s = ptpEmit q (ptpHead s q msg) (setTxTs q ty none (s.count (Reg.PTP_PORT_CNT_TS_MISS q))) := by
  subst htype
  exact (if_neg (by simp [hup, hsends])).trans <| if_pos (by simp [hevent, hmiss])

/-- A message that follows another, a Sync (`of` 0) or a Pdelay_Resp (3), carries the time kept of it. -/
theorem ptpSend_of_followUp {of : Nat} (hty : ty = 8 ∧ of = 0 ∨ ty = 10 ∧ of = 3) :
    ptpSend q ps b msg s = ptpFollow q of (ptpHead s q msg) s := by
  have hgoes : ¬(!(ptpUp s q) || !(ptpSends s q ty)) = true := by simp [hup, hsends]
  unfold ptpSend
  rw [htype]
  obtain ⟨rfl, rfl⟩ | ⟨rfl, rfl⟩ := hty
  · exact (if_neg hgoes).trans <| if_neg (by simp)
  · exact (if_neg hgoes).trans <| if_neg (by simp)

/-- A Sync leaves with its egress time `x`. -/
theorem ptpSend_of_sync {x : Int} (hty : ty = 0) (hstamps : ptpStamps s q = true)
    (hx : x = psToNs s ((ps : Int) + (ptpConst (ptpRate s q)).1 + sext 32 (s.rd (Reg.PTP_PORT_EG_ADJ q)).toNat)) :
    ptpSend q ps true msg s = ptpEvent q 0 x (ptpHead s q msg) s := by
  subst hty hx
  unfold ptpSend
  rw [htype]
  exact (if_neg (by simp [hup, hsends])).trans <| if_neg (by simp [hstamps])

end
end

/-! ### The servo (R286, R287) -/

theorem servoOffset_of_off {w : Word} {s : State} (hoff : (s.count Reg.PTP_CNT_OFFSET).bit Reg.PTP_CTRL 0 = false) :
    servoOffset w s = s.count Reg.PTP_CNT_OFFSET :=
  if_pos (by simp [hoff])

/-- An offset `x` within both limits: integral `i` and adjustment `a` move by their terms, and no step is taken. -/
theorem servoOffset_of_unclamped {w : Word} {s t : State} {x i a : Int}
    (hx : x = ns16 (sext 32 w.toNat) + s.fd Reg.PTP_SERVO_OFFSET_FRAC 0 16)
    (hon : (s.count Reg.PTP_CNT_OFFSET).bit Reg.PTP_CTRL 0 = true)
    (ht : t = (s.count Reg.PTP_CNT_OFFSET).wr Reg.PTP_LAST_OFFSET w) (hstep : t.bit Reg.PTP_CTRL 1 = false)
    (hi : i = t.ptp.integ - servoTerm t x (t.fd Reg.PTP_SERVO_CFG 8 5)) (hi' : clampServo i = i)
    (ha : a = i - servoTerm t x (t.fd Reg.PTP_SERVO_CFG 0 5)) (ha' : clampServo a = a) :
    servoOffset w s = servoLock x (servoShow { t with ptp := { t.ptp with integ := i, adj := a } }) := by
  unfold servoOffset
  simp only [hon, ← hx, ← ht, hstep, ← hi, hi', ← ha, ha', when, bne_self_eq_false, Bool.not_true, Bool.false_and, Bool.false_eq_true,
    if_false]

theorem servoHoldover_of_steered {s : State} (hon : s.bit Reg.PTP_CTRL 0 = true)
    (hstate : s.fd Reg.PTP_STATUS 0 2 = 1 ∨ s.fd Reg.PTP_STATUS 0 2 = 2) :
    servoHoldover s =
      servoShow ({ setServo 3 s with ptp := { (setServo 3 s).ptp with adj := s.ptp.integ } }.count Reg.PTP_CNT_HOLDOVER) :=
  if_pos (by simpa [hon] using hstate)

/-! ### Time-triggered outputs (R289, R290) -/

section
variable {n : Nat} {s t : State}

/-- What ARM makes of an output: its new settings, beside the end of a pulse that is still out. -/
def ttArmed (s : State) (n p w start k : Nat) (per : Bool) (t : TtSt) : TtSt :=
  { start := start, period := if per = true then p else 0, width := w, periodic := per, pol := s.bit (Reg.PTP_TT_CFG n) 1, n := k,
    fall := t.fall, late := if (!per && decide (start < s.tickNs * 65536)) = true then some (s.tickNs + 1000) else none }

theorem ttArmed_oneShot {p w start : Nat} :
    ttArmed s n p w start 0 false = fun t =>
      { start := start, period := 0, width := w, periodic := false, pol := s.bit (Reg.PTP_TT_CFG n) 1, n := 0, fall := t.fall,
        late := if start < s.tickNs * 65536 then some (s.tickNs + 1000) else none } := by
  funext t
  simp [ttArmed]

theorem ttArmed_periodic {p w start k : Nat} : ttArmed s n p w start k true = periodicArmed s n p w start k := rfl

/-- ARM of an output of any kind whose settings pass. -/
theorem ttArm_of_valid {p w start k : Nat} {per : Bool} (hper : s.bit (Reg.PTP_TT_CFG n) 0 = per)
    (hp : p = (s.rd (Reg.PTP_TT_PERIOD n)).toNat * 65536 + s.fd (Reg.PTP_TT_PERIOD_FRAC n) 0 16) (hw : w = (s.rd (Reg.PTP_TT_WIDTH n)).toNat)
    (hstart : start = ((s.rd (Reg.PTP_TT_START_HI n)).toNat * 2 ^ 32 + (s.rd (Reg.PTP_TT_START_LO n)).toNat) * 65536)
    (hw20 : 20 ≤ w) (hfit : per = true → 40 * 65536 ≤ p ∧ (w + 20) * 65536 ≤ p)
    (hk : k = if (per && decide (start ≤ s.tickNs * 65536)) = true then (s.tickNs * 65536 - start) / p + 1 else 0) :
    ttArm n s = ttShow n ((setTtState n 1 (modTt n (ttArmed s n p w start k per) s)).wr (Reg.PTP_TT_SKIP n) (BitVec.ofNat 32 k)) := by
  have hvalid : ¬(decide (w < 20) || (per && (decide (p < 40 * 65536) || decide (p < (w + 20) * 65536)))) = true := by
    simp only [Bool.or_eq_true, Bool.and_eq_true, decide_eq_true_eq]
    rintro (hnarrow | ⟨hset, hshort⟩)
    · omega
    · obtain ⟨hp40, hfit⟩ := hfit hset
      omega
  unfold ttArm
  simp only [hper, ← hp, ← hw, ← hstart, ← hk]
  exact if_neg hvalid

theorem ttArm_of_narrow (h : (s.rd (Reg.PTP_TT_WIDTH n)).toNat < 20) : ttArm n s = setTtState n 4 s := if_pos (by simp [h])

theorem ttCancel_of_live (h : ttLive s n = true) : ttCancel n s = setTtState n 0 s := if_pos h

/-- What a pulse that rises at `r` leaves of its output: its end WIDTH later, and a periodic output on its way to the next. -/
def ttRisen (r : Int) (x : TtSt) : TtSt :=
  { x with fall := some (nearNs (r + x.width * 65536)), late := none, n := if x.periodic = true then x.n + 1 else x.n }

theorem ttOccur_of_asleep (h : 2 ≤ s.pwr.state) : ttOccur n s = s := if_pos (by simp [h])

section
variable {r : Int} (hlive : ttLive s n = true) (hawake : s.pwr.state < 2) (ht : t = ttEdge n true r (s.advanceTo r))
include hlive hawake ht

theorem ttOccur_of_late {k : Nat} (hper : (tt s n).periodic = false) (hlate : (tt s n).late = some k) (hr : r = ns16 k) :
    ttOccur n s = modTt n (ttRisen r) ((setTtState n 3 t).count Reg.RAS_CNT_TACT_LATE) := by
  subst ht hr
  unfold ttOccur
  rw [if_neg (by simp [hlive, hawake])]
  simp only [hlate, hper]
  rfl

theorem ttOccur_of_due (hlate : (tt s n).late = none) (hr : r = nearNs (ttNext (tt s n))) :
    ttOccur n s =
      if (tt s n).periodic = true then ttShow n (modTt n (ttRisen r) (setTtState n 5 t)) else modTt n (ttRisen r) (setTtState n 2 t) := by
  subst ht hr
  unfold ttOccur
  rw [if_neg (by simp [hlive, hawake])]
  simp only [hlate]
  cases (tt s n).periodic
  · rfl
  · rfl

end

theorem ttPulseEnd_of_pulse {r : Int} (h : (tt s n).fall = some r) :
    ttPulseEnd n s = modTt n (fun t => { t with fall := none }) (ttEdge n false r (s.advanceTo r)) := by
  unfold ttPulseEnd
  rw [h]

/-! ### Captures (R291)

In these lemmas `t` is the state in which the ball has its new level. -/

section
variable {b : Bool} {x : Nat} (ht : t = tcLevel n (!b) s)
include ht

theorem tcEdge_of_unwatched
    (h : t.bit (Reg.PTP_TC_CFG n) 0 = false ∨ (t.fd (Reg.PTP_TC_CFG n) 1 2).testBit (if b = true then 1 else 0) = false) :
    tcEdge n b x s = t := by
  subst ht
  exact if_pos (by simpa using h)

section
variable (hon : t.bit (Reg.PTP_TC_CFG n) 0 = true) (hedge : (t.fd (Reg.PTP_TC_CFG n) 1 2).testBit (if b = true then 1 else 0) = true)
include hon hedge

theorem tcEdge_of_room (hroom : (tcFifo t n).length < 16) : tcEdge n b x s = setTc n (tcFifo t n ++ [(x % 2 ^ 64, b)]) t := by
  subst ht
  exact (if_neg (by rw [hon, hedge]; decide)).trans <| if_neg (Nat.not_le.mpr hroom)

theorem tcEdge_of_full (hfull : 16 ≤ (tcFifo t n).length) : tcEdge n b x s = t.count (Reg.PTP_TC_CNT_OVF n) := by
  subst ht
  exact (if_neg (by rw [hon, hedge]; decide)).trans <| if_pos hfull

end
end
end

/-- Settles O55: each clause is the case of its command's function that its hypotheses select. -/
theorem precisionTimeCommandsTakeEffect : Obligations.PrecisionTimeCommandsTakeEffect := by
  unfold Obligations.PrecisionTimeCommandsTakeEffect
  refine ⟨?bad, ?event, ?general, ?down, ?unstamped, ?silent, ?followUp, ?respFollowUp, ?sync, ?servoOff, ?servo, ?holdover, ?load, ?step,
    ?latch, ?armOneShot, ?armNarrow, ?cancel, ?armPeriodic, ?oneShot, ?late, ?periodic, ?asleep, ?pulseEnd, ?captured, ?overflow, ?unwatched,
    ?pop⟩
  case bad =>
    intro q ps msg s hup hbad
    rw [exec_ptpEventMessage, ptpReceive_of_bad hup hbad]
  case event =>
    intro q ps msg s t x hup hgood ht htype hstamps hx
    rw [exec_ptpEventMessage, ptpReceive_of_event hup hgood ht htype hstamps hx]
  case general =>
    intro q ps msg s t hup hgood ht htype
    rw [exec_ptpEventMessage, ptpReceive_of_general hup hgood ht htype]
  case down =>
    intro q ps msg s hup
    rw [exec_ptpEventMessage, ptpReceive_of_down hup]
  case unstamped =>
    intro q ps b msg s hup hsends hevent hmiss
    rw [exec_ptpMessageSend, ptpSend_of_unstamped hup rfl hsends hevent hmiss]
  case silent =>
    intro q ps b msg s h
    rw [exec_ptpMessageSend, ptpSend_of_silent h]
  case followUp =>
    intro q ps b msg s v hup hsends htype hkept
    rw [exec_ptpMessageSend, ptpSend_of_followUp hup htype hsends (.inl ⟨rfl, rfl⟩), ptpFollow_of_kept hkept]
  case respFollowUp =>
    intro q ps b msg s v hup hsends htype hkept
    rw [exec_ptpMessageSend, ptpSend_of_followUp hup htype hsends (.inr ⟨rfl, rfl⟩), ptpFollow_of_kept hkept]
  case sync =>
    intro q ps msg s x hup hsends htype hstamps hone hx
    rw [exec_ptpMessageSend, ptpSend_of_sync hup htype hsends rfl hstamps hx, ptpEvent_sync_of_oneStep hone]
  case servoOff =>
    intro w s _ hoff
    rw [exec_servoOffset, servoOffset_of_off hoff]
  case servo =>
    intro w s x i a t hx hon ht hstep hi hi' ha ha'
    rw [exec_servoOffset, servoOffset_of_unclamped hx hon ht hstep hi hi' ha ha']
  case holdover =>
    intro s hon hstate
    rw [exec_servoHoldover, servoHoldover_of_steered hon hstate]
  case load =>
    intro z s hs
    rw [exec_setCtrlLoad, ← hs, timeLoad]
  case step =>
    intro z s hs
    rw [exec_setCtrlStep, ← hs, timeStep]
  case latch =>
    intro s
    rw [exec_timeNsRead, latchTime]
  case armOneShot =>
    intro n z s hs w x hper hw hw20 hx
    rw [exec_ttnArm, ← hs, ttArm_of_valid hper rfl hw hx hw20 (by simp) (k := 0) (by simp), ttArmed_oneShot]
  case armNarrow =>
    intro n z s hs h
    rw [exec_ttnArm, ← hs, ttArm_of_narrow h]
  case cancel =>
    intro n z s hs h
    rw [exec_ttnCancel, ← hs, ttCancel_of_live h]
  case armPeriodic =>
    intro n z s hs w p x k hper hw hp hw20 hp40 hfit hx hk
    rw [exec_ttnArm, ← hs, ttArm_of_valid hper hp hw hx hw20 (fun _ => ⟨hp40, hfit⟩) (by simpa using hk), ttArmed_periodic]
    rfl
  case oneShot =>
    intro n s r t hlive hawake hper hlate hr ht
    rw [exec_ttOccurrence, ttOccur_of_due hlive hawake ht hlate hr, if_neg (ne_true_of_eq_false hper)]
    rfl
  case late =>
    intro n s k t hlive hawake hper hlate ht
    rw [exec_ttOccurrence, ttOccur_of_late hlive hawake ht hper hlate rfl]
    rfl
  case periodic =>
    intro n s r t hlive hawake hper hlate hr ht
    rw [exec_ttOccurrence, ttOccur_of_due hlive hawake ht hlate hr, if_pos hper]
    rfl
  case asleep =>
    intro n s h
    rw [exec_ttOccurrence, ttOccur_of_asleep h]
  case pulseEnd =>
    intro n s r h
    rw [exec_ttPulseEnd, ttPulseEnd_of_pulse h, ttEdge]
  case captured =>
    intro n b x s t ht hon hedge hroom
    rw [exec_captureEdge, tcEdge_of_room ht hon hedge hroom]
  case overflow =>
    intro n b x s t ht hon hedge hfull
    rw [exec_captureEdge, tcEdge_of_full ht hon hedge hfull]
  case unwatched =>
    intro n b x s t ht h
    rw [exec_captureEdge, tcEdge_of_unwatched ht h]
  case pop =>
    intro n z s hs
    rw [exec_tcnPop, ← hs, tcPop]

end Sys2Proof.Machine
end

section
/-! SUPPORT. The state right after reset (R294, R378). -/
namespace Sys2Proof.Machine

theorem canonical_reset : State.reset.canonical = true := by decide

/-- Settles O3: reset lists nothing, and its queues are empty. -/
theorem resetIsCanonicalAndIdle : Obligations.ResetIsCanonicalAndIdle :=
  ⟨canonical_reset, rfl, rfl, rfl, rfl, rfl, rfl⟩

end Sys2Proof.Machine
end

section
/-! SUPPORT. The forms that hold of every command: the stores stay canonical, a mailbox command is the service of its code, and what the state of
the device refuses (R340, R378, R384, R399, R431). -/
namespace Sys2Proof.Machine

/-- Every step keeps the canonical form of the stores, whether a tick passes or a command runs. -/
theorem keeps_step {s t : State} (h : step s = .next t) (hc : s.canonical = true) : t.canonical = true := by
  cases hp : s.pending with
  | nil => exact (keeps_idleTick ((step_of_nil hp).symm.trans h)).canon hc
  | cons c rest => exact (keeps_exec c ((step_of_cons hp).symm.trans h)).canon hc

/-- Settles O6: each command and the tick keep the canonical forms, and a step is one of them. -/
theorem everyStepKeepsTheCanonicalForms : Obligations.EveryStepKeepsTheCanonicalForms := by
  unfold Obligations.EveryStepKeepsTheCanonicalForms
  exact fun _ _ hc h => keeps_step h hc

/-- Settles O10: the arm of `exec` for a mailbox command is the service of its code. -/
theorem eachMailboxCommandIsTheServiceOfItsCode : Obligations.EachMailboxCommandIsTheServiceOfItsCode := by
  unfold Obligations.EachMailboxCommandIsTheServiceOfItsCode
  intro m s
  and_intros <;> rfl

/-- Settles O5: the decoder of table words has no row to give. -/
theorem noWordSpellsACommand : Obligations.NoWordSpellsACommand := by
  unfold Obligations.NoWordSpellsACommand
  exact fun _ _ _ => ⟨rfl, rfl⟩

theorem stateRefuses_of_stopped {s : State} {r : Svc} (h : s.pwr.stopped = true) :
    stateRefuses s r = true ↔ r.rd = false ∧ (r.code ≠ 0x0102 ∨ needsDram r.code = true ∧ stage s < 8) := by
  cases hr : r.rd <;> simp [stateRefuses, h, hr]

theorem stateRefuses_of_running {s : State} {r : Svc} (h : s.pwr.stopped = false) :
    stateRefuses s r = true ↔ r.rd = false ∧ needsDram r.code = true ∧ stage s < 8 := by
  simp [stateRefuses, h, and_assoc]

/-- Settles O30: the two tests of `stateRefuses`, before and after a stop. -/
theorem afterAnOrderlyStopOnlyReadsAndResetAreServed : Obligations.AfterAnOrderlyStopOnlyReadsAndResetAreServed := by
  unfold Obligations.AfterAnOrderlyStopOnlyReadsAndResetAreServed
  exact fun _ _ => ⟨stateRefuses_of_stopped, stateRefuses_of_running⟩

end Sys2Proof.Machine
end

section
/-! SUPPORT. The registers at a cold reset (R318, R379): what each holds is the default of its index, since reset lists none. -/
namespace Sys2Proof.Machine

theorem rd_reset (a : Nat) : State.reset.rd a = regDefault a := rfl
theorem lrd_reset (a : Nat) : State.reset.lrd a = regDefault a := rfl

/-- Settles O4: each register holds the default of its row, or of the device table where an array differs. -/
theorem resetHoldsTheTabledValues : Obligations.ResetHoldsTheTabledValues := by
  unfold Obligations.ResetHoldsTheTabledValues
  simp only [rd_reset, lrd_reset, State.bit, State.fd]
  decide +kernel

end Sys2Proof.Machine
end

section
/-! SUPPORT. Mailboxes: the order of the checks on a dequeued message (R320, R324 to R327, R332, R333), levels (R332), timed requests (R329, R345),
and the answer NOSPACE (R344). -/
namespace Sys2Proof.Machine

/-! ### Dequeuing (R320, R324) -/

section
variable {run : Nat → Msg → State → State} {s : State} {e : Nat × Nat × Nat × Nat}

/-- The mailboxes are served: they do not pause, the start has come so far, and the device is not quiesced (R337, R429). -/
structure MbServes (s : State) : Prop where
  running : s.bit Reg.MBX_STATUS 0 = false
  started : 3 ≤ stage s
  awake : s.pwr.quiesced = false

/-- The state in which the message at the head of mailbox `n` has left its ring and is counted. -/
def dequeued (n : Nat) (m : Msg) (s : State) : State := (consume n (ringSize m.payload.length) s).count (Reg.MBX_MB_CNT_RX n)

/-- The next message is discarded incomplete, refused by its length or its CRC, or judged further, in this order. -/
theorem dequeue_next (hserves : MbServes s) (he : nextSample s = some e) :
    dequeue run s =
      if inComplete s e.2.1 = false then mbRefill e.2.1 (discardInbound e.2.1 e.2.2.2 s)
      else if mbLimit e.2.1 < (msgAtHead s e.2.1 e.2.2.2).payload.length then
        refuse { code := hdr s e.2.1 0 2, m := msgAtHead s e.2.1 e.2.2.2 } St.badLength (dequeued e.2.1 (msgAtHead s e.2.1 e.2.2.2) s)
      else if headCrcOk s e.2.1 (msgAtHead s e.2.1 e.2.2.2) = false then
        refuse { code := hdr s e.2.1 0 2, m := msgAtHead s e.2.1 e.2.2.2 } St.badCrc (dequeued e.2.1 (msgAtHead s e.2.1 e.2.2.2) s)
      else judge run (hdr s e.2.1 0 2) (msgAtHead s e.2.1 e.2.2.2) (dequeued e.2.1 (msgAtHead s e.2.1 e.2.2.2) s) := by
  obtain ⟨hrunning, hstarted, hawake⟩ := hserves
  unfold dequeue
  rw [if_neg (by simp [hrunning, hawake, hstarted])]
  simp only [he, Bool.not_eq_true', decide_eq_true_eq]
  rfl

/-- Without a protection of the mailbox, a message is judged by its ALIVE, its flags, and level and rules, in this order. -/
theorem judge_unprotected {code : Nat} {m : Msg} {t : State} (hchan : chanAt (aliveSeen m.mb.val m.client m.alive t) 2 5 m.mb.val = none) :
    judge run code m t =
      if lastAlive t m.mb.val m.client = some m.alive then refuse { code := code, m := m } St.badAlive t
      else if (m.flags.toNat / 16 != 0 || m.flags.getLsbD 0 || m.flags.getLsbD 1) = true then
        refuse { code := code, m := m } St.range (aliveSeen m.mb.val m.client m.alive t)
      else if denied (aliveSeen m.mb.val m.client m.alive t) code m = true then
        refuse { code := code, m := m } St.denied (aliveSeen m.mb.val m.client m.alive t)
      else run code m (aliveSeen m.mb.val m.client m.alive t) := by
  unfold judge
  simp only [hchan, beq_iff_eq]
  rfl

/-- A message that repeats the ALIVE of its client is refused before anything else of it is looked at. -/
theorem judge_repeated {code : Nat} {m : Msg} {t : State} (h : lastAlive t m.mb.val m.client = some m.alive) :
    judge run code m t = refuse { code := code, m := m } St.badAlive t := if_pos (beq_iff_eq.mpr h)

end

/-- Settles O12: the checks of `dequeue_next`, and then those of `judge_unprotected`. -/
theorem dequeueRefusesAtTheFirstFailingCheck : Obligations.DequeueRefusesAtTheFirstFailingCheck := by
  unfold Obligations.DequeueRefusesAtTheFirstFailingCheck
  rintro z s t u e m code hs rfl rfl hrunning hstarted hawake he ht rfl
  obtain rfl : t = dequeued e.2.1 (msgAtHead s e.2.1 e.2.2.2) s := ht
  rw [exec_messageDequeue, ← hs, dequeueOne, dequeue_next ⟨hrunning, hstarted, hawake⟩ he]
  refine ⟨fun hpart => ?incomplete, fun hwhole => ⟨fun hlong => ?long, fun hfits => ⟨fun hbad => ?crc, fun hgood =>
    ⟨fun halive => ?alive, fun halive hchan => ⟨fun hflags => ?flags, fun hflags hdenied => ?denied⟩⟩⟩⟩⟩
  case incomplete => rw [if_pos hpart]
  all_goals rw [if_neg (ne_false_of_eq_true hwhole)]
  case long => rw [if_pos hlong]
  all_goals rw [if_neg (by omega)]
  case crc => rw [if_pos hbad]
  all_goals rw [if_neg (ne_false_of_eq_true hgood)]
  case alive => rw [judge_repeated halive]
  all_goals rw [judge_unprotected hchan, if_neg halive]
  case flags => rw [if_pos hflags]
  case denied => rw [if_neg (ne_true_of_eq_false hflags), if_pos hdenied]

/-! ### Levels (R332) -/

theorem mbLevel_le (s : State) (n : Nat) : mbLevel s n ≤ 3 := by
  unfold mbLevel
  split
  · omega
  · exact Nat.le_of_lt_succ (Nat.mod_lt _ (by decide))

theorem svcRows_pl_le : ∀ r ∈ svcRows, r.pl ≤ 3 := by decide

theorem svcRow_pl_le {code : Nat} {r : Svc} (h : svcRow code = some r) : r.pl ≤ 3 := svcRows_pl_le r (List.mem_of_find?_eq_some h)

/-- The level denies a command, whatever the rules say. -/
theorem denied_of_level {s : State} {code : Nat} {m : Msg} {r : Svc} (hr : svcRow code = some r) (h : r.pl < mbLevel s m.mb.val) :
    denied s code m = true := by
  simp [denied, hr, h]

/-- Settles O13: a level too low is denied by check 5, which O12 brings to the answer. -/
theorem aCommandBelowItsLevelIsDenied : Obligations.ACommandBelowItsLevelIsDenied := by
  unfold Obligations.ACommandBelowItsLevelIsDenied
  refine ⟨mbLevel_le, fun _ _ => svcRow_pl_le, ?_⟩
  intro z s t u e m code hs hm hcode hrunning hstarted hawake he ht hu hwhole hfits hgood halive hchan hflags ⟨r, hr, hlevel⟩
  have hchecks := dequeueRefusesAtTheFirstFailingCheck z s t u e m code hs hm hcode hrunning hstarted hawake he ht hu
  exact (((((hchecks.2 hwhole).2 hfits).2 hgood).2 halive hchan).2 hflags) (denied_of_level hr hlevel)

/-! ### Timed requests (R329, R345) -/

/-- A timed request whose row takes one is accepted for its time where nothing stands against it. -/
theorem serve_timed {code : Nat} {body : Ctx → State → State} {m : Msg} {s : State} {r : Svc} (hr : svcRow code = some r)
    (htim : r.tim = true) (hfid : m.fid = 0) (hobj : targetOk r m = true) (htimed : m.flags.getLsbD 2 = true)
    (hstate : stateRefuses s r = false) (hfree : (r.rd || !(isBusy s code m)) = true) :
    serve code body m s = acceptTimed body { code := code, m := m, light := r.light } s := by
  have hidle : ¬ (!r.rd && isBusy s code m) = true := by
    rw [Bool.or_eq_true] at hfree
    rcases hfree with h | h <;> simp_all
  rw [serve_here hr hfid, if_neg (by simp [rowRefuses_eq_false hobj fun _ => htim]), if_neg (by simp [hstate]), if_neg hidle,
    if_pos htimed]

/-- Settles O14: the branches of `acceptTimed`, in their order. -/
theorem timedRequestsAreQueuedRunOrRefused : Obligations.TimedRequestsAreQueuedRunOrRefused := by
  unfold Obligations.TimedRequestsAreQueuedRunOrRefused
  rintro code body m s r c hr htim hfid hobj htimed hstate hfree rfl
  rw [serve_timed hr htim hfid hobj htimed hstate hfree]
  unfold acceptTimed
  refine ⟨fun hshort => ?short, fun hlong hfull => ?full, fun hlong hroom t ht => ?taken⟩
  case short => rw [if_pos hshort, refuse_light]
  case full =>
    rw [if_neg (by simpa using hlong), if_pos hfull]
    rfl
  case taken =>
    rw [if_neg (by simpa using hlong), if_neg (by omega)]
    subst ht
    refine ⟨fun hlate => ?late, fun hintime hwait => ?kept⟩
    case late => exact if_pos (decide_eq_true hlate)
    case kept => exact (if_neg (by simp only [decide_eq_true_eq, not_lt]; exact hintime)).trans <| if_neg (ne_true_of_eq_false hwait)

/-! ### NOSPACE (R344) -/

/-- The command part of an answer NOSPACE. -/
def noSpacePart (missing largest : Nat) (fragmented : Bool) (unit : Nat) : List Byte :=
  leBytes 4 missing ++ leBytes 4 largest ++ leBytes 1 ((if fragmented then 1 else 0) + 2 * unit) ++ leBytes 3 0

theorem statusPart_length (status : Nat) (late : Option Nat) : (statusPart status late).length = 8 := by simp [statusPart]

/-- A field of the command part stands 8 bytes further on in the response. -/
theorem leAt_statusPart {status i n : Nat} {late : Option Nat} {part : List Byte} :
    leAt (statusPart status late ++ part) (8 + i) n = leAt part i n := by
  rw [leAt_append_right (by simp [statusPart_length]), statusPart_length]
  congr 1
  omega

/-- Settles O15: each field of the part is read at its place. -/
theorem nospaceAnswersCarryTheirLayout : Obligations.NospaceAnswersCarryTheirLayout := by
  unfold Obligations.NospaceAnswersCarryTheirLayout
  intro c missing largest unit fragmented s hm hl hu
  have hflag : (if fragmented then 1 else 0) + 2 * unit < 256 := by
    cases fragmented <;> simp <;> omega
  refine ⟨noSpacePart missing largest fragmented unit, rfl, by simp [noSpacePart], ?_, ?_, ?_, ?_⟩
  · rw [leAt_statusPart (i := 0), noSpacePart, leAt_append_left (by simp), leAt_append_left (by simp), leAt_append_left (by simp),
      leAt_leBytes, Nat.mod_eq_of_lt (by norm_num; exact hm)]
  · rw [leAt_statusPart (i := 4), noSpacePart, leAt_append_left (by simp), leAt_append_left (by simp), leAt_append_right (by simp),
      leBytes_length, leAt_leBytes, Nat.mod_eq_of_lt (by norm_num; exact hl)]
  · rw [leAt_statusPart (i := 8), noSpacePart, leAt_append_left (by simp), leAt_append_right (by simp)]
    simp only [List.length_append, leBytes_length]
    rw [leAt_leBytes, Nat.mod_eq_of_lt (by simpa using hflag)]
  · rw [leAt_statusPart (i := 9), noSpacePart, leAt_append_right (by simp)]
    simp only [List.length_append, leBytes_length]
    rw [leAt_leBytes, Nat.zero_mod]

end Sys2Proof.Machine
end

section
/-! SUPPORT. Rings, events, counters, the access codes of registers and HINT_N (R7, R319, R335, R378, R383): what a read gives after a write. -/
namespace Sys2Proof.Machine

/-! ### Rings (R319) -/

/-- Of the bytes put into a ring one after the other, none lies at a place of the ring that they do not reach. -/
theorem byte_ringPut_unreached {l : List Byte} {base c a : Nat} {s : State} (h : s.canonical = true)
    (ha : ∀ i, i < l.length → a ≠ base + (c + i) % 4096) : (ringPut base c l s).byte a = s.byte a := by
  induction l generalizing c s with
  | nil => rfl
  | cons b r ih =>
    have hne : a ≠ base + c % 4096 := ha 0 (by simp)
    rw [ringPut, ih (canonical_putByte h) fun i hi => by rw [Nat.add_right_comm]; exact ha (i + 1) (by simpa using hi),
      byte_putByte_other h hne]

theorem ringGet_succ (s : State) (base c k : Nat) :
    ringGet s base c (k + 1) = s.byte (base + c % 4096) :: ringGet s base (c + 1) k := by
  simp only [ringGet, List.range_succ_eq_map, List.map_cons, List.map_map, Nat.add_zero]
  congr 1
  refine List.map_congr_left fun i _ => ?_
  simp only [Function.comp_apply, Nat.add_right_comm c 1 i, Nat.add_assoc c i 1]

theorem ringGet_ringPut {l : List Byte} {base c : Nat} {s : State} (h : s.canonical = true) (hl : l.length ≤ 4096) :
    ringGet (ringPut base c l s) base c l.length = l := by
  induction l generalizing c s with
  | nil => rfl
  | cons b r ih =>
    have hr : r.length + 1 ≤ 4096 := hl
    have hfirst : (ringPut base (c + 1) r (s.putByte (base + c % 4096) b)).byte (base + c % 4096) = b := by
      rw [byte_ringPut_unreached (canonical_putByte h) fun i hi => by omega, byte_putByte_same h]
    rw [List.length_cons, ringPut, ringGet_succ, hfirst, ih (canonical_putByte h) (by omega)]

/-- Settles O24: read back by induction over the bytes, each of which the later ones leave alone. -/
theorem aRingGivesBackWhatWasPut : Obligations.ARingGivesBackWhatWasPut := by
  unfold Obligations.ARingGivesBackWhatWasPut
  exact fun _ _ _ _ h hl => ⟨ringGet_ringPut h hl, fun _ ha => byte_ringPut_other h ha⟩

/-! ### Events (R335) -/

/-- The record of an event raised in `s`. -/
def eventRec (s : State) (code cls sev ocls idx : Nat) (detail : List Nat) : EvRec :=
  { seq := s.mbx.evseq, wrap := s.tickWrap, code := code, cls := cls, sev := sev, frame := s.ras.frame, obj := s.objWord ocls idx
    detail := (detail ++ List.replicate 12 0).take 12 |>.map (BitVec.ofNat 8) }

theorem eventRec_bytes_length (s : State) (code cls sev ocls idx : Nat) (detail : List Nat) :
    (eventRec s code cls sev ocls idx detail).bytes.length = 32 := by
  simp [EvRec.bytes, eventRec]

/-- The log after a record: the oldest go when it is full. -/
theorem event_log (s : State) (code cls sev ocls idx : Nat) (detail : List Nat) :
    (s.event code cls sev ocls idx detail).mbx.log =
      (s.mbx.log ++ [eventRec s code cls sev ocls idx detail]).drop (s.mbx.log.length + 1 - 524288) := by
  simp only [State.event, eventRec, List.length_append, List.length_singleton]

/-- Settles O32: the record is `eventRec`, the last of a log that keeps its 524,288 newest. -/
theorem eventsAreNumberedLoggedAndKept : Obligations.EventsAreNumberedLoggedAndKept := by
  unfold Obligations.EventsAreNumberedLoggedAndKept
  intro s code cls sev ocls idx detail
  refine ⟨eventRec s code cls sev ocls idx detail, rfl, rfl, rfl, rfl, rfl, rfl, rfl, eventRec_bytes_length s code cls sev ocls idx detail,
    ?last, ?bound, ?frame⟩
  case last =>
    rw [event_log, List.drop_append_of_le_length (by omega), List.getLast?_append]
    rfl
  case bound =>
    rw [event_log]
    simp only [List.length_drop, List.length_append, List.length_singleton]
    omega
  case frame => simp only [State.event, eventRec]

/-! ### Counters (R378) -/

theorem rd_countBy_same {s : State} {a k : Nat} (h : s.canonical = true) :
    ((s.countBy a k).rd a).toNat = min ((s.rd a).toNat + k) 0xFFFFFFFF := by
  rw [State.countBy, rd_wr_same h, BitVec.toNat_ofNat, Nat.mod_eq_of_lt (by omega)]

/-- Settles O25: a counter is written with the least of its sum and the largest word. -/
theorem countersHoldAtTheirLargestValue : Obligations.CountersHoldAtTheirLargestValue := by
  unfold Obligations.CountersHoldAtTheirLargestValue
  intro s a k h
  have hword := (s.rd a).isLt
  refine ⟨rd_countBy_same h, ?_, fun b hb => rd_wr_other h hb⟩
  rw [State.count, rd_countBy_same h]
  omega

/-! ### Access codes (R7, R378, R385) -/

theorem rd_swWrite_same {s : State} {a : Nat} {w : Word} {r : RegRow} (h : s.canonical = true) (hr : regRow a = some r) :
    (s.swWrite a w).rd a = storedWord r (s.rd a) w := by
  rw [State.swWrite, hr]
  exact rd_wr_same h

theorem swWrite_of_no_row {s : State} {a : Nat} {w : Word} (h : regRow a = none) : s.swWrite a w = s := by
  rw [State.swWrite, h]

theorem rd_swWrite_other {s : State} {a b : Nat} {w : Word} (h : s.canonical = true) (hb : b ≠ a) : (s.swWrite a w).rd b = s.rd b := by
  cases hr : regRow a with
  | none => rw [swWrite_of_no_row hr]
  | some r =>
    rw [State.swWrite, hr]
    exact rd_wr_other h hb

/-- Each bit of a merged word is the written one where the mask has it, and the old one elsewhere. -/
theorem getLsbD_mergeBits {mask i : Nat} {old w : Word} (hi : i < 32) :
    (mergeBits mask old w).getLsbD i = if mask.testBit i then w.getLsbD i else old.getLsbD i := by
  simp only [mergeBits, BitVec.getLsbD_or, BitVec.getLsbD_and, BitVec.getLsbD_not, BitVec.getLsbD_ofNat, hi, decide_true, Bool.true_and]
  cases mask.testBit i <;> simp

theorem storedWord_of_readOnly {r : RegRow} {old w : Word} (h : r.access = .ro ∨ r.access = .rol ∨ r.access = .wo) :
    storedWord r old w = old := by
  rcases h with h | h | h <;> simp only [storedWord, h]

theorem storedWord_of_cnt {r : RegRow} {old w : Word} (h : r.access = .cnt) : storedWord r old w = 0 := by
  simp only [storedWord, h]

theorem storedWord_of_ordinary {r : RegRow} {old w : Word} (h : r.access = .rw ∨ r.access = .rws) (hrules : r.rules = []) :
    storedWord r old w = mergeBits r.wmask old w := by
  rcases h with h | h <;> simp only [storedWord, h, hrules, List.foldl_nil]

/-- Settles O26: a software write stores what the access code of the row makes of the word. -/
theorem aSoftwareWriteRespectsTheAccessCode : Obligations.ASoftwareWriteRespectsTheAccessCode := by
  unfold Obligations.ASoftwareWriteRespectsTheAccessCode
  intro s a w h
  refine ⟨fun b hb => rd_swWrite_other h hb, swWrite_of_no_row, fun r hr => ?_⟩
  rw [rd_swWrite_same h hr]
  refine ⟨storedWord_of_readOnly, storedWord_of_cnt, fun haccess hrules i hi => ?_⟩
  rw [storedWord_of_ordinary haccess hrules, getLsbD_mergeBits hi]

/-! ### HINT_N (R204, R383, R424) -/

theorem b2n_le (b : Bool) : b2n b ≤ 1 := by cases b <;> decide

theorem b2n_testBit_zero (b : Bool) : (b2n b).testBit 0 = b := by cases b <;> rfl

theorem faults_lt (s : State) : faults s < 2 ^ 12 := by
  unfold faults
  refine Nat.lt_succ_of_le (le_trans (b := 1 + 1 * 2 + 1 * 4 + 1 * 8 + 1 * 16 + 1 * 32 + 1 * 64 + 1 * 128 + 1 * 256 + 1 * 512 + 1 * 1024 +
    1 * 2048) ?_ (by decide))
  gcongr <;> exact b2n_le _

/-- A word of 12 bits with one bit above it at 16 and one at 17. -/
theorem testBit_cause {f : Nat} (hf : f < 2 ^ 12) (p q : Bool) (i : Nat) :
    (f + b2n p * 2 ^ 16 + b2n q * 2 ^ 17).testBit i =
      if i < 12 then f.testBit i else if i = 16 then p else if i = 17 then q else false := by
  have hshape : f + b2n p * 2 ^ 16 + b2n q * 2 ^ 17 = 2 ^ 16 * (2 ^ 1 * b2n q + b2n p) + f := by ring
  have hp : b2n p < 2 ^ 1 := Nat.lt_succ_of_le (b2n_le p)
  rw [hshape, Nat.testBit_two_pow_mul_add _ (by omega)]
  by_cases h16 : i < 16
  · rw [if_pos h16]
    by_cases h12 : i < 12
    · rw [if_pos h12]
    · rw [if_neg h12, if_neg (by omega), if_neg (by omega)]
      exact Nat.testBit_lt_two_pow (lt_of_lt_of_le hf (Nat.pow_le_pow_right (by decide) (by omega)))
  · rw [if_neg h16, if_neg (by omega), Nat.testBit_two_pow_mul_add _ hp]
    obtain rfl | rfl | h18 : i = 16 ∨ i = 17 ∨ 18 ≤ i := by omega
    · exact b2n_testBit_zero p
    · exact b2n_testBit_zero q
    · rw [if_neg (by omega), if_neg (by omega), if_neg (by omega)]
      exact Nat.testBit_lt_two_pow (lt_of_le_of_lt (b2n_le q) (Nat.one_lt_two_pow (by omega)))

theorem getLsbD_hintCause (s : State) (i : Nat) :
    (hintCause s).getLsbD i =
      if i < 12 then (faults s).testBit i else if i = 16 then outPending s 0 else if i = 17 then outPending s 1 else false := by
  rw [hintCause, BitVec.getLsbD_ofNat, testBit_cause (faults_lt s)]
  split_ifs <;> simp <;> omega

/-- With no levels held, HINT_N follows its causes. -/
theorem hintN_eq_false {s : State} (h : s.pins.held = none) :
    (ballLevels s).hintN = false ↔ hintCause s &&& s.rd Reg.TOP_HINT_EN ≠ 0 := by
  simp [ballLevels, h, levels, hintOn]

/-- Settles O28: the cause is a sum of bits that do not meet. -/
theorem hintFollowsItsCauses : Obligations.HintFollowsItsCauses := by
  unfold Obligations.HintFollowsItsCauses
  refine fun s => ⟨hintN_eq_false, fun l hl => ?_, faults_lt s, fun i => ?_⟩
  · simp [ballLevels, hl]
  · rw [getLsbD_hintCause]
    simp only [outPending, bne, beq_eq_decide, decide_not, ne_eq]

end Sys2Proof.Machine
end

section
/-! SUPPORT. Commands that only read, and register sets (R342, R346, R455): what the body of a service comes to when the checks of its row pass. -/
namespace Sys2Proof.Machine

section
variable {c : Ctx} {s : State}

/-! ### Commands that only read (R346) -/

theorem bodyCorrRead_of_records (hlen : 8 ≤ c.m.payload.length) (hcopy : arg c 0 1 ≤ 1) (htable : arg c 1 1 ≤ 2) (hlo : 1 ≤ arg c 6 2)
    (hhi : arg c 6 2 ≤ 1016) (hend : arg c 4 2 + arg c 6 2 ≤ 4096) :
    bodyCorrRead c s =
      readBack c (s.bytes (recordsAt s (arg c 1 1) (arg c 0 1) c.m.index.toNat + 4 * arg c 4 2) (4 * arg c 6 2)) s :=
  (need_enough hlen).trans <| if_neg (by simp only [Bool.or_eq_true, decide_eq_true_eq, beq_iff_eq]; omega)

theorem bodyHealthGet_of_segment (h : c.m.index ≠ 0xFFFF) :
    bodyHealthGet c s = readBack c (regWords s [Reg.HLT_SEG_COUNT c.m.index.toNat] ++ leBytes 4 (healthBits s c.m.index.toNat)) s :=
  if_neg (mt beq_iff_eq.mp h)

theorem bodyHealthGet_of_all (h : c.m.index = 0xFFFF) :
    bodyHealthGet c s = readBack c (regWords s [Reg.HLT_TOTAL_OPEN, Reg.HLT_TOTAL_SHORT, Reg.HLT_TOTAL_WEAK, Reg.HLT_FAULTS]) s :=
  if_pos (beq_iff_eq.mpr h)

theorem bodyMapRead_of_range (hlen : 6 ≤ c.m.payload.length) (hlo : 1 ≤ arg c 4 2) (hhi : arg c 4 2 ≤ 4064)
    (hend : arg c 0 4 + arg c 4 2 ≤ mapBytes) :
    bodyMapRead c s = readBack c ((List.range (arg c 4 2)).map fun i => mapByte s (arg c 0 4 + i)) s :=
  (need_enough hlen).trans <| if_neg (by simp only [Bool.or_eq_true, decide_eq_true_eq, beq_iff_eq]; omega)

theorem bodyFabGet_of_device (h : c.m.cls = 0) :
    bodyFabGet c s = readBack c (regWords s (Reg.FAB_STATUS :: regSpan Reg.FAB_CNT_DISCOVERY Reg.FAB_CNT_SEND_CUT)) s :=
  if_pos (beq_iff_eq.mpr h)

theorem bodyFabGet_of_port (h : c.m.cls ≠ 0) :
    bodyFabGet c s = readBack c ((objects c).flatMap fun p => regWords s
      ([Reg.FAB_P_STATUS p, Reg.FAB_P_NEIGH_LO p, Reg.FAB_P_NEIGH_HI p] ++ regSpan (Reg.FAB_P_CNT_CRC p) (Reg.FAB_P_CTRL p + 0x5C))) s :=
  if_neg (mt beq_iff_eq.mp h)

theorem bodyFabTopo_of_root (hlen : 4 ≤ c.m.payload.length) (hlo : 1 ≤ arg c 2 2) (hhi : arg c 2 2 ≤ 100) (hroot : isRoot s = true) :
    bodyFabTopo c s = readBack c ((((List.range 4095).filterMap fun f =>
      if arg c 0 2 ≤ f then s.fab.topo.find? (·.fid == f) else none).take (arg c 2 2)).flatMap (topoRecord s)) s :=
  (need_enough hlen).trans <| (if_neg (by simp only [Bool.or_eq_true, decide_eq_true_eq, beq_iff_eq]; omega)).trans <|
    if_neg (by simp [hroot])

theorem bodyLogRead_of_count (hlen : 5 ≤ c.m.payload.length) (hlo : 1 ≤ arg c 4 1) (hhi : arg c 4 1 ≤ 126) :
    bodyLogRead c s = readBack c (leBytes 4 ((s.mbx.log.head?.map (·.seq)).getD s.mbx.evseq) ++
      leBytes 4 ((s.mbx.evseq + 2 ^ 32 - 1) % 2 ^ 32) ++
      ((s.mbx.log.filter fun r => decide ((r.seq + 2 ^ 32 - arg c 0 4) % 2 ^ 32 < 2 ^ 31)).take (arg c 4 1)).flatMap EvRec.bytes) s := by
  unfold bodyLogRead
  rw [need_enough hlen]
  exact if_neg (by simp only [Bool.or_eq_true, decide_eq_true_eq, beq_iff_eq]; omega)

theorem bodyRegRead_of_allowed (hlen : 6 ≤ c.m.payload.length) (hlo : 1 ≤ arg c 4 2) (hhi : arg c 4 2 ≤ 1018)
    (hallowed : regDenied c s (arg c 0 4) (arg c 4 2) false = (0, [])) :
    bodyRegRead c s = readBack c ((List.range (arg c 4 2)).flatMap fun i => leBytes 4 (spaceRead s (arg c 0 4 + 4 * i)).toNat) s := by
  refine (need_enough hlen).trans <| (if_neg (by simp only [Bool.or_eq_true, decide_eq_true_eq, beq_iff_eq]; omega)).trans ?_
  simp only [hallowed]
  rfl

end

/-- Settles O36: each command is served, and its body answers with the part of its row. -/
theorem readCommandsAnswerAndChangeNothingElse : Obligations.ReadCommandsAnswerAndChangeNothingElse := by
  unfold Obligations.ReadCommandsAnswerAndChangeNothingElse
  refine ⟨?sysInfo, ?sysStatus, ?pwrGet, ?rasGet, ?layerGet, ?beamGet, ?laStatus, ?corrRead, ?healthSegment, ?healthAll, ?mapRead, ?supGet,
    ?polGet, ?snowGet, ?linkGet, ?fabDevice, ?fabPort, ?fabTopo, ?timeGet, ?sensorGet, ?crcGet, ?logRead, ?fwInfo, ?regRead⟩
  case sysInfo =>
    rintro m z s _ hs rfl h
    exact exec_of_service (body := bodySysInfo) rfl hs h rfl
  case sysStatus =>
    rintro m z s _ hs rfl h
    exact exec_of_service (body := bodySysStatus) rfl hs h rfl
  case pwrGet =>
    rintro m z s _ hs rfl h
    exact exec_of_service (body := bodyPwrGet) rfl hs h rfl
  case rasGet =>
    rintro m z s _ hs rfl h
    exact exec_of_service (body := bodyRasGet) rfl hs h rfl
  case layerGet =>
    rintro m z s _ hs rfl h
    exact exec_of_service (body := bodyLayerGet) rfl hs h rfl
  case beamGet =>
    rintro m z s _ hs rfl h
    exact exec_of_service (body := bodyBeamGet) rfl hs h rfl
  case laStatus =>
    rintro m z s _ hs rfl h
    exact exec_of_service (body := bodyLaStatus) rfl hs h rfl
  case corrRead =>
    rintro m z s _ hs rfl h hlen hcopy htable hlo hhi hend
    exact exec_of_service rfl hs h (bodyCorrRead_of_records hlen hcopy htable hlo hhi hend)
  case healthSegment =>
    rintro m z s _ hs rfl h hindex
    exact exec_of_service rfl hs h (bodyHealthGet_of_segment hindex)
  case healthAll =>
    rintro m z s _ hs rfl h hindex
    exact exec_of_service rfl hs h (bodyHealthGet_of_all hindex)
  case mapRead =>
    rintro m z s _ hs rfl h hlen hlo hhi hend
    exact exec_of_service rfl hs h (bodyMapRead_of_range hlen hlo hhi hend)
  case supGet =>
    rintro m z s _ hs rfl h
    exact exec_of_service (body := bodySupGet) rfl hs h rfl
  case polGet =>
    rintro m z s _ hs rfl h
    exact exec_of_service (body := bodyPolGet) rfl hs h rfl
  case snowGet =>
    rintro m z s _ hs rfl h
    exact exec_of_service (body := bodySnowGet) rfl hs h rfl
  case linkGet =>
    rintro m z s _ hs rfl h
    exact exec_of_service (body := bodyLinkGet) rfl hs h rfl
  case fabDevice =>
    rintro m z s _ hs rfl h hcls
    exact exec_of_service rfl hs h (bodyFabGet_of_device hcls)
  case fabPort =>
    rintro m z s _ hs rfl h hcls
    exact exec_of_service rfl hs h (bodyFabGet_of_port hcls)
  case fabTopo =>
    rintro m z s _ hs rfl h hlen hlo hhi hroot
    exact exec_of_service rfl hs h (bodyFabTopo_of_root hlen hlo hhi hroot)
  case timeGet =>
    rintro m z s _ hs rfl h
    exact exec_of_service (body := bodyTimeGet) rfl hs h rfl
  case sensorGet =>
    rintro m z s _ hs rfl h
    exact exec_of_service (body := bodySensorGet) rfl hs h rfl
  case crcGet =>
    rintro m z s _ hs rfl h
    exact exec_of_service (body := bodyCrcGet) rfl hs h rfl
  case logRead =>
    rintro m z s _ hs rfl h hlen hlo hhi
    exact exec_of_service rfl hs h (bodyLogRead_of_count hlen hlo hhi)
  case fwInfo =>
    rintro m z s _ hs rfl h
    exact exec_of_service (body := bodyFwInfo) rfl hs h rfl
  case regRead =>
    rintro m z s _ hs rfl h hlen hlo hhi hallowed
    exact exec_of_service rfl hs h (bodyRegRead_of_allowed hlen hlo hhi hallowed)

/-! ### Register sets (R342, R455) -/

section
variable {c : Ctx} {bases : List Nat} {accepts : Nat → Bool} {check : State → List (Nat × Word) → Nat} {commit : State → State} {s : State}
  (huntimed : c.timed = false) (hfits : setFits c bases accepts s = true) (hcheck : check s (setWords c bases) = St.ok)
include huntimed hfits hcheck

/-- A set without a commit is written and answered. -/
theorem regSet_written : regSet c bases accepts check none s = setAnswer c bases false (writeWords (setWords c bases) s) := by
  rw [regSet, regSetWith_fits huntimed hfits hcheck, Option.isSome_none, Bool.and_false]
  rfl

/-- A set with a commit is written, committed where its CTRL asks for that, and answered. -/
theorem regSet_committed :
    regSet c bases accepts check (some commit) s =
      setAnswer c bases (setCommits c) (when (setCommits c) commit (writeWords (setWords c bases) s)) := by
  rw [regSet, regSetWith_fits huntimed hfits hcheck, Option.isSome_some, Bool.and_true]
  rfl

end

/-- STREAM_CFG writes CTRL last, and its refusals say how much is missing. -/
theorem bodyStreamCfg_fits {c : Ctx} {s : State} (huntimed : c.timed = false)
    (hfits : setFits c [Reg.SDS_STR_CTRL c.m.index.toNat] (fun o => decide (o ≤ 0x10)) s = true)
    (hcheck : streamCheck c.m.index.toNat s (setWords c [Reg.SDS_STR_CTRL c.m.index.toNat]) = St.ok) :
    bodyStreamCfg c s = setAnswer c [Reg.SDS_STR_CTRL c.m.index.toNat] false
      (streamWrite c.m.index.toNat (setWords c [Reg.SDS_STR_CTRL c.m.index.toNat]) s) := by
  unfold bodyStreamCfg
  rw [regSetWith_fits huntimed hfits hcheck, Option.isSome_none, Bool.and_false]
  rfl

/-- CRC_CFG enables its channel after the other words. -/
theorem bodyCrcCfg_fits {c : Ctx} {n : Nat} {s : State} (hn : n = c.m.index.toNat) (huntimed : c.timed = false)
    (hfits : setFits c [Reg.CRC_CH_CTRL n] (fun o => decide (o ≤ 0x2C)) s = true)
    (hcheck : chCheck n s (setWords c [Reg.CRC_CH_CTRL n]) = St.ok) :
    bodyCrcCfg c s = setAnswer c [Reg.CRC_CH_CTRL n] false (when (chEnNext n (setWords c [Reg.CRC_CH_CTRL n]) s)
      (crcCtrl n (setFld ((chWritten n (setWords c [Reg.CRC_CH_CTRL n]) s).rd (Reg.CRC_CH_CTRL n)) 0 1 1))
      (chWritten n (setWords c [Reg.CRC_CH_CTRL n]) s)) := by
  subst hn
  unfold bodyCrcCfg
  rw [regSetWith_fits huntimed hfits hcheck, Option.isSome_none, Bool.and_false]
  rfl

/-- Settles O39: each command is served, and its body is a register set that fits. -/
theorem registerSetCommandsWriteTheirWords : Obligations.RegisterSetCommandsWriteTheirWords := by
  unfold Obligations.RegisterSetCommandsWriteTheirWords
  refine ⟨?rasSync, ?layerSet, ?canvasSet, ?beamCfg, ?corrCfg, ?segCfg, ?healthCfg, ?supCfg, ?polSet, ?streamCfg, ?netCfg, ?servoCfg,
    ?sensorCfg, ?crcCfg⟩
  case rasSync =>
    rintro m z s _ hs rfl h hfits
    exact exec_of_service (body := bodyRasSyncCfg) rfl hs h (regSet_written rfl hfits rfl)
  case layerSet =>
    rintro m z s _ hs rfl h hfits hcheck
    exact exec_of_service (body := bodyLayerSet) rfl hs h (regSet_committed rfl hfits hcheck)
  case canvasSet =>
    rintro m z s _ hs rfl h hfits
    exact exec_of_service (body := bodyCanvasSet) rfl hs h (regSet_committed rfl hfits rfl)
  case beamCfg =>
    rintro m z s _ hs rfl h hfits hcheck
    exact exec_of_service (body := bodyBeamCfg) rfl hs h (regSet_committed rfl hfits hcheck)
  case corrCfg =>
    rintro m z s _ hs rfl h hfits hcheck
    exact exec_of_service (body := bodyCorrCfg) rfl hs h (regSet_committed rfl hfits hcheck)
  case segCfg =>
    rintro m z s _ hs rfl h hfits
    exact exec_of_service (body := bodySegCfg) rfl hs h (regSet_written rfl hfits rfl)
  case healthCfg =>
    rintro m z s _ hs rfl h hfits hcheck
    exact exec_of_service (body := bodyHealthCfg) rfl hs h (regSet_written rfl hfits hcheck)
  case supCfg =>
    rintro m z s _ hs rfl h hfits hcheck
    exact exec_of_service (body := bodySupCfg) rfl hs h (regSet_written rfl hfits hcheck)
  case polSet =>
    rintro m z s _ hs rfl h hfits hcheck
    exact exec_of_service (body := bodyPolSet) rfl hs h (regSet_committed rfl hfits hcheck)
  case streamCfg =>
    rintro m z s _ hs rfl h hfits hcheck
    exact exec_of_service rfl hs h (bodyStreamCfg_fits rfl hfits hcheck)
  case netCfg =>
    rintro m z s _ hs rfl h hfits
    exact exec_of_service (body := bodyNetCfg) rfl hs h (regSet_written rfl hfits rfl)
  case servoCfg =>
    rintro m z s _ hs rfl h hfits
    exact exec_of_service (body := bodyServoCfg) rfl hs h (regSet_written rfl hfits rfl)
  case sensorCfg =>
    rintro m z s _ hs rfl h hfits
    exact exec_of_service (body := bodySensorCfg) rfl hs h (regSet_written rfl hfits rfl)
  case crcCfg =>
    rintro m z s _ hs rfl h hfits hcheck
    exact exec_of_service rfl hs h (bodyCrcCfg_fits rfl rfl hfits hcheck)

end Sys2Proof.Machine
end

section
/-! SUPPORT. Commands of classes SYS, PWR, RAS, FW and REG (R22, R43, R46, R326, R334, R336, R337, R347 to R349, R424): what the body of a service
comes to when the checks of its row pass. -/
namespace Sys2Proof.Machine

section
variable {c : Ctx} {s : State}

/-! ### SYS (R326, R334) -/

theorem bodySysReset_of_kind (hlen : 1 ≤ c.m.payload.length) (hkind : arg c 0 1 ≤ 1) :
    bodySysReset c s = followUp (arg c 0 1) (if c.m.mb == 5 then 5 else 4) (respondTo c St.ok [] s) :=
  (need_enough hlen).trans <| if_neg (by omega)

/-- The rules that SYS_PROTECT writes. -/
def rulesPut (c : Ctx) (s : State) : State :=
  forEach (protectRules c) (fun e t =>
    (t.swWrite (Reg.MBX_RULE_MATCH e.1) (BitVec.ofNat 32 (arg c e.2 4))).swWrite (Reg.MBX_RULE_INDEX e.1)
      (BitVec.ofNat 32 (arg c (e.2 + 4) 4))) s

/-- MB7 stays at PL0. -/
theorem bodySysProtect_of_levels (hlen : 8 + 8 * (protectRules c).length ≤ c.m.payload.length)
    (hfixed : ¬((arg c 2 1).testBit 7 = true ∧ arg c 4 2 / 4 ^ 7 % 4 ≠ 0)) :
    bodySysProtect c s = respondTo c St.ok [] (forEach ((List.range 8).filter fun n => (arg c 2 1).testBit n)
      (fun n t => t.wf (Reg.MBX_MB_CFG n) 0 2 (arg c 4 2 / 4 ^ n % 4)) (rulesPut c s)) :=
  (need_enough (by omega)).trans <| (need_enough hlen).trans <|
    if_neg (by simpa only [Bool.and_eq_true, bne_iff_ne] using hfixed)

/-- MB7 stays enabled. -/
theorem bodySysMbxCfg_of_enable (hlen : 8 ≤ c.m.payload.length) (hen : arg c 0 1 % 2 = 1 ∨ 7 ∉ objects c) :
    bodySysMbxCfg c s = respondTo c St.ok [] (forEach (objects c) (fun n t =>
      ((t.wf (Reg.MBX_MB_CFG n) 2 1 (arg c 0 1 % 2)).wf (Reg.MBX_MB_CFG n) 3 2 (arg c 0 1 / 2)).swWrite (Reg.MBX_MB_EVT_MASK n)
        (BitVec.ofNat 32 (arg c 4 4))) s) := by
  refine (need_enough hlen).trans <| if_neg ?_
  simp only [Bool.and_eq_true, beq_iff_eq, List.contains_iff_mem, not_and]
  intro h
  exact hen.resolve_left (by omega)

/-! ### PWR (R347, R424) -/

/-- Entry of a state below RUN, with the wake sources asked for, no timer among them. -/
def enterState (c : Ctx) (s : State) : State :=
  modPwr (fun p => { p with target := arg c 0 1, quiesced := true, wake := none })
    (pmuState 2 ((acceptOp c clsDevice 0 0 [] s).wf Reg.AON_WAKE_CFG 0 4 (arg c 1 1 % 16)))

theorem testBit_mod_sixteen {x i : Nat} (hi : i < 4) : (x % 16).testBit i = x.testBit i := by
  rw [show 16 = 2 ^ 4 from rfl, Nat.testBit_mod_two_pow]
  simp [hi]

theorem bodyPwrEnter_run (hlen : 8 ≤ c.m.payload.length) (hrun : arg c 0 1 = 0) (haway : s.pwr.state ≠ 0) (hfree : s.pwr.target = 0)
    (htimer : (arg c 1 1).testBit 1 = false) : bodyPwrEnter c s = leaveIdle (acceptOp c clsDevice 0 0 [] s) := by
  refine (need_enough hlen).trans <| (if_neg (by omega)).trans <| (if_neg ?allowed).trans <| (if_neg ?wake).trans <| (if_neg ?timer).trans <|
    if_pos (by simp [hrun])
  case allowed => simp [haway, hrun, hfree]
  case wake => simp [hrun]
  case timer => simp [testBit_mod_sixteen, htimer]

theorem bodyPwrEnter_state (hlen : 8 ≤ c.m.payload.length) (hlo : 1 ≤ arg c 0 1) (hhi : arg c 0 1 ≤ 3) (hrun : s.pwr.state = 0)
    (hfree : s.pwr.target = 0) (htimer : (arg c 1 1).testBit 1 = false) (hsome : 2 ≤ arg c 0 1 → arg c 1 1 % 16 ≠ 0)
    (htemp : arg c 0 1 = 3 → (arg c 1 1 % 16).testBit 3 = false) :
    bodyPwrEnter c s = if (beginStep 1 (enterState c s)).pwr.target == arg c 0 1 then beginStep 2 (beginStep 1 (enterState c s))
      else beginStep 1 (enterState c s) := by
  have hnotimer : (arg c 1 1 % 16).testBit 1 = false := (testBit_mod_sixteen (by decide)).trans htimer
  refine (need_enough hlen).trans <| (if_neg (by omega)).trans <| (if_neg ?allowed).trans <| (if_neg ?wake).trans <|
    (if_neg (by simp [hnotimer])).trans <| (if_neg ?down).trans ?entered
  case allowed => simp [hrun, hfree, hlo]
  case wake =>
    simp only [Bool.and_eq_true, decide_eq_true_eq, Bool.or_eq_true, beq_iff_eq, not_and, not_or]
    exact fun h => ⟨hsome h, fun h3 h => ne_true_of_eq_false (htemp h) h3⟩
  case down => simp only [beq_iff_eq]; omega
  case entered =>
    rw [hnotimer]
    rfl

theorem bodyPwrPadRelease_of_held (h : s.pins.held.isSome = true) : bodyPwrPadRelease c s = respondTo c St.ok [] (releasePads s) :=
  if_neg (by simp [Option.isSome_iff_ne_none.mp h])

/-! ### RAS (R22, R43, R46) -/

/-- The timing registers that RAS_TIMING stages. -/
def timingStaged (c : Ctx) (s : State) : State :=
  when (arg c 8 4 != 0) (State.wr · Reg.RAS_BLANK_START (BitVec.ofNat 32 (arg c 8 4)))
    ((when (arg c 6 1 != 0xFF) (State.wf · Reg.RAS_SOURCE 0 2 (arg c 6 1))
      (wRas Reg.RAS_PERIOD_FRAC (BitVec.ofNat 32 (arg c 4 2)) (wRas Reg.RAS_PERIOD (BitVec.ofNat 32 (arg c 0 4)) s))).wf Reg.RAS_SOURCE 2 1
        (arg c 7 1))

theorem bodyRasTiming_of_period (huntimed : c.timed = false) (hlen : 12 ≤ c.m.payload.length) (hsrc : arg c 6 1 ≤ 1 ∨ arg c 6 1 = 0xFF)
    (hpol : arg c 7 1 ≤ 1) (hblank : arg c 8 4 < 2 ^ 24) (hperiod : periodInRange (arg c 0 4 * 65536 + arg c 4 2) = true)
    (hlayers : layerFit (arg c 0 4 * 65536 + arg c 4 2) ((List.range 8).filter (layerWillBe s)).length = true) :
    bodyRasTiming c s =
      respondTo c St.ok (framePart (timingCommit (timingStaged c s))) (timingCommit (timingStaged c s)) := by
  refine (need_enough hlen).trans <| (if_neg ?range).trans <| (if_neg (by simp [hlayers])).trans <| reply_untimed huntimed
  simp only [hperiod, Bool.or_eq_true, Bool.and_eq_true, decide_eq_true_eq, bne_iff_ne, Bool.not_true, Bool.false_eq_true, or_false]
  omega

/-- The origin that RAS_EPOCH stages. -/
def epochStaged (c : Ctx) (s : State) : State :=
  wRas Reg.RAS_EPOCH_S_HI (BitVec.ofNat 32 (arg c 0 8 / 1000000000 / 2 ^ 32))
    (wRas Reg.RAS_EPOCH_S_LO (BitVec.ofNat 32 (arg c 0 8 / 1000000000))
      (wRas Reg.RAS_EPOCH_NS (BitVec.ofNat 32 (arg c 0 8 % 1000000000)) s))

theorem bodyRasEpoch_of_time (huntimed : c.timed = false) (hlen : 8 ≤ c.m.payload.length) :
    bodyRasEpoch c s = respondTo c St.ok (framePart (timingCommit (epochStaged c s))) (timingCommit (epochStaged c s)) :=
  (need_enough hlen).trans (reply_untimed huntimed)

theorem bodyRasEnable_of_value (hlen : 1 ≤ c.m.payload.length) (hv : arg c 0 1 ≤ 1) :
    bodyRasEnable c s = respondTo c St.ok [] (rasEnable (arg c 0 1 == 1) s) :=
  (need_enough hlen).trans <| if_neg (by omega)

end

/-- Settles O37: each command is served, and its body is in the case that the hypotheses of its clause select. -/
theorem systemPowerAndRasterCommandsTakeEffect : Obligations.SystemPowerAndRasterCommandsTakeEffect := by
  unfold Obligations.SystemPowerAndRasterCommandsTakeEffect
  refine ⟨?sysReset, ?sysProtect, ?sysMbxCfg, ?sysAliveReset, ?pwrRun, ?pwrState, ?pwrOff, ?padRelease, ?rasTiming, ?rasEpoch, ?rasEnable⟩
  case sysReset =>
    rintro m z s _ hs rfl h hlen hkind
    exact exec_of_service rfl hs h (bodySysReset_of_kind hlen hkind)
  case sysProtect =>
    rintro m z s _ hs rfl h hlen hfixed
    exact exec_of_service rfl hs h (bodySysProtect_of_levels hlen hfixed)
  case sysMbxCfg =>
    rintro m z s _ hs rfl h hlen hen
    exact exec_of_service rfl hs h (bodySysMbxCfg_of_enable hlen hen)
  case sysAliveReset =>
    rintro m z s _ hs rfl h
    exact exec_of_service (body := bodySysAliveReset) rfl hs h rfl
  case pwrRun =>
    rintro m z s _ hs rfl h hlen hrun haway hfree htimer
    exact exec_of_service rfl hs h (bodyPwrEnter_run hlen hrun haway hfree htimer)
  case pwrState =>
    rintro m z s _ hs rfl h hlen hlo hhi hrun hfree htimer hsome htemp
    exact exec_of_service rfl hs h (bodyPwrEnter_state hlen hlo hhi hrun hfree htimer hsome htemp)
  case pwrOff =>
    rintro m z s _ hs rfl h
    exact exec_of_service (body := bodyPwrOff) rfl hs h rfl
  case padRelease =>
    rintro m z s _ hs rfl h hheld
    exact exec_of_service rfl hs h (bodyPwrPadRelease_of_held hheld)
  case rasTiming =>
    rintro m z s _ hs rfl h hlen hsrc hpol hblank hperiod hlayers
    exact exec_of_service rfl hs h (bodyRasTiming_of_period rfl hlen hsrc hpol hblank hperiod hlayers)
  case rasEpoch =>
    rintro m z s _ hs rfl h hlen
    exact exec_of_service rfl hs h (bodyRasEpoch_of_time rfl hlen)
  case rasEnable =>
    rintro m z s _ hs rfl h hlen hv
    exact exec_of_service rfl hs h (bodyRasEnable_of_value hlen hv)

section
variable {c : Ctx} {s : State}

/-! ### FW (R336, R337) -/

/-- The inactive bank is invalid, and the update belongs to the client of the request. -/
def updateBegun (c : Ctx) (s : State) : State :=
  let t := setFwRec (1 - fwActive s) {} s
  setUpdate 1 { t with fw := { t.fw with owner := some (c.m.mb.val, c.m.client), size := arg c 0 4 } }

theorem bodyFwBegin_of_size (hlen : 4 ≤ c.m.payload.length) (howner : fwUpdate s = 0 ∨ fwOwner s c = true) (hopen : fwUpdate s ≤ 3)
    (hlo : 1 ≤ arg c 0 4) (hhi : arg c 0 4 ≤ 2097152) : bodyFwBegin c s = respondTo c St.ok [] (updateBegun c s) := by
  refine (need_enough hlen).trans <| (if_neg ?_).trans <| (if_neg (by omega)).trans <|
    if_neg (by simp only [Bool.or_eq_true, beq_iff_eq, decide_eq_true_eq]; omega)
  rcases howner with h | h <;> simp [h]

/-- The client that began the update asks, and the update takes bytes or a verification. -/
theorem updateTakes_of_owner (howner : fwOwner s c = true) (hopen : fwUpdate s = 1 ∨ fwUpdate s = 3) :
    ¬ (!(fwOwner s c) || !(fwUpdate s == 1 || fwUpdate s == 3)) = true := by
  rcases hopen with h | h <;> simp [howner, h]

theorem bodyFwData_of_bytes (hlen : 16 ≤ c.m.payload.length)
    (hdata : ¬((bulkOf c).data.length % 4 ≠ 0 ∨ bulkMax c < (bulkOf c).data.length)) (hop : (bulkOf c).op = 1)
    (howner : fwOwner s c = true) (hopen : fwUpdate s = 1 ∨ fwUpdate s = 3) (hsel : (bulkOf c).sel = 0)
    (hfit : (bulkOf c).offset + (bulkOf c).data.length ≤ s.fw.size) :
    bodyFwData c s =
      respondTo c St.ok [] (setUpdate 1 (s.putBytes (fwBase (1 - fwActive s) + (bulkOf c).offset) (bulkOf c).data)) :=
  (withData_of_words hlen hdata hop).trans <| (if_neg (updateTakes_of_owner howner hopen)).trans <|
    if_neg (by simp only [Bool.or_eq_true, bne_iff_ne, decide_eq_true_eq]; omega)

theorem bodyFwVerify_of_owner (howner : fwOwner s c = true) (hopen : fwUpdate s = 1 ∨ fwUpdate s = 3) :
    bodyFwVerify c s = setUpdate 2 (acceptOp c clsDevice 0 0 [] s) := if_neg (updateTakes_of_owner howner hopen)

/-- The commit of the inactive bank is accepted: its record is TRIAL, one generation on. -/
def commitTaken (c : Ctx) (s : State) : State :=
  let t := acceptOp c clsDevice 0 0 [] s
  setUpdate 4 (setFwRec (1 - fwActive t) ⟨((t.rd Reg.FW_GEN).toNat + 1) % 2 ^ 32, 1⟩ t)

theorem bodyFwCommit_of_verified (howner : fwOwner s c = true) (hverified : fwUpdate s = 3) :
    bodyFwCommit c s = { commitTaken c s with fw := { (commitTaken c s).fw with commitWait := applyWait (commitTaken c s) } } :=
  if_neg (by simp [howner, hverified])

theorem bodyFwAbort_of_open (hlo : 1 ≤ fwUpdate s) (hhi : fwUpdate s ≤ 3) : bodyFwAbort c s = respondTo c St.ok [] (fwAbandon s) :=
  if_pos (by simp [hlo, hhi])

/-! ### REG (R348, R349) -/

theorem regStore_of_allowed {a : Nat} {l : List (Nat × Word)} {force : Bool} {part : List Byte}
    (hallowed : (regDenied c s a l.length true).1 = 0) (hopen : firstLocked s l force = none) :
    regStore c a l force part s = respondTo c St.ok part (regPut l s) := by
  unfold regStore
  rw [hopen]
  exact if_neg (by simp [hallowed])

theorem bodyRegWrite_of_allowed (hlen : 8 + 4 * arg c 4 2 ≤ c.m.payload.length) (hlo : 1 ≤ arg c 4 2) (hhi : arg c 4 2 ≤ 1018)
    {l : List (Nat × Word)} (hl : l = (List.range (arg c 4 2)).map fun i => (arg c 0 4 + 4 * i, BitVec.ofNat 32 (arg c (8 + 4 * i) 4)))
    (hallowed : (regDenied c s (arg c 0 4) l.length true).1 = 0) (hopen : firstLocked s l (arg c 6 1 % 2 == 1) = none) :
    bodyRegWrite c s = respondTo c St.ok [] (regPut l s) := by
  subst hl
  exact (need_enough (by omega)).trans <| (if_neg (by simp only [Bool.or_eq_true, beq_iff_eq, decide_eq_true_eq]; omega)).trans <|
    (need_enough hlen).trans (regStore_of_allowed hallowed hopen)

theorem bodyRegRmw_of_allowed (hlen : 13 ≤ c.m.payload.length) {w : Word}
    (hw : w = mergeBits (arg c 4 4) (spaceRead s (arg c 0 4)) (BitVec.ofNat 32 (arg c 8 4)))
    (hallowed : (regDenied c s (arg c 0 4) 1 true).1 = 0) (hopen : firstLocked s [(arg c 0 4, w)] (arg c 12 1 % 2 == 1) = none) :
    bodyRegRmw c s = respondTo c St.ok (leBytes 4 (spaceRead s (arg c 0 4)).toNat) (regPut [(arg c 0 4, w)] s) := by
  subst hw
  exact (need_enough hlen).trans (regStore_of_allowed hallowed hopen)

end

/-- Settles O43: each command is served, and its body is in the case that the hypotheses of its clause select. -/
theorem firmwareAndRegisterCommandsTakeEffect : Obligations.FirmwareAndRegisterCommandsTakeEffect := by
  unfold Obligations.FirmwareAndRegisterCommandsTakeEffect
  refine ⟨?fwBegin, ?fwData, ?fwVerify, ?fwCommit, ?fwAbort, ?regWrite, ?regRmw⟩
  case fwBegin =>
    rintro m z s _ hs rfl h hlen howner hopen hlo hhi
    exact exec_of_service rfl hs h (bodyFwBegin_of_size hlen howner hopen hlo hhi)
  case fwData =>
    rintro m z s _ hs rfl h hlen hdata hop howner hopen hsel hfit
    exact exec_of_service rfl hs h (bodyFwData_of_bytes hlen hdata hop howner hopen hsel hfit)
  case fwVerify =>
    rintro m z s _ hs rfl h howner hopen
    exact exec_of_service rfl hs h (bodyFwVerify_of_owner howner hopen)
  case fwCommit =>
    rintro m z s _ hs rfl h howner hverified
    exact exec_of_service rfl hs h (bodyFwCommit_of_verified howner hverified)
  case fwAbort =>
    rintro m z s _ hs rfl h hlo hhi
    exact exec_of_service rfl hs h (bodyFwAbort_of_open hlo hhi)
  case regWrite =>
    rintro m z s _ hs rfl h hlen hlo hhi l hl hallowed hopen
    exact exec_of_service rfl hs h (bodyRegWrite_of_allowed hlen hlo hhi hl hallowed hopen)
  case regRmw =>
    rintro m z s _ hs rfl h hlen w hw hallowed hopen
    exact exec_of_service rfl hs h (bodyRegRmw_of_allowed hlen hw hallowed hopen)

/-! ### Quads (R297) -/

/-- The lanes of a quad are its four. -/
theorem quadOff_iff {s : State} {q : Nat} (hq : q < 6) :
    quadOff s q = true ↔ ∀ l : Fin 24, l.val / 4 = q → laneStage s l.val = 0 := by
  simp only [quadOff, List.all_eq_true, List.mem_range, beq_iff_eq]
  constructor
  · rintro h l rfl
    rw [← Nat.div_add_mod l.val 4]
    exact h _ (Nat.mod_lt _ (by decide))
  · intro h i hi
    exact h ⟨4 * q + i, by omega⟩ (by simp; omega)

theorem quadOff_of_stage {s : State} {q : Nat} (h : ∃ l : Fin 24, l.val / 4 = q ∧ laneStage s l.val ≠ 0) : quadOff s q = false := by
  obtain ⟨l, rfl, hstage⟩ := h
  have hl : l.val / 4 < 6 := Nat.div_lt_of_lt_mul l.isLt
  exact eq_false_of_ne_true fun hoff => hstage ((quadOff_iff hl).mp hoff l rfl)

theorem bodyQuadCfg_of_used {c : Ctx} {s : State} (hlen : 3 ≤ c.m.payload.length) (huse : arg c 0 1 ≤ 3) (hrefsel : arg c 1 1 ≤ 1)
    (hrate : arg c 2 1 ≤ 6) (hused : quadOff s (c.m.index.toNat / 4) = false) : bodyQuadCfg c s = refuse c St.state s :=
  (need_enough hlen).trans <| (if_neg (by simp only [Bool.or_eq_true, decide_eq_true_eq]; omega)).trans <| if_pos (by simp [hused])

/-- Settles O17: `quadCfg` and QUAD_CFG both ask whether the four lanes are OFF. -/
theorem quadSettingsChangeOnlyWithTheQuadOff : Obligations.QuadSettingsChangeOnlyWithTheQuadOff := by
  unfold Obligations.QuadSettingsChangeOnlyWithTheQuadOff
  refine ⟨fun q w z s hs hoff => ?off, fun q w z s hs hused => ?used, fun m z s hs h hlen huse hrefsel hrate hused => ?command⟩
  case off => rw [exec_quadCfgWrite, ← hs, quadCfg_of_off ((quadOff_iff q.isLt).mpr hoff)]
  case used => rw [exec_quadCfgWrite, ← hs, quadCfg_of_used (quadOff_of_stage hused)]
  case command =>
    exact exec_of_service rfl hs h (bodyQuadCfg_of_used hlen huse hrefsel hrate (quadOff_of_stage hused))

/-! ### Protected CAN FD payloads (R358, R360) -/

theorem canSize_spec : ∀ n ≤ 64, n ≤ canSize n ∧ canSize n ∈ [0, 1, 2, 3, 4, 5, 6, 7, 8, 12, 16, 20, 24, 32, 48, 64] := by decide

theorem protect_length (s : State) (c : Nat) (l : List Byte) : (protect s c l).length = l.length + 1 + checkBytes s c := by
  simp [protect, Nat.add_assoc, Nat.add_comm 1]

/-- The protected form of a padded payload fills the data length chosen for it. -/
theorem protect_canPadded_length {s : State} {c : Nat} {l : List Byte} (h : l.length + 1 + checkBytes s c ≤ 64) :
    (protect s c (canPadded s c l)).length = canSize (l.length + 1 + checkBytes s c) := by
  have hsize := (canSize_spec _ h).1
  rw [protect_length]
  simp only [canPadded, List.length_append, List.length_replicate]
  omega

/-- A payload of 12 bytes with 2 bytes of check is padded by one byte. -/
theorem canPadded_of_twelve {s : State} {c : Nat} {l : List Byte} (hl : l.length = 12) (hk : checkBytes s c = 2) :
    canPadded s c l = l ++ [BitVec.ofNat 8 (s.fd (Reg.CRC_CH_AUX c) 16 8)] := by
  simp only [canPadded, hl, hk]
  rfl

/-- Settles O59: the example is laid out by `canPadded_of_twelve`, and every length is one that `canSize` gives. -/
theorem theAppendedFormFollowsTheExampleOfR360 : Obligations.TheAppendedFormFollowsTheExampleOfR360 := by
  unfold Obligations.TheAppendedFormFollowsTheExampleOfR360
  refine ⟨fun s c l hl hk => ?twelve, fun s c l hfits => ?size⟩
  case size =>
    obtain ⟨hle, hmem⟩ := canSize_spec _ hfits
    rw [protect_canPadded_length hfits]
    exact ⟨hmem, hle⟩
  case twelve =>
    refine ⟨?_, ?_, ?_, ?_, ?_⟩
    · rw [protect_canPadded_length (by omega), hl, hk]
      rfl
    all_goals rw [canPadded_of_twelve hl hk, protect]
    · simp [← hl]
    · simp [hl]
    · simp [List.getElem?_append_right, hl]
    · rw [hk, List.drop_append_of_le_length (by simp [hl]), List.drop_eq_nil_of_le (by simp [hl])]
      simp

end Sys2Proof.Machine
end

section
/-! SUPPORT. The host port (R365 to R377): what a frame answers, what it posts, and how a posted word is applied or ends its frame. -/
namespace Sys2Proof.Machine

/-! ### The commands and their meanings -/

theorem exec_hostRead32 (a : Option (BitVec 24)) (ecc : Bool) (z : State) :
    exec (.hostRead32 a ecc) z = .next (State.settle (hostRead a 1 (if ecc then some 0 else none) (rasterFirst z))) := rfl
theorem exec_hostReadBurst (a : Option (BitVec 24)) (n : Nat) (ecc : Option Nat) (z : State) :
    exec (.hostReadBurst a n ecc) z = .next (State.settle (hostRead a (min n 256) ecc (rasterFirst z))) := rfl
theorem exec_hostWrite32 (a : Option (BitVec 24)) (d : List Byte) (s : State) :
    exec (.hostWrite32 a d) s = .next (State.settle (hostWrite 0x20 1 a d s)) := rfl
theorem exec_hostWriteBurst (a : Option (BitVec 24)) (d : List Byte) (s : State) :
    exec (.hostWriteBurst a d) s = .next (State.settle (hostWrite 0x21 256 a d s)) := rfl
theorem exec_hostStatus (n : Nat) (s : State) :
    exec (.hostStatus n) s = .next (State.settle (hostFrame (fun b s => s.emit (.host (List.replicate (n + 1) b))) s)) := rfl
theorem exec_badOpcode (op : Byte) (s : State) : exec (.badOpcode op) s = .next (State.settle (hostOpcode op.toNat s)) := rfl
theorem exec_hostReadTimeout (s : State) :
    exec .hostReadTimeout s = .next (State.settle (hostFrame (fun b s => hostCount 0xE (s.emit (.host [b, 0x3C, 0x0E]))) s)) := rfl
theorem exec_hostWriteApply (z : State) : exec .hostWriteApply z = .next (State.settle (hostApply (rasterFirst z))) := rfl
theorem exec_hostWriteTimeout (s : State) : exec .hostWriteTimeout s = .next (State.settle (hostDrop 0xE s)) := rfl

/-! ### Frames (R367, R373) -/

theorem hostFrame_of_answers {f : Byte → State → State} {s : State} (h : hostAnswers s = true) :
    hostFrame f s = wakeBy 3 (f (hostStatusByte s) s) := if_pos h

theorem hostFrame_of_silent {f : Byte → State → State} {s : State} (h : hostAnswers s = false) : hostFrame f s = s :=
  if_neg (ne_true_of_eq_false h)

theorem hostOpcode_of_unknown {op : Nat} {s : State} (h : hostAnswers s = true) (hop : op ∉ hostOpcodes) :
    hostOpcode op s = wakeBy 3 (hostCount 1 { s.emit (.host [hostStatusByte s]) with
      host := { (s.emit (.host [hostStatusByte s])).host with code := 1 } }) := by
  rw [hostOpcode, hostFrame_of_answers h]
  exact congrArg (wakeBy 3) (if_neg (by simpa using hop))

/-- An error is counted once; a timeout in its own counter too. -/
theorem hostCount_of_error {code : Nat} (h : code ≠ 0xE) (s : State) : hostCount code s = s.count Reg.TOP_CNT_HOST_ERR :=
  if_neg (by simpa using h)

theorem hostCount_of_timeout (s : State) :
    hostCount 0xE s = (s.count Reg.TOP_CNT_HOST_ERR).count Reg.TOP_CNT_HOST_TIMEOUT := rfl

/-! ### Reads (R369 to R372) -/

theorem sameArea_self (a : Nat) : sameArea a a = true := by
  unfold sameArea
  cases windowOf a <;> simp

section
variable {s : State} {first a : Nat}

theorem hostFault_unaligned {write : Bool} (h : a % 4 ≠ 0) : hostFault s first a write = 3 := if_pos (by simpa using h)

theorem hostFault_unmapped {write : Bool} (h : a % 4 = 0) (hm : mapped a = false) : hostFault s first a write = 2 :=
  (if_neg (by simp [h])).trans <| if_pos (by simp [hm])

/-- An aligned address of the area in which its frame began reaches the checks of level and domain. -/
theorem hostFault_mapped {write : Bool} (h : a % 4 = 0) (hm : mapped a = true) (ha : sameArea first a = true) :
    hostFault s first a write =
      if (inSnowWindow a && (write || hostLow s)) = true then 4
      else if (write && inMbxBlock a && hostLow s) = true then 4
      else if areaOff s a = true then 0xD else 0 :=
  (if_neg (by simp [h])).trans <| if_neg (by simp [hm, ha])

theorem hostFault_snow_write (h : a % 4 = 0) (hm : mapped a = true) (ha : sameArea first a = true) (hsnow : inSnowWindow a = true) :
    hostFault s first a true = 4 := by
  rw [hostFault_mapped h hm ha, if_pos (by simp [hsnow])]

theorem hostFault_snow_low (h : a % 4 = 0) (hm : mapped a = true) (hsnow : inSnowWindow a = true)
    (hlow : s.fd (Reg.MBX_MB_CFG 0) 0 2 ≠ 0) : hostFault s a a false = 4 := by
  rw [hostFault_mapped h hm (sameArea_self a), if_pos (by simp [hsnow, hostLow, hlow])]

theorem hostFault_read (h : a % 4 = 0) (hm : mapped a = true) (hsnow : inSnowWindow a = false) :
    hostFault s a a false = if areaOff s a = true then 0xD else 0 := by
  rw [hostFault_mapped h hm (sameArea_self a), if_neg (by simp [hsnow]), if_neg (by simp)]

end

/-- Code of a read of the word at `a`: its fault, or an uncorrectable error. -/
def readCode (s : State) (a : Nat) (ecc : Option Nat) : Nat := if hostFault s a a false == 0 && ecc == some 0 then 8 else hostFault s a a false

section
variable {s : State} {a : Nat} {ecc : Option Nat}

/-- A read whose first word fails ends there. -/
theorem hostWords_of_fault {n : Nat} (h : readCode s a ecc ≠ 0) :
    hostWords s a ecc (n + 1) 0 = ([0x3C, BitVec.ofNat 8 (readCode s a ecc)], readCode s a ecc) := if_pos (bne_iff_ne.mpr h)

/-- A word that can be read goes out behind its ready byte. -/
theorem hostWords_one (h : hostFault s a a false = 0) : hostWords s a none 1 0 = (0xC3 :: leBytes 4 (spaceRead s a).toNat, 0) := by
  have hword : hostWords s a none 1 0 = (0xC3 :: leBytes 4 (spaceRead s a).toNat ++ [], 0) := if_neg (by simp [h])
  rw [hword, List.append_nil]

/-- A read whose first word fails latches no time. -/
theorem hostReadsTime_of_fault {n : Nat} (h : readCode s a ecc ≠ 0) : hostReadsTime s a n ecc = false := by
  simp [hostReadsTime, hostWords_of_fault h, h]

end

/-- With nothing posted, a read is answered at once. -/
theorem hostRead_of_idle {a : BitVec 24} {n : Nat} {ecc : Option Nat} {s t : State} (hanswers : hostAnswers s = true)
    (hidle : s.host.frames = []) (ht : t = if hostReadsTime s a.toNat n ecc = true then latchTime s else s) :
    hostRead (some a) n ecc s = wakeBy 3 (when ((hostWords t a.toNat ecc n 0).2 != 0) (hostCount (hostWords t a.toNat ecc n 0).2)
      (t.emit (.host (hostStatusByte s :: (hostWords t a.toNat ecc n 0).1)))) := by
  have hdrain : hostDrain (hostPosted s) s = s := by simp [hostPosted, hidle, hostDrain]
  rw [hostRead, hostFrame_of_answers hanswers]
  simp only [hdrain, when, ← ht]

/-- A read whose first word fails sends the status byte, the token and the code, and is counted. -/
theorem hostRead_of_fault {a : BitVec 24} {ecc : Option Nat} {s : State} (hanswers : hostAnswers s = true) (hidle : s.host.frames = [])
    (h : readCode s a.toNat ecc ≠ 0) :
    hostRead (some a) 1 ecc s = wakeBy 3 (hostCount (readCode s a.toNat ecc)
      (s.emit (.host [hostStatusByte s, 0x3C, BitVec.ofNat 8 (readCode s a.toNat ecc)]))) := by
  rw [hostRead_of_idle hanswers hidle (t := s) (by rw [hostReadsTime_of_fault h]; rfl), hostWords_of_fault h]
  simp only [when, bne_iff_ne, if_pos h]

/-- A read whose words can all be read sends them behind the status byte. -/
theorem hostRead_of_words {a : BitVec 24} {n : Nat} {s t : State} (hanswers : hostAnswers s = true) (hidle : s.host.frames = [])
    (ht : t = if hostReadsTime s a.toNat n none = true then latchTime s else s) (h : (hostWords t a.toNat none n 0).2 = 0) :
    hostRead (some a) n none s = wakeBy 3 (t.emit (.host (hostStatusByte s :: (hostWords t a.toNat none n 0).1))) := by
  rw [hostRead_of_idle hanswers hidle ht, h]
  rfl

/-- A failing READ32 of the host, by its code. -/
theorem exec_hostRead32_fault {a : BitVec 24} {ecc : Bool} {code : Nat} {z s : State} (hs : s = rasterFirst z)
    (hanswers : hostAnswers s = true) (hidle : s.host.frames = []) (hcode : readCode s a.toNat (if ecc then some 0 else none) = code)
    (h : code ≠ 0) :
    exec (.hostRead32 (some a) ecc) z =
      .next (State.settle (wakeBy 3 (hostCount code (s.emit (.host [hostStatusByte s, 0x3C, BitVec.ofNat 8 code]))))) := by
  subst hcode
  rw [exec_hostRead32, ← hs, hostRead_of_fault hanswers hidle h]

theorem readCode_none (s : State) (a : Nat) : readCode s a none = hostFault s a a false := by
  simp [readCode]

/-- Settles O27: the code of each failing read is the first check that fails. -/
theorem hostReadsThatFailEndWithTheirCode : Obligations.HostReadsThatFailEndWithTheirCode := by
  unfold Obligations.HostReadsThatFailEndWithTheirCode
  intro a z s hs hanswers hidle
  have hfault := fun code h => exec_hostRead32_fault (a := a) (ecc := false) (code := code) hs hanswers hidle ((readCode_none s a.toNat).trans h)
  refine ⟨fun h => ?_, fun h hm => ?_, fun h hm hsnow hlow => ?_, fun h hm hsnow hoff => ?_, fun h hm hsnow hon => ?_⟩
  · exact hfault 3 (hostFault_unaligned h) (by decide)
  · exact hfault 2 (hostFault_unmapped h hm) (by decide)
  · exact hfault 4 (hostFault_snow_low h hm hsnow hlow) (by decide)
  · exact hfault 0xD ((hostFault_read h hm hsnow).trans (if_pos hoff)) (by decide)
  · have hgood : hostFault s a.toNat a.toNat false = 0 := (hostFault_read h hm hsnow).trans (if_neg (ne_true_of_eq_false hon))
    exact exec_hostRead32_fault hs hanswers hidle (code := 8) (by simp [readCode, hgood]) (by decide)

/-! ### Write frames (R374, R375) -/

/-- A write frame ends with its code, or its words are posted. -/
theorem hostWrite_of_answers {op mx : Nat} {a : BitVec 24} {d : List Byte} {s : State} (h : hostAnswers s = true) :
    hostWrite op mx (some a) d s = wakeBy 3
      (if (d.length % 4 != 0 || d.isEmpty || decide (mx < (hostData d).length)) = true then
        hostEnd { opcode := op, addr := a.toNat, words := hostData d } 6 (s.emit (.host [hostStatusByte s]))
      else if decide (256 < hostPosted s + (hostData d).length) = true then
        hostEnd { opcode := op, addr := a.toNat, words := hostData d } 5 (s.emit (.host [hostStatusByte s]))
      else
        { s.emit (.host [hostStatusByte s]) with host := { (s.emit (.host [hostStatusByte s])).host with
          frames := (s.emit (.host [hostStatusByte s])).host.frames ++ [{ opcode := op, addr := a.toNat, words := hostData d }] } }) := by
  rw [hostWrite, hostFrame_of_answers h]
  rfl

theorem hostData_length (d : List Byte) : (hostData d).length = d.length / 4 := by simp [hostData]

section
variable {op mx : Nat} {a : BitVec 24} {d : List Byte} {s : State} (hanswers : hostAnswers s = true)
include hanswers

theorem hostWrite_of_full (hwords : d.length % 4 = 0) (hsome : d ≠ []) (hlen : (hostData d).length ≤ mx)
    (hfull : 256 < hostPosted s + (hostData d).length) :
    hostWrite op mx (some a) d s =
      wakeBy 3 (hostEnd { opcode := op, addr := a.toNat, words := hostData d } 5 (s.emit (.host [hostStatusByte s]))) := by
  rw [hostWrite_of_answers hanswers, if_neg (by simp [hwords, hsome, hlen]), if_pos (decide_eq_true hfull)]

theorem hostWrite_of_long (hlong : mx < (hostData d).length) :
    hostWrite op mx (some a) d s =
      wakeBy 3 (hostEnd { opcode := op, addr := a.toNat, words := hostData d } 6 (s.emit (.host [hostStatusByte s]))) := by
  rw [hostWrite_of_answers hanswers, if_pos (by simp [hlong])]

theorem hostWrite_of_room (hwords : d.length % 4 = 0) (hsome : d ≠ []) (hlen : (hostData d).length ≤ mx)
    (hroom : hostPosted s + (hostData d).length ≤ 256) :
    hostWrite op mx (some a) d s = wakeBy 3 { s.emit (.host [hostStatusByte s]) with
      host := { (s.emit (.host [hostStatusByte s])).host with
        frames := (s.emit (.host [hostStatusByte s])).host.frames ++ [{ opcode := op, addr := a.toNat, words := hostData d }] } } := by
  rw [hostWrite_of_answers hanswers, if_neg (by simp [hwords, hsome, hlen]), if_neg (by simpa using hroom)]

end

/-! ### The end of a write frame (R377) -/

/-- The end of a frame sets its code, and changes registers besides. -/
theorem hostEnd_eq (f : HFrame) (code : Nat) (s : State) :
    hostEnd f code s = { s with regs := (hostEnd f code s).regs, host := { s.host with code := code } } := by
  unfold hostEnd hostCount when
  repeat' split
  all_goals rfl

theorem hostEnd_frames (f : HFrame) (code : Nat) (s : State) : (hostEnd f code s).host.frames = s.host.frames := by
  rw [hostEnd_eq]

theorem hostPosted_hostEnd (f : HFrame) (code : Nat) (s : State) : hostPosted (hostEnd f code s) = hostPosted s := by
  rw [hostPosted, hostEnd_frames, hostPosted]

theorem canonical_count {s : State} {a : Nat} (h : s.canonical = true) : (s.count a).canonical = true := canonical_wr h

theorem rd_hostCount_other {code b : Nat} {s : State} (h : s.canonical = true)
    (hb : b ∉ [Reg.TOP_CNT_HOST_ERR, Reg.TOP_CNT_HOST_TIMEOUT]) : (hostCount code s).rd b = s.rd b := by
  simp only [List.mem_cons, List.not_mem_nil, or_false, not_or] at hb
  obtain ⟨herr, htimeout⟩ := hb
  unfold hostCount when
  split
  · exact (rd_count_other (canonical_count h) htimeout).trans (rd_count_other h herr)
  · exact rd_count_other h herr

/-- The end of a frame writes the registers of the host port alone. -/
theorem rd_hostEnd_other {f : HFrame} {code b : Nat} {s : State} (h : s.canonical = true)
    (hb : b ∉ [Reg.TOP_HOST_ERR_ADDR, Reg.TOP_HOST_ERR_INFO, Reg.TOP_CNT_HOST_ERR, Reg.TOP_CNT_HOST_TIMEOUT]) :
    (hostEnd f code s).rd b = s.rd b := by
  simp only [List.mem_cons, not_or] at hb
  obtain ⟨haddr, hinfo, hcounts⟩ := hb
  have hcode : State.canonical { s with host := { s.host with code := code } } = true := h
  unfold hostEnd
  dsimp only
  split
  · rfl
  · rw [rd_hostCount_other (canonical_wr (canonical_wr hcode)) (by simpa only [List.mem_cons, not_or] using hcounts),
      rd_wr_other (canonical_wr hcode) hinfo, rd_wr_other hcode haddr]
    rfl

theorem hostPosted_append {s : State} {f : HFrame} (hf : f.applied = 0) :
    hostPosted { s with host := { s.host with frames := s.host.frames ++ [f] } } = hostPosted s + f.words.length := by
  simp [hostPosted, List.foldl_append, hf]

/-- No write frame posts more than the buffer has room for. -/
theorem hostWrite_posted {op mx : Nat} {a : Option (BitVec 24)} {d : List Byte} {s : State} (hroom : hostPosted s ≤ 256)
    (hanswers : hostAnswers s = true) : ∃ t : State, hostWrite op mx a d s = wakeBy 3 t ∧ hostPosted t ≤ 256 := by
  cases a with
  | none => exact ⟨s.emit (.host [hostStatusByte s]), by rw [hostWrite, hostFrame_of_answers hanswers], hroom⟩
  | some a =>
    refine ⟨_, hostWrite_of_answers hanswers, ?_⟩
    split_ifs with hbad hfull
    · rwa [hostPosted_hostEnd]
    · rwa [hostPosted_hostEnd]
    · rw [hostPosted_append rfl]
      exact Nat.le_of_not_lt (mt decide_eq_true hfull)

/-- Settles O16: a frame is posted only where its words fit. -/
theorem theWriteBufferHoldsAtMost256Words : Obligations.TheWriteBufferHoldsAtMost256Words := by
  unfold Obligations.TheWriteBufferHoldsAtMost256Words
  refine ⟨fun a d s hanswers hwords hsome hlen hfull => ?burst, fun a d s hanswers hwords hone hfull => ?single,
    fun a d s hanswers hlong => ?long, hostEnd_frames, fun op mx a d s hroom hanswers => hostWrite_posted hroom hanswers⟩
  case burst => rw [exec_hostWriteBurst, hostWrite_of_full hanswers hwords hsome hlen hfull]
  case single =>
    have hsome : d ≠ [] := by
      rintro rfl
      simp [hostData] at hone
    rw [exec_hostWrite32, hostWrite_of_full hanswers hwords hsome (by omega) (by omega)]
  case long => rw [exec_hostWriteBurst, hostWrite_of_long hanswers hlong]

/-! ### Posted words (R370, R374, R376, R377) -/

section
variable {s : State} {f : HFrame} {rest : List HFrame} (hf : s.host.frames = f :: rest)
include hf

theorem hostDrop_of_frame (code : Nat) : hostDrop code s = hostEnd f code { s with host := { s.host with frames := rest } } := by
  simp only [hostDrop, hf]

/-- A posted word that fails ends its frame. -/
theorem hostApply_of_fault {code : Nat} (hcode : code = hostWordCode s f (f.addr + 4 * f.applied) (f.words.getD f.applied 0))
    (h : code ≠ 0) : hostApply s = hostEnd f code { s with host := { s.host with frames := rest } } := by
  subst hcode
  rw [← hostDrop_of_frame hf]
  simp only [hostApply, hf]
  exact if_pos (bne_iff_ne.mpr h)

/-- The state in which the next posted word of frame `f` has been applied. -/
def wordApplied (f : HFrame) (s : State) : State :=
  applyWord (f.addr + 4 * f.applied) (f.words.getD f.applied 0)
    (when (changesOwned s (f.addr + 4 * f.applied) (f.words.getD f.applied 0)) (overrideEvent (f.addr + 4 * f.applied)) s)

/-- A posted word with others behind it is applied, and its frame goes on. -/
theorem hostApply_of_more (hcode : hostWordCode s f (f.addr + 4 * f.applied) (f.words.getD f.applied 0) = 0)
    (hmore : f.applied + 1 < f.words.length) :
    hostApply s = { wordApplied f s with host := { (wordApplied f s).host with frames := { f with applied := f.applied + 1 } :: rest } } := by
  simp only [hostApply, hf]
  rw [if_neg (by rw [hcode]; decide)]
  exact if_neg (by simpa using hmore)

end

/-- Settles O35: a word that fails ends its frame, and the end of a frame writes the registers of the host port alone. -/
theorem rawWritesNeverReachTheSnowpack : Obligations.RawWritesNeverReachTheSnowpack := by
  unfold Obligations.RawWritesNeverReachTheSnowpack
  refine ⟨fun s first a h hm ha hsnow => hostFault_snow_write h hm ha hsnow, fun z s f rest code hs hcan hf hcode h => ?_⟩
  have hfree : State.canonical { s with host := { s.host with frames := rest } } = true := hcan
  refine ⟨hostEnd f code { s with host := { s.host with frames := rest } }, ?_, hostEnd_frames f code _, ?_, ?_, ?_, ?_,
    fun b hb => rd_hostEnd_other hfree hb⟩
  · rw [exec_hostWriteApply, ← hs, hostApply_of_fault hf hcode h]
  all_goals rw [hostEnd_eq]

end Sys2Proof.Machine
end

section
/-! SUPPORT. Writes into the register space (R101, R125, R354, R356, R376, R381), the end of scans, and time actions (R40): what each does in each of
its cases. -/
namespace Sys2Proof.Machine

/-! ### The commands and their meanings -/

theorem exec_registerWrite (a : BitVec 22) (w : Word) (z : State) :
    exec (.registerWrite a w) z = .next (State.settle (registerWrite (a.toNat * 4) w (rasterFirst z))) := rfl
theorem exec_bankWindowWrite (a : BitVec 22) (w : Word) (z : State) :
    exec (.bankWindowWrite a w) z = .next (State.settle (windowWrite (a.toNat * 4) w (rasterFirst z))) := rfl
theorem exec_tableBaseWrite (k : Fin 6) (w : Word) (z : State) :
    exec (.tableBaseWrite k w) z = .next (State.settle (baseWrite (tableBases.getD k.val (0, 0)).1 w (rasterFirst z))) := rfl
theorem exec_calFieldWrite (a : BitVec 22) (w : Word) (z : State) :
    exec (.calFieldWrite a w) z = .next (State.settle (when (isCal (a.toNat * 4)) (calWrite (a.toNat * 4) w) (rasterFirst z))) := rfl
theorem exec_crcChcEn (n : Fin 8) (w : Word) (z : State) :
    exec (.crcChcEn n w) z = .next (State.settle (crcCtrl n.val w (rasterFirst z))) := rfl
theorem exec_crcScanEnd_good (n : Fin 8) (s : State) :
    exec (.crcScanEnd n none) s = .next (State.settle (crcScanEnd n.val none s)) := rfl
theorem exec_timeActionDue (n : Fin 16) (s : State) : exec (.timeActionDue n) s = .next (State.settle (tactDue n.val s)) := rfl

section
variable {a : Nat} {w : Word} {s : State}

/-! ### Registers and windows (R125, R376) -/

/-- A raw write that touches nothing of the firmware, or may, is written, with its event where it overrides. -/
theorem registerWrite_of_allowed (hrow : (regRow a).isSome = true) (hstays : movesLookahead s a w = false)
    (hmay : changesOwned s a w = true → s.bit Reg.TOP_HOST_CFG 0 = true) :
    registerWrite a w s = when (changesOwned s a w) (overrideEvent a) (regWrite a w s) := by
  refine if_neg ?_
  simp only [Option.isNone_eq_false_iff.mpr hrow, hstays, Bool.or_false, Bool.false_or, Bool.and_eq_true, Bool.not_eq_true', not_and]
  exact fun h => ne_false_of_eq_true (hmay h)

theorem windowWrite_of_ring {e : Nat × Nat × Nat} (he : windowOf a = some e) (hkind : e.2.2 = 0) (hbelow : a < 0x30E000) :
    windowWrite a w s = s.putLe (winByte a) 4 w.toNat := by
  obtain ⟨b, x, k⟩ := e
  subst hkind
  unfold windowWrite
  rw [he]
  exact if_neg (by omega)

theorem windowWrite_of_free_grid {e : Nat × Nat × Nat} (he : windowOf a = some e) (hkind : e.2.2 = 3)
    (hfree : bankUsed s Reg.BEAM_GRID_BANK 0 ((a - e.1) / 0x2000) = false) : windowWrite a w s = s.putLe (winByte a) 4 w.toNat := by
  obtain ⟨b, x, k⟩ := e
  subst hkind
  unfold windowWrite
  rw [he]
  exact if_neg (ne_true_of_eq_false hfree)

theorem windowWrite_of_live_lut {e : Nat × Nat × Nat} (he : windowOf a = some e) (hkind : e.2.2 = 1)
    (hused : bankUsed s Reg.CMP_LUT_BANK ((a - e.1) / 0x2000 / 2) ((a - e.1) / 0x2000 % 2) = true) :
    windowWrite a w s = s.count Reg.CMP_CNT_LUT_LIVE_WR := by
  obtain ⟨b, x, k⟩ := e
  subst hkind
  unfold windowWrite
  rw [he]
  exact if_pos hused

/-! ### Table bases and CAL fields (R101, R381) -/

theorem baseWrite_of_ok (h : basesOk (basesWith s a w) = true) : baseWrite a w s = s.swWrite a w := if_pos h

theorem baseWrite_of_bad (h : basesOk (basesWith s a w) = false) : baseWrite a w s = s.count Reg.DRAM_CNT_MAP_REJ :=
  if_neg (ne_true_of_eq_false h)

end

/-! ### Check channels (R354, R356) -/

section
variable {n : Nat} {w : Word} {s : State} (hoff : (s.rd (Reg.CRC_CH_CTRL n)).getLsbD 0 = false) (hen : w.getLsbD 0 = true)
include hoff hen

/-- EN of a channel that is off is taken by its settings. -/
theorem crcCtrl_of_enable :
    crcCtrl n w s =
      if chSettingsOk (s.swWrite (Reg.CRC_CH_CTRL n) (setFld w 0 1 0)) n = true then
        attShow ((((s.swWrite (Reg.CRC_CH_CTRL n) (setFld w 0 1 0)).wb (Reg.CRC_CH_CTRL n) 0 true).wf (Reg.CRC_CH_STATUS n) 3 2 0).modCrcCh n
          fun x => { x with started := false, badRun := 0 })
      else attShow ((s.swWrite (Reg.CRC_CH_CTRL n) (setFld w 0 1 0)).wb (Reg.CRC_CH_STATUS n) 3 true) :=
  (if_neg (ne_true_of_eq_false hoff)).trans <| if_neg (by simp [hen])

end

theorem crcScanEnd_of_busy {n : Nat} {s : State} (h : chBusy s n = true) : crcScanEnd n none s = scanFinish n true s :=
  if_neg (by simp [h])

/-! ### Time actions (R40) -/

/-- Time action `n` is over. -/
def tactTaken (n : Nat) (s : State) : State := { s with ras := { s.ras with tact := sput (fun _ => none) s.ras.tact n none } }

/-- A time action whose target can be written writes its word, late or in time. -/
theorem tactDue_of_target {n t a v : Nat} {late : Option Nat} {s u : State} (hawake : s.pwr.state < 2)
    (harmed : sget (fun _ => none) s.ras.tact n = some (t, a, v, late)) (hu : u = rasterFirst (s.advanceTo (ns16 (Int.ofNat (late.getD t)))))
    (hstands : (sget (fun _ => none) u.ras.tact n).isSome = true) (hmapped : mapped a = true) (hlive : liveOf a = none)
    (hwin : windowOf a = none) (hon : areaOff u a = false) (hstays : movesLookahead u a (BitVec.ofNat 32 v) = false) :
    tactDue n s = applyWord a (BitVec.ofNat 32 v)
      (if late.isSome then (setTactState n 3 (tactTaken n u)).count Reg.RAS_CNT_TACT_LATE else setTactState n 2 (tactTaken n u)) := by
  unfold tactDue
  rw [if_neg (by omega), harmed]
  dsimp only
  rw [← hu, if_neg (by simp [Option.isSome_iff_ne_none.mp hstands]), if_neg (by simp [hmapped, hlive, hwin, hon, hstays])]
  rfl

/-- Settles O44: each frame, write, scan and time action is in the case that the hypotheses of its clause select. -/
theorem hostFramesAndRegisterWritesTakeEffect : Obligations.HostFramesAndRegisterWritesTakeEffect := by
  unfold Obligations.HostFramesAndRegisterWritesTakeEffect
  refine ⟨?read, ?readShort, ?readSilent, ?readBurst, ?write, ?writeBurst, ?status, ?opcode, ?readTimeout, ?apply, ?writeTimeout, ?register,
    ?window, ?liveLut, ?base, ?badBase, ?cal, ?channelOn, ?channelBad, ?scanEnd, ?tact⟩
  case read =>
    intro a z s hs hanswers hidle t ht hgood
    have hwords := hostWords_one hgood
    rw [exec_hostRead32, ← hs]
    exact congrArg (fun x => Host.Outcome.next (State.settle x))
      ((hostRead_of_words hanswers hidle ht (by rw [hwords])).trans (by rw [hwords]))
  case readShort =>
    intro ecc z s hs hanswers
    rw [exec_hostRead32, ← hs, hostRead, hostFrame_of_answers hanswers]
  case readSilent =>
    intro a ecc z s hs hsilent
    rw [exec_hostRead32, ← hs, hostRead, hostFrame_of_silent hsilent]
  case readBurst =>
    intro a n z s hs hanswers hn hidle t ht hgood
    rw [exec_hostReadBurst, ← hs, Nat.min_eq_left hn, hostRead_of_words hanswers hidle ht hgood]
  case write =>
    intro a d s hanswers hlen hroom
    have hone : (hostData d).length = 1 := by rw [hostData_length, hlen]
    rw [exec_hostWrite32, hostWrite_of_room hanswers (by omega) (List.ne_nil_of_length_pos (by omega)) (by omega) (by omega)]
  case writeBurst =>
    intro a d s hanswers hwords hsome hlen hroom
    have hcount : (hostData d).length = d.length / 4 := hostData_length d
    rw [exec_hostWriteBurst, hostWrite_of_room hanswers hwords (List.ne_nil_of_length_pos hsome) (by omega) (by omega)]
  case status =>
    intro n s hanswers
    rw [exec_hostStatus, hostFrame_of_answers hanswers]
  case opcode =>
    intro op s hanswers hop
    rw [exec_badOpcode, hostOpcode_of_unknown hanswers hop, hostCount_of_error (by decide)]
  case readTimeout =>
    intro s hanswers
    rw [exec_hostReadTimeout, hostFrame_of_answers hanswers, hostCount_of_timeout]
  case apply =>
    intro z s hs f r hf hcode hmore
    rw [exec_hostWriteApply, ← hs, hostApply_of_more hf hcode hmore, wordApplied]
  case writeTimeout =>
    intro s f r hf
    rw [exec_hostWriteTimeout, hostDrop_of_frame hf]
  case register =>
    intro a w z s hs hrow hstays hmay
    rw [exec_registerWrite, ← hs, registerWrite_of_allowed hrow hstays hmay]
  case window =>
    intro a w z s hs e he hkind
    rw [exec_bankWindowWrite, ← hs]
    rcases hkind with ⟨hring, hbelow⟩ | ⟨hgrid, hfree⟩
    · rw [windowWrite_of_ring he hring hbelow]
    · rw [windowWrite_of_free_grid he hgrid hfree]
  case liveLut =>
    intro a w z s hs e he hkind hused
    rw [exec_bankWindowWrite, ← hs, windowWrite_of_live_lut he hkind hused]
  case base =>
    intro k w z s hs hok
    rw [exec_tableBaseWrite, ← hs, baseWrite_of_ok hok]
  case badBase =>
    intro k w z s hs hbad
    rw [exec_tableBaseWrite, ← hs, baseWrite_of_bad hbad]
  case cal =>
    intro a w z s hs hcal
    rw [exec_calFieldWrite, ← hs, hcal]
    rfl
  case channelOn =>
    intro n w z s hs hoff hen hok
    rw [exec_crcChcEn, ← hs, crcCtrl_of_enable hoff hen, if_pos hok]
  case channelBad =>
    intro n w z s hs hoff hen hbad
    rw [exec_crcChcEn, ← hs, crcCtrl_of_enable hoff hen, if_neg (ne_true_of_eq_false hbad)]
  case scanEnd =>
    intro n s hbusy
    rw [exec_crcScanEnd_good, crcScanEnd_of_busy hbusy]
  case tact =>
    intro n s t a v late u hawake harmed hu hstands hmapped hlive hwin hon hstays
    rw [exec_timeActionDue, tactDue_of_target hawake harmed hu hstands hmapped hlive hwin hon hstays, tactTaken]

end Sys2Proof.Machine
end

section
/-! SUPPORT. The events of mailboxes and their transports (R320, R321, R327, R330, R331, R343), of timed commands (R42), and of Ethernet and CAN
(R312 to R315): what each does in each of its cases. -/
namespace Sys2Proof.Machine

/-! ### The commands and their meanings -/

theorem exec_mbnInSluice (n : Fin 8) (w : Word) (s : State) : exec (.mbnInSluice n w) s = .next (State.settle (inSluice n.val w s)) := rfl
theorem exec_mbnOutSluice (n : Fin 8) (w : Word) (s : State) : exec (.mbnOutSluice n w) s = .next (State.settle (outSluice n.val w s)) := rfl
theorem exec_responseRelease (n : Fin 8) (s : State) : exec (.responseRelease n) s = .next (State.settle (releaseHeld n.val s)) := rfl
theorem exec_timedCommandDue (n : Fin 16) (s : State) : exec (.timedCommandDue n) s = .next (State.settle (timedDue n.val s)) := rfl
theorem exec_forwardedResponse (fid : BitVec 12) (l : List Byte) (s : State) :
    exec (.forwardedResponse fid l) s = .next (State.settle (forwarded fid.toNat l s)) := rfl
theorem exec_forwardRecordExpiry (n : Nat) (s : State) :
    exec (.forwardRecordExpiry n) s = .next (State.settle (forwardExpiry n s)) := rfl
theorem exec_mbxCanAssyTimeout (m : Fin 2) (s : State) :
    exec (.mbxCanAssyTimeout m) s = .next (State.settle (mbxAsmTimeout m.val s)) := rfl
theorem exec_beamCanAssyTimeout (m : Fin 2) (s : State) :
    exec (.beamCanAssyTimeout m) s = .next (State.settle (beamAsmTimeout m.val s)) := rfl
theorem exec_stagedLoadTimeout (code obj : BitVec 16) (s : State) :
    exec (.stagedLoadTimeout code obj) s = .next (State.settle (loadTimeout code.toNat obj.toNat s)) := rfl
theorem exec_macLinkChange (m : Fin 2) (sync : Bool) (speed : Fin 4) (an fault signal : Bool) (s : State) :
    exec (.macLinkChange m sync speed an fault signal) s = .next (State.settle (macLink m.val sync speed.val an fault signal s)) := rfl
theorem exec_macFrameRx (m : Fin 2) (ps : Nat) (f : List Byte) (ok : Bool) (z : State) :
    exec (.macFrameRx m ps f ok) z = .next (State.settle (frameIn m.val ps f ok (rasterFirst z))) := rfl
theorem exec_canFrameRx (m : Fin 2) (id : BitVec 29) (x : Bool) (fl : Fin 8) (d : List Byte) (z : State) :
    exec (.canFrameRx m id x fl d) z = .next (State.settle (canIn m.val id.toNat x fl.val d (rasterFirst z))) := rfl
theorem exec_canErrorFrame (m : Fin 2) (tec rec : BitVec 9) (s : State) :
    exec (.canErrorFrame m tec rec) s = .next (State.settle (canError m.val tec.toNat rec.toNat s)) := rfl
theorem exec_busOffRecovery (m : Fin 2) (s : State) : exec (.busOffRecovery m) s = .next (State.settle (busOffRecovery m.val s)) := rfl
theorem exec_canRestart (m : Fin 2) (z : State) : exec (.canRestart m) z = .next (State.settle (canBack m.val (rasterFirst z))) := rfl

section
variable {n : Nat} {s : State}

/-! ### Mailboxes (R320, R330, R331) -/

theorem inSluice_of_complete {w : Word} {t : State} (ht : t = s.wf (Reg.MBX_MB_IN_SLUICE n) 0 13 (w.toNat % 8192)) (hown : mbClass n ≠ 8)
    (hsome : (inAvail t n == 0) = false) (hwhole : inComplete t n = true) :
    inSluice n w s = { t with mbx := { t.mbx with samples := t.mbx.samples ++ [(tickNow t, n, inWr t n, 0)] } } := by
  subst ht
  exact (if_neg (by simpa using hown)).trans <| (if_neg (ne_true_of_eq_false hsome)).trans <| if_neg (by simp [hwhole])

theorem outSluice_of_client {w : Word} (hown : mbClass n ≠ 8) :
    outSluice n w s = s.wf (Reg.MBX_MB_OUT_SLUICE n) 0 13 (w.toNat % 8192) := if_neg (by simpa using hown)

/-- The one response that a mailbox holds, first among those held, is placed where its ring has room. -/
theorem releaseHeld_of_one {h : Held} {l : List Held} (hrunning : mbPaused s = false) (hheld : s.mbx.held = h :: l)
    (hone : s.mbx.held.filter (·.mb == n) = [h]) (hroom : ringSize (h.payload.length + protectExtra s n) ≤ outFree s n) :
    releaseHeld n s =
      placeMsg n h.client h.cmd h.flags h.seq h.target h.payload { s with mbx := { s.mbx with held := s.mbx.held.erase h } } := by
  have hmem : h ∈ s.mbx.held.filter (·.mb == n) := by rw [hone]; exact List.mem_singleton_self h
  have hbox : (h.mb == n) = true := (List.mem_filter.mp hmem).2
  have hfirst : s.mbx.held.find? (·.mb == n) = some h := by rw [hheld]; exact List.find?_cons_of_pos hbox
  unfold releaseHeld
  rw [if_neg (ne_true_of_eq_false hrunning), hone]
  exact if_pos (by simp [hfirst, hroom])

theorem forwarded_of_record {fid : Nat} {l : List Byte} {f : Fwd}
    (hf : (s.mbx.fwd.find? fun x => (x.dest == fid || x.dest == 0xFFF) && x.seq == leAt l 4 2) = some f)
    (hfit : ((l.drop 16).take (leAt l 6 2)).length + protectExtra s f.mb ≤ mbLimit f.mb) :
    forwarded fid l s = sendMsg f.mb f.client (leAt l 0 2) (leAt l 2 1) f.origSeq (leAt l 8 4) ((l.drop 16).take (leAt l 6 2)) s := by
  unfold forwarded
  rw [hf]
  exact if_neg (by omega)

/-! ### Timed commands (R42) -/

/-- A timed command that is due where the raster stands runs. -/
theorem timedDue_of_ready {d : Timed} {t : State} (hd : s.mbx.timed[n]? = some d) (hrunning : s.bit Reg.MBX_STATUS 0 = false)
    (hawake : s.pwr.quiesced = false) (ht : t = rasterFirst (if timedOnRaster d.ctx = true then s else s.advanceTo (ns16 (Int.ofNat d.t))))
    (hstands : t.mbx.timed[n]? = some d) (hrunning' : t.bit Reg.MBX_STATUS 0 = false) (hready : timedReady t d.ctx d.t = true)
    (hon : t.pwr.stopped = false) :
    timedDue n s =
      timedCounts (runTimed (svcBody d.ctx.code) d.ctx d.t d.tol { t with mbx := { t.mbx with timed := t.mbx.timed.eraseIdx n } }) := by
  unfold timedDue
  rw [hd]
  dsimp only
  rw [← ht, if_neg (by simp [hrunning, hawake]), if_pos (by simp [hstands, hrunning', hready]), if_neg (ne_true_of_eq_false hon)]

/-! ### Timeouts (R145, R321, R343) -/

theorem mbxAsmTimeout_of_assembly {a : Assembly} (h : mbxAsm s n = some a) :
    mbxAsmTimeout n s = setMbxAsm n none (s.advanceTo (ns16 (a.start + s.fd Reg.MBX_CAN_ASSY 0 8 * 1000000 + 1000 : Nat))) := by
  unfold mbxAsmTimeout
  rw [h]

theorem beamAsmTimeout_of_assembly {a : Assembly} (h : beamAsm s n = some a) :
    beamAsmTimeout n s =
      (setBeamAsm n none (s.advanceTo (ns16 (a.start + beamAssyNs s + 1000 : Nat)))).count Reg.BEAM_CNT_ASSY := by
  unfold beamAsmTimeout
  rw [h]

theorem loadTimeout_of_load {code obj : Nat} {l : Load} (h : loadOf s code obj = some l) :
    loadTimeout code obj s = dropLoad code obj (s.advanceTo (ns16 (l.last + 10000000000 : Nat))) := by
  unfold loadTimeout
  rw [h]

/-! ### Ethernet (R312, R314) -/

/-- A link that comes up is counted and raises NET_LINK. -/
theorem macShow_up {w : Nat} (hwas : s.bit (Reg.MAC_STATUS n) 0 = false) :
    macShow n true w s =
      ((s.wr (Reg.MAC_STATUS n) (BitVec.ofNat 32 (1 + w))).count (Reg.MAC_CNT_LINK_CHG n)).event 0x00A3 11 0 12 n [1, w / 2 % 4] :=
  if_neg (by simp [hwas])

/-- The state of the lane of a MAC whose PCS has synchronized. -/
def laneSynced (n : Nat) (signal : Bool) (s : State) : State :=
  (setStage 5 (macLaneOf s n) s).wb (Reg.SDS_LANE_STATE (macLaneOf s n)) 15 signal

theorem macLink_up {speed : Nat} {an fault signal : Bool} {w : Nat} (hon : macOn s n = true)
    (hready : s.bit (Reg.SDS_Q_STATUS (macLaneOf s n / 4)) 1 = true) (han : anUsed s n = true → an = true)
    (hw : w = 2 * macSpeed (setStage 5 (macLaneOf s n) s) n speed +
      (if (anUsed (setStage 5 (macLaneOf s n) s) n && an) = true then 8 else 0) + (if fault = true then 16 else 0)) :
    macLink n true speed an fault signal s = macShow n true w (laneSynced n signal s) := by
  have hup : (true && (!(anUsed s n) || an)) = true := by
    cases h : anUsed s n
    · rfl
    · simp [han h]
  subst hw
  refine (if_neg (by simp [hon, hready])).trans ?_
  simp only [hup, if_true, laneSynced]

/-- An ARP request for the own address, in a frame that passes, is answered. -/
theorem frameIn_of_arp {ps : Nat} {f p : List Byte} {t : State} (hp : p = f.drop (typeAt f + 2)) (ht : t = s.count (Reg.MAC_CNT_RX_OK n))
    (hen : s.bit (Reg.MAC_CTRL n) 0 = true) (hlink : s.bit (Reg.MAC_STATUS n) 0 = true) (hlo : 60 ≤ f.length) (hhi : f.length ≤ 1518)
    (hdest : macAccepts s n (beAt f 0 6) = true) (htype : beAt f (typeAt f) 2 = 0x0806) (hrequest : p.take 8 = [0, 1, 8, 0, 6, 4, 0, 1])
    (hown : beAt p 24 4 = (t.rd (Reg.MAC_IP n)).toNat) :
    frameIn n ps f true s =
      (t.emit (.eth n (beAt p 14 4) 0 0 ([0, 1, 8, 0, 6, 4, 0, 2] ++ beBytes 6 (ownMac t n) ++ (p.drop 24).take 4 ++ (p.drop 8).take 10))).count
        (Reg.MAC_CNT_TX_OK n) := by
  subst hp ht
  unfold frameIn
  rw [if_neg (by simp [hen, hlink]), if_neg (by decide), if_neg (by simp only [Bool.or_eq_true, decide_eq_true_eq]; omega),
    if_neg (by simp [hdest, htype])]
  simp only [htype]
  exact if_pos (by simp [hrequest, hown])

/-! ### CAN (R315) -/

theorem stripAt_of_unprotected {kind index : Nat} {d : List Byte} {f : List Byte → State → State} (h : chanAt s 2 kind index = none) :
    stripAt kind index d f s = f d s := by
  unfold stripAt
  rw [h]

/-- Buffer `b` of controller `n` holds a frame. -/
def bufferFilled (n b flags : Nat) (d : List Byte) (s : State) : State :=
  ({ s with net := { s.net with canBuf := sput (fun _ => []) s.net.canBuf (64 * n + b) d } }.wb (Reg.CAN_MB_STATUS n b) 0 true).wf
    (Reg.CAN_MB_STATUS n b) 2 7 (canDlc d.length + 16 * flags)

theorem canBuffer_of_empty {id b flags : Nat} {x : Bool} {d : List Byte}
    (hb : ((List.range 64).find? fun b => canBufMatches s n b id x) = some b) (hempty : s.bit (Reg.CAN_MB_STATUS n b) 0 = false)
    (hchan : chanAt s 2 (1 + n) b = none) : canBuffer n id x flags d s = bufferFilled n b flags d s := by
  unfold canBuffer
  rw [hb]
  exact (if_neg (ne_true_of_eq_false hempty)).trans (stripAt_of_unprotected hchan)

/-- A frame that is for no engine stays in its buffer. -/
theorem canIn_of_buffer {id b flags : Nat} {x : Bool} {d : List Byte} {t u : State} (hon : canOn s n = true)
    (htakes : canRefused s n flags = false) (ht : t = canGoodRx n (s.count (Reg.CAN_CNT_RX n)))
    (hb : ((List.range 64).find? fun b => canBufMatches t n b id x) = some b) (hempty : t.bit (Reg.CAN_MB_STATUS n b) 0 = false)
    (hchan : chanAt t 2 (1 + n) b = none) (hu : u = bufferFilled n b flags d t)
    (hmbx : canIdIs (u.rd (Reg.CAN_MBX_ID_RX n)) id x = false) (hbeam : canIdIs (u.rd Reg.BEAM_CAN_ID) id x = false) :
    canIn n id x flags d s = u := by
  have hbuf : canBuffer n id x flags d t = u := (canBuffer_of_empty hb hempty hchan).trans hu.symm
  subst ht
  refine (if_neg (by simp [hon, htakes])).trans ?_
  simp only [when, hbuf, hmbx, hbeam, Bool.false_eq_true, if_false]

theorem canError_of_on {tec rec : Nat} (hon : canOn s n = true) :
    canError n tec rec s = when (decide (255 < tec)) (State.count · (Reg.CAN_CNT_BUSOFF n)) (canErrors n tec rec (s.count (Reg.CAN_CNT_ERR n))) :=
  if_neg (by simp [hon])

theorem canErrors_of_active {tec rec : Nat} (h : tec ≤ 255) :
    canErrors n tec rec s = ((s.wf (Reg.CAN_STATUS n) 0 2 (if (127 < tec || 127 < rec) = true then 1 else 0)).wf (Reg.CAN_STATUS n) 8 8 tec).wf
      (Reg.CAN_STATUS n) 16 8 (min rec 255) := by
  unfold canErrors
  rw [if_neg (by omega), Nat.min_eq_left h]

theorem canErrors_of_busOff {tec rec : Nat} (h : 255 < tec) :
    canErrors n tec rec s = ((s.wf (Reg.CAN_STATUS n) 0 2 2).wf (Reg.CAN_STATUS n) 8 8 255).wf (Reg.CAN_STATUS n) 16 8 (min rec 255) := by
  unfold canErrors
  rw [if_pos h, Nat.min_eq_right (by omega)]

theorem canBack_of_busOff (h : s.fd (Reg.CAN_STATUS n) 0 2 = 2) : canBack n s = s.wr (Reg.CAN_STATUS n) 0 := if_pos (by simp [h])

theorem busOffRecovery_of_automatic (hauto : s.bit (Reg.CAN_CTRL n) 4 = false) : busOffRecovery n s = canBack n s :=
  if_neg (ne_true_of_eq_false hauto)

end

/-- Settles O45: each event is in the case that the hypotheses of its clause select. -/
theorem mailboxTransportAndNetworkEventsTakeEffect : Obligations.MailboxTransportAndNetworkEventsTakeEffect := by
  unfold Obligations.MailboxTransportAndNetworkEventsTakeEffect
  refine ⟨?inSluice, ?outSluice, ?dequeue, ?release, ?timed, ?forwarded, ?record, ?mbxAssembly, ?beamAssembly, ?load, ?macLink, ?arp, ?canFrame,
    ?canError, ?busOff, ?recovery, ?restart⟩
  case inSluice =>
    intro n w s t ht hown hsome hwhole
    rw [exec_mbnInSluice, inSluice_of_complete ht hown hsome hwhole]
  case outSluice =>
    intro n w s hown
    rw [exec_mbnOutSluice, outSluice_of_client hown]
  case dequeue =>
    rintro z s hs e t u m code rfl rfl hrunning hstarted hawake he hwhole hfits hgood ht halive rfl hchan hflags hallowed
    obtain rfl : t = dequeued e.2.1 (msgAtHead s e.2.1 e.2.2.2) s := ht
    rw [exec_messageDequeue, ← hs, dequeueOne, dequeue_next ⟨hrunning, hstarted, hawake⟩ he, if_neg (ne_false_of_eq_true hwhole),
      if_neg (by omega), if_neg (ne_false_of_eq_true hgood), judge_unprotected hchan, if_neg halive, if_neg (ne_true_of_eq_false hflags),
      if_neg (ne_true_of_eq_false hallowed)]
  case release =>
    intro n s h l hrunning hheld hone hroom
    rw [exec_responseRelease, releaseHeld_of_one hrunning hheld hone hroom]
  case timed =>
    intro n s d t hd hrunning hawake ht hstands hrunning' hready hon
    rw [exec_timedCommandDue, timedDue_of_ready hd hrunning hawake ht hstands hrunning' hready hon]
  case forwarded =>
    intro fid l s f hf hfit
    rw [exec_forwardedResponse, forwarded_of_record hf hfit]
  case record =>
    intro n s
    rw [exec_forwardRecordExpiry, forwardExpiry]
  case mbxAssembly =>
    intro m s a ha
    rw [exec_mbxCanAssyTimeout, mbxAsmTimeout_of_assembly ha]
  case beamAssembly =>
    intro m s a ha
    rw [exec_beamCanAssyTimeout, beamAsmTimeout_of_assembly ha]
  case load =>
    intro code obj s l hl
    rw [exec_stagedLoadTimeout, loadTimeout_of_load hl]
  case macLink =>
    intro m speed a r g s hon hready han t w ht hw hwas
    obtain rfl : t = laneSynced m.val g s := ht
    rw [exec_macLinkChange, macLink_up hon hready han hw, macShow_up hwas]
  case arp =>
    intro m ps f p z s hs t hp ht hen hlink hlo hhi hdest htype hrequest hown
    rw [exec_macFrameRx, ← hs, frameIn_of_arp hp ht hen hlink hlo hhi hdest htype hrequest hown]
  case canFrame =>
    intro m id x fl d z s hs hon htakes b t u ht hb hempty hchan hu hmbx hbeam
    rw [exec_canFrameRx, ← hs, canIn_of_buffer hon htakes ht hb hempty hchan hu hmbx hbeam]
  case canError =>
    intro m tec rec s hon htec
    rw [exec_canErrorFrame, canError_of_on hon, canErrors_of_active htec, decide_eq_false (by omega)]
    rfl
  case busOff =>
    intro m tec rec s hon htec
    rw [exec_canErrorFrame, canError_of_on hon, canErrors_of_busOff htec, decide_eq_true htec]
    rfl
  case recovery =>
    intro m s hauto hoff
    rw [exec_busOffRecovery, busOffRecovery_of_automatic hauto, canBack_of_busOff hoff]
  case restart =>
    intro m z s hs hoff
    rw [exec_canRestart, ← hs, canBack_of_busOff hoff]

end Sys2Proof.Machine
end

section
/-! SUPPORT. The supply rail VOUT_3V3 (R441) under the supply events, OFF, the shutdown and a reset: what each leaves of it, from the laws of
the parts of a reset. -/
namespace Sys2Proof.Machine

theorem exec_shutdown (s : State) : exec .shutdown s = .next (State.settle (shutdown s)) := rfl
theorem exec_por (rise : Bool) (k : Fin 8) (s : State) : exec (.por rise k) s = .next (State.settle (porEdge rise k.val s)) := rfl
theorem exec_vinUndervoltage (mv : BitVec 16) (s : State) :
    exec (.vinUndervoltage mv) s = .next (State.settle (vinUnder mv.toNat s)) := rfl
theorem exec_vinUndervoltageEnd (s : State) : exec .vinUndervoltageEnd s = .next (State.settle (vinUnderEnd s)) := rfl

/-- An event of the rail that ends settled ends with the rail as its own work leaves it. -/
theorem next_settle_vout {i : Instr} {s t : State} {b : Bool} (he : exec i s = .next (State.settle t)) (hv : vout3v3 t = b) :
    ∃ u, exec i s = .next u ∧ vout3v3 u = b := ⟨_, he, (vout_settle t).trans hv⟩

theorem vout_of_vinLow {s : State} (h : s.pwr.vinLow = true) : vout3v3 s = false := by simp [vout3v3, h]

theorem vout_of_vinUnder {s : State} (h : s.hlt.vinUnder = true) : vout3v3 s = false := by simp [vout3v3, h]

theorem vout_of_off {s : State} (h : s.pwr.state = 4) : vout3v3 s = false := by simp [vout3v3, h]

theorem vout_of_shut {s : State} (h : s.pwr.shut = true) : vout3v3 s = false := by simp [vout3v3, h]

/-- Below 4.5 V every live segment goes to DEFAULT, and none brings the rail back. -/
theorem vout_vinUnder (mv : Nat) (s : State) : vout3v3 (vinUnder mv s) = false := by
  unfold vinUnder
  refine (vout_forEach _ _ (fun g t => ?_) _).trans (vout_of_vinUnder rfl)
  split
  · exact vout_segToDefault g t
  · rfl

theorem vout_vinUnderEnd (s : State) : vout3v3 (vinUnderEnd s) = (!s.pwr.vinLow && s.pwr.state != 4 && !s.pwr.shut) := by
  show (!s.pwr.vinLow && !false && s.pwr.state != 4 && !s.pwr.shut) = _
  rw [Bool.not_false, Bool.and_true]

theorem vout_servoShow (s : State) : vout3v3 (servoShow s) = vout3v3 s := (vout_wr _ _ _).trans (vout_wr _ _ _)

/-- A reset leaves of the rail what blanking the power state leaves. -/
theorem vout_resetNow (cold : Bool) (cause : Nat) (s : State) : vout3v3 (resetNow cold cause s) = vout3v3 (blank cold s) := by
  unfold resetNow
  refine (vout_when _ _ (fun t => (vout_snowReset _ _).trans (vout_servoShow t)) _).trans ?_
  have hcounted : ∀ t : State, vout3v3 (if (!cold) = true then t.count Reg.PMU_CNT_WARM
      else when (cause != 1) (State.count · Reg.PMU_CNT_COLD) t) = vout3v3 t := by
    intro t
    split
    · exact vout_count _ _
    · exact vout_when _ _ (fun u => vout_count u _) t
  exact (hcounted _).trans ((vout_wr _ _ _).trans ((vout_when _ _ vout_aonLoad _).trans (vout_strapsApply _)))

/-- Settles O58: off in each state that has a cause for it, and a reset blanks no cause but OFF and the shutdown. -/
theorem voutStaysOnThroughResetsAndGoesWithVin : Obligations.VoutStaysOnThroughResetsAndGoesWithVin := by
  unfold Obligations.VoutStaysOnThroughResetsAndGoesWithVin
  refine ⟨?shutdown, ?por, ?under, ?underEnd, ?off, ?reset⟩
  case shutdown =>
    intro s
    exact next_settle_vout (exec_shutdown s) (vout_of_shut rfl)
  case por =>
    intro s k
    exact next_settle_vout (exec_por false k s) (vout_of_vinLow rfl)
  case under =>
    intro s mv
    exact next_settle_vout (exec_vinUndervoltage mv s) (vout_vinUnder _ s)
  case underEnd =>
    intro s
    exact next_settle_vout (exec_vinUndervoltageEnd s) (vout_vinUnderEnd s)
  case off =>
    intro s
    exact vout_of_off rfl
  case reset =>
    intro cold s cause hstate hshut
    rw [vout_resetNow, vout_blank]
    simp [vout3v3, hstate, hshut]

end Sys2Proof.Machine
end

section
/-! SUPPORT. The events of housekeeping and calibration (R387, R394, R406), of power states, resets and supplies (R398, R400, R413 to R428),
of the start-up and firmware updates (R336, R337, R429 to R432), and the last events of stream groups and lanes (R98, R110, R311): what each
does in each of its cases. -/
namespace Sys2Proof.Machine

/-! ### The commands and their meanings -/

theorem exec_hkSlotEnd (ch : Fin 48) (raw : HkRaw) (s : State) : exec (.hkSlotEnd ch raw) s = .next (State.settle (slotEnd ch.val raw s)) := rfl
theorem exec_hkRoundEnd (z : State) : exec .hkRoundEnd z = .next (State.settle (roundEnd (rasterFirst z))) := rfl
theorem exec_calibrationRunEnd (u : Fin 97) (l : List Nat) (e : Byte) (m : BitVec 10) (b : Bool) (s : State) :
    exec (.calibrationRunEnd u l e m b) s = .next (State.settle (runEnd u.val l e.toNat m.toNat b s)) := rfl
theorem exec_prewarnTrip (s : State) : exec .prewarnTrip s = .next (State.settle (prewarn s)) := rfl
theorem exec_prewarnRelease (s : State) : exec .prewarnRelease s = .next (State.settle (prewarnEnd s)) := rfl
theorem exec_stopStepDone (s : State) : exec .stopStepDone s = .next (State.settle (stepDone s)) := rfl
theorem exec_stopStepTimeout (s : State) : exec .stopStepTimeout s = .next (State.settle (stepTimeout s)) := rfl
theorem exec_wake (hcs : Bool) (s : State) : exec (.wake hcs) s = .next (State.settle (wakeBall hcs s)) := rfl
theorem exec_aonTimerWake (s : State) : exec .aonTimerWake s = .next (State.settle (timerWake s)) := rfl
theorem exec_tempWake (s : State) : exec .tempWake s = .next (State.settle (wakeBy 2 (s.wb Reg.AON_STATUS 3 true))) := rfl
theorem exec_thawStepEnd (s : State) : exec .thawStepEnd s = .next (State.settle (thawStep s)) := rfl
theorem exec_vinOvervoltage (high : Bool) (mv : BitVec 16) (s : State) :
    exec (.vinOvervoltage high mv) s = .next (State.settle (vinOver high mv.toNat s)) := rfl
theorem exec_resetN (low : Bool) (s : State) : exec (.resetN low) s = .next (State.settle (resetPin low s)) := rfl
theorem exec_watchdog (s : State) : exec .watchdog s = .next (State.settle (resetReq false 3 s)) := rfl
theorem exec_lockstep (s : State) :
    exec .lockstep s = .next (State.settle (resetReq false 6 (s.event 0x0011 1 3 clsDevice 0 []))) := rfl
theorem exec_clockFail (s : State) :
    exec .clockFail s = .next (State.settle (resetReq false 7 (s.event 0x0012 1 2 clsDevice 0 [2]))) := rfl
theorem exec_aonLoss (s : State) : exec .aonLoss s = .next (State.settle (aonLoss s)) := rfl
theorem exec_vioLoss (b : Fin 2) (s : State) : exec (.vioLoss b) s = .next (State.settle (vioLoss b.val s)) := rfl
theorem exec_vioReturn (b : Fin 2) (high : Bool) (s : State) :
    exec (.vioReturn b high) s = .next (State.settle (vioReturn b.val high s)) := rfl
theorem exec_xtalOk (s : State) : exec .xtalOk s = .next (State.settle (s.wb Reg.AON_STATUS 2 true)) := rfl
theorem exec_bootRomVerify (x y : Bool) (s : State) : exec (.bootRomVerify x y) s = .next (State.settle (bootVerify x y s)) := rfl
theorem exec_lightStart (s : State) : exec .lightStart s = .next (State.settle (lightStart s)) := rfl
theorem exec_dramReady (good : Bool) (s : State) : exec (.dramReady good) s = .next (State.settle (dramReady good s)) := rfl
theorem exec_fwResume (s : State) : exec .fwResume s = .next (State.settle (fwResume s)) := rfl
theorem exec_fwConfirm (s : State) : exec .fwConfirm s = .next (State.settle (fwConfirm s)) := rfl
theorem exec_fwUpdateTimeout (s : State) : exec .fwUpdateTimeout s = .next (State.settle (fwTimeout s)) := rfl
theorem exec_fwVerifyDone (good : Bool) (s : State) : exec (.fwVerifyDone good) s = .next (State.settle (verifyDone good s)) := rfl
theorem exec_startupReady (s : State) : exec .startupReady s = .next (State.settle (startupReady s)) := rfl
theorem exec_badStreamPacket (n : Fin 4) (x : RxFrame) (s : State) :
    exec (.badStreamPacket n x) s = .next (State.settle (badStreamPacket n.val x.frame x.eop s)) := rfl
theorem exec_streamSendFinish (n : Fin 4) (s : State) : exec (.streamSendFinish n) s = .next (State.settle (streamFinish n.val s)) := rfl
theorem exec_prbsLock (l : Fin 24) (n b : Nat) (s : State) :
    exec (.prbsLock l n b) s = .next (State.settle (prbsBits l.val ((List.range n).map b.testBit) s)) := rfl

section
variable {s : State}

/-! ### Housekeeping (R387, R394) -/

section slots
variable {ch : Nat} (hon : s.bit Reg.HK_CTRL 0 = true) (hrole : roleOff s ch = false)
include hon hrole

theorem slotEnd_of_voltage {v : Int} (hlo : 18 ≤ ch) (hhi : ch < 42) :
    slotEnd ch (.value v) s = chResult ch (max 0 (min 65535 v)) false s :=
  calc slotEnd ch (.value v) s
    _ = _ := if_neg (by simp [hon, hrole])
    _ = _ := if_neg (by omega)
    _ = _ := if_neg (by omega)
    _ = chResult ch (max 0 (min 65535 v)) false s := if_neg (by omega)

theorem slotEnd_of_die {v : Int} (hlo : 12 ≤ ch) (hhi : ch < 18) :
    slotEnd ch (.value v) s = chResult ch (clamp16 v) (tempOut v) s :=
  calc slotEnd ch (.value v) s
    _ = _ := if_neg (by simp [hon, hrole])
    _ = _ := if_neg (by omega)
    _ = _ := if_neg (by omega)
    _ = chResult ch (clamp16 v) (tempOut v) s := if_pos hhi

theorem slotEnd_of_thermistor {c : Fin 4096} {f : Int × Int} (hlo : 4 ≤ ch) (hhi : ch < 12)
    (hf : thermistorTemp (s.fd (Reg.HK_CH_CFG ch) 16 16) c.val = some f) :
    slotEnd ch (.code c) s = chResult ch (clamp16 (tempStep s f.1 f.2)) (decide (c.val < 41 ∨ 4054 < c.val)) s.useFree := by
  unfold slotEnd
  rw [if_neg (by simp [hon, hrole]), if_neg (by omega)]
  dsimp only
  rw [if_neg (by simp only [Bool.or_eq_true, decide_eq_true_eq]; omega), hf]

end slots

theorem roundEnd_of_on (hon : s.bit Reg.HK_CTRL 0 = true) :
    roundEnd s =
      (let t := forEach ((roundSensors s).map fun k => (k, brokenNow s k)) (fun e u => brokenEval e.1 e.2 u) s
      let u := (calTriggers (arrayEval (forEach (roundSensors t) bandEval t))).count Reg.HK_CNT_ROUND
      if u.bit Reg.RAS_STATUS 0 = true then u else bandsApply u) := if_neg (by simp [hon])

theorem runEnd_of_running {u : Nat} {vals : List Nat} {eye margin : Nat} {pass : Bool} (h : s.hk.calRun = some u) :
    runEnd u vals eye margin pass s =
      (let t : State := { s with hk := { s.hk with calRun := none, calQueue := s.hk.calQueue.erase u } }
      calComplete u eye (calEnd u true vals eye pass (dramEye u eye margin ((t.wb Reg.HK_STATUS 3 false).wf Reg.HK_STATUS 4 7 0)))) :=
  if_pos (by simp [h])

/-! ### The orderly stop (R398, R399) -/

theorem prewarn_of_down (h : s.pwr.inReset = true ∨ s.pwr.stopped = true) : prewarn s = s.wb Reg.HK_STATUS 1 true := if_pos (by simpa using h)

/-- The state of the device after the trip: stopped, its power state over, with the THERMAL event `v` raised last kept for step 5. -/
def stopBegun (v : State) : State :=
  modPwr (fun p => { p with
    stopped := true, halted := true, pipe := 0, target := 0, step := 0, thaw := 0, stopAt := v.tickNs
    stopEv := v.mbx.log.drop (v.mbx.log.length - 1) }) v

theorem prewarn_of_up {t u v : State} (hreset : s.pwr.inReset = false) (hstopped : s.pwr.stopped = false) (ht : t = s.wb Reg.HK_STATUS 1 true)
    (hu : u = t.event 0x0022 14 2 13 12 [0, 12]) (hv : v = { u with mbx := { u.mbx with evNew := t.mbx.evNew, logSaved := u.mbx.log } })
    (hrun : u.hk.calRun = none) : prewarn s = forEach (linksOn (stopBegun v)) (linkEn · false) (stopBegun v) := by
  unfold prewarn
  rw [if_neg (by simp [hreset, hstopped])]
  dsimp only
  rw [← ht, ← hu, ← hv, hrun]
  rfl

theorem prewarnEnd_of_none (h : (s.wb Reg.HK_STATUS 1 false).pwr.resetHeld = none) : prewarnEnd s = s.wb Reg.HK_STATUS 1 false := by
  unfold prewarnEnd
  dsimp only
  rw [h]

theorem prewarnEnd_of_held {k c : Nat} (h : (s.wb Reg.HK_STATUS 1 false).pwr.resetHeld = some (k, c)) :
    prewarnEnd s = modPwr (fun p => { p with inReset := p.resetLow }) (resetNow (k == 1) c (s.wb Reg.HK_STATUS 1 false)) := by
  unfold prewarnEnd
  dsimp only
  rw [h]

/-! ### Power states (R413 to R425) -/

theorem stepDone_of_idle (htarget : s.pwr.target = 1) (hstep : s.pwr.step = 4) : stepDone s = idleReached s := by
  unfold stepDone
  simp only [htarget, hstep]
  rfl

theorem stepDone_of_sleep (htarget : s.pwr.target = 2) (hstep : s.pwr.step = 6) : stepDone s = asleep s := by
  unfold stepDone
  simp only [htarget, hstep]
  rfl

theorem stepTimeout_of_entry (hlo : 1 ≤ s.pwr.target) (hhi : s.pwr.target ≤ 3) (hstep : 3 ≤ s.pwr.step) :
    stepTimeout s = enterRefuse s.pwr.step s.pwr.step 5 0xFFFF s :=
  if_neg (by simp only [Bool.or_eq_true, beq_iff_eq, decide_eq_true_eq]; omega)

/-- The host's chip select wakes the device anywhere but in OFF. -/
theorem wakeBall_of_hcs (h : s.pwr.state ≠ 4) : wakeBall true s = wakeBy 3 s := if_neg (by simpa [when] using h)

theorem timerWake_of_armed (h : s.bit Reg.AON_WAKE_CFG 5 = true) :
    timerWake s =
      wakeBy 1 (s.advanceTo (ns16 (Int.ofNat ((s.rd Reg.AON_TIMER_HI).toNat * 2 ^ 32 + (s.rd Reg.AON_TIMER_LO).toNat)))) := if_pos h

theorem thawStep_of_last {t : State} (h : s.pwr.thaw = 6)
    (ht : t = s.advanceTo (ns16 (Int.ofNat (s.pwr.since + thawAt (s.pwr.state == 3) 6 * 1000)))) : thawStep s = thawEnd (thawFinish 6 t) := by
  unfold thawStep
  simp only [h, ← ht]
  rfl

theorem thawStep_of_inner {k : Nat} {t : State} (h : s.pwr.thaw = k) (hpos : 1 ≤ k) (hinner : k ≠ 6)
    (ht : t = thawFinish k (s.advanceTo (ns16 (Int.ofNat (s.pwr.since + thawAt (s.pwr.state == 3) k * 1000)))))
    (hnext : (k == 2 && t.pwr.state == 2) = false) :
    thawStep s = thawBegin (k + 1) (pmuStep (k + 1) (modPwr (fun p => { p with thaw := k + 1 }) t)) := by
  unfold thawStep
  dsimp only
  rw [h, if_neg (by simp only [beq_iff_eq]; omega), ← ht, if_neg (by simpa using hinner), hnext]
  rfl

/-! ### Resets and supplies (R426, R428, R440) -/

/-- A device that is neither off nor shut down takes a reset at once, unless the prewarn comparator stands tripped. -/
theorem resetReq_of_free {cold : Bool} {cause : Nat} (hshut : s.pwr.shut = false) (hvin : s.pwr.vinLow = false) (hstate : s.pwr.state ≠ 4)
    (htrip : s.bit Reg.HK_STATUS 1 = false) : resetReq cold cause s = resetNow cold cause s :=
  (if_neg (by simp [hshut, hvin, hstate])).trans (if_neg (ne_true_of_eq_false htrip))

theorem porEdge_of_rise {k : Nat} (h : s.pwr.vinLow = true) :
    porEdge true k s =
      (let t := (resetNow true 1 ((modPwr (fun p => { p with vinLow := false }) s).wr Reg.PMU_STRAPS
        (BitVec.ofNat 32 (if s.pins.lost.testBit 0 = true then 0 else k)))).wb Reg.AON_STATUS 1 true
      modPwr (fun p => { p with inReset := p.resetLow }) { t with hlt := { t.hlt with vinUnder := false } }) :=
  (if_pos rfl).trans (if_neg (by simp [h]))

theorem resetPin_of_low {t : State} (ht : t = modPwr (fun p => { p with resetLow := true }) s) (hshut : t.pwr.shut = false)
    (hvin : t.pwr.vinLow = false) (hstate : t.pwr.state ≠ 4) (htrip : t.bit Reg.HK_STATUS 1 = false) :
    resetPin true s = aonStart (modPwr (fun p => { p with inReset := true }) (resetNow true 2 t)) := by
  unfold resetPin
  dsimp only
  rw [← ht, if_neg (by simp [hshut, hvin, hstate]), if_pos rfl, if_neg (ne_true_of_eq_false htrip)]

theorem resetPin_of_high {t : State} (ht : t = modPwr (fun p => { p with resetLow := false }) s) (hshut : t.pwr.shut = false)
    (hvin : t.pwr.vinLow = false) (hstate : t.pwr.state ≠ 4) :
    resetPin false s = if t.pwr.inReset = true then modPwr (fun p => { p with inReset := false }) (aonLoad t) else t := by
  unfold resetPin
  dsimp only
  rw [← ht, if_neg (by simp [hshut, hvin, hstate]), if_neg Bool.false_ne_true]
  rfl

theorem vioLoss_of_supplied {b : Nat} (h : s.pins.lost.testBit b = false) :
    vioLoss b s =
      (({ s with pins := { s.pins with lost := s.pins.lost + 2 ^ b } } : State).wb Reg.GPIO_BANK b false).count Reg.GPIO_CNT_BANK_LOSS := by
  unfold vioLoss
  simp only [if_neg (ne_true_of_eq_false h)]

theorem vioReturn_of_lost {b : Nat} {high : Bool} (h : s.pins.lost.testBit b = true) :
    vioReturn b high s =
      (({ s with pins := { s.pins with lost := s.pins.lost - 2 ^ b } } : State).wb Reg.GPIO_BANK b true).wb Reg.GPIO_BANK (2 + b) high := by
  unfold vioReturn
  simp only [if_pos h]

/-! ### Start-up (R429 to R432) -/

section boot
variable {x y : Bool} (hreset : s.pwr.inReset = false) (hstage : stage s < 3)
include hreset hstage

theorem bootVerify_of_none (h : bootBank s x y = none) : bootVerify x y s = bootStage 1 s := by
  unfold bootVerify
  rw [if_neg (by simp only [hreset, Bool.false_or, decide_eq_true_eq]; omega), h]

/-- After a warm reset the bank boots with nothing loaded from what was saved. -/
theorem bootVerify_of_warm {b : Nat} {t : State} (h : bootBank s x y = some b)
    (ht : t = ((s.wf Reg.FW_STATE 0 1 b).wr Reg.FW_GEN (BitVec.ofNat 32 (fwRec s b).gen)).wr Reg.FW_VERSION (Config.fwVersion (fwRec s b).gen))
    (hwarm : t.bit Reg.PMU_RESET_CAUSE 4 = true) :
    bootVerify x y s = (bootStage 3 t).event 0x0010 1 0 clsDevice 0 [t.fd Reg.PMU_RESET_CAUSE 0 4] := by
  unfold bootVerify
  rw [if_neg (by simp only [hreset, Bool.false_or, decide_eq_true_eq]; omega), h]
  dsimp only
  rw [← ht, hwarm]
  rfl

end boot

theorem lightStart_of_strap (hstage : stage s = 3) (hstrap : (bootStage 4 s).bit Reg.PMU_STRAPS 0 = true) :
    lightStart s = forEach (List.range 32) (linkEn · true) (bootStage 4 s) := by
  unfold lightStart
  rw [if_neg (by simp [hstage])]
  dsimp only
  rw [if_pos hstrap]

theorem dramReady_of_waiting {good : Bool} (hlo : 4 ≤ stage s) (hhi : stage s < 7) (hfail : s.bit Reg.PMU_STATE 13 = false) :
    dramReady good s = if good = true then
        applyAccept { lo := 0, hi := 255, tables := 3, source := 1 }
          (vfSuspShow (seedMap (mapWrite (loadVf (bootStage 7 (modPwr (fun p => { p with dramReady := true }) s))))))
      else (s.wb Reg.PMU_STATE 13 true).event 0x0013 1 2 clsDevice 0 [1] :=
  if_neg (by simp only [hfail, Bool.or_false, decide_eq_true_eq]; omega)

theorem startupReady_of_last (h : stage s = 7) : startupReady s = bootStage 8 s := if_pos (by simp [h])

/-! ### Firmware updates (R336, R337) -/

theorem fwResume_of_paused (h : mbPaused s = true) :
    fwResume s = forEach (List.range 8) (fun n t => mbRefill n (releaseHeld n t))
      (completeOps 0x1104 (fun _ => true) St.ok (leBytes 4 (s.rd Reg.FW_VERSION).toNat) (s.wb Reg.MBX_STATUS 0 false)) := if_neg (by simp [h])

theorem fwConfirm_of_trial {t : State} (h : fwUpdate s = 5) (ht : t = setFwRec (fwActive s) { fwRec s (fwActive s) with st := 2 } s) :
    fwConfirm s = setUpdate 0 { t with fw := { t.fw with owner := none, size := 0 } } := by
  subst ht
  exact if_neg (by simp [h])

theorem fwTimeout_of_update (hlo : 1 ≤ fwUpdate s) (hhi : fwUpdate s ≤ 3) : fwTimeout s = fwAbandon s := if_pos (decide_eq_true ⟨hlo, hhi⟩)

theorem verifyDone_of_good (h : fwUpdate s = 2) : verifyDone true s = completeOps 0x1103 (fun _ => true) St.ok [] (setUpdate 3 s) :=
  if_neg (by simp [h])

/-! ### Stream groups and lanes (R98, R110, R311) -/

section
variable {n : Nat} {f : List Byte} {eop : Bool}

theorem badStreamPacket_of_not_taken (h : strTakes s n = false) : badStreamPacket n f eop s = s := if_neg (ne_true_of_eq_false h)

theorem badStreamPacket_of_damaged (h : strTakes s n = true) (hf : strFault f eop = 1) :
    badStreamPacket n f eop s = s.count (Reg.SDS_STR_CNT_CRC n) := by
  unfold badStreamPacket
  rw [if_pos h, hf]
  rfl

theorem badStreamPacket_of_reserved (h : strTakes s n = true) (hf : strFault f eop = 2) :
    badStreamPacket n f eop s = s.count (Reg.SDS_STR_CNT_SEQ_ERR n) := by
  unfold badStreamPacket
  rw [if_pos h, hf]
  rfl

theorem badStreamPacket_of_good (hf : strFault f eop = 0) : badStreamPacket n f eop s = s := by
  unfold badStreamPacket
  rw [hf]
  exact ite_self s

end

theorem streamFinish_of_sending {n : Nat} {t : State} (h : (s.str n).sending = true)
    (ht : t = s.emit (.stream n (strFrame 3 (s.str n).sfn (leBytes 2 (s.str n).height ++ leBytes 2 0 ++ leBytes 4 s.wrapNs.toNat)))) :
    streamFinish n s =
      (forEach (strLaneList t n) (fun l u => if maySleep u l = true then txSleep l true u else u) t).modStr n fun x =>
        { x with sending := false } := by
  subst ht
  exact if_neg (by simp [h])

theorem prbsBits_of_other {l : Nat} {bits : List Bool} (h : laneStage s l ≠ 7) : prbsBits l bits s = s := if_pos (by simpa using h)

/-- In TEST the bits of the generator and of the line reach the checker and the balls as the loop and the inversions say. -/
theorem prbsBits_of_test {l n : Nat} {c : Word} {x g rx tx : List Bool} {t : State} (h : laneStage s l = 7) (hlen : x.length = n)
    (hc : c = s.rd (Reg.SDS_LANE_CTRL l)) (hg : g = (prbsGenerate s l n).1)
    (hrx : rx = (if fld c 1 2 = 1 then g.map (· != c.getLsbD 7) else x).map (· != c.getLsbD 8))
    (htx : tx = if fld c 1 2 = 1 then [] else if fld c 1 2 = 3 then rx.map (· != c.getLsbD 7) else g.map (· != c.getLsbD 7))
    (ht : t = modLane l (fun y => { y with gen := (prbsGenerate s l n).2 }) s) :
    prbsBits l x s =
      (let u := if (!tx.isEmpty) = true then t.emit (.laneBits l tx) else t
      if fld c 5 2 = 0 then u else forEach rx (prbsBit l (fld c 5 2)) u) := by
  subst hlen
  unfold prbsBits
  dsimp only
  rw [if_neg (by simp [h]), ← hc]
  simp only [beq_iff_eq, ← hg, ← hrx, ← htx, ← ht]
  rfl

end

/-- Settles O56: each event is in the case that the hypotheses of its clause select. -/
theorem powerHousekeepingResetAndBootEventsTakeEffect : Obligations.PowerHousekeepingResetAndBootEventsTakeEffect := by
  unfold Obligations.PowerHousekeepingResetAndBootEventsTakeEffect
  refine ⟨?slotVoltage, ?slotDie, ?slotThermistor, ?round, ?run, ?tripDown, ?tripUp, ?release, ?releaseHeld, ?shutdown, ?stepIdle, ?stepSleep,
    ?stepTimeout, ?wakeHcs, ?wakeTimer, ?wakeTemp, ?thawLast, ?thawInner, ?under, ?underEnd, ?overvoltage, ?porRise, ?porFall, ?resetLow, ?resetHigh,
    ?watchdog, ?lockstep, ?clockFail, ?aonLoss, ?bankLoss, ?bankReturn, ?crystal, ?bootNone, ?bootWarm, ?light, ?dramFails, ?dramReady, ?resume,
    ?confirm, ?abandon, ?verified, ?ready, ?packetDamaged, ?packetReserved, ?packetNone, ?streamFinish, ?prbsTest, ?prbsOther⟩
  case slotVoltage =>
    intro ch v s hon hrole hlo hhi
    rw [exec_hkSlotEnd, slotEnd_of_voltage hon hrole hlo hhi]
  case slotDie =>
    intro ch v s hon hrole hlo hhi
    rw [exec_hkSlotEnd, slotEnd_of_die hon hrole hlo hhi]
  case slotThermistor =>
    intro ch c s f hon hrole hlo hhi hf
    rw [exec_hkSlotEnd, slotEnd_of_thermistor hon hrole hlo hhi hf]
  case round =>
    rintro z s hs l t hon rfl rfl
    rw [exec_hkRoundEnd, ← hs, roundEnd_of_on hon]
  case run =>
    rintro u l e m b s t hrun rfl
    rw [exec_calibrationRunEnd, runEnd_of_running hrun]
  case tripDown =>
    intro s h
    rw [exec_prewarnTrip, prewarn_of_down h]
  case tripUp =>
    intro s t u v hreset hstopped ht hu hv hrun
    rw [exec_prewarnTrip, prewarn_of_up hreset hstopped ht hu hv hrun]
    rfl
  case release =>
    intro s h
    rw [exec_prewarnRelease, prewarnEnd_of_none h]
  case releaseHeld =>
    intro s k c h
    rw [exec_prewarnRelease, prewarnEnd_of_held h]
  case shutdown =>
    intro s
    rw [exec_shutdown, shutdown]
  case stepIdle =>
    intro s htarget hstep
    rw [exec_stopStepDone, stepDone_of_idle htarget hstep]
  case stepSleep =>
    intro s htarget hstep
    rw [exec_stopStepDone, stepDone_of_sleep htarget hstep]
  case stepTimeout =>
    intro s hlo hhi hstep
    rw [exec_stopStepTimeout, stepTimeout_of_entry hlo hhi hstep]
  case wakeHcs =>
    intro s h
    rw [exec_wake, wakeBall_of_hcs h]
  case wakeTimer =>
    intro s h
    rw [exec_aonTimerWake, timerWake_of_armed h]
  case wakeTemp =>
    exact exec_tempWake
  case thawLast =>
    intro s t h ht
    rw [exec_thawStepEnd, thawStep_of_last h ht]
  case thawInner =>
    intro s k t h hpos hinner ht hnext
    rw [exec_thawStepEnd, thawStep_of_inner h hpos hinner ht hnext]
  case under =>
    rintro mv s t rfl
    rw [exec_vinUndervoltage, vinUnder]
  case underEnd =>
    rintro s t rfl
    rw [exec_vinUndervoltageEnd, vinUnderEnd]
    rfl
  case overvoltage =>
    rintro mv s t rfl
    rw [exec_vinOvervoltage, vinOver]
    rfl
  case porRise =>
    rintro k s t h rfl
    rw [exec_por, porEdge_of_rise h]
  case porFall =>
    intro k s
    rw [exec_por, porEdge]
    rfl
  case resetLow =>
    intro s t ht hshut hvin hstate htrip
    rw [exec_resetN, resetPin_of_low ht hshut hvin hstate htrip]
  case resetHigh =>
    intro s t ht hshut hvin hstate
    rw [exec_resetN, resetPin_of_high ht hshut hvin hstate]
  case watchdog =>
    intro s hshut hvin hstate htrip
    rw [exec_watchdog, resetReq_of_free hshut hvin hstate htrip]
  case lockstep =>
    rintro s t rfl hshut hvin hstate htrip
    rw [exec_lockstep, resetReq_of_free hshut hvin hstate htrip]
  case clockFail =>
    rintro s t rfl hshut hvin hstate htrip
    rw [exec_clockFail, resetReq_of_free hshut hvin hstate htrip]
  case aonLoss =>
    rintro s t rfl
    rw [exec_aonLoss, aonLoss]
  case bankLoss =>
    rintro b s t h rfl
    rw [exec_vioLoss, vioLoss_of_supplied h]
  case bankReturn =>
    rintro b high s t h rfl
    rw [exec_vioReturn, vioReturn_of_lost h]
  case crystal =>
    exact exec_xtalOk
  case bootNone =>
    intro x y s hreset hstage h
    rw [exec_bootRomVerify, bootVerify_of_none hreset hstage h]
  case bootWarm =>
    intro x y s b t hreset hstage h ht hwarm
    rw [exec_bootRomVerify, bootVerify_of_warm hreset hstage h ht hwarm]
  case light =>
    intro s hstage hstrap
    rw [exec_lightStart, lightStart_of_strap hstage hstrap]
  case dramFails =>
    intro s hlo hhi hfail
    rw [exec_dramReady, dramReady_of_waiting hlo hhi hfail, if_neg Bool.false_ne_true]
  case dramReady =>
    rintro s t hlo hhi hfail rfl
    rw [exec_dramReady, dramReady_of_waiting hlo hhi hfail, if_pos rfl]
  case resume =>
    intro s h
    rw [exec_fwResume, fwResume_of_paused h]
  case confirm =>
    intro s t h ht
    rw [exec_fwConfirm, fwConfirm_of_trial h ht]
  case abandon =>
    intro s hlo hhi
    rw [exec_fwUpdateTimeout, fwTimeout_of_update hlo hhi]
  case verified =>
    intro s h
    rw [exec_fwVerifyDone, verifyDone_of_good h]
  case ready =>
    intro s h
    rw [exec_startupReady, startupReady_of_last h]
  case packetDamaged =>
    intro n x s h hf
    rw [exec_badStreamPacket, badStreamPacket_of_damaged h hf]
  case packetReserved =>
    intro n x s h hf
    rw [exec_badStreamPacket, badStreamPacket_of_reserved h hf]
  case packetNone =>
    intro n x s h
    rw [exec_badStreamPacket, h.elim badStreamPacket_of_not_taken badStreamPacket_of_good]
  case streamFinish =>
    intro n s t h ht
    rw [exec_streamSendFinish, streamFinish_of_sending h ht]
  case prbsTest =>
    intro l n b s c x g rx tx t h hc hx hg hrx htx ht
    have hlen : x.length = n := by rw [hx, List.length_map, List.length_range]
    rw [exec_prbsLock, ← hx, prbsBits_of_test h hlen hc hg hrx htx ht]
  case prbsOther =>
    intro l n b s h
    rw [exec_prbsLock, prbsBits_of_other h]

end Sys2Proof.Machine
end
